-- ==== Sys2Proof/Word.lean ====
section
/-! DEFINITION. Words and the fixed counts of q from which every time of the part is built (R6, R41, R52, R58). -/

namespace Sys2Proof

/-- One byte of a buffer, of the flash or of a message. -/
abbrev Byte := BitVec 8

/-- The data bits of one vector-memory word (R131 to R134, R209). -/
abbrev VWord := BitVec 176

/-- q in one second (R52). -/
abbrev qSecond : Nat := 10485760000000
/-- q in one frame (R58). -/
abbrev qFrame : Nat := 8388608
/-- q in one coarse cycle (R59). -/
abbrev qCoarse : Nat := 8192
/-- q in one core cycle. -/
abbrev qCore : Nat := 16384
/-- Frames in one second (R12). -/
abbrev framesPerSecond : Nat := 1250000
/-- The least time from a trigger to its first edge, in q (R21). -/
abbrev trigLatency : Nat := 262144
/-- An unknown bound (R97). -/
abbrev unknownBound : Nat := 0xFFFFFFFF

end Sys2Proof
end

