-- ==== Sys2Proof/Syntax.lean ====
section
/-! DEFINITION. The commands of the block: one constructor of Instr for each row of spec/opcode_table.json, with the operands its
rule names. What the part measures or receives from outside (timestamps, residuals, messages, who asks) is an operand. -/

namespace Sys2Proof

/-- The party on whose behalf a request is made: the fields of an owner identity (R523). -/
structure Who where
  transport  : Nat
  originGen  : Nat
  originAddr : Nat
  principal  : Nat
  bootEpoch  : Nat
deriving DecidableEq, Repr, Inhabited

/-- What the monitor of a pad records in a frame (R314, R318): differential or single-ended swing and common mode in mV, highest driver
current in 0.1 mA, the highest voltage of a pin driven high and the lowest of a pin driven low in mV, and whether the driver met its current
limit. -/
structure PadMon where
  swing : Int
  vcm   : Int
  drive : Nat
  high  : Option Nat
  low   : Option Nat
  limit : Bool
deriving DecidableEq, Repr, Inhabited

/-- What the measuring units latch at a frame boundary: bank sensors in 0.01 °C, supplies in mV, power of the twelve rails in mW,
the Spindle's tuning headroom, CAL_REF as HR sees it (R329, R432, R631, R632, R641, R654), by bank the single-bit errors of arbiter
and scheduler state corrected in the frame (R282), and by channel what the pad monitors record (R314). -/
structure Latch where
  temps      : List Int
  vdd        : Nat
  vdda       : Nat
  vddio      : Nat
  vddh       : Nat
  vddo       : List Nat
  power      : List Nat
  spnMargin  : Nat
  refPresent : Bool
  refFreqOff : Int
  refPhase   : Int
  eccFixed   : List Nat := []
  pads       : List (Nat × PadMon) := []
deriving DecidableEq, Repr, Inhabited

/-- The blocks that BLOCK_RESET can reset (R571). -/
inductive Blk where
  | input | ut | sequencer | calibration | link | stackPort
deriving DecidableEq, Repr

/-- How far an error in collector state reaches (R577). -/
inductive EccError where
  | singleBit | oneCopy | bothCopies
deriving DecidableEq, Repr

/-- How a PCI Express completion ends (R243). -/
inductive CplStatus where
  | good | poisoned | unsupported | aborted
deriving DecidableEq, Repr

/-- Why the placement mover moves a page (R222). -/
inductive MoveReason where
  | errors | pin | balance
deriving DecidableEq, Repr

/-- What the read of a word finds (R209, R250, R251). -/
inductive ReadEcc where
  | clean | corrected | uncorrectable
deriving DecidableEq, Repr

/-- A request present at a bank arbiter in a core cycle: requester; `due` marks a prefetch of a due word, `withdrawn` a requester
that withdraws if it is granted; what its read finds if it is granted (R250, R251, R259, R263). -/
structure BankReq where
  requester : Nat
  due       : Bool
  withdrawn : Bool
  ecc       : ReadEcc
deriving DecidableEq, Repr

/-- One sample block of the Calliper: sample count, mean in q/16, sample standard deviation in 0.1 ps rounded up, largest departure
from the median in 0.1 ps, edges seen against edges sent, whether the amplitude monitor of the tap found a low swing, and the swing at the
pad in mV (R433). -/
structure CalBlock where
  n         : Nat
  mean      : Int
  sigma     : Nat
  departure : Nat
  seen      : Nat
  sent      : Nat
  lowSwing  : Bool
  swing     : Nat := 0
deriving DecidableEq, Repr, Inhabited

/-- A Marking message (R474), `good` its code, version and CRC check of R480. -/
structure MarkMsg where
  good      : Bool
  turn      : Nat
  mmode     : Nat
  aligned   : Bool
  coarse    : Bool
  isLocal   : Bool
  stepped   : Bool
  fn        : Nat
  bound     : Nat
  delay     : Nat
  utcOffset : Int
  leap      : Nat
  pkind     : Nat
  tdepth    : Nat
  payload   : Nat
deriving DecidableEq, Repr, Inhabited

/-- A hello (R493): sender's unique ID, link, priority, address and generation, its root view, and the peer it sees. -/
structure Hello where
  uid      : Nat
  link     : Nat
  priority : Nat
  addr     : Nat
  addrGen  : Nat
  rootPri  : Nat
  rootUid  : Nat
  rootDist : Nat
  rootSeq  : Nat
  seesUid  : Nat
  seesLink : Nat
deriving DecidableEq, Repr, Inhabited

/-- A TIME frame: what its payload of R501 says, and of a received one the arrival time and the frequency of the peer's timescale against
the device's own that the link's recovered-clock phase tracking measures, in 10⁻¹⁸ (R502). -/
structure TimeFrame where
  seq         : Nat
  rxSeq       : Nat
  txPrev      : Nat
  rxTime      : Nat
  bound       : Nat
  tdepth      : Nat
  viaYou      : Bool
  aligned     : Bool
  calValid    : Bool
  calRefPhase : Int
  arrival     : Nat
  ratio       : Int
deriving DecidableEq, Repr, Inhabited

/-- One route of a ROUTE frame: address, hop count, generation (R498). -/
structure RouteRow where
  addr : Nat
  hops : Nat
  gen  : Nat
deriving DecidableEq, Repr

/-- A LEASE frame (R496): request or grant, by unique ID; a grant carries the lease in s. -/
structure LeaseFrame where
  isGrant : Bool
  uid     : Nat
  pin     : Nat
  addr    : Nat
  gen     : Nat
  refused : Bool
  lease   : Nat
deriving DecidableEq, Repr, Inhabited

/-- The operations of WOP (R543). -/
inductive WopOp where
  | read (idx sub : Nat) (staged : Bool)
  | write (idx sub v : Nat)
  | readRow (idx sub row : Nat)
  | writeRow (idx sub row v : Nat)
  | readBytes (idx sub off cnt : Nat)
  | openS (nonce lease : Nat)
  | close
  | commit (fn : Nat)
  | discard
  | renew
deriving DecidableEq, Repr

/-- A WOP request (R541): session, generations, flags and operations. -/
structure WopMsg where
  session     : Nat
  sessGen     : Nat
  txn         : Nat
  txnGen      : Nat
  stopOnError : Bool
  ops         : List WopOp
deriving DecidableEq, Repr, Inhabited

/-- A MGMT or EVENT frame: the header fields that matter to its delivery (R494), its residence in the device up to departure in q
(R499), and the WOP message it carries: channel, COUNTER, sealed bytes, boot epoch and the message they open to (R509, R546). -/
structure MgmtFrame where
  event    : Bool
  response : Bool
  dst      : Nat
  dstGen   : Nat
  src      : Nat
  srcGen   : Nat
  age      : Nat
  hops     : Nat
  xid      : Nat
  xidGen   : Nat
  stay     : Nat
  chan     : Nat
  counter  : Nat
  isSealed : Bool
  shake    : Bool
  bytes    : List Byte
  epoch    : Nat
  body     : WopMsg
deriving DecidableEq, Repr, Inhabited

/-- What arrives over a Tenon link: whether the CRC of its frame holds (R494), and what the frame carries. -/
structure Rx (α : Type) where
  crcOk : Bool
  frame : α
deriving DecidableEq, Repr, Inhabited

/-- A received TIME frame (R502): its payload, its arrival in q and the frequency ratio measured on the link, in 10⁻¹⁸. -/
structure TimeRx where
  payload : List Byte
  arrival : Nat
  ratio   : Int
deriving DecidableEq, Repr, Inhabited

/-- A Marking message as the follower hears it (R473, R474): its 256 bits, and whether their code had no violation. -/
structure MarkRx where
  word  : Nat
  clean : Bool
deriving DecidableEq, Repr, Inhabited

/-- A fetched WOP descriptor (R615): its eight words, and the bytes of the request that it names. -/
structure WopFetch where
  desc : List Nat
  req  : List Byte
deriving DecidableEq, Repr, Inhabited

/-- The commands. -/
inductive Instr where
  /-- FRAME_BOUNDARY (R26): the next frame begins. -/
  | frameBoundary (m : Latch)
  /-- REACTION_TAKE_EFFECT (R568). -/
  | reactionTakeEffect
  /-- BLOCK_RESET (R571) of one instance, ordered by a source. -/
  | blockReset (b : Blk) (inst src : Nat)
  /-- BLOCK_RESET_SETTLE_END (R571). -/
  | blockResetSettleEnd (b : Blk) (inst : Nat)
  /-- SEVERE_END (R560). -/
  | severeEnd (src : Nat)
  /-- FORCE_HOLDOVER_END (R567). -/
  | forceHoldoverEnd (src : Nat)
  /-- COLLECTOR_ECC_ERROR (R577) in the row of a source. -/
  | collectorEccError (row : Nat) (e : EccError)
  /-- FC_CLEAR (R566). -/
  | fcClear (who : Who) (arg : Nat)
  /-- FC_DEGRADE_CLEAR (R579). -/
  | fcDegradeClear (who : Who)
  /-- SESSION_COMMIT_CHECK (R531) of a session. -/
  | sessionCommitCheck (k : Nat)
  /-- SESSION_COMMIT_APPLY (R531) of a session. -/
  | sessionCommitApply (k : Nat)
  /-- MODE_TRANSITION (R40). -/
  | modeTransition
  /-- MODE_REQUEST (R590). -/
  | modeRequest (who : Who) (target : Nat)
  /-- PLACEMENT_PASS (R85); the lanes that fail their residue check in this pass, as a bitmap (R104). -/
  | placementPass (failing : Nat)
  /-- EDGE_EMIT (R95) of the next entry of a core's queue for the frame being emitted. -/
  | edgeEmit (core : Nat)
  /-- INPUT_EDGE (R320) at an input, at a linear time, before polarity. -/
  | inputEdge (ref t : Nat) (rising : Bool)
  /-- TRIGGER_EDGE_ISSUE (R82) of a channel. -/
  | triggerEdgeIssue (c : Nat)
  /-- INDEX_PLATE_FAULT (R127): fault bits of a core. -/
  | indexPlateFault (core faultBits : Nat)
  /-- SPINDLE_LOCK (R330). -/
  | spindleLock
  /-- SPINDLE_LOSS_OF_LOCK (R330) at an offset of q into the frame. -/
  | spindleLossOfLock (q : Nat)
  /-- SPINDLE_SWITCH_BACK (R331). -/
  | spindleSwitchBack
  /-- SPN_MARGIN_LOW (R329). -/
  | spnMarginLow
  /-- BYP_LOCK (R334). -/
  | bypLock
  /-- BYP_LOSS_OF_LOCK (R337). -/
  | bypLossOfLock
  /-- LOSC_MISSING (R332). -/
  | loscMissing
  /-- LOSC_PRESENT (R332). -/
  | loscPresent
  /-- UT_LOCK (R351). -/
  | utLock (u : Nat)
  /-- UT_LOCK_TIMEOUT (R351). -/
  | utLockTimeout (u : Nat)
  /-- UT_SETTLE_END (R350). -/
  | utSettleEnd (u : Nat)
  /-- UT_RESTART (R340). -/
  | utRestart (u : Nat)
  /-- UT_LOSS_OF_LOCK (R358). -/
  | utLossOfLock (u : Nat)
  /-- CLOCK_GATE_CLOSE (R348). -/
  | clockGateClose (c : Nat)
  /-- CLOCK_GATE_OPEN (R348). -/
  | clockGateOpen (c : Nat)
  /-- UT_BAND_MEASURE (R342): the code, and the range found in kHz. -/
  | utBandMeasure (who : Who) (u code fLo fHi : Nat)
  /-- SLOT_QUAL_EXPIRY (R376). -/
  | slotQualExpiry (n : Nat)
  /-- SLOT_WTR_EXPIRY (R376). -/
  | slotWtrExpiry (n : Nat)
  /-- SLOT_NO_SIGNAL (R373). -/
  | slotNoSignal (n : Nat)
  /-- SLOT_SAMPLE_TIMEOUT (R373). -/
  | slotSampleTimeout (n : Nat)
  /-- DISAGREEMENT_END (R380) between two slots. -/
  | disagreementEnd (a b : Nat)
  /-- SELECTION_CHANGE_EFFECT (R378). -/
  | selectionChangeEffect
  /-- FIRST_ALIGNMENT (R387). -/
  | firstAlignment
  /-- SLOT_LABEL (R372). -/
  | slotLabel (who : Who) (n arg : Nat)
  /-- SLOT_CLEAR_WTR (R377). -/
  | slotClearWtr (who : Who) (n : Nat)
  /-- HT_SAMPLE (R393). -/
  | htSample (who : Who) (n arg : Nat)
  /-- SR_REJECT_CLEAR (R409). -/
  | srRejectClear (who : Who) (n : Nat)
  /-- HOLDOVER_STEER (R403). -/
  | holdoverSteer
  /-- HOLD_MAX_EXPIRY (R404). -/
  | holdMaxExpiry
  /-- LEARNING_SAMPLE (R398): the mean, in units of 1e-18, of an ending second of which no frame had a learning source. -/
  | learningSample (mean : Int)
  /-- EPOCH_RECORD_BUILD (R422). -/
  | epochRecordBuild
  /-- EPOCH_RECORD_EMIT (R424). -/
  | epochRecordEmit
  /-- EPOCH_RECORD_SKIPPED (R425). -/
  | epochRecordSkipped
  /-- LEAP_EPOCH_REACHED (R46). -/
  | leapEpochReached
  /-- TS_STEP (R51). -/
  | tsStep (who : Who) (arg : Nat)
  /-- TS_STEP_EFFECT (R600). -/
  | tsStepEffect
  /-- PREFETCH_DEADLINE (R181) of a sequencer. -/
  | prefetchDeadline (s : Nat)
  /-- ITERATION_BOUNDARY (R182). -/
  | iterationBoundary (s : Nat)
  /-- VECTOR_START (R129). -/
  | vectorStart (s : Nat)
  /-- SEQ_START_REACHED (R199). -/
  | seqStartReached (s : Nat)
  /-- COMPARE_OUTCOME (R151). -/
  | compareOutcome (s : Nat)
  /-- SQ_LOCK_ACQUIRE (R188). -/
  | sqLockAcquire (who : Who) (s : Nat)
  /-- SQ_LOCK_RELEASE (R188). -/
  | sqLockRelease (who : Who) (s : Nat)
  /-- SQ_LOCK_LEASE_EXPIRY (R189). -/
  | sqLockLeaseExpiry (s : Nat)
  /-- SQ_JUMP (R192). -/
  | sqJump (who : Who) (s arg : Nat)
  /-- SQ_STOP (R196). -/
  | sqStop (who : Who) (s arg : Nat)
  /-- SQ_START (R198). -/
  | sqStart (who : Who) (arg : Nat)
  /-- SEG_FREE (R180). -/
  | segFree (who : Who) (e : Nat)
  /-- SEG_FREE_EFFECT (R180). -/
  | segFreeEffect (e : Nat)
  /-- RETIRE_INTERVAL_EXPIRY (R247) of an entry. -/
  | retireIntervalExpiry (e : Nat)
  /-- CMP_LOG_RESUME (R153). -/
  | cmpLogResume (who : Who) (s : Nat)
  /-- CMP_LOG_TAIL_WRITE (R154). -/
  | cmpLogTailWrite (who : Who) (s v : Nat)
  /-- BANK_ARBITRATION (R264): one core cycle of a bank with the requests present. -/
  | bankArbitration (b : Nat) (reqs : List BankReq)
  /-- PLAYBACK_PARK_ON_RETIRE (R252). -/
  | playbackParkOnRetire (s : Nat)
  /-- PAGE_ALLOCATE_DEFERRED (R251) of segment page j of an entry. -/
  | pageAllocateDeferred (e j : Nat)
  /-- ARB_COMMIT (R266). -/
  | arbCommit (who : Who)
  /-- ARB_URG_WRITE (R267). -/
  | arbUrgWrite (who : Who) (r v : Nat)
  /-- ARB_STATE_ERROR (R282). -/
  | arbStateError (b : Nat)
  /-- PAGE_POST (R212). -/
  | pagePost (who : Who) (arg : Nat)
  /-- PAGE_WRITE_COMPLETE (R213) of a physical page. -/
  | pageWriteComplete (ppn : Nat)
  /-- PAGE_READ_BY_ENTRY (R215). -/
  | pageReadByEntry (who : Who) (arg : Nat)
  /-- PAGE_READ_BY_PPN (R215). -/
  | pageReadByPpn (who : Who) (arg : Nat)
  /-- PAGE_READ_COMPLETE (R215) of a read slot; the words found uncorrectable. -/
  | pageReadComplete (slot : Nat) (bad : List Nat)
  /-- MEM_SELFTEST (R255). -/
  | memSelftest (who : Who) (mask : Nat)
  /-- SELFTEST_PAGE_DONE (R255). -/
  | selftestPageDone (ppn : Nat) (pass : Bool)
  /-- PAGE_MOVE_START (R222). -/
  | pageMoveStart (src dst : Nat) (why : MoveReason)
  /-- PAGE_MOVE_COMPLETE (R223). -/
  | pageMoveComplete
  /-- SCRUB_PAGE_DONE (R253). -/
  | scrubPageDone (ppn : Nat)
  /-- REFILL_START (R234). -/
  | refillStart (s : Nat)
  /-- DMA_COMPLETION (R243): request tag, how it ends, the data and whether it is the last. -/
  | dmaCompletion (tag : Nat) (st : CplStatus) (data : List Byte) (last : Bool)
  /-- DMA_COMPLETION_TIMEOUT (R243). -/
  | dmaCompletionTimeout (tag : Nat)
  /-- REFILL_RETRY_EXPIRY (R245). -/
  | refillRetryExpiry (ppn : Nat)
  /-- SEG_PRODUCED_WRITE (R232). -/
  | segProducedWrite (who : Who) (e v : Nat)
  /-- PAD_FAULT_DECLARE (R314): detector bit of a pad. -/
  | padFaultDeclare (c det : Nat)
  /-- PAD_PROBE (R315). -/
  | padProbe (c : Nat) (clean : Bool)
  /-- PAD_DRIVER_RESUME (R315). -/
  | padDriverResume (c : Nat)
  /-- PAD_AUTO_INVERT (R317). -/
  | padAutoInvert (c : Nat)
  /-- PAD_SETTLE_TIMEOUT (R122). -/
  | padSettleTimeout (c : Nat)
  /-- PAD_DRIVER_TURN_ON (R645). -/
  | padDriverTurnOn (c : Nat)
  /-- VDDO_CLASS_CHANGE (R641). -/
  | vddoClassChange (k : Nat)
  /-- INPUT_DIAG_DECLARE (R321): bit of IN_DIAG, declared or cleared. -/
  | inputDiagDeclare (n det : Nat) (declared : Bool)
  /-- INPUT_REVERSED (R322). -/
  | inputReversed (n : Nat)
  /-- INPUT_AUTO_INVERT (R322). -/
  | inputAutoInvert (n : Nat)
  /-- SUPPLY_OUT_OF_RANGE (R558): 0 VDD, 1 VDDA, 2 VDDIO, 3 VDDH. -/
  | supplyOutOfRange (rail : Nat)
  /-- THERMAL_SHUTDOWN (R654). -/
  | thermalShutdown
  /-- THERMAL_RECOVERY (R654). -/
  | thermalRecovery
  /-- SPARE_SWAP_EFFECT (R289) of a bank. -/
  | spareSwapEffect (k : Nat)
  /-- SP_SWAP (R313). -/
  | spSwap (who : Who) (k ch : Nat)
  /-- SP_RETURN (R309). -/
  | spReturn (who : Who) (k : Nat)
  /-- SPARE_SEARCH_FAIL (R308). -/
  | spareSearchFail (k : Nat)
  /-- RETURN_FORCED (R309). -/
  | returnForced (k : Nat)
  /-- CORE_CAL_START (R439). -/
  | coreCalStart (k : Nat)
  /-- CAL_SETTLE_END (R440). -/
  | calSettleEnd (k : Nat)
  /-- CAL_MEASURE_COMPLETE (R441): the residuals of the 512 points in q/16, and the worst of the blocks' plausibility figures. -/
  | calMeasureComplete (k : Nat) (residuals : List Int) (blk : CalBlock)
  /-- CAL_STEPS_DONE (R440). -/
  | calStepsDone (k : Nat)
  /-- CAL_VERIFY_COMPLETE (R445): the largest errors of A and B in q/16. -/
  | calVerifyComplete (k : Nat) (errA errB : Int) (blk : CalBlock)
  /-- CAL_RESTORE_COMPLETE (R447). -/
  | calRestoreComplete (k : Nat)
  /-- CAL_RETRY_EXPIRY (R435). -/
  | calRetryExpiry (core : Nat)
  /-- CAL_PERIOD_EXPIRY (R435). -/
  | calPeriodExpiry (core : Nat)
  /-- CAL_OVERDUE (R449). -/
  | calOverdue (core : Nat)
  /-- CORE_CAL_REQUEST (R436). -/
  | coreCalRequest (who : Who) (core : Nat)
  /-- CAL_ALL (R463). -/
  | calAll (who : Who)
  /-- CALLIPER_SELF_CAL (R430): the scale residuals of the nine heads in 0.1 ps, rounded up. -/
  | calliperSelfCal (residuals : List Nat)
  /-- AUDIT_BLOCK_CLOSE (R451) of a pad. -/
  | auditBlockClose (pad : Nat) (blk : CalBlock)
  /-- ANC_RUN (R454). -/
  | ancRun (who : Who) (arg : Nat)
  /-- ANCHOR_RUN_COMPLETE (R455): the block of e, and the mean sense time less the returned time. -/
  | anchorRunComplete (k : Nat) (blk : CalBlock) (baseline : Int)
  /-- ANCHOR_APPLY (R456). -/
  | anchorApply (k : Nat)
  /-- CAL_STORE (R459). -/
  | calStore (who : Who)
  /-- NVM_STORE_START (R459). -/
  | nvmStoreStart
  /-- NVM_STORE_COMPLETE (R459): whether every record and the marker read back. -/
  | nvmStoreComplete (ok : Bool)
  /-- TABLE_LOAD_COMPLETE (R281) of a core. -/
  | tableLoadComplete (core : Nat)
  /-- VERIFY_SWEEP (R457): for each core the largest error in 0.1 ps, and whether a block failed. -/
  | verifySweep (devs : List (Nat × Nat × Bool))
  /-- VERIFY_SWEEP_SKIPPED (R596). -/
  | verifySweepSkipped
  /-- MARKING_PULSE_SEND (R472). -/
  | markingPulseSend
  /-- MARKING_ALERT_SEND (R476). -/
  | markingAlertSend
  /-- MARKING_MESSAGE_RECEIVE (R482): the message, and the follower's timestamp of its pulse, in q. -/
  | markingMessageReceive (m : MarkRx) (tIn : Nat)
  /-- MARK_ECHO_SEND (R477). -/
  | markEchoSend (tIn : Nat)
  /-- MARK_ECHO_RECEIVE (R478): position, timestamp of the echo, pulse width in bit times; a missing echo is width 0. -/
  | markEchoReceive (p tEcho width : Nat)
  /-- STACK_ALERT_SEEN (R488). -/
  | stackAlertSeen
  /-- STACK_REFERENCE_SWITCH (R481). -/
  | stackReferenceSwitch
  /-- STACK_CLK_MISSING (R484). -/
  | stackClkMissing
  /-- STACK_MSG_TIMEOUT (R484). -/
  | stackMsgTimeout
  /-- TN_BLOCK_LOCK (R493). -/
  | tnBlockLock (k : Nat)
  /-- TN_BLOCK_LOCK_LOSS (R493). -/
  | tnBlockLockLoss (k : Nat)
  /-- TN_HELLO_SEND (R493). -/
  | tnHelloSend (k : Nat)
  /-- TN_HELLO_RECEIVE (R493). -/
  | tnHelloReceive (k : Nat) (h : Rx Hello)
  /-- TN_HELLO_MISS (R493). -/
  | tnHelloMiss (k : Nat)
  /-- TN_TIME_SEND (R501): the instant of departure. -/
  | tnTimeSend (k t : Nat)
  /-- TN_TIME_RECEIVE (R502). -/
  | tnTimeReceive (k : Nat) (f : Rx TimeRx)
  /-- TN_ASYM_CAL (R506): the argument, and the mean in q/16 and the RMS in 0.1 ps that the measurement finds where the link sends no
  TIME frames. -/
  | tnAsymCal (who : Who) (k arg : Nat) (mean : Int) (rms : Nat)
  /-- TN_ROUTE_SEND (R498). -/
  | tnRouteSend
  /-- TN_ROUTE_RECEIVE (R498). -/
  | tnRouteReceive (k : Nat) (rows : Rx (List RouteRow))
  /-- FAB_ROOT_TIMEOUT (R495). -/
  | fabRootTimeout
  /-- TN_LEASE_RECEIVE (R496). -/
  | tnLeaseReceive (k : Nat) (f : Rx LeaseFrame)
  /-- FAB_ADDR_RENEW (R496). -/
  | fabAddrRenew
  /-- FAB_LEASE_EXPIRY (R496) of an address. -/
  | fabLeaseExpiry (addr : Nat)
  /-- TN_MGMT_RECEIVE (R499). -/
  | tnMgmtReceive (k : Nat) (f : Rx MgmtFrame)
  /-- XID_TIMEOUT (R508). -/
  | xidTimeout (xid : Nat)
  /-- OBJECT_WRITE (R517, R536): a BAR0 write of an object without a row of its own: byte offset, number of bytes, value. -/
  | objectWrite (off len v : Nat)
  /-- BAR0_TIME92_READ_LOW (R55). -/
  | bar0Time92ReadLow (idx sub : Nat)
  /-- BAR0_TIME92_WRITE_HIGH (R55): the upper word, at the object whose lower word is s. -/
  | bar0Time92WriteHigh (idx sub v : Nat)
  /-- BAR0_TIME92_WRITE_LOW (R55). -/
  | bar0Time92WriteLow (idx sub v : Nat)
  /-- BAR0_SESSION_WRITE (R537). -/
  | bar0SessionWrite (v : Nat)
  /-- BAR0_OPEN (R525). -/
  | bar0Open (arg : Nat)
  /-- TBL_SEL_WRITE (R540). -/
  | tblSelWrite (v : Nat)
  /-- TBL_PUT (R540). -/
  | tblPut
  /-- SESS_COMMIT (R530). -/
  | sessCommit (who : Who) (k fn : Nat)
  /-- SESS_DISCARD (R554). -/
  | sessDiscard (who : Who) (k : Nat)
  /-- SESS_CLOSE (R528). -/
  | sessClose (who : Who) (k : Nat)
  /-- SESSION_LEASE_EXPIRY (R527). -/
  | sessionLeaseExpiry (k : Nat)
  /-- SESSION_RETIRE_EXPIRY (R528). -/
  | sessionRetireExpiry (k : Nat)
  /-- WOP_MESSAGE (R544): the requester, and the bytes of its message, whose header states the boot epoch (R541). -/
  | wopMessage (who : Who) (bytes : List Byte)
  /-- WOP_READ (R543). -/
  | wopRead (who : Who) (k idx sub : Nat) (staged : Bool)
  /-- WOP_WRITE (R543). -/
  | wopWrite (who : Who) (k idx sub v : Nat)
  /-- WOP_READ_ROW (R543). -/
  | wopReadRow (who : Who) (k idx sub row : Nat)
  /-- WOP_WRITE_ROW (R543). -/
  | wopWriteRow (who : Who) (k idx sub row v : Nat)
  /-- WOP_READ_BYTES (R543). -/
  | wopReadBytes (who : Who) (k idx sub off cnt : Nat)
  /-- WOP_OPEN (R525). -/
  | wopOpen (who : Who) (nonce lease : Nat)
  /-- WOP_CLOSE (R528). -/
  | wopClose (who : Who) (k : Nat)
  /-- WOP_COMMIT (R530). -/
  | wopCommit (who : Who) (k fn : Nat)
  /-- WOP_DISCARD (R543). -/
  | wopDiscard (who : Who) (k : Nat)
  /-- WOP_RENEW (R527). -/
  | wopRenew (who : Who) (k : Nat)
  /-- WOP_HANDSHAKE_HELLO (R548): transport, peer, and the HELLO body. -/
  | wopHandshakeHello (transport peer : Nat) (body : List Byte)
  /-- WOP_HANDSHAKE_FINISH (R548): transport, peer, certificate key hash, and the FINISH body. -/
  | wopHandshakeFinish (transport peer : Nat) (body : List Byte)
  /-- WOP_CHANNEL_IDLE_EXPIRY (R550). -/
  | wopChannelIdleExpiry (ch : Nat)
  /-- ETH_DATAGRAM_RECEIVE (R623): channel, COUNTER, sealed bytes, and the message they open to. -/
  | ethDatagramReceive (ch counter : Nat) (isSealed handshake : Bool) (bytes : List Byte) (bootEpoch : Nat) (m : WopMsg)
  /-- ETH_LINK_DOWN (R633). -/
  | ethLinkDown
  /-- SMB_SELECT (R547); whether the PEC is good. -/
  | smbSelect (idx sub : Nat) (pec : Bool)
  /-- SMB_READ (R547). -/
  | smbRead (pec : Bool)
  /-- QP_SQ_TAIL_WRITE (R616). -/
  | qpSqTailWrite (who : Who) (q v : Nat)
  /-- DESC_WOP (R616). -/
  | descWop (q : Nat) (d : WopFetch)
  /-- DESC_LOAD (R616): the eight words of the descriptor (R615). -/
  | descLoad (q : Nat) (desc : List Nat)
  /-- COMPLETION_POST (R619). -/
  | completionPost (q : Nat)
  /-- QP_CQ_HEAD_WRITE (R619). -/
  | qpCqHeadWrite (who : Who) (q v : Nat)
  /-- QP_ERROR (R619). -/
  | qpError (q : Nat)
  /-- TELEMETRY_RECORD (R631). -/
  | telemetryRecord
  /-- PCIE_LINK_DOWN (R526). -/
  | pcieLinkDown
  /-- PCIE_HOT_RESET (R592); fundamental or hot. -/
  | pcieHotReset (fundamental : Bool)
  /-- FUNCTION_LEVEL_RESET (R526). -/
  | functionLevelReset
  /-- D3HOT_ENTRY (R612). -/
  | d3hotEntry
  /-- FL_ERASE (R628). -/
  | flErase (who : Who)
  /-- FL_DATA_WRITE (R628). -/
  | flDataWrite (who : Who) (row v : Nat)
  /-- FL_VERIFY (R628). -/
  | flVerify (who : Who)
  /-- FL_OPERATION_COMPLETE (R628). -/
  | flOperationComplete
  /-- JTAG_INSTRUCTION_LOAD (R629): 0 BYPASS, 1 IDCODE, 2 SAMPLE/PRELOAD, 3 EXTEST, 4 EXTEST_PULSE, 5 EXTEST_TRAIN, 6 CLAMP, 7 HIGHZ. -/
  | jtagInstructionLoad (ir : Nat)
  /-- POWER_ON (R592). -/
  | powerOn
  /-- SUPPLY_BELOW_THRESHOLD (R643). -/
  | supplyBelowThreshold (rail : Nat)
  /-- RESET_N_LOW (R592). -/
  | resetNLow
  /-- RESET_RELEASE (R594): whether LOSC is present, its frequency code and the die temperature. -/
  | resetRelease (losc : Nat)
  /-- SPN_MARGIN_RESTORED (R329). -/
  | spnMarginRestored
  /-- PAD_FAULT_CLEAR (R314). -/
  | padFaultClear (c det : Nat)
  /-- FIRMWARE_CHECK_COMPLETE (R595): slot, whether its signature passes. -/
  | firmwareCheckComplete (slot : Nat) (pass : Bool)
  /-- ETH_LINK_UP (R622). -/
  | ethLinkUp
  /-- PCIE_LINK_UP (R609). -/
  | pcieLinkUp
  /-- MSIX_UNMASK (R582). -/
  | msixUnmask (vec : Nat)
  /-- POST_SLOT_WRITE (R214): byte offset in the post-slot window. -/
  | postSlotWrite (off : Nat) (bytes : List Byte)
  /-- PCIE_CONFIG_WRITE (R612): 0 completion timeout, 1 Max_Read_Request_Size, 2 power state. -/
  | pcieConfigWrite (reg v : Nat)
  /-- JTAG_TEST_LOGIC_RESET (R629). -/
  | jtagTestLogicReset
  /-- SIGNER_FAULT (R558). -/
  | signerFault
  /-- PCIE_AER_ERROR (R633). -/
  | pcieAerError (status : Nat)
deriving DecidableEq, Repr

end Sys2Proof
end

