-- ==== Sys2Proof/WellFormed.lean ====
section
/-! DEFINITION. Which commands are well formed: the operands that name an instance of the part name one that exists, and the
records the part latches or receives have the shape their rules give them (a completion carries at most 512 bytes, R609). -/

namespace Sys2Proof

/-- Eight bank sensors, eight bank supplies, twelve rails (R631, R641). -/
def Latch.wf (m : Latch) : Bool := m.temps.length == 8 && m.vddo.length == 8 && m.power.length == 12

/-- The fields of an owner identity (R523). -/
def Who.wf (w : Who) : Bool :=
  decide (w.transport < 16) && decide (w.originGen < 256) && decide (w.originAddr < 4096) && decide (w.principal < 256) &&
    decide (w.bootEpoch < 2 ^ 32)

/-- A command is well formed. -/
def Instr.wf : Instr → Bool
  | .frameBoundary m => m.wf
  | .reactionTakeEffect => true
  | .blockReset _ inst src => decide (inst < 72) && decide (src < 128)
  | .blockResetSettleEnd _ inst => decide (inst < 72)
  | .severeEnd src => decide (src < 128)
  | .forceHoldoverEnd src => decide (src < 128)
  | .collectorEccError row _ => decide (row < 128)
  | .fcClear who arg => who.wf && decide (arg < 2 ^ 128)
  | .fcDegradeClear who => who.wf
  | .sessionCommitCheck k => decide (k < 8)
  | .sessionCommitApply k => decide (k < 8)
  | .modeTransition => true
  | .modeRequest who _ => who.wf
  | .placementPass failing => decide (failing < 2 ^ 12)
  | .edgeEmit core => decide (core < 72)
  | .inputEdge ref _ _ => decide (ref < 16)
  | .triggerEdgeIssue c => decide (c < 64)
  | .indexPlateFault core faultBits => decide (core < 72) && decide (faultBits < 32) && decide (faultBits ≠ 0)
  | .spindleLock => true
  | .spindleLossOfLock q => decide (q < qFrame)
  | .spindleSwitchBack => true
  | .spnMarginLow => true
  | .bypLock => true
  | .bypLossOfLock => true
  | .loscMissing => true
  | .loscPresent => true
  | .utLock u => decide (u < 4)
  | .utLockTimeout u => decide (u < 4)
  | .utSettleEnd u => decide (u < 4)
  | .utRestart u => decide (u < 4)
  | .utLossOfLock u => decide (u < 4)
  | .clockGateClose c => decide (c < 64)
  | .clockGateOpen c => decide (c < 64)
  | .utBandMeasure who u code fLo fHi =>
    who.wf && decide (u < 4) && decide (code < 2 ^ 64) && decide (fLo < 2 ^ 32) && decide (fHi < 2 ^ 32)
  | .slotQualExpiry n => decide (n < 28)
  | .slotWtrExpiry n => decide (n < 28)
  | .slotNoSignal n => decide (n < 28)
  | .slotSampleTimeout n => decide (n < 28)
  | .disagreementEnd a b => decide (a < 28) && decide (b < 28)
  | .selectionChangeEffect => true
  | .firstAlignment => true
  | .slotLabel who n arg => who.wf && decide (n < 28) && decide (arg < 2 ^ 128)
  | .slotClearWtr who n => who.wf && decide (n < 28)
  | .htSample who n arg => who.wf && decide (n < 28) && decide (arg < 2 ^ 128)
  | .srRejectClear who _ => who.wf
  | .holdoverSteer => true
  | .holdMaxExpiry => true
  | .learningSample _ => true
  | .epochRecordBuild => true
  | .epochRecordEmit => true
  | .epochRecordSkipped => true
  | .leapEpochReached => true
  | .tsStep who _ => who.wf
  | .tsStepEffect => true
  | .prefetchDeadline s => decide (s < 8)
  | .iterationBoundary s => decide (s < 8)
  | .vectorStart s => decide (s < 8)
  | .seqStartReached s => decide (s < 8)
  | .compareOutcome s => decide (s < 8)
  | .sqLockAcquire who s => who.wf && decide (s < 8)
  | .sqLockRelease who s => who.wf && decide (s < 8)
  | .sqLockLeaseExpiry s => decide (s < 8)
  | .sqJump who s _ => who.wf && decide (s < 8)
  | .sqStop who s _ => who.wf && decide (s < 8)
  | .sqStart who _ => who.wf
  | .segFree who _ => who.wf
  | .segFreeEffect e => decide (e < 16384)
  | .retireIntervalExpiry e => decide (e < 16384)
  | .cmpLogResume who s => who.wf && decide (s < 8)
  | .cmpLogTailWrite who s _ => who.wf && decide (s < 8)
  | .bankArbitration b reqs => decide (b < 16) && reqs.all (fun r => decide (r.requester < 12))
  | .playbackParkOnRetire s => decide (s < 8)
  | .pageAllocateDeferred e j => decide (e < 16384) && decide (j < 16384)
  | .arbCommit who => who.wf
  | .arbUrgWrite who r _ => who.wf && decide (r < 12)
  | .arbStateError b => decide (b < 16)
  | .pagePost who _ => who.wf
  | .pageWriteComplete ppn => decide (ppn < 1024)
  | .pageReadByEntry who _ => who.wf
  | .pageReadByPpn who _ => who.wf
  | .pageReadComplete slot bad => (slot == 8 || slot == 9) && bad.all (fun w => decide (w < 1024))
  | .memSelftest who _ => who.wf
  | .selftestPageDone ppn _ => decide (ppn < 1024)
  | .pageMoveStart src dst _ => decide (src < 1024) && decide (dst < 1024)
  | .pageMoveComplete => true
  | .scrubPageDone ppn => decide (ppn < 1024)
  | .refillStart s => decide (s < 8)
  | .dmaCompletion _ _ data _ => decide (data.length ≤ 512)
  | .dmaCompletionTimeout _ => true
  | .refillRetryExpiry ppn => decide (ppn < 1024)
  | .segProducedWrite who e v => who.wf && decide (e < 16384) && decide (v < 2 ^ 64)
  | .padFaultDeclare c det => decide (c < 64) && decide (det < 5)
  | .padProbe c _ => decide (c < 64)
  | .padDriverResume c => decide (c < 64)
  | .padAutoInvert c => decide (c < 64)
  | .padSettleTimeout c => decide (c < 64)
  | .padDriverTurnOn c => decide (c < 64)
  | .vddoClassChange k => decide (k < 8)
  | .inputDiagDeclare n det _ => decide (n < 16) && (det == 1 || det == 2)
  | .inputReversed n => decide (n < 16)
  | .inputAutoInvert n => decide (n < 16)
  | .supplyOutOfRange rail => decide (rail < 4)
  | .thermalShutdown => true
  | .thermalRecovery => true
  | .spareSwapEffect k => decide (k < 8)
  | .spSwap who k _ => who.wf && decide (k < 8)
  | .spReturn who k => who.wf && decide (k < 8)
  | .spareSearchFail k => decide (k < 8)
  | .returnForced k => decide (k < 8)
  | .coreCalStart k => decide (k < 8)
  | .calSettleEnd k => decide (k < 8)
  | .calMeasureComplete k residuals _ => decide (k < 8) && residuals.length == 512
  | .calStepsDone k => decide (k < 8)
  | .calVerifyComplete k _ _ _ => decide (k < 8)
  | .calRestoreComplete k => decide (k < 8)
  | .calRetryExpiry core => decide (core < 72)
  | .calPeriodExpiry core => decide (core < 72)
  | .calOverdue core => decide (core < 72)
  | .coreCalRequest who core => who.wf && decide (core < 72)
  | .calAll who => who.wf
  | .calliperSelfCal residuals => residuals.length == 9
  | .auditBlockClose pad _ => decide (pad < 64)
  | .ancRun who _ => who.wf
  | .anchorRunComplete k _ _ => decide (k < 8)
  | .anchorApply k => decide (k < 8)
  | .calStore who => who.wf
  | .nvmStoreStart => true
  | .nvmStoreComplete _ => true
  | .tableLoadComplete core => decide (core < 72)
  | .verifySweep devs => devs.all (fun d => decide (d.1 < 72))
  | .verifySweepSkipped => true
  | .markingPulseSend => true
  | .markingAlertSend => true
  | .markingMessageReceive m _ => decide (m.word < 2 ^ 256)
  | .markEchoSend _ => true
  | .markEchoReceive p _ _ => decide (p < 16)
  | .stackAlertSeen => true
  | .stackReferenceSwitch => true
  | .stackClkMissing => true
  | .stackMsgTimeout => true
  | .tnBlockLock k => decide (k < 8)
  | .tnBlockLockLoss k => decide (k < 8)
  | .tnHelloSend k => decide (k < 8)
  | .tnHelloReceive k _ => decide (k < 8)
  | .tnHelloMiss k => decide (k < 8)
  | .tnTimeSend k _ => decide (k < 8)
  | .tnTimeReceive k f => decide (k < 8) && decide (f.frame.payload.length = 48)
  | .tnAsymCal who k _ _ _ => who.wf && decide (k < 8)
  | .tnRouteSend => true
  | .tnRouteReceive k _ => decide (k < 8)
  | .fabRootTimeout => true
  | .tnLeaseReceive k _ => decide (k < 8)
  | .fabAddrRenew => true
  | .fabLeaseExpiry addr => decide (addr < 4096)
  | .tnMgmtReceive k _ => decide (k < 8)
  | .xidTimeout _ => true
  | .objectWrite off len v => decide (off < 2 ^ 27) && decide (1 ≤ len ∧ len ≤ 8) && decide (v < 2 ^ 64)
  | .bar0Time92ReadLow idx sub => decide (idx < 65536) && decide (sub < 256)
  | .bar0Time92WriteHigh idx sub v => decide (idx < 65536) && decide (sub < 256) && decide (v < 2 ^ 64)
  | .bar0Time92WriteLow idx sub v => decide (idx < 65536) && decide (sub < 256) && decide (v < 2 ^ 64)
  | .bar0SessionWrite _ => true
  | .bar0Open _ => true
  | .tblSelWrite _ => true
  | .tblPut => true
  | .sessCommit who k _ => who.wf && decide (k < 8)
  | .sessDiscard who k => who.wf && decide (k < 8)
  | .sessClose who k => who.wf && decide (k < 8)
  | .sessionLeaseExpiry k => decide (k < 8)
  | .sessionRetireExpiry k => decide (k < 8)
  | .wopMessage who _ => who.wf
  | .wopRead who _ idx sub _ => who.wf && decide (idx < 65536) && decide (sub < 256)
  | .wopWrite who _ idx sub v => who.wf && decide (idx < 65536) && decide (sub < 256) && decide (v < 2 ^ 128)
  | .wopReadRow who _ idx sub row => who.wf && decide (idx < 65536) && decide (sub < 256) && decide (row < 65536)
  | .wopWriteRow who _ idx sub row _ => who.wf && decide (idx < 65536) && decide (sub < 256) && decide (row < 65536)
  | .wopReadBytes who _ idx sub _ _ => who.wf && decide (idx < 65536) && decide (sub < 256)
  | .wopOpen who _ _ => who.wf
  | .wopClose who _ => who.wf
  | .wopCommit who _ _ => who.wf
  | .wopDiscard who _ => who.wf
  | .wopRenew who _ => who.wf
  | .wopHandshakeHello transport _ _ => decide (transport < 16)
  | .wopHandshakeFinish transport _ _ => decide (transport < 16)
  | .wopChannelIdleExpiry ch => decide (ch < 16)
  | .ethDatagramReceive ch _ _ _ _ _ _ => decide (ch < 16)
  | .ethLinkDown => true
  | .smbSelect idx sub _ => decide (idx < 65536) && decide (sub < 256)
  | .smbRead _ => true
  | .qpSqTailWrite who q _ => who.wf && decide (q < 4)
  | .descWop q d => decide (q < 4) && decide (d.desc.length = 8) && d.desc.all (fun w => decide (w < 2 ^ 64))
  | .descLoad q d => decide (q < 4) && decide (d.length = 8) && d.all (fun w => decide (w < 2 ^ 64))
  | .completionPost q => decide (q < 4)
  | .qpCqHeadWrite who q _ => who.wf && decide (q < 4)
  | .qpError q => decide (q < 4)
  | .telemetryRecord => true
  | .pcieLinkDown => true
  | .pcieHotReset _ => true
  | .functionLevelReset => true
  | .d3hotEntry => true
  | .flErase who => who.wf
  | .flDataWrite who _ _ => who.wf
  | .flVerify who => who.wf
  | .flOperationComplete => true
  | .jtagInstructionLoad ir => decide (ir < 8)
  | .powerOn => true
  | .supplyBelowThreshold rail => decide (rail < 4)
  | .resetNLow => true
  | .resetRelease _ => true
  | .spnMarginRestored => true
  | .padFaultClear c det => decide (c < 64) && decide (det < 5)
  | .firmwareCheckComplete slot _ => decide (slot < 2)
  | .ethLinkUp => true
  | .pcieLinkUp => true
  | .msixUnmask vec => decide (vec < 128)
  | .postSlotWrite off bytes => decide (off + bytes.length ≤ 196608)
  | .pcieConfigWrite reg _ => decide (reg < 3)
  | .jtagTestLogicReset => true
  | .signerFault => true
  | .pcieAerError _ => true

end Sys2Proof
end

