-- ==== Sys2Proof/Decode.lean ====
section
/-! DEFINITION. The command that a word of the opcode table spells. The table of this block gives no row any bits: a command
reaches the part over an interface of its own, never as a coded word, so no word spells one. -/

namespace Sys2Proof

/-- The command a word spells: none. -/
def decodeTableWord (_nbits _w : Nat) : Option Instr := none

end Sys2Proof
end

