-- ==== Sys2Proof/Machine/Arith.lean ====
section
/-! DEFINITION. The fixed arithmetic of the manual: exact sums and one rounding (R64, R65), bit fields, and the
conversions of bounds, frequencies and times. -/

namespace Sys2Proof.Machine

/-- Round a / b to the nearest integer, halves to even; b positive (R65). -/
def roundHalfEven (a : Int) (b : Nat) : Int :=
  let f := a / (b : Int)
  let r := a % (b : Int)
  if 2 * r < b then f
  else if 2 * r > b then f + 1
  else if f % 2 = 0 then f else f + 1

/-- Round a / b up; b positive. -/
def ceilDiv (a b : Nat) : Nat := (a + b - 1) / b

/-- Round a / b up, signed dividend. -/
def ceilDivI (a : Int) (b : Nat) : Int := -((-a) / (b : Int))

/-- The integer square root by bisection; 64 rounds serve every value below 2^126. -/
def sqrtAux : Nat → Nat → Nat → Nat → Nat
  | 0, lo, _, _ => lo
  | f + 1, lo, hi, n =>
    if hi ≤ lo + 1 then lo
    else
      let mid := (lo + hi) / 2
      if mid * mid ≤ n then sqrtAux f mid hi n else sqrtAux f lo mid n

/-- The square root of n, rounded up to an integer. -/
def ceilSqrt (n : Nat) : Nat :=
  let r := sqrtAux (n.log2 + 2) 0 (n + 1) n
  if r * r = n then r else r + 1

/-- Bits [hi:lo] of a word held as a number. -/
def bits (x hi lo : Nat) : Nat := x / 2 ^ lo % 2 ^ (hi + 1 - lo)

/-- Bit i of a word held as a number. -/
def bit (x i : Nat) : Bool := x / 2 ^ i % 2 == 1

/-- Replace bits [hi:lo]. -/
def setBits (x hi lo v : Nat) : Nat :=
  let w := 2 ^ (hi + 1 - lo)
  x - bits x hi lo * 2 ^ lo + v % w * 2 ^ lo

/-- Set or clear one bit. -/
def setBit (x i : Nat) (b : Bool) : Nat := setBits x i i (if b then 1 else 0)

/-- A Boolean as the dictionary's BOOL. -/
def b2n (b : Bool) : Nat := if b then 1 else 0

/-- A 64-bit two's-complement word as an integer (R56). -/
def toI64 (x : Nat) : Int := if x % 2 ^ 64 < 2 ^ 63 then (x % 2 ^ 64 : Nat) else (x % 2 ^ 64 : Nat) - 2 ^ 64

/-- An integer as a 64-bit two's-complement word. -/
def ofI64 (i : Int) : Nat := (i % 2 ^ 64).toNat

/-- Held within the range of an I64: arithmetic on time words never wraps (R66). -/
def satI64 (i : Int) : Int := max (-(2 : Int) ^ 63) (min (2 ^ 63 - 1) i)

/-- A two's-complement field of w bits as an integer. -/
def signed (w x : Nat) : Int := if x % 2 ^ w < 2 ^ (w - 1) then (x % 2 ^ w : Nat) else (x % 2 ^ w : Nat) - 2 ^ w

/-- A TIME92 container as the linear count of q it stands for (R52, R53). -/
def time92 (x : Nat) : Nat := bits x 91 44 * qSecond + bits x 43 0

/-- The container of a linear count of q (R52). -/
def ofTime92 (t : Nat) : Nat := (t / qSecond) * 2 ^ 44 + t % qSecond

/-- A container is malformed: fraction of a second or more, or a reserved bit set (R54). -/
def time92Malformed (x : Nat) : Bool := decide (qSecond ≤ bits x 43 0) || decide (x / 2 ^ 92 ≠ 0)

/-- Frame of a linear time (R58, R59). -/
def frameOf (t : Nat) : Nat := t / qFrame
/-- Coarse cycle of a linear time within its frame (R59). -/
def coarseOf (t : Nat) : Nat := t / qCoarse % 1024
/-- Fine code of a linear time (R59). -/
def fineOf (t : Nat) : Nat := t % qCoarse

/-- Clamp to ±c. -/
def clampAbs (c : Nat) (x : Int) : Int := if x < -(c : Int) then -(c : Int) else if (c : Int) < x then c else x

/-- One step of at most 16 sixteenths from x toward its target (R443, R451, R456). -/
def stepToward (x target : Int) : Int := x + clampAbs 16 (target - x)

/-- q/16 as 0.1 ps, rounded up: the conversion of R411. -/
def sixteenthsToBound (x : Int) : Nat := ceilDiv (x.natAbs * 1000000) 16777216

/-- A U32 bound: an exact sum that reaches the unknown value is unknown (R412, R417). -/
def capBound (x : Nat) : Nat := if unknownBound ≤ x then unknownBound else x

/-- The sum of bound terms: unknown when a term is (R412). -/
def sumBounds (l : List Nat) : Nat :=
  if l.any (fun x => decide (unknownBound ≤ x)) then unknownBound else capBound (l.foldl (· + ·) 0)

/-- Frames of a duration in µs, rounded up. -/
def framesOfUs (us : Nat) : Nat := ceilDiv (us * 5) 4
/-- Frames of a duration in ms. -/
def framesOfMs (ms : Nat) : Nat := ms * 1250
/-- Picoseconds as q, half to even (R607). -/
def qOfPs (x : Int) : Int := roundHalfEven (x * 32768) 3125

/-- Big-endian bytes of a number. -/
def beBytes : Nat → Nat → List Byte
  | 0, _ => []
  | n + 1, x => BitVec.ofNat 8 (x / 256 ^ n) :: beBytes n x

/-- The number of big-endian bytes. -/
def ofBe (l : List Byte) : Nat := l.foldl (fun a b => a * 256 + b.toNat) 0

/-- The number of little-endian bytes. -/
def ofLe : List Byte → Nat
  | [] => 0
  | b :: l => b.toNat + 256 * ofLe l

/-- Little-endian bytes of a number. -/
def leBytes : Nat → Nat → List Byte
  | 0, _ => []
  | n + 1, x => BitVec.ofNat 8 x :: leBytes n (x / 256)

/-- The positions of the bits set in a bitmap of n bits, rising. -/
def bitList (n x : Nat) : List Nat := (List.range n).filter (fun i => bit x i)

end Sys2Proof.Machine
end

