-- ==== Sys2Proof/Config.lean ====
section
/-! DEFINITION. What the manual leaves open, as constants without a body: nothing in Lean can evaluate one, so a claim that
holds in this model holds whatever value the hardware has there. Each is named in the assumption log. -/

namespace Sys2Proof.Config

/-- The part chosen by the discrete form of the loop of R384, before its clamp: selected slot, its phase in q/16, the integrator's step. -/
opaque servoSlope : Nat → Int → Nat → Int
/-- Which of the two neighbouring integers an estimate that is no integer takes (R370, R399: the manual states the estimate, not its rounding). -/
opaque roundsUp : Nat → Bool
/-- What an unwritten word of vector memory reads as (R207 gives no content at power-on). -/
opaque vmemUnwritten : Nat → VWord
/-- Which words of a page whose post slot was written while busy hold the new image (R214). -/
opaque mixesNew : Nat → Nat → Bool
/-- The Ed25519 signature of an Epoch Record (R424): the key is made at manufacture and is never exported. -/
opaque epochSignature : List Byte → Nat
/-- The device's answer to a channel handshake (R548): nonce, key and signature, of which the manual fixes only the lengths. -/
opaque handshakeReply : List Byte → List Byte
/-- Whether an Ed25519 signature verifies under RFC 8032 (R548, R595, R628). -/
opaque ed25519Verifies : List Byte → List Byte → List Byte → Bool
/-- The subject public key of a DER certificate (R548). -/
opaque subjectKey : List Byte → List Byte
/-- Whether a certificate is within its validity period at a number of TAI seconds (R548). -/
opaque certificateCurrent : List Byte → Nat → Bool
/-- Whether a certificate validates under RFC 5280 against an issuer row of WOP_TRUST (R548). -/
opaque certificateValid : List Byte → Nat → Bool
/-- SHA-256 (R548, R551), byte i of the digest at bits [8i + 7 : 8i]. -/
opaque sha256 : List Byte → Nat
/-- HKDF-SHA-256 over the shared secret of a handshake, for a direction (R549). -/
opaque channelKey : List Byte → Bool → Nat
/-- Whether the AES-256-GCM tag of a sealed message holds (R549). -/
opaque sealValid : Nat → Nat → List Byte → Bool
/-- Manufacture and strap values of the objects whose Default is a dash, read by ID_UID and its like (R518, R552). -/
opaque deviceUid : Nat
/-- The factory trim by which R328 chooses the Spindle band at a die temperature. -/
opaque spindleBand : Nat → Int → Nat
/-- The tie left open when several slots of a calibration bank have been written least often (R459). -/
opaque leastWrittenTie : List Nat → Nat
/-- A value the manual leaves undefined where the machine goes on: one for each count of the state's own counter. -/
opaque freeValue : Nat → Nat

/-- The die temperature of a synthesizer in 0.01 °C, of which the manual names no sensor (R343): from the latched bank sensors. -/
opaque dieTemp : List Int → Int
/-- The part is of grade I, else of grade C (R1, R552). -/
opaque gradeI : Bool
/-- The manufacture values of the string and certificate objects whose Default is a dash, by address. -/
opaque madeBytes : Nat → List Byte

/-- DETAIL of a source whose cause the manual names without its layout, or names none where an instance stands to hand: source, and the parts of the cause (R558, R633). -/
opaque causeWord : Nat → Nat → Nat → Nat
/-- The factory copy of the calibration set (R459, R460): whether it is valid, the cores it covers, its objects by address, its table
entries by place, and its sense baselines. -/
opaque factoryGood : Bool
opaque factoryCovers : Nat → Bool
opaque factoryObject : Nat → Nat
opaque factoryEntry : Nat → BitVec 16
opaque factoryBaseline : Nat → Int
/-- The Ed25519 key that firmware images are verified against (R595). -/
opaque firmwareKey : List Byte
/-- Payload bytes of a Tenon frame whose layout the manual does not give: its kind (R494), link and number among those sent on it. -/
opaque tenonPayload : Nat → Nat → Nat → Nat
/-- What an analogue monitor reads: the object's address and the boundary count. -/
opaque measured : Nat → Nat → Nat

end Sys2Proof.Config
end

