-- ==== Sys2Proof/Machine/Sparse.lean ====
section
/-! DEFINITION. Sparse maps in one canonical form: keys strictly rising, no entry equal to what its key reads as when it
is not listed. Equal contents are equal data. Every register file, table, buffer and memory of the part is held so. -/

namespace Sys2Proof.Machine

/-- A sparse map from numbered places to values. -/
abbrev Sp (α : Type) := List (Nat × α)

/-- What a place holds: its entry, or the default of that place. -/
def Sp.get {α : Type} (d : Nat → α) : Sp α → Nat → α
  | [], k => d k
  | (k', v) :: m, k => if k = k' then v else Sp.get d m k

/-- Put an entry at its place in the rising order. -/
def Sp.ins {α : Type} : Sp α → Nat → α → Sp α
  | [], k, v => [(k, v)]
  | (k', v') :: m, k, v =>
    if k < k' then (k, v) :: (k', v') :: m
    else if k = k' then (k, v) :: m
    else (k', v') :: Sp.ins m k v

/-- Take the entry of a place out. -/
def Sp.del {α : Type} : Sp α → Nat → Sp α
  | [], _ => []
  | (k', v') :: m, k => if k = k' then Sp.del m k else (k', v') :: Sp.del m k

/-- Write a place, keeping the canonical form. -/
def Sp.set {α : Type} [DecidableEq α] (d : Nat → α) (m : Sp α) (k : Nat) (v : α) : Sp α :=
  if v = d k then Sp.del m k else Sp.ins m k v

/-- All keys of a map lie above a bound. -/
def Sp.above {α : Type} (b : Nat) (m : Sp α) : Prop := ∀ p ∈ m, b < p.1

/-- The canonical form. -/
def Sp.wf {α : Type} [DecidableEq α] (d : Nat → α) : Sp α → Bool
  | [] => true
  | (k, v) :: m => (v != d k) && (m.all (fun p => decide (k < p.1))) && Sp.wf d m

/-- What a place holds, where a place nothing has written holds nothing. -/
def Sp.find {α : Type} : Sp α → Nat → Option α
  | [], _ => none
  | (k', v) :: m, k => if k = k' then some v else Sp.find m k

end Sys2Proof.Machine
end

