-- ==== Sys2Proof/Machine/Objects.lean ====
section
/-! DEFINITION. The Wearok Object Dictionary as data: types and access classes (R516, R517), the object tables of every
chapter as the spec lists them, the address of each object, and its value at reset (R518). -/

namespace Sys2Proof.Machine

/-- Types of the dictionary (R516). A table carries its rows and row width in bytes, a command whether its argument has 128 bits. -/
inductive OType where
  | bool | u8 | u16 | u32 | u64 | i64 | dur64 | off32 | time92 | str | blob
  | tbl (rows bytes : Nat)
  | cmd (wide : Bool)
deriving DecidableEq, Repr

/-- Access classes (R517); for a table the access of its rows. -/
inductive Acc where
  | ro | rw | rws | rwi | cmd
deriving DecidableEq, Repr

/-- One row of an object table: first subindex, and for a repeated object its step and count. -/
structure ObjDef where
  name : String
  sub  : Nat
  step : Nat
  rep  : Nat
  ty   : OType
  acc  : Acc
  dflt : Nat
deriving DecidableEq, Repr

/-- One number for an address of the dictionary: index, subindex and, for tables and command records, row. -/
def key (index sub row : Nat) : Nat := (index * 256 + sub) * 65536 + row
def keyIndex (k : Nat) : Nat := k / 65536 / 256
def keySub (k : Nat) : Nat := k / 65536 % 256
def keyRow (k : Nat) : Nat := k % 65536

/-- Timescale Objects at OD 0x2010 (R49). -/
def dict_timescale : List ObjDef :=
  [⟨"TS_NOW", 0x1, 0, 1, .time92, .ro, 0⟩,
   ⟨"TS_FN", 0x3, 0, 1, .u64, .ro, 0⟩,
   ⟨"TS_STATE", 0x4, 0, 1, .u8, .ro, 0⟩,
   ⟨"UTC_OFFSET", 0x5, 0, 1, .i64, .rws, 37⟩,
   ⟨"LEAP_PENDING", 0x6, 0, 1, .u8, .rws, 0⟩,
   ⟨"LEAP_EPOCH", 0x7, 0, 1, .time92, .rws, 0⟩,
   ⟨"TS_STEP", 0x9, 0, 1, (.cmd false), .cmd, 0⟩,
   ⟨"TS_STEP_COUNT", 0xa, 0, 1, .u32, .ro, 0⟩]

/-- Channel Objects at OD 0x5000 + 0x20·c (R69). -/
def dict_channel : List ObjDef :=
  [⟨"CH_SOURCE", 0x1, 0, 1, .u8, .rws, 0⟩,
   ⟨"CH_POLICY", 0x2, 0, 1, .u8, .rws, 0⟩,
   ⟨"CH_BOUND_LIMIT", 0x3, 0, 1, .u32, .rws, 4294967295⟩,
   ⟨"CH_DELAY", 0x4, 0, 1, .dur64, .rws, 0⟩,
   ⟨"CH_DELAY_UNC", 0x5, 0, 1, .u32, .rws, 0⟩,
   ⟨"CH_SEQ", 0x6, 0, 1, .u8, .ro, 255⟩,
   ⟨"CH_LANE", 0x7, 0, 1, .u8, .ro, 255⟩,
   ⟨"CH_LANE_PIN", 0x8, 0, 1, .u8, .rws, 255⟩,
   ⟨"CH_ANCHOR", 0x9, 0, 1, .i64, .ro, 0⟩,
   ⟨"CH_TRIM", 0xa, 0, 1, .i64, .ro, 0⟩,
   ⟨"CH_CORE", 0xb, 0, 1, .u8, .ro, 0⟩,
   ⟨"CH_BOUND", 0xc, 0, 1, .u32, .ro, 4294967295⟩]

/-- Counters and Status at OD 0x5000 + 0x20·c + 0x01 (R71). -/
def dict_counters : List ObjDef :=
  [⟨"CH_EDGES", 0x1, 0, 1, .u64, .ro, 0⟩,
   ⟨"CH_WITHHELD", 0x2, 0, 1, .u64, .ro, 0⟩,
   ⟨"CH_WH_LATE", 0x3, 0, 1, .u64, .ro, 0⟩,
   ⟨"CH_WH_ORDER", 0x4, 0, 1, .u64, .ro, 0⟩,
   ⟨"CH_WH_SPACING", 0x5, 0, 1, .u64, .ro, 0⟩,
   ⟨"CH_WH_RATE", 0x6, 0, 1, .u64, .ro, 0⟩,
   ⟨"CH_WH_LANE", 0x7, 0, 1, .u64, .ro, 0⟩,
   ⟨"CH_WH_BOUND", 0x8, 0, 1, .u64, .ro, 0⟩,
   ⟨"CH_WH_LEVEL", 0x9, 0, 1, .u64, .ro, 0⟩,
   ⟨"CH_FLAGGED", 0xa, 0, 1, .u64, .ro, 0⟩,
   ⟨"CH_LAST_WH", 0xb, 0, 1, .time92, .ro, 0⟩,
   ⟨"CH_LAST_WH_REASON", 0xd, 0, 1, .u8, .ro, 0⟩] ++
  [⟨"CH_LAST_FLAG", 0xe, 0, 1, .time92, .ro, 0⟩,
   ⟨"CH_LAST_FLAG_BOUND", 0x10, 0, 1, .u32, .ro, 0⟩,
   ⟨"CH_QUEUE_OCC", 0x11, 0, 1, .u16, .ro, 0⟩,
   ⟨"CH_QUEUE_PEAK", 0x12, 0, 1, .u16, .ro, 0⟩,
   ⟨"CH_NEXT_VERNIER", 0x13, 0, 1, .u8, .ro, 0⟩,
   ⟨"CH_STATUS", 0x14, 0, 1, .u32, .ro, 0⟩]

/-- DIRECT Rule Objects at OD 0x5000 + 0x20·c + 0x02 + k (R75). -/
def dict_rule : List ObjDef :=
  [⟨"RULE_EPOCH", 0x1, 0, 1, .time92, .rws, 0⟩,
   ⟨"RULE_PERIOD", 0x3, 0, 1, .dur64, .rws, 10485760000000⟩,
   ⟨"RULE_WIDTH", 0x4, 0, 1, .dur64, .rws, 1048576000⟩,
   ⟨"RULE_COUNT", 0x5, 0, 1, .u64, .rws, 0⟩,
   ⟨"RULE_ENABLE", 0x6, 0, 1, .bool, .rws, 0⟩,
   ⟨"RULE_NEXT_J", 0x7, 0, 1, .u64, .ro, 0⟩,
   ⟨"RULE_DONE", 0x8, 0, 1, .bool, .ro, 0⟩]

/-- TRIGGER Objects at OD 0x5000 + 0x20·c + 0x06 (R79). -/
def dict_trigger : List ObjDef :=
  [⟨"TRIG_INPUT", 0x1, 0, 1, .u8, .rws, 0⟩,
   ⟨"TRIG_EDGE", 0x2, 0, 1, .u8, .rws, 1⟩,
   ⟨"TRIG_OFFSET", 0x3, 0, 1, .dur64, .rws, 524288⟩,
   ⟨"TRIG_COUNT", 0x4, 0, 1, .u32, .rws, 1⟩,
   ⟨"TRIG_PERIOD", 0x5, 0, 1, .dur64, .rws, 131072⟩,
   ⟨"TRIG_WIDTH", 0x6, 0, 1, .dur64, .rws, 32768⟩,
   ⟨"TRIG_ACCEPTED", 0x7, 0, 1, .u64, .ro, 0⟩,
   ⟨"TRIG_IGNORED", 0x8, 0, 1, .u64, .ro, 0⟩,
   ⟨"TRIG_LAST", 0x9, 0, 1, .time92, .ro, 0⟩]

/-- Index Plate Objects at OD 0x5000 + 0x20·c + 0x07 (R116). -/
def dict_indexPlate : List ObjDef :=
  [⟨"IP_STATE", 0x1, 0, 1, .u8, .ro, 3⟩,
   ⟨"IP_FAULT", 0x2, 0, 1, .u32, .ro, 0⟩,
   ⟨"IP_TABLE_SEQ", 0x3, 0, 1, .u64, .ro, 0⟩,
   ⟨"IP_CAL_UNC", 0x4, 0, 1, .u32, .ro, 250⟩,
   ⟨"IP_INL_A", 0x5, 0, 1, .u32, .ro, 0⟩,
   ⟨"IP_INL_B", 0x6, 0, 1, .u32, .ro, 0⟩,
   ⟨"IP_TEMP_CAL", 0x7, 0, 1, .i64, .ro, 0⟩,
   ⟨"IP_TEMP_NOW", 0x8, 0, 1, .i64, .ro, 0⟩,
   ⟨"IP_TEMPCO", 0x9, 0, 1, .u32, .ro, 150⟩,
   ⟨"IP_PAD_TERM", 0xa, 0, 1, .u32, .ro, 0⟩,
   ⟨"IP_SETTLING", 0xb, 0, 1, .bool, .ro, 0⟩,
   ⟨"IP_PROX_FRAMES", 0xc, 0, 1, .u64, .ro, 0⟩]

/-- Timing Set Objects at OD 0x6100 + n (R143). -/
def dict_timingSet : List ObjDef :=
  [⟨"TS_PERIOD", 0x1, 0, 1, .u64, .rws, 131072⟩,
   ⟨"TS_IN_USE", 0x2, 0, 1, .u8, .ro, 0⟩,
   ⟨"TSP_FMT", 0x10, 3, 80, .u8, .rws, 0⟩,
   ⟨"TSP_EDGE", 0x11, 3, 80, .u64, .rws, 0⟩,
   ⟨"TSP_STROBE", 0x12, 3, 80, .u64, .rws, 0⟩]

/-- Per-Sequencer Vector Objects at OD 0x6010 + s (R148). -/
def dict_seqVector : List ObjDef :=
  [⟨"SQ_TS_BASE", 0x1, 0, 1, .u8, .rws, 0⟩,
   ⟨"CMP_LOG_MODE", 0x2, 0, 1, .u8, .rws, 0⟩,
   ⟨"CMP_VECTORS", 0x3, 0, 1, .u64, .ro, 0⟩,
   ⟨"CMP_PASS", 0x4, 0, 1, .u64, .ro, 0⟩,
   ⟨"CMP_FAIL", 0x5, 0, 1, .u64, .ro, 0⟩,
   ⟨"CMP_INVALID", 0x6, 0, 1, .u64, .ro, 0⟩,
   ⟨"CMP_LOG_HEAD", 0x7, 0, 1, .u64, .ro, 0⟩,
   ⟨"CMP_LOG_TAIL", 0x8, 0, 1, .u64, .rw, 0⟩,
   ⟨"CMP_LOG_DROPPED", 0x9, 0, 1, .u64, .ro, 0⟩,
   ⟨"CMP_LOG_HALTED", 0xa, 0, 1, .bool, .ro, 0⟩,
   ⟨"CMP_LOG_RESUME", 0xb, 0, 1, (.cmd false), .cmd, 0⟩,
   ⟨"CMP_LAST", 0xc, 0, 1, .u8, .ro, 0⟩] ++
  [⟨"TF_FAULTS", 0xd, 0, 1, .u64, .ro, 0⟩,
   ⟨"TF_LAST_EPOCH", 0xe, 0, 1, .time92, .ro, 0⟩,
   ⟨"CMP_LOG", 0x10, 0, 1, (.tbl 1024 32), .ro, 0⟩,
   ⟨"SQ_POS", 0x20, 1, 40, .u8, .rws, 255⟩]

/-- Template Objects at OD 0x6200 + m (R156). -/
def dict_template : List ObjDef :=
  [⟨"TF_FLAGS", 0x1, 0, 1, .u32, .rws, 0⟩,
   ⟨"TF_EPOCH_ADJ", 0x2, 0, 1, .i64, .rws, 0⟩,
   ⟨"TF_UART", 0x3, 0, 1, .u64, .rws, 0⟩,
   ⟨"TF_CRC", 0x4, 0, 1, .u64, .rws, 0⟩,
   ⟨"TF_COUNT", 0x5, 0, 1, .u8, .rws, 0⟩,
   ⟨"TF_ENT_A", 0x10, 2, 120, .u64, .rws, 0⟩,
   ⟨"TF_ENT_B", 0x11, 2, 120, .u64, .rws, 0⟩]

/-- Sequencer Control Objects at OD 0x6020 + s (R171). -/
def dict_seqControl : List ObjDef :=
  [⟨"SQ_OWN", 0x1, 0, 1, .u64, .rws, 0⟩,
   ⟨"SQ_START_ENTRY", 0x2, 0, 1, .u16, .rws, 0⟩,
   ⟨"SQ_RESUME_STEP", 0x3, 0, 1, .u64, .rws, 8388608⟩,
   ⟨"SQ_LOCK", 0x4, 0, 1, (.cmd false), .cmd, 0⟩,
   ⟨"SQ_LOCK_OWNER", 0x5, 0, 1, .u64, .ro, 0⟩,
   ⟨"SQ_LOCK_LEASE", 0x6, 0, 1, .u32, .rws, 10000⟩,
   ⟨"SQ_JUMP", 0x7, 0, 1, (.cmd true), .cmd, 0⟩,
   ⟨"SQ_STOP", 0x9, 0, 1, (.cmd false), .cmd, 0⟩,
   ⟨"SQ_STATE", 0xa, 0, 1, .u8, .ro, 0⟩,
   ⟨"SQ_ENTRY", 0xb, 0, 1, .u16, .ro, 65535⟩,
   ⟨"SQ_ITER", 0xc, 0, 1, .u64, .ro, 0⟩,
   ⟨"SQ_NEXT1", 0xd, 0, 1, .u16, .ro, 65535⟩] ++
  [⟨"SQ_NEXT2", 0xe, 0, 1, .u16, .ro, 65535⟩,
   ⟨"SQ_LEAD", 0xf, 0, 1, .u8, .ro, 0⟩,
   ⟨"SQ_LOOP", 0x10, 1, 4, .u64, .ro, 0⟩,
   ⟨"SQ_JUMP_STATUS", 0x14, 0, 1, .u8, .ro, 0⟩,
   ⟨"SQ_JUMP_FN", 0x15, 0, 1, .u64, .ro, 0⟩,
   ⟨"SQ_VECTORS", 0x16, 0, 1, .u64, .ro, 0⟩,
   ⟨"SQ_UNDERRUNS", 0x17, 0, 1, .u64, .ro, 0⟩,
   ⟨"SQ_IDLE_VECTORS", 0x18, 0, 1, .u64, .ro, 0⟩,
   ⟨"SQ_REPLAYS", 0x19, 0, 1, .u64, .ro, 0⟩,
   ⟨"SQ_LAST_UNDERRUN_FN", 0x1a, 0, 1, .u64, .ro, 0⟩,
   ⟨"SQ_STALE", 0x1b, 0, 1, .u64, .ro, 0⟩,
   ⟨"SQ_LOOP_OVERFLOW", 0x1c, 0, 1, .u64, .ro, 0⟩] ++
  [⟨"SQ_FIFO_OCC", 0x1d, 0, 1, .u16, .ro, 0⟩]

/-- Segment Table Objects at OD 0x6300 (R174). -/
def dict_segTable : List ObjDef :=
  [⟨"SEG_TABLE", 0x1, 0, 1, (.tbl 16384 32), .rws, 0⟩,
   ⟨"SEG_FREE", 0x2, 0, 1, (.cmd false), .cmd, 0⟩,
   ⟨"SEG_REFUSED_ACTIVE", 0x3, 0, 1, .u64, .ro, 0⟩,
   ⟨"SEG_FREE_LAST", 0x4, 0, 1, .u64, .ro, 0⟩]

/-- Placement Objects at OD 0x6400 (R224). -/
def dict_placement : List ObjDef :=
  [⟨"PAGE_MAP", 0x1, 0, 1, (.tbl 1024 8), .ro, 0⟩,
   ⟨"SEG_PLACE", 0x2, 0, 1, (.tbl 16384 8), .ro, 0⟩,
   ⟨"SEG_SOURCE", 0x3, 0, 1, (.tbl 16384 8), .rws, 0⟩,
   ⟨"SEG_PRODUCED", 0x4, 0, 1, (.tbl 16384 8), .rwi, 0⟩,
   ⟨"SEG_CONSUMED", 0x5, 0, 1, (.tbl 16384 8), .ro, 0⟩,
   ⟨"PAGE_POST", 0x6, 0, 1, (.cmd true), .cmd, 0⟩,
   ⟨"PAGE_READ", 0x8, 0, 1, (.cmd false), .cmd, 0⟩,
   ⟨"PAGE_SLOTS_BUSY", 0x9, 0, 1, .u16, .ro, 0⟩,
   ⟨"PAGE_STALE", 0xa, 0, 1, .u64, .ro, 0⟩,
   ⟨"PAGES_FREE", 0xb, 0, 1, .u16, .ro, 1024⟩,
   ⟨"PAGES_RETIRED", 0xc, 0, 1, .u16, .ro, 0⟩,
   ⟨"PAGE_CE_LIMIT", 0xd, 0, 1, .u8, .rws, 16⟩] ++
  [⟨"RETIRE_INTERVAL", 0xe, 0, 1, .u32, .rws, 2000⟩,
   ⟨"PL_MOVES", 0xf, 0, 1, .u64, .ro, 0⟩,
   ⟨"PL_LOG", 0x10, 0, 1, (.tbl 512 16), .ro, 0⟩,
   ⟨"PL_LOG_HEAD", 0x11, 0, 1, .u64, .ro, 0⟩,
   ⟨"MEM_SELFTEST", 0x12, 0, 1, (.cmd false), .cmd, 0⟩]

/-- Per-Sequencer Placement Objects at OD 0x6420 + s (R229). -/
def dict_seqPlacement : List ObjDef :=
  [⟨"SQ_BANKS", 0x1, 0, 1, .u16, .ro, 0⟩,
   ⟨"SQ_BANKS_PIN", 0x2, 0, 1, .u16, .rws, 0⟩,
   ⟨"SQ_WORD_LOAD", 0x3, 0, 1, .u8, .ro, 0⟩,
   ⟨"RING_PAGES", 0x4, 0, 1, .u16, .rws, 0⟩,
   ⟨"RING_WATERMARK", 0x5, 0, 1, .u16, .rws, 2⟩,
   ⟨"RING_VALID", 0x6, 0, 1, .u16, .ro, 0⟩,
   ⟨"RING_REFILLS", 0x7, 0, 1, .u64, .ro, 0⟩,
   ⟨"RING_DISCARDS", 0x8, 0, 1, .u64, .ro, 0⟩,
   ⟨"RING_STARVED", 0x9, 0, 1, .u64, .ro, 0⟩]

/-- Per-Bank Objects at OD 0x6430 + b (R230). -/
def dict_memBank : List ObjDef :=
  [⟨"BANK_LOAD", 0x1, 0, 1, .u16, .ro, 0⟩,
   ⟨"BANK_FREE", 0x2, 0, 1, .u8, .ro, 64⟩,
   ⟨"BANK_CE", 0x3, 0, 1, .u64, .ro, 0⟩,
   ⟨"BANK_UE", 0x4, 0, 1, .u64, .ro, 0⟩,
   ⟨"SCRUB_SWEEPS", 0x5, 0, 1, .u64, .ro, 0⟩,
   ⟨"REFRESH_ROWS", 0x6, 0, 1, .u8, .ro, 8⟩]

/-- Window and Transfer Objects at OD 0xB100 (R242). -/
def dict_windows : List ObjDef :=
  [⟨"WIN_TABLE", 0x1, 0, 1, (.tbl 4096 16), .rws, 0⟩,
   ⟨"WIN_OLDEST", 0x2, 0, 1, .u64, .ro, 18446744073709551615⟩,
   ⟨"DMA_RETRY_LIMIT", 0x3, 0, 1, .u8, .rws, 2⟩,
   ⟨"DMA_PAGES", 0x4, 0, 1, .u64, .ro, 0⟩,
   ⟨"DMA_RETRIES", 0x5, 0, 1, .u64, .ro, 0⟩,
   ⟨"DMA_FAILED", 0x6, 0, 1, .u64, .ro, 0⟩,
   ⟨"DMA_XLATE_MISS", 0x7, 0, 1, .u64, .ro, 0⟩,
   ⟨"DMA_TIMEOUTS", 0x8, 0, 1, .u64, .ro, 0⟩,
   ⟨"DMA_POISONED", 0x9, 0, 1, .u64, .ro, 0⟩,
   ⟨"DMA_BAD_STATUS", 0xa, 0, 1, .u64, .ro, 0⟩,
   ⟨"DMA_LATE", 0xb, 0, 1, .u64, .ro, 0⟩]

/-- Arbitration Objects at OD 0x7000 (R283). -/
def dict_arbitration : List ObjDef :=
  [⟨"ARB_COMMIT", 0x1, 0, 1, (.cmd false), .cmd, 0⟩,
   ⟨"ARB_COMMITS", 0x2, 0, 1, .u64, .ro, 0⟩,
   ⟨"ARB_SHADOW_DIRTY", 0x3, 0, 1, .bool, .ro, 0⟩,
   ⟨"ARB_PRIO_SH", 0x10, 1, 12, .u8, .rw, 0⟩,
   ⟨"ARB_LIMIT_SH", 0x20, 1, 12, .u16, .rw, 0⟩,
   ⟨"ARB_PRIO", 0x30, 1, 12, .u8, .ro, 0⟩,
   ⟨"ARB_LIMIT", 0x40, 1, 12, .u16, .ro, 0⟩,
   ⟨"ARB_URG", 0x50, 1, 12, .bool, .rwi, 0⟩,
   ⟨"ARB_SLACK_ALARM", 0x60, 0, 1, .u16, .rws, 24⟩,
   ⟨"XS_CAL", 0x70, 0, 1, .u64, .ro, 18374686479671623680⟩]

/-- Bank Arbiter Objects at OD 0x7010 + b (R284). -/
def dict_bankArbiter : List ObjDef :=
  [⟨"ARB_STEALS", 0x1, 0, 1, .u64, .ro, 0⟩,
   ⟨"ARB_DEAD", 0x2, 0, 1, .u64, .ro, 0⟩,
   ⟨"ARB_IDLE_LAST", 0x3, 0, 1, .u16, .ro, 0⟩,
   ⟨"ARB_REFRESH_LAST", 0x4, 0, 1, .u8, .ro, 0⟩,
   ⟨"ARB_SLACK_LAST", 0x5, 0, 1, .u16, .ro, 512⟩,
   ⟨"ARB_ECC_CORRECTED", 0x6, 0, 1, .u64, .ro, 0⟩,
   ⟨"ARB_RESETS", 0x7, 0, 1, .u64, .ro, 0⟩,
   ⟨"ARB_WAIT", 0x10, 1, 12, .u16, .ro, 0⟩,
   ⟨"ARB_FORECAST", 0x20, 1, 12, .u16, .ro, 0⟩,
   ⟨"ARB_GRANTS_LAST", 0x30, 1, 12, .u16, .ro, 0⟩,
   ⟨"ARB_SURPLUS_LAST", 0x40, 1, 12, .u16, .ro, 0⟩,
   ⟨"ARB_FORCED", 0x50, 1, 12, .u64, .ro, 0⟩] ++
  [⟨"ARB_PEAK_WAIT", 0x60, 1, 12, .u16, .ro, 0⟩]

/-- Scheduler Objects at OD 0x7020 + b (R285). -/
def dict_scheduler : List ObjDef :=
  [⟨"XS_QUEUED", 0x1, 0, 1, .u16, .ro, 0⟩,
   ⟨"XS_ACTIVE", 0x10, 4, 4, .u64, .ro, 0⟩,
   ⟨"XS_HELD", 0x11, 4, 4, .u64, .ro, 0⟩,
   ⟨"XS_PREEMPTS", 0x12, 4, 4, .u64, .ro, 0⟩,
   ⟨"XS_ABANDONS", 0x13, 4, 4, .u64, .ro, 0⟩]

/-- Pad Objects at OD 0x5000 + 0x20·c + 0x10 (R296). -/
def dict_pad : List ObjDef :=
  [⟨"PAD_FMT", 0x1, 0, 1, .u8, .rws, 0⟩,
   ⟨"PAD_AMP", 0x2, 0, 1, .u8, .rws, 15⟩,
   ⟨"PAD_SLEW", 0x3, 0, 1, .u8, .rws, 0⟩,
   ⟨"PAD_INVERT", 0x4, 0, 1, .bool, .rws, 0⟩,
   ⟨"PAD_PARK", 0x5, 0, 1, .u8, .rws, 0⟩,
   ⟨"PAD_N_STATIC", 0x6, 0, 1, .u8, .rws, 2⟩,
   ⟨"PAD_AUTO_INV", 0x7, 0, 1, .bool, .rws, 0⟩,
   ⟨"PAD_LOOP_REF", 0x8, 0, 1, .u8, .rws, 255⟩,
   ⟨"CH_SPARE_ALLOW", 0x9, 0, 1, .bool, .rws, 1⟩,
   ⟨"PAD_MIN_GAP", 0xa, 0, 1, .u32, .ro, 0⟩,
   ⟨"PAD_CLASS", 0xb, 0, 1, .u8, .ro, 0⟩,
   ⟨"PAD_LEVEL", 0xc, 0, 1, .u8, .ro, 0⟩] ++
  [⟨"PAD_AUTO_INVERTED", 0xd, 0, 1, .bool, .ro, 0⟩,
   ⟨"CH_LOGICAL", 0xe, 0, 1, .u16, .ro, 65535⟩]

/-- Clock-Mode Objects at OD 0x5000 + 0x20·c + 0x12 (R299). -/
def dict_clockMode : List ObjDef :=
  [⟨"CLK_SRC", 0x1, 0, 1, .u8, .rws, 0⟩,
   ⟨"CLK_DIV", 0x2, 0, 1, .u32, .rws, 1024⟩,
   ⟨"CLK_PHASE", 0x3, 0, 1, .u32, .rws, 0⟩,
   ⟨"CLK_GATED", 0x4, 0, 1, .bool, .ro, 1⟩,
   ⟨"CLK_SUBST", 0x5, 0, 1, .bool, .ro, 0⟩,
   ⟨"CLK_FREQ", 0x6, 0, 1, .u64, .ro, 0⟩]

/-- Bank Objects at OD 0x5000 + 0x20·(64 + k) + 0x10 (R313). -/
def dict_spareBank : List ObjDef :=
  [⟨"BANK_VDDO_CLASS", 0x1, 0, 1, .u8, .ro, 0⟩,
   ⟨"BANK_VDDO_MV", 0x2, 0, 1, .u32, .ro, 0⟩,
   ⟨"SP_STATE", 0x3, 0, 1, .u8, .ro, 0⟩,
   ⟨"SP_COVERS", 0x4, 0, 1, .u8, .ro, 255⟩,
   ⟨"SP_SWAP", 0x5, 0, 1, (.cmd false), .cmd, 0⟩,
   ⟨"SP_RETURN", 0x6, 0, 1, (.cmd false), .cmd, 0⟩,
   ⟨"SP_WAITING", 0x7, 0, 1, .u64, .ro, 0⟩,
   ⟨"SP_SWAPS", 0x8, 0, 1, .u64, .ro, 0⟩,
   ⟨"SP_SEARCH_FAILS", 0x9, 0, 1, .u64, .ro, 0⟩,
   ⟨"SP_LAST_FN", 0xa, 0, 1, .u64, .ro, 0⟩,
   ⟨"BANK_DEGRADED", 0xb, 0, 1, .bool, .ro, 0⟩]

/-- Pad Diagnostic Objects at OD 0x5000 + 0x20·c + 0x11 (R318). -/
def dict_padDiag : List ObjDef :=
  [⟨"PAD_DIAG", 0x1, 0, 1, .u32, .ro, 0⟩,
   ⟨"PAD_DIAG_MASK", 0x2, 0, 1, .u32, .rws, 31⟩,
   ⟨"PAD_SHUTDOWN", 0x3, 0, 1, .bool, .ro, 0⟩,
   ⟨"PAD_SWING_MV", 0x4, 0, 1, .i64, .ro, 0⟩,
   ⟨"PAD_VCM_MV", 0x5, 0, 1, .i64, .ro, 0⟩,
   ⟨"PAD_I_DRV", 0x6, 0, 1, .u32, .ro, 0⟩,
   ⟨"PAD_DETECTIONS", 0x7, 0, 1, .u64, .ro, 0⟩,
   ⟨"PAD_PROBES", 0x8, 0, 1, .u64, .ro, 0⟩]

/-- Input Pad Objects at OD 0x3000 + 0x40·n + 0x30 (R319). -/
def dict_inputPad : List ObjDef :=
  [⟨"IN_FMT", 0x1, 0, 1, .u8, .rws, 0⟩,
   ⟨"IN_TERM", 0x2, 0, 1, .u8, .rws, 0⟩,
   ⟨"IN_VTH", 0x3, 0, 1, .u32, .rws, 1250⟩,
   ⟨"IN_INVERT", 0x4, 0, 1, .bool, .rws, 0⟩,
   ⟨"IN_AUTO_INV", 0x5, 0, 1, .bool, .rws, 1⟩,
   ⟨"IN_AUTO_INVERTED", 0x6, 0, 1, .bool, .ro, 0⟩,
   ⟨"IN_DIAG", 0x7, 0, 1, .u32, .ro, 0⟩,
   ⟨"IN_EDGES", 0x8, 0, 1, .u64, .ro, 0⟩,
   ⟨"IN_DROPPED", 0x9, 0, 1, .u64, .ro, 0⟩,
   ⟨"IN_INV_TOGGLES", 0xa, 0, 1, .u64, .ro, 0⟩]

/-- Spindle and BYP Objects at OD 0x4000 (R333). -/
def dict_spindle : List ObjDef :=
  [⟨"LOSC_FREQ", 0x1, 0, 1, .u8, .ro, 0⟩,
   ⟨"SPN_STATE", 0x2, 0, 1, .u8, .ro, 0⟩,
   ⟨"SPN_BAND", 0x3, 0, 1, .u8, .ro, 0⟩,
   ⟨"SPN_STEER", 0x4, 0, 1, .i64, .ro, 0⟩,
   ⟨"SPN_STEER_CLAMPED", 0x5, 0, 1, .bool, .ro, 0⟩,
   ⟨"SPN_MARGIN_PPM", 0x6, 0, 1, .u32, .ro, 0⟩,
   ⟨"SPN_UNLOCKS", 0x7, 0, 1, .u64, .ro, 0⟩,
   ⟨"SPN_LAST_UNLOCK_FN", 0x8, 0, 1, .u64, .ro, 0⟩,
   ⟨"SPN_ON_BYP", 0x9, 0, 1, .bool, .ro, 0⟩,
   ⟨"BYP_STATE", 0xa, 0, 1, .u8, .ro, 0⟩,
   ⟨"BYP_UNLOCKS", 0xb, 0, 1, .u64, .ro, 0⟩]

/-- UT Objects at OD 0x4010 + u (R346). -/
def dict_ut : List ObjDef :=
  [⟨"UT_ENABLE", 0x1, 0, 1, .bool, .rws, 0⟩,
   ⟨"UT_NINT", 0x2, 0, 1, .u8, .rws, 39⟩,
   ⟨"UT_NFRAC", 0x3, 0, 1, .u32, .rws, 268435456⟩,
   ⟨"UT_CHANGE", 0x4, 0, 1, .u8, .rws, 0⟩,
   ⟨"UT_STEER_RATE", 0x5, 0, 1, .u8, .rws, 10⟩,
   ⟨"UT_PHASE", 0x6, 0, 1, .u8, .rws, 0⟩,
   ⟨"UT_SETTLE", 0x7, 0, 1, .u32, .rws, 2000⟩,
   ⟨"UT_SSC_MODE", 0x8, 0, 1, .u8, .rws, 0⟩,
   ⟨"UT_SSC_DEPTH", 0x9, 0, 1, .u8, .rws, 0⟩,
   ⟨"UT_SSC_FREQ", 0xa, 0, 1, .u32, .rws, 31500⟩,
   ⟨"UT_STATE", 0xb, 0, 1, .u8, .ro, 0⟩,
   ⟨"UT_BAND", 0xc, 0, 1, .u8, .ro, 255⟩] ++
  [⟨"UT_FREQ_NOW", 0xd, 0, 1, .u64, .ro, 0⟩,
   ⟨"UT_PHI_FRAMES", 0xe, 0, 1, .u32, .ro, 1⟩,
   ⟨"UT_PHASE_DET", 0xf, 0, 1, .bool, .ro, 0⟩,
   ⟨"UT_MARGIN_PPM", 0x10, 0, 1, .u32, .ro, 0⟩,
   ⟨"UT_UNLOCKS", 0x11, 0, 1, .u64, .ro, 0⟩,
   ⟨"UT_REBANDS", 0x12, 0, 1, .u64, .ro, 0⟩,
   ⟨"UT_LAST_LOCK_FN", 0x13, 0, 1, .u64, .ro, 0⟩]

/-- Band-Table Objects at OD 0x4020 + u (R347). -/
def dict_bandTable : List ObjDef :=
  [⟨"UT_BAND_TABLE", 0x1, 0, 1, (.tbl 128 16), .rws, 0⟩,
   ⟨"UT_BAND_TREF", 0x2, 0, 1, .i64, .rws, 2500⟩,
   ⟨"UT_BAND_MEASURE", 0x3, 0, 1, (.cmd false), .cmd, 0⟩,
   ⟨"UT_MEAS_TEMP", 0x4, 0, 1, .i64, .ro, 0⟩]

/-- Slot Objects at OD 0x3000 + 0x40·n (R395). -/
def dict_slot : List ObjDef :=
  [⟨"SLOT_TYPE", 0x1, 0, 1, .u8, .rws, 0⟩,
   ⟨"SLOT_RANK", 0x2, 0, 1, .u8, .rws, 15⟩,
   ⟨"SLOT_BW", 0x3, 0, 1, .u32, .rws, 0⟩,
   ⟨"SLOT_NOM_FREQ", 0x4, 0, 1, .u64, .rws, 10000000000000⟩,
   ⟨"SLOT_PRESCALE", 0x5, 0, 1, .u32, .rws, 1⟩,
   ⟨"SLOT_DELAY", 0x6, 0, 1, .dur64, .rws, 0⟩,
   ⟨"SLOT_DELAY_UNC", 0x7, 0, 1, .u32, .rws, 0⟩,
   ⟨"SLOT_STATED_BOUND", 0x8, 0, 1, .u32, .rws, 4294967295⟩,
   ⟨"SLOT_QUAL_TIME", 0x9, 0, 1, .u32, .rws, 0⟩,
   ⟨"SLOT_WTR", 0xa, 0, 1, .u32, .rws, 300⟩,
   ⟨"SLOT_FREQ_TOL", 0xb, 0, 1, .u32, .rws, 100⟩,
   ⟨"SLOT_JUMP_THRESH", 0xc, 0, 1, .u32, .rws, 104858⟩] ++
  [⟨"SLOT_JUMP_POLICY", 0xd, 0, 1, .u8, .rws, 0⟩,
   ⟨"SLOT_LOCKOUT", 0xe, 0, 1, .bool, .rws, 0⟩,
   ⟨"SLOT_SAMPLE_TIMEOUT", 0xf, 0, 1, .u32, .rws, 2000⟩,
   ⟨"SLOT_CLEAR_WTR", 0x10, 0, 1, (.cmd false), .cmd, 0⟩,
   ⟨"SLOT_LABEL", 0x11, 0, 1, (.cmd true), .cmd, 0⟩,
   ⟨"SLOT_STATE", 0x13, 0, 1, .u8, .ro, 0⟩,
   ⟨"SLOT_DISQ", 0x14, 0, 1, .u32, .ro, 0⟩,
   ⟨"SLOT_QUAL_LEFT", 0x15, 0, 1, .u32, .ro, 0⟩,
   ⟨"SLOT_WTR_LEFT", 0x16, 0, 1, .u32, .ro, 0⟩,
   ⟨"SLOT_PHASE", 0x17, 0, 1, .i64, .ro, 0⟩,
   ⟨"SLOT_FREQ_OFF", 0x18, 0, 1, .i64, .ro, 0⟩,
   ⟨"SLOT_TIE_RMS", 0x19, 0, 1, .u32, .ro, 4294967295⟩] ++
  [⟨"SLOT_LABELLED", 0x1a, 0, 1, .bool, .ro, 0⟩,
   ⟨"SLOT_LAST_EDGE", 0x1b, 0, 1, .time92, .ro, 0⟩,
   ⟨"SLOT_EDGE_SEQ", 0x1d, 0, 1, .u64, .ro, 0⟩,
   ⟨"SLOT_DISAGREE_WITH", 0x1e, 0, 1, .u32, .ro, 0⟩,
   ⟨"SLOT_SAMPLES", 0x1f, 0, 1, .u64, .ro, 0⟩,
   ⟨"SLOT_DISQUALS", 0x20, 0, 1, .u64, .ro, 0⟩,
   ⟨"HT_SAMPLE", 0x21, 0, 1, (.cmd true), .cmd, 0⟩,
   ⟨"SLOT_SAMPLE_BOUND", 0x23, 0, 1, .u32, .ro, 4294967295⟩,
   ⟨"SLOT_LAST_JUMP", 0x24, 0, 1, .i64, .ro, 0⟩]

/-- Headstock Objects at OD 0x3700 (R396). -/
def dict_headstock : List ObjDef :=
  [⟨"HS_SELECTED", 0x1, 0, 1, .u8, .ro, 255⟩,
   ⟨"HS_STATE", 0x2, 0, 1, .u8, .ro, 0⟩,
   ⟨"HS_SLOPE", 0x3, 0, 1, .u64, .rws, 1000000000⟩,
   ⟨"HS_REVERTIVE", 0x4, 0, 1, .bool, .rws, 1⟩,
   ⟨"HS_FORCE", 0x5, 0, 1, .u8, .rws, 255⟩,
   ⟨"HS_SWITCH_REMAIN", 0x6, 0, 1, .i64, .ro, 0⟩,
   ⟨"HS_SWITCHES", 0x7, 0, 1, .u64, .ro, 0⟩,
   ⟨"HS_LAST_SWITCH_FN", 0x8, 0, 1, .u64, .ro, 0⟩,
   ⟨"HS_DISAGREE", 0x9, 0, 1, .bool, .ro, 0⟩,
   ⟨"HS_DISAGREE_TERM", 0xa, 0, 1, .u32, .ro, 0⟩,
   ⟨"HS_ALIGN_FN", 0xb, 0, 1, .u64, .ro, 0⟩,
   ⟨"HS_SERVO_ERR", 0xc, 0, 1, .i64, .ro, 0⟩] ++
  [⟨"HS_PHASE_SLOPE", 0xd, 0, 1, .i64, .ro, 0⟩,
   ⟨"HS_PRED_VALID", 0xe, 0, 1, .bool, .ro, 0⟩]

/-- Steady Rest Objects at OD 0x3800 (R419). -/
def dict_steadyRest : List ObjDef :=
  [⟨"SR_STATE", 0x1, 0, 1, .u8, .ro, 0⟩,
   ⟨"DEV_BOUND", 0x2, 0, 1, .u32, .ro, 4294967295⟩,
   ⟨"DEV_BOUND_FLAGS", 0x3, 0, 1, .u8, .ro, 2⟩,
   ⟨"SR_TERMS", 0x4, 0, 1, (.tbl 10 4), .ro, 0⟩,
   ⟨"SR_HOLD_AGE", 0x5, 0, 1, .u64, .ro, 4294967295⟩,
   ⟨"SR_LEARN_WINDOW", 0x6, 0, 1, .u32, .rws, 86400⟩,
   ⟨"SR_LEARN_MIN", 0x7, 0, 1, .u32, .rws, 1800⟩,
   ⟨"SR_LEARNED", 0x8, 0, 1, .u32, .ro, 0⟩,
   ⟨"SR_F0", 0x9, 0, 1, .i64, .ro, 0⟩,
   ⟨"SR_DRIFT", 0xa, 0, 1, .i64, .ro, 0⟩,
   ⟨"SR_TEMPCO", 0xb, 0, 1, .i64, .ro, 0⟩,
   ⟨"SR_B_UNC", 0xc, 0, 1, .u64, .ro, 0⟩] ++
  [⟨"SR_C_UNC", 0xd, 0, 1, .u64, .ro, 0⟩,
   ⟨"SR_B_FLOOR", 0xe, 0, 1, .u64, .rws, 10000000⟩,
   ⟨"SR_FSTAB_FREQ", 0xf, 0, 1, .u64, .rws, 10000000⟩,
   ⟨"SR_FSTAB_ATOMIC", 0x10, 0, 1, .u64, .rws, 1000000⟩,
   ⟨"SR_FSTAB_SYNCE", 0x11, 0, 1, .u64, .rws, 10000000⟩,
   ⟨"SR_LOSC_STAB", 0x12, 0, 1, .u64, .rws, 1000000000⟩,
   ⟨"SR_LOSC_AGE", 0x13, 0, 1, .u64, .rws, 579⟩,
   ⟨"SR_HOLD_MAX", 0x14, 0, 1, .u32, .rws, 604800⟩,
   ⟨"SR_SPN_TERM", 0x15, 0, 1, .u32, .ro, 3⟩,
   ⟨"SR_CAL_TERM", 0x16, 0, 1, .u32, .ro, 5⟩,
   ⟨"SR_ABSORB_TERM", 0x17, 0, 1, .u32, .ro, 0⟩,
   ⟨"SR_BYP_TERM", 0x18, 0, 1, .u32, .ro, 0⟩] ++
  [⟨"SR_LAST_RETURN_JUMP", 0x19, 0, 1, .i64, .ro, 0⟩,
   ⟨"SR_REJECTED", 0x1a, 0, 1, .u32, .ro, 0⟩,
   ⟨"SR_REJECT_CLEAR", 0x1b, 0, 1, (.cmd false), .cmd, 0⟩,
   ⟨"DEV_BOUND_ALARM", 0x1c, 0, 1, .u32, .rws, 4294967295⟩]

/-- Epoch Record Objects at OD 0xC010 (R427). -/
def dict_epochRecord : List ObjDef :=
  [⟨"ER_LATEST", 0x1, 0, 1, .blob, .ro, 0⟩,
   ⟨"ER_HISTORY", 0x2, 0, 1, (.tbl 64 128), .ro, 0⟩,
   ⟨"ER_SEQ", 0x3, 0, 1, .u64, .ro, 0⟩,
   ⟨"ER_BOOT", 0x4, 0, 1, .u32, .ro, 0⟩,
   ⟨"ER_PUBKEY", 0x5, 0, 1, .blob, .ro, 0⟩,
   ⟨"ER_CERT", 0x6, 0, 1, .blob, .ro, 0⟩,
   ⟨"ER_SKIPPED", 0x7, 0, 1, .u64, .ro, 0⟩]

/-- Calibration Objects at OD 0x8000 (R463). -/
def dict_calibration : List ObjDef :=
  [⟨"CAL_AUTO", 0x1, 0, 1, .bool, .rws, 1⟩,
   ⟨"CAL_TEMP_TRIG", 0x2, 0, 1, .u32, .rws, 200⟩,
   ⟨"CAL_PERIOD", 0x3, 0, 1, .u32, .rws, 0⟩,
   ⟨"CAL_RETRY", 0x4, 0, 1, .u32, .rws, 1000⟩,
   ⟨"CAL_OVERDUE", 0x5, 0, 1, .u32, .rws, 86400⟩,
   ⟨"CAL_VERIFY_LIMIT", 0x6, 0, 1, .u32, .rws, 10⟩,
   ⟨"CAL_SPREAD_MAX", 0x7, 0, 1, .u32, .rws, 20⟩,
   ⟨"CAL_ALL", 0x8, 0, 1, (.cmd false), .cmd, 0⟩,
   ⟨"CAL_TRACE_EN", 0x9, 0, 1, .bool, .rws, 0⟩,
   ⟨"CAL_REF_STATE", 0xa, 0, 1, .u8, .ro, 0⟩,
   ⟨"CAL_REF_FREQ_OFF", 0xb, 0, 1, .i64, .ro, 0⟩,
   ⟨"CAL_REF_PHASE", 0xc, 0, 1, .i64, .ro, 0⟩] ++
  [⟨"CAL_LAST_INVALID", 0xd, 0, 1, .u32, .ro, 0⟩,
   ⟨"CAL_LAST_INVALID_FN", 0xe, 0, 1, .u64, .ro, 0⟩,
   ⟨"CAL_DONE", 0xf, 0, 1, .u64, .ro, 0⟩,
   ⟨"CAL_ABORTS", 0x10, 0, 1, .u64, .ro, 0⟩,
   ⟨"CAL_OVERDUE_BANKS", 0x11, 0, 1, .u8, .ro, 0⟩,
   ⟨"CAL_SEQ", 0x12, 0, 1, .u64, .ro, 0⟩,
   ⟨"CAL_COUNT", 0x13, 0, 1, .u32, .ro, 0⟩,
   ⟨"CAL_TIME", 0x14, 0, 1, .time92, .ro, 0⟩,
   ⟨"CAL_STORE", 0x16, 0, 1, (.cmd false), .cmd, 0⟩,
   ⟨"CAL_STORE_MIN", 0x17, 0, 1, .u32, .rws, 600⟩,
   ⟨"CAL_DIRTY", 0x18, 0, 1, .bool, .ro, 0⟩]

/-- Bank Calibration Objects at OD 0x8030 + k (R465). -/
def dict_bankCal : List ObjDef :=
  [⟨"CALB_STATE", 0x1, 0, 1, .u8, .ro, 0⟩,
   ⟨"CALB_CORE", 0x2, 0, 1, .u8, .ro, 255⟩,
   ⟨"CALB_POINTS", 0x3, 0, 1, .u16, .ro, 0⟩,
   ⟨"CALB_QUEUE", 0x4, 0, 1, .u16, .ro, 0⟩,
   ⟨"CALB_SPARE_BUSY", 0x5, 0, 1, .bool, .ro, 0⟩,
   ⟨"CALB_FN", 0x6, 0, 1, .u64, .ro, 0⟩]

/-- Core Calibration Objects at OD 0x5000 + 0x20·c + 0x08 (R466). -/
def dict_coreCal : List ObjDef :=
  [⟨"CORE_CAL_REQUEST", 0x1, 0, 1, (.cmd false), .cmd, 0⟩,
   ⟨"CORE_CAL_REASON", 0x2, 0, 1, .u8, .ro, 0⟩,
   ⟨"CORE_CAL_STATE", 0x3, 0, 1, .u8, .ro, 0⟩,
   ⟨"CORE_CAL_AGE", 0x4, 0, 1, .u32, .ro, 0⟩,
   ⟨"CORE_CAL_OVERDUE", 0x5, 0, 1, .bool, .ro, 0⟩,
   ⟨"CORE_CAL_COUNT", 0x6, 0, 1, .u64, .ro, 0⟩,
   ⟨"CORE_CAL_FN", 0x7, 0, 1, .u64, .ro, 0⟩,
   ⟨"CORE_CAL_FAILS", 0x8, 0, 1, .u8, .ro, 0⟩,
   ⟨"CORE_VERIFY_DEV", 0x9, 0, 1, .u32, .ro, 0⟩,
   ⟨"CORE_REF", 0xa, 0, 1, .i64, .ro, 0⟩]

/-- Anchor and Audit Objects at OD 0x5000 + 0x20·c + 0x09 (R467). -/
def dict_anchorAudit : List ObjDef :=
  [⟨"ANC_OWN", 0x1, 0, 1, .i64, .ro, 0⟩,
   ⟨"ANC_OWN_UNC", 0x2, 0, 1, .u32, .ro, 0⟩,
   ⟨"ANC_SPARE", 0x3, 0, 1, .i64, .ro, 0⟩,
   ⟨"ANC_SPARE_UNC", 0x4, 0, 1, .u32, .ro, 0⟩,
   ⟨"ANC_SOURCE", 0x5, 0, 1, .u8, .ro, 0⟩,
   ⟨"ANC_FN", 0x6, 0, 1, .u64, .ro, 0⟩,
   ⟨"AUDIT_STATE", 0x7, 0, 1, .u8, .ro, 0⟩,
   ⟨"AUDIT_TARGET", 0x8, 0, 1, .i64, .ro, 0⟩,
   ⟨"AUDIT_RESID", 0x9, 0, 1, .u32, .ro, 2⟩,
   ⟨"AUDIT_LAST_MEAN", 0xa, 0, 1, .i64, .ro, 0⟩,
   ⟨"AUDIT_BLOCKS", 0xb, 0, 1, .u64, .ro, 0⟩,
   ⟨"AUDIT_REJECTS", 0xc, 0, 1, .u64, .ro, 0⟩]

/-- Stack Objects at OD 0xA000 (R490). -/
def dict_stack : List ObjDef :=
  [⟨"STK_ROLE", 0x1, 0, 1, .u8, .rws, 0⟩,
   ⟨"STK_POSITION", 0x2, 0, 1, .u8, .rws, 0⟩,
   ⟨"STK_STATE", 0x3, 0, 1, .u8, .ro, 0⟩,
   ⟨"STK_ASYM", 0x4, 0, 1, .i64, .rws, 0⟩,
   ⟨"STK_PATH_UNC", 0x5, 0, 1, .u32, .rws, 4294967295⟩,
   ⟨"STK_OFFSET", 0x6, 0, 1, .i64, .ro, 0⟩,
   ⟨"STK_SKEW_TERM", 0x7, 0, 1, .u32, .ro, 4294967295⟩,
   ⟨"STK_MSG_AGE", 0x8, 0, 1, .u32, .ro, 4294967295⟩,
   ⟨"STK_MSGS", 0x9, 0, 1, .u64, .ro, 0⟩,
   ⟨"STK_MSG_ERRORS", 0xa, 0, 1, .u64, .ro, 0⟩,
   ⟨"STK_ALERTS", 0xb, 0, 1, .u64, .ro, 0⟩,
   ⟨"STK_LOSSES", 0xc, 0, 1, .u64, .ro, 0⟩] ++
  [⟨"STK_FOLLOW_STEER", 0xd, 0, 1, .i64, .ro, 0⟩,
   ⟨"STK_MEMBERS", 0x10, 0, 1, .u16, .ro, 0⟩,
   ⟨"STK_FOLLOWING", 0x11, 0, 1, .u16, .ro, 0⟩,
   ⟨"STK_DELAY", 0x12, 0, 1, (.tbl 16 4), .ro, 0⟩]

/-- Fabric Objects at OD 0xA010 (R511). -/
def dict_fabric : List ObjDef :=
  [⟨"FAB_ENABLE", 0x1, 0, 1, .bool, .rws, 0⟩,
   ⟨"FAB_UID", 0x2, 0, 1, .u64, .ro, 0⟩,
   ⟨"FAB_PRIORITY", 0x3, 0, 1, .u8, .rws, 128⟩,
   ⟨"FAB_ADDR_PIN", 0x4, 0, 1, .u16, .rws, 65535⟩,
   ⟨"FAB_LEASE", 0x5, 0, 1, .u32, .rws, 60⟩,
   ⟨"FAB_ADDR", 0x6, 0, 1, .u16, .ro, 65535⟩,
   ⟨"FAB_ADDR_GEN", 0x7, 0, 1, .u8, .ro, 0⟩,
   ⟨"FAB_ROOT_UID", 0x8, 0, 1, .u64, .ro, 0⟩,
   ⟨"FAB_ROOT_DIST", 0x9, 0, 1, .u8, .ro, 255⟩,
   ⟨"FAB_TDEPTH", 0xa, 0, 1, .u8, .ro, 15⟩,
   ⟨"FAB_ROUTES", 0xb, 0, 1, (.tbl 4096 8), .ro, 0⟩,
   ⟨"FAB_LEASES", 0xc, 0, 1, (.tbl 4096 16), .ro, 0⟩] ++
  [⟨"FAB_EVT_SUBS", 0xd, 0, 1, (.tbl 8 8), .rws, 0⟩,
   ⟨"FAB_REACHABLE", 0xe, 0, 1, .u16, .ro, 0⟩,
   ⟨"FAB_STALE", 0xf, 0, 1, .u64, .ro, 0⟩,
   ⟨"FAB_EXPIRED", 0x10, 0, 1, .u64, .ro, 0⟩,
   ⟨"FAB_RESIDENCE_DROPS", 0x11, 0, 1, .u64, .ro, 0⟩,
   ⟨"FAB_NO_ROUTE", 0x12, 0, 1, .u64, .ro, 0⟩,
   ⟨"FAB_MGMT_TIMEOUTS", 0x13, 0, 1, .u64, .ro, 0⟩]

/-- Link Objects at OD 0xA020 + k (R513). -/
def dict_link : List ObjDef :=
  [⟨"TN_ENABLE", 0x1, 0, 1, .bool, .rws, 0⟩,
   ⟨"TN_STATE", 0x2, 0, 1, .u8, .ro, 0⟩,
   ⟨"TN_PEER_UID", 0x3, 0, 1, .u64, .ro, 0⟩,
   ⟨"TN_PEER_LINK", 0x4, 0, 1, .u8, .ro, 255⟩,
   ⟨"TN_TIME_EN", 0x5, 0, 1, .bool, .rws, 1⟩,
   ⟨"TN_ASYM", 0x6, 0, 1, .i64, .rws, 0⟩,
   ⟨"TN_ASYM_UNC", 0x7, 0, 1, .u32, .rws, 4294967295⟩,
   ⟨"TN_ASYM_CAL", 0x8, 0, 1, (.cmd false), .cmd, 0⟩,
   ⟨"TN_ASYM_RESULT", 0x9, 0, 1, .i64, .ro, 0⟩,
   ⟨"TN_ASYM_RESULT_UNC", 0xa, 0, 1, .u32, .ro, 4294967295⟩,
   ⟨"TN_DELAY", 0xb, 0, 1, .i64, .ro, 0⟩,
   ⟨"TN_OFFSET", 0xc, 0, 1, .i64, .ro, 0⟩] ++
  [⟨"TN_LINK_TERM", 0xd, 0, 1, .u32, .ro, 4294967295⟩,
   ⟨"TN_EXCHANGES", 0xe, 0, 1, .u64, .ro, 0⟩,
   ⟨"TN_HELLO_MISSED", 0xf, 0, 1, .u64, .ro, 0⟩,
   ⟨"TN_BLOCK_ERRORS", 0x10, 0, 1, .u64, .ro, 0⟩,
   ⟨"TN_DOWNS", 0x11, 0, 1, .u64, .ro, 0⟩]

/-- BAR0 Objects at OD 0x2002 (R538). -/
def dict_bar0 : List ObjDef :=
  [⟨"BAR0_SESSION", 0x1, 0, 1, .u8, .rw, 255⟩,
   ⟨"BAR0_OPEN", 0x2, 0, 1, (.cmd false), .cmd, 0⟩,
   ⟨"BAR0_RESULT", 0x3, 0, 1, .u64, .ro, 0⟩]

/-- Table Port Objects at OD 0x2001 (R539). -/
def dict_tablePort : List ObjDef :=
  [⟨"TBL_SEL", 0x1, 0, 1, .u64, .rw, 0⟩,
   ⟨"TBL_PUT", 0x2, 0, 1, (.cmd false), .cmd, 0⟩,
   ⟨"TBL_WORD", 0x10, 1, 16, .u64, .rw, 0⟩]

/-- Security Objects at OD 0xC000 (R551). -/
def dict_security : List ObjDef :=
  [⟨"WOP_CERT", 0x1, 0, 1, .blob, .ro, 0⟩,
   ⟨"WOP_TRUST", 0x2, 0, 1, (.tbl 8 64), .rws, 0⟩,
   ⟨"PRINCIPALS", 0x3, 0, 1, (.tbl 64 64), .rws, 0⟩,
   ⟨"QP_PRIV_1", 0x4, 0, 1, .u8, .rws, 0⟩,
   ⟨"QP_PRIV_2", 0x5, 0, 1, .u8, .rws, 0⟩,
   ⟨"QP_PRIV_3", 0x6, 0, 1, .u8, .rws, 0⟩,
   ⟨"WOP_CHANNELS", 0x7, 0, 1, .u8, .ro, 0⟩,
   ⟨"WOP_AUTH_FAILS", 0x8, 0, 1, .u64, .ro, 0⟩,
   ⟨"WOP_REPLAYS", 0x9, 0, 1, .u64, .ro, 0⟩,
   ⟨"WOP_IDLE", 0xa, 0, 1, .u32, .rws, 60⟩]

/-- Identity Objects at OD 0x1000 (R552). -/
def dict_identity : List ObjDef :=
  [⟨"ID_VENDOR", 0x1, 0, 1, .str, .ro, 2574115460306667510019499924231295256260405581⟩,
   ⟨"ID_FAMILY", 0x2, 0, 1, .str, .ro, 8241990192134387014⟩,
   ⟨"ID_DEVICE", 0x3, 0, 1, .str, .ro, 3762249751278867028⟩,
   ⟨"ID_GRADE", 0x4, 0, 1, .u8, .ro, 0⟩,
   ⟨"ID_SILICON", 0x5, 0, 1, .u16, .ro, 176⟩,
   ⟨"ID_UID", 0x6, 0, 1, .u64, .ro, 0⟩,
   ⟨"ID_SERIAL", 0x7, 0, 1, .str, .ro, 0⟩,
   ⟨"ID_FW_VERSION", 0x8, 0, 1, .u32, .ro, 0⟩,
   ⟨"ID_OD_VERSION", 0x9, 0, 1, .u16, .ro, 256⟩,
   ⟨"ID_BOOT", 0xa, 0, 1, .u32, .ro, 0⟩,
   ⟨"ID_PERSONALITY", 0xb, 0, 1, .u8, .ro, 0⟩]

/-- Mode Objects at OD 0x2000 (R553). -/
def dict_modeObjs : List ObjDef :=
  [⟨"MODE", 0x1, 0, 1, .u8, .ro, 0⟩,
   ⟨"MODE_REQUEST", 0x2, 0, 1, (.cmd false), .cmd, 0⟩,
   ⟨"MODE_PREV", 0x3, 0, 1, .u8, .ro, 0⟩,
   ⟨"MODE_FN", 0x4, 0, 1, .u64, .ro, 0⟩,
   ⟨"MODE_PENDING", 0x5, 0, 1, .u8, .ro, 255⟩,
   ⟨"MODE_PENDING_FN", 0x6, 0, 1, .u64, .ro, 0⟩,
   ⟨"MODE_TRANSITIONS", 0x7, 0, 1, .u64, .ro, 0⟩,
   ⟨"MODE_CAUSE", 0x8, 0, 1, .u8, .ro, 0⟩]

/-- Session Objects at OD 0x2020 + k (R554). -/
def dict_session : List ObjDef :=
  [⟨"SESS_STATE", 0x1, 0, 1, .u8, .ro, 0⟩,
   ⟨"SESS_GEN", 0x2, 0, 1, .u8, .ro, 0⟩,
   ⟨"SESS_OWNER", 0x3, 0, 1, .u64, .ro, 0⟩,
   ⟨"SESS_LEASE", 0x4, 0, 1, .u32, .rw, 10000⟩,
   ⟨"SESS_LEASE_LEFT", 0x5, 0, 1, .u32, .ro, 0⟩,
   ⟨"SESS_STAGED", 0x6, 0, 1, .u16, .ro, 0⟩,
   ⟨"SESS_COMMIT", 0x7, 0, 1, (.cmd false), .cmd, 0⟩,
   ⟨"SESS_DISCARD", 0x8, 0, 1, (.cmd false), .cmd, 0⟩,
   ⟨"SESS_CLOSE", 0x9, 0, 1, (.cmd false), .cmd, 0⟩,
   ⟨"SESS_COMMIT_STATE", 0xa, 0, 1, .u8, .ro, 0⟩,
   ⟨"SESS_COMMIT_FN", 0xb, 0, 1, .u64, .ro, 0⟩,
   ⟨"SESS_COMMIT_RESULT", 0xc, 0, 1, .u8, .ro, 0⟩] ++
  [⟨"SESS_COMMIT_OBJ", 0xd, 0, 1, .u32, .ro, 0⟩,
   ⟨"SESS_COMMITS", 0xe, 0, 1, .u64, .ro, 0⟩,
   ⟨"SESS_STALE", 0xf, 0, 1, .u64, .ro, 0⟩,
   ⟨"SESS_LAST_BREAK", 0x10, 0, 1, .u8, .ro, 0⟩,
   ⟨"SESS_STAGED_LIST", 0x11, 0, 1, (.tbl 8192 8), .ro, 0⟩]

/-- Fault Collector Objects at OD 0x9000 (R585). -/
def dict_collector : List ObjDef :=
  [⟨"FC_CONFIG", 0x1, 0, 1, (.tbl 128 8), .rws, 0⟩,
   ⟨"FC_RECORDS", 0x2, 0, 1, (.tbl 128 64), .ro, 0⟩,
   ⟨"FC_COUNT", 0x3, 0, 1, (.tbl 128 8), .ro, 0⟩,
   ⟨"FC_WINDOW_COUNT", 0x4, 0, 1, (.tbl 128 2), .ro, 0⟩,
   ⟨"FC_LIVE_LO", 0x5, 0, 1, .u64, .ro, 0⟩,
   ⟨"FC_LIVE_HI", 0x6, 0, 1, .u64, .ro, 0⟩,
   ⟨"FC_SEVERE_LO", 0x7, 0, 1, .u64, .ro, 0⟩,
   ⟨"FC_SEVERE_HI", 0x8, 0, 1, .u64, .ro, 0⟩,
   ⟨"FC_HELD_LO", 0x9, 0, 1, .u64, .ro, 0⟩,
   ⟨"FC_HELD_HI", 0xa, 0, 1, .u64, .ro, 0⟩,
   ⟨"FC_CLEAR", 0xb, 0, 1, (.cmd false), .cmd, 0⟩,
   ⟨"FC_SEQ", 0xc, 0, 1, .u32, .ro, 1⟩] ++
  [⟨"FC_STALE_CLEARS", 0xd, 0, 1, .u64, .ro, 0⟩,
   ⟨"FC_CONSEQ", 0xe, 0, 1, .u64, .ro, 0⟩,
   ⟨"FC_MERGED", 0xf, 0, 1, .u64, .ro, 0⟩,
   ⟨"FC_ESC_LIMIT", 0x10, 0, 1, .u16, .rws, 8⟩,
   ⟨"FC_ESC_WINDOW", 0x11, 0, 1, .u32, .rws, 86400⟩,
   ⟨"FC_ESCALATIONS", 0x12, 0, 1, .u64, .ro, 0⟩,
   ⟨"REPLACE_REASON", 0x13, 0, 1, .u32, .ro, 0⟩,
   ⟨"FC_DEGRADE_CLEAR", 0x14, 0, 1, (.cmd false), .cmd, 0⟩,
   ⟨"FC_LOG", 0x15, 0, 1, (.tbl 1024 32), .ro, 0⟩,
   ⟨"FC_LOG_HEAD", 0x16, 0, 1, .u64, .ro, 0⟩,
   ⟨"FC_IRQ_MASK_LO", 0x17, 0, 1, .u64, .rws, 18446744073709551615⟩,
   ⟨"FC_IRQ_MASK_HI", 0x18, 0, 1, .u64, .rws, 18446744073709551615⟩] ++
  [⟨"FC_WOP_SUBS", 0x19, 0, 1, (.tbl 64 1), .rws, 0⟩,
   ⟨"FC_SHADOWS", 0x1a, 0, 1, .u16, .ro, 0⟩,
   ⟨"FC_ECC_CORRECTED", 0x1b, 0, 1, .u64, .ro, 0⟩]

/-- COMPAT Objects at OD 0xE000 (R606). -/
def dict_compat : List ObjDef :=
  [⟨"CPT_CH_BASE", 0x1, 0, 1, .u8, .rws, 0⟩,
   ⟨"CPT_POLICY", 0x2, 0, 1, .u8, .rws, 1⟩,
   ⟨"CPT_STATUS", 0x3, 0, 1, .u32, .ro, 0⟩,
   ⟨"CPT_REVISION", 0x4, 0, 1, .u16, .ro, 520⟩]

/-- COMPAT Channel Objects at OD 0xE100 + k (R606). -/
def dict_compatCh : List ObjDef :=
  [⟨"C_MODE", 0x1, 0, 1, .u8, .rws, 0⟩,
   ⟨"C_REF", 0x2, 0, 1, .u8, .rws, 0⟩,
   ⟨"C_DELAY_PS", 0x3, 0, 1, .i64, .rws, 50000⟩,
   ⟨"C_WIDTH_PS", 0x4, 0, 1, .i64, .rws, 10000⟩,
   ⟨"C_PERIOD_PS", 0x5, 0, 1, .i64, .rws, 1000000⟩,
   ⟨"C_COUNT", 0x6, 0, 1, .u32, .rws, 1⟩,
   ⟨"C_INVERT", 0x7, 0, 1, .bool, .rws, 0⟩,
   ⟨"C_NATIVE", 0x8, 0, 1, .u8, .ro, 0⟩]

/-- COMPAT Reference Objects at OD 0xE200 + r (R606). -/
def dict_compatRef : List ObjDef :=
  [⟨"R_TYPE", 0x1, 0, 1, .u8, .rws, 0⟩,
   ⟨"R_PRIORITY", 0x2, 0, 1, .u8, .rws, 8⟩,
   ⟨"R_DELAY_PS", 0x3, 0, 1, .i64, .rws, 0⟩,
   ⟨"R_STATE", 0x4, 0, 1, .u8, .ro, 0⟩]

/-- Telemetry Objects at OD 0xD000 (R632). -/
def dict_telemetry : List ObjDef :=
  [⟨"TEL_PERIOD", 0x1, 0, 1, .u16, .rws, 100⟩,
   ⟨"TEL_TEMP_MAX", 0x2, 0, 1, .i64, .ro, 0⟩,
   ⟨"TEL_TEMP", 0x3, 0, 1, (.tbl 8 8), .ro, 0⟩,
   ⟨"TEL_VDD_MV", 0x4, 0, 1, .u32, .ro, 0⟩,
   ⟨"TEL_VDDA_MV", 0x5, 0, 1, .u32, .ro, 0⟩,
   ⟨"TEL_VDDIO_MV", 0x6, 0, 1, .u32, .ro, 0⟩,
   ⟨"TEL_VDDH_MV", 0x7, 0, 1, .u32, .ro, 0⟩,
   ⟨"TEL_POWER_MW", 0x8, 0, 1, .u32, .ro, 0⟩,
   ⟨"TEL_POWER_RAIL", 0x9, 0, 1, (.tbl 12 4), .ro, 0⟩,
   ⟨"TEL_RECORDS", 0xa, 0, 1, .u64, .ro, 0⟩]

/-- LOGICAL_MAP (R323). -/
def dict_logicalMap : List ObjDef :=
  [⟨"LOGICAL_MAP", 0x1, 0, 1, (.tbl 1024 8), .rws, 0⟩]

/-- start (R197). -/
def dict_start : List ObjDef :=
  [⟨"SQ_START", 0x1, 0, 1, (.cmd true), .cmd, 0⟩,
   ⟨"SQ_STACK_MASK", 0x3, 0, 1, .u8, .rws, 0⟩,
   ⟨"SQ_STACK_RESULT", 0x4, 0, 1, .u16, .ro, 0⟩,
   ⟨"SQ_START_FN", 0x5, 0, 1, .u64, .ro, 0⟩]

/-- nvm (R464). -/
def dict_nvm : List ObjDef :=
  [⟨"NVM_LIFE_PCT", 0x1, 0, 1, .u8, .ro, 100⟩,
   ⟨"NVM_SLOT_WRITES", 0x2, 0, 1, (.tbl 32 4), .ro, 0⟩,
   ⟨"NVM_SET_BANK", 0x3, 0, 1, .u8, .ro, 0⟩,
   ⟨"NVM_SET_SLOT", 0x4, 0, 1, .u8, .ro, 0⟩,
   ⟨"NVM_STORES", 0x5, 0, 1, .u64, .ro, 0⟩,
   ⟨"NVM_STORE_FAILS", 0x6, 0, 1, .u64, .ro, 0⟩,
   ⟨"NVM_BOOT_REJECTED", 0x7, 0, 1, .u8, .ro, 0⟩,
   ⟨"NVM_STATE", 0x8, 0, 1, .u8, .ro, 0⟩]

/-- anchor (R464). -/
def dict_anchorProc : List ObjDef :=
  [⟨"ANC_RUN", 0x1, 0, 1, (.cmd false), .cmd, 0⟩,
   ⟨"ANC_FIXTURE_DELAY", 0x2, 0, 1, .dur64, .rws, 0⟩,
   ⟨"ANC_FIXTURE_UNC", 0x3, 0, 1, .u32, .rws, 4294967295⟩,
   ⟨"ANC_EDGES", 0x4, 0, 1, .u32, .rws, 4096⟩,
   ⟨"ANC_STATE", 0x5, 0, 1, .u8, .ro, 0⟩]

/-- host (R622). -/
def dict_host : List ObjDef :=
  [⟨"ETH_ENABLE", 0x10, 0, 1, .bool, .rws, 0⟩,
   ⟨"ETH_MODE", 0x11, 0, 1, .u8, .rws, 0⟩,
   ⟨"ETH_MAC", 0x12, 0, 1, .u64, .rws, 0⟩,
   ⟨"ETH_VLAN", 0x13, 0, 1, .u16, .rws, 65535⟩,
   ⟨"ETH_IPV4", 0x14, 0, 1, .u64, .rws, 0⟩,
   ⟨"ETH_IPV4_GW", 0x15, 0, 1, .u32, .rws, 0⟩,
   ⟨"ETH_IPV6", 0x16, 0, 1, (.tbl 2 16), .rws, 0⟩,
   ⟨"ETH_IPV6_PREFIX", 0x17, 0, 1, .u8, .rws, 64⟩,
   ⟨"ETH_UDP_PORT", 0x18, 0, 1, .u16, .rws, 47264⟩,
   ⟨"ETH_LINK", 0x19, 0, 1, .u8, .ro, 0⟩,
   ⟨"ETH_RX_DATAGRAMS", 0x1a, 0, 1, .u64, .ro, 0⟩,
   ⟨"ETH_RX_DROPPED", 0x1b, 0, 1, .u64, .ro, 0⟩] ++
  [⟨"FL_SLOTS", 0x28, 0, 1, (.tbl 2 8), .ro, 0⟩,
   ⟨"FL_TARGET", 0x29, 0, 1, .u8, .rw, 0⟩,
   ⟨"FL_ERASE", 0x2a, 0, 1, (.cmd false), .cmd, 0⟩,
   ⟨"FL_DATA", 0x2b, 0, 1, (.tbl 8192 128), .rwi, 0⟩,
   ⟨"FL_VERIFY", 0x2c, 0, 1, (.cmd false), .cmd, 0⟩,
   ⟨"FL_STATE", 0x2d, 0, 1, .u8, .ro, 0⟩,
   ⟨"ER_WOP_SUBS", 0x20, 0, 1, (.tbl 64 1), .rws, 0⟩]

/-- qp (R613). -/
def dict_queuePairs : List ObjDef :=
  [⟨"QP_ENABLE", 0x40, 16, 4, .bool, .rws, 0⟩,
   ⟨"QP_SQ_BASE", 0x41, 16, 4, .u64, .rws, 0⟩,
   ⟨"QP_CQ_BASE", 0x42, 16, 4, .u64, .rws, 0⟩,
   ⟨"QP_REC_BASE", 0x43, 16, 4, .u64, .rws, 0⟩,
   ⟨"QP_SIZES", 0x44, 16, 4, .u32, .rws, 0⟩,
   ⟨"QP_SQ_TAIL", 0x45, 16, 4, .u32, .rwi, 0⟩,
   ⟨"QP_SQ_HEAD", 0x46, 16, 4, .u32, .ro, 0⟩,
   ⟨"QP_CQ_HEAD", 0x47, 16, 4, .u32, .rwi, 0⟩,
   ⟨"QP_CQ_TAIL", 0x48, 16, 4, .u32, .ro, 0⟩,
   ⟨"QP_REC_HEAD", 0x49, 16, 4, .u32, .rwi, 0⟩,
   ⟨"QP_REC_TAIL", 0x4a, 16, 4, .u32, .ro, 0⟩,
   ⟨"QP_REC_SEL", 0x4b, 16, 4, .u8, .rws, 0⟩] ++
  [⟨"QP_STATE", 0x4c, 16, 4, .u8, .ro, 0⟩,
   ⟨"QP_REC_DROPPED", 0x4d, 16, 4, .u64, .ro, 0⟩,
   ⟨"QP_INFLIGHT", 0x4e, 16, 4, .u16, .ro, 0⟩]

/-- The object table that stands at an index (R519, R520). -/
def dictAt (i : Nat) : List ObjDef :=
  if i = 0x2010 then dict_timescale
  else if 0x6100 ≤ i ∧ i < 0x6200 then dict_timingSet
  else if 0x6010 ≤ i ∧ i < 0x6018 then dict_seqVector
  else if 0x6200 ≤ i ∧ i < 0x6240 then dict_template
  else if 0x6020 ≤ i ∧ i < 0x6028 then dict_seqControl
  else if i = 0x6300 then dict_segTable
  else if i = 0x6400 then dict_placement
  else if 0x6420 ≤ i ∧ i < 0x6428 then dict_seqPlacement
  else if 0x6430 ≤ i ∧ i < 0x6440 then dict_memBank
  else if i = 0xb100 then dict_windows
  else if i = 0x7000 then dict_arbitration
  else if 0x7010 ≤ i ∧ i < 0x7020 then dict_bankArbiter
  else if 0x7020 ≤ i ∧ i < 0x7030 then dict_scheduler
  else if i = 0x4000 then dict_spindle
  else if 0x4010 ≤ i ∧ i < 0x4014 then dict_ut
  else if 0x4020 ≤ i ∧ i < 0x4024 then dict_bandTable
  else if i = 0x3700 then dict_headstock
  else if i = 0x3800 then dict_steadyRest
  else if i = 0xc010 then dict_epochRecord
  else if i = 0x8000 then dict_calibration
  else if 0x8030 ≤ i ∧ i < 0x8038 then dict_bankCal
  else if i = 0xa000 then dict_stack
  else if i = 0xa010 then dict_fabric
  else if 0xa020 ≤ i ∧ i < 0xa028 then dict_link
  else if i = 0x2002 then dict_bar0
  else if i = 0x2001 then dict_tablePort
  else if i = 0xc000 then dict_security
  else if i = 0x1000 then dict_identity
  else if i = 0x2000 then dict_modeObjs
  else if 0x2020 ≤ i ∧ i < 0x2028 then dict_session
  else if i = 0x9000 then dict_collector
  else if i = 0xe000 then dict_compat
  else if 0xe100 ≤ i ∧ i < 0xe118 then dict_compatCh
  else if 0xe200 ≤ i ∧ i < 0xe208 then dict_compatRef
  else if i = 0xd000 then dict_telemetry
  else if i = 0x5900 then dict_logicalMap
  else if i = 0x6000 then dict_start
  else if i = 0x8010 then dict_nvm
  else if i = 0x8020 then dict_anchorProc
  else if i = 0xb000 then dict_host ++ dict_queuePairs
  else if 0x3000 ≤ i ∧ i < 0x3000 + 0x40 * 28 then
    let x := (i - 0x3000) % 0x40
    if x = 0 then dict_slot else if x = 0x30 ∧ i < 0x3400 then dict_inputPad else []
  else if 0x5000 ≤ i ∧ i < 0x5900 then
    let c := (i - 0x5000) / 0x20
    let x := (i - 0x5000) % 0x20
    if x = 0 then dict_channel
    else if x = 1 then dict_counters
    else if x < 6 then dict_rule
    else if x = 6 then dict_trigger
    else if x = 7 then dict_indexPlate
    else if x = 8 then dict_coreCal
    else if c < 64 then
      (if x = 9 then dict_anchorAudit else if x = 0x10 then dict_pad else if x = 0x11 then dict_padDiag
       else if x = 0x12 then dict_clockMode else [])
    else if x = 0x10 then dict_spareBank else []
  else []

/-- Does the row of an object table cover a subindex. A TIME92 and a 128-bit argument also occupy the next one (R55), which is no object of its own. -/
def ObjDef.covers (d : ObjDef) (sub : Nat) : Bool :=
  if d.rep = 1 then sub == d.sub
  else (d.sub ≤ sub) && ((sub - d.sub) % d.step == 0) && ((sub - d.sub) / d.step < d.rep)

/-- The object at an address, if one stands there (R515). -/
def objAt (index sub : Nat) : Option ObjDef := (dictAt index).find? (fun d => d.covers sub)

/-- The highest subindex in use at an index, which subindex 0x00 reads (R515). -/
def highestSub (index : Nat) : Nat :=
  (dictAt index).foldl (fun m d =>
    let wide := match d.ty with | .time92 => 1 | .cmd true => 1 | _ => 0
    max m (d.sub + d.step * (d.rep - 1) + wide)) 0

/-! ## Addresses of the objects, under the names of the spec -/

/-- TS_NOW (R49). -/
def K.TS_NOW : Nat := key (0x2010) (0x1) 0
/-- TS_FN (R49). -/
def K.TS_FN : Nat := key (0x2010) (0x3) 0
/-- TS_STATE (R49). -/
def K.TS_STATE : Nat := key (0x2010) (0x4) 0
/-- UTC_OFFSET (R49). -/
def K.UTC_OFFSET : Nat := key (0x2010) (0x5) 0
/-- LEAP_PENDING (R49). -/
def K.LEAP_PENDING : Nat := key (0x2010) (0x6) 0
/-- LEAP_EPOCH (R49). -/
def K.LEAP_EPOCH : Nat := key (0x2010) (0x7) 0
/-- TS_STEP (R49). -/
def K.TS_STEP : Nat := key (0x2010) (0x9) 0
/-- TS_STEP_COUNT (R49). -/
def K.TS_STEP_COUNT : Nat := key (0x2010) (0xa) 0
/-- CH_SOURCE (R69). -/
def K.CH_SOURCE (c : Nat) : Nat := key (0x5000 + 0x20 * c) (0x1) 0
/-- CH_POLICY (R69). -/
def K.CH_POLICY (c : Nat) : Nat := key (0x5000 + 0x20 * c) (0x2) 0
/-- CH_BOUND_LIMIT (R69). -/
def K.CH_BOUND_LIMIT (c : Nat) : Nat := key (0x5000 + 0x20 * c) (0x3) 0
/-- CH_DELAY (R69). -/
def K.CH_DELAY (c : Nat) : Nat := key (0x5000 + 0x20 * c) (0x4) 0
/-- CH_DELAY_UNC (R69). -/
def K.CH_DELAY_UNC (c : Nat) : Nat := key (0x5000 + 0x20 * c) (0x5) 0
/-- CH_SEQ (R69). -/
def K.CH_SEQ (c : Nat) : Nat := key (0x5000 + 0x20 * c) (0x6) 0
/-- CH_LANE (R69). -/
def K.CH_LANE (c : Nat) : Nat := key (0x5000 + 0x20 * c) (0x7) 0
/-- CH_LANE_PIN (R69). -/
def K.CH_LANE_PIN (c : Nat) : Nat := key (0x5000 + 0x20 * c) (0x8) 0
/-- CH_ANCHOR (R69). -/
def K.CH_ANCHOR (c : Nat) : Nat := key (0x5000 + 0x20 * c) (0x9) 0
/-- CH_TRIM (R69). -/
def K.CH_TRIM (c : Nat) : Nat := key (0x5000 + 0x20 * c) (0xa) 0
/-- CH_CORE (R69). -/
def K.CH_CORE (c : Nat) : Nat := key (0x5000 + 0x20 * c) (0xb) 0
/-- CH_BOUND (R69). -/
def K.CH_BOUND (c : Nat) : Nat := key (0x5000 + 0x20 * c) (0xc) 0
/-- CH_EDGES (R71). -/
def K.CH_EDGES (c : Nat) : Nat := key (0x5001 + 0x20 * c) (0x1) 0
/-- CH_WITHHELD (R71). -/
def K.CH_WITHHELD (c : Nat) : Nat := key (0x5001 + 0x20 * c) (0x2) 0
/-- CH_WH_LATE (R71). -/
def K.CH_WH_LATE (c : Nat) : Nat := key (0x5001 + 0x20 * c) (0x3) 0
/-- CH_WH_ORDER (R71). -/
def K.CH_WH_ORDER (c : Nat) : Nat := key (0x5001 + 0x20 * c) (0x4) 0
/-- CH_WH_SPACING (R71). -/
def K.CH_WH_SPACING (c : Nat) : Nat := key (0x5001 + 0x20 * c) (0x5) 0
/-- CH_WH_RATE (R71). -/
def K.CH_WH_RATE (c : Nat) : Nat := key (0x5001 + 0x20 * c) (0x6) 0
/-- CH_WH_LANE (R71). -/
def K.CH_WH_LANE (c : Nat) : Nat := key (0x5001 + 0x20 * c) (0x7) 0
/-- CH_WH_BOUND (R71). -/
def K.CH_WH_BOUND (c : Nat) : Nat := key (0x5001 + 0x20 * c) (0x8) 0
/-- CH_WH_LEVEL (R71). -/
def K.CH_WH_LEVEL (c : Nat) : Nat := key (0x5001 + 0x20 * c) (0x9) 0
/-- CH_FLAGGED (R71). -/
def K.CH_FLAGGED (c : Nat) : Nat := key (0x5001 + 0x20 * c) (0xa) 0
/-- CH_LAST_WH (R71). -/
def K.CH_LAST_WH (c : Nat) : Nat := key (0x5001 + 0x20 * c) (0xb) 0
/-- CH_LAST_WH_REASON (R71). -/
def K.CH_LAST_WH_REASON (c : Nat) : Nat := key (0x5001 + 0x20 * c) (0xd) 0
/-- CH_LAST_FLAG (R71). -/
def K.CH_LAST_FLAG (c : Nat) : Nat := key (0x5001 + 0x20 * c) (0xe) 0
/-- CH_LAST_FLAG_BOUND (R71). -/
def K.CH_LAST_FLAG_BOUND (c : Nat) : Nat := key (0x5001 + 0x20 * c) (0x10) 0
/-- CH_QUEUE_OCC (R71). -/
def K.CH_QUEUE_OCC (c : Nat) : Nat := key (0x5001 + 0x20 * c) (0x11) 0
/-- CH_QUEUE_PEAK (R71). -/
def K.CH_QUEUE_PEAK (c : Nat) : Nat := key (0x5001 + 0x20 * c) (0x12) 0
/-- CH_NEXT_VERNIER (R71). -/
def K.CH_NEXT_VERNIER (c : Nat) : Nat := key (0x5001 + 0x20 * c) (0x13) 0
/-- CH_STATUS (R71). -/
def K.CH_STATUS (c : Nat) : Nat := key (0x5001 + 0x20 * c) (0x14) 0
/-- RULE_EPOCH (R75). -/
def K.RULE_EPOCH (c k : Nat) : Nat := key (0x5002 + 0x20 * c + k) (0x1) 0
/-- RULE_PERIOD (R75). -/
def K.RULE_PERIOD (c k : Nat) : Nat := key (0x5002 + 0x20 * c + k) (0x3) 0
/-- RULE_WIDTH (R75). -/
def K.RULE_WIDTH (c k : Nat) : Nat := key (0x5002 + 0x20 * c + k) (0x4) 0
/-- RULE_COUNT (R75). -/
def K.RULE_COUNT (c k : Nat) : Nat := key (0x5002 + 0x20 * c + k) (0x5) 0
/-- RULE_ENABLE (R75). -/
def K.RULE_ENABLE (c k : Nat) : Nat := key (0x5002 + 0x20 * c + k) (0x6) 0
/-- RULE_NEXT_J (R75). -/
def K.RULE_NEXT_J (c k : Nat) : Nat := key (0x5002 + 0x20 * c + k) (0x7) 0
/-- RULE_DONE (R75). -/
def K.RULE_DONE (c k : Nat) : Nat := key (0x5002 + 0x20 * c + k) (0x8) 0
/-- TRIG_INPUT (R79). -/
def K.TRIG_INPUT (c : Nat) : Nat := key (0x5006 + 0x20 * c) (0x1) 0
/-- TRIG_EDGE (R79). -/
def K.TRIG_EDGE (c : Nat) : Nat := key (0x5006 + 0x20 * c) (0x2) 0
/-- TRIG_OFFSET (R79). -/
def K.TRIG_OFFSET (c : Nat) : Nat := key (0x5006 + 0x20 * c) (0x3) 0
/-- TRIG_COUNT (R79). -/
def K.TRIG_COUNT (c : Nat) : Nat := key (0x5006 + 0x20 * c) (0x4) 0
/-- TRIG_PERIOD (R79). -/
def K.TRIG_PERIOD (c : Nat) : Nat := key (0x5006 + 0x20 * c) (0x5) 0
/-- TRIG_WIDTH (R79). -/
def K.TRIG_WIDTH (c : Nat) : Nat := key (0x5006 + 0x20 * c) (0x6) 0
/-- TRIG_ACCEPTED (R79). -/
def K.TRIG_ACCEPTED (c : Nat) : Nat := key (0x5006 + 0x20 * c) (0x7) 0
/-- TRIG_IGNORED (R79). -/
def K.TRIG_IGNORED (c : Nat) : Nat := key (0x5006 + 0x20 * c) (0x8) 0
/-- TRIG_LAST (R79). -/
def K.TRIG_LAST (c : Nat) : Nat := key (0x5006 + 0x20 * c) (0x9) 0
/-- IP_STATE (R116). -/
def K.IP_STATE (c : Nat) : Nat := key (0x5007 + 0x20 * c) (0x1) 0
/-- IP_FAULT (R116). -/
def K.IP_FAULT (c : Nat) : Nat := key (0x5007 + 0x20 * c) (0x2) 0
/-- IP_TABLE_SEQ (R116). -/
def K.IP_TABLE_SEQ (c : Nat) : Nat := key (0x5007 + 0x20 * c) (0x3) 0
/-- IP_CAL_UNC (R116). -/
def K.IP_CAL_UNC (c : Nat) : Nat := key (0x5007 + 0x20 * c) (0x4) 0
/-- IP_INL_A (R116). -/
def K.IP_INL_A (c : Nat) : Nat := key (0x5007 + 0x20 * c) (0x5) 0
/-- IP_INL_B (R116). -/
def K.IP_INL_B (c : Nat) : Nat := key (0x5007 + 0x20 * c) (0x6) 0
/-- IP_TEMP_CAL (R116). -/
def K.IP_TEMP_CAL (c : Nat) : Nat := key (0x5007 + 0x20 * c) (0x7) 0
/-- IP_TEMP_NOW (R116). -/
def K.IP_TEMP_NOW (c : Nat) : Nat := key (0x5007 + 0x20 * c) (0x8) 0
/-- IP_TEMPCO (R116). -/
def K.IP_TEMPCO (c : Nat) : Nat := key (0x5007 + 0x20 * c) (0x9) 0
/-- IP_PAD_TERM (R116). -/
def K.IP_PAD_TERM (c : Nat) : Nat := key (0x5007 + 0x20 * c) (0xa) 0
/-- IP_SETTLING (R116). -/
def K.IP_SETTLING (c : Nat) : Nat := key (0x5007 + 0x20 * c) (0xb) 0
/-- IP_PROX_FRAMES (R116). -/
def K.IP_PROX_FRAMES (c : Nat) : Nat := key (0x5007 + 0x20 * c) (0xc) 0
/-- TS_PERIOD (R143). -/
def K.TS_PERIOD (n : Nat) : Nat := key (0x6100 + n) (0x1) 0
/-- TS_IN_USE (R143). -/
def K.TS_IN_USE (n : Nat) : Nat := key (0x6100 + n) (0x2) 0
/-- TSP_FMT (R143). -/
def K.TSP_FMT (n p : Nat) : Nat := key (0x6100 + n) (0x10 + 3 * p) 0
/-- TSP_EDGE (R143). -/
def K.TSP_EDGE (n p : Nat) : Nat := key (0x6100 + n) (0x11 + 3 * p) 0
/-- TSP_STROBE (R143). -/
def K.TSP_STROBE (n p : Nat) : Nat := key (0x6100 + n) (0x12 + 3 * p) 0
/-- SQ_TS_BASE (R148). -/
def K.SQ_TS_BASE (s : Nat) : Nat := key (0x6010 + s) (0x1) 0
/-- CMP_LOG_MODE (R148). -/
def K.CMP_LOG_MODE (s : Nat) : Nat := key (0x6010 + s) (0x2) 0
/-- CMP_VECTORS (R148). -/
def K.CMP_VECTORS (s : Nat) : Nat := key (0x6010 + s) (0x3) 0
/-- CMP_PASS (R148). -/
def K.CMP_PASS (s : Nat) : Nat := key (0x6010 + s) (0x4) 0
/-- CMP_FAIL (R148). -/
def K.CMP_FAIL (s : Nat) : Nat := key (0x6010 + s) (0x5) 0
/-- CMP_INVALID (R148). -/
def K.CMP_INVALID (s : Nat) : Nat := key (0x6010 + s) (0x6) 0
/-- CMP_LOG_HEAD (R148). -/
def K.CMP_LOG_HEAD (s : Nat) : Nat := key (0x6010 + s) (0x7) 0
/-- CMP_LOG_TAIL (R148). -/
def K.CMP_LOG_TAIL (s : Nat) : Nat := key (0x6010 + s) (0x8) 0
/-- CMP_LOG_DROPPED (R148). -/
def K.CMP_LOG_DROPPED (s : Nat) : Nat := key (0x6010 + s) (0x9) 0
/-- CMP_LOG_HALTED (R148). -/
def K.CMP_LOG_HALTED (s : Nat) : Nat := key (0x6010 + s) (0xa) 0
/-- CMP_LOG_RESUME (R148). -/
def K.CMP_LOG_RESUME (s : Nat) : Nat := key (0x6010 + s) (0xb) 0
/-- CMP_LAST (R148). -/
def K.CMP_LAST (s : Nat) : Nat := key (0x6010 + s) (0xc) 0
/-- TF_FAULTS (R148). -/
def K.TF_FAULTS (s : Nat) : Nat := key (0x6010 + s) (0xd) 0
/-- TF_LAST_EPOCH (R148). -/
def K.TF_LAST_EPOCH (s : Nat) : Nat := key (0x6010 + s) (0xe) 0
/-- CMP_LOG (R148). -/
def K.CMP_LOG (s : Nat) : Nat := key (0x6010 + s) (0x10) 0
/-- SQ_POS (R148). -/
def K.SQ_POS (s p : Nat) : Nat := key (0x6010 + s) (0x20 + p) 0
/-- TF_FLAGS (R156). -/
def K.TF_FLAGS (m : Nat) : Nat := key (0x6200 + m) (0x1) 0
/-- TF_EPOCH_ADJ (R156). -/
def K.TF_EPOCH_ADJ (m : Nat) : Nat := key (0x6200 + m) (0x2) 0
/-- TF_UART (R156). -/
def K.TF_UART (m : Nat) : Nat := key (0x6200 + m) (0x3) 0
/-- TF_CRC (R156). -/
def K.TF_CRC (m : Nat) : Nat := key (0x6200 + m) (0x4) 0
/-- TF_COUNT (R156). -/
def K.TF_COUNT (m : Nat) : Nat := key (0x6200 + m) (0x5) 0
/-- TF_ENT_A (R156). -/
def K.TF_ENT_A (m e : Nat) : Nat := key (0x6200 + m) (0x10 + 2 * e) 0
/-- TF_ENT_B (R156). -/
def K.TF_ENT_B (m e : Nat) : Nat := key (0x6200 + m) (0x11 + 2 * e) 0
/-- SQ_OWN (R171). -/
def K.SQ_OWN (s : Nat) : Nat := key (0x6020 + s) (0x1) 0
/-- SQ_START_ENTRY (R171). -/
def K.SQ_START_ENTRY (s : Nat) : Nat := key (0x6020 + s) (0x2) 0
/-- SQ_RESUME_STEP (R171). -/
def K.SQ_RESUME_STEP (s : Nat) : Nat := key (0x6020 + s) (0x3) 0
/-- SQ_LOCK (R171). -/
def K.SQ_LOCK (s : Nat) : Nat := key (0x6020 + s) (0x4) 0
/-- SQ_LOCK_OWNER (R171). -/
def K.SQ_LOCK_OWNER (s : Nat) : Nat := key (0x6020 + s) (0x5) 0
/-- SQ_LOCK_LEASE (R171). -/
def K.SQ_LOCK_LEASE (s : Nat) : Nat := key (0x6020 + s) (0x6) 0
/-- SQ_JUMP (R171). -/
def K.SQ_JUMP (s : Nat) : Nat := key (0x6020 + s) (0x7) 0
/-- SQ_STOP (R171). -/
def K.SQ_STOP (s : Nat) : Nat := key (0x6020 + s) (0x9) 0
/-- SQ_STATE (R171). -/
def K.SQ_STATE (s : Nat) : Nat := key (0x6020 + s) (0xa) 0
/-- SQ_ENTRY (R171). -/
def K.SQ_ENTRY (s : Nat) : Nat := key (0x6020 + s) (0xb) 0
/-- SQ_ITER (R171). -/
def K.SQ_ITER (s : Nat) : Nat := key (0x6020 + s) (0xc) 0
/-- SQ_NEXT1 (R171). -/
def K.SQ_NEXT1 (s : Nat) : Nat := key (0x6020 + s) (0xd) 0
/-- SQ_NEXT2 (R171). -/
def K.SQ_NEXT2 (s : Nat) : Nat := key (0x6020 + s) (0xe) 0
/-- SQ_LEAD (R171). -/
def K.SQ_LEAD (s : Nat) : Nat := key (0x6020 + s) (0xf) 0
/-- SQ_LOOP (R171). -/
def K.SQ_LOOP (s j : Nat) : Nat := key (0x6020 + s) (0x10 + j) 0
/-- SQ_JUMP_STATUS (R171). -/
def K.SQ_JUMP_STATUS (s : Nat) : Nat := key (0x6020 + s) (0x14) 0
/-- SQ_JUMP_FN (R171). -/
def K.SQ_JUMP_FN (s : Nat) : Nat := key (0x6020 + s) (0x15) 0
/-- SQ_VECTORS (R171). -/
def K.SQ_VECTORS (s : Nat) : Nat := key (0x6020 + s) (0x16) 0
/-- SQ_UNDERRUNS (R171). -/
def K.SQ_UNDERRUNS (s : Nat) : Nat := key (0x6020 + s) (0x17) 0
/-- SQ_IDLE_VECTORS (R171). -/
def K.SQ_IDLE_VECTORS (s : Nat) : Nat := key (0x6020 + s) (0x18) 0
/-- SQ_REPLAYS (R171). -/
def K.SQ_REPLAYS (s : Nat) : Nat := key (0x6020 + s) (0x19) 0
/-- SQ_LAST_UNDERRUN_FN (R171). -/
def K.SQ_LAST_UNDERRUN_FN (s : Nat) : Nat := key (0x6020 + s) (0x1a) 0
/-- SQ_STALE (R171). -/
def K.SQ_STALE (s : Nat) : Nat := key (0x6020 + s) (0x1b) 0
/-- SQ_LOOP_OVERFLOW (R171). -/
def K.SQ_LOOP_OVERFLOW (s : Nat) : Nat := key (0x6020 + s) (0x1c) 0
/-- SQ_FIFO_OCC (R171). -/
def K.SQ_FIFO_OCC (s : Nat) : Nat := key (0x6020 + s) (0x1d) 0
/-- SEG_TABLE (R174). -/
def K.SEG_TABLE : Nat := key (0x6300) (0x1) 0
/-- SEG_FREE (R174). -/
def K.SEG_FREE : Nat := key (0x6300) (0x2) 0
/-- SEG_REFUSED_ACTIVE (R174). -/
def K.SEG_REFUSED_ACTIVE : Nat := key (0x6300) (0x3) 0
/-- SEG_FREE_LAST (R174). -/
def K.SEG_FREE_LAST : Nat := key (0x6300) (0x4) 0
/-- PAGE_MAP (R224). -/
def K.PAGE_MAP : Nat := key (0x6400) (0x1) 0
/-- SEG_PLACE (R224). -/
def K.SEG_PLACE : Nat := key (0x6400) (0x2) 0
/-- SEG_SOURCE (R224). -/
def K.SEG_SOURCE : Nat := key (0x6400) (0x3) 0
/-- SEG_PRODUCED (R224). -/
def K.SEG_PRODUCED : Nat := key (0x6400) (0x4) 0
/-- SEG_CONSUMED (R224). -/
def K.SEG_CONSUMED : Nat := key (0x6400) (0x5) 0
/-- PAGE_POST (R224). -/
def K.PAGE_POST : Nat := key (0x6400) (0x6) 0
/-- PAGE_READ (R224). -/
def K.PAGE_READ : Nat := key (0x6400) (0x8) 0
/-- PAGE_SLOTS_BUSY (R224). -/
def K.PAGE_SLOTS_BUSY : Nat := key (0x6400) (0x9) 0
/-- PAGE_STALE (R224). -/
def K.PAGE_STALE : Nat := key (0x6400) (0xa) 0
/-- PAGES_FREE (R224). -/
def K.PAGES_FREE : Nat := key (0x6400) (0xb) 0
/-- PAGES_RETIRED (R224). -/
def K.PAGES_RETIRED : Nat := key (0x6400) (0xc) 0
/-- PAGE_CE_LIMIT (R224). -/
def K.PAGE_CE_LIMIT : Nat := key (0x6400) (0xd) 0
/-- RETIRE_INTERVAL (R224). -/
def K.RETIRE_INTERVAL : Nat := key (0x6400) (0xe) 0
/-- PL_MOVES (R224). -/
def K.PL_MOVES : Nat := key (0x6400) (0xf) 0
/-- PL_LOG (R224). -/
def K.PL_LOG : Nat := key (0x6400) (0x10) 0
/-- PL_LOG_HEAD (R224). -/
def K.PL_LOG_HEAD : Nat := key (0x6400) (0x11) 0
/-- MEM_SELFTEST (R224). -/
def K.MEM_SELFTEST : Nat := key (0x6400) (0x12) 0
/-- SQ_BANKS (R229). -/
def K.SQ_BANKS (s : Nat) : Nat := key (0x6420 + s) (0x1) 0
/-- SQ_BANKS_PIN (R229). -/
def K.SQ_BANKS_PIN (s : Nat) : Nat := key (0x6420 + s) (0x2) 0
/-- SQ_WORD_LOAD (R229). -/
def K.SQ_WORD_LOAD (s : Nat) : Nat := key (0x6420 + s) (0x3) 0
/-- RING_PAGES (R229). -/
def K.RING_PAGES (s : Nat) : Nat := key (0x6420 + s) (0x4) 0
/-- RING_WATERMARK (R229). -/
def K.RING_WATERMARK (s : Nat) : Nat := key (0x6420 + s) (0x5) 0
/-- RING_VALID (R229). -/
def K.RING_VALID (s : Nat) : Nat := key (0x6420 + s) (0x6) 0
/-- RING_REFILLS (R229). -/
def K.RING_REFILLS (s : Nat) : Nat := key (0x6420 + s) (0x7) 0
/-- RING_DISCARDS (R229). -/
def K.RING_DISCARDS (s : Nat) : Nat := key (0x6420 + s) (0x8) 0
/-- RING_STARVED (R229). -/
def K.RING_STARVED (s : Nat) : Nat := key (0x6420 + s) (0x9) 0
/-- BANK_LOAD (R230). -/
def K.BANK_LOAD (b : Nat) : Nat := key (0x6430 + b) (0x1) 0
/-- BANK_FREE (R230). -/
def K.BANK_FREE (b : Nat) : Nat := key (0x6430 + b) (0x2) 0
/-- BANK_CE (R230). -/
def K.BANK_CE (b : Nat) : Nat := key (0x6430 + b) (0x3) 0
/-- BANK_UE (R230). -/
def K.BANK_UE (b : Nat) : Nat := key (0x6430 + b) (0x4) 0
/-- SCRUB_SWEEPS (R230). -/
def K.SCRUB_SWEEPS (b : Nat) : Nat := key (0x6430 + b) (0x5) 0
/-- REFRESH_ROWS (R230). -/
def K.REFRESH_ROWS (b : Nat) : Nat := key (0x6430 + b) (0x6) 0
/-- WIN_TABLE (R242). -/
def K.WIN_TABLE : Nat := key (0xb100) (0x1) 0
/-- WIN_OLDEST (R242). -/
def K.WIN_OLDEST : Nat := key (0xb100) (0x2) 0
/-- DMA_RETRY_LIMIT (R242). -/
def K.DMA_RETRY_LIMIT : Nat := key (0xb100) (0x3) 0
/-- DMA_PAGES (R242). -/
def K.DMA_PAGES : Nat := key (0xb100) (0x4) 0
/-- DMA_RETRIES (R242). -/
def K.DMA_RETRIES : Nat := key (0xb100) (0x5) 0
/-- DMA_FAILED (R242). -/
def K.DMA_FAILED : Nat := key (0xb100) (0x6) 0
/-- DMA_XLATE_MISS (R242). -/
def K.DMA_XLATE_MISS : Nat := key (0xb100) (0x7) 0
/-- DMA_TIMEOUTS (R242). -/
def K.DMA_TIMEOUTS : Nat := key (0xb100) (0x8) 0
/-- DMA_POISONED (R242). -/
def K.DMA_POISONED : Nat := key (0xb100) (0x9) 0
/-- DMA_BAD_STATUS (R242). -/
def K.DMA_BAD_STATUS : Nat := key (0xb100) (0xa) 0
/-- DMA_LATE (R242). -/
def K.DMA_LATE : Nat := key (0xb100) (0xb) 0
/-- ARB_COMMIT (R283). -/
def K.ARB_COMMIT : Nat := key (0x7000) (0x1) 0
/-- ARB_COMMITS (R283). -/
def K.ARB_COMMITS : Nat := key (0x7000) (0x2) 0
/-- ARB_SHADOW_DIRTY (R283). -/
def K.ARB_SHADOW_DIRTY : Nat := key (0x7000) (0x3) 0
/-- ARB_PRIO_SH (R283). -/
def K.ARB_PRIO_SH (r : Nat) : Nat := key (0x7000) (0x10 + r) 0
/-- ARB_LIMIT_SH (R283). -/
def K.ARB_LIMIT_SH (r : Nat) : Nat := key (0x7000) (0x20 + r) 0
/-- ARB_PRIO (R283). -/
def K.ARB_PRIO (r : Nat) : Nat := key (0x7000) (0x30 + r) 0
/-- ARB_LIMIT (R283). -/
def K.ARB_LIMIT (r : Nat) : Nat := key (0x7000) (0x40 + r) 0
/-- ARB_URG (R283). -/
def K.ARB_URG (r : Nat) : Nat := key (0x7000) (0x50 + r) 0
/-- ARB_SLACK_ALARM (R283). -/
def K.ARB_SLACK_ALARM : Nat := key (0x7000) (0x60) 0
/-- XS_CAL (R283). -/
def K.XS_CAL : Nat := key (0x7000) (0x70) 0
/-- ARB_STEALS (R284). -/
def K.ARB_STEALS (b : Nat) : Nat := key (0x7010 + b) (0x1) 0
/-- ARB_DEAD (R284). -/
def K.ARB_DEAD (b : Nat) : Nat := key (0x7010 + b) (0x2) 0
/-- ARB_IDLE_LAST (R284). -/
def K.ARB_IDLE_LAST (b : Nat) : Nat := key (0x7010 + b) (0x3) 0
/-- ARB_REFRESH_LAST (R284). -/
def K.ARB_REFRESH_LAST (b : Nat) : Nat := key (0x7010 + b) (0x4) 0
/-- ARB_SLACK_LAST (R284). -/
def K.ARB_SLACK_LAST (b : Nat) : Nat := key (0x7010 + b) (0x5) 0
/-- ARB_ECC_CORRECTED (R284). -/
def K.ARB_ECC_CORRECTED (b : Nat) : Nat := key (0x7010 + b) (0x6) 0
/-- ARB_RESETS (R284). -/
def K.ARB_RESETS (b : Nat) : Nat := key (0x7010 + b) (0x7) 0
/-- ARB_WAIT (R284). -/
def K.ARB_WAIT (b r : Nat) : Nat := key (0x7010 + b) (0x10 + r) 0
/-- ARB_FORECAST (R284). -/
def K.ARB_FORECAST (b r : Nat) : Nat := key (0x7010 + b) (0x20 + r) 0
/-- ARB_GRANTS_LAST (R284). -/
def K.ARB_GRANTS_LAST (b r : Nat) : Nat := key (0x7010 + b) (0x30 + r) 0
/-- ARB_SURPLUS_LAST (R284). -/
def K.ARB_SURPLUS_LAST (b r : Nat) : Nat := key (0x7010 + b) (0x40 + r) 0
/-- ARB_FORCED (R284). -/
def K.ARB_FORCED (b r : Nat) : Nat := key (0x7010 + b) (0x50 + r) 0
/-- ARB_PEAK_WAIT (R284). -/
def K.ARB_PEAK_WAIT (b r : Nat) : Nat := key (0x7010 + b) (0x60 + r) 0
/-- XS_QUEUED (R285). -/
def K.XS_QUEUED (b : Nat) : Nat := key (0x7020 + b) (0x1) 0
/-- XS_ACTIVE (R285). -/
def K.XS_ACTIVE (b i : Nat) : Nat := key (0x7020 + b) (0x10 + 4 * i) 0
/-- XS_HELD (R285). -/
def K.XS_HELD (b i : Nat) : Nat := key (0x7020 + b) (0x11 + 4 * i) 0
/-- XS_PREEMPTS (R285). -/
def K.XS_PREEMPTS (b i : Nat) : Nat := key (0x7020 + b) (0x12 + 4 * i) 0
/-- XS_ABANDONS (R285). -/
def K.XS_ABANDONS (b i : Nat) : Nat := key (0x7020 + b) (0x13 + 4 * i) 0
/-- PAD_FMT (R296). -/
def K.PAD_FMT (c : Nat) : Nat := key (0x5010 + 0x20 * c) (0x1) 0
/-- PAD_AMP (R296). -/
def K.PAD_AMP (c : Nat) : Nat := key (0x5010 + 0x20 * c) (0x2) 0
/-- PAD_SLEW (R296). -/
def K.PAD_SLEW (c : Nat) : Nat := key (0x5010 + 0x20 * c) (0x3) 0
/-- PAD_INVERT (R296). -/
def K.PAD_INVERT (c : Nat) : Nat := key (0x5010 + 0x20 * c) (0x4) 0
/-- PAD_PARK (R296). -/
def K.PAD_PARK (c : Nat) : Nat := key (0x5010 + 0x20 * c) (0x5) 0
/-- PAD_N_STATIC (R296). -/
def K.PAD_N_STATIC (c : Nat) : Nat := key (0x5010 + 0x20 * c) (0x6) 0
/-- PAD_AUTO_INV (R296). -/
def K.PAD_AUTO_INV (c : Nat) : Nat := key (0x5010 + 0x20 * c) (0x7) 0
/-- PAD_LOOP_REF (R296). -/
def K.PAD_LOOP_REF (c : Nat) : Nat := key (0x5010 + 0x20 * c) (0x8) 0
/-- CH_SPARE_ALLOW (R296). -/
def K.CH_SPARE_ALLOW (c : Nat) : Nat := key (0x5010 + 0x20 * c) (0x9) 0
/-- PAD_MIN_GAP (R296). -/
def K.PAD_MIN_GAP (c : Nat) : Nat := key (0x5010 + 0x20 * c) (0xa) 0
/-- PAD_CLASS (R296). -/
def K.PAD_CLASS (c : Nat) : Nat := key (0x5010 + 0x20 * c) (0xb) 0
/-- PAD_LEVEL (R296). -/
def K.PAD_LEVEL (c : Nat) : Nat := key (0x5010 + 0x20 * c) (0xc) 0
/-- PAD_AUTO_INVERTED (R296). -/
def K.PAD_AUTO_INVERTED (c : Nat) : Nat := key (0x5010 + 0x20 * c) (0xd) 0
/-- CH_LOGICAL (R296). -/
def K.CH_LOGICAL (c : Nat) : Nat := key (0x5010 + 0x20 * c) (0xe) 0
/-- CLK_SRC (R299). -/
def K.CLK_SRC (c : Nat) : Nat := key (0x5012 + 0x20 * c) (0x1) 0
/-- CLK_DIV (R299). -/
def K.CLK_DIV (c : Nat) : Nat := key (0x5012 + 0x20 * c) (0x2) 0
/-- CLK_PHASE (R299). -/
def K.CLK_PHASE (c : Nat) : Nat := key (0x5012 + 0x20 * c) (0x3) 0
/-- CLK_GATED (R299). -/
def K.CLK_GATED (c : Nat) : Nat := key (0x5012 + 0x20 * c) (0x4) 0
/-- CLK_SUBST (R299). -/
def K.CLK_SUBST (c : Nat) : Nat := key (0x5012 + 0x20 * c) (0x5) 0
/-- CLK_FREQ (R299). -/
def K.CLK_FREQ (c : Nat) : Nat := key (0x5012 + 0x20 * c) (0x6) 0
/-- BANK_VDDO_CLASS (R313). -/
def K.BANK_VDDO_CLASS (k : Nat) : Nat := key (0x5810 + 0x20 * k) (0x1) 0
/-- BANK_VDDO_MV (R313). -/
def K.BANK_VDDO_MV (k : Nat) : Nat := key (0x5810 + 0x20 * k) (0x2) 0
/-- SP_STATE (R313). -/
def K.SP_STATE (k : Nat) : Nat := key (0x5810 + 0x20 * k) (0x3) 0
/-- SP_COVERS (R313). -/
def K.SP_COVERS (k : Nat) : Nat := key (0x5810 + 0x20 * k) (0x4) 0
/-- SP_SWAP (R313). -/
def K.SP_SWAP (k : Nat) : Nat := key (0x5810 + 0x20 * k) (0x5) 0
/-- SP_RETURN (R313). -/
def K.SP_RETURN (k : Nat) : Nat := key (0x5810 + 0x20 * k) (0x6) 0
/-- SP_WAITING (R313). -/
def K.SP_WAITING (k : Nat) : Nat := key (0x5810 + 0x20 * k) (0x7) 0
/-- SP_SWAPS (R313). -/
def K.SP_SWAPS (k : Nat) : Nat := key (0x5810 + 0x20 * k) (0x8) 0
/-- SP_SEARCH_FAILS (R313). -/
def K.SP_SEARCH_FAILS (k : Nat) : Nat := key (0x5810 + 0x20 * k) (0x9) 0
/-- SP_LAST_FN (R313). -/
def K.SP_LAST_FN (k : Nat) : Nat := key (0x5810 + 0x20 * k) (0xa) 0
/-- BANK_DEGRADED (R313). -/
def K.BANK_DEGRADED (k : Nat) : Nat := key (0x5810 + 0x20 * k) (0xb) 0
/-- PAD_DIAG (R318). -/
def K.PAD_DIAG (c : Nat) : Nat := key (0x5011 + 0x20 * c) (0x1) 0
/-- PAD_DIAG_MASK (R318). -/
def K.PAD_DIAG_MASK (c : Nat) : Nat := key (0x5011 + 0x20 * c) (0x2) 0
/-- PAD_SHUTDOWN (R318). -/
def K.PAD_SHUTDOWN (c : Nat) : Nat := key (0x5011 + 0x20 * c) (0x3) 0
/-- PAD_SWING_MV (R318). -/
def K.PAD_SWING_MV (c : Nat) : Nat := key (0x5011 + 0x20 * c) (0x4) 0
/-- PAD_VCM_MV (R318). -/
def K.PAD_VCM_MV (c : Nat) : Nat := key (0x5011 + 0x20 * c) (0x5) 0
/-- PAD_I_DRV (R318). -/
def K.PAD_I_DRV (c : Nat) : Nat := key (0x5011 + 0x20 * c) (0x6) 0
/-- PAD_DETECTIONS (R318). -/
def K.PAD_DETECTIONS (c : Nat) : Nat := key (0x5011 + 0x20 * c) (0x7) 0
/-- PAD_PROBES (R318). -/
def K.PAD_PROBES (c : Nat) : Nat := key (0x5011 + 0x20 * c) (0x8) 0
/-- IN_FMT (R319). -/
def K.IN_FMT (n : Nat) : Nat := key (0x3030 + 0x40 * n) (0x1) 0
/-- IN_TERM (R319). -/
def K.IN_TERM (n : Nat) : Nat := key (0x3030 + 0x40 * n) (0x2) 0
/-- IN_VTH (R319). -/
def K.IN_VTH (n : Nat) : Nat := key (0x3030 + 0x40 * n) (0x3) 0
/-- IN_INVERT (R319). -/
def K.IN_INVERT (n : Nat) : Nat := key (0x3030 + 0x40 * n) (0x4) 0
/-- IN_AUTO_INV (R319). -/
def K.IN_AUTO_INV (n : Nat) : Nat := key (0x3030 + 0x40 * n) (0x5) 0
/-- IN_AUTO_INVERTED (R319). -/
def K.IN_AUTO_INVERTED (n : Nat) : Nat := key (0x3030 + 0x40 * n) (0x6) 0
/-- IN_DIAG (R319). -/
def K.IN_DIAG (n : Nat) : Nat := key (0x3030 + 0x40 * n) (0x7) 0
/-- IN_EDGES (R319). -/
def K.IN_EDGES (n : Nat) : Nat := key (0x3030 + 0x40 * n) (0x8) 0
/-- IN_DROPPED (R319). -/
def K.IN_DROPPED (n : Nat) : Nat := key (0x3030 + 0x40 * n) (0x9) 0
/-- IN_INV_TOGGLES (R319). -/
def K.IN_INV_TOGGLES (n : Nat) : Nat := key (0x3030 + 0x40 * n) (0xa) 0
/-- LOSC_FREQ (R333). -/
def K.LOSC_FREQ : Nat := key (0x4000) (0x1) 0
/-- SPN_STATE (R333). -/
def K.SPN_STATE : Nat := key (0x4000) (0x2) 0
/-- SPN_BAND (R333). -/
def K.SPN_BAND : Nat := key (0x4000) (0x3) 0
/-- SPN_STEER (R333). -/
def K.SPN_STEER : Nat := key (0x4000) (0x4) 0
/-- SPN_STEER_CLAMPED (R333). -/
def K.SPN_STEER_CLAMPED : Nat := key (0x4000) (0x5) 0
/-- SPN_MARGIN_PPM (R333). -/
def K.SPN_MARGIN_PPM : Nat := key (0x4000) (0x6) 0
/-- SPN_UNLOCKS (R333). -/
def K.SPN_UNLOCKS : Nat := key (0x4000) (0x7) 0
/-- SPN_LAST_UNLOCK_FN (R333). -/
def K.SPN_LAST_UNLOCK_FN : Nat := key (0x4000) (0x8) 0
/-- SPN_ON_BYP (R333). -/
def K.SPN_ON_BYP : Nat := key (0x4000) (0x9) 0
/-- BYP_STATE (R333). -/
def K.BYP_STATE : Nat := key (0x4000) (0xa) 0
/-- BYP_UNLOCKS (R333). -/
def K.BYP_UNLOCKS : Nat := key (0x4000) (0xb) 0
/-- UT_ENABLE (R346). -/
def K.UT_ENABLE (u : Nat) : Nat := key (0x4010 + u) (0x1) 0
/-- UT_NINT (R346). -/
def K.UT_NINT (u : Nat) : Nat := key (0x4010 + u) (0x2) 0
/-- UT_NFRAC (R346). -/
def K.UT_NFRAC (u : Nat) : Nat := key (0x4010 + u) (0x3) 0
/-- UT_CHANGE (R346). -/
def K.UT_CHANGE (u : Nat) : Nat := key (0x4010 + u) (0x4) 0
/-- UT_STEER_RATE (R346). -/
def K.UT_STEER_RATE (u : Nat) : Nat := key (0x4010 + u) (0x5) 0
/-- UT_PHASE (R346). -/
def K.UT_PHASE (u : Nat) : Nat := key (0x4010 + u) (0x6) 0
/-- UT_SETTLE (R346). -/
def K.UT_SETTLE (u : Nat) : Nat := key (0x4010 + u) (0x7) 0
/-- UT_SSC_MODE (R346). -/
def K.UT_SSC_MODE (u : Nat) : Nat := key (0x4010 + u) (0x8) 0
/-- UT_SSC_DEPTH (R346). -/
def K.UT_SSC_DEPTH (u : Nat) : Nat := key (0x4010 + u) (0x9) 0
/-- UT_SSC_FREQ (R346). -/
def K.UT_SSC_FREQ (u : Nat) : Nat := key (0x4010 + u) (0xa) 0
/-- UT_STATE (R346). -/
def K.UT_STATE (u : Nat) : Nat := key (0x4010 + u) (0xb) 0
/-- UT_BAND (R346). -/
def K.UT_BAND (u : Nat) : Nat := key (0x4010 + u) (0xc) 0
/-- UT_FREQ_NOW (R346). -/
def K.UT_FREQ_NOW (u : Nat) : Nat := key (0x4010 + u) (0xd) 0
/-- UT_PHI_FRAMES (R346). -/
def K.UT_PHI_FRAMES (u : Nat) : Nat := key (0x4010 + u) (0xe) 0
/-- UT_PHASE_DET (R346). -/
def K.UT_PHASE_DET (u : Nat) : Nat := key (0x4010 + u) (0xf) 0
/-- UT_MARGIN_PPM (R346). -/
def K.UT_MARGIN_PPM (u : Nat) : Nat := key (0x4010 + u) (0x10) 0
/-- UT_UNLOCKS (R346). -/
def K.UT_UNLOCKS (u : Nat) : Nat := key (0x4010 + u) (0x11) 0
/-- UT_REBANDS (R346). -/
def K.UT_REBANDS (u : Nat) : Nat := key (0x4010 + u) (0x12) 0
/-- UT_LAST_LOCK_FN (R346). -/
def K.UT_LAST_LOCK_FN (u : Nat) : Nat := key (0x4010 + u) (0x13) 0
/-- UT_BAND_TABLE (R347). -/
def K.UT_BAND_TABLE (u : Nat) : Nat := key (0x4020 + u) (0x1) 0
/-- UT_BAND_TREF (R347). -/
def K.UT_BAND_TREF (u : Nat) : Nat := key (0x4020 + u) (0x2) 0
/-- UT_BAND_MEASURE (R347). -/
def K.UT_BAND_MEASURE (u : Nat) : Nat := key (0x4020 + u) (0x3) 0
/-- UT_MEAS_TEMP (R347). -/
def K.UT_MEAS_TEMP (u : Nat) : Nat := key (0x4020 + u) (0x4) 0
/-- SLOT_TYPE (R395). -/
def K.SLOT_TYPE (n : Nat) : Nat := key (0x3000 + 0x40 * n) (0x1) 0
/-- SLOT_RANK (R395). -/
def K.SLOT_RANK (n : Nat) : Nat := key (0x3000 + 0x40 * n) (0x2) 0
/-- SLOT_BW (R395). -/
def K.SLOT_BW (n : Nat) : Nat := key (0x3000 + 0x40 * n) (0x3) 0
/-- SLOT_NOM_FREQ (R395). -/
def K.SLOT_NOM_FREQ (n : Nat) : Nat := key (0x3000 + 0x40 * n) (0x4) 0
/-- SLOT_PRESCALE (R395). -/
def K.SLOT_PRESCALE (n : Nat) : Nat := key (0x3000 + 0x40 * n) (0x5) 0
/-- SLOT_DELAY (R395). -/
def K.SLOT_DELAY (n : Nat) : Nat := key (0x3000 + 0x40 * n) (0x6) 0
/-- SLOT_DELAY_UNC (R395). -/
def K.SLOT_DELAY_UNC (n : Nat) : Nat := key (0x3000 + 0x40 * n) (0x7) 0
/-- SLOT_STATED_BOUND (R395). -/
def K.SLOT_STATED_BOUND (n : Nat) : Nat := key (0x3000 + 0x40 * n) (0x8) 0
/-- SLOT_QUAL_TIME (R395). -/
def K.SLOT_QUAL_TIME (n : Nat) : Nat := key (0x3000 + 0x40 * n) (0x9) 0
/-- SLOT_WTR (R395). -/
def K.SLOT_WTR (n : Nat) : Nat := key (0x3000 + 0x40 * n) (0xa) 0
/-- SLOT_FREQ_TOL (R395). -/
def K.SLOT_FREQ_TOL (n : Nat) : Nat := key (0x3000 + 0x40 * n) (0xb) 0
/-- SLOT_JUMP_THRESH (R395). -/
def K.SLOT_JUMP_THRESH (n : Nat) : Nat := key (0x3000 + 0x40 * n) (0xc) 0
/-- SLOT_JUMP_POLICY (R395). -/
def K.SLOT_JUMP_POLICY (n : Nat) : Nat := key (0x3000 + 0x40 * n) (0xd) 0
/-- SLOT_LOCKOUT (R395). -/
def K.SLOT_LOCKOUT (n : Nat) : Nat := key (0x3000 + 0x40 * n) (0xe) 0
/-- SLOT_SAMPLE_TIMEOUT (R395). -/
def K.SLOT_SAMPLE_TIMEOUT (n : Nat) : Nat := key (0x3000 + 0x40 * n) (0xf) 0
/-- SLOT_CLEAR_WTR (R395). -/
def K.SLOT_CLEAR_WTR (n : Nat) : Nat := key (0x3000 + 0x40 * n) (0x10) 0
/-- SLOT_LABEL (R395). -/
def K.SLOT_LABEL (n : Nat) : Nat := key (0x3000 + 0x40 * n) (0x11) 0
/-- SLOT_STATE (R395). -/
def K.SLOT_STATE (n : Nat) : Nat := key (0x3000 + 0x40 * n) (0x13) 0
/-- SLOT_DISQ (R395). -/
def K.SLOT_DISQ (n : Nat) : Nat := key (0x3000 + 0x40 * n) (0x14) 0
/-- SLOT_QUAL_LEFT (R395). -/
def K.SLOT_QUAL_LEFT (n : Nat) : Nat := key (0x3000 + 0x40 * n) (0x15) 0
/-- SLOT_WTR_LEFT (R395). -/
def K.SLOT_WTR_LEFT (n : Nat) : Nat := key (0x3000 + 0x40 * n) (0x16) 0
/-- SLOT_PHASE (R395). -/
def K.SLOT_PHASE (n : Nat) : Nat := key (0x3000 + 0x40 * n) (0x17) 0
/-- SLOT_FREQ_OFF (R395). -/
def K.SLOT_FREQ_OFF (n : Nat) : Nat := key (0x3000 + 0x40 * n) (0x18) 0
/-- SLOT_TIE_RMS (R395). -/
def K.SLOT_TIE_RMS (n : Nat) : Nat := key (0x3000 + 0x40 * n) (0x19) 0
/-- SLOT_LABELLED (R395). -/
def K.SLOT_LABELLED (n : Nat) : Nat := key (0x3000 + 0x40 * n) (0x1a) 0
/-- SLOT_LAST_EDGE (R395). -/
def K.SLOT_LAST_EDGE (n : Nat) : Nat := key (0x3000 + 0x40 * n) (0x1b) 0
/-- SLOT_EDGE_SEQ (R395). -/
def K.SLOT_EDGE_SEQ (n : Nat) : Nat := key (0x3000 + 0x40 * n) (0x1d) 0
/-- SLOT_DISAGREE_WITH (R395). -/
def K.SLOT_DISAGREE_WITH (n : Nat) : Nat := key (0x3000 + 0x40 * n) (0x1e) 0
/-- SLOT_SAMPLES (R395). -/
def K.SLOT_SAMPLES (n : Nat) : Nat := key (0x3000 + 0x40 * n) (0x1f) 0
/-- SLOT_DISQUALS (R395). -/
def K.SLOT_DISQUALS (n : Nat) : Nat := key (0x3000 + 0x40 * n) (0x20) 0
/-- HT_SAMPLE (R395). -/
def K.HT_SAMPLE (n : Nat) : Nat := key (0x3000 + 0x40 * n) (0x21) 0
/-- SLOT_SAMPLE_BOUND (R395). -/
def K.SLOT_SAMPLE_BOUND (n : Nat) : Nat := key (0x3000 + 0x40 * n) (0x23) 0
/-- SLOT_LAST_JUMP (R395). -/
def K.SLOT_LAST_JUMP (n : Nat) : Nat := key (0x3000 + 0x40 * n) (0x24) 0
/-- HS_SELECTED (R396). -/
def K.HS_SELECTED : Nat := key (0x3700) (0x1) 0
/-- HS_STATE (R396). -/
def K.HS_STATE : Nat := key (0x3700) (0x2) 0
/-- HS_SLOPE (R396). -/
def K.HS_SLOPE : Nat := key (0x3700) (0x3) 0
/-- HS_REVERTIVE (R396). -/
def K.HS_REVERTIVE : Nat := key (0x3700) (0x4) 0
/-- HS_FORCE (R396). -/
def K.HS_FORCE : Nat := key (0x3700) (0x5) 0
/-- HS_SWITCH_REMAIN (R396). -/
def K.HS_SWITCH_REMAIN : Nat := key (0x3700) (0x6) 0
/-- HS_SWITCHES (R396). -/
def K.HS_SWITCHES : Nat := key (0x3700) (0x7) 0
/-- HS_LAST_SWITCH_FN (R396). -/
def K.HS_LAST_SWITCH_FN : Nat := key (0x3700) (0x8) 0
/-- HS_DISAGREE (R396). -/
def K.HS_DISAGREE : Nat := key (0x3700) (0x9) 0
/-- HS_DISAGREE_TERM (R396). -/
def K.HS_DISAGREE_TERM : Nat := key (0x3700) (0xa) 0
/-- HS_ALIGN_FN (R396). -/
def K.HS_ALIGN_FN : Nat := key (0x3700) (0xb) 0
/-- HS_SERVO_ERR (R396). -/
def K.HS_SERVO_ERR : Nat := key (0x3700) (0xc) 0
/-- HS_PHASE_SLOPE (R396). -/
def K.HS_PHASE_SLOPE : Nat := key (0x3700) (0xd) 0
/-- HS_PRED_VALID (R396). -/
def K.HS_PRED_VALID : Nat := key (0x3700) (0xe) 0
/-- SR_STATE (R419). -/
def K.SR_STATE : Nat := key (0x3800) (0x1) 0
/-- DEV_BOUND (R419). -/
def K.DEV_BOUND : Nat := key (0x3800) (0x2) 0
/-- DEV_BOUND_FLAGS (R419). -/
def K.DEV_BOUND_FLAGS : Nat := key (0x3800) (0x3) 0
/-- SR_TERMS (R419). -/
def K.SR_TERMS : Nat := key (0x3800) (0x4) 0
/-- SR_HOLD_AGE (R419). -/
def K.SR_HOLD_AGE : Nat := key (0x3800) (0x5) 0
/-- SR_LEARN_WINDOW (R419). -/
def K.SR_LEARN_WINDOW : Nat := key (0x3800) (0x6) 0
/-- SR_LEARN_MIN (R419). -/
def K.SR_LEARN_MIN : Nat := key (0x3800) (0x7) 0
/-- SR_LEARNED (R419). -/
def K.SR_LEARNED : Nat := key (0x3800) (0x8) 0
/-- SR_F0 (R419). -/
def K.SR_F0 : Nat := key (0x3800) (0x9) 0
/-- SR_DRIFT (R419). -/
def K.SR_DRIFT : Nat := key (0x3800) (0xa) 0
/-- SR_TEMPCO (R419). -/
def K.SR_TEMPCO : Nat := key (0x3800) (0xb) 0
/-- SR_B_UNC (R419). -/
def K.SR_B_UNC : Nat := key (0x3800) (0xc) 0
/-- SR_C_UNC (R419). -/
def K.SR_C_UNC : Nat := key (0x3800) (0xd) 0
/-- SR_B_FLOOR (R419). -/
def K.SR_B_FLOOR : Nat := key (0x3800) (0xe) 0
/-- SR_FSTAB_FREQ (R419). -/
def K.SR_FSTAB_FREQ : Nat := key (0x3800) (0xf) 0
/-- SR_FSTAB_ATOMIC (R419). -/
def K.SR_FSTAB_ATOMIC : Nat := key (0x3800) (0x10) 0
/-- SR_FSTAB_SYNCE (R419). -/
def K.SR_FSTAB_SYNCE : Nat := key (0x3800) (0x11) 0
/-- SR_LOSC_STAB (R419). -/
def K.SR_LOSC_STAB : Nat := key (0x3800) (0x12) 0
/-- SR_LOSC_AGE (R419). -/
def K.SR_LOSC_AGE : Nat := key (0x3800) (0x13) 0
/-- SR_HOLD_MAX (R419). -/
def K.SR_HOLD_MAX : Nat := key (0x3800) (0x14) 0
/-- SR_SPN_TERM (R419). -/
def K.SR_SPN_TERM : Nat := key (0x3800) (0x15) 0
/-- SR_CAL_TERM (R419). -/
def K.SR_CAL_TERM : Nat := key (0x3800) (0x16) 0
/-- SR_ABSORB_TERM (R419). -/
def K.SR_ABSORB_TERM : Nat := key (0x3800) (0x17) 0
/-- SR_BYP_TERM (R419). -/
def K.SR_BYP_TERM : Nat := key (0x3800) (0x18) 0
/-- SR_LAST_RETURN_JUMP (R419). -/
def K.SR_LAST_RETURN_JUMP : Nat := key (0x3800) (0x19) 0
/-- SR_REJECTED (R419). -/
def K.SR_REJECTED : Nat := key (0x3800) (0x1a) 0
/-- SR_REJECT_CLEAR (R419). -/
def K.SR_REJECT_CLEAR : Nat := key (0x3800) (0x1b) 0
/-- DEV_BOUND_ALARM (R419). -/
def K.DEV_BOUND_ALARM : Nat := key (0x3800) (0x1c) 0
/-- ER_LATEST (R427). -/
def K.ER_LATEST : Nat := key (0xc010) (0x1) 0
/-- ER_HISTORY (R427). -/
def K.ER_HISTORY : Nat := key (0xc010) (0x2) 0
/-- ER_SEQ (R427). -/
def K.ER_SEQ : Nat := key (0xc010) (0x3) 0
/-- ER_BOOT (R427). -/
def K.ER_BOOT : Nat := key (0xc010) (0x4) 0
/-- ER_PUBKEY (R427). -/
def K.ER_PUBKEY : Nat := key (0xc010) (0x5) 0
/-- ER_CERT (R427). -/
def K.ER_CERT : Nat := key (0xc010) (0x6) 0
/-- ER_SKIPPED (R427). -/
def K.ER_SKIPPED : Nat := key (0xc010) (0x7) 0
/-- CAL_AUTO (R463). -/
def K.CAL_AUTO : Nat := key (0x8000) (0x1) 0
/-- CAL_TEMP_TRIG (R463). -/
def K.CAL_TEMP_TRIG : Nat := key (0x8000) (0x2) 0
/-- CAL_PERIOD (R463). -/
def K.CAL_PERIOD : Nat := key (0x8000) (0x3) 0
/-- CAL_RETRY (R463). -/
def K.CAL_RETRY : Nat := key (0x8000) (0x4) 0
/-- CAL_OVERDUE (R463). -/
def K.CAL_OVERDUE : Nat := key (0x8000) (0x5) 0
/-- CAL_VERIFY_LIMIT (R463). -/
def K.CAL_VERIFY_LIMIT : Nat := key (0x8000) (0x6) 0
/-- CAL_SPREAD_MAX (R463). -/
def K.CAL_SPREAD_MAX : Nat := key (0x8000) (0x7) 0
/-- CAL_ALL (R463). -/
def K.CAL_ALL : Nat := key (0x8000) (0x8) 0
/-- CAL_TRACE_EN (R463). -/
def K.CAL_TRACE_EN : Nat := key (0x8000) (0x9) 0
/-- CAL_REF_STATE (R463). -/
def K.CAL_REF_STATE : Nat := key (0x8000) (0xa) 0
/-- CAL_REF_FREQ_OFF (R463). -/
def K.CAL_REF_FREQ_OFF : Nat := key (0x8000) (0xb) 0
/-- CAL_REF_PHASE (R463). -/
def K.CAL_REF_PHASE : Nat := key (0x8000) (0xc) 0
/-- CAL_LAST_INVALID (R463). -/
def K.CAL_LAST_INVALID : Nat := key (0x8000) (0xd) 0
/-- CAL_LAST_INVALID_FN (R463). -/
def K.CAL_LAST_INVALID_FN : Nat := key (0x8000) (0xe) 0
/-- CAL_DONE (R463). -/
def K.CAL_DONE : Nat := key (0x8000) (0xf) 0
/-- CAL_ABORTS (R463). -/
def K.CAL_ABORTS : Nat := key (0x8000) (0x10) 0
/-- CAL_OVERDUE_BANKS (R463). -/
def K.CAL_OVERDUE_BANKS : Nat := key (0x8000) (0x11) 0
/-- CAL_SEQ (R463). -/
def K.CAL_SEQ : Nat := key (0x8000) (0x12) 0
/-- CAL_COUNT (R463). -/
def K.CAL_COUNT : Nat := key (0x8000) (0x13) 0
/-- CAL_TIME (R463). -/
def K.CAL_TIME : Nat := key (0x8000) (0x14) 0
/-- CAL_STORE (R463). -/
def K.CAL_STORE : Nat := key (0x8000) (0x16) 0
/-- CAL_STORE_MIN (R463). -/
def K.CAL_STORE_MIN : Nat := key (0x8000) (0x17) 0
/-- CAL_DIRTY (R463). -/
def K.CAL_DIRTY : Nat := key (0x8000) (0x18) 0
/-- CALB_STATE (R465). -/
def K.CALB_STATE (k : Nat) : Nat := key (0x8030 + k) (0x1) 0
/-- CALB_CORE (R465). -/
def K.CALB_CORE (k : Nat) : Nat := key (0x8030 + k) (0x2) 0
/-- CALB_POINTS (R465). -/
def K.CALB_POINTS (k : Nat) : Nat := key (0x8030 + k) (0x3) 0
/-- CALB_QUEUE (R465). -/
def K.CALB_QUEUE (k : Nat) : Nat := key (0x8030 + k) (0x4) 0
/-- CALB_SPARE_BUSY (R465). -/
def K.CALB_SPARE_BUSY (k : Nat) : Nat := key (0x8030 + k) (0x5) 0
/-- CALB_FN (R465). -/
def K.CALB_FN (k : Nat) : Nat := key (0x8030 + k) (0x6) 0
/-- CORE_CAL_REQUEST (R466). -/
def K.CORE_CAL_REQUEST (c : Nat) : Nat := key (0x5008 + 0x20 * c) (0x1) 0
/-- CORE_CAL_REASON (R466). -/
def K.CORE_CAL_REASON (c : Nat) : Nat := key (0x5008 + 0x20 * c) (0x2) 0
/-- CORE_CAL_STATE (R466). -/
def K.CORE_CAL_STATE (c : Nat) : Nat := key (0x5008 + 0x20 * c) (0x3) 0
/-- CORE_CAL_AGE (R466). -/
def K.CORE_CAL_AGE (c : Nat) : Nat := key (0x5008 + 0x20 * c) (0x4) 0
/-- CORE_CAL_OVERDUE (R466). -/
def K.CORE_CAL_OVERDUE (c : Nat) : Nat := key (0x5008 + 0x20 * c) (0x5) 0
/-- CORE_CAL_COUNT (R466). -/
def K.CORE_CAL_COUNT (c : Nat) : Nat := key (0x5008 + 0x20 * c) (0x6) 0
/-- CORE_CAL_FN (R466). -/
def K.CORE_CAL_FN (c : Nat) : Nat := key (0x5008 + 0x20 * c) (0x7) 0
/-- CORE_CAL_FAILS (R466). -/
def K.CORE_CAL_FAILS (c : Nat) : Nat := key (0x5008 + 0x20 * c) (0x8) 0
/-- CORE_VERIFY_DEV (R466). -/
def K.CORE_VERIFY_DEV (c : Nat) : Nat := key (0x5008 + 0x20 * c) (0x9) 0
/-- CORE_REF (R466). -/
def K.CORE_REF (c : Nat) : Nat := key (0x5008 + 0x20 * c) (0xa) 0
/-- ANC_OWN (R467). -/
def K.ANC_OWN (c : Nat) : Nat := key (0x5009 + 0x20 * c) (0x1) 0
/-- ANC_OWN_UNC (R467). -/
def K.ANC_OWN_UNC (c : Nat) : Nat := key (0x5009 + 0x20 * c) (0x2) 0
/-- ANC_SPARE (R467). -/
def K.ANC_SPARE (c : Nat) : Nat := key (0x5009 + 0x20 * c) (0x3) 0
/-- ANC_SPARE_UNC (R467). -/
def K.ANC_SPARE_UNC (c : Nat) : Nat := key (0x5009 + 0x20 * c) (0x4) 0
/-- ANC_SOURCE (R467). -/
def K.ANC_SOURCE (c : Nat) : Nat := key (0x5009 + 0x20 * c) (0x5) 0
/-- ANC_FN (R467). -/
def K.ANC_FN (c : Nat) : Nat := key (0x5009 + 0x20 * c) (0x6) 0
/-- AUDIT_STATE (R467). -/
def K.AUDIT_STATE (c : Nat) : Nat := key (0x5009 + 0x20 * c) (0x7) 0
/-- AUDIT_TARGET (R467). -/
def K.AUDIT_TARGET (c : Nat) : Nat := key (0x5009 + 0x20 * c) (0x8) 0
/-- AUDIT_RESID (R467). -/
def K.AUDIT_RESID (c : Nat) : Nat := key (0x5009 + 0x20 * c) (0x9) 0
/-- AUDIT_LAST_MEAN (R467). -/
def K.AUDIT_LAST_MEAN (c : Nat) : Nat := key (0x5009 + 0x20 * c) (0xa) 0
/-- AUDIT_BLOCKS (R467). -/
def K.AUDIT_BLOCKS (c : Nat) : Nat := key (0x5009 + 0x20 * c) (0xb) 0
/-- AUDIT_REJECTS (R467). -/
def K.AUDIT_REJECTS (c : Nat) : Nat := key (0x5009 + 0x20 * c) (0xc) 0
/-- STK_ROLE (R490). -/
def K.STK_ROLE : Nat := key (0xa000) (0x1) 0
/-- STK_POSITION (R490). -/
def K.STK_POSITION : Nat := key (0xa000) (0x2) 0
/-- STK_STATE (R490). -/
def K.STK_STATE : Nat := key (0xa000) (0x3) 0
/-- STK_ASYM (R490). -/
def K.STK_ASYM : Nat := key (0xa000) (0x4) 0
/-- STK_PATH_UNC (R490). -/
def K.STK_PATH_UNC : Nat := key (0xa000) (0x5) 0
/-- STK_OFFSET (R490). -/
def K.STK_OFFSET : Nat := key (0xa000) (0x6) 0
/-- STK_SKEW_TERM (R490). -/
def K.STK_SKEW_TERM : Nat := key (0xa000) (0x7) 0
/-- STK_MSG_AGE (R490). -/
def K.STK_MSG_AGE : Nat := key (0xa000) (0x8) 0
/-- STK_MSGS (R490). -/
def K.STK_MSGS : Nat := key (0xa000) (0x9) 0
/-- STK_MSG_ERRORS (R490). -/
def K.STK_MSG_ERRORS : Nat := key (0xa000) (0xa) 0
/-- STK_ALERTS (R490). -/
def K.STK_ALERTS : Nat := key (0xa000) (0xb) 0
/-- STK_LOSSES (R490). -/
def K.STK_LOSSES : Nat := key (0xa000) (0xc) 0
/-- STK_FOLLOW_STEER (R490). -/
def K.STK_FOLLOW_STEER : Nat := key (0xa000) (0xd) 0
/-- STK_MEMBERS (R490). -/
def K.STK_MEMBERS : Nat := key (0xa000) (0x10) 0
/-- STK_FOLLOWING (R490). -/
def K.STK_FOLLOWING : Nat := key (0xa000) (0x11) 0
/-- STK_DELAY (R490). -/
def K.STK_DELAY : Nat := key (0xa000) (0x12) 0
/-- FAB_ENABLE (R511). -/
def K.FAB_ENABLE : Nat := key (0xa010) (0x1) 0
/-- FAB_UID (R511). -/
def K.FAB_UID : Nat := key (0xa010) (0x2) 0
/-- FAB_PRIORITY (R511). -/
def K.FAB_PRIORITY : Nat := key (0xa010) (0x3) 0
/-- FAB_ADDR_PIN (R511). -/
def K.FAB_ADDR_PIN : Nat := key (0xa010) (0x4) 0
/-- FAB_LEASE (R511). -/
def K.FAB_LEASE : Nat := key (0xa010) (0x5) 0
/-- FAB_ADDR (R511). -/
def K.FAB_ADDR : Nat := key (0xa010) (0x6) 0
/-- FAB_ADDR_GEN (R511). -/
def K.FAB_ADDR_GEN : Nat := key (0xa010) (0x7) 0
/-- FAB_ROOT_UID (R511). -/
def K.FAB_ROOT_UID : Nat := key (0xa010) (0x8) 0
/-- FAB_ROOT_DIST (R511). -/
def K.FAB_ROOT_DIST : Nat := key (0xa010) (0x9) 0
/-- FAB_TDEPTH (R511). -/
def K.FAB_TDEPTH : Nat := key (0xa010) (0xa) 0
/-- FAB_ROUTES (R511). -/
def K.FAB_ROUTES : Nat := key (0xa010) (0xb) 0
/-- FAB_LEASES (R511). -/
def K.FAB_LEASES : Nat := key (0xa010) (0xc) 0
/-- FAB_EVT_SUBS (R511). -/
def K.FAB_EVT_SUBS : Nat := key (0xa010) (0xd) 0
/-- FAB_REACHABLE (R511). -/
def K.FAB_REACHABLE : Nat := key (0xa010) (0xe) 0
/-- FAB_STALE (R511). -/
def K.FAB_STALE : Nat := key (0xa010) (0xf) 0
/-- FAB_EXPIRED (R511). -/
def K.FAB_EXPIRED : Nat := key (0xa010) (0x10) 0
/-- FAB_RESIDENCE_DROPS (R511). -/
def K.FAB_RESIDENCE_DROPS : Nat := key (0xa010) (0x11) 0
/-- FAB_NO_ROUTE (R511). -/
def K.FAB_NO_ROUTE : Nat := key (0xa010) (0x12) 0
/-- FAB_MGMT_TIMEOUTS (R511). -/
def K.FAB_MGMT_TIMEOUTS : Nat := key (0xa010) (0x13) 0
/-- TN_ENABLE (R513). -/
def K.TN_ENABLE (k : Nat) : Nat := key (0xa020 + k) (0x1) 0
/-- TN_STATE (R513). -/
def K.TN_STATE (k : Nat) : Nat := key (0xa020 + k) (0x2) 0
/-- TN_PEER_UID (R513). -/
def K.TN_PEER_UID (k : Nat) : Nat := key (0xa020 + k) (0x3) 0
/-- TN_PEER_LINK (R513). -/
def K.TN_PEER_LINK (k : Nat) : Nat := key (0xa020 + k) (0x4) 0
/-- TN_TIME_EN (R513). -/
def K.TN_TIME_EN (k : Nat) : Nat := key (0xa020 + k) (0x5) 0
/-- TN_ASYM (R513). -/
def K.TN_ASYM (k : Nat) : Nat := key (0xa020 + k) (0x6) 0
/-- TN_ASYM_UNC (R513). -/
def K.TN_ASYM_UNC (k : Nat) : Nat := key (0xa020 + k) (0x7) 0
/-- TN_ASYM_CAL (R513). -/
def K.TN_ASYM_CAL (k : Nat) : Nat := key (0xa020 + k) (0x8) 0
/-- TN_ASYM_RESULT (R513). -/
def K.TN_ASYM_RESULT (k : Nat) : Nat := key (0xa020 + k) (0x9) 0
/-- TN_ASYM_RESULT_UNC (R513). -/
def K.TN_ASYM_RESULT_UNC (k : Nat) : Nat := key (0xa020 + k) (0xa) 0
/-- TN_DELAY (R513). -/
def K.TN_DELAY (k : Nat) : Nat := key (0xa020 + k) (0xb) 0
/-- TN_OFFSET (R513). -/
def K.TN_OFFSET (k : Nat) : Nat := key (0xa020 + k) (0xc) 0
/-- TN_LINK_TERM (R513). -/
def K.TN_LINK_TERM (k : Nat) : Nat := key (0xa020 + k) (0xd) 0
/-- TN_EXCHANGES (R513). -/
def K.TN_EXCHANGES (k : Nat) : Nat := key (0xa020 + k) (0xe) 0
/-- TN_HELLO_MISSED (R513). -/
def K.TN_HELLO_MISSED (k : Nat) : Nat := key (0xa020 + k) (0xf) 0
/-- TN_BLOCK_ERRORS (R513). -/
def K.TN_BLOCK_ERRORS (k : Nat) : Nat := key (0xa020 + k) (0x10) 0
/-- TN_DOWNS (R513). -/
def K.TN_DOWNS (k : Nat) : Nat := key (0xa020 + k) (0x11) 0
/-- BAR0_SESSION (R538). -/
def K.BAR0_SESSION : Nat := key (0x2002) (0x1) 0
/-- BAR0_OPEN (R538). -/
def K.BAR0_OPEN : Nat := key (0x2002) (0x2) 0
/-- BAR0_RESULT (R538). -/
def K.BAR0_RESULT : Nat := key (0x2002) (0x3) 0
/-- TBL_SEL (R539). -/
def K.TBL_SEL : Nat := key (0x2001) (0x1) 0
/-- TBL_PUT (R539). -/
def K.TBL_PUT : Nat := key (0x2001) (0x2) 0
/-- TBL_WORD (R539). -/
def K.TBL_WORD (w : Nat) : Nat := key (0x2001) (0x10 + w) 0
/-- WOP_CERT (R551). -/
def K.WOP_CERT : Nat := key (0xc000) (0x1) 0
/-- WOP_TRUST (R551). -/
def K.WOP_TRUST : Nat := key (0xc000) (0x2) 0
/-- PRINCIPALS (R551). -/
def K.PRINCIPALS : Nat := key (0xc000) (0x3) 0
/-- QP_PRIV_1 (R551). -/
def K.QP_PRIV_1 : Nat := key (0xc000) (0x4) 0
/-- QP_PRIV_2 (R551). -/
def K.QP_PRIV_2 : Nat := key (0xc000) (0x5) 0
/-- QP_PRIV_3 (R551). -/
def K.QP_PRIV_3 : Nat := key (0xc000) (0x6) 0
/-- WOP_CHANNELS (R551). -/
def K.WOP_CHANNELS : Nat := key (0xc000) (0x7) 0
/-- WOP_AUTH_FAILS (R551). -/
def K.WOP_AUTH_FAILS : Nat := key (0xc000) (0x8) 0
/-- WOP_REPLAYS (R551). -/
def K.WOP_REPLAYS : Nat := key (0xc000) (0x9) 0
/-- WOP_IDLE (R551). -/
def K.WOP_IDLE : Nat := key (0xc000) (0xa) 0
/-- ID_VENDOR (R552). -/
def K.ID_VENDOR : Nat := key (0x1000) (0x1) 0
/-- ID_FAMILY (R552). -/
def K.ID_FAMILY : Nat := key (0x1000) (0x2) 0
/-- ID_DEVICE (R552). -/
def K.ID_DEVICE : Nat := key (0x1000) (0x3) 0
/-- ID_GRADE (R552). -/
def K.ID_GRADE : Nat := key (0x1000) (0x4) 0
/-- ID_SILICON (R552). -/
def K.ID_SILICON : Nat := key (0x1000) (0x5) 0
/-- ID_UID (R552). -/
def K.ID_UID : Nat := key (0x1000) (0x6) 0
/-- ID_SERIAL (R552). -/
def K.ID_SERIAL : Nat := key (0x1000) (0x7) 0
/-- ID_FW_VERSION (R552). -/
def K.ID_FW_VERSION : Nat := key (0x1000) (0x8) 0
/-- ID_OD_VERSION (R552). -/
def K.ID_OD_VERSION : Nat := key (0x1000) (0x9) 0
/-- ID_BOOT (R552). -/
def K.ID_BOOT : Nat := key (0x1000) (0xa) 0
/-- ID_PERSONALITY (R552). -/
def K.ID_PERSONALITY : Nat := key (0x1000) (0xb) 0
/-- MODE (R553). -/
def K.MODE : Nat := key (0x2000) (0x1) 0
/-- MODE_REQUEST (R553). -/
def K.MODE_REQUEST : Nat := key (0x2000) (0x2) 0
/-- MODE_PREV (R553). -/
def K.MODE_PREV : Nat := key (0x2000) (0x3) 0
/-- MODE_FN (R553). -/
def K.MODE_FN : Nat := key (0x2000) (0x4) 0
/-- MODE_PENDING (R553). -/
def K.MODE_PENDING : Nat := key (0x2000) (0x5) 0
/-- MODE_PENDING_FN (R553). -/
def K.MODE_PENDING_FN : Nat := key (0x2000) (0x6) 0
/-- MODE_TRANSITIONS (R553). -/
def K.MODE_TRANSITIONS : Nat := key (0x2000) (0x7) 0
/-- MODE_CAUSE (R553). -/
def K.MODE_CAUSE : Nat := key (0x2000) (0x8) 0
/-- SESS_STATE (R554). -/
def K.SESS_STATE (k : Nat) : Nat := key (0x2020 + k) (0x1) 0
/-- SESS_GEN (R554). -/
def K.SESS_GEN (k : Nat) : Nat := key (0x2020 + k) (0x2) 0
/-- SESS_OWNER (R554). -/
def K.SESS_OWNER (k : Nat) : Nat := key (0x2020 + k) (0x3) 0
/-- SESS_LEASE (R554). -/
def K.SESS_LEASE (k : Nat) : Nat := key (0x2020 + k) (0x4) 0
/-- SESS_LEASE_LEFT (R554). -/
def K.SESS_LEASE_LEFT (k : Nat) : Nat := key (0x2020 + k) (0x5) 0
/-- SESS_STAGED (R554). -/
def K.SESS_STAGED (k : Nat) : Nat := key (0x2020 + k) (0x6) 0
/-- SESS_COMMIT (R554). -/
def K.SESS_COMMIT (k : Nat) : Nat := key (0x2020 + k) (0x7) 0
/-- SESS_DISCARD (R554). -/
def K.SESS_DISCARD (k : Nat) : Nat := key (0x2020 + k) (0x8) 0
/-- SESS_CLOSE (R554). -/
def K.SESS_CLOSE (k : Nat) : Nat := key (0x2020 + k) (0x9) 0
/-- SESS_COMMIT_STATE (R554). -/
def K.SESS_COMMIT_STATE (k : Nat) : Nat := key (0x2020 + k) (0xa) 0
/-- SESS_COMMIT_FN (R554). -/
def K.SESS_COMMIT_FN (k : Nat) : Nat := key (0x2020 + k) (0xb) 0
/-- SESS_COMMIT_RESULT (R554). -/
def K.SESS_COMMIT_RESULT (k : Nat) : Nat := key (0x2020 + k) (0xc) 0
/-- SESS_COMMIT_OBJ (R554). -/
def K.SESS_COMMIT_OBJ (k : Nat) : Nat := key (0x2020 + k) (0xd) 0
/-- SESS_COMMITS (R554). -/
def K.SESS_COMMITS (k : Nat) : Nat := key (0x2020 + k) (0xe) 0
/-- SESS_STALE (R554). -/
def K.SESS_STALE (k : Nat) : Nat := key (0x2020 + k) (0xf) 0
/-- SESS_LAST_BREAK (R554). -/
def K.SESS_LAST_BREAK (k : Nat) : Nat := key (0x2020 + k) (0x10) 0
/-- SESS_STAGED_LIST (R554). -/
def K.SESS_STAGED_LIST (k : Nat) : Nat := key (0x2020 + k) (0x11) 0
/-- FC_CONFIG (R585). -/
def K.FC_CONFIG : Nat := key (0x9000) (0x1) 0
/-- FC_RECORDS (R585). -/
def K.FC_RECORDS : Nat := key (0x9000) (0x2) 0
/-- FC_COUNT (R585). -/
def K.FC_COUNT : Nat := key (0x9000) (0x3) 0
/-- FC_WINDOW_COUNT (R585). -/
def K.FC_WINDOW_COUNT : Nat := key (0x9000) (0x4) 0
/-- FC_LIVE_LO (R585). -/
def K.FC_LIVE_LO : Nat := key (0x9000) (0x5) 0
/-- FC_LIVE_HI (R585). -/
def K.FC_LIVE_HI : Nat := key (0x9000) (0x6) 0
/-- FC_SEVERE_LO (R585). -/
def K.FC_SEVERE_LO : Nat := key (0x9000) (0x7) 0
/-- FC_SEVERE_HI (R585). -/
def K.FC_SEVERE_HI : Nat := key (0x9000) (0x8) 0
/-- FC_HELD_LO (R585). -/
def K.FC_HELD_LO : Nat := key (0x9000) (0x9) 0
/-- FC_HELD_HI (R585). -/
def K.FC_HELD_HI : Nat := key (0x9000) (0xa) 0
/-- FC_CLEAR (R585). -/
def K.FC_CLEAR : Nat := key (0x9000) (0xb) 0
/-- FC_SEQ (R585). -/
def K.FC_SEQ : Nat := key (0x9000) (0xc) 0
/-- FC_STALE_CLEARS (R585). -/
def K.FC_STALE_CLEARS : Nat := key (0x9000) (0xd) 0
/-- FC_CONSEQ (R585). -/
def K.FC_CONSEQ : Nat := key (0x9000) (0xe) 0
/-- FC_MERGED (R585). -/
def K.FC_MERGED : Nat := key (0x9000) (0xf) 0
/-- FC_ESC_LIMIT (R585). -/
def K.FC_ESC_LIMIT : Nat := key (0x9000) (0x10) 0
/-- FC_ESC_WINDOW (R585). -/
def K.FC_ESC_WINDOW : Nat := key (0x9000) (0x11) 0
/-- FC_ESCALATIONS (R585). -/
def K.FC_ESCALATIONS : Nat := key (0x9000) (0x12) 0
/-- REPLACE_REASON (R585). -/
def K.REPLACE_REASON : Nat := key (0x9000) (0x13) 0
/-- FC_DEGRADE_CLEAR (R585). -/
def K.FC_DEGRADE_CLEAR : Nat := key (0x9000) (0x14) 0
/-- FC_LOG (R585). -/
def K.FC_LOG : Nat := key (0x9000) (0x15) 0
/-- FC_LOG_HEAD (R585). -/
def K.FC_LOG_HEAD : Nat := key (0x9000) (0x16) 0
/-- FC_IRQ_MASK_LO (R585). -/
def K.FC_IRQ_MASK_LO : Nat := key (0x9000) (0x17) 0
/-- FC_IRQ_MASK_HI (R585). -/
def K.FC_IRQ_MASK_HI : Nat := key (0x9000) (0x18) 0
/-- FC_WOP_SUBS (R585). -/
def K.FC_WOP_SUBS : Nat := key (0x9000) (0x19) 0
/-- FC_SHADOWS (R585). -/
def K.FC_SHADOWS : Nat := key (0x9000) (0x1a) 0
/-- FC_ECC_CORRECTED (R585). -/
def K.FC_ECC_CORRECTED : Nat := key (0x9000) (0x1b) 0
/-- CPT_CH_BASE (R606). -/
def K.CPT_CH_BASE : Nat := key (0xe000) (0x1) 0
/-- CPT_POLICY (R606). -/
def K.CPT_POLICY : Nat := key (0xe000) (0x2) 0
/-- CPT_STATUS (R606). -/
def K.CPT_STATUS : Nat := key (0xe000) (0x3) 0
/-- CPT_REVISION (R606). -/
def K.CPT_REVISION : Nat := key (0xe000) (0x4) 0
/-- C_MODE (R606). -/
def K.C_MODE (k : Nat) : Nat := key (0xe100 + k) (0x1) 0
/-- C_REF (R606). -/
def K.C_REF (k : Nat) : Nat := key (0xe100 + k) (0x2) 0
/-- C_DELAY_PS (R606). -/
def K.C_DELAY_PS (k : Nat) : Nat := key (0xe100 + k) (0x3) 0
/-- C_WIDTH_PS (R606). -/
def K.C_WIDTH_PS (k : Nat) : Nat := key (0xe100 + k) (0x4) 0
/-- C_PERIOD_PS (R606). -/
def K.C_PERIOD_PS (k : Nat) : Nat := key (0xe100 + k) (0x5) 0
/-- C_COUNT (R606). -/
def K.C_COUNT (k : Nat) : Nat := key (0xe100 + k) (0x6) 0
/-- C_INVERT (R606). -/
def K.C_INVERT (k : Nat) : Nat := key (0xe100 + k) (0x7) 0
/-- C_NATIVE (R606). -/
def K.C_NATIVE (k : Nat) : Nat := key (0xe100 + k) (0x8) 0
/-- R_TYPE (R606). -/
def K.R_TYPE (r : Nat) : Nat := key (0xe200 + r) (0x1) 0
/-- R_PRIORITY (R606). -/
def K.R_PRIORITY (r : Nat) : Nat := key (0xe200 + r) (0x2) 0
/-- R_DELAY_PS (R606). -/
def K.R_DELAY_PS (r : Nat) : Nat := key (0xe200 + r) (0x3) 0
/-- R_STATE (R606). -/
def K.R_STATE (r : Nat) : Nat := key (0xe200 + r) (0x4) 0
/-- QP_ENABLE (R613). -/
def K.QP_ENABLE (q : Nat) : Nat := key (0xb000) (0x40 + 16 * q) 0
/-- QP_SQ_BASE (R613). -/
def K.QP_SQ_BASE (q : Nat) : Nat := key (0xb000) (0x41 + 16 * q) 0
/-- QP_CQ_BASE (R613). -/
def K.QP_CQ_BASE (q : Nat) : Nat := key (0xb000) (0x42 + 16 * q) 0
/-- QP_REC_BASE (R613). -/
def K.QP_REC_BASE (q : Nat) : Nat := key (0xb000) (0x43 + 16 * q) 0
/-- QP_SIZES (R613). -/
def K.QP_SIZES (q : Nat) : Nat := key (0xb000) (0x44 + 16 * q) 0
/-- QP_SQ_TAIL (R613). -/
def K.QP_SQ_TAIL (q : Nat) : Nat := key (0xb000) (0x45 + 16 * q) 0
/-- QP_SQ_HEAD (R613). -/
def K.QP_SQ_HEAD (q : Nat) : Nat := key (0xb000) (0x46 + 16 * q) 0
/-- QP_CQ_HEAD (R613). -/
def K.QP_CQ_HEAD (q : Nat) : Nat := key (0xb000) (0x47 + 16 * q) 0
/-- QP_CQ_TAIL (R613). -/
def K.QP_CQ_TAIL (q : Nat) : Nat := key (0xb000) (0x48 + 16 * q) 0
/-- QP_REC_HEAD (R613). -/
def K.QP_REC_HEAD (q : Nat) : Nat := key (0xb000) (0x49 + 16 * q) 0
/-- QP_REC_TAIL (R613). -/
def K.QP_REC_TAIL (q : Nat) : Nat := key (0xb000) (0x4a + 16 * q) 0
/-- QP_REC_SEL (R613). -/
def K.QP_REC_SEL (q : Nat) : Nat := key (0xb000) (0x4b + 16 * q) 0
/-- QP_STATE (R613). -/
def K.QP_STATE (q : Nat) : Nat := key (0xb000) (0x4c + 16 * q) 0
/-- QP_REC_DROPPED (R613). -/
def K.QP_REC_DROPPED (q : Nat) : Nat := key (0xb000) (0x4d + 16 * q) 0
/-- QP_INFLIGHT (R613). -/
def K.QP_INFLIGHT (q : Nat) : Nat := key (0xb000) (0x4e + 16 * q) 0
/-- ETH_ENABLE (R622). -/
def K.ETH_ENABLE : Nat := key (0xb000) (0x10) 0
/-- ETH_MODE (R622). -/
def K.ETH_MODE : Nat := key (0xb000) (0x11) 0
/-- ETH_MAC (R622). -/
def K.ETH_MAC : Nat := key (0xb000) (0x12) 0
/-- ETH_VLAN (R622). -/
def K.ETH_VLAN : Nat := key (0xb000) (0x13) 0
/-- ETH_IPV4 (R622). -/
def K.ETH_IPV4 : Nat := key (0xb000) (0x14) 0
/-- ETH_IPV4_GW (R622). -/
def K.ETH_IPV4_GW : Nat := key (0xb000) (0x15) 0
/-- ETH_IPV6 (R622). -/
def K.ETH_IPV6 : Nat := key (0xb000) (0x16) 0
/-- ETH_IPV6_PREFIX (R622). -/
def K.ETH_IPV6_PREFIX : Nat := key (0xb000) (0x17) 0
/-- ETH_UDP_PORT (R622). -/
def K.ETH_UDP_PORT : Nat := key (0xb000) (0x18) 0
/-- ETH_LINK (R622). -/
def K.ETH_LINK : Nat := key (0xb000) (0x19) 0
/-- ETH_RX_DATAGRAMS (R622). -/
def K.ETH_RX_DATAGRAMS : Nat := key (0xb000) (0x1a) 0
/-- ETH_RX_DROPPED (R622). -/
def K.ETH_RX_DROPPED : Nat := key (0xb000) (0x1b) 0
/-- FL_SLOTS (R628). -/
def K.FL_SLOTS : Nat := key (0xb000) (0x28) 0
/-- FL_TARGET (R628). -/
def K.FL_TARGET : Nat := key (0xb000) (0x29) 0
/-- FL_ERASE (R628). -/
def K.FL_ERASE : Nat := key (0xb000) (0x2a) 0
/-- FL_DATA (R628). -/
def K.FL_DATA : Nat := key (0xb000) (0x2b) 0
/-- FL_VERIFY (R628). -/
def K.FL_VERIFY : Nat := key (0xb000) (0x2c) 0
/-- FL_STATE (R628). -/
def K.FL_STATE : Nat := key (0xb000) (0x2d) 0
/-- TEL_PERIOD (R632). -/
def K.TEL_PERIOD : Nat := key (0xd000) (0x1) 0
/-- TEL_TEMP_MAX (R632). -/
def K.TEL_TEMP_MAX : Nat := key (0xd000) (0x2) 0
/-- TEL_TEMP (R632). -/
def K.TEL_TEMP : Nat := key (0xd000) (0x3) 0
/-- TEL_VDD_MV (R632). -/
def K.TEL_VDD_MV : Nat := key (0xd000) (0x4) 0
/-- TEL_VDDA_MV (R632). -/
def K.TEL_VDDA_MV : Nat := key (0xd000) (0x5) 0
/-- TEL_VDDIO_MV (R632). -/
def K.TEL_VDDIO_MV : Nat := key (0xd000) (0x6) 0
/-- TEL_VDDH_MV (R632). -/
def K.TEL_VDDH_MV : Nat := key (0xd000) (0x7) 0
/-- TEL_POWER_MW (R632). -/
def K.TEL_POWER_MW : Nat := key (0xd000) (0x8) 0
/-- TEL_POWER_RAIL (R632). -/
def K.TEL_POWER_RAIL : Nat := key (0xd000) (0x9) 0
/-- TEL_RECORDS (R632). -/
def K.TEL_RECORDS : Nat := key (0xd000) (0xa) 0
/-- LOGICAL_MAP (R323). -/
def K.LOGICAL_MAP : Nat := key 0x5900 0x1 0
/-- SQ_START (R197). -/
def K.SQ_START : Nat := key 0x6000 0x1 0
/-- SQ_STACK_MASK (R197). -/
def K.SQ_STACK_MASK : Nat := key 0x6000 0x3 0
/-- SQ_STACK_RESULT (R197). -/
def K.SQ_STACK_RESULT : Nat := key 0x6000 0x4 0
/-- SQ_START_FN (R197). -/
def K.SQ_START_FN : Nat := key 0x6000 0x5 0
/-- NVM_LIFE_PCT (R464). -/
def K.NVM_LIFE_PCT : Nat := key 0x8010 0x1 0
/-- NVM_SLOT_WRITES (R464). -/
def K.NVM_SLOT_WRITES : Nat := key 0x8010 0x2 0
/-- NVM_SET_BANK (R464). -/
def K.NVM_SET_BANK : Nat := key 0x8010 0x3 0
/-- NVM_SET_SLOT (R464). -/
def K.NVM_SET_SLOT : Nat := key 0x8010 0x4 0
/-- NVM_STORES (R464). -/
def K.NVM_STORES : Nat := key 0x8010 0x5 0
/-- NVM_STORE_FAILS (R464). -/
def K.NVM_STORE_FAILS : Nat := key 0x8010 0x6 0
/-- NVM_BOOT_REJECTED (R464). -/
def K.NVM_BOOT_REJECTED : Nat := key 0x8010 0x7 0
/-- NVM_STATE (R464). -/
def K.NVM_STATE : Nat := key 0x8010 0x8 0
/-- ANC_RUN (R464). -/
def K.ANC_RUN : Nat := key 0x8020 0x1 0
/-- ANC_FIXTURE_DELAY (R464). -/
def K.ANC_FIXTURE_DELAY : Nat := key 0x8020 0x2 0
/-- ANC_FIXTURE_UNC (R464). -/
def K.ANC_FIXTURE_UNC : Nat := key 0x8020 0x3 0
/-- ANC_EDGES (R464). -/
def K.ANC_EDGES : Nat := key 0x8020 0x4 0
/-- ANC_STATE (R464). -/
def K.ANC_STATE : Nat := key 0x8020 0x5 0
/-- ER_WOP_SUBS (R624). -/
def K.ER_WOP_SUBS : Nat := key 0xb000 0x20 0

end Sys2Proof.Machine
end

