-- ==== Sys2Proof/Machine/Defaults.lean ====
section
/-! DEFINITION. The value of every object at reset (R518): its Default column, and the values that "by type", "by class" and
similar entries name (R257, R363, R556, R557). -/

namespace Sys2Proof.Machine

/-- The default classes of event sources (R556). -/
inductive EvClass where
  | q | i | n | w | b | p | s | reserved
deriving DecidableEq, Repr

/-- Minor reaction, severe reaction, window in ms, threshold of a class (R556). -/
def EvClass.row : EvClass → Nat × Nat × Nat × Nat
  | .q => (0, 0, 1000, 1000)
  | .i => (1, 1, 1000, 1000)
  | .n => (2, 2, 1000, 100)
  | .w => (2, 5, 3600000, 16)
  | .b => (2, 4, 1000, 10)
  | .p => (3, 5, 3600000, 4)
  | .s => (2, 7, 1, 1)
  | .reserved => (0, 0, 1000, 1023)

/-- The default class of each source (R557). -/
def evClasses : List EvClass :=
  List.flatten [
    [.n, .n, .i, .n, .i, .n, .n, .n, .w, .n, .n, .n, .w, .n, .n, .w],
    [.w, .n, .n, .n, .w, .w, .b, .i, .i, .b, .i, .n, .w, .reserved, .reserved, .reserved],
    [.n, .n, .n, .n, .n, .n, .i, .w, .p, .n, .w, .n, .n, .i, .n, .w],
    [.n, .i, .i, .n, .n, .n, .i, .q, .n, .reserved, .reserved, .reserved, .n, .n, .n, .n],
    [.i, .n, .n, .i, .w, .n, .n, .n, .q, .q, .q, .q, .i, .n, .w, .reserved],
    [.i, .n, .n, .n, .w, .n, .n, .n, .i, .n, .w, .n, .i, .w, .n, .n],
    [.i, .w, .b, .n, .n, .i, .n, .n, .n, .i, .n, .n, .n, .w, .n, .n],
    [.w, .w, .n, .w, .n, .s, .w, .w, .i, .w, .n, .n, .n, .i, .n, .reserved]]

/-- The class of a source; the reserved class beyond the table. -/
def evClass (src : Nat) : EvClass := evClasses.getD src .reserved

/-- A FC_CONFIG row from its fields (R586). -/
def fcRow (minor severe window threshold vector : Nat) : Nat :=
  minor * 2 ^ 61 + severe * 2 ^ 58 + window * 2 ^ 36 + threshold * 2 ^ 26 + vector * 2 ^ 19

/-- The default FC_CONFIG row of a source (R556, R557, R586). -/
def fcDefault (src : Nat) : Nat :=
  let r := (evClass src).row
  fcRow r.1 r.2.1 r.2.2.1 r.2.2.2 (8 + src / 16)

/-- Default priority, wait limit and share of a requester (R257); the share of a sequencer is planned. -/
def arbDefault (r : Nat) : Nat × Nat :=
  if r < 8 then (12, 16) else if r = 8 then (8, 3) else if r = 9 then (2, 31) else if r = 10 then (1, 63) else (4, 15)

/-- SLOT_BW range, SLOT_BW default, SLOT_QUAL_TIME default, SLOT_JUMP_POLICY default of a type (R363);
jump policies 0 ABSORB, 1 PULL, 2 REJECT (R395). -/
def slotTypeRow : Nat → (Nat × Nat) × Nat × Nat × Nat
  | 1 => ((1000, 100000), 3000, 10000, 1)
  | 2 => ((100, 10000), 1000, 5000, 0)
  | 3 => ((100, 10000), 1000, 5000, 0)
  | 4 => ((1000000, 10000000), 3000000, 2000, 0)
  | 5 => ((100000, 10000000), 1000000, 2000, 1)
  | 6 => ((10000, 1000000), 100000, 10000, 1)
  | _ => ((0, 2 ^ 32 - 1), 0, 0, 0)

/-- The value of an address of the dictionary at reset (R518). A repeated object has its default at each of its addresses,
a table at each of its rows; an empty address has 0. -/
def dflt (k : Nat) : Nat :=
  let i := keyIndex k
  let s := keySub k
  if i = 0x9000 ∧ s = 1 then (if keyRow k < 128 then fcDefault (keyRow k) else 0)
  else if i = 0x7000 ∧ 0x10 ≤ s ∧ s < 0x50 ∧ s % 16 < 12 then
    (if s / 16 % 2 = 1 then (arbDefault (s % 16)).1 else (arbDefault (s % 16)).2)
  else if i = 0xA000 ∧ s = 0x12 then (if keyRow k < 16 then 0xFFFFFF else 0)
  else if 0x5000 ≤ i ∧ i < 0x5900 ∧ (i - 0x5000) % 0x20 = 0 ∧ s = keySub (K.CH_CORE 0) then (i - 0x5000) / 0x20
  else
    match objAt i s with
    | some d => (match d.acc with | .cmd => 0 | _ => d.dflt)
    | none => 0

end Sys2Proof.Machine
end

