-- ==== Sys2Proof/Machine/State.lean ====
section
/-! DEFINITION. The state of the part as plain data: the object dictionary, the state the manual gives beside it, the queue of
waiting commands, and what the last command drove out. -/

namespace Sys2Proof.Machine

/-- The clock of the core and coarse cycles (R11, R587). -/
inductive Clock where
  | none | onDie | byp | spindle
deriving DecidableEq, Repr, Inhabited

/-- One event of a frame: its cause (R555, R563, R564), `bits` when the cause is a bitmap. For EV040 `inputs` holds the channels of cores
whose only fault is PHASE_DIST, and `alt` the cause of the lowest other core (R574). -/
structure Ev where
  detail : Nat := 0
  mask   : Nat := 0
  inputs : Nat := 0
  bits   : Bool := false
  alt    : Option Nat := none
deriving DecidableEq, Repr, Inhabited

/-- One operation's part of a WOP response (R542, R543): result, data bytes, and the data as a number. -/
structure OpResp where
  result : Nat
  len    : Nat
  value  : Nat
deriving DecidableEq, Repr, Inhabited

/-- A WOP response (R541). -/
structure WopResp where
  session : Nat := 255
  sessGen : Nat := 0
  txn     : Nat := 0
  txnGen  : Nat := 0
  result  : Nat := 0
  ops     : List OpResp := []
deriving DecidableEq, Repr, Inhabited

/-- The clock that a pad carries: source cycles per q and source cycles since a rising instant at the start of the frame, both in
2⁻⁴⁸ cycles, and the divider (R300, R301, R339). -/
structure Wave where
  rate : Nat := 0
  pos  : Nat := 0
  div  : Nat := 1
deriving DecidableEq, Repr, Inhabited

/-- What a command drives out of the part. -/
inductive Out where
  /-- Result code and value returned to the requester of a command or access. -/
  | result (code value : Nat)
  /-- A WOP response to a requester, and its bytes before any sealing (R541, R542). -/
  | wop (who : Who) (r : WopResp) (bytes : List Byte)
  /-- The IDCODE that the scan port shifts out (R629). -/
  | idCode (v : Nat)
  /-- Bytes of a handshake reply, and its message result (R548). -/
  | handshake (transport peer result : Nat) (body : List Byte)
  /-- An edge at a pad: core, channel, linear time, level of the P pin, state of the N pin (0 low, 1 high, 2 off), flag (R94, R99, R109,
  R291). -/
  | edge (core channel t : Nat) (level : Bool) (n : Nat) (flag : Bool)
  /-- A clock pad rises first at a linear time and then carries a clock (R300, R301, R339, R348); whether the pad is inverted. -/
  | clockUp (channel t : Nat) (w : Wave) (inverted : Bool)
  /-- The clock that a pad carries through the frame that begins. -/
  | clock (channel : Nat) (w : Wave) (inverted : Bool)
  /-- A clock pad falls at a linear time and stays low (R348), or rises there to its park level. -/
  | clockDown (channel t : Nat)
  | parkHigh (channel t : Nat)
  /-- An MSI-X message on a vector (R582). -/
  | msix (vec : Nat)
  /-- Event records on a WOP channel (R584). -/
  | eventMsg (ch : Nat) (recs : List Nat)
  /-- An EVENT frame of this device on a link: its header and its event records (R510). -/
  | fabricEvent (link : Nat) (f : MgmtFrame) (recs : List Nat)
  /-- STACK_CLK_OUT rises at a linear time and every 65,536 q from there through the frame (R472). -/
  | stackClk (t : Nat)
  /-- A Marking pulse with the 256 bits of its message (R472, R474). -/
  | marking (w : Nat)
  /-- A Marking alert (R476); whether it aborts the message on the line. -/
  | alert (aborts : Bool)
  /-- An echo on MARK_RET: its time and its width in bit times (R477). -/
  | echo (t width : Nat)
  /-- A hello on a link (R493). -/
  | hello (link : Nat) (h : Hello)
  /-- A TIME frame on a link: its payload (R501). -/
  | time (link : Nat) (payload : List Byte)
  /-- A ROUTE frame on a link (R498). -/
  | route (link : Nat) (rows : List RouteRow)
  /-- A LEASE frame on a link (R496). -/
  | lease (link : Nat) (f : LeaseFrame)
  /-- A MGMT or EVENT frame sent on toward a destination (R499). -/
  | mgmt (link : Nat) (f : MgmtFrame)
  /-- A Tenon frame leaves: its 128-bit header, and what it carries on which link (R494). -/
  | tenon (header : Nat) (o : Out)
  /-- A MGMT frame with the device's response to a request (R508, R509). -/
  | mgmtAnswer (link : Nat) (f : MgmtFrame) (r : WopResp)
  /-- A completion written to a queue pair's ring: its slot and its two words (R617). -/
  | completion (q index w0 w1 : Nat)
  /-- A record written to a queue pair's record ring (R620). -/
  | record (q kind : Nat) (words : List Nat)
  /-- An Epoch Record on a WOP channel (R624). -/
  | epochMsg (ch : Nat) (words : List Nat)
  /-- A memory read request to the host: tag, page, address, length, requester (R243). -/
  | dmaRead (tag addr bytes : Nat)
  /-- A bank arbiter's decision: requester granted, 12 for refresh, 13 for none (R264). -/
  | grant (bank requester : Nat)
  /-- The BOUND and LIKELY forecasts of a loser (R270). -/
  | forecast (bank requester bound likely : Nat)
deriving DecidableEq, Repr

/-- A mode transition accepted and not in effect (R589, R591): target, boundary, cause, rank (0 first). -/
structure ModePend where
  target : Nat
  due    : Nat
  cause  : Nat
  rank   : Nat
deriving DecidableEq, Repr, Inhabited

/-- What a session holds beside its objects: the nonce of a WOP OPEN, the boundary count of its last renewal, when RETIRED ends,
its staged values (R525 to R529). -/
structure SessHid where
  nonce   : Option Nat := none
  renewed : Nat := 0
  retire  : Nat := 0
  staged  : List (Nat × Nat) := []
deriving DecidableEq, Repr, Inhabited

/-- A transaction slot of a session (R545): current generation, when its response was last sent, that response. -/
structure Txn where
  gen  : Nat := 0
  sent : Option Nat := none
  resp : WopResp := {}
deriving DecidableEq, Repr, Inhabited

/-- An accepted commit (R530, R531): session, due and check boundary, final, values, how many of them the session staged (the rest they
bring along, R364, R607), and SESS_GEN of the session. -/
structure Commit where
  sess  : Nat
  due   : Nat
  check : Nat
  final : Bool
  vals  : List (Nat × Nat)
  own   : Nat
  gen   : Nat
deriving DecidableEq, Repr, Inhabited

/-- A WOP channel (R548 to R550): transport, peer, principal row, keys of the two directions, highest COUNTER accepted and sent,
boundary count of its last valid message, next log entry to send. -/
structure Chan where
  transport : Nat := 0
  peer      : Nat := 0
  row       : Nat := 0
  keyIn     : Nat := 0
  keyOut    : Nat := 0
  ctrIn     : Nat := 0
  ctrOut    : Nat := 0
  lastMsg   : Nat := 0
  logPos    : Nat := 0
deriving DecidableEq, Repr, Inhabited

/-- A handshake between its HELLO and its FINISH (R548): transport, peer, the bodies so far, the client's certificate bytes. -/
structure Shake where
  transport : Nat
  peer      : Nat
  hello     : List Byte
  reply     : List Byte
deriving DecidableEq, Repr, Inhabited

/-- A record whose reaction is in progress (R576): source, SEQ, order of latching, the last frame of the interval in boundary counts
where known. -/
structure Handling where
  src   : Nat
  seq   : Nat
  order : Nat
  till  : Option Nat
deriving DecidableEq, Repr, Inhabited

/-- What opens a shadow (R571, R573, R574): a block reset, a reaction's direct effects, a first reporter of PHASE_DIST. -/
inductive ShadowKind where
  | block (b : Blk) (inst : Nat)
  | direct (reaction mask : Nat)
  | phaseDist (core : Nat)
deriving DecidableEq, Repr

/-- An open shadow: kind, the record that caused it, from which and until before which boundary count, and the sources logged in it. -/
structure Shadow where
  kind   : ShadowKind
  src    : Nat
  seq    : Nat
  start  : Nat
  till   : Option Nat
  logged : List Nat
deriving DecidableEq, Repr

/-- A reaction accepted and not in effect (R568): its source, record, code, cause bitmap and boundary. -/
structure React where
  src  : Nat
  seq  : Nat
  code : Nat
  mask : Nat
  due  : Nat
deriving DecidableEq, Repr, Inhabited

/-- A block reset ordered and not begun (R568, R571). -/
structure PendReset where
  blk  : Blk
  inst : Nat
  src  : Nat
  seq  : Nat
  due  : Nat
deriving DecidableEq, Repr

/-- What a UT synthesizer holds beside its objects: step of R350 (0 none, 1 gating, 3 acquiring, 4 settling, 5 waiting for a
restart), the deadline of R351, the end of the settle window, the frequency in force as NINT·2³² + NFRAC, the hitless steer
(from, to, frames, frames done), short of band on a live row, whether its pads left for substitutes, the VCO cycles since the second of
the last restart in 2⁻²⁵ cycles (R340), whether the last restart fixed the phase for R339, and the band-table row in force with its
reference temperature (R347). -/
structure UtHid where
  step     : Nat := 0
  lockBy   : Nat := 0
  settle   : Nat := 0
  num      : Nat := 39 * 2 ^ 32 + 0x10000000
  steer    : Option (Nat × Nat × Nat × Nat) := none
  short    : Bool := false
  fromSub  : Bool := false
  acc      : Nat := 0
  det      : Bool := false
  row      : Nat := 0
  tref     : Int := 0
deriving DecidableEq, Repr, Inhabited

/-- What a pad holds beside its objects. Times of a clock pad are counts of q from reset: boundaries times the length of a frame. -/
structure PadHid where
  /-- A gating instant has passed, at this time, and the pad has not closed (R348). -/
  closing  : Bool := false
  gateAt   : Nat := 0
  /-- The clock that the pad carries, and its first rising edge since it opened. -/
  wave     : Option Wave := none
  up       : Nat := 0
  /-- The clock before the pad was gated, the time from which it is low, and the time at which it rose to a HIGH park level (R348, R349). -/
  prev     : Option Wave := none
  fell     : Nat := 0
  parkUp   : Option Nat := none
  /-- The earliest boundary at which a gated pad may open. -/
  openFrom : Nat := 0
  /-- Boundary count at which the pad moved to its substitute (R415). -/
  substAt  : Nat := 0
  /-- The bank's VDDO left its class and the audit has not converged since (R292); the last audit target was out of range (R453). -/
  vddoBad  : Bool := false
  ranged   : Bool := false
  /-- Boundary at which settling began (R122). -/
  settle   : Option Nat := none
  /-- The level of the last nominal time of the source (R315). -/
  srcLevel : Option Bool := none
  /-- Boundary count of the last probe, and clean probes in a row (R315). -/
  probed   : Nat := 0
  clean    : Nat := 0
  /-- The driver resumes at the next boundary (R315). -/
  resume   : Bool := false
  /-- The automatic inversion was asked for in this frame and toggles at the next boundary (R317). -/
  invert   : Option Nat := none
  /-- The pad has carried an edge since reset (R297). -/
  carried  : Bool := false
  /-- A block has passed the audit since the settings last changed; boundary counts of the last edge and of the block's opening (R451, R452). -/
  audited  : Bool := false
  /-- The target that the trim follows, and the one that a closed block has set with the boundary from which it does (R23, R451). -/
  goal     : Int := 0
  goalNext : Option (Int × Nat) := none
  lastEdge : Option Nat := none
  auditAt  : Nat := 0
  /-- The driver waits for its bank's class (R645). -/
  waits    : Bool := false
  /-- By detector, frames in a row with its condition and without it; returned edges in a row against the pad and with it (R314). -/
  runs     : List (Nat × Nat) := []
  back     : Nat × Nat := (0, 0)
  /-- Audit samples of the bank's head when the block of the pad opened (R451). -/
  auditHad : Nat := 0
deriving DecidableEq, Repr, Inhabited

/-- What an input holds beside its objects: last timestamped edge of each direction, prescaler count, level, an inversion
due at the next boundary, and the compare history (time, level) with the times of dropped edges (R149, R320, R365). -/
structure InHid where
  lastRise : Option Nat := none
  lastFall : Option Nat := none
  presc    : Nat := 0
  level    : Bool := false
  invert   : Option Nat := none
  history  : List (Nat × Bool) := []
  drops    : List Nat := []
deriving DecidableEq, Repr, Inhabited

/-- Why a spare searches (R306, R308, R309). -/
inductive Purpose where
  | cal | host | back
deriving DecidableEq, Repr

/-- A search of a spare for a quiet point: purpose, channel, boundary count of the request. -/
structure Search where
  why : Purpose
  ch  : Nat
  req : Nat
deriving DecidableEq, Repr

/-- An accepted change of a bank's crosspoint: the channel that returns to its own core, the channel that the spare takes,
the state of the spare after it, and its boundary (R307 to R310). -/
structure XChange where
  back  : Option Nat
  cover : Option Nat
  after : Nat
  due   : Nat
deriving DecidableEq, Repr

/-- What a bank holds beside its objects: search, accepted change, channels waiting for the spare in the order they began. -/
structure BankHid where
  search  : Option Search := none
  change  : Option XChange := none
  waiting : List Nat := []
  /-- The channels of the last change. -/
  moved   : List Nat := []
  /-- The return that is searched for ends an anchor procedure (R228, R455). -/
  anchor  : Bool := false
  /-- Class within ±4 % of which VDDO lies and for how many frames; frames outside ±5 % of the class in force (R641). -/
  vIn     : Nat × Nat := (0, 0)
  vOut    : Nat := 0
  /-- Samples that the bank's head has had for the audit, and those that closed blocks have used (R429, R431). -/
  samples : Nat := 0
  used    : Nat := 0
deriving DecidableEq, Repr, Inhabited

/-- A sample edge of a slot (R372): SLOT_EDGE_SEQ, timestamp, seconds used for its phase, and whether that is a label given. -/
structure SlotEdge where
  seq   : Nat
  t     : Int
  sec   : Int
  given : Bool
deriving DecidableEq, Repr, Inhabited

/-- What a slot holds beside its objects (R367 to R376). -/
structure SlotHid where
  /-- Up to 64 samples, newest first: time in q, phase in q/16. -/
  samples   : List (Int × Int) := []
  /-- Up to 16 sample edges, newest first. -/
  edges     : List SlotEdge := []
  /-- Anchor of the edge grid. -/
  anchor    : Option Int := none
  /-- SECONDS and timestamp of the labelled edge. -/
  label     : Option (Int × Int) := none
  /-- Has been AVAILABLE since its type was set. -/
  everAvail : Bool := false
  /-- Frames of qualification and of wait-to-restore left. -/
  qual      : Nat := 0
  wtr       : Nat := 0
  /-- Event bits of SLOT_DISQ of the present frame. -/
  events    : Nat := 0
  noSig     : Bool := false
  timedOut  : Bool := false
  /-- Excluded under Equal-Rank Disagreement. -/
  dis       : Bool := false
  /-- Boundary count plus one of the last sample, and of the setting of the type. -/
  smpTick   : Option Nat := none
  typeTick  : Nat := 0
  /-- Phase at the last frame without a disagreement (R401). -/
  p0        : Int := 0
  /-- The latest phase, in q/16, exactly (R368): SLOT_PHASE is what of it fits. -/
  phase     : Int := 0
deriving DecidableEq, Repr, Inhabited

/-- A disagreement of two candidates (R380): slots, whether of phase, first boundary count, frames below 80 % in a row,
and whether it has no arbiter (R382). -/
structure Disag where
  a     : Nat
  b     : Nat
  phase : Bool
  start : Nat
  below : Nat
  noArb : Bool
deriving DecidableEq, Repr, Inhabited

/-- A learning sample (R398): boundary count of its second, m, θ. -/
structure Learn where
  tick : Nat
  m    : Int
  th   : Int
deriving DecidableEq, Repr, Inhabited

/-- What the stack port holds beside its objects. The master: TURN of the next message, boundary count and time of the last Marking
pulse, BOUND of the last message, conditions of R476 already alerted, pulses left that carry STEPPED, whether the last message carried
START, external round trips by position, newest first, and pulses in a row echoed. The follower: valid messages in a row, boundary
count of the latest one's pulse, DELAY of its own position, offsets in q/32, newest first, STACK_CLK_IN missing, the reference is
STACK_CLK_IN, the first pulse of ALIGNING has been taken, what it takes at the next pulse (frames, whether as first alignment, and
UTC_OFFSET and LEAP_PENDING), START of a start that failed, and the phase shifter: what it has moved and has left, in 10⁻¹⁸ q/16. The master again: positions that have
echoed the last Marking pulse, and whether an alert has aborted the message on the line. -/
structure StkHid where
  turn    : Nat := 0
  pulse   : Option (Nat × Nat) := none
  sent    : Nat := unknownBound
  seen    : Nat := 0
  steps   : Nat := 0
  starts  : Bool := false
  trips   : Sp (List Int) := []
  run     : Sp Nat := []
  okRun   : Nat := 0
  last    : Option Nat := none
  own     : Nat := 0xFFFFFF
  offs    : List Int := []
  clkMiss : Bool := false
  onStack : Bool := false
  joined  : Bool := false
  take    : Option (Int × Bool) := none
  utc     : Option (Int × Nat) := none
  failed  : Option Nat := none
  shifted : Int := 0
  left    : Int := 0
  echoed  : Nat := 0
  aborted : Bool := false
deriving DecidableEq, Repr, Inhabited

/-- What a Tenon link holds beside its objects: block lock, boundary counts of the last hello received and sent, hellos missed in a
row, hellos clear of the FAULT condition in a row, the peer's latest hello, the root view it offers (priority, unique ID, distance,
ROOT_SEQ); of two-way time transfer: boundary count of the last TIME frame sent, departures by SEQ, SEQ of the last one sent and of
the last one received with its arrival, exchanges since UP, the last 64 offsets with their times, the latest TDEPTH and CAL_VALID; the
frames that wait for the line with the boundary counts at which they came (R500), half blocks that the line has sent or is bound to send
in the present frame, frames sent; of TN_ASYM_CAL under way its argument, and of the exchanges so far the number, the sum of the values in
q/16 and the sum of their squares (R506). -/
structure LinkHid where
  lock    : Bool := false
  rxTick  : Nat := 0
  txTick  : Option Nat := none
  missed  : Nat := 0
  clean   : Nat := 0
  hello   : Option Hello := none
  view    : Option (Nat × Nat × Nat × Nat) := none
  timeAt  : Option Nat := none
  departs : List (Nat × Nat) := []
  txSeq   : Nat := 0
  rxSeq   : Option (Nat × Nat) := none
  exch    : Nat := 0
  offs    : List (Int × Int) := []
  depth   : Nat := 15
  calOk   : Bool := false
  sends   : List (Nat × Out) := []
  busy    : Nat := 0
  sentN   : Nat := 0
  asym    : Option (Nat × Nat × Int × Nat) := none
deriving DecidableEq, Repr, Inhabited

/-- What the fabric holds beside its objects: the root view in force (priority, unique ID) and the link it comes over, ROOT_SEQ last
seen and the boundary count of its advance, a root view dropped with the ROOT_SEQ it stood at, own ROOT_SEQ as root; the lease held:
boundary count of its start, seconds; leases granted: ends by address; addresses in quarantine; links by unique ID of LEASE requests
passed on; routes changed, boundary count of the last ROUTE frames; XIDs in quarantine and current generations. -/
structure FabHid where
  root    : Option (Nat × Nat) := none
  link    : Option Nat := none
  seq     : Nat := 0
  seqTick : Nat := 0
  dead    : Option (Nat × Nat) := none
  ownSeq  : Nat := 0
  lease   : Option (Nat × Nat) := none
  ends    : Sp Nat := []
  quar    : List (Nat × Nat) := []
  paths   : Sp Nat := []
  changed : Bool := false
  routeAt : Option Nat := none
  xidQuar : List (Nat × Nat) := []
  xidGen  : Sp Nat := []
deriving DecidableEq, Repr, Inhabited

/-- A page operation (R275, R286): code, entry, generation, page written or read, the other page of a move, next word, and where its
image comes from: a post slot, a read slot, or the tag of a transfer. -/
structure XOp where
  code  : Nat
  entry : Nat := 0
  gen   : Nat := 0
  ppn   : Nat
  peer  : Option Nat := none
  prog  : Nat := 0
  src   : Nat := 0
  /-- The word of a move has been read and waits for its write (R276); a scrubbed word waits for its rewrite (R253). -/
  half  : Bool := false
  /-- Boundary count at which the operation became active, and the frames for which it was active before (R19, R278). -/
  since : Nat := 0
  ran   : Nat := 0
deriving DecidableEq, Repr, Inhabited

/-- One requester's operations at a bank (R276, R277): active, held, waiting in the order of acceptance. -/
structure XUnit where
  active : Option XOp := none
  held   : Option XOp := none
  wait   : List XOp := []
deriving DecidableEq, Repr, Inhabited

/-- A page transfer (R243 to R246): whether refill or a load descriptor's (queue pair and descriptor tag), its request tag, entry,
generation, page number, physical page, host address of byte 0, attempts failed, bytes received (R136), image complete, first frame, and
whether it has a page buffer of its bank and has asked the host for the image (R280). -/
structure Xfer where
  load  : Option (Nat × Nat) := none
  tag   : Nat
  entry : Nat
  gen   : Nat
  page  : Nat
  ppn   : Nat
  addr  : Nat
  fails : Nat := 0
  data  : List Byte := []
  full  : Bool := false
  start : Nat
  asked : Bool := false
deriving DecidableEq, Repr, Inhabited

/-- What a ring slot holds (R231, R234): entry, generation, stream page number, segment page, whether it has been fetched by the
sequencer whole, and the boundary count before which a failed page is not tried again. -/
structure RingPage where
  slot  : Nat
  entry : Nat
  gen   : Nat
  n     : Nat
  j     : Nat
  used  : Bool := false
  retry : Option Nat := none
deriving DecidableEq, Repr, Inhabited

/-- A sequencer's ring (R234): pages in play order, and the slot that the next one takes. -/
structure RingHid where
  pages : List RingPage := []
  next  : Nat := 0
deriving DecidableEq, Repr, Inhabited

/-- A completed descriptor waiting to be posted (R617 to R619). -/
structure QpDone where
  tag    : Nat
  kind   : Nat
  result : Nat
  detail : Nat := 0
  value  : Nat
deriving DecidableEq, Repr, Inhabited

/-- What a queue pair holds beside its objects: finished descriptors not posted, oldest first, and whether its completion ring has
wrapped an odd number of times. -/
structure QpHid where
  done : List QpDone := []
  flip : Bool := false
deriving DecidableEq, Repr, Inhabited

/-- The cycle counts of a bank arbiter in the present frame (R259, R262, R284): cycle, refreshed rows, refresh cycles, idle cycles,
cycle of the last due grant, grants and surplus grants by requester, whether the row of the present slot is refreshed. -/
structure ArbHid where
  cycle   : Nat := 0
  row     : Bool := false
  refresh : Nat := 0
  idle    : Nat := 0
  lastDue : Option Nat := none
  grants  : Sp Nat := []
  surplus : Sp Nat := []
deriving DecidableEq, Repr, Inhabited

/-- A loop on the stack (R182): begin entry, passes, and the iterations of its current and its last completed pass. -/
structure LoopRec where
  first  : Nat
  passes : Nat := 0
  cur    : List (Nat × Nat × Nat) := []
  last   : List (Nat × Nat × Nat) := []
deriving DecidableEq, Repr, Inhabited

/-- An iteration, idle vector or stop of a sequencer's line (R181 to R205). -/
structure Iter where
  /-- Serial number; kind: 0 iteration, 1 idle vector, 2 stop. -/
  id     : Nat
  kind   : Nat
  entry  : Nat := 0
  gen    : Nat := 0
  /-- The iteration's number since its entry was entered. -/
  n      : Nat := 0
  len    : Nat := 1
  /-- Stream page number of its first page. -/
  page   : Nat := 0
  /-- The SQ_STATE it brings. -/
  state  : Nat := 2
  /-- Boundary count at which it was made final. -/
  final  : Nat := 0
  /-- Its boundary, once known. -/
  start  : Option Nat := none
  /-- What time-fill writes: vector, position (80 for TSSEL), value. -/
  fill   : List (Nat × Nat × Nat) := []
  /-- An underrun begins; the program resumes; pins park; a host request takes effect; a replay ends with it. -/
  under  : Bool := false
  resume : Bool := false
  park   : Bool := false
  jump   : Bool := false
  repEnd : Bool := false
  /-- First vector on a page retired since (R252); the loop stack as this choice left it. -/
  bad    : Option Nat := none
  loops  : List LoopRec := []
  /-- The replay sources that are held until it begins (R179, R237). -/
  held   : List (Nat × Nat × Nat) := []
deriving DecidableEq, Repr, Inhabited

/-- A fetched vector (R129, R186): its iteration, index, start time, period, contents, and whether its actions are done. -/
structure Vec where
  id     : Nat
  kind   : Nat
  entry  : Nat := 0
  gen    : Nat := 0
  n      : Nat := 0
  idx    : Nat := 0
  start  : Nat
  period : Nat
  fmt    : Nat := 0
  tssel  : Nat := 0
  codes  : Nat := 0
  tag    : Nat := 0
  clog   : Bool := false
  evt    : Bool := false
  park   : Bool := false
  handed : Bool := false
deriving DecidableEq, Repr, Inhabited

/-- A vector whose outcome is not decided (R149 to R151): its iteration and its windows as input, code, opening, closing. -/
structure CmpVec where
  id    : Nat := 0
  entry : Nat
  gen   : Nat
  seg   : Nat
  idx   : Nat
  n     : Nat
  tag   : Nat
  clog  : Bool
  wins  : List (Nat × Nat × Nat × Nat)
deriving DecidableEq, Repr, Inhabited

/-- A host request (R190 to R196), with the frame of its acceptance. -/
structure SqReq where
  stop   : Bool
  park   : Bool := false
  whn    : Nat := 0
  target : Nat := 0
  gen    : Nat := 0
  time   : Nat := 0
  fn     : Nat
deriving DecidableEq, Repr, Inhabited

/-- What a sequencer holds beside its objects. -/
structure SqHid where
  /-- The iteration playing and those final after it. -/
  line    : List Iter := []
  fifo    : List Vec := []
  /-- The vector that plays (R143): its timing set and its end. -/
  now     : Option (Nat × Nat) := none
  /-- Words read ahead of their turn, from a bank other than the next word's: iteration and word (R259). -/
  got     : List (Nat × Nat) := []
  /-- Next vector to fetch: iteration, index, start time. -/
  fIter   : Nat := 0
  fIdx    : Nat := 0
  tNext   : Nat := 0
  nextId  : Nat := 1
  /-- START of an armed sequencer. -/
  startAt : Option Nat := none
  /-- The iteration missing in an underrun, and the replay source: entry, generation, first stream page. -/
  missing : Option Iter := none
  source  : List (Nat × Nat × Nat) := []
  /-- Replay sources of underruns that the next item of the line ends. -/
  held    : List (Nat × Nat × Nat) := []
  /-- The last iteration completed: entry, generation, first stream page. -/
  done    : Option (Nat × Nat × Nat) := none
  /-- The iterations of the replay in progress that are not yet final. -/
  left    : List (Nat × Nat × Nat) := []
  /-- The loop stack, top first. -/
  loops   : List LoopRec := []
  req     : Option SqReq := none
  levels  : Sp Bool := []
  cmp     : List CmpVec := []
  /-- Outcomes combined since the last test of an entry (R185): entry, 0 NONE, 1 PASS, 2 FAIL, 3 INVALID. -/
  outcome : Nat × Nat := (0, 0)
  /-- The first iteration since that entry was entered from another. -/
  entered : Nat := 0
  /-- Boundary count of the lock's last renewal. -/
  renewed : Nat := 0
deriving DecidableEq, Repr, Inhabited

/-- The values of a DIRECT rule (R75): enabled, epoch, period, width, count. -/
structure RuleVal where
  on     : Bool := false
  epoch  : Int := 0
  period : Int := 0
  width  : Int := 0
  count  : Nat := 0
deriving DecidableEq, Repr, Inhabited

/-- A burst (R80, R81) with the values that started it: timestamp, offset, count, period, width, delay, next edge. -/
structure Burst where
  ts     : Nat
  offset : Int
  count  : Nat
  period : Int
  width  : Int
  delay  : Int
  next   : Nat := 0
deriving DecidableEq, Repr, Inhabited

/-- What the edge engine holds of a channel: source of the last pass, rule values of the last pass, pulses begun by nominal time of
their deassert, waiting nominal times (R84), burst in progress, bound computed for the next frame. -/
structure ChHid where
  src    : Nat := 0
  rules  : List RuleVal := []
  begun  : List Int := []
  wait   : List (Int × Bool) := []
  burst  : Option Burst := none
  bound  : Option Nat := none
  /-- Edge times of the last two edges queued, last first (R89, R91). -/
  hist   : List Nat := []
deriving DecidableEq, Repr, Inhabited

/-- An entry of an edge queue (R90): linear edge time, channel, level, vernier, trigger path. -/
structure QEdge where
  t     : Nat
  ch    : Nat
  level : Bool
  vern  : Nat
  trig  : Bool
deriving DecidableEq, Repr, Inhabited

/-- What a core holds: edge queue, edges of the frame being emitted that have left it, the proximity found for the next bound to be
computed and for the one after (R120, R416). -/
structure CoreHid where
  queue : List QEdge := []
  sentN : Nat := 0
  /-- Entries are being restored after an abandoned calibration (R447). -/
  restoring : Bool := false
  prox  : Bool := false
  proxN : Bool := false
  /-- The bound of the frame being emitted, and the one computed for the next, include the proximity term (R305). -/
  termNow  : Bool := false
  termNext : Bool := false
deriving DecidableEq, Repr, Inhabited

/-- A core calibration of a bank (R440 to R447): by swap, boundary counts of its start and of the present phase, IP_STATE before it,
the entries before and after STEP, boundary counts of the first and the last step, temperature of MEASURE, a frame of the block in
progress without a valid reference, return already forced. -/
structure CalHid where
  swap   : Bool := false
  began  : Nat := 0
  prior  : Nat := 3
  old    : List Int := []
  new    : List Int := []
  stepAt : Nat := 0
  last   : Option Nat := none
  temp   : Int := 0
  noRef  : Bool := false
  home   : Bool := false
deriving DecidableEq, Repr, Inhabited

/-- The anchor procedure (R454 to R456): channel, cores still to run, the core that runs and the boundary count of its run, results as
core, new anchor, new uncertainty, the new baseline, the boundary at which the results apply, the targets that step, a frame without
a valid reference. -/
structure AncRun where
  ch    : Nat
  left  : List Nat := []
  core  : Nat
  began : Option Nat := none
  done  : List (Nat × Int × Nat) := []
  base  : Option Int := none
  due   : Option Nat := none
  goal  : List (Nat × Int × Nat) := []
  noRef : Bool := false
deriving DecidableEq, Repr, Inhabited

/-- A calibration set (R458): its checks hold, the objects it carries, tables, sense baselines. -/
structure NvmSet where
  good : Bool := true
  seq  : Nat
  objs : List (Nat × Nat)
  corr : Sp Int
  base : Sp Int
deriving DecidableEq, Repr, Inhabited

/-- A flash operation in progress (R628): 1 erasing, 2 programming a row, 3 verifying; slot, row, bytes as a number. -/
structure FlOp where
  kind : Nat
  slot : Nat
  row  : Nat := 0
  data : Nat := 0
deriving DecidableEq, Repr, Inhabited

/-- The unit sides of the host interfaces, and the progress of LOAD. -/
structure HostHid where
  /-- The firmware flash: bytes by offset; erased bytes are not listed (R627). -/
  flash    : Sp Byte := []
  flOp     : Option FlOp := none
  /-- Image slot that runs, and slots checked (R595, R628). -/
  fwSlot   : Option Nat := none
  fwTried  : List Nat := []
  /-- The steps of LOAD done (R595): the set chosen and its slot (32 the factory copy), cores whose tables are loaded, the boundary at which the
  sweep began, the sweep made or skipped. -/
  bootSet  : Option (Nat × NvmSet) := none
  loaded   : List Nat := []
  sweepAt  : Option Nat := none
  swept    : Bool := false
  /-- WOP datagrams accepted in the present period (R623). -/
  ethCount : Nat := 0
  /-- Edges withheld and flagged and underruns begun, as the last telemetry record counted them (R631). -/
  telBase  : Nat × Nat × Nat := (0, 0, 0)
  /-- Boundary count of the last telemetry record. -/
  telAt    : Nat := 0
  /-- The PCI Express link is in DL_Active (R609). -/
  pcieUp   : Bool := false
  /-- The instruction of the test access port; 8 before one is loaded (R629). -/
  jtag     : Nat := 8
  /-- By row of FAB_EVT_SUBS: the log entry it has reached (R510). -/
  subPos   : Sp Nat := []
deriving DecidableEq, Repr, Inhabited


/-- The state. -/
structure State where
  /-- Commands waiting, first in first out. -/
  pending   : List Instr
  /-- What the last command drove out. -/
  out       : List Out
  /-- The model's own counter of free values. -/
  free      : Nat
  /-- The object dictionary: what differs from reset (R515 to R520). -/
  od        : Sp Nat
  /-- Frame boundaries since reset release; every pending time is held against it. -/
  tick      : Nat
  /-- The clock that carries the core and coarse cycles. -/
  clock     : Clock
  /-- BAR0 read latch: object and upper half (R55). -/
  barLatch  : Option (Nat × Nat)
  /-- BAR0 write hold: object and upper half (R55). -/
  barHold   : Option (Nat × Nat)
  /-- The mode transition accepted and not in effect. -/
  modePend  : Option ModePend
  /-- The condition for leaving M2 has held since reset (R588). -/
  m2Left    : Bool
  /-- M10 was entered from M1: only a reset leaves it (R590, R598). -/
  bootRom   : Bool
  /-- MODE_REQUEST 3 has been accepted in M2 (R589). -/
  req3      : Bool
  /-- Consecutive frames of Spindle lock (R589). -/
  spnFrames : Nat
  /-- Causes of M0 that hold: bit 0 power-on or a supply, 1 RESET_N, 2 temperature, 3 a test instruction (R592, R629, R654). -/
  m0Causes  : Nat
  /-- What each session holds beside its objects. -/
  sess      : Sp SessHid
  /-- Transaction slots, at 64 × session + slot. -/
  txns      : Sp Txn
  /-- Accepted commits in the order of acceptance. -/
  commits   : List Commit
  /-- WOP channels 0 to 15. -/
  chans     : Sp Chan
  /-- Handshakes under way. -/
  shakes    : List Shake
  /-- SMBus selection (R547): index × 256 + subindex. -/
  smb       : Option Nat
  /-- Events raised in the present frame, by source. -/
  raised    : Sp Ev
  /-- Frame number, and boundary count, of the last event of each source. -/
  evLast    : Sp (Nat × Nat)
  /-- Counted events of the 16 sub-windows of each source, the present one first (R559). -/
  fcSubs    : Sp (List Nat)
  /-- Counted escalations of the 16 sub-windows of FC_ESC_WINDOW (R562). -/
  escSubs   : List Nat
  /-- Order in which held records were latched, and the next number. -/
  recOrd    : Sp Nat
  recNext   : Nat
  handling  : List Handling
  shadows   : List Shadow
  reacts    : List React
  resets    : List PendReset
  /-- Sources whose FORCE_HOLDOVER is in force (R567). -/
  forced    : List Nat
  /-- MSI-X mask and pending bits of 128 vectors (R582). -/
  msixMask  : Nat
  msixPend  : Nat
  /-- What the measuring units latched last. -/
  meas      : Latch
  utHid     : Sp UtHid
  padHid    : Sp PadHid
  inHid     : Sp InHid
  bankHid   : Sp BankHid
  /-- The steering word formed for the next boundary (R326). -/
  steerNext : Int
  /-- Consecutive frames of Spindle margin below 100 ppm, and at or above 150 ppm (R329). -/
  marginLow : Nat
  marginOk  : Nat
  /-- LOSC is missing (R332). -/
  loscMiss  : Bool
  /-- Bounds are unknown after LOSC was missing (R332), and after BYP lost lock carrying the clocks (R337). -/
  unkLosc   : Bool
  unkByp    : Bool
  /-- Consecutive frames of BYP lock (R337). -/
  bypFrames : Nat
  /-- Boundary count of the switch to BYP (R410 row 6). -/
  bypSince  : Nat
  /-- Since the switch back, no sample of a time slot has reached the servo term (R414). -/
  bypResid  : Bool
  /-- The Spindle has lost lock since the core and coarse clocks were last moved to it (R331). -/
  lostLock  : Bool
  slots     : Sp SlotHid
  /-- Decided changes of the selected slot, oldest first: slot or 255, boundary (R378). -/
  selPend   : List (Nat × Nat)
  disag     : List Disag
  /-- Frames since no disagreement, and the steering less the model summed over them (R401). -/
  undisp    : Nat
  predInt   : Int
  /-- Consecutive samples of the selected slot within 1 ns (R388), and a sample of it in the present frame. -/
  within    : Nat
  /-- The latest phase of the selected slot less its target, exactly (R386, R396): HS_SERVO_ERR is what of it fits. -/
  servoErr  : Int
  newSmp    : Bool
  /-- What the servo takes from the selected slot's phase: the re-anchored target of R386 or the absorbed offset of R407, q/16. -/
  target    : Int
  /-- A switchover has begun and not ended (R389, R390). -/
  swOn      : Bool
  learn     : List Learn
  /-- t_n and θ_n of the model in force; the model is frozen (R399, R400). -/
  learnN    : Nat × Int
  /-- Sum and count of SPN_STEER + SLOT_FREQ_OFF of the learning source over the frames of the present second, and of the last (R398). -/
  learnSum  : Int × Nat
  /-- Boundary count of the last self-calibration of the Calliper (R430). -/
  selfCal   : Option Nat
  learnLast : Int × Nat
  frozen    : Bool
  /-- Coasting state of R411 (0 none, 2 FLYWHEEL, 3 HOLDOVER, 4 FREERUN) and boundary count of its entry. -/
  coast     : Nat
  coastTick : Nat
  /-- Boundary count of the last frame with a time slot selected (R405). -/
  timeTick  : Option Nat
  /-- The Epoch Record being signed: bytes 0 to 63, and its SEQ. -/
  erBuild   : Option (List Byte × Nat)
  /-- A step took effect since the previous record (R421). -/
  stepped   : Bool
  /-- Records since the boot, and TS_STEP accepted and not in effect (frames, boundary). -/
  erCount   : Nat
  tsStep    : Option (Int × Nat)
  /-- Of the latest valid Marking message: BOUND, and its COARSE and LOCAL bits (R487). -/
  stkBound  : Nat
  stkCoarse : Bool
  stkLocal  : Bool
  /-- TDEPTH of the latest valid Marking message (R505). -/
  stkDepth  : Nat
  /-- An alert has been seen since the latest valid message (R488). -/
  stkAlert  : Bool
  /-- A stack start under way (R200): START, messages that have carried it, and the follower's START already acted on. -/
  stkStart  : Option (Nat × Nat × Nat)
  stk       : StkHid
  links     : Sp LinkHid
  fab       : FabHid
  /-- Vector memory: data words by word address; a word nothing has written is not listed (R207). -/
  vmem      : Sp VWord
  /-- Bytes of the post slots and read slots, by offset in the window (R211, R215, R611). -/
  slotBytes : Sp Byte
  /-- Page operations of requesters 8, 10 and 11 at 4 × bank + requester − 8; those of the mover at 64 (R276). -/
  xunits    : Sp XUnit
  arb       : Sp ArbHid
  xfers     : List Xfer
  /-- Tags of timed-out requests and the boundary at which each may be used again (R246). -/
  lateTags  : List (Nat × Nat)
  rings     : Sp RingHid
  /-- Bank of the page last allocated to a sequencer (R218). -/
  lastBank  : Sp Nat
  /-- SEG_IDs under quarantine, and values of a generation last held, with their boundaries (R247, R248). -/
  quarIds   : List (Nat × Nat)
  genLog    : List (Nat × Nat × Nat)
  /-- SEG_FREE accepted and not in effect: entry, boundary (R180). -/
  segFrees  : List (Nat × Nat)
  /-- RETIRED entries and the boundary at which each becomes FREE (R247). -/
  segRetire : List (Nat × Nat)
  /-- Iterations of a streamed entry made final since its generation (R231). -/
  streamIt  : Sp Nat
  /-- The copy of the mover is complete and takes effect at the next boundary (R223). -/
  moveDone  : Bool
  /-- Self-test (R255): pages still to test, tested, failed. -/
  selftest  : Option (List Nat × Nat × Nat)
  qp        : Sp QpHid
  /-- Page last scrubbed of each bank (R253), and the boundary count at which it was done. -/
  scrubAt   : Sp Nat
  scrubTick : Sp Nat
  /-- The bank of a page retired without a replacement, by the row that the replacement takes (R251). -/
  lostBank  : Sp Nat
  /-- Entries whose RES_PIN has changed while they were active (R219). -/
  resDue    : List Nat
  /-- Device Control of the PCI Express function: completion timeout code, Max_Read_Request_Size code, D3hot (R243, R612). -/
  devCtl    : Nat × Nat × Bool
  sqHid     : Sp SqHid
  chHid     : Sp ChHid
  coreHid   : Sp CoreHid
  /-- A placement pass has been made in the present frame (R20). -/
  passed    : Bool
  /-- Lanes out of service (R104). -/
  lanesOut  : Nat
  /-- Correction tables in use, at (core × 2 + vernier) × 256 + index, in q/16 (R112). -/
  corr      : Sp Int
  /-- Consecutive frames in which VDD, VDDA, VDDIO, VDDH lay outside their ranges (R558), and with a sensor at 125 °C or more (R654). -/
  supOut    : List Nat
  hotFrames : Nat
  cal       : Sp CalHid
  ancRun    : Option AncRun
  /-- Sense baselines of the pads in q/16 (R455). -/
  baseline  : Sp Int
  /-- Standard deviation and count of the last passing audit block of each pad (R452). -/
  auditBlk  : Sp (Nat × Nat)
  /-- By core: the boundary from which RETRY no longer bars it, and the boundary count plus one at which its request began (R435, R449). -/
  calRetry  : Sp Nat
  calSince  : Sp Nat
  /-- The calibration slots of the NVM, at 16 × bank + slot (R458), and the BOOT count it keeps (R423). -/
  nvm       : Sp NvmSet
  nvmBoot   : Nat
  /-- A store in progress: the slots tried and the set it writes; a store asked for; boundary count of the last (R459). -/
  store     : Option (List Nat × NvmSet)
  storeDue  : Bool
  storeLast : Nat
  host      : HostHid
deriving DecidableEq, Repr

/-- Why a step would stop with a fault. No command of this block does: the manual gives every command an effect. -/
inductive Fault where
  /-- Raised by nothing: kept so that the type has a member. Safe. -/
  | none
deriving DecidableEq, Repr

/-- Why a step refuses a command. -/
inductive Refusal where
  /-- Raised by exec for a command whose meaning is not written. Safe: the run stops. -/
  | notModelled (mnemonic : String)
deriving DecidableEq, Repr

/-- The part in reset (R518, R593): every object at its Default, mode M0, nothing listed in any memory. -/
def State.reset : State where
  pending := []
  out := []
  free := 0
  od := []
  tick := 0
  clock := .none
  barLatch := none
  barHold := none
  modePend := none
  m2Left := false
  bootRom := false
  req3 := false
  spnFrames := 0
  m0Causes := 1
  sess := []
  txns := []
  commits := []
  chans := []
  shakes := []
  smb := none
  raised := []
  evLast := []
  fcSubs := []
  escSubs := []
  recOrd := []
  recNext := 0
  handling := []
  shadows := []
  reacts := []
  resets := []
  forced := []
  msixMask := 2 ^ 128 - 1
  msixPend := 0
  meas := default
  utHid := []
  padHid := []
  inHid := []
  bankHid := []
  steerNext := 0
  marginLow := 0
  marginOk := 0
  loscMiss := false
  unkLosc := false
  unkByp := false
  bypFrames := 0
  bypSince := 0
  bypResid := false
  lostLock := false
  slots := []
  selPend := []
  disag := []
  undisp := 0
  predInt := 0
  within := 0
  servoErr := 0
  newSmp := false
  target := 0
  swOn := false
  learn := []
  learnN := (0, 0)
  learnSum := (0, 0)
  selfCal := none
  learnLast := (0, 0)
  frozen := false
  coast := 0
  coastTick := 0
  timeTick := none
  erBuild := none
  stepped := false
  erCount := 0
  tsStep := none
  stkBound := unknownBound
  stkCoarse := false
  stkLocal := false
  stkDepth := 15
  stkAlert := false
  stkStart := none
  stk := {}
  links := []
  fab := {}
  vmem := []
  slotBytes := []
  xunits := []
  arb := []
  xfers := []
  lateTags := []
  rings := []
  lastBank := []
  quarIds := []
  genLog := []
  segFrees := []
  segRetire := []
  streamIt := []
  moveDone := false
  selftest := none
  qp := []
  scrubAt := []
  scrubTick := []
  lostBank := []
  resDue := []
  devCtl := (0, 2, false)
  sqHid := []
  chHid := []
  coreHid := []
  passed := false
  lanesOut := 0
  corr := []
  supOut := [0, 0, 0, 0]
  hotFrames := 0
  cal := []
  ancRun := none
  baseline := []
  auditBlk := []
  calRetry := []
  calSince := []
  nvm := []
  nvmBoot := 0
  store := none
  storeDue := false
  storeLast := 0
  host := {}

end Sys2Proof.Machine
end

