-- ==== Sys2Proof/Machine/Ops.lean ====
section
/-! DEFINITION. The named operations every meaning is built from: reading and writing an object, raising an event, driving
something out, free values, who may do what (R522, R523), and the record of a command (R534). -/

namespace Sys2Proof.Machine

/-! ## Objects -/

/-- What an object holds. -/
def State.g (s : State) (k : Nat) : Nat := Sp.get dflt s.od k
/-- Write an object. -/
def State.p (s : State) (k v : Nat) : State := { s with od := Sp.set dflt s.od k v }
/-- Add one to a counter; no counter of the dictionary wraps (R585 and its like), save where its rule says. -/
def State.inc (s : State) (k : Nat) : State := s.p k (s.g k + 1)
/-- Add to a counter. -/
def State.add (s : State) (k n : Nat) : State := s.p k (s.g k + n)
/-- An I64 or DUR64 object. -/
def State.gi (s : State) (k : Nat) : Int := toI64 (s.g k)
/-- Write an I64 or DUR64 object; a value beyond its range reads as the end of the range (DESIGN CHOICE, log entry 86). -/
def State.pi (s : State) (k : Nat) (v : Int) : State := s.p k (ofI64 (satI64 v))
/-- A BOOL object. -/
def State.gb (s : State) (k : Nat) : Bool := s.g k != 0
/-- Set or clear one bit of an object. -/
def State.pbit (s : State) (k i : Nat) (b : Bool) : State := s.p k (setBit (s.g k) i b)
/-- The subindex or row n places after an object. -/
def atSub (k n : Nat) : Nat := k + n * 65536
/-- Row r of a table object. -/
def atRow (k r : Nat) : Nat := k + r

/-- Several objects in order. -/
def State.pAll (s : State) (l : List (Nat × Nat)) : State := l.foldl (fun s p => s.p p.1 p.2) s

/-! ## Frame, mode and free values -/

/-- The frame number of the current frame. -/
def State.fn (s : State) : Nat := s.g K.TS_FN
/-- The earliest boundary at which a change accepted now takes effect (R23). -/
def State.soon (s : State) : Nat := s.tick + 3
/-- The mode in force. -/
def State.mode (s : State) : Nat := s.g K.MODE
/-- The linear time at which the current frame begins (R58). -/
def State.frameStart (s : State) : Nat := s.fn * qFrame
/-- The frame number at a boundary count. -/
def State.fnAt (s : State) (t : Nat) : Nat := s.fn + t - s.tick
/-- The timescale is aligned (R43). -/
def State.aligned (s : State) : Bool := s.gb K.TS_STATE
/-- Placement is coarse: the clock is not the Spindle (R11, R111). -/
def State.coarse (s : State) : Bool := s.clock != .spindle

/-- Take the next free value. -/
def State.fresh (s : State) : Nat × State := (Config.freeValue s.free, { s with free := s.free + 1 })

/-- An estimate the manual states without its rounding: the quotient when it is whole, else one of its two neighbours, freely. -/
def State.est (s : State) (num : Int) (den : Nat) : Int × State :=
  if num % (den : Int) = 0 then (num / (den : Int), s)
  else (num / (den : Int) + (if Config.roundsUp s.free then 1 else 0), { s with free := s.free + 1 })

/-- Drive something out. -/
def State.emit (s : State) (o : Out) : State := { s with out := s.out ++ [o] }

/-- A command's meaning from its effect: what an earlier command drove out is gone, and the waiting commands stay as they are. -/
def runAny (f : State → State) (s : State) : Host.Outcome State Fault Refusal :=
  .next { f { s with out := [] } with pending := s.pending }

/-- The meaning of a command that M0 RESET does not know: there no clock runs and no interface answers (R593). -/
def run (f : State → State) : State → Host.Outcome State Fault Refusal :=
  runAny (fun s => if s.mode = 0 then s else f s)

/-! ## Events (R555) -/

/-- The event of a source in the present frame. -/
def State.ev (s : State) (src : Nat) : Option Ev := Sp.find s.raised src
def State.putEv (s : State) (src : Nat) (e : Ev) : State := { s with raised := Sp.ins s.raised src e }

/-- Raise a source whose cause is a bitmap: a source is counted once per frame, with the bitmaps joined. -/
def State.raiseBits (s : State) (src m : Nat) : State :=
  match s.ev src with
  | some e => s.putEv src { e with detail := e.detail ||| m, mask := e.mask ||| m, bits := true }
  | none => s.putEv src { detail := m, mask := m, inputs := 0, bits := true }

/-- Raise a source whose cause is no bitmap: the first cause of a frame stands. -/
def State.raiseVal (s : State) (src d : Nat) : State :=
  match s.ev src with
  | some _ => s
  | none => s.putEv src { detail := d, mask := 0, inputs := 0, bits := false }

/-- Raise a source with a detail of its own and a bitmap joined over the frame. -/
def State.raiseDet (s : State) (src d m : Nat) : State :=
  match s.ev src with
  | some e => s.putEv src { e with mask := e.mask ||| m }
  | none => s.putEv src { detail := d, mask := m, inputs := 0, bits := true }

/-- Raise EV043 with its two bitmaps (R325). -/
def State.raiseOpen (s : State) (outs ins : Nat) : State :=
  let s := s.raiseBits 43 outs
  match s.ev 43 with
  | some e => s.putEv 43 { e with inputs := e.inputs ||| ins }
  | none => s

/-- Set bits of REPLACE_REASON: each bit that sets raises EV123, and ESCALATIONS raises EV122 (R558, R579). -/
def State.setReplace (s : State) (i : Nat) : State :=
  if bit (s.g K.REPLACE_REASON) i then s
  else
    let s := (s.pbit K.REPLACE_REASON i true).raiseBits 123 (2 ^ i)
    if i = 11 then s.raiseVal 122 0 else s

/-- Clear a bit of REPLACE_REASON; NVM_LIFE never clears (R579). -/
def State.clearReplace (s : State) (i : Nat) : State :=
  if i = 8 then s else s.pbit K.REPLACE_REASON i false

/-! ## Result codes (R535) -/

namespace RC
abbrev ok : Nat := 0
abbrev accepted : Nat := 1
abbrev range : Nat := 2
abbrev malformed : Nat := 3
abbrev access : Nat := 4
abbrev state : Nat := 5
abbrev locked : Nat := 6
abbrev owner : Nat := 7
abbrev stale : Nat := 8
abbrev busy : Nat := 9
abbrev horizon : Nat := 10
abbrev overlap : Nat := 11
abbrev active : Nat := 12
abbrev rate : Nat := 13
abbrev laneCapacity : Nat := 14
abbrev placementLoad : Nat := 15
abbrev placementCapacity : Nat := 16
abbrev ringSize : Nat := 17
abbrev source : Nat := 18
abbrev quarantine : Nat := 19
abbrev supply : Nat := 20
abbrev band : Nat := 21
abbrev modeChanged : Nat := 22
abbrev noObject : Nat := 23
abbrev noSession : Nat := 24
abbrev privilege : Nat := 25
abbrev full : Nat := 26
abbrev skipped : Nat := 27
abbrev auth : Nat := 28
end RC

/-! ## Who asks (R522, R523) -/

/-- The owner identity of a requester (R523). -/
def identityOf (w : Who) : Nat :=
  w.transport % 16 * 2 ^ 60 + w.originGen % 256 * 2 ^ 52 + w.originAddr % 4096 * 2 ^ 40 + w.principal % 256 * 2 ^ 32
    + w.bootEpoch % 2 ^ 32

/-- An identity without its boot epoch: TRANSPORT, ORIGIN and PRINCIPAL (R526). -/
def identityParty (i : Nat) : Nat := i / 2 ^ 32
def identityTransport (i : Nat) : Nat := i / 2 ^ 60

/-- Queue pair 0 over PCI Express, the principal of a BAR0 access (R537). -/
def bar0Who (epoch : Nat) : Who := { transport := 1, originGen := 0, originAddr := 0, principal := 0, bootEpoch := epoch }

/-- A row of PRINCIPALS: privilege and VALID (R551). -/
def principalRow (row : Nat) : Nat × Bool := (bits row 263 256, bit row 264)

/-- The privilege of a requester (R522): 0 READ, 1 OPERATE, 2 CONFIGURE, 3 ADMIN. -/
def State.privOf (s : State) (w : Who) : Nat :=
  if w.transport = 1 then
    (if w.principal = 0 then 3
     else if w.principal = 1 then s.g K.QP_PRIV_1
     else if w.principal = 2 then s.g K.QP_PRIV_2 else s.g K.QP_PRIV_3)
  else if w.transport = 2 ∨ w.transport = 3 then
    (let r := principalRow (s.g (K.PRINCIPALS + w.principal))
     if r.2 then min r.1 3 else 0)
  else 0

/-! ## Commands (R534) -/

/-- What a command answers: result code, VALUE, and the state it leaves. -/
structure CmdRes where
  code  : Nat
  value : Nat
  st    : State

/-- The indices reachable while the boot ROM runs (R598): identity, mode and the flash objects. -/
def bootRomReach (k : Nat) : Bool :=
  keyIndex k == 0x1000 || keyIndex k == 0x2000 ||
  (keyIndex k == 0xb000 && keySub K.FL_SLOTS ≤ keySub k && keySub k ≤ keySub K.FL_STATE)

/-- The dictionary can be reached (R593). -/
def State.reach (s : State) : Bool := s.mode != 0

/-- Set fields to zero. -/
def clearFields (v : Nat) (l : List (Nat × Nat)) : Nat := l.foldl (fun v f => setBits v f.1 f.2 0) v

/-- The reserved bits of the command arguments whose layouts have some (R7): the record of the command reads them as 0. -/
def argReserved (k : Nat) : List (Nat × Nat) :=
  let i := keyIndex k
  let s := keySub k
  if 0x6020 ≤ i ∧ i < 0x6028 ∧ s = keySub (K.SQ_JUMP 0) then [(103, 92)]
  else if k = K.SQ_START then [(118, 92)]
  else if 0x3000 ≤ i ∧ i < 0x3700 ∧ s = keySub (K.SLOT_LABEL 0) then [(79, 64)]
  else if k = K.PAGE_POST then [(102, 64)]
  else if k = K.FC_CLEAR then [(31, 7)]
  else []

/-- Keep the record of a command's latest execution (R534). -/
def State.keepRecord (s : State) (k arg code value : Nat) (w : Who) : State :=
  let arg := clearFields arg (argReserved k)
  ((((((s.p k (arg % 2 ^ 64)).p (k + 1) (arg / 2 ^ 64 % 2 ^ 64)).p (k + 2) code).p (k + 3) value).inc (k + 4)).p (k + 5) s.fn).p
    (k + 6) (identityOf w)

/-- Execute a command for a requester: privilege first, then its body; the record is kept, refused or not. -/
def State.call (s : State) (w : Who) (k arg need : Nat) (body : State → CmdRes) : CmdRes :=
  if s.bootRom && !bootRomReach k then ⟨RC.noObject, 0, s⟩
  else
    let r := if s.privOf w < need then ⟨RC.privilege, 0, s⟩ else body s
    ⟨r.code, r.value, r.st.keepRecord k arg r.code r.value w⟩

/-- The meaning of a command row: in M0 the dictionary is unreachable and nothing happens (R593). -/
def State.command (s : State) (r : State → CmdRes) : State :=
  if s.reach then (let c := r s; c.st.emit (.result c.code c.value)) else s

/-- A command refused with a result code. -/
def State.deny (s : State) (code : Nat) : CmdRes := ⟨code, 0, s⟩
/-- A command done. -/
def State.done (s : State) (value : Nat := 0) : CmdRes := ⟨RC.ok, value, s⟩
/-- A command accepted for a later frame. -/
def State.accept (s : State) (value : Nat := 0) : CmdRes := ⟨RC.accepted, value, s⟩

/-! ## Hidden records -/

def State.sessOf (s : State) (k : Nat) : SessHid := Sp.get (fun _ => {}) s.sess k
def State.setSess (s : State) (k : Nat) (h : SessHid) : State := { s with sess := Sp.set (fun _ => {}) s.sess k h }
def State.txnOf (s : State) (k slot : Nat) : Txn := Sp.get (fun _ => {}) s.txns (k * 64 + slot)
def State.setTxn (s : State) (k slot : Nat) (t : Txn) : State := { s with txns := Sp.set (fun _ => {}) s.txns (k * 64 + slot) t }

def State.ut (s : State) (u : Nat) : UtHid := Sp.get (fun _ => {}) s.utHid u
def State.setUt (s : State) (u : Nat) (h : UtHid) : State := { s with utHid := Sp.set (fun _ => {}) s.utHid u h }
def State.pad (s : State) (c : Nat) : PadHid := Sp.get (fun _ => {}) s.padHid c
def State.setPad (s : State) (c : Nat) (h : PadHid) : State := { s with padHid := Sp.set (fun _ => {}) s.padHid c h }
def State.inp (s : State) (n : Nat) : InHid := Sp.get (fun _ => {}) s.inHid n
def State.setInp (s : State) (n : Nat) (h : InHid) : State := { s with inHid := Sp.set (fun _ => {}) s.inHid n h }
def State.bank (s : State) (k : Nat) : BankHid := Sp.get (fun _ => {}) s.bankHid k
def State.setBank (s : State) (k : Nat) (h : BankHid) : State := { s with bankHid := Sp.set (fun _ => {}) s.bankHid k h }
def State.slot (s : State) (n : Nat) : SlotHid := Sp.get (fun _ => {}) s.slots n
def State.setSlot (s : State) (n : Nat) (h : SlotHid) : State := { s with slots := Sp.set (fun _ => {}) s.slots n h }

/-- Do something for each of a list of instances, in order. -/
def State.each (s : State) (l : List Nat) (f : State → Nat → State) : State := l.foldl f s
/-- The channels 0 to n − 1 that satisfy a test. -/
def instances (n : Nat) (p : Nat → Bool) : List Nat := (List.range n).filter p
/-- The bitmap of a list of positions. -/
def bitmap (l : List Nat) : Nat := l.foldl (fun m i => m ||| 2 ^ i) 0

end Sys2Proof.Machine
end

