-- ==== Sys2Proof/Machine/Modes.lean ====
section
/-! DEFINITION. Mode requests and the called-for mode (R588 to R591), and the two flags every bound needs: usable model, holdover age. -/

namespace Sys2Proof.Machine

/-- The model is usable (R400). -/
def State.usable (s : State) : Bool := s.frozen || s.g K.SR_LEARN_MIN ≤ s.g K.SR_LEARNED

/-- A slot carries time of day (R363). -/
def carriesTime (type : Nat) : Bool := type == 1 || type == 5 || type == 6

/-- The selected slot, if one is selected. -/
def State.selected (s : State) : Option Nat := if s.g K.HS_SELECTED = 255 then none else some (s.g K.HS_SELECTED)

/-- A time slot is selected. -/
def State.timeSelected (s : State) : Bool :=
  match s.selected with
  | some n => carriesTime (s.g (K.SLOT_TYPE n))
  | none => false

/-- The mode M9, M10 and M11 steer by (R588). -/
def State.calledFor (s : State) : Nat :=
  if !s.m2Left then 2
  else if s.g K.STK_STATE = 4 ∨ s.g K.STK_STATE = 5 then 8
  else if !s.aligned then 3
  else if s.swOn then 5
  else if s.g K.HS_SELECTED ≠ 255 then 4
  else if s.coast = 4 then 7
  else if s.usable then 6 else 7

/-- The mode whose steering is in force: the called-for mode in M9, M10 and M11 (R588). -/
def State.effMode (s : State) : Nat := if 9 ≤ s.mode then s.calledFor else s.mode

/-- M6 or M7, by whether the model is usable (R403). -/
def State.coastMode (s : State) : Nat := if s.usable then 6 else 7

/-- Accept a transition: it replaces the pending one when it ranks higher; ranks are those of R591, 0 first. -/
def State.askMode (s : State) (target cause rank : Nat) : State :=
  let free : Bool := match s.modePend with
    | some p => rank < p.rank
    | none => true
  if free then
    ({ s with modePend := some { target := target, due := s.soon, cause := cause, rank := rank } }.p K.MODE_PENDING target).p
      K.MODE_PENDING_FN (s.fnAt s.soon)
  else s

/-- A request of the Headstock or the Steady Rest: not made in M9, M10 and M11 (R588), nor when it asks for the mode in force. -/
def State.askSteer (s : State) (target cause : Nat) : State :=
  if 9 ≤ s.mode ∨ s.mode = target then s else s.askMode target cause 3

/-- The stack port asks for M8 as STK_STATE enters ALIGNING (R484), from M2 to M7. -/
def State.askFollow (s : State) : State := if 2 ≤ s.mode ∧ s.mode ≤ 7 then s.askMode 8 4 1 else s

/-- Withdraw the pending transition (R589, R591). -/
def State.withdrawMode (s : State) : State :=
  ({ s with modePend := none }.p K.MODE_PENDING 255).p K.MODE_PENDING_FN 0

/-- STK_STATE leaves ALIGNING and FOLLOWING: a request for M8 not in effect is withdrawn, and M8 ends (R484, R589). -/
def State.leaveFollow (s : State) (target : Nat) : State :=
  let s := if s.modePend.any (fun p => p.target == 8) then s.withdrawMode else s
  if s.mode = 8 then s.askMode target 4 1 else s

/-- A transition of R589 that a host request names. -/
def hostTransition (mode target : Nat) (bootRom : Bool) : Bool :=
  if target = 3 then (mode == 2 || mode == 9 || mode == 10 || mode == 11) && !bootRom
  else if target = 9 then 2 ≤ mode && mode ≤ 7
  else if target = 11 then 2 ≤ mode && mode ≤ 7
  else if target = 10 then (2 ≤ mode && mode ≤ 9) || mode == 11
  else false

/-- A severe source whose severe reaction in force is SAFE keeps M10 (R590). -/
def State.safeSevere (s : State) : Bool :=
  (List.range 128).any (fun e =>
    bit (if e < 64 then s.g K.FC_SEVERE_LO else s.g K.FC_SEVERE_HI) (e % 64) &&
    bits (s.g (atRow K.FC_CONFIG e)) 60 58 == 7)

/-- The privilege a target of MODE_REQUEST needs (R553). -/
def modeNeed (mode target : Nat) : Nat :=
  if target = 9 ∨ target = 10 ∨ target = 11 ∨ mode = 10 then 3 else 1

/-- What MODE_REQUEST does (R589 to R591). In M2, target 3 asks for M3 once the Spindle has been locked for 2,500 frames. -/
def State.modeRequestBody (s : State) (target : Nat) : CmdRes :=
  if 11 < target then s.deny RC.range
  else if !hostTransition s.mode target s.bootRom then s.deny RC.state
  else if s.mode = 10 ∧ target = 3 ∧ s.safeSevere then s.deny RC.state
  else
    let rank := if target = 10 then 0 else 2
    let busy : Bool := match s.modePend with
      | some p => p.rank ≤ rank
      | none => false
    if busy then s.deny RC.busy
    else if s.mode = 2 ∧ target = 3 then
      (let s : State := { s with req3 := true }
       if s.spnFrames ≤ 2500 then s.accept else (s.askMode 3 1 2).accept)
    else (s.askMode (if target = 3 then s.calledFor else target) 1 rank).accept

/-- MODE_REQUEST as a command of the dictionary. -/
def State.modeRequestCmd (s : State) (w : Who) (target : Nat) : CmdRes :=
  s.call w K.MODE_REQUEST target (modeNeed s.mode target) (fun s => s.modeRequestBody target)

/-- MODE_REQUEST (R590). -/
def execModeRequest (who : Who) (target : Nat) : State → Host.Outcome State Fault Refusal :=
  run (fun s => s.command (fun s => s.modeRequestCmd who target))

end Sys2Proof.Machine
end

