-- ==== Sys2Proof/Machine/Placement.lean ====
section
/-! DEFINITION. Segment-table rows, pages of vector memory and the placement engine (R174 to R180, R207 to R230, R247, R248). -/

namespace Sys2Proof.Machine

/-! ## Views of a later frame -/

/-- The objects as the final commits due up to a boundary leave them (R24). -/
def State.view (s : State) (t : Nat) : State :=
  s.commits.foldl (fun v c => if c.final && c.due ≤ t then v.pAll c.vals else v) s

/-- The objects as every accepted commit due up to a boundary leaves them: the projected configuration (R532). -/
def State.projected (s : State) (t : Nat) : State :=
  s.commits.foldl (fun v c => if c.due ≤ t then v.pAll c.vals else v) s

/-- The listed rows of a table. -/
def State.rows (s : State) (base n : Nat) : List (Nat × Nat) :=
  s.od.filterMap (fun p => if base ≤ p.1 ∧ p.1 < base + n then some (p.1 - base, p.2) else none)

/-! ## Segment-table rows (R175) -/

namespace Seg
def id (r : Nat) : Nat := bits r 63 48
def gen (r : Nat) : Nat := bits r 47 40
/-- Vectors per iteration (R208). -/
def len (r : Nat) : Nat := if bits r 39 16 = 0 then 16777216 else bits r 39 16
def fmt (r : Nat) : Nat := bits r 15 14
def kind (r : Nat) : Nat := bits r 13 12
def underrun (r : Nat) : Nat := bits r 11 10
def tfEn (r : Nat) : Bool := bit r 9
def tf (r : Nat) : Nat := bits r 8 3
/-- The stored part of STATE: 0 FREE, 1 LOADING, 2 READY, 7 RETIRED (R178). -/
def base (r : Nat) : Nat := bits r 2 0
def repeats (r : Nat) : Nat := bits r 127 96
def next (r : Nat) : Nat := bits r 95 82
def stops (r : Nat) : Bool := bit r 81
def loopBegin (r : Nat) : Bool := bit r 80
def loopEnd (r : Nat) : Bool := bit r 79
def owner (r : Nat) : Nat := bits r 78 76
def loopCount (r : Nat) : Nat := bits r 191 160
def loopFrom (r : Nat) : Nat := bits r 159 146
def jumpKind (r : Nat) : Nat := bits r 255 254
def jumpWhen (r : Nat) : Nat := bits r 253 252
def jumpPoint (r : Nat) : Bool := bit r 251
def jumpEvent (r : Nat) : Nat := bits r 250 244
def jumpTarget (r : Nat) : Nat := bits r 243 230
/-- Vectors per word of a format. -/
def perWord (fmt : Nat) : Nat := 2 ^ fmt
/-- Words and segment pages of an iteration (R208). -/
def words (r : Nat) : Nat := ceilDiv (len r) (perWord (fmt r))
def pages (r : Nat) : Nat := ceilDiv (words r) 1024
/-- What a host writes: a row without its read-only fields. -/
def content (r : Nat) : Nat := setBits (setBits r 47 40 0) 2 0 0
/-- A committed entry. -/
def live (r : Nat) : Bool := base r != 0 && base r != 7
end Seg

/-- A row of the segment table. -/
def State.seg (s : State) (e : Nat) : Nat := s.g (atRow K.SEG_TABLE e)
def State.setSeg (s : State) (e r : Nat) : State := s.p (atRow K.SEG_TABLE e) r
/-- The entries that are not FREE. -/
def State.entries (s : State) : List Nat :=
  ((s.rows K.SEG_TABLE 16384).filter (fun p => Seg.base p.2 != 0)).map (·.1)

/-- Frames of the retire interval. -/
def State.retireFrames (s : State) : Nat := framesOfUs (s.g K.RETIRE_INTERVAL)

/-! ## Pages (R207, R210, R225, R226) -/

namespace Pg
def free : Nat := 0
def empty : Nat := 1
def filling : Nat := 2
def valid : Nat := 3
def failed : Nat := 4
def retired : Nat := 5
def state (r : Nat) : Nat := bits r 63 61
def entry (r : Nat) : Nat := bits r 60 47
def gen (r : Nat) : Nat := bits r 46 39
def ring (r : Nat) : Bool := bit r 38
def sq (r : Nat) : Nat := bits r 37 35
def index (r : Nat) : Nat := bits r 34 21
def ce (r : Nat) : Nat := bits r 20 16
/-- A row from its fields. -/
def mk (state entry gen : Nat) (ring : Bool) (sq index : Nat) : Nat :=
  state % 8 * 2 ^ 61 + entry % 2 ^ 14 * 2 ^ 47 + gen % 256 * 2 ^ 39 + b2n ring * 2 ^ 38 + sq % 8 * 2 ^ 35 + index % 2 ^ 14 * 2 ^ 21
end Pg

def State.page (s : State) (ppn : Nat) : Nat := s.g (atRow K.PAGE_MAP ppn)
def State.setPage (s : State) (ppn r : Nat) : State := s.p (atRow K.PAGE_MAP ppn) r
def State.setPageState (s : State) (ppn st : Nat) : State := s.setPage ppn (setBits (s.page ppn) 63 61 st)
/-- The pages that are not FREE. -/
def State.pages (s : State) : List (Nat × Nat) := (s.rows K.PAGE_MAP 1024).filter (fun p => Pg.state p.2 != Pg.free)
/-- The physical page of a segment page, and of a ring slot. -/
def State.ppnOf (s : State) (e j : Nat) : Option Nat :=
  (s.pages.find? (fun p => Pg.state p.2 != Pg.retired && !Pg.ring p.2 && Pg.entry p.2 == e && Pg.index p.2 == j)).map (·.1)
def State.ringPpn (s : State) (q slot : Nat) : Option Nat :=
  (s.pages.find? (fun p => Pg.state p.2 != Pg.retired && Pg.ring p.2 && Pg.sq p.2 == q && Pg.index p.2 == slot)).map (·.1)

/-- A segment page is valid (R211). -/
def State.pageValid (s : State) (e j : Nat) : Bool :=
  match s.ppnOf e j with
  | some p => Pg.state (s.page p) == Pg.valid && Pg.gen (s.page p) == Seg.gen (s.seg e)
  | none => false

/-- RES of an entry (R226): 0 not placed, 1 resident, 2 streamed. -/
def State.residency (s : State) (e : Nat) : Nat := bits (s.g (atRow K.SEG_PLACE e)) 63 62
def State.streamed (s : State) (e : Nat) : Bool := s.residency e == 2
/-- Write the SEG_PLACE row of an entry. -/
def State.setPlace (s : State) (e res : Nat) : State :=
  let r := s.seg e
  s.p (atRow K.SEG_PLACE e) (res * 2 ^ 62 + Seg.pages r % 2 ^ 15 * 2 ^ 47 + Seg.gen r * 2 ^ 39)

/-- All pages of an entry are valid. -/
def State.allValid (s : State) (e : Nat) : Bool := (List.range (Seg.pages (s.seg e))).all (s.pageValid e)

/-- An entry of a resident kind loses a valid page (R216). -/
def State.setLoading (s : State) (e : Nat) : State :=
  if Seg.base (s.seg e) = 2 ∧ !s.streamed e then s.setSeg e (setBits (s.seg e) 2 0 1) else s

/-- LOADING gives way to READY once all pages are valid, at a frame boundary (R216). -/
def State.readyFrame (s : State) : State :=
  s.each s.entries (fun s e => if Seg.base (s.seg e) = 1 ∧ s.allValid e then s.setSeg e (setBits (s.seg e) 2 0 2) else s)

/-- The page that the self-test has taken out of the free pool (R255). -/
def State.underTest (s : State) (ppn : Nat) : Bool :=
  match s.selftest with
  | some (p :: _, _) => p == ppn
  | _ => false

/-- The destination of a move in progress (R222). -/
def State.reserved (s : State) (ppn : Nat) : Bool :=
  let u : XUnit := Sp.get (fun _ => {}) s.xunits 64
  (u.active.any (fun o => o.ppn == ppn)) || (u.held.any (fun o => o.ppn == ppn)) || u.wait.any (fun o => o.ppn == ppn)

/-- FREE pages of a bank that may be allocated, lowest first. -/
def State.freePages (s : State) (b : Nat) : List Nat :=
  ((List.range 64).map (fun i => b * 64 + i)).filter (fun p => Pg.state (s.page p) == Pg.free && !s.underTest p && !s.reserved p)

/-! ## The placement log (R228) -/

namespace Pl
abbrev alloc : Nat := 1
abbrev release : Nat := 2
abbrev move : Nat := 3
abbrev retire : Nat := 4
abbrev bankSet : Nat := 5
abbrev residency : Nat := 6
abbrev lane : Nat := 7
abbrev spare : Nat := 8
abbrev refuse : Nat := 9
abbrev forCommit : Nat := 1
abbrev forBalance : Nat := 2
abbrev forErrors : Nat := 3
abbrev forPin : Nat := 4
abbrev forFault : Nat := 5
abbrev forSelftest : Nat := 6
abbrev forHost : Nat := 7
abbrev forCal : Nat := 8
end Pl

/-- Write a decision to the placement log. -/
def State.plLog (s : State) (kind reason entry : Nat) (frm dst : Option Nat) (q : Nat) : State :=
  let w := kind * 2 ^ 60 + reason * 2 ^ 56 + entry % 2 ^ 14 * 2 ^ 42 + frm.getD 0 % 2 ^ 10 * 2 ^ 32 + dst.getD 0 % 2 ^ 10 * 2 ^ 22
    + q % 8 * 2 ^ 19 + b2n frm.isSome * 2 ^ 18 + b2n dst.isSome * 2 ^ 17
  (s.p (atRow K.PL_LOG (s.g K.PL_LOG_HEAD % 512)) (w + s.fn % 2 ^ 64 * 2 ^ 64)).inc K.PL_LOG_HEAD

/-! ## Bank sets and loads (R217, R218) -/

/-- SQ_WORD_LOAD: the word load w of a sequencer; 0 when it owns no entry. -/
def State.wordLoad (s : State) (q : Nat) : Nat :=
  let own := s.entries.filter (fun e => Seg.live (s.seg e) && Seg.owner (s.seg e) == q)
  let pmin := (List.range 64).foldl (fun m i => min m (s.g (K.TS_PERIOD (s.g (K.SQ_TS_BASE q) + i)))) (2 ^ 64)
  let vmin := own.foldl (fun m e => min m (Seg.perWord (Seg.fmt (s.seg e)))) 8
  if own.isEmpty then 0 else ceilDiv (min 64 (ceilDiv qFrame (max 1 pmin))) (max 1 vmin)

def State.inSet (s : State) (q b : Nat) : Bool := bit (s.g (K.SQ_BANKS q)) b
/-- BANK_LOAD: the planned load of a bank. -/
def State.bankLoad (s : State) (b : Nat) : Nat :=
  (List.range 8).foldl (fun n q => if s.inSet q b then n + s.wordLoad q else n) 0
def State.setFree (s : State) (q : Nat) : Nat :=
  (List.range 16).foldl (fun n b => if s.inSet q b then n + (s.freePages b).length else n) 0
def State.setCount (s : State) (q : Nat) : Nat := ((List.range 16).filter (s.inSet q)).length
/-- The pin of a sequencer allows a bank. -/
def State.pinAllows (s : State) (q b : Nat) : Bool := s.g (K.SQ_BANKS_PIN q) == 0 || bit (s.g (K.SQ_BANKS_PIN q)) b

/-- Add a bank to a set. -/
def State.addBank (s : State) (q b reason : Nat) : State :=
  (s.pbit (K.SQ_BANKS q) b true).plLog Pl.bankSet reason 0 none (some b) q

/-- The bank R218 would add: lowest load, then most free pages, then lowest index. -/
def State.pickBank (s : State) (q : Nat) : Option Nat :=
  ((List.range 16).filter (fun b => !s.inSet q b && s.pinAllows q b && s.bankLoad b + s.wordLoad q ≤ 256 && !(s.freePages b).isEmpty)).foldl
    (fun best b => match best with
      | none => some b
      | some a =>
        if s.bankLoad b < s.bankLoad a ∨ (s.bankLoad b = s.bankLoad a ∧ (s.freePages a).length < (s.freePages b).length)
        then some b else best) none

/-- The refusal when no bank can be added (R220): a bank with a free page exists that only its load keeps out, or none does. -/
def State.bankRefusal (s : State) (q : Nat) : Nat :=
  if (List.range 16).any (fun b => !s.inSet q b && s.pinAllows q b && !(s.freePages b).isEmpty) then RC.placementLoad
  else RC.placementCapacity

/-- Grow the set of a sequencer until it can hold `need` pages (R218). -/
def State.growSet (q need reason : Nat) : Nat → State → Except Nat State
  | 0, s => .ok s
  | fuel + 1, s =>
    if need ≤ s.setFree q ∧ 2 ≤ s.setCount q then .ok s
    else match s.pickBank q with
      | some b => State.growSet q need reason fuel (s.addBank q b reason)
      | none => if need ≤ s.setFree q ∧ 1 ≤ s.setCount q then .ok s else .error (s.bankRefusal q)

/-- Place one page of a sequencer in the next bank of its set that has a free page. -/
def State.placePage (s : State) (q row reason : Nat) : Option (Nat × State) :=
  let last := Sp.get (fun _ => 15) s.lastBank q
  match ((List.range 16).map (fun i => (last + 1 + i) % 16)).find? (fun b => s.inSet q b && !(s.freePages b).isEmpty) with
  | some b =>
    match (s.freePages b).head? with
    | some p =>
      let s := (s.setPage p row).plLog Pl.alloc reason (Pg.entry row) none (some p) q
      some (p, { s with lastBank := Sp.set (fun _ => 15) s.lastBank q b })
    | none => none
  | none => none

/-- Place a list of pages of a sequencer in order. -/
def State.placeRows (q reason : Nat) : List Nat → State → Except Nat State
  | [], s => .ok s
  | r :: rs, s =>
    match s.placePage q r reason with
    | some (_, s) => State.placeRows q reason rs s
    | none => .error RC.placementCapacity

/-- Allocate the pages of a demand of one sequencer (R218). -/
def State.allocate (s : State) (q : Nat) (rows : List Nat) (reason : Nat) : Except Nat State :=
  if rows.isEmpty then .ok s
  else match State.growSet q rows.length reason 17 s with
    | .ok s => State.placeRows q reason rows s
    | .error c => .error c

/-- A bank leaves a set when it no longer holds a page of the sequencer (R222). -/
def State.dropBanks (s : State) (q : Nat) (banks : List Nat) (reason : Nat) : State :=
  s.each (banks.filter (fun b => s.inSet q b)) (fun s b =>
    if s.inSet q b && !s.pages.any (fun p => p.1 / 64 == b && Pg.sq p.2 == q && Pg.state p.2 != Pg.retired)
    then (s.pbit (K.SQ_BANKS q) b false).plLog Pl.bankSet reason 0 (some b) none q else s)

/-- Release pages to the free pool. -/
def State.releasePages (s : State) (l : List (Nat × Nat)) (reason : Nat) : State :=
  let s := s.each (l.map (·.1)) (fun s p =>
    let r := s.page p
    (s.setPage p 0).plLog Pl.release reason (Pg.entry r) (some p) none (Pg.sq r))
  s.each (List.range 8) (fun s q => s.dropBanks q ((l.filter (fun p => Pg.sq p.2 == q)).map (fun p => p.1 / 64)) reason)

/-- The pages of an entry, and the ring slots of a sequencer. -/
def State.entryPages (s : State) (e : Nat) : List (Nat × Nat) :=
  s.pages.filter (fun p => Pg.state p.2 != Pg.retired && !Pg.ring p.2 && Pg.entry p.2 == e)
def State.ringPages (s : State) (q : Nat) : List (Nat × Nat) :=
  s.pages.filter (fun p => Pg.state p.2 != Pg.retired && Pg.ring p.2 && Pg.sq p.2 == q)

/-! ## Rings -/

def State.ring (s : State) (q : Nat) : RingHid := Sp.get (fun _ => {}) s.rings q
def State.setRing (s : State) (q : Nat) (r : RingHid) : State := { s with rings := Sp.set (fun _ => {}) s.rings q r }

/-! ## Committing segment rows (R177, R216 to R221, R231, R247, R248) -/

/-- The rows of the segment table among committed values. -/
def segVals (vals : List (Nat × Nat)) : List (Nat × Nat) :=
  vals.filterMap (fun p => if K.SEG_TABLE ≤ p.1 ∧ p.1 < K.SEG_TABLE + 16384 then some (p.1 - K.SEG_TABLE, p.2) else none)

/-- A committed row changes its entry's content, or takes a FREE entry into use. -/
def segChanges (old new : Nat) : Bool := !Seg.live old || Seg.content old != Seg.content new

/-- LENGTH, FMT or KIND change (R221). -/
def segReshapes (old new : Nat) : Bool :=
  !Seg.live old || bits old 39 16 != bits new 39 16 || Seg.fmt old != Seg.fmt new || Seg.kind old != Seg.kind new

/-- An entry takes its committed row at a boundary: next generation, LOADING, pages released or tagged anew; what it leaves is under
quarantine from there. -/
def State.takeRow (s : State) (e old new due : Nat) : State :=
  if !segChanges old new then s.setSeg e old
  else
    let g := (Seg.gen old + 1) % 256
    let till := due + s.retireFrames
    let s := s.setSeg e (setBits (setBits new 47 40 g) 2 0 1)
    let s : State := if !Seg.live old then s
      else { s with
        genLog := s.genLog ++ [(e, Seg.gen old, till)]
        quarIds := if Seg.id old = Seg.id new then s.quarIds else s.quarIds ++ [(Seg.id old, till)] }
    let s : State := { s with streamIt := Sp.set (fun _ => 0) s.streamIt e 0 }
    let s := (s.p (atRow K.SEG_CONSUMED e) 0)
    if segReshapes old new then s.releasePages (s.entryPages e) Pl.forCommit
    else
      let l := s.entryPages e
      let s := s.each (l.map (·.1)) (fun s p =>
        let s := s.setPage p (setBits (setBits (s.page p) 46 39 g) 37 35 (Seg.owner new))
        if s.inSet (Seg.owner new) (p / 64) then s else s.addBank (Seg.owner new) (p / 64) Pl.forCommit)
      if Seg.owner old = Seg.owner new then s else s.dropBanks (Seg.owner old) (l.map (fun p => p.1 / 64)) Pl.forCommit

/-- The residency an entry asks for: resident first, streamed, or the engine's choice (R219, R227). -/
def State.wantsStream (s : State) (e : Nat) : Bool :=
  let pin := bits (s.g (atRow K.SEG_SOURCE e)) 7 6
  Seg.kind (s.seg e) == 2 || (Seg.kind (s.seg e) == 1 && pin == 2)

/-- The EMPTY rows of the pages an entry needs and does not have, in play order. -/
def State.missingRows (s : State) (e : Nat) : List Nat :=
  let r := s.seg e
  ((List.range (Seg.pages r)).filter (fun j => (s.ppnOf e j).isNone)).map (fun j =>
    Pg.mk Pg.empty e (Seg.gen r) false (Seg.owner r) j)

/-- The EMPTY rows of the ring slots a sequencer needs and does not have. -/
def State.missingSlots (s : State) (q : Nat) : List Nat :=
  ((List.range (s.g (K.RING_PAGES q))).filter (fun i => (s.ringPpn q i).isNone)).map (fun i => Pg.mk Pg.empty 0 0 true q i)

/-- The sequencers in order of decreasing w, then increasing number. -/
def State.sqOrder (s : State) : List Nat :=
  (List.range 8).mergeSort (fun a b => s.wordLoad b < s.wordLoad a || (s.wordLoad a == s.wordLoad b && a ≤ b))

/-- Settle an entry that is placed: its residency and its state. -/
def State.settleEntry (s : State) (e res reason : Nat) : State :=
  let s := if s.residency e = res then s else s.plLog Pl.residency reason e none (some res) (Seg.owner (s.seg e))
  let s := s.setPlace e res
  s.setSeg e (setBits (s.seg e) 2 0 (if res = 2 ∨ s.allValid e then 2 else 1))

/-- The EMPTY rows that the RESIDENT-REQUIRED entries of a sequencer need, in ascending entry and play order. -/
def State.requiredRows (s : State) (es : List Nat) (q : Nat) : List Nat :=
  (es.filter (fun e => Seg.owner (s.seg e) == q && Seg.kind (s.seg e) == 0)).flatMap s.missingRows

/-- The pages that a commit must allocate to a sequencer: its set grows for all of them, and the RESIDENT-REQUIRED ones are placed (R218,
R219). -/
def State.placeRequired (es : List Nat) (q : Nat) (s : State) : Except Nat State :=
  let rows := s.requiredRows es q
  let need := rows.length + (s.missingSlots q).length
  if need = 0 then .ok s
  else match State.growSet q need Pl.forCommit 17 s with
    | .ok s => State.placeRows q Pl.forCommit rows s
    | .error c => .error c

/-- Release the pages of an entry and stream it. -/
def State.placeStream (s : State) (e reason : Nat) : State := (s.releasePages (s.entryPages e) reason).settleEntry e 2 reason

/-- Hold a RESIDENT-PREFERRED entry resident when its pages fit, else stream it; RES_PIN 1 lets it not stream (R219). -/
def State.placePreferred (s : State) (e reason : Nat) : Except Nat State :=
  match s.allocate (Seg.owner (s.seg e)) (s.missingRows e) reason with
  | .ok s => .ok (s.settleEntry e 1 reason)
  | .error c => if bits (s.g (atRow K.SEG_SOURCE e)) 7 6 ≠ 1 then .ok (s.placeStream e reason) else .error c

/-- Apply a step for each sequencer in the order of R218. -/
def State.eachSq (f : Nat → State → Except Nat State) (s : State) : Except Nat State :=
  s.sqOrder.foldl (fun r q => match r with | .ok s => f q s | .error c => .error c) (.ok s)

/-- Windows: IOVA base, size in bytes, valid (R239). -/
def State.window (s : State) (w : Nat) : Nat × Nat × Bool :=
  let r := s.g (atRow K.WIN_TABLE w)
  (bits r 63 12 * 4096, bits r 127 104 * (if bit r 65 then 2097152 else 4096), bit r 64)

/-- The host slots of a streamed entry lie in a valid window (R220). -/
def State.sourceGood (s : State) (e : Nat) : Bool :=
  let r := s.g (atRow K.SEG_SOURCE e)
  let w := s.window (bits r 63 52)
  let n := if bits r 23 8 = 0 then Seg.pages (s.seg e) else bits r 23 8
  w.2.2 && bits r 51 24 * 4096 + 24576 * n ≤ w.2.1

/-- A streamed entry's ring is too small, or its watermark too high (R220). -/
def State.ringBad (s : State) (e : Nat) : Bool :=
  let q := Seg.owner (s.seg e)
  let p := Seg.pages (s.seg e)
  let rp := s.g (K.RING_PAGES q)
  rp < 2 * p || (Seg.underrun (s.seg e) == 1 && rp < s.g (K.RING_WATERMARK q) + p)

/-- An entry is FREE again by a boundary: the interval of its freeing is over (R247). -/
def State.goneBy (s : State) (e due : Nat) : Bool :=
  (Seg.base (s.seg e) == 7 && s.segRetire.any (fun r => r.1 == e && r.2 ≤ due)) ||
  s.segFrees.any (fun r => r.1 == e && r.2 + s.retireFrames ≤ due)

/-- Two entries that are not FREE at a boundary carry one SEG_ID (R220, R247). -/
def State.idClash (s : State) (due : Nat) : Bool :=
  let l := s.entries.filter (fun e => !s.goneBy e due)
  l.any (fun a => l.any (fun b => a < b && Seg.id (s.seg a) == Seg.id (s.seg b)))

/-- An entry is RETIRED at a boundary: freed, or to be freed by then, less than the retire interval before it (R247). -/
def State.retiredAt (s : State) (e due : Nat) : Bool :=
  (Seg.base (s.seg e) == 7 && !s.segRetire.any (fun r => r.1 == e && r.2 ≤ due)) ||
  s.segFrees.any (fun r => r.1 == e && r.2 ≤ due && due < r.2 + s.retireFrames)

/-- The SEG_IDs that the rows of a commit take from their entries. -/
def State.idsLeft (s : State) (rows : List (Nat × Nat)) : List Nat :=
  rows.filterMap (fun p => let o := s.seg p.1; if Seg.live o && Seg.id o != Seg.id p.2 then some (Seg.id o) else none)

/-- A row takes a SEG_ID or a generation under quarantine at a boundary; `left` are the IDs that its own commit quarantines there (R247,
R248). -/
def State.quarantined (s : State) (left : List Nat) (e old new due : Nat) : Bool :=
  (segChanges old new &&
    (((!Seg.live old || Seg.id old != Seg.id new) && (left.contains (Seg.id new) || s.quarIds.any (fun q => q.1 == Seg.id new && due < q.2))) ||
     s.genLog.any (fun g => g.1 == e && g.2.1 == (Seg.gen old + 1) % 256 && due < g.2.2)))

/-- The placement of a commit's values (R218 to R221): `old` is the state before the values, `s` the state with them;
a residency decision changes only while the entry is inactive (R219). -/
def State.place (old s : State) (vals : List (Nat × Nat)) (due : Nat) (act : Nat → Bool) : Except Nat State :=
  let rowsIn := segVals vals
  if rowsIn.any (fun p => old.quarantined (old.idsLeft rowsIn) p.1 (old.seg p.1) p.2 due) then .error RC.quarantine
  else if (List.range 8).any (fun q => old.g (K.RING_PAGES q) != s.g (K.RING_PAGES q) && old.g (K.SQ_STATE q) != 0) then .error RC.state
  else
    let s := rowsIn.foldl (fun s p => s.takeRow p.1 (old.seg p.1) p.2 (max s.tick due)) s
    let s := s.each (List.range 8) (fun s q =>
      if s.g (K.RING_PAGES q) < old.g (K.RING_PAGES q) then
        (s.releasePages ((s.ringPages q).filter (fun p => s.g (K.RING_PAGES q) ≤ Pg.index p.2)) Pl.forCommit).setRing q {}
      else s)
    let es := s.entries.filter (fun e => Seg.live (s.seg e) &&
      (s.residency e == 0 || (s.g (atRow K.SEG_SOURCE e) != old.g (atRow K.SEG_SOURCE e) && !act e) || rowsIn.any (fun p => p.1 == e && segChanges (old.seg e) p.2)))
    if s.idClash due then .error RC.overlap
    else match State.eachSq (State.placeRequired es) s with
      | .error c => .error c
      | .ok s => match State.eachSq (fun q s => s.allocate q (s.missingSlots q) Pl.forCommit) s with
        | .error c => .error c
        | .ok s =>
          let s := s.each (es.filter (fun e => Seg.kind (s.seg e) == 0)) (fun s e => s.settleEntry e 1 Pl.forCommit)
          let own := es.filter (fun e => Seg.kind (s.seg e) == 1 && !s.wantsStream e)
          match own.foldl (fun r e => match r with | .ok s => State.placePreferred s e Pl.forCommit | .error c => .error c) (Except.ok s) with
          | .error c => .error c
          | .ok s =>
            let s := s.each (es.filter (fun e => s.wantsStream e)) (fun s e => s.placeStream e Pl.forCommit)
            let pinned := s.entries.filter (fun e => act e && Seg.live (s.seg e) && s.g (atRow K.SEG_SOURCE e) / 64 % 4 != old.g (atRow K.SEG_SOURCE e) / 64 % 4 && !s.resDue.contains e)
            let s : State := { s with resDue := s.resDue ++ pinned }
            let str := s.entries.filter (fun e => Seg.live (s.seg e) && s.streamed e)
            if (List.range 16).any (fun b => 256 < s.bankLoad b) then .error RC.placementLoad
            else if str.any s.ringBad || (List.range 8).any (fun q => s.g (K.RING_PAGES q) < s.g (K.RING_WATERMARK q) && s.g (K.RING_PAGES q) != 0) then .error RC.ringSize
            else if str.any (fun e => !s.sourceGood e) then .error RC.source
            else .ok s

/-! ## Retiring and replacing pages (R251, R253) -/

/-- A bank may take a page of a sequencer: it is of its set, or may be added to it (R218). -/
def State.mayHold (s : State) (q b : Nat) : Bool := s.inSet q b || (s.pinAllows q b && s.bankLoad b + s.wordLoad q ≤ 256)

/-- A replacement for a page of a sequencer: the same bank first, then another of the set, then a bank added; bank 16 is none. -/
def State.replacement (s : State) (q row bank reason : Nat) : Option State :=
  match (if bank < 16 ∧ s.mayHold q bank then (s.freePages bank).head? else none) with
  | some p =>
    let s := if s.inSet q bank then s else s.addBank q bank reason
    let s := (s.setPage p row).plLog Pl.alloc reason (Pg.entry row) none (some p) q
    some { s with lastBank := Sp.set (fun _ => 15) s.lastBank q bank }
  | none =>
    match s.placePage q row reason with
    | some r => some r.2
    | none =>
      match s.pickBank q with
      | some b => ((s.addBank q b reason).placePage q row reason).map (·.2)
      | none => none

/-- A segment page or ring slot, by the row its page takes. -/
def lostKey (row : Nat) : Nat := if Pg.ring row then 2 ^ 28 * (1 + Pg.sq row) + Pg.index row else 2 ^ 14 * Pg.entry row + Pg.index row
/-- The bank of the page that it lost; 16 none. -/
def State.lostAt (s : State) (row : Nat) : Nat := Sp.get (fun _ => 16) s.lostBank (lostKey row)
def State.setLost (s : State) (row b : Nat) : State := { s with lostBank := Sp.set (fun _ => 16) s.lostBank (lostKey row) b }

/-- A page is RETIRED: EV069, and its segment page or ring slot takes an EMPTY replacement, or stays without one (EV071, REFUSE); a bank
without a page of the sequencer leaves its set (R222, R251). -/
def State.retirePage (s : State) (ppn reason : Nat) : State :=
  let r := s.page ppn
  let s := ((s.setPage ppn (Pg.retired * 2 ^ 61)).plLog Pl.retire reason (Pg.entry r) (some ppn) none (Pg.sq r)).raiseVal 69 ppn
  if Pg.state r = Pg.free ∨ Pg.state r = Pg.retired then s
  else
    let s := if Pg.ring r then s else s.setLoading (Pg.entry r)
    let row := Pg.mk Pg.empty (if Pg.ring r then 0 else Pg.entry r) (if Pg.ring r then 0 else Pg.gen r) (Pg.ring r) (Pg.sq r) (Pg.index r)
    let s := match s.replacement (Pg.sq r) row (ppn / 64) reason with
      | some s => s
      | none => ((s.plLog Pl.refuse reason (Pg.entry r) none (some RC.placementCapacity) (Pg.sq r)).raiseVal 71 ppn).setLost row (ppn / 64)
    s.dropBanks (Pg.sq r) [ppn / 64] reason

/-- A page that was lost is replaced at the first boundary at which one can be found, its own bank first (R251). -/
def State.replaceLost (s : State) (q row : Nat) : State :=
  match s.replacement q row (s.lostAt row) Pl.forErrors with
  | some s => s.setLost row 16
  | none => s

/-- PAGE_ALLOCATE_DEFERRED (R251): a segment page without a page takes one at the first boundary at which one is found. -/
def State.allocDeferred (s : State) (e j : Nat) : State :=
  let r := s.seg e
  if Seg.live r ∧ s.residency e = 1 ∧ j < Seg.pages r ∧ (s.ppnOf e j).isNone
  then s.replaceLost (Seg.owner r) (Pg.mk Pg.empty e (Seg.gen r) false (Seg.owner r) j) else s

/-- PAGE_ALLOCATE_DEFERRED (R251). -/
def execPageAllocateDeferred (e j : Nat) : State → Host.Outcome State Fault Refusal := run (fun s => s.allocDeferred e j)

/-- A lost ring slot is replaced in the same way, at a frame boundary. -/
def State.ringDeferred (s : State) : State :=
  s.each (List.range 8) (fun s q => s.each (s.missingSlots q) (fun s row => s.replaceLost q row))

/-! ## Quarantine ends (R247) -/

/-- RETIRE_INTERVAL_EXPIRY (R247, R248): the RETIRED entry becomes FREE, its content gone and its generation kept; quarantines whose
interval has passed end. -/
def State.retireEnds (s : State) (e : Nat) : State :=
  let ended := s.segRetire.any (fun r => r.1 == e && r.2 ≤ s.tick) && Seg.base (s.seg e) == 7
  let s : State := { s with
    quarIds := s.quarIds.filter (fun q => s.tick < q.2)
    genLog := s.genLog.filter (fun g => s.tick < g.2.2)
    segRetire := s.segRetire.filter (fun r => !(r.1 == e && r.2 ≤ s.tick)) }
  if ended then s.setSeg e (Seg.gen (s.seg e) * 2 ^ 40) else s

/-- RETIRE_INTERVAL_EXPIRY (R247). -/
def execRetireIntervalExpiry (e : Nat) : State → Host.Outcome State Fault Refusal := run (fun s => s.retireEnds e)

end Sys2Proof.Machine
end

