-- ==== Sys2Proof/Machine/Transfers.lean ====
section
/-! DEFINITION. Page operations and the transfer scheduler (R275 to R280): accepting, holding, resuming and ending an operation, and the
reads of host memory that fill its page buffer. -/

namespace Sys2Proof.Machine

/-! ## Operations of a requester -/

/-- The place of a requester's operations: 8, 10, 11 at a bank, 9 once for the device. -/
def unitKey (b r : Nat) : Nat := if r = 9 then 64 else 4 * b + (r - 8)
def State.unit (s : State) (b r : Nat) : XUnit := Sp.get (fun _ => {}) s.xunits (unitKey b r)
def State.setUnit (s : State) (b r : Nat) (u : XUnit) : State :=
  { s with xunits := Sp.set (fun _ => {}) s.xunits (unitKey b r) u }

/-- Rank of an operation within its requester (R275). -/
def opRank (code : Nat) : Nat := if code = 1 then 1 else if code = 2 then 2 else if code = 3 then 3
  else if code = 4 then 1 else if code = 5 then 2 else if code = 6 then 1 else if code = 7 then 2 else 1

/-- The banks that record an operation: a move in its source bank and its destination bank (R276). -/
def XOp.banks (o : XOp) : List Nat := (o.ppn / 64 :: (o.peer.map (· / 64)).toList).eraseDups

/-- The banks concerned as the cause form of EV072 to EV078. -/
def XOp.bankMask (o : XOp) : Nat := bitmap o.banks

/-- An operation becomes active at a boundary count. -/
def XOp.begins (o : XOp) (t : Nat) : XOp := { o with since := t }
/-- An active operation is held: its progress and the frames it has run stay with it (R278). -/
def XOp.holds (o : XOp) (t : Nat) : XOp := { o with ran := o.ran + (t - o.since) }
/-- The frames for which an active operation has run. -/
def State.opFrames (s : State) (o : XOp) : Nat := o.ran + (s.tick - o.since)

/-- The first waiting operation of the highest rank. -/
def firstWaiting (l : List XOp) : Option XOp :=
  l.foldl (fun best o => match best with
    | none => some o
    | some a => if opRank o.code < opRank a.code then some o else some a) none

/-- The active operation is over: the held one resumes, unless a waiting one ranks higher (R278). -/
def XUnit.next (u : XUnit) (t : Nat) : XUnit :=
  match u.held, firstWaiting u.wait with
  | some h, some w =>
    if opRank w.code < opRank h.code then { u with active := some (w.begins t), wait := u.wait.erase w }
    else { u with active := some (h.begins t), held := none }
  | some h, none => { u with active := some (h.begins t), held := none }
  | none, some w => { u with active := some (w.begins t), wait := u.wait.erase w }
  | none, none => { u with active := none }

/-- Every operation of a unit. -/
def XUnit.ops (u : XUnit) : List XOp := u.active.toList ++ u.held.toList ++ u.wait

/-- Replace the active operation of a unit, for its progress. -/
def State.setActive (s : State) (b r : Nat) (o : XOp) : State := s.setUnit b r { s.unit b r with active := some o }

/-! ## Page transfers: page buffers and read requests (R243, R246, R280) -/

/-- The transfer that fills a page. -/
def State.xferOf (s : State) (ppn : Nat) : Option Xfer := s.xfers.find? (fun x => x.ppn == ppn)
def State.dropXfer (s : State) (ppn : Nat) : State := { s with xfers := s.xfers.filter (fun x => x.ppn != ppn) }
def State.setXfer (s : State) (x : Xfer) : State := { s with xfers := s.xfers.map (fun y => if y.ppn = x.ppn then x else y) }


/-- The lowest request tag that no transfer holds and no timed-out request keeps (R246, R609); none while all 1,024 are kept. -/
def State.freeTag (s : State) : Option Nat :=
  (List.range 1024).find? (fun t => !s.xfers.any (fun x => x.asked && x.tag == t) && !s.lateTags.any (fun l => l.1 == t && s.tick < l.2))

/-- The read requests of a page image, split under Max_Read_Request_Size. -/
def State.emitReads (s : State) (tag addr : Nat) : State :=
  let m := 128 * 2 ^ min 5 s.devCtl.2.1
  s.each (List.range (ceilDiv 24576 m)) (fun s i => s.emit (.dmaRead tag (addr + m * i) (min m (24576 - m * i))))

/-- The active REFILL or LOAD of a bank takes a page buffer and asks the host for its image, once a tag is free; the one it holds off keeps
its own (R280). -/
def State.startReads (s : State) (b : Nat) : State :=
  match (s.unit b 8).active.bind (fun o => if o.code = 3 then none else s.xferOf o.ppn), s.freeTag with
  | some x, some tag => if x.asked then s else (s.setXfer { x with tag := tag, asked := true }).emitReads tag x.addr
  | _, _ => s

/-- A new operation: active, preempting, or waiting (R277); a move whose copy is complete is not preempted. -/
def State.acceptOp (s : State) (b r : Nat) (o : XOp) : State :=
  let u := s.unit b r
  match u.active with
  | none => (s.setUnit b r { u with active := some (o.begins s.tick) }).startReads b
  | some a =>
    if opRank o.code < opRank a.code ∧ u.held.isNone ∧ o.code ≠ 8 ∧ !(r = 9 ∧ s.moveDone) then
      let s := s.setUnit b r { u with active := some (o.begins s.tick), held := some (a.holds s.tick) }
      ((s.each o.banks (fun s b => s.inc (K.XS_PREEMPTS b (r - 8)))).raiseBits 75 o.bankMask).startReads b
    else s.setUnit b r { u with wait := u.wait ++ [o] }

/-- Take an operation out of its unit; a copy of the mover that is complete goes with it (R223). -/
def State.dropOp (s : State) (b r : Nat) (o : XOp) : State :=
  let u := s.unit b r
  if u.active = some o then
    let s : State := if r = 9 then { s with moveDone := false } else s
    (s.setUnit b r (u.next s.tick)).startReads b
  else if u.held = some o then s.setUnit b r { u with held := none }
  else s.setUnit b r { u with wait := u.wait.erase o }

/-! ## Queue pairs' completions -/

def State.qpOf (s : State) (q : Nat) : QpHid := Sp.get (fun _ => {}) s.qp q
def State.setQp (s : State) (q : Nat) (h : QpHid) : State := { s with qp := Sp.set (fun _ => {}) s.qp q h }
/-- A descriptor is finished (R618). -/
def State.descDone (s : State) (q tag kind result detail value : Nat) : State :=
  let h := s.qpOf q
  s.setQp q { h with done := h.done ++ [{ tag := tag, kind := kind, result := result, detail := detail, value := value }] }

/-! ## Pages under an operation -/

/-- The ring slot, of any sequencer, that stands on a page. -/
def State.ringAt (s : State) (ppn : Nat) : Option (Nat × RingPage) :=
  let r := s.page ppn
  if Pg.ring r then ((s.ring (Pg.sq r)).pages.find? (fun p => p.slot == Pg.index r)).map (fun p => (Pg.sq r, p)) else none

/-- Set when a failed or interrupted page of a ring is tried again. -/
def State.setRetry (s : State) (ppn : Nat) (t : Option Nat) : State :=
  match s.ringAt ppn with
  | some (q, p) =>
    let r := s.ring q
    s.setRing q { r with pages := r.pages.map (fun x => if x.slot = p.slot then { x with retry := t } else x) }
  | none => s

/-- A page write begins: FILLING, tagged for its entry and generation; a resident entry is LOADING again. -/
def State.beginFill (s : State) (o : XOp) : State :=
  let r := s.page o.ppn
  let s := s.setPage o.ppn (setBits (setBits (setBits r 63 61 Pg.filling) 60 47 o.entry) 46 39 o.gen)
  if Pg.ring r then s else s.setLoading o.entry

/-- The slot bit of a POST or READ goes. -/
def State.slotFreed (s : State) (k : Nat) : State := s.pbit K.PAGE_SLOTS_BUSY k false

/-- A page operation ends before its work is done (R279): detail 3 a later write, 4 a change of generation. -/
def State.endOp (s : State) (b r : Nat) (o : XOp) (detail : Nat) : State :=
  let s := s.dropOp b r o
  let s := (s.each o.banks (fun s b => s.inc (K.XS_ABANDONS b (r - 8)))).raiseBits 76 o.bankMask
  if o.code = 3 then
    let s := s.slotFreed (o.src % 8)
    if Pg.state (s.page o.ppn) = Pg.filling then s.setPageState o.ppn Pg.empty else s
  else if o.code = 1 ∨ o.code = 2 then
    let load := (s.xferOf o.ppn).bind (·.load)
    let s := s.dropXfer o.ppn
    let s := match load with
      | some (q, tag) => s.descDone q tag 2 RC.state detail s.fn
      | none => s
    if Pg.state (s.page o.ppn) = Pg.filling then s.setPageState o.ppn Pg.empty else s
  else s

end Sys2Proof.Machine
end

