-- ==== Sys2Proof/Machine/Vectors.lean ====
section
/-! DEFINITION. Word formats, time-fill and the timing of vectors (R129 to R170, R208 to R211, R231). -/

namespace Sys2Proof.Machine

/-! ## Sequencers' hidden records -/

def State.sq (s : State) (q : Nat) : SqHid := Sp.get (fun _ => {}) s.sqHid q
def State.setSq (s : State) (q : Nat) (h : SqHid) : State := { s with sqHid := Sp.set (fun _ => {}) s.sqHid q h }
/-- The mask of a sequencer, the cause form of EV048 to EV063 (R155, R206). -/
def sqBit (q : Nat) : Nat := 2 ^ q

/-! ## Words (R131 to R136) -/

/-- A vector as its word holds it. -/
structure RawVec where
  tssel : Nat
  codes : Nat
  tag   : Nat
  clog  : Bool
  evt   : Bool
deriving DecidableEq, Repr

/-- Vector j of a word of a format. -/
def rawVec (fmt w j : Nat) : RawVec :=
  if fmt = 0 then ⟨bits w 175 170, bits w 159 0, bits w 165 162, bit w 161, bit w 160⟩
  else if fmt = 1 then
    let b := 88 * j
    ⟨bits w (b + 87) (b + 82), bits w (b + 79) b, 0, bit w (b + 81), bit w (b + 80)⟩
  else if fmt = 2 then
    let b := 44 * j
    ⟨bits w (b + 43) (b + 38), bits w (b + 31) b, bits w (b + 37) (b + 34), bit w (b + 33), bit w (b + 32)⟩
  else
    let b := 22 * j
    ⟨bits w (b + 21) (b + 16), bits w (b + 15) b, 0, false, false⟩

/-- Positions of a format. -/
def positions (fmt : Nat) : Nat := if fmt = 0 then 80 else if fmt = 1 then 40 else if fmt = 2 then 16 else 8

/-- A word of vector memory. -/
def State.word (s : State) (ppn w : Nat) : VWord :=
  let a := 1024 * ppn + w
  (Sp.find s.vmem a).getD (Config.vmemUnwritten a)

/-- The ring slot that holds a stream page, with its physical page. -/
def State.streamPage (s : State) (q e gen n : Nat) : Option (RingPage × Nat) :=
  match (s.ring q).pages.find? (fun r => r.entry == e && r.gen == gen && r.n == n) with
  | some r => (s.ringPpn q r.slot).map (fun p => (r, p))
  | none => none

/-- The physical page that holds a segment page of an iteration, while it is valid for it (R211). -/
def State.iterPpn (s : State) (q : Nat) (it : Iter) (j : Nat) : Option Nat :=
  (if s.streamed it.entry then (s.streamPage q it.entry it.gen (it.page + j)).map (·.2) else s.ppnOf it.entry j).filter
    (fun p => Pg.state (s.page p) == Pg.valid && Pg.gen (s.page p) == it.gen)

/-- The vector of an iteration as memory holds it; nothing when its page is gone. -/
def State.iterVec (s : State) (q : Nat) (it : Iter) (i : Nat) : Option RawVec :=
  let fmt := Seg.fmt (s.seg it.entry)
  let w := i / Seg.perWord fmt
  (s.iterPpn q it (w / 1024)).map (fun p => rawVec fmt (s.word p (w % 1024)).toNat (i % Seg.perWord fmt))

/-! ## Fields (R162 to R164) -/

/-- A number below 1000 in BCD. -/
def bcd (n : Nat) : Nat := n % 10 + n / 10 % 10 * 16 + n / 100 % 10 * 256

/-- Year and day of the year of a day number from 1970-01-01 in the proleptic Gregorian calendar. -/
def calendar (day : Nat) : Nat × Nat :=
  let n := day + 719162
  let n400 := n / 146097
  let r := n % 146097
  let n100 := min 3 (r / 36524)
  let r := r - n100 * 36524
  let n4 := r / 1461
  let r := r % 1461
  let n1 := min 3 (r / 365)
  (400 * n400 + 100 * n100 + 4 * n4 + n1 + 1, r - 365 * n1 + 1)

/-- The offset in force at a whole second (R44). -/
def State.offsetAt (s : State) (sec : Int) : Int :=
  let off := s.gi K.UTC_OFFSET
  if s.g K.LEAP_PENDING = 0 ∨ sec * (qSecond : Int) < (time92 (s.g K.LEAP_EPOCH) : Nat) then off
  else if s.g K.LEAP_PENDING = 1 then off + 1 else if s.g K.LEAP_PENDING = 2 then off - 1 else off

/-- The value of a field at an epoch, under CALENDAR_TAI or not (R162, R164). -/
def State.field (s : State) (code : Nat) (e : Nat) (tai : Bool) : Nat :=
  let off := s.offsetAt e
  let u := ((e : Int) - off).toNat
  let leap : Nat := time92 (s.g K.LEAP_EPOCH)
  let at60 := !tai && s.g K.LEAP_PENDING == 1 && (e + 1) * qSecond == leap
  let c := if tai then e else u
  let day := if at60 then c / 86400 - 1 else c / 86400
  let sod := if at60 then 86399 else c % 86400
  let pend := s.g K.LEAP_PENDING != 0 && e * qSecond < leap
  if code = 0x01 then e % 2 ^ 48
  else if code = 0x02 then u % 2 ^ 48
  else if code = 0x03 then (off % 256).toNat
  else if code = 0x04 then b2n pend + 2 * b2n (pend && s.g K.LEAP_PENDING == 2)
  else if code = 0x10 then (if at60 then 0x60 else bcd (sod % 60))
  else if code = 0x11 then bcd (sod / 60 % 60)
  else if code = 0x12 then bcd (sod / 3600)
  else if code = 0x13 then bcd (calendar day).2
  else if code = 0x14 then bcd ((calendar day).1 % 100)
  else if code = 0x15 then (if at60 then 86400 else sod)
  else 0

/-- Widths of the fields; 0 for a code outside the table. -/
def fieldWidth (code : Nat) : Nat :=
  if code = 0x01 ∨ code = 0x02 then 48 else if code = 0x03 then 8 else if code = 0x04 then 2
  else if code = 0x10 ∨ code = 0x11 then 7 else if code = 0x12 then 6 else if code = 0x13 then 10
  else if code = 0x14 then 8 else if code = 0x15 then 17 else 0

/-! ## Time-fill (R156 to R166) -/

namespace Tf
def kind (a : Nat) : Nat := bits a 63 60
def field (a : Nat) : Nat := bits a 59 54
def first (a : Nat) : Nat := bits a 53 48
def count (a : Nat) : Nat := bits a 47 42
def down (a : Nat) : Bool := bit a 41
def tssel (a : Nat) : Bool := bit a 40
def pos (a : Nat) : Nat := bits a 39 33
def val0 (a : Nat) : Nat := bits a 32 27
def val1 (a : Nat) : Nat := bits a 26 21
def v0 (b : Nat) : Nat := bits b 63 40
def stride (b : Nat) : Nat := bits b 39 16
def byte (b : Nat) : Nat := bits b 15 8
/-- TF_UART: first vector, stride, position, bytes. -/
def uFirst (u : Nat) : Nat := bits u 63 40
def uStride (u : Nat) : Nat := bits u 39 16
def uPos (u : Nat) : Nat := bits u 15 9
def uBytes (u : Nat) : Nat := bits u 8 2
/-- The vector of data bit i of UART byte b (R159). -/
def uVec (u b i : Nat) : Nat := uFirst u + (10 * b + 1 + i) * uStride u
end Tf

/-- The writes of a BITS entry (R158): vector, position or 80, value. -/
def bitsWrites (a b v : Nat) : List (Nat × Nat × Nat) :=
  (List.range (Tf.count a)).map (fun j =>
    let fb := if Tf.down a then Tf.first a - j else Tf.first a + j
    let x := if v.testBit fb && (!Tf.down a || j ≤ Tf.first a) then Tf.val1 a else Tf.val0 a
    if Tf.tssel a then (Tf.v0 b + j * Tf.stride b, 80, x) else (Tf.v0 b + j * Tf.stride b, Tf.pos a, x % 4))

/-- The writes of one UART byte: L for 0, H for 1 (R159). -/
def byteWrites (u b v : Nat) : List (Nat × Nat × Nat) :=
  (List.range 8).map (fun i => (Tf.uVec u b i, Tf.uPos u, if v.testBit i then 2 else 1))

/-- The writes of a BYTES entry: most significant byte first (R160). -/
def bytesWrites (u a b v : Nat) : List (Nat × Nat × Nat) :=
  (List.range (Tf.count a)).flatMap (fun i => byteWrites u (Tf.byte b + i) (v / 256 ^ (Tf.count a - 1 - i) % 256))

/-- Reverse the eight bits of a byte. -/
def reverse8 (x : Nat) : Nat := (List.range 8).foldl (fun r i => r + (if x.testBit i then 2 ^ (7 - i) else 0)) 0

/-- CRC-8 of R160; TF_CRC carries REFLECT, POLY, INIT. -/
def crc8 (cfg : Nat) (bytes : List Nat) : Nat :=
  let refl := bit cfg 16
  let poly := bits cfg 15 8
  let step := fun (crc : Nat) (_ : Nat) => if 0x80 ≤ crc then (crc * 2 % 256) ^^^ poly else crc * 2 % 256
  let c := bytes.foldl (fun crc d => (List.range 8).foldl step (crc ^^^ (if refl then reverse8 d else d))) (bits cfg 7 0)
  if refl then reverse8 c else c

/-- The code at a position of a vector after the writes so far, newest first. -/
def State.filledCode (s : State) (q : Nat) (it : Iter) (ws : List (Nat × Nat × Nat)) (v pos : Nat) : Nat :=
  match ws.find? (fun w => w.1 == v && w.2.1 == pos) with
  | some w => w.2.2
  | none => ((s.iterVec q it v).map (fun r => bits r.codes (2 * pos + 1) (2 * pos))).getD 0

/-- A UART byte as it stands; none when a data bit is not L or H (R166). -/
def State.uartByte (s : State) (q : Nat) (it : Iter) (ws : List (Nat × Nat × Nat)) (u b : Nat) : Option Nat :=
  (List.range 8).foldl (fun acc i =>
    match acc with
    | none => none
    | some v =>
      let c := s.filledCode q it ws (Tf.uVec u b i) (Tf.uPos u)
      if c = 1 then some v else if c = 2 then some (v + 2 ^ i) else none) (some 0)

/-- The epoch of an iteration that starts at a linear time (R163). -/
def State.epochOf (s : State) (m start : Nat) : Int := (ceilDiv start qSecond : Nat) + s.gi (K.TF_EPOCH_ADJ m)

/-- Time-fill of an iteration: its epoch and its writes, newest first; none when it cannot be filled (R165, R166). -/
def State.timeFill (s : State) (q : Nat) (it : Iter) (start : Nat) : Option (Nat × List (Nat × Nat × Nat)) :=
  let m := Seg.tf (s.seg it.entry)
  let e := s.epochOf m start
  let u := s.g (K.TF_UART m)
  let flags := s.g (K.TF_FLAGS m)
  if (bit flags 0 && !s.aligned) || e < 0 || e - s.offsetAt e < 0 then none
  else
    let es := (List.range (s.g (K.TF_COUNT m))).map (fun i => (s.g (K.TF_ENT_A m i), s.g (K.TF_ENT_B m i)))
    let ws := es.foldl (fun ws p =>
      let v := s.field (Tf.field p.1) e.toNat (bit flags 1)
      if Tf.kind p.1 = 1 then (bitsWrites p.1 p.2 v).reverse ++ ws
      else if Tf.kind p.1 = 2 then (bytesWrites u p.1 p.2 v).reverse ++ ws
      else ws) []
    let done := (es.filter (fun p => Tf.kind p.1 == 3)).foldl (fun (acc : Option (List (Nat × Nat × Nat))) p =>
      match acc with
      | none => none
      | some ws =>
        match (List.range (Tf.byte p.2)).mapM (fun b => s.uartByte q it ws u b) with
        | some bs => some ((byteWrites u (Tf.byte p.2) (crc8 (s.g (K.TF_CRC m)) bs)).reverse ++ ws)
        | none => none) (some ws)
    done.map (fun ws => (e.toNat, ws))

/-- A vector with the writes of its iteration. -/
def applyFill (r : RawVec) (fill : List (Nat × Nat × Nat)) (i : Nat) : RawVec :=
  (fill.filter (fun w => w.1 == i)).foldr (fun w r =>
    if w.2.1 = 80 then { r with tssel := w.2.2 % 64 }
    else { r with codes := setBits r.codes (2 * w.2.1 + 1) (2 * w.2.1) w.2.2 }) r

/-! ## Timing sets (R140 to R145) -/

/-- The boundary count whose frame holds a linear time. -/
def State.tickOf (s : State) (t : Nat) : Nat := s.tick + frameOf t - s.fn

/-- The objects in force at a linear time (R145). -/
def State.atTime (s : State) (t : Nat) : State := s.view (s.tickOf t)

/-- The timing set of a TSSEL value. -/
def State.timingSet (s : State) (q tssel : Nat) : Nat := s.g (K.SQ_TS_BASE q) + tssel

/-- The period of a vector that starts at a linear time. -/
def State.periodAt (s : State) (q tssel start : Nat) : Nat :=
  let v := s.atTime start
  v.g (K.TS_PERIOD (v.timingSet q tssel))

/-- The pin of a position (R137). -/
def State.pinOf (s : State) (q fmt pos : Nat) : Nat := if fmt = 0 then pos else s.g (K.SQ_POS q pos)

/-- What a drive action does to the level record. -/
inductive Act where
  | low | high | invert
deriving DecidableEq, Repr

/-- The actions of a code under a format: at E1 and at E2 (R140). -/
def driveActs (fmt code : Nat) : Option Act × Option Act :=
  if code = 0 then (none, none)
  else if fmt = 0 then (if code = 1 then (some .low, none) else if code = 2 then (some .high, none) else (some .invert, none))
  else if fmt = 1 then
    (if code = 1 then (some .low, none) else if code = 2 then (some .high, some .low) else (some .invert, some .invert))
  else if fmt = 2 then
    (if code = 1 then (some .low, some .high) else if code = 2 then (some .high, none) else (some .invert, some .invert))
  else if fmt = 3 then
    (if code = 1 then (some .low, some .high) else if code = 2 then (some .high, some .low) else (some .invert, some .invert))
  else if fmt = 4 then
    (if code = 1 then (some .invert, none) else if code = 2 then (some .invert, some .invert) else (some .invert, none))
  else (none, none)

/-! ## Channels' hidden records -/

def State.ch (s : State) (c : Nat) : ChHid := Sp.get (fun _ => {}) s.chHid c
def State.setCh (s : State) (c : Nat) (h : ChHid) : State := { s with chHid := Sp.set (fun _ => {}) s.chHid c h }

/-- The target level of a park level, OFF taken as LOW (R298). -/
def State.parkLevel (s : State) (c : Nat) : Bool := s.g (K.PAD_PARK c) == 1
/-- The level record of a pin (R141). -/
def State.levelRec (s : State) (q c : Nat) : Bool := Sp.get (fun _ => false) (s.sq q).levels c
def State.setLevel (s : State) (q c : Nat) (b : Bool) : State :=
  let h := s.sq q
  s.setSq q { h with levels := Sp.set (fun _ => false) h.levels c b }

/-- A sequencer owns a channel (R169). -/
def State.owns (s : State) (q c : Nat) : Bool := c < 64 && bit (s.g (K.SQ_OWN q)) c

/-- The level after an action. -/
def Act.level (a : Act) (old : Bool) : Bool :=
  match a with
  | .low => false
  | .high => true
  | .invert => !old

/-- The channel is a PATTERN channel in the frame of the edge time of a nominal time (R73, R170). -/
def State.patternAt (s : State) (c t : Nat) : Bool :=
  (s.atTime ((t : Int) + (s.atTime t).gi (K.CH_DELAY c)).toNat).g (K.CH_SOURCE c) == 3

/-- An action on a pin at a linear time: a nominal time only when it changes the record, and only for a PATTERN channel (R141, R170). -/
def State.act (s : State) (q c : Nat) (t : Nat) (a : Act) : State :=
  let old := s.levelRec q c
  let new := a.level old
  if new = old then s
  else
    let s := s.setLevel q c new
    if s.patternAt c t then
      let h := s.ch c
      s.setCh c { h with wait := h.wait ++ [((t : Int), new)] }
    else s

/-- Every owned drive pin whose record differs from its park level is driven to it (R196, R203, R252). -/
def State.parkPins (s : State) (q t : Nat) : State :=
  s.each (instances 64 (s.owns q)) (fun s c => s.act q c t (if s.parkLevel c then .high else .low))

/-- The actions of a fetched vector, handed to the lanes of its channels (R130, R139 to R142). -/
def State.vecActions (s : State) (q : Nat) (v : Vec) : State :=
  let s := if v.park then s.parkPins q v.start else s
  if v.kind ≠ 0 then s
  else
    let w := s.atTime v.start
    let ts := w.timingSet q v.tssel
    s.each (List.range (positions v.fmt)) (fun s p =>
      let c := w.pinOf q v.fmt p
      let code := bits v.codes (2 * p + 1) (2 * p)
      if code = 0 ∨ !w.owns q c then s
      else
        let a := driveActs (w.g (K.TSP_FMT ts c)) code
        let e := w.g (K.TSP_EDGE ts c)
        let s := match a.1 with | some x => s.act q c (v.start + bits e 31 0) x | none => s
        match a.2 with | some x => s.act q c (v.start + bits e 63 32) x | none => s)

/-- Hand on the actions of every fetched vector that starts before a time (R20, R82). -/
def State.handTo (s : State) (q limit : Nat) : State :=
  let l := (s.sq q).fifo
  let s := (l.filter (fun v => !v.handed && v.start < limit)).foldl (fun s v => s.vecActions q v) s
  let h := s.sq q
  s.setSq q { h with fifo := l.map (fun v => if v.start < limit then { v with handed := true } else v) }

/-- The compare windows of a vector: input, code, opening, closing (R130, R139). -/
def State.windows (s : State) (q : Nat) (v : Vec) : List (Nat × Nat × Nat × Nat) :=
  let w := s.atTime v.start
  let ts := w.timingSet q v.tssel
  (List.range (positions v.fmt)).filterMap (fun p =>
    let c := w.pinOf q v.fmt p
    let code := bits v.codes (2 * p + 1) (2 * p)
    if code ≠ 0 ∧ 64 ≤ c ∧ c < 80 then
      let st := w.g (K.TSP_STROBE ts c)
      some (c - 64, code, v.start + bits st 31 0, v.start + bits st 31 0 + bits st 63 32)
    else none)

end Sys2Proof.Machine
end

