-- ==== Sys2Proof/Machine/Sequencer.lean ====
section
/-! DEFINITION. The sequencers: choice of the next iteration, prefetch, underrun, host requests, starts, comparison
(R129, R149 to R155, R169 to R206, R231 to R237, R252). -/

namespace Sys2Proof.Machine

/-! ## What the line ahead looks like -/

/-- The lead of a PATTERN channel (R83): frames by which its vectors are fetched early. -/
def State.chLead (s : State) (c : Nat) : Nat :=
  let d := s.gi (K.CH_DELAY c)
  if s.g (K.CH_SOURCE c) = 3 ∧ d < 0 then ceilDiv d.natAbs qFrame else 0

/-- The largest lead among a sequencer's channels (R173). -/
def State.largestLead (s : State) (q : Nat) : Nat := (instances 64 (s.owns q)).foldl (fun m c => max m (s.chLead c)) 0

/-- SQ_LEAD: the lead latched at start. -/
def State.lead (s : State) (q : Nat) : Nat := s.g (K.SQ_LEAD q)

/-- A sequencer that plays: not STOPPED and not ARMED. -/
def State.plays (s : State) (q : Nat) : Bool := 2 ≤ s.g (K.SQ_STATE q)

/-- The start of the frame from which on nothing is decided yet: a boundary before it has its deadline now or earlier (R181, R186). -/
def State.sqLimit (s : State) (q : Nat) : Nat := (s.fn + 3 + s.lead q) * qFrame

/-- The period of a vector of the line; nothing where its page is gone (R141, R202, R252). -/
def State.vecPeriod (s : State) (q : Nat) (it : Iter) (i t : Nat) : Option Nat :=
  if it.kind = 1 then some ((s.atTime t).g (K.SQ_RESUME_STEP q))
  else if it.kind = 2 then some 0
  else if it.bad.any (fun b => b ≤ i) then none
  else (s.iterVec q it i).map (fun r => s.periodAt q (applyFill r it.fill i).tssel t)

/-- The end of a run of iterations, from a vector and its start time, when it lies before a limit. -/
def State.walkEnd (s : State) (q limit : Nat) : Nat → List Iter → Nat → Nat → Option Nat
  | 0, _, _, _ => none
  | f + 1, l, i, t =>
    if limit ≤ t then none
    else match l with
      | [] => some t
      | it :: rest =>
        if i < it.len then
          match s.vecPeriod q it i t with
          | some p => s.walkEnd q limit f (it :: rest) (i + 1) (t + p)
          | none => none
        else s.walkEnd q limit f rest 0 t

/-- Vectors and boundaries of a list of iterations, the fuel of a walk over it. -/
def lineFuel (l : List Iter) : Nat := l.foldl (fun n it => n + it.len + 1) 2

/-- What is left to fetch: from the iteration of the next vector on. -/
def SqHid.ahead (h : SqHid) : List Iter := h.line.dropWhile (fun it => it.id != h.fIter)

/-- The boundary at which the line ends, when it lies before a limit. -/
def State.lineEnd (s : State) (q limit : Nat) : Option Nat :=
  let h := s.sq q
  if h.line.isEmpty then h.startAt.filter (fun t => t < limit)
  else s.walkEnd q limit (lineFuel h.line) h.ahead h.fIdx h.tNext

/-- Vectors of the iteration playing that have started. -/
def SqHid.played (h : SqHid) (it : Iter) : Nat :=
  match h.fifo with
  | v :: _ => if v.id = it.id then v.idx else it.len
  | [] => if h.fIter = it.id then h.fIdx else 0

/-! ## The choice (R182 to R185) -/

/-- A choice: stop, or an entry with its iteration number; the loop stack after it; a begin mark ignored with the stack full. -/
structure Choice where
  stop     : Bool := false
  entry    : Nat := 0
  n        : Nat := 1
  loops    : List LoopRec
  overflow : Bool := false
deriving DecidableEq, Repr, Inhabited

/-- Enter an entry afresh: it pushes a loop where it begins one (R183). -/
def State.enter (s : State) (loops : List LoopRec) (e : Nat) : Choice :=
  if Seg.loopBegin (s.seg e) then
    (if loops.length < 4 then { entry := e, loops := { first := e } :: loops } else { entry := e, loops := loops, overflow := true })
  else { entry := e, loops := loops }

/-- An iteration is the last of its entry. -/
def State.lastOf (s : State) (it : Iter) : Bool := Seg.repeats (s.seg it.entry) != 0 && it.n == Seg.repeats (s.seg it.entry)

/-- Leave an entry: END or NEXT. -/
def State.leave (s : State) (loops : List LoopRec) (e : Nat) : Choice :=
  if Seg.stops (s.seg e) then { stop := true, loops := loops } else s.enter loops (Seg.next (s.seg e))

/-- The choice after an iteration, without a host request; `cond` is whether its jump condition holds (R182). -/
def State.nextChoice (s : State) (loops : List LoopRec) (it : Iter) (cond : Bool) : Choice :=
  let r := s.seg it.entry
  if Seg.jumpKind r != 0 && (!Seg.jumpPoint r || s.lastOf it) && cond then s.enter [] (Seg.jumpTarget r)
  else if Seg.repeats r = 0 ∨ it.n < Seg.repeats r then { entry := it.entry, n := it.n + 1, loops := loops }
  else match loops with
    | l :: ls =>
      if Seg.loopEnd r && l.first == Seg.loopFrom r then
        (if Seg.loopCount r = 0 ∨ l.passes + 1 < Seg.loopCount r then
          { entry := Seg.loopFrom r, loops := { l with passes := l.passes + 1, cur := [], last := l.cur } :: ls }
        else s.leave ls it.entry)
      else s.leave (l :: ls) it.entry
    | [] => s.leave [] it.entry

/-- The entry's jump is tested at the end of this iteration. -/
def State.tested (s : State) (it : Iter) : Bool :=
  let r := s.seg it.entry
  Seg.jumpKind r != 0 && (!Seg.jumpPoint r || s.lastOf it)

/-- The jump condition of an iteration that ends (R184, R185), with the outcomes combined so far. -/
def State.jumpCond (s : State) (it : Iter) (outcome : Nat × Nat) : Bool :=
  let r := s.seg it.entry
  if Seg.jumpKind r = 1 then
    (match Sp.find s.evLast (Seg.jumpEvent r) with
     | some (_, t) => it.final ≤ t && t < s.tick
     | none => false)
  else if Seg.jumpKind r = 2 then
    let o := if outcome.1 = it.entry then outcome.2 else 0
    (if Seg.jumpWhen r = 0 then o == 2 else if Seg.jumpWhen r = 1 then o == 1 else if Seg.jumpWhen r = 2 then o == 3 else o == 2 || o == 3)
  else false

/-- A completed iteration joins the passes of the loops it lies in. -/
def joinLoops (loops : List LoopRec) (it : Iter) : List LoopRec :=
  loops.map (fun l => { l with cur := l.cur ++ [(it.entry, it.gen, it.page)] })

/-- A host request qualifies at a boundary that ends `last` (R190). -/
def State.qualifies (s : State) (q : Nat) (r : SqReq) (b : Nat) (last : Option Iter) : Bool :=
  r.fn + 3 + s.lead q ≤ frameOf b &&
  (r.whn == 0 || (r.whn == 1 && last.any (fun it => it.kind == 0 && it.state == 2 && s.lastOf it)) || (r.whn == 2 && r.time ≤ b))

/-- An iteration of an entry, not yet final. -/
def State.iterOf (s : State) (e n : Nat) (loops : List LoopRec) : Iter :=
  let r := s.seg e
  { id := 0, kind := 0, entry := e, gen := Seg.gen r, n := n, len := Seg.len r,
    page := if s.streamed e then Sp.get (fun _ => 0) s.streamIt e * Seg.pages r else 0, loops := loops }

/-! ## The predicted path (R187, R234) -/

/-- The iteration of a choice. -/
def State.ofChoice (s : State) (c : Choice) : Option Iter := if c.stop then none else some (s.iterOf c.entry c.n c.loops)

/-- Count an iteration of the path: a streamed one takes the pages after those of the same entry that the path holds already. -/
def State.numbered (s : State) (cnt : Sp Nat) (nx : Iter) : Iter × Sp Nat :=
  let i := Sp.get (fun _ => 0) cnt nx.entry
  ({ nx with page := nx.page + (if s.streamed nx.entry then i * Seg.pages (s.seg nx.entry) else 0) }, Sp.set (fun _ => 0) cnt nx.entry (i + 1))

/-- The iteration that follows as if no request and no event were pending. -/
def State.follow (s : State) (it : Iter) : Option Iter := s.ofChoice (s.nextChoice (joinLoops it.loops it) it false)

/-- Successive choices of the program as if no request and no event were pending, stream pages counted on. -/
def State.pathFrom (s : State) : Nat → Iter → Sp Nat → List Iter
  | 0, _, _ => []
  | k + 1, it, cnt =>
    match s.follow it with
    | none => []
    | some nx =>
      let r := s.numbered cnt nx
      r.1 :: s.pathFrom k r.1 r.2

/-- A list of iterations that needs no stream page. -/
def State.resident (s : State) (l : List (Nat × Nat × Nat)) : Bool := l.all (fun r => !s.streamed r.1)

/-- The last of the iterations that pass before the path leaves a resident entry, and a loop whose pass holds resident entries only; none
where it never leaves. -/
def State.passOver (s : State) (it : Iter) : Option Iter :=
  let r := s.seg it.entry
  if s.streamed it.entry then some it
  else if Seg.repeats r = 0 then none
  else
    let it := { it with n := max it.n (Seg.repeats r) }
    match it.loops with
    | l :: ls =>
      if Seg.loopEnd r && l.first == Seg.loopFrom r && s.resident l.cur then
        (if Seg.loopCount r = 0 then none else some { it with loops := { l with passes := max l.passes (Seg.loopCount r - 1) } :: ls })
      else some it
    | [] => some it

/-- The streamed iterations that the path reaches after one, at most k of them (R234); resident ones between are passed over at once. -/
def State.streamsFrom (s : State) : Nat → Nat → Iter → Sp Nat → List Iter
  | 0, _, _, _ => []
  | _ + 1, 0, _, _ => []
  | f + 1, k + 1, it, cnt =>
    match (s.passOver it).bind s.follow with
    | none => []
    | some nx =>
      let r := s.numbered cnt nx
      if s.streamed nx.entry then r.1 :: s.streamsFrom f k r.1 r.2 else s.streamsFrom f (k + 1) r.1 r.2

/-- The last iteration of the program on the line. -/
def SqHid.lastReal (h : SqHid) : Option Iter := (h.line.filter (fun it => it.kind == 0 && it.state == 2)).getLast?

/-- The end of the line where it is known: every vector up to it is one of a resident kind, or fetched (R194). -/
def State.knownEnd (s : State) (q : Nat) : Option Nat :=
  let h := s.sq q
  if h.line.isEmpty then h.startAt
  else if (h.ahead.zipIdx).any (fun p => p.1.kind == 0 && s.streamed p.1.entry && (p.2 != 0 || decide (h.fIdx < p.1.len))) then none
  else s.walkEnd q (2 ^ 92) (lineFuel h.line) h.ahead h.fIdx h.tNext

/-- The end of an iteration of a resident kind that begins at a time, from the loaded vectors and the timing sets in force (R194). -/
def State.iterEnd (s : State) (q : Nat) (it : Iter) (t : Nat) : Option Nat :=
  if s.streamed it.entry then none else s.walkEnd q (2 ^ 92) (it.len + 2) [it] 0 t

/-- The held host request, when it would qualify at a boundary that ends `last` (R187, R190); a boundary not yet known lies far enough ahead. -/
def State.reqAt (s : State) (q : Nat) (b : Option Nat) (last : Option Iter) : Option SqReq :=
  if s.g (K.SQ_JUMP_STATUS q) = 3 then none
  else (s.sq q).req.filter (fun r => match b with
    | some t => s.qualifies q r t last
    | none => r.whn == 0 || (r.whn == 1 && last.any s.lastOf))

/-- The choice of the program at the end of the line, with the events already raised. -/
def State.ownChoice (s : State) (q : Nat) : Option Choice :=
  let h := s.sq q
  match h.lastReal with
  | some it => some (s.nextChoice (joinLoops h.loops it) it (s.tested it && s.jumpCond it h.outcome))
  | none => if s.g (K.SQ_STATE q) = 1 then some (s.enter [] (s.g (K.SQ_START_ENTRY q))) else none

/-- The missing iteration as its entry stands now: a commit may have changed the entry since it was chosen. -/
def State.missingNow (s : State) (q : Nat) : Option Iter :=
  (s.sq q).missing.map (fun m => { s.iterOf m.entry m.n m.loops with under := m.under })

/-- The choice at the end of the line without the held request: the missing iteration, or R182 with what is known. -/
def State.ownUp (s : State) (q : Nat) : Option Iter :=
  if (s.sq q).line.getLast?.any (fun it => it.kind == 2) then none
  else match s.missingNow q with
    | some m => some m
    | none => (s.ownChoice q).bind s.ofChoice

/-- The choice at the end of the line: the held request where it qualifies, else as without it. -/
def State.nextUp (s : State) (q : Nat) : Option Iter :=
  let h := s.sq q
  if h.line.getLast?.any (fun it => it.kind == 2) then none
  else match s.reqAt q (s.knownEnd q) h.line.getLast? with
    | some r => if r.stop then none else s.ofChoice (s.enter [] r.target)
    | none => s.ownUp q

/-- A choice as SQ_NEXT1 and SQ_NEXT2 read it. -/
def Choice.code (c : Choice) : Nat := if c.stop then 0xFFFE else c.entry

/-- The choice after an iteration still to come, as if no further event were raised (R187). -/
def State.choiceAfter (s : State) (q : Nat) (it : Iter) (taken : Bool) : Choice :=
  let own := s.nextChoice (joinLoops it.loops it) it false
  if taken || (s.sq q).req.isNone then own
  else match s.reqAt q ((s.knownEnd q).bind (s.iterEnd q it)) (some it) with
    | some r => if r.stop then { stop := true, loops := [] } else s.enter [] r.target
    | none => own

/-- The provisional resolutions of the two boundaries after the line (R187). -/
def State.provisional (s : State) (q : Nat) : List Nat :=
  let h := s.sq q
  if s.g (K.SQ_STATE q) = 0 ∨ h.line.getLast?.any (fun it => it.kind == 2) then []
  else match s.nextUp q with
    | some it => [it.entry, (s.choiceAfter q it (s.reqAt q (s.knownEnd q) h.line.getLast?).isSome).code]
    | none =>
      if (s.reqAt q (s.knownEnd q) h.line.getLast?).isSome then [0xFFFE]
      else match s.ownChoice q with | some c => [c.code] | none => []

/-- The boundaries walked until the held request qualifies: the frame of that boundary, or 0 where it is not known (R194). -/
def State.jumpWalk (s : State) (q : Nat) (r : SqReq) : Nat → Iter → Nat → Nat
  | 0, _, _ => 0
  | f + 1, it, b =>
    if s.qualifies q r b (some it) then frameOf b
    else if r.whn = 1 ∧ Seg.repeats (s.seg it.entry) = 0 then 0
    else match s.ofChoice (s.nextChoice (joinLoops it.loops it) it false) with
      | none => 0
      | some nx => match s.iterEnd q nx b with
        | some t => s.jumpWalk q r f nx t
        | none => 0

/-- The frame of the boundary at which the held request takes effect, once its start time is known (SQ_JUMP_FN, R194). -/
def State.jumpFrame (s : State) (q : Nat) : Nat :=
  let h := s.sq q
  match h.req, s.knownEnd q with
  | some r, some b =>
    if s.qualifies q r b h.line.getLast? then frameOf b
    else if h.line.getLast?.any (fun it => it.kind == 0 && it.state == 2) then
      (match s.nextUp q with
       | some nx => (match s.iterEnd q nx b with | some t => s.jumpWalk q r (2 ^ 30) nx t | none => 0)
       | none => 0)
    else 0
  | _, _ => 0

/-- The items of the line whose boundaries are still to come. -/
def State.decided (s : State) (q : Nat) : Nat := (s.sq q).line.length - b2n (s.plays q)

/-- The iterations of the two boundaries after the line, with their stream pages counted: SQ_NEXT1 and SQ_NEXT2 where those boundaries are
not decided, what follows without a request beyond them (R187, R234). -/
def State.pathHead (s : State) (q : Nat) : List Iter × Sp Nat :=
  match (if s.decided q < 2 then s.nextUp q else s.ownUp q) with
  | none => ([], [])
  | some it =>
    let a := s.numbered [] it
    let taken := (s.reqAt q (s.knownEnd q) (s.sq q).line.getLast?).isSome
    match (if s.decided q = 0 then s.ofChoice (s.choiceAfter q it taken) else s.follow it) with
    | none => ([a.1], a.2)
    | some nx =>
      let b := s.numbered a.2 nx
      ([a.1, b.1], b.2)

/-- The next k iterations after those that are final. -/
def State.path (s : State) (q k : Nat) : List Iter :=
  let h := s.pathHead q
  match h.1 with
  | [a, b] => ([a, b] ++ s.pathFrom k b h.2).take k
  | l => l.take k

/-- The streamed iterations after those that are final, as many as the ring may hold pages of (R234). -/
def State.streams (s : State) (q : Nat) : List Iter :=
  let h := s.pathHead q
  let k := s.g (K.RING_PAGES q) + 1
  h.1.filter (fun it => s.streamed it.entry) ++ (match h.1 with
    | [_, b] => s.streamsFrom ((k + 1) * (16 * s.entries.length + 16)) k b h.2
    | _ => [])

/-! ## Active entries (R179) -/

/-- The chain of a loop from its begin entry along NEXT (R179). -/
def State.chain (s : State) (last : Nat → Bool) : Nat → Nat → List Nat → List Nat
  | 0, _, seen => seen
  | f + 1, e, seen =>
    if seen.contains e then seen
    else if last e || Seg.stops (s.seg e) then seen ++ [e]
    else s.chain last f (Seg.next (s.seg e)) (seen ++ [e])

/-- The body of a loop. -/
def State.loopBody (s : State) (l : LoopRec) : List Nat :=
  s.chain (fun e => Seg.loopEnd (s.seg e) && Seg.loopFrom (s.seg e) == l.first) 16384 l.first []
    ++ (l.cur ++ l.last).map (·.1)

/-- Entries that begin, on the predicted path, in a frame before N + 3 + L. -/
def State.beginsSoon (s : State) (q : Nat) : Nat → List Iter → Option Nat → List Nat
  | 0, _, _ => []
  | _ + 1, [], _ => []
  | f + 1, it :: rest, b =>
    match b with
    | none => []
    | some t => it.entry :: s.beginsSoon q f rest (s.walkEnd q (s.sqLimit q) (it.len + 2) [it] 0 t)

/-- An entry is playing or prefetched. -/
def State.onLine (s : State) (q e : Nat) : Bool := (s.sq q).line.any (fun it => it.kind == 0 && it.entry == e)

/-- The iterations of replay sources that are held: that of the underrun at hand, and those of underruns whose end has not begun. -/
def SqHid.sources (h : SqHid) : List (Nat × Nat × Nat) := h.source ++ h.held ++ (h.line.drop 1).flatMap (·.held)

/-- The repeat and replay clauses of R179. -/
def State.isHeld (s : State) (q e : Nat) : Bool :=
  let h := s.sq q
  (h.lastReal.any (fun it => it.entry == e && (Seg.repeats (s.seg e) == 0 || it.n < Seg.repeats (s.seg e)))
    || h.missing.any (fun m => m.entry == e && 1 < m.n)
    || (h.loops.any (fun l => (s.loopBody l).contains e)) || h.sources.any (fun r => r.1 == e)) && s.g (K.SQ_STATE q) != 0

/-- An entry is active in the present frame (R179). -/
def State.active (s : State) (e : Nat) : Bool :=
  let q := Seg.owner (s.seg e)
  Seg.base (s.seg e) != 0 && s.g (K.SQ_STATE q) != 0 &&
  (s.onLine q e || s.isHeld q e || (s.beginsSoon q 64 (s.path q 64) (s.lineEnd q (s.sqLimit q))).contains e)

/-! ## Fetching (R186) -/

/-- Fetch the next vector; nothing when there is none, the FIFO is full, or its word cannot be had. -/
def State.fetchVec (s : State) (q : Nat) (it : Iter) (i : Nat) : Option State :=
  let h := s.sq q
  if 4096 ≤ h.fifo.length then none
  else match s.vecPeriod q it i h.tNext with
    | none => none
    | some p =>
      let base : Vec := { id := it.id, kind := it.kind, entry := it.entry, gen := it.gen, n := it.n, idx := i, start := h.tNext, period := p,
                          park := it.park && i == 0 }
      let v := match s.iterVec q it i, it.kind with
        | some r, 0 =>
          let r := applyFill r it.fill i
          { base with fmt := Seg.fmt (s.seg it.entry), tssel := r.tssel, codes := r.codes, tag := r.tag, clog := r.clog, evt := r.evt }
        | _, _ => base
      let s := s.setSq q { h with fifo := h.fifo ++ [v], fIter := it.id, fIdx := i + 1, tNext := h.tNext + p }
      let span := 1024 * Seg.perWord (Seg.fmt (s.seg it.entry))
      if it.kind = 0 ∧ s.streamed it.entry ∧ (i + 1 = it.len ∨ (i + 1) % span = 0) then
        let r := s.ring q
        some (s.setRing q { r with pages := r.pages.map (fun p =>
          if p.entry = it.entry ∧ p.gen = it.gen ∧ p.n = it.page + i / span then { p with used := true } else p) })
      else some s

/-- Fetch one vector of the line. -/
def State.fetchOne (s : State) (q : Nat) : Option State :=
  let h := s.sq q
  match h.ahead with
  | [] => none
  | it :: rest =>
    if h.fIdx < it.len then s.fetchVec q it h.fIdx
    else match rest with
      | nx :: _ => s.fetchVec q nx 0
      | [] => none

/-- Fetch every vector that starts before a time. -/
def State.fetchTo (q limit : Nat) : Nat → State → State
  | 0, s => s
  | f + 1, s =>
    if (s.sq q).tNext < limit then (match s.fetchOne q with | some t => State.fetchTo q limit f t | none => s) else s

/-- Fetch what is due: vectors that start in frame fn + 2 + L or earlier (R186, R273). -/
def State.fetchDue (s : State) (q : Nat) : State :=
  if s.g (K.SQ_STATE q) = 0 then s else State.fetchTo q (s.sqLimit q) 8192 s

/-- Give the fetched vectors that have not been handed on their times again, after a change of periods (R145). -/
def State.retime (s : State) (q : Nat) : State :=
  let h := s.sq q
  let r := h.fifo.foldl (fun (acc : List Vec × Option Nat) v =>
    let t := acc.2.getD v.start
    let p := if v.kind = 0 ∧ !v.handed then s.periodAt q v.tssel t else v.period
    (acc.1 ++ [{ v with start := t, period := p }], some (t + p))) ([], none)
  match r.2 with
  | some t => s.setSq q { h with fifo := r.1, tNext := t }
  | none => s

/-! ## Rings along the path (R231, R234 to R237) -/

/-- Stream pages of a list of iterations: entry, generation, page number, segment page. -/
def State.pathPages (s : State) (l : List Iter) : List (Nat × Nat × Nat × Nat) :=
  (l.filter (fun it => it.kind == 0 && s.streamed it.entry)).flatMap (fun it =>
    (List.range (Seg.pages (s.seg it.entry))).map (fun j => (it.entry, it.gen, it.page + j, j)))

/-- A ring page belongs to a held replay source (R237). -/
def State.ringHeld (s : State) (q : Nat) (p : RingPage) : Bool :=
  (s.sq q).sources.any (fun r => r.1 == p.entry && r.2.1 == p.gen && r.2.2 ≤ p.n && p.n < r.2.2 + Seg.pages (s.seg r.1))

/-- Take pages of a ring out of play: their operations end (R279), their slots hold nothing, and refill goes on after the last page kept. -/
def State.dropRing (s : State) (q : Nat) (gone : List RingPage) : State :=
  if gone.isEmpty then s
  else
    let l := gone.filterMap (fun p => s.ringPpn q p.slot)
    let s := s.each l (fun s n => ((s.unit (n / 64) 8).ops.filter (fun o => o.ppn == n)).foldl (fun s o => s.endOp (n / 64) 8 o 4) s)
    let s := s.each l (fun s n => s.setPageState n Pg.empty)
    let r := s.ring q
    let keep := r.pages.filter (fun p => !gone.any (fun g => g.slot == p.slot))
    let nx := match keep.getLast? with | some p => (p.slot + 1) % max 1 (s.g (K.RING_PAGES q)) | none => r.next
    s.setRing q { pages := keep, next := nx }

/-- Pages filled off the chosen path are released (R235). -/
def State.releasePath (s : State) (q : Nat) : State :=
  let want := s.pathPages ((s.sq q).line ++ s.streams q)
  let gone := (s.ring q).pages.filter (fun p =>
    !(p.used || s.ringHeld q p || want.any (fun w => w.1 == p.entry && w.2.1 == p.gen && w.2.2.1 == p.n)))
  let filled := gone.filter (fun p => (s.ringPpn q p.slot).any (fun n => Pg.state (s.page n) == Pg.valid))
  (s.dropRing q gone).add (K.RING_DISCARDS q) filled.length

/-- The valid pages with which a run of stream pages begins. -/
def State.validRun (s : State) (q : Nat) (l : List (Nat × Nat × Nat × Nat)) : Nat :=
  (l.takeWhile (fun w =>
    match s.streamPage q w.1 w.2.1 w.2.2.1 with
    | some (_, n) => Pg.state (s.page n) == Pg.valid
    | none => false)).length

/-- Valid pages in play order from the first page not yet begun (RING_VALID, R229); replayed iterations are no part of it. -/
def State.ringValid (s : State) (q : Nat) : Nat :=
  let h := s.sq q
  let begun := match h.line with
    | it :: _ => if s.plays q ∧ it.kind = 0 ∧ it.state = 2 ∧ s.streamed it.entry then
        ceilDiv (h.played it) (1024 * Seg.perWord (Seg.fmt (s.seg it.entry))) else 0
    | [] => 0
  s.validRun q ((s.pathPages (h.line.filter (fun it => it.state == 2) ++ s.streams q)).drop begun)

/-- The ring holds its watermark for the missing iteration, counted from its first page (R236). -/
def State.ringHolds (s : State) (q : Nat) (it : Iter) : Bool :=
  let k := s.g (K.RING_PAGES q) + 1
  !s.streamed it.entry || max (Seg.pages (s.seg it.entry)) (s.g (K.RING_WATERMARK q)) ≤
    s.validRun q (s.pathPages (it :: s.streamsFrom ((k + 1) * (16 * s.entries.length + 16)) k it [(it.entry, 1)]))

/-! ## The ready check (R186, R165, R166) -/

/-- What the ready check finds. -/
inductive Ready where
  | no
  | unfilled
  | yes (epoch : Option Nat) (it : Iter)
deriving DecidableEq, Repr

/-- Check an iteration that would begin at a boundary: its entry is READY, of the iteration's generation, its pages are valid, and it can be
filled. -/
def State.readyAt (s : State) (q : Nat) (it : Iter) (b : Nat) : Ready :=
  let r := s.seg it.entry
  if Seg.base r != 2 || Seg.gen r != it.gen || !(List.range (Seg.pages r)).all (fun j => (s.iterPpn q it j).isSome) then .no
  else if Seg.tfEn r then
    match s.timeFill q it b with
    | some (e, w) => .yes (some e) { it with fill := w }
    | none => .unfilled
  else .yes none { it with fill := [] }

/-- Note the epoch of a filled iteration. -/
def State.noteEpoch (s : State) (q : Nat) (e : Option Nat) : State :=
  match e with
  | some e => s.p (K.TF_LAST_EPOCH q) (ofTime92 (e * qSecond))
  | none => s

/-- Put an item at the end of the line, beginning at a boundary. -/
def State.pushIter (s : State) (q : Nat) (it : Iter) (b : Nat) : State :=
  let h := s.sq q
  let it := { it with id := h.nextId, start := some b, final := s.tick, held := h.held }
  let h := { h with line := h.line ++ [it], nextId := h.nextId + 1, held := [] }
  s.setSq q (if h.line.length = 1 then { h with fIter := it.id, fIdx := 0, tNext := b } else h)

/-- A ready iteration becomes prefetched: its stream pages are past their deadline (R186, R231). -/
def State.prefetch (s : State) (q : Nat) (it : Iter) (b : Nat) : State :=
  let s := s.pushIter q it b
  if it.state = 2 ∧ s.streamed it.entry then
    let i := Sp.get (fun _ => 0) s.streamIt it.entry + 1
    let s : State := { s with streamIt := Sp.set (fun _ => 0) s.streamIt it.entry i }
    s.p (atRow K.SEG_CONSUMED it.entry) (i * Seg.pages (s.seg it.entry))
  else s

/-- An iteration could not be filled: EV063, and it is counted once (R166). -/
def State.fillFault (s : State) (q : Nat) (counted : Bool) : State :=
  let s := s.raiseBits 63 (sqBit q)
  if counted then s else s.inc (K.TF_FAULTS q)

/-! ## Underrun (R201 to R205) -/

/-- The replay source (R204): the innermost construct running that has completed one, else the last iteration completed. -/
def State.replaySource (s : State) (q : Nat) (m : Iter) (ended : Option Iter) : List (Nat × Nat × Nat) :=
  let h := s.sq q
  let one := match ended with
    | some it => [(it.entry, it.gen, it.page)]
    | none => match h.done with | some d => [d] | none => []
  if 1 < m.n then one
  else match h.loops.find? (fun l => l.passes != 0 && !l.last.isEmpty) with
    | some l => l.last
    | none => one

/-- A source can be replayed: at most one stream iteration, with its pages still in the ring (R237). -/
def State.canReplay (s : State) (q : Nat) (l : List (Nat × Nat × Nat)) : Bool :=
  let str := l.filter (fun r => s.streamed r.1)
  !l.isEmpty && str.length ≤ 1 && str.all (fun r =>
    (List.range (Seg.pages (s.seg r.1))).all (fun j => (s.streamPage q r.1 r.2.1 (r.2.2 + j)).isSome))

/-- An idle vector in a state (R202). -/
def idleIter (state : Nat) (park under : Bool) : Iter := { id := 0, kind := 1, state := state, park := park, under := under }

/-- An iteration of a replay source, as it is played again. -/
def State.replayIter (s : State) (r : Nat × Nat × Nat) : Iter := { s.iterOf r.1 1 [] with gen := r.2.1, page := r.2.2, state := 4 }

/-- The replay source is ready at a replay boundary: each of its iterations in its turn (R205). -/
def State.sourceReady (s : State) (q : Nat) : List (Nat × Nat × Nat) → Nat → Ready
  | [], _ => .yes none default
  | r :: rest, b =>
    match s.readyAt q (s.replayIter r) b with
    | .yes _ it => (match s.walkEnd q (2 ^ 92) (it.len + 2) [it] 0 b with
        | some t => s.sourceReady q rest t
        | none => .no)
    | x => x

/-- The next iteration of the replay in progress, or an idle vector where it is not ready (R204, R205); `jump` is whether a host request
takes effect with it. -/
def State.replayNext (s : State) (q b : Nat) (under jump : Bool) : State :=
  let h := s.sq q
  match h.left with
  | [] => s.pushIter q { idleIter 4 false under with jump := jump } b
  | r :: rest =>
    match s.readyAt q { s.replayIter r with under := under, jump := jump, repEnd := rest.isEmpty } b with
    | .yes e it => (((s.setSq q { h with left := rest }).noteEpoch q e).pushIter q it b)
    | .unfilled => ((s.setSq q { h with left := [] }).fillFault q false).pushIter q { idleIter 4 false under with jump := jump } b
    | .no => (s.setSq q { h with left := [] }).pushIter q { idleIter 4 false under with jump := jump } b

/-- A replay of the source begins at a boundary, or an idle vector plays in its place where the source is not ready (R205). -/
def State.replayAll (s : State) (q b : Nat) (under jump : Bool) : State :=
  let h := s.sq q
  match s.sourceReady q h.source b with
  | .yes _ _ => (s.setSq q { h with left := h.source }).replayNext q b under jump
  | .unfilled => ((s.setSq q { h with left := [] }).fillFault q false).pushIter q { idleIter 4 false under with jump := jump } b
  | .no => (s.setSq q { h with left := [] }).pushIter q { idleIter 4 false under with jump := jump } b

/-- Begin an underrun at a boundary: the policy of the missing iteration's entry (R201 to R204); a host request that chose the iteration takes
effect at that boundary. -/
def State.beginUnderrun (s : State) (q : Nat) (m : Iter) (ended : Option Iter) (b : Nat) (counted : Bool) : State :=
  let src := s.replaySource q m ended
  let s := s.setSq q { s.sq q with missing := some { m with under := counted, jump := false } }
  let r := s.seg m.entry
  let policy := if Seg.live r then Seg.underrun r else 0
  if policy = 2 then s.pushIter q { idleIter 5 true true with jump := m.jump } b
  else if policy = 1 ∧ s.canReplay q src then (s.setSq q { s.sq q with source := src }).replayAll q b true m.jump
  else s.pushIter q { idleIter 3 false true with jump := m.jump } b

/-- The policy goes on (R205). -/
def State.continueUnderrun (s : State) (q b : Nat) : State :=
  match (s.sq q).line.getLast? with
  | some it =>
    if it.state = 4 then s.replayAll q b false false
    else s.pushIter q (idleIter it.state false false) b
  | none => s

/-- An underrun is over, or was never: its replay source is held until the next item of the line begins (R179). -/
def SqHid.settled (h : SqHid) : SqHid := { h with missing := none, held := h.held ++ h.source, source := [], left := [] }

/-! ## The deadline (R181, R194, R195, R205) -/

/-- Make a chosen iteration final: ready, or an underrun begins. The outcomes of its entry are combined afresh after a test (R185). -/
def State.settle (s : State) (q b : Nat) (c : Choice) (jump : Bool) : State :=
  let h := s.sq q
  let ended := h.line.getLast?.filter (fun it => it.kind == 0 && it.state == 2)
  let s := if c.overflow then (s.inc (K.SQ_LOOP_OVERFLOW q)).raiseBits 53 (sqBit q) else s
  let s := s.setSq q { (s.sq q).settled with loops := c.loops }
  if c.stop then s.pushIter q { id := 0, kind := 2, state := 0, jump := jump } b
  else
    let it := { s.iterOf c.entry c.n c.loops with jump := jump }
    let first := if c.entry = h.outcome.1 ∧ 0 < h.entered then h.entered else h.nextId
    let fresh := match ended with | some p => c.n == 1 || s.tested p | none => true
    let s := if fresh then s.setSq q { s.sq q with outcome := (c.entry, 0), entered := first } else s
    match s.readyAt q it b with
    | .yes e it => (s.noteEpoch q e).prefetch q it b
    | .unfilled => (s.fillFault q false).beginUnderrun q it ended b true
    | .no => s.beginUnderrun q it ended b false

/-- The choice at a deadline, the host request apart (R182, R205). -/
def State.decideOwn (s : State) (q b : Nat) : State :=
  let h := s.sq q
  match s.missingNow q with
  | some m =>
    if !s.ringHolds q m then s.continueUnderrun q b
    else match s.readyAt q m b with
      | .yes e it => ((s.setSq q h.settled).noteEpoch q e).prefetch q { it with resume := true, under := false } b
      | .unfilled => ((s.setSq q { h with missing := some { m with under := true } }).fillFault q m.under).continueUnderrun q b
      | .no => s.continueUnderrun q b
  | none =>
    match h.line.getLast? with
    | none => s.settle q b (s.enter [] (s.g (K.SQ_START_ENTRY q))) false
    | some it => s.settle q b (s.nextChoice (joinLoops h.loops it) it (s.tested it && s.jumpCond it h.outcome)) false

/-- The request's status, when the boundary at hand does not take it (R194). -/
def State.deferReq (s : State) (q : Nat) : State :=
  if (s.sq q).req.isSome ∧ s.g (K.SQ_JUMP_STATUS q) = 1 then (s.p (K.SQ_JUMP_STATUS q) 2).raiseBits 50 (sqBit q) else s

/-- Decide the boundary that ends the line (R182). -/
def State.decideNext (s : State) (q b : Nat) : State :=
  let h := s.sq q
  if !h.left.isEmpty then (s.deferReq q).replayNext q b false false
  else match h.req with
    | some r =>
      if s.g (K.SQ_JUMP_STATUS q) = 3 ∨ !s.qualifies q r b h.line.getLast? then (s.deferReq q).decideOwn q b
      else if !r.stop && Seg.gen (s.seg r.target) != r.gen then
        ((((s.setSq q { h with req := none }).p (K.SQ_JUMP_STATUS q) 5).inc (K.SQ_STALE q)).raiseBits 51 (sqBit q)).decideOwn q b
      else
        let s := (s.p (K.SQ_JUMP_STATUS q) 3).p (K.SQ_JUMP_FN q) (frameOf b)
        if r.stop then
          (s.setSq q { h.settled with loops := [] }).pushIter q { id := 0, kind := 2, state := 0, jump := true, park := r.park } b
        else s.settle q b (s.enter [] r.target) true
    | none => s.decideOwn q b

/-- PREFETCH_DEADLINE of the boundary that ends the line, once its frame is at most fn + 2 + L (R181). -/
def State.deadline (s : State) (q : Nat) : State :=
  if s.g (K.SQ_STATE q) = 0 ∨ (s.sq q).line.getLast?.any (fun it => it.kind == 2) then s
  else match s.lineEnd q (s.sqLimit q) with
    | some b => (s.decideNext q b).releasePath q
    | none => s

/-- PREFETCH_DEADLINE (R181). -/
def execPrefetchDeadline (q : Nat) : State → Host.Outcome State Fault Refusal :=
  run (fun s => if q < 8 then s.deadline q else s)

/-! ## Boundaries (R194, R196, R199, R201) -/

/-- A sequencer stops: its line is gone, its pins keep their level records (R196). -/
def State.stopped (s : State) (q : Nat) : State :=
  let h := s.sq q
  let s := s.setSq q { nextId := h.nextId, levels := h.levels, cmp := h.cmp, renewed := h.renewed }
  (s.pAll [(K.SQ_STATE q, 0), (K.SQ_ENTRY q, 0xFFFF)]).raiseBits 54 (sqBit q)

/-- An item of the line begins. -/
def State.beginIter (s : State) (q : Nat) (it : Iter) : State :=
  let at_ := it.start.getD 0
  let s := if it.jump then (s.setSq q { s.sq q with req := none }).p (K.SQ_JUMP_STATUS q) 4 else s
  if it.kind = 2 then (s.handTo q (at_ + 1)).stopped q
  else
    let s := if it.under then ((s.inc (K.SQ_UNDERRUNS q)).p (K.SQ_LAST_UNDERRUN_FN q) (frameOf at_)).raiseBits 48 (sqBit q) else s
    let s := if it.resume then s.raiseBits 49 (sqBit q) else s
    let s := s.p (K.SQ_STATE q) it.state
    if it.kind = 1 then s.p (K.SQ_ENTRY q) 0xFFFF
    else if it.state = 4 then (s.p (K.SQ_ENTRY q) it.entry).inc (K.SQ_REPLAYS q)
    else (s.p (K.SQ_ENTRY q) it.entry).p (K.SQ_ITER q) it.n

/-- ITERATION_BOUNDARY: the item playing has played out and the next one's boundary has come. -/
def State.boundary (s : State) (q : Nat) : State :=
  let h := s.sq q
  match h.line with
  | it :: nx :: rest =>
    if s.plays q && !h.fifo.any (fun v => v.id == it.id) && (h.fIter != it.id || it.len ≤ h.fIdx) && frameOf (nx.start.getD 0) ≤ s.fn then
      let h := { h with line := nx :: rest,
                        done := if it.kind = 0 ∧ it.bad.isNone then some (it.entry, it.gen, it.page) else h.done }
      let h := if h.fIter = it.id then { h with fIter := nx.id, fIdx := 0 } else h
      (s.setSq q h).beginIter q nx
    else s
  | _ => s

/-- ITERATION_BOUNDARY (R182). -/
def execIterationBoundary (q : Nat) : State → Host.Outcome State Fault Refusal :=
  run (fun s => if q < 8 then s.boundary q else s)

/-- SEQ_START_REACHED (R199): START has come. -/
def State.startReached (s : State) (q : Nat) : State :=
  let h := s.sq q
  match h.line with
  | it :: _ =>
    if s.g (K.SQ_STATE q) = 1 ∧ frameOf (it.start.getD 0) ≤ s.fn then (s.setSq q { h with startAt := none }).beginIter q it else s
  | [] => s

/-- SEQ_START_REACHED (R199). -/
def execSeqStartReached (q : Nat) : State → Host.Outcome State Fault Refusal :=
  run (fun s => if q < 8 then s.startReached q else s)

/-- VECTOR_START: the next vector of the item playing starts (R129, R131). -/
def State.vectorStart (s : State) (q : Nat) : State :=
  let h := s.sq q
  match h.fifo, h.line with
  | v :: _, it :: _ =>
    if s.plays q && v.id == it.id && frameOf v.start ≤ s.fn && v.kind != 2 then
      let s := s.handTo q (v.start + 1)
      let h := s.sq q
      let set := (s.atTime v.start).timingSet q v.tssel
      let s := s.setSq q { h with fifo := h.fifo.drop 1, now := if v.kind = 0 then some (set, v.start + v.period) else none }
      if v.kind = 1 then s.inc (K.SQ_IDLE_VECTORS q)
      else
        let w := s.windows q v
        let s := s.inc (K.SQ_VECTORS q)
        let s := if v.evt then s.raiseBits 55 (sqBit q) else s
        let s := s.pbit (K.TS_IN_USE set) q true
        let h := s.sq q
        s.setSq q { h with cmp := h.cmp ++ [{ id := v.id, entry := v.entry, gen := v.gen, seg := Seg.id (s.seg v.entry), idx := v.idx, n := v.n, tag := v.tag, clog := v.clog, wins := if w.isEmpty then [(16, 0, v.start, v.start)] else w }] }
    else s
  | _, _ => s

/-- TS_IN_USE as a frame begins: the sets of the vectors that still play (R143). -/
def State.setsInUse (s : State) : State :=
  let s := s.each (instances 256 (fun t => s.g (K.TS_IN_USE t) != 0)) (fun s t => s.p (K.TS_IN_USE t) 0)
  s.each (List.range 8) (fun s q =>
    match (s.sq q).now with
    | some p => if s.frameStart < p.2 then s.pbit (K.TS_IN_USE p.1) q true else s
    | none => s)

/-- VECTOR_START (R129). -/
def execVectorStart (q : Nat) : State → Host.Outcome State Fault Refusal :=
  run (fun s => if q < 8 then s.vectorStart q else s)

/-! ## Playback stops on a retired page (R252) -/

/-- The iterations past their deadline that need a page stop short of its vectors not fetched. -/
def State.spoil (s : State) (q e j : Nat) (page : Option Nat) : State :=
  let h := s.sq q
  let span := 1024 * Seg.perWord (Seg.fmt (s.seg e))
  let mark := fun (it : Iter) =>
    let hit := it.kind == 0 && it.entry == e && (match page with | some n => it.page ≤ n && n < it.page + Seg.pages (s.seg e) | none => true)
    let j := match page with | some n => n - it.page | none => j
    let fetched := if it.id = h.fIter then h.fIdx else if h.ahead.any (fun a => a.id == it.id) then 0 else it.len
    let first := max fetched (j * span)
    if hit && first < min it.len ((j + 1) * span) then { it with bad := some (match it.bad with | some b => min b first | none => first) } else it
  s.setSq q { h with line := h.line.map mark }

/-- A streamed iteration is to play again from vector 0 (R252): its pages in the ring are not yet fetched; where one is gone, the ring gives
up what it holds and fills again from the first. -/
def State.streamAgain (s : State) (q : Nat) (it : Iter) : State :=
  let r := s.ring q
  let mine := fun (p : RingPage) => p.entry == it.entry && p.gen == it.gen && it.page ≤ p.n && p.n < it.page + Seg.pages (s.seg it.entry)
  if (r.pages.filter mine).length = Seg.pages (s.seg it.entry) then
    s.setRing q { r with pages := r.pages.map (fun p => if mine p then { p with used := false } else p) }
  else s.dropRing q (r.pages.filter (fun p => !s.ringHeld q p))

/-- PLAYBACK_PARK_ON_RETIRE: the iteration ends at its first unfetched vector, the pins park, the iteration becomes the missing one. -/
def State.parkOnRetire (s : State) (q : Nat) : State :=
  let h := s.sq q
  let here := if (h.ahead.head?).any (fun it => it.len ≤ h.fIdx) then ((h.ahead.drop 1).head?.map (fun it => (it, 0)))
    else h.ahead.head?.map (fun it => (it, h.fIdx))
  match here with
  | some (it, i) =>
    if s.g (K.SQ_STATE q) != 0 && it.bad == some i then
      let before := h.line.takeWhile (fun x => x.id != it.id)
      let gone := (h.line.drop (before.length + 1)).filter (fun x => x.kind == 0 && x.state == 2 && s.streamed x.entry)
      let own := if it.state = 2 ∧ s.streamed it.entry then [it] else []
      let s : State := (gone ++ own).foldl (fun s x =>
        let c := Sp.get (fun _ => 0) s.streamIt x.entry - 1
        ({ s with streamIt := Sp.set (fun _ => 0) s.streamIt x.entry c } : State).p (atRow K.SEG_CONSUMED x.entry) (c * Seg.pages (s.seg x.entry))) s
      let s := if (h.line.drop before.length).any (fun x => x.jump && x.id != it.id) then (s.p (K.SQ_JUMP_STATUS q) 2).p (K.SQ_JUMP_FN q) 0 else s
      let s := if it.state = 2 ∧ s.streamed it.entry then s.streamAgain q it else s
      let t := h.tNext
      let h := { h with
        line := if i = 0 then before else before ++ [{ it with len := i }]
        missing := if it.state = 4 then h.missing else some { it with fill := [], bad := none, resume := false, under := false, jump := false }
        loops := if it.state = 4 then h.loops else it.loops
        left := [] }
      let s := (s.setSq q h).pushIter q { idleIter 5 true true with jump := it.jump && i == 0 } t
      match (s.sq q).line with
      | [x] => if s.plays q ∧ h.line.isEmpty then s.beginIter q x else s
      | _ => s
    else s
  | none => s

/-- PLAYBACK_PARK_ON_RETIRE (R252). -/
def execPlaybackParkOnRetire (q : Nat) : State → Host.Outcome State Fault Refusal :=
  run (fun s => if q < 8 then s.parkOnRetire q else s)

/-! ## Comparison (R149 to R154) -/

/-- The outcome of one window (R149, R150): 1 PASS, 2 FAIL, 3 INVALID, with the input's level at the closing. -/
def State.windowOutcome (s : State) (w : Nat × Nat × Nat × Nat) (free : Bool) : Nat × Bool :=
  let h := s.inp w.1
  let before := h.history.find? (fun e => e.1 < w.2.2.1)
  let level := (before.map (·.2)).getD free
  let atClose := ((h.history.find? (fun e => e.1 ≤ w.2.2.2)).map (·.2)).getD free
  let frm := (before.map (·.1)).getD 0
  let edge := h.history.any (fun e => w.2.2.1 ≤ e.1 && e.1 ≤ w.2.2.2)
  let drop := h.drops.any (fun t => frm ≤ t && t ≤ w.2.2.2)
  (if drop then 3
   else if w.2.1 = 1 then (if !level && !edge then 1 else 2)
   else if w.2.1 = 2 then (if level && !edge then 1 else 2)
   else if edge then 1 else 2, atClose)

/-- Outcomes combined by precedence (R151). -/
def combine (a b : Nat) : Nat := if a = 2 ∨ b = 2 then 2 else if a = 3 ∨ b = 3 then 3 else if a = 1 ∨ b = 1 then 1 else 0

/-- Write an entry to the compare log (R152 to R154). -/
def State.cmpLog (s : State) (q : Nat) (v : CmpVec) (o failMask invMask level compared : Nat) : State :=
  let mode := s.g (K.CMP_LOG_MODE q)
  let due := if mode = 2 then o != 0 else o == 2 || o == 3 || v.clog
  if !due || s.gb (K.CMP_LOG_HALTED q) then s
  else if 1024 ≤ s.g (K.CMP_LOG_HEAD q) - s.g (K.CMP_LOG_TAIL q) then (s.inc (K.CMP_LOG_DROPPED q)).raiseBits 62 (sqBit q)
  else
    let w0 := v.seg % 2 ^ 16 * 2 ^ 48 + v.gen % 256 * 2 ^ 40 + v.idx % 2 ^ 24 * 2 ^ 16 + v.tag % 16 * 2 ^ 12 + o * 2 ^ 10
    let w1 := failMask * 2 ^ 48 + invMask * 2 ^ 32 + v.n % 2 ^ 32
    let w3 := level * 2 ^ 48 + compared * 2 ^ 32
    let s := s.p (atRow (K.CMP_LOG q) (s.g (K.CMP_LOG_HEAD q) % 1024)) (w0 + w1 * 2 ^ 64 + s.fn % 2 ^ 64 * 2 ^ 128 + w3 * 2 ^ 192)
    let s := s.inc (K.CMP_LOG_HEAD q)
    if mode = 1 ∧ o = 2 then s.p (K.CMP_LOG_HALTED q) 1 else s

/-- Decide the outcome of one vector; a level that no edge has given is free. It counts for the next test of its entry, unless the entry has
been left since (R185). -/
def State.outcome (s : State) (q : Nat) (v : CmpVec) : State :=
  let wins := v.wins.filter (fun w => w.1 < 16)
  let unseen := wins.any (fun w => !(s.inp w.1).history.any (fun e => e.1 < w.2.2.1))
  let (free, s) := if unseen then s.fresh else (0, s)
  let rs := wins.map (fun w => (w.1, s.windowOutcome w (free.testBit w.1)))
  let o := rs.foldl (fun a r => combine a r.2.1) 0
  let bitsOf := fun (p : Nat × Nat × Bool → Bool) => bitmap ((rs.filter p).map (·.1) |>.eraseDups)
  let s := s.p (K.CMP_LAST q) o
  let s := if o = 0 then s else s.inc (K.CMP_VECTORS q)
  let s := if o = 1 then s.inc (K.CMP_PASS q) else if o = 2 then (s.inc (K.CMP_FAIL q)).raiseBits 60 (sqBit q)
    else if o = 3 then (s.inc (K.CMP_INVALID q)).raiseBits 61 (sqBit q) else s
  let h := s.sq q
  let s := if h.outcome.1 = v.entry ∧ h.entered ≤ v.id then s.setSq q { h with outcome := (v.entry, combine h.outcome.2 o) } else s
  s.cmpLog q v o (bitsOf (fun r => r.2.1 == 2)) (bitsOf (fun r => r.2.1 == 3)) (bitsOf (fun r => r.2.2)) (bitsOf (fun _ => true))

/-- COMPARE_OUTCOME: every vector whose last window closed 262,144 q before this boundary, in order. -/
def State.compareOutcomes (s : State) (q : Nat) : State :=
  let h := s.sq q
  let ripe := fun (v : CmpVec) => v.wins.all (fun w => w.2.2.2 + trigLatency ≤ s.frameStart)
  (h.cmp.filter ripe).foldl (fun s v => s.outcome q v) (s.setSq q { h with cmp := h.cmp.filter (fun v => !ripe v) })

/-- COMPARE_OUTCOME (R151). -/
def execCompareOutcome (q : Nat) : State → Host.Outcome State Fault Refusal :=
  run (fun s => if q < 8 then s.compareOutcomes q else s)

/-- CMP_LOG_RESUME clears CMP_LOG_HALTED (R153). -/
def State.cmpLogResumeCmd (s : State) (w : Who) (q arg : Nat) : CmdRes :=
  s.call w (K.CMP_LOG_RESUME q) arg 1 (fun s => (s.p (K.CMP_LOG_HALTED q) 0).done)

/-- CMP_LOG_RESUME (R153). -/
def execCmpLogResume (who : Who) (q : Nat) : State → Host.Outcome State Fault Refusal :=
  run (fun s => if q < 8 then s.command (fun s => s.cmpLogResumeCmd who q 0) else s)

/-- A write of CMP_LOG_TAIL (R154). -/
def State.cmpTailWrite (s : State) (q v : Nat) : CmdRes :=
  if v < s.g (K.CMP_LOG_TAIL q) ∨ s.g (K.CMP_LOG_HEAD q) < v then s.deny RC.range else (s.p (K.CMP_LOG_TAIL q) v).done

/-- CMP_LOG_TAIL_WRITE (R154), a write of an RW object: privilege OPERATE (R522). -/
def execCmpLogTailWrite (who : Who) (q v : Nat) : State → Host.Outcome State Fault Refusal :=
  run (fun s => if q < 8 then s.command (fun s =>
    if s.bootRom then s.deny RC.noObject else if s.privOf who < 1 then s.deny RC.privilege else s.cmpTailWrite q v) else s)

/-! ## The lock (R188, R189) -/

/-- A requester other than the holder of a held lock. -/
def State.lockedOut (s : State) (w : Who) (q : Nat) : Bool :=
  s.g (K.SQ_LOCK_OWNER q) != 0 && s.g (K.SQ_LOCK_OWNER q) != identityOf w

/-- A command from the holder renews the lease. -/
def State.renewLock (s : State) (w : Who) (q : Nat) : State :=
  if s.g (K.SQ_LOCK_OWNER q) = identityOf w then s.setSq q { s.sq q with renewed := s.tick } else s

/-- SQ_LOCK: argument 1 acquires, 0 releases. -/
def State.sqLockCmd (s : State) (w : Who) (q arg : Nat) : CmdRes :=
  s.call w (K.SQ_LOCK q) arg 1 (fun s =>
    if 1 < arg then s.deny RC.range
    else if s.lockedOut w q then s.deny RC.locked
    else if arg = 1 then ((s.p (K.SQ_LOCK_OWNER q) (identityOf w)).renewLock w q).done
    else (s.p (K.SQ_LOCK_OWNER q) 0).done)

/-- SQ_LOCK_ACQUIRE (R188). -/
def execSqLockAcquire (who : Who) (q : Nat) : State → Host.Outcome State Fault Refusal :=
  run (fun s => if q < 8 then s.command (fun s => s.sqLockCmd who q 1) else s)

/-- SQ_LOCK_RELEASE (R188). -/
def execSqLockRelease (who : Who) (q : Nat) : State → Host.Outcome State Fault Refusal :=
  run (fun s => if q < 8 then s.command (fun s => s.sqLockCmd who q 0) else s)

/-- A lock breaks (R189): it is free, and EV052. -/
def State.breakLock (s : State) (q : Nat) : State := (s.p (K.SQ_LOCK_OWNER q) 0).raiseBits 52 (sqBit q)

/-- SQ_LOCK_LEASE_EXPIRY (R189): SQ_LOCK_LEASE has passed without renewal. -/
def execSqLockLeaseExpiry (q : Nat) : State → Host.Outcome State Fault Refusal :=
  run (fun s =>
    if q < 8 ∧ s.g (K.SQ_LOCK_OWNER q) ≠ 0 ∧ (s.sq q).renewed + framesOfUs (s.g (K.SQ_LOCK_LEASE q)) ≤ s.tick then s.breakLock q else s)

/-- The locks of a party under an earlier boot epoch break (R189, R526). -/
def State.breakLocks (s : State) (lost : Nat → Bool) : State :=
  s.each ((List.range 8).filter (fun q => s.g (K.SQ_LOCK_OWNER q) != 0 && lost (s.g (K.SQ_LOCK_OWNER q)))) State.breakLock

/-! ## Jumps and stops (R190 to R196) -/

/-- A time lies beyond the scheduling reach (R62). -/
def State.beyondReach (s : State) (t : Nat) : Bool := s.frameStart + 2 ^ 48 < t

/-- Hold a request: it replaces one held, and is DEFERRED at once when the next boundary is known not to take it (R193, R194). -/
def State.holdReq (s : State) (q : Nat) (r : SqReq) : CmdRes :=
  if s.g (K.SQ_JUMP_STATUS q) = 3 then s.deny RC.busy
  else
    let h := s.sq q
    let s := ((s.setSq q { h with req := some r }).p (K.SQ_JUMP_STATUS q) 1).p (K.SQ_JUMP_FN q) 0
    let final := if s.g (K.SQ_STATE q) = 1 then !h.line.isEmpty else 1 < h.line.length
    let late := match s.knownEnd q with
      | some b => !s.qualifies q r b h.line.getLast?
      | none => false
    (if final || late then s.deferReq q else s).accept

/-- SQ_JUMP (R191, R192). -/
def State.sqJumpBody (s : State) (q arg : Nat) : CmdRes :=
  let target := bits arg 125 112
  let gen := bits arg 111 104
  let time := bits arg 91 0
  if s.g (K.SQ_STATE q) ≤ 1 then s.deny RC.state
  else if bits arg 127 126 = 3 ∨ !Seg.live (s.seg target) ∨ (bits arg 127 126 = 2 ∧ s.beyondReach (time92 time)) then s.deny RC.range
  else if Seg.owner (s.seg target) ≠ q then s.deny RC.owner
  else if gen ≠ Seg.gen (s.seg target) then ((s.inc (K.SQ_STALE q)).raiseBits 51 (sqBit q)).deny RC.stale
  else s.holdReq q { stop := false, whn := bits arg 127 126, target := target, gen := gen, time := time92 time, fn := s.fn }

/-- SQ_JUMP as a command: a malformed TIME (R54), then the lock, then its checks. -/
def State.sqJumpCmd (s : State) (w : Who) (q arg : Nat) : CmdRes :=
  s.call w (K.SQ_JUMP q) arg 1 (fun s =>
    if qSecond ≤ bits arg 43 0 then s.deny RC.malformed
    else if s.lockedOut w q then s.deny RC.locked
    else (s.renewLock w q).sqJumpBody q arg)

/-- SQ_JUMP (R192). -/
def execSqJump (who : Who) (q arg : Nat) : State → Host.Outcome State Fault Refusal :=
  run (fun s => if q < 8 then s.command (fun s => s.sqJumpCmd who q arg) else s)

/-- SQ_STOP (R196): a request with WHEN NEXT whose target is STOP; a stopped sequencer has nothing to stop. -/
def State.sqStopCmd (s : State) (w : Who) (q arg : Nat) : CmdRes :=
  s.call w (K.SQ_STOP q) arg 1 (fun s =>
    if s.lockedOut w q then s.deny RC.locked
    else
      let s := s.renewLock w q
      if s.g (K.SQ_STATE q) = 0 then s.deny RC.state
      else s.holdReq q { stop := true, park := bit arg 0, fn := s.fn })

/-- SQ_STOP (R196). -/
def execSqStop (who : Who) (q arg : Nat) : State → Host.Outcome State Fault Refusal :=
  run (fun s => if q < 8 then s.command (fun s => s.sqStopCmd who q arg) else s)

/-! ## Starting (R197 to R200) -/

/-- Arm a sequencer for a start time (R173, R198). -/
def State.arm (s : State) (q start : Nat) : State :=
  let h := s.sq q
  let s := s.setSq q { nextId := h.nextId, levels := h.levels, cmp := h.cmp, renewed := h.renewed, startAt := some start }
  s.pAll [(K.SQ_LEAD q, s.largestLead q), (K.SQ_STATE q, 1), (K.SQ_JUMP_STATUS q, 0), (K.SQ_JUMP_FN q, 0), (K.SQ_ITER q, 0)]

/-- The entry at which a masked sequencer would begin is not its own, or is not there. -/
def State.startOwnerBad (s : State) (q : Nat) : Bool :=
  let r := s.seg (s.g (K.SQ_START_ENTRY q))
  !Seg.live r || Seg.owner r != q

/-- The earliest frame at which a mask may start. -/
def State.earliestStart (s : State) (mask : List Nat) : Nat := mask.foldl (fun m q => max m (s.fn + 3 + s.largestLead q)) (s.fn + 3)

/-- Why a mask cannot be started (R198), apart from locks; 0 when it can. -/
def State.startRefusal (s : State) (mask : List Nat) (start : Nat) : Nat :=
  if s.mode = 10 ∨ s.mode = 11 ∨ mask.any (fun q => s.g (K.SQ_STATE q) != 0) then RC.state
  else if mask.any s.startOwnerBad then RC.owner
  else if start ≠ 0 ∧ s.beyondReach start then RC.range
  else if start ≠ 0 ∧ frameOf start < s.earliestStart mask then RC.horizon
  else 0

/-- SQ_START; a second stack start while one is pending is refused (R489). -/
def State.sqStartBody (s : State) (arg : Nat) : CmdRes :=
  let mask := bitList 8 (bits arg 127 120)
  let stack := bit arg 119
  let start := time92 (bits arg 91 0)
  let refusal := s.startRefusal mask start
  let early := if stack then max (s.earliestStart mask) (s.fn + 2560) else s.earliestStart mask
  let start := if start = 0 then early * qFrame else start
  if stack ∧ s.g K.STK_STATE ≠ 1 then s.deny RC.state
  else if stack ∧ s.stkStart.isSome then s.deny RC.busy
  else if refusal = RC.horizon ∨ (refusal = 0 ∧ frameOf start < early) then ⟨RC.horizon, early, s⟩
  else if refusal ≠ 0 then s.deny refusal
  else
    let s := (s.each mask (fun s q => s.arm q start)).p K.SQ_START_FN (frameOf start)
    if stack then ({ s with stkStart := some (start, 0, 0) }.p K.SQ_STACK_RESULT 0).accept else s.accept

/-- SQ_START as a command: a malformed START (R54), then the locks of the mask, then its checks. -/
def State.sqStartCmd (s : State) (w : Who) (arg : Nat) : CmdRes :=
  s.call w K.SQ_START arg 1 (fun s =>
    let mask := bitList 8 (bits arg 127 120)
    if qSecond ≤ bits arg 43 0 then s.deny RC.malformed
    else if mask.any (s.lockedOut w) then s.deny RC.locked
    else (s.each mask (fun s q => s.renewLock w q)).sqStartBody arg)

/-- SQ_START (R198). -/
def execSqStart (who : Who) (arg : Nat) : State → Host.Outcome State Fault Refusal :=
  run (fun s => s.command (fun s => s.sqStartCmd who arg))

/-! ## Freeing an entry (R180) -/

/-- SEG_FREE. -/
def State.segFreeCmd (s : State) (w : Who) (e : Nat) : CmdRes :=
  s.call w K.SEG_FREE e 1 (fun s =>
    if 16384 ≤ e ∨ !Seg.live (s.seg e) then s.deny RC.range
    else if s.segFrees.any (fun p => p.1 == e) then s.deny RC.busy
    else if s.active e then s.deny RC.active
    else ({ s with segFrees := s.segFrees ++ [(e, s.soon)] } : State).accept)

/-- SEG_FREE (R180). -/
def execSegFree (who : Who) (e : Nat) : State → Host.Outcome State Fault Refusal :=
  run (fun s => s.command (fun s => s.segFreeCmd who e))

/-- An accepted SEG_FREE reaches its boundary: RETIRED with its ID quarantined (R247), or not applied. -/
def State.freeEffect (s : State) (e : Nat) : State :=
  let s : State := { s with segFrees := s.segFrees.filter (fun p => p.1 != e) }
  let r := s.seg e
  if s.active e then (s.inc K.SEG_REFUSED_ACTIVE).p K.SEG_FREE_LAST (e * 2 ^ 50 + 12)
  else
    let till := s.tick + s.retireFrames
    let s := s.releasePages (s.entryPages e) Pl.forCommit
    let s : State := { s with
      quarIds := s.quarIds ++ [(Seg.id r, till)]
      genLog := s.genLog ++ [(e, Seg.gen r, till)]
      segRetire := s.segRetire ++ [(e, till)] }
    ((s.setSeg e (setBits r 2 0 7)).p (atRow K.SEG_PLACE e) 0).p K.SEG_FREE_LAST (e * 2 ^ 50)

/-- SEG_FREE_EFFECT (R180). -/
def execSegFreeEffect (e : Nat) : State → Host.Outcome State Fault Refusal :=
  run (fun s => if s.segFrees.any (fun p => p.1 == e && p.2 ≤ s.tick) then s.freeEffect e else s)

end Sys2Proof.Machine
end

