-- ==== Sys2Proof/Machine/VectorMem.lean ====
section
/-! DEFINITION. Page writes and reads, moves, self-test, scrubbing, refill and page
transfers (R207 to R216, R222, R223, R232 to R246, R249 to R256, R275 to R280). -/

namespace Sys2Proof.Machine

/-! ## Words and images (R136, R209) -/

/-- Write a word of vector memory. -/
def State.putWord (s : State) (ppn w : Nat) (v : VWord) : State := { s with vmem := Sp.ins s.vmem (1024 * ppn + w) v }
/-- A byte of the window of post and read slots (R611). -/
def State.slotByte (s : State) (off : Nat) : Byte := Sp.get (fun _ => 0) s.slotBytes off
def State.setSlotByte (s : State) (off : Nat) (b : Byte) : State := { s with slotBytes := Sp.set (fun _ => 0) s.slotBytes off b }
/-- A word from its bytes in a page image: data bit i at bit i mod 8 of byte i div 8, bytes 22 and 23 reserved (R136). -/
def wordOf (l : List Byte) : VWord := BitVec.ofNat 176 (ofLe (l.take 22))
/-- Word w of the page image in a slot. -/
def State.slotWord (s : State) (k w : Nat) : VWord := wordOf ((List.range 22).map (fun i => s.slotByte (24576 * k + 24 * w + i)))
/-- Word w of the bytes of an image that have arrived. -/
def imageWord (l : List Byte) (w : Nat) : Option VWord := if 24 * w + 24 ≤ l.length then some (wordOf (l.drop (24 * w))) else none

/-- Word w that a page write would write next; nothing while it has not arrived. An image whose mixture is settled stands in memory. -/
def State.opWord (s : State) (o : XOp) (w : Nat) : Option VWord :=
  if o.code = 3 then (if 8 ≤ o.src then some (s.word o.ppn w) else some (s.slotWord o.src w))
  else match s.xferOf o.ppn with
    | some x => imageWord x.data w
    | none => none

/-- A page write is complete in its image. -/
def State.imageWhole (s : State) (o : XOp) : Bool := o.code == 3 || (s.xferOf o.ppn).any (·.full)

/-! ## Page writes (R212 to R216) -/

/-- An operation's end condition holds (R279). -/
def State.opDead (s : State) (o : XOp) : Bool :=
  if o.code = 1 then Seg.gen (s.seg o.entry) != o.gen || !(s.ringAt o.ppn).any (fun p => p.2.entry == o.entry && p.2.gen == o.gen)
  else if o.code = 2 ∨ o.code = 3 then Seg.gen (s.seg o.entry) != o.gen
  else if o.code = 4 ∨ o.code = 5 then
    (match o.peer with
     | some src => s.active (Pg.entry (s.page src)) || Pg.state (s.page src) == Pg.free || Pg.state (s.page src) == Pg.retired
     | none => true)
  else if o.code = 7 then Pg.state (s.page o.ppn) == Pg.free || Pg.state (s.page o.ppn) == Pg.retired
  else false

/-- End the active operation of a requester while its condition holds, at a word boundary and as one resumes (R279). -/
def State.endDead (b r : Nat) : Nat → State → State
  | 0, s => s
  | f + 1, s =>
    match (s.unit b r).active with
    | some o => if s.opDead o && (r == 9 || o.banks.contains b) then State.endDead b r f (s.endOp b r o 4) else s
    | none => s

/-- End the operations of a bank whose condition holds. -/
def State.checkEnds (s : State) (b : Nat) : State :=
  s.each [8, 9, 10] (fun s r => State.endDead b r (s.unit b r).ops.length s)

/-- A later page write to a page ends the earlier ones, and a copy of that page by the mover (R213, R223). -/
def State.endEarlier (s : State) (ppn : Nat) : State :=
  let b := ppn / 64
  let s := ((s.unit b 8).ops.filter (fun o => o.ppn == ppn)).foldl (fun s o => s.endOp b 8 o 3) s
  (((s.unit b 9).ops.filter (fun o => o.peer == some ppn)).foldl (fun s o => s.endOp b 9 o 3) s)

/-- The checks of a page write (R212): 0 when accepted. -/
def State.pageCheck (s : State) (e gen n : Nat) : Nat :=
  let r := s.seg e
  let q := Seg.owner r
  if !Seg.live r ∨ (!s.streamed e && Seg.pages r ≤ n) ∨ (s.streamed e && (s.streamPage q e (Seg.gen r) n).isNone) then RC.range
  else if gen ≠ Seg.gen r then RC.stale
  else if s.streamed e then
    (if n < Sp.get (fun _ => 0) s.streamIt e * Seg.pages r then RC.active else 0)
  else match s.ppnOf e n with
    | none => RC.placementCapacity
    | some p => if s.active e && Pg.state (s.page p) != Pg.empty then RC.active else 0

/-- The physical page that a page write names. -/
def State.pageTarget (s : State) (e n : Nat) : Option Nat :=
  if s.streamed e then (s.streamPage (Seg.owner (s.seg e)) e (Seg.gen (s.seg e)) n).map (·.2) else s.ppnOf e n

/-- A page write refused (R212): STALE is counted. -/
def State.pageRefused (s : State) (code : Nat) : State := if code = RC.stale then s.inc K.PAGE_STALE else s

/-- PAGE_POST: the write of a page from a post slot. -/
def State.pagePostBody (s : State) (arg : Nat) : CmdRes :=
  let slot := bits arg 127 125
  let e := bits arg 124 111
  let gen := bits arg 110 103
  let n := bits arg 63 0
  if bit (s.g K.PAGE_SLOTS_BUSY) slot then s.deny RC.busy
  else
    let code := s.pageCheck e gen n
    match code, s.pageTarget e n with
    | 0, some ppn =>
      let s := (s.endEarlier ppn).pbit K.PAGE_SLOTS_BUSY slot true
      (s.acceptOp (ppn / 64) 8 { code := 3, entry := e, gen := gen, ppn := ppn, src := slot }).accept
    | c, _ => (s.pageRefused c).deny (if c = 0 then RC.range else c)

def State.pagePostCmd (s : State) (w : Who) (arg : Nat) : CmdRes := s.call w K.PAGE_POST arg 1 (fun s => s.pagePostBody arg)

/-- PAGE_POST (R212). -/
def execPagePost (who : Who) (arg : Nat) : State → Host.Outcome State Fault Refusal :=
  run (fun s => s.command (fun s => s.pagePostCmd who arg))

/-- A page write is done: VALID while its generation is current, else EMPTY (R213). -/
def State.finishWrite (s : State) (o : XOp) : State :=
  let good := Seg.gen (s.seg o.entry) == o.gen && Seg.live (s.seg o.entry)
  let load := (s.xferOf o.ppn).bind (·.load)
  let s := (s.dropOp (o.ppn / 64) 8 o).setPageState o.ppn (if good then Pg.valid else Pg.empty)
  let s := if o.code = 3 then s.slotFreed (o.src % 8) else (s.dropXfer o.ppn).inc K.DMA_PAGES
  let s := match load with
    | some (q, tag) => if good then s.descDone q tag 2 RC.ok 0 s.fn else s.descDone q tag 2 RC.state 4 s.fn
    | none => s
  let s := s.checkEnds (o.ppn / 64)
  if o.code = 1 ∧ good then
    (match s.ringAt o.ppn with
     | some (q, _) => (s.setRetry o.ppn none).inc (K.RING_REFILLS q)
     | none => s)
  else s

/-- Write the words of an image from a progress count on. -/
def State.writeRest (s : State) (o : XOp) : State :=
  s.each ((List.range 1024).drop o.prog) (fun s w => match s.opWord o w with | some v => s.putWord o.ppn w v | none => s)

/-- PAGE_WRITE_COMPLETE: the active page write of a page, its image whole, writes its last word (R213). -/
def State.pageWritten (s : State) (ppn : Nat) : State :=
  match (s.unit (ppn / 64) 8).active with
  | some o =>
    if o.ppn = ppn ∧ s.opDead o then s.checkEnds (ppn / 64)
    else if o.ppn = ppn ∧ s.imageWhole o then
      let s := if Pg.state (s.page ppn) = Pg.filling then s else s.beginFill o
      (s.writeRest o).finishWrite o
    else s
  | none => s

/-- PAGE_WRITE_COMPLETE (R213). -/
def execPageWriteComplete (ppn : Nat) : State → Host.Outcome State Fault Refusal := run (fun s => s.pageWritten ppn)

/-- The host writes a busy post slot: the page of the operation takes any mixture of the two images (R214). -/
def State.mixSlot (s : State) (k : Nat) (old : State) : State :=
  let ops := (List.range 16).flatMap (fun b => (s.unit b 8).ops.filter (fun o => o.code == 3 && o.src % 8 == k))
  ops.foldl (fun s o =>
    let c := s.free
    let s := s.each (List.range 1024) (fun s w =>
      s.putWord o.ppn w (if Config.mixesNew c w then s.slotWord k w else (old.opWord o w).getD (s.word o.ppn w)))
    let s : State := { s with free := s.free + 1 }
    let f := fun (x : XOp) => if x = o then { x with src := 8 + k } else x
    let u := s.unit (o.ppn / 64) 8
    s.setUnit (o.ppn / 64) 8 { active := u.active.map f, held := u.held.map f, wait := u.wait.map f }) s

/-- POST_SLOT_WRITE: bytes written in the vector-memory window of BAR2; read slots and what lies beyond discard them
(R611), and the reserved bytes of each word ignore them (R7, R136). -/
def State.slotWrite (s : State) (off : Nat) (bytes : List Byte) : State :=
  let l := (bytes.zipIdx.map (fun p => (off + p.2, p.1))).filter (fun p => p.1 < 196608 && p.1 % 24 < 22)
  let t := l.foldl (fun s p => s.setSlotByte p.1 p.2) s
  ((l.map (fun p => p.1 / 24576)).eraseDups.filter (bit (s.g K.PAGE_SLOTS_BUSY))).foldl (fun t k => t.mixSlot k s) t

/-- POST_SLOT_WRITE (R214). -/
def execPostSlotWrite (off : Nat) (bytes : List Byte) : State → Host.Outcome State Fault Refusal := run (fun s => s.slotWrite off bytes)

/-! ## Page reads (R215) -/

/-- Accept the copy of a page into a read slot. -/
def State.acceptRead (s : State) (slot ppn : Nat) : CmdRes :=
  if s.underTest ppn ∨ bit (s.g K.PAGE_SLOTS_BUSY) slot then s.deny RC.busy
  else ((s.pbit K.PAGE_SLOTS_BUSY slot true).acceptOp (ppn / 64) 11 { code := 8, entry := Pg.entry (s.page ppn), gen := Pg.gen (s.page ppn), ppn := ppn, src := slot }).accept

/-- PAGE_READ by entry or by physical page. -/
def State.pageReadBody (s : State) (byEntry : Bool) (arg : Nat) : CmdRes :=
  let slot := if bit arg 62 then 9 else 8
  if byEntry then
    let e := bits arg 61 48
    let j := bits arg 13 0
    let r := s.seg e
    if !Seg.live r ∨ Seg.pages r ≤ j then s.deny RC.range
    else if bits arg 47 40 ≠ Seg.gen r then s.deny RC.stale
    else match s.ppnOf e j with
      | some p => s.acceptRead slot p
      | none => s.deny RC.range
  else s.acceptRead slot (bits arg 9 0)

/-- PAGE_READ as a command: bit 63 of the argument names the form. -/
def State.pageReadCmd (s : State) (w : Who) (arg : Nat) : CmdRes :=
  s.call w K.PAGE_READ arg 1 (fun s => s.pageReadBody (bit arg 63) arg)

/-- PAGE_READ_BY_ENTRY (R215). -/
def execPageReadByEntry (who : Who) (arg : Nat) : State → Host.Outcome State Fault Refusal :=
  run (fun s => s.command (fun s => s.pageReadCmd who (setBit (arg % 2 ^ 64) 63 true)))

/-- PAGE_READ_BY_PPN (R215). -/
def execPageReadByPpn (who : Who) (arg : Nat) : State → Host.Outcome State Fault Refusal :=
  run (fun s => s.command (fun s => s.pageReadCmd who (setBit (arg % 2 ^ 64) 63 false)))

/-! ## Errors (R250, R251) -/

/-- A read finds a correctable word (R250). -/
def State.wordCorrected (s : State) (ppn : Nat) : State :=
  let r := s.page ppn
  ((s.inc (K.BANK_CE (ppn / 64))).setPage ppn (setBits r 20 16 (min 31 (Pg.ce r + 1)))).raiseVal 67 ppn

/-- The operations on a page that goes out of use end. -/
def State.endOnPage (s : State) (ppn : Nat) : State :=
  let b := ppn / 64
  let s := ((s.unit b 8).ops.filter (fun o => o.ppn == ppn)).foldl (fun s o => s.endOp b 8 o 3) s
  let s := ((s.unit b 9).ops.filter (fun o => o.peer == some ppn)).foldl (fun s o => s.endOp b 9 o 3) s
  ((s.unit b 10).ops.filter (fun o => o.ppn == ppn && o.code == 7)).foldl (fun s o => s.endOp b 10 o 4) s

/-- A word is found uncorrectable: the page is RETIRED and what needs it is told (R251, R252). -/
def State.wordLost (s : State) (ppn : Nat) : State :=
  let s := (s.inc (K.BANK_UE (ppn / 64))).raiseVal 68 ppn
  let r := s.page ppn
  if Pg.state r = Pg.retired then s
  else
    let s := s.endOnPage ppn
    let s := match s.ringAt ppn with
      | some (q, p) => s.spoil q p.entry p.j (some p.n)
      | none => if Pg.ring r || Pg.state r = Pg.free then s
        else s.each (List.range 8) (fun s q => s.spoil q (Pg.entry r) (Pg.index r) none)
    s.retirePage ppn Pl.forErrors

/-- PAGE_READ_COMPLETE: the copy into a read slot is done; the words listed are uncorrectable (R215). Those that its grants have read were
counted there. -/
def State.pageReadDone (s : State) (slot : Nat) (bad : List Nat) : State :=
  match ((List.range 16).flatMap (fun b => (s.unit b 11).active.toList)).find? (fun o => o.code == 8 && o.src == slot) with
  | some o =>
    let bad := (bad.filter (fun w => w < 1024)).eraseDups
    let s := s.each (List.range 1024) (fun s w =>
      let v := if bad.contains w then 2 ^ 176 - 1 else (s.word o.ppn w).toNat
      s.each (List.range 24) (fun s i => s.setSlotByte (24576 * slot + 24 * w + i) (BitVec.ofNat 8 (v / 256 ^ i))))
    let s := ((s.dropOp (o.ppn / 64) 11 o).slotFreed slot).p (K.PAGE_READ + 3) bad.length
    s.each (bad.filter (o.prog ≤ ·)) (fun s _ => s.wordLost o.ppn)
  | none => s

/-- PAGE_READ_COMPLETE (R215). -/
def execPageReadComplete (slot : Nat) (bad : List Nat) : State → Host.Outcome State Fault Refusal := run (fun s => s.pageReadDone slot bad)

/-! ## Self-test (R255) -/

/-- A page that the self-test takes: FREE, or of an inactive segment and no ring slot. -/
def State.testable (s : State) (ppn : Nat) : Bool :=
  let r := s.page ppn
  !s.reserved ppn && (Pg.state r == Pg.free || (Pg.state r != Pg.retired && !Pg.ring r && !s.active (Pg.entry r)))

/-- Go to the next page that may be tested, or end with the result. -/
def State.testNext : Nat → State → State
  | 0, s => s
  | f + 1, s =>
    match s.selftest with
    | some (p :: rest, n, bad) =>
      if s.testable p then s.acceptOp (p / 64) 10 { code := 6, entry := Pg.entry (s.page p), ppn := p }
      else State.testNext f { s with selftest := some (rest, n, bad) }
    | some ([], n, bad) => ({ s with selftest := none } : State).p (K.MEM_SELFTEST + 3) (n * 2 ^ 32 + bad)
    | none => s

/-- MEM_SELFTEST of the banks of a mask. -/
def State.selftestCmd (s : State) (w : Who) (mask : Nat) : CmdRes :=
  s.call w K.MEM_SELFTEST mask 1 (fun s =>
    if s.selftest.isSome then s.deny RC.busy
    else
      let l := (List.range 1024).filter (fun p => bit (mask % 2 ^ 16) (p / 64) && s.testable p)
      (State.testNext 1025 { s with selftest := some (l, 0, 0) }).accept)

/-- MEM_SELFTEST (R255). -/
def execMemSelftest (who : Who) (mask : Nat) : State → Host.Outcome State Fault Refusal :=
  run (fun s => s.command (fun s => s.selftestCmd who mask))

/-- A march leaves no content that the manual states. -/
def State.scramble (s : State) (ppn : Nat) : State :=
  let c := s.free
  let s := s.each (List.range 1024) (fun s w => s.putWord ppn w (BitVec.ofNat 176 (Config.freeValue (c + w))))
  { s with free := c + 1024 }

/-- The frames that requester 10 takes for the 1,024 words of a page at its share of 8 a frame (R14, R19). -/
abbrev scrubFrames : Nat := 128
/-- The frames that the mover takes for a page at its share of 48 a frame (R14, R19). -/
abbrev moveFrames : Nat := 22

/-- The self-test of a page has had the cycles of its words. -/
def State.testedWhole (s : State) (ppn : Nat) : Bool :=
  (s.unit (ppn / 64) 10).active.any (fun o => o.code == 6 && o.ppn == ppn && scrubFrames ≤ s.opFrames o)

/-- SELFTEST_PAGE_DONE: the page under test returns to the pool, or is retired. -/
def State.selftestDone (s : State) (ppn : Nat) (pass : Bool) : State :=
  match s.selftest with
  | some (p :: rest, n, bad) =>
    if p = ppn ∧ s.testedWhole p then
      let s := ((s.unit (p / 64) 10).ops.filter (fun o => o.code == 6 && o.ppn == p)).foldl (fun s o => s.dropOp (p / 64) 10 o) s
      let s : State := { s with selftest := some (rest, n + 1, if pass then bad else bad + 1) }
      let wasFree := Pg.state (s.page p) = Pg.free
      let s := if wasFree then s.scramble p else s
      let s := if pass then s else if wasFree then s.retirePage p Pl.forSelftest else s.wordLost p
      State.testNext 1025 (s.checkEnds (p / 64))
    else s
  | _ => s

/-- SELFTEST_PAGE_DONE (R255). -/
def execSelftestPageDone (ppn : Nat) (pass : Bool) : State → Host.Outcome State Fault Refusal := run (fun s => s.selftestDone ppn pass)

/-! ## The mover (R222, R223) -/

/-- A move is one the engine makes (R222). -/
def State.mayMove (s : State) (src dst : Nat) (why : MoveReason) : Bool :=
  let r := s.page src
  let q := Pg.sq r
  let a := src / 64
  let b := dst / 64
  let good := Pg.state r == Pg.empty || Pg.state r == Pg.valid || Pg.state r == Pg.failed
  good && !Pg.ring r && !s.active (Pg.entry r) && src != dst && dst < 1024 && (s.freePages b).contains dst &&
  (s.inSet q b || s.bankLoad b + s.wordLoad q ≤ 256) && s.pinAllows q b &&
  !((s.unit a 8).ops.any (fun o => o.ppn == src)) && !((s.unit 0 9).ops.any (fun o => o.peer == some src)) &&
  (match why with
   | .errors => s.g K.PAGE_CE_LIMIT ≤ Pg.ce r
   | .pin => !s.pinAllows q a
   | .balance => a != b && s.inSet q b && (s.pages.filter (fun p => p.1 / 64 == a && Pg.sq p.2 == q && Pg.state p.2 != Pg.retired)).length ≤ 4)

/-- PAGE_MOVE_START (R222): one move runs at a time, at most one is held, further ones wait (R276, R277). -/
def State.moveStart (s : State) (src dst : Nat) (why : MoveReason) : State :=
  let code := if why = .errors then 4 else 5
  if s.mayMove src dst why then
    let r := s.page src
    s.acceptOp 0 9 { code := code, entry := Pg.entry r, gen := Pg.gen r, ppn := dst, peer := some src, src := (match why with | .errors => Pl.forErrors | .pin => Pl.forPin | .balance => Pl.forBalance) }
  else s

/-- PAGE_MOVE_START (R222). -/
def execPageMoveStart (src dst : Nat) (why : MoveReason) : State → Host.Outcome State Fault Refusal := run (fun s => s.moveStart src dst why)

/-- A move is discarded where a condition of R223 holds, and the next one begins. -/
def State.moveEnds (s : State) : State := State.endDead 0 9 (s.unit 0 9).ops.length s

/-- The copy of the mover is whole. -/
def State.moveWhole (s : State) (o : XOp) : State := ({ s with moveDone := true } : State).setActive 0 9 { o with prog := 1023 }

/-- PAGE_MOVE_COMPLETE (R223): the copy is whole, once its share of cycles has carried its words, or is discarded. -/
def State.moveComplete (s : State) : State :=
  match (s.unit 0 9).active with
  | some o =>
    if s.opDead o then s.moveEnds
    else if moveFrames ≤ s.opFrames o then s.moveWhole o else s
  | none => s

/-- PAGE_MOVE_COMPLETE (R223). -/
def execPageMoveComplete : State → Host.Outcome State Fault Refusal := run State.moveComplete

/-- At the next boundary the page map points to the destination (R223). -/
def State.moveEffect (s : State) : State :=
  if !s.moveDone then s
  else
    let s : State := { s with moveDone := false }
    match (s.unit 0 9).active with
    | some o =>
      if s.opDead o then s.moveEnds
      else match o.peer with
        | some src =>
          let r := s.page src
          let q := Pg.sq r
          let s := s.each (List.range 1024) (fun s w =>
            match Sp.find s.vmem (1024 * src + w) with
            | some v => s.putWord o.ppn w v
            | none => s.putWord o.ppn w (s.word src w))
          let s := s.dropOp 0 9 o
          let s := s.setPage o.ppn (setBits r 20 16 0)
          let s := s.setPage src (if o.code = 4 then Pg.retired * 2 ^ 61 else 0)
          let s := (s.plLog Pl.move o.src (Pg.entry r) (some src) (some o.ppn) q).inc K.PL_MOVES
          let s := if o.code = 4 then (s.plLog Pl.retire Pl.forErrors (Pg.entry r) (some src) none q).raiseVal 69 src else s
          let s := if s.inSet q (o.ppn / 64) then s else s.addBank q (o.ppn / 64) o.src
          (s.dropBanks q [src / 64] o.src).moveEnds
        | none => s
    | none => s

/-! ## Scrubbing (R253) -/

/-- The page the scrubber of a bank takes after one: the next in ascending order that is neither FREE nor RETIRED, wrapping. -/
def State.scrubNext (s : State) (b : Nat) : Option Nat :=
  let last := Sp.get (fun _ => 63) s.scrubAt b
  ((List.range 64).map (fun i => b * 64 + (last + 1 + i) % 64)).find? (fun p => Pg.state (s.page p) != Pg.free && Pg.state (s.page p) != Pg.retired)

/-- A ring slot is free (R234): its page has been fetched or released, and no replay source holds it. -/
def State.slotFree (s : State) (q slot : Nat) : Bool :=
  ((s.ring q).pages.filter (fun p => p.slot == slot)).all (fun p => p.used && !s.ringHeld q p)

/-- The ring slots at the limit of corrected errors are retired where they are free (R253). -/
def State.retireWorn (s : State) (q : Nat) : State :=
  s.each (((s.ringPages q).filter (fun p => s.g K.PAGE_CE_LIMIT ≤ Pg.ce p.2 && s.slotFree q (Pg.index p.2))).map (·.1))
    (fun s n => s.retirePage n Pl.forErrors)

/-- SCRUB_PAGE_DONE: the page is done at the earliest when the scrubber's share has read its words, a free ring slot at the limit is retired, and the sweep of its bank may be complete. -/
def State.scrubDone (s : State) (ppn : Nat) : State :=
  let b := ppn / 64
  if s.scrubNext b = some ppn ∧ Sp.get (fun _ => 0) s.scrubTick b + scrubFrames ≤ s.tick then
    let s := ((s.unit b 10).ops.filter (fun o => o.code == 7 && o.ppn == ppn)).foldl (fun s o => s.dropOp b 10 o) s
    let s : State := { s with scrubAt := Sp.set (fun _ => 63) s.scrubAt b (ppn % 64), scrubTick := Sp.set (fun _ => 0) s.scrubTick b s.tick }
    let s := if (List.range 64).any (fun i => ppn % 64 < i && Pg.state (s.page (b * 64 + i)) != Pg.free && Pg.state (s.page (b * 64 + i)) != Pg.retired)
      then s else s.inc (K.SCRUB_SWEEPS b)
    let r := s.page ppn
    if Pg.ring r then s.retireWorn (Pg.sq r) else s
  else s

/-- At a frame boundary: a bank without a page to scrub, and one whose self-test takes the scrubber's cycles, put its next page off. -/
def State.scrubFrame (s : State) : State :=
  s.each (List.range 16) (fun s b =>
    if (s.scrubNext b).isNone then { s with scrubTick := Sp.set (fun _ => 0) s.scrubTick b s.tick }
    else if (s.unit b 10).active.any (fun o => o.code == 6) then
      { s with scrubTick := Sp.set (fun _ => 0) s.scrubTick b (Sp.get (fun _ => 0) s.scrubTick b + 1) }
    else s)

/-- SCRUB_PAGE_DONE (R253). -/
def execScrubPageDone (ppn : Nat) : State → Host.Outcome State Fault Refusal := run (fun s => if ppn < 1024 then s.scrubDone ppn else s)

/-! ## Page transfers (R232, R234, R239 to R246) -/

/-- The host address of a transfer at a window and an offset (R240). -/
def State.translate (s : State) (w o : Nat) : Option Nat :=
  let t := s.window w
  if t.2.2 && o + 24576 ≤ t.2.1 then some (t.1 + o) else none

/-- A page is no longer valid, in a state: a resident entry that loses it is LOADING again (R216). -/
def State.pageGone (s : State) (ppn st : Nat) : State :=
  let r := s.page ppn
  let s := s.setPageState ppn st
  if Pg.ring r then s else s.setLoading (Pg.entry r)

/-- A page fails for good (R243, R244). -/
def State.pageFails (s : State) (ppn src : Nat) : State :=
  (((s.pageGone ppn Pg.failed).inc K.DMA_FAILED).raiseVal src ppn).setRetry ppn (some (s.tick + 1250))

/-- Begin a transfer into a page, translated once; a transfer that does not translate fails it with no retry (R240, R243). -/
def State.beginXfer (s : State) (load : Option (Nat × Nat)) (e gen n ppn w o : Nat) : State :=
  match s.translate w o with
  | none =>
    let s := (s.inc K.DMA_XLATE_MISS).pageFails ppn 66
    match load with
    | some (q, tag) => s.descDone q tag 2 RC.source 1 s.fn
    | none => s
  | some addr =>
    let s : State := { s with xfers := s.xfers ++ [{ load := load, tag := 0, entry := e, gen := gen, page := n, ppn := ppn, addr := addr, start := s.fn }] }
    s.acceptOp (ppn / 64) 8 { code := if load.isSome then 2 else 1, entry := e, gen := gen, ppn := ppn }

/-- Where the image of a stream page lies: window and offset (R232). -/
def State.streamSource (s : State) (e n j : Nat) : Nat × Nat :=
  let r := s.g (atRow K.SEG_SOURCE e)
  (bits r 63 52, bits r 51 24 * 4096 + 24576 * (if bits r 23 8 = 0 then j else n % bits r 23 8))

/-- The host has made a stream page available. -/
def State.produced (s : State) (e n : Nat) : Bool :=
  bits (s.g (atRow K.SEG_SOURCE e)) 23 8 == 0 || n < s.g (atRow K.SEG_PRODUCED e)

/-- The stream pages still to be fetched, in play order: those of the line from the fetch pointer on, then the predicted path. -/
def State.toFill (s : State) (q : Nat) : List (Nat × Nat × Nat × Nat) :=
  let h := s.sq q
  let begun := match h.ahead with
    | it :: _ => if it.kind = 0 ∧ it.state = 2 ∧ s.streamed it.entry then h.fIdx / (1024 * Seg.perWord (Seg.fmt (s.seg it.entry))) else 0
    | [] => 0
  ((s.pathPages (h.ahead.filter (fun it => it.state == 2))).drop begun) ++ s.pathPages (s.streams q)

/-- What refill does next. -/
inductive Refill where
  /-- Nothing is left, a page stands in the way, or no slot is free. -/
  | idle
  /-- It waits for SEG_PRODUCED (R238). -/
  | waits
  /-- A page held by its slot is read again, or a new page takes the next slot. -/
  | again (q : Nat) (p : RingPage) (ppn : Nat)
  | take (q slot ppn e gen n j : Nat)
deriving DecidableEq, Repr

/-- The next page of the predicted path to fill (R234). -/
def State.refillNext (s : State) (q : Nat) : List (Nat × Nat × Nat × Nat) → Refill
  | [] => .idle
  | (e, gen, n, j) :: rest =>
    match s.streamPage q e gen n with
    | some (p, ppn) =>
      let st := Pg.state (s.page ppn)
      if (s.unit (ppn / 64) 8).ops.any (fun o => o.ppn == ppn) || st == Pg.valid then s.refillNext q rest
      else if st == Pg.failed || p.retry.any (fun t => s.tick < t) then .idle
      else .again q p ppn
    | none =>
      let r := s.ring q
      if !s.produced e n then .waits
      else match s.ringPpn q r.next with
        | some ppn =>
          if r.next < s.g (K.RING_PAGES q) && s.slotFree q r.next
          then .take q r.next ppn e gen n j else .idle
        | none => .idle

/-- Refill begins a page. -/
def State.refillPage (s : State) (f : Refill) : State :=
  match f with
  | .again _ p ppn =>
    let o := s.streamSource p.entry p.n p.j
    (s.setRetry ppn none).beginXfer none p.entry p.gen p.n ppn o.1 o.2
  | .take q slot ppn e gen n j =>
    let r := s.ring q
    let s := s.endEarlier ppn
    let s := s.setRing q { pages := r.pages.filter (fun p => p.slot != slot) ++ [{ slot := slot, entry := e, gen := gen, n := n, j := j }], next := (slot + 1) % max 1 (s.g (K.RING_PAGES q)) }
    let s := s.setPage ppn (setBits (setBits (setBits (s.page ppn) 63 61 Pg.empty) 60 47 e) 46 39 gen)
    let o := s.streamSource e n j
    s.beginXfer none e gen n ppn o.1 o.2
  | _ => s

/-- REFILL_START (R234). -/
def execRefillStart (q : Nat) : State → Host.Outcome State Fault Refusal :=
  run (fun s =>
    if q < 8 ∧ s.g (K.SQ_STATE q) ≠ 0 then
      let s := s.retireWorn q
      s.refillPage (s.refillNext q (s.toFill q))
    else s)

/-- REFILL_RETRY_EXPIRY (R245): a FAILED stream page on the predicted path is attempted again. -/
def State.refillRetry (s : State) (ppn : Nat) : State :=
  match s.ringAt ppn with
  | some (q, p) =>
    if Pg.state (s.page ppn) = Pg.failed ∧ p.retry.any (fun t => t ≤ s.tick) ∧ (s.toFill q).any (fun w => w.1 == p.entry && w.2.1 == p.gen && w.2.2.1 == p.n)
    then (s.setPageState ppn Pg.empty).refillPage (.again q p ppn) else s
  | none => s

/-- REFILL_RETRY_EXPIRY (R245). -/
def execRefillRetryExpiry (ppn : Nat) : State → Host.Outcome State Fault Refusal := run (fun s => s.refillRetry ppn)

/-- A commit has changed the window table, or the source of an entry: its FAILED pages are tried at the first frame after (R245). -/
def State.retrySoon (s : State) (all : Bool) (es : List Nat) : State :=
  s.each ((s.pages.filter (fun p => Pg.ring p.2 && Pg.state p.2 == Pg.failed)).map (·.1)) (fun s ppn =>
    match s.ringAt ppn with
    | some (_, p) => if all || es.contains p.entry then s.setRetry ppn (some (min (p.retry.getD s.tick) (s.tick + 1))) else s
    | none => s)

/-- An attempt of a transfer is abandoned: retried from byte 0, or the page is FAILED (R243, R244). -/
def State.attemptFails (s : State) (x : Xfer) (timedOut : Bool) : State :=
  let s : State := if timedOut then { s with lateTags := s.lateTags ++ [(x.tag, s.tick + s.retireFrames)] } else s
  if s.g K.DMA_RETRY_LIMIT ≤ x.fails then
    let s := ((s.unit (x.ppn / 64) 8).ops.filter (fun o => o.ppn == x.ppn && o.code != 3)).foldl (fun s o => s.dropOp (x.ppn / 64) 8 o) s
    let s := (s.dropXfer x.ppn).pageFails x.ppn 65
    match x.load with
    | some (q, tag) => s.descDone q tag 2 RC.source 2 s.fn
    | none => s
  else
    let s := (s.inc K.DMA_RETRIES).raiseVal 64 x.ppn
    let s := s.pageGone x.ppn Pg.empty
    let u := s.unit (x.ppn / 64) 8
    let f := fun (o : XOp) => if o.ppn = x.ppn ∧ o.code ≠ 3 then { o with prog := 0 } else o
    let s := s.setUnit (x.ppn / 64) 8 { active := u.active.map f, held := u.held.map f, wait := u.wait.map f }
    let x := { x with fails := x.fails + 1, data := [], full := false }
    match s.freeTag with
    | some tag => (s.setXfer { x with tag := tag }).emitReads tag x.addr
    | none => s.setXfer { x with asked := false }

/-- DMA_COMPLETION (R243, R246): the bytes of a page image, in order (R136). -/
def State.dmaArrives (s : State) (tag : Nat) (st : CplStatus) (data : List Byte) (last : Bool) : State :=
  match s.xfers.find? (fun x => x.asked && x.tag == tag && !x.full) with
  | none => s.inc K.DMA_LATE
  | some x =>
    match st with
    | .good =>
      let d := (x.data ++ data).take 24576
      s.setXfer { x with data := d, full := last && d.length == 24576 }
    | .poisoned => (s.inc K.DMA_POISONED).attemptFails x false
    | _ => (s.inc K.DMA_BAD_STATUS).attemptFails x false

/-- DMA_COMPLETION (R243). -/
def execDmaCompletion (tag : Nat) (st : CplStatus) (data : List Byte) (last : Bool) : State → Host.Outcome State Fault Refusal :=
  run (fun s => s.dmaArrives tag st data last)

/-- DMA_COMPLETION_TIMEOUT (R243). -/
def execDmaCompletionTimeout (tag : Nat) : State → Host.Outcome State Fault Refusal :=
  run (fun s => match s.xfers.find? (fun x => x.asked && x.tag == tag && !x.full) with
    | some x => (s.inc K.DMA_TIMEOUTS).attemptFails x true
    | none => s)

/-- A load descriptor's page write (R212, R616). -/
def State.loadPage (s : State) (q tag w o e gen n : Nat) : State :=
  match s.pageCheck e gen n, s.pageTarget e n with
  | 0, some ppn => (s.endEarlier ppn).beginXfer (some (q, tag)) e gen n ppn w o
  | c, _ => (s.pageRefused c).descDone q tag 2 (if c = 0 then RC.range else c) 0 s.fn

/-- SEG_PRODUCED_WRITE (R232), a write of a row of an RWI table: privilege OPERATE. -/
def execSegProducedWrite (who : Who) (e v : Nat) : State → Host.Outcome State Fault Refusal :=
  run (fun s => s.command (fun s =>
    if s.bootRom then s.deny RC.noObject
    else if s.privOf who < 1 then s.deny RC.privilege
    else if 16384 ≤ e then s.deny RC.range
    else (s.p (atRow K.SEG_PRODUCED e) (v % 2 ^ 64)).done))

/-! ## At a frame boundary -/

/-- The residency that a changed RES_PIN asks for is decided once its entry is inactive (R219). -/
def State.residencyFrame (s : State) : State :=
  s.each (s.resDue.filter (fun e => !s.active e)) (fun s e =>
    let t : State := { s with resDue := s.resDue.erase e }
    if !Seg.live (s.seg e) || Seg.kind (s.seg e) != 1 then t
    else if s.wantsStream e then (if s.streamed e then t else t.placeStream e Pl.forPin)
    else if s.residency e = 1 then t
    else match t.placePreferred e Pl.forPin with
      | .ok t => t
      | .error _ => s)

/-- EV070 for a sequencer short of its watermark whose refill waits for SEG_PRODUCED (R238), in the frame that ends. -/
def State.starved (s : State) : State :=
  s.each ((List.range 8).filter (fun q => s.g (K.SQ_STATE q) != 0)) (fun s q =>
    match (((s.sq q).line.drop (b2n (s.plays q))).filter (fun it => it.kind == 0 && it.state == 2) ++ s.streams q).find? (fun it => s.streamed it.entry) with
    | some it =>
      if s.ringValid q < max (Seg.pages (s.seg it.entry)) (s.g (K.RING_WATERMARK q)) ∧ s.refillNext q (s.toFill q) = .waits
      then (s.inc (K.RING_STARVED q)).raiseVal 70 q else s
    | none => s)

end Sys2Proof.Machine
end

