-- ==== Sys2Proof/Machine/Arbiter.lean ====
section
/-! DEFINITION. Memory arbitration: the decision of a core cycle, what a grant does, and the arbiters' objects (R257 to R274, R282 to
R287). -/

namespace Sys2Proof.Machine

def State.arbOf (s : State) (b : Nat) : ArbHid := Sp.get (fun _ => {}) s.arb b
def State.setArb (s : State) (b : Nat) (h : ArbHid) : State := { s with arb := Sp.set (fun _ => {}) s.arb b h }

/-- Shares per bank and frame of requesters 8 to 11 (R14, R257). -/
def arbShare (r : Nat) : Nat := if r = 8 then 128 else if r = 9 then 48 else if r = 10 then 8 else 32

/-- A requester counts its grants of the frame. -/
def ArbHid.granted (h : ArbHid) (r : Nat) : Nat := Sp.get (fun _ => 0) h.grants r

/-- The next word to fetch that lies in a bank and has not been read, as far ahead as the FIFO has room: iteration, word, physical page,
start time of its first vector to be played (R186, R258, R259). -/
def State.wordFrom (s : State) (q b : Nat) : Nat → List Iter → Nat → Nat → Option (Nat × Nat × Nat × Nat)
  | 0, _, _, _ => none
  | _, [], _, _ => none
  | f + 1, it :: rest, i, t =>
    if it.len ≤ i then s.wordFrom q b f rest 0 t
    else match s.vecPeriod q it i t with
      | none => none
      | some p =>
        let h := s.sq q
        let v := Seg.perWord (Seg.fmt (s.seg it.entry))
        let starts := it.kind == 0 && (i % v == 0 || (it.id == h.fIter && i == h.fIdx)) && !h.got.contains (it.id, i / v)
        match (if starts then (s.iterPpn q it (i / v / 1024)).filter (fun n => n / 64 == b) else none) with
        | some n => some (it.id, i / v, n, t)
        | none => s.wordFrom q b f (it :: rest) (i + 1) (t + p)

/-- The word that a prefetch request of a sequencer at a bank is for. -/
def State.wordAt (s : State) (q b : Nat) : Option (Nat × Nat × Nat × Nat) :=
  let h := s.sq q
  s.wordFrom q b (4096 - h.fifo.length + h.ahead.length) h.ahead h.fIdx h.tNext

/-- A request is entitled (R259): a prefetch of a due word, one whose first vector starts in frame F + 2 + L or earlier; any other request
within its share. Where the line shows no such word, the request says whether it is due. -/
def State.entitled (s : State) (b : Nat) (q : BankReq) : Bool :=
  if q.requester < 8 then
    (match s.wordAt q.requester b with
     | some w => w.2.2.2 < s.sqLimit q.requester
     | none => q.due)
  else (s.arbOf b).granted q.requester < arbShare q.requester

/-- The requests present: one for each requester, without what a capped requester may not make (R15, R259). -/
def State.present (s : State) (b : Nat) (reqs : List BankReq) : List BankReq :=
  (((List.range 12).filterMap (fun r => reqs.find? (fun q => q.requester == r)))).filter (fun q =>
    !((q.requester == 9 || q.requester == 10) && !s.entitled b q))

/-- The entitled and the surplus requests of a cycle; a surplus request of refill DMA or the readback port takes part only while no
prefetch request is present at the bank (R16, R260). -/
def State.arbE (s : State) (b : Nat) (l : List BankReq) : List Nat := (l.filter (s.entitled b)).map (·.requester)
def State.arbS (s : State) (b : Nat) (l : List BankReq) : List Nat :=
  (l.filter (fun q => !s.entitled b q && (q.requester < 8 || !l.any (fun p => p.requester < 8)))).map (·.requester)

def State.cnt (s : State) (b r : Nat) : Nat := s.g (K.ARB_WAIT b r)

/-- Requester a goes before requester c outside a forced win (R264). -/
def State.before (s : State) (b a c : Nat) : Bool :=
  let ua := s.g (K.ARB_URG a); let uc := s.g (K.ARB_URG c)
  let pa := s.g (K.ARB_PRIO a); let pc := s.g (K.ARB_PRIO c)
  let na := s.cnt b a; let nc := s.cnt b c
  uc < ua || (ua == uc && (pc < pa || (pa == pc && (nc < na || (na == nc && a < c)))))

/-- The first of a list under the order. -/
def State.firstOf (s : State) (b : Nat) (l : List Nat) : Option Nat :=
  l.foldl (fun best r => match best with | none => some r | some a => if s.before b r a then some r else some a) none

/-- The forced winner: highest counter, then lowest requester. -/
def State.forcedOf (s : State) (b : Nat) (l : List Nat) : Option Nat :=
  (l.filter (fun r => s.g (K.ARB_LIMIT r) ≤ s.cnt b r)).foldl (fun best r => match best with
    | none => some r
    | some a => if s.cnt b a < s.cnt b r ∨ (s.cnt b a = s.cnt b r ∧ r < a) then some r else some a) none

/-- The slot length of refresh (R262). -/
def State.refreshSlot (s : State) (b : Nat) : Nat := if s.g (K.REFRESH_ROWS b) = 16 then 32 else 64

/-- What a cycle decides (R264). -/
inductive Decision where
  | requester (r : Nat) (forced : Bool)
  | refresh (steal : Bool)
  | none
deriving DecidableEq, Repr

/-- The decision of the present cycle of a bank. -/
def State.arbDecide (s : State) (b : Nat) (reqs : List BankReq) : Decision :=
  let l := s.present b reqs
  let e := s.arbE b l
  let u := s.arbS b l
  let h := s.arbOf b
  let steal := !h.row && h.cycle % s.refreshSlot b + 1 == s.refreshSlot b && !(e.isEmpty && u.isEmpty)
  if steal then .refresh true
  else match s.forcedOf b e with
    | some r => .requester r true
    | none =>
      match s.firstOf b e with
      | some r => .requester r false
      | none =>
        match s.firstOf b u with
        | some r => .requester r false
        | none => if h.row then .none else .refresh false

/-- The forecast of a loser, with the counters as the cycle leaves them (R270). -/
def State.arbForecast (s : State) (b r : Nat) (entitled first : Bool) : Nat × Nat :=
  let gap := s.g (K.ARB_LIMIT r) - s.cnt b r
  let x := gap + 11
  let bound := if entitled then min 63 (x + ceilDiv x 31) else 63
  let a := ((List.range 12).filter (fun o => o != r && decide (s.g (K.ARB_LIMIT o) ≤ s.cnt b o))).length
  (bound, min bound (a + if first then 0 else gap))

/-- What a read finds (R250, R251). -/
def State.readFinds (s : State) (ppn : Nat) (e : ReadEcc) : State :=
  match e with
  | .clean => s
  | .corrected => s.wordCorrected ppn
  | .uncorrectable => s.wordLost ppn

/-- The word of the next vector to fetch: iteration, word, vectors left in it. -/
def State.nextWord (s : State) (q : Nat) : Option (Nat × Nat × Nat) :=
  let h := s.sq q
  let at_ := fun (it : Iter) (i : Nat) =>
    let v := Seg.perWord (Seg.fmt (s.seg it.entry))
    (it.id, i / v, min (v - i % v) (it.len - i))
  match h.ahead with
  | it :: rest => if h.fIdx < it.len then some (at_ it h.fIdx) else rest.head?.map (fun nx => at_ nx 0)
  | [] => none

/-- The vectors of the words that have been read enter the FIFO in play order. -/
def State.takeWords (q : Nat) : Nat → State → State
  | 0, s => s
  | f + 1, s =>
    match s.nextWord q with
    | some (id, w, n) =>
      let h := s.sq q
      if h.got.contains (id, w) then
        State.takeWords q f ((s.setSq q { h with got := h.got.erase (id, w) }).each (List.range n) (fun s _ => (s.fetchOne q).getD s))
      else s
    | none => s

/-- Words read ahead that the fetch pointer has passed are forgotten. -/
def SqHid.keepGot (h : SqHid) (perWord : Nat → Nat) : List (Nat × Nat) :=
  h.got.filter (fun g => h.ahead.any (fun it => it.id == g.1 && (it.id != h.fIter || h.fIdx < (g.2 + 1) * perWord it.entry)))

/-- A prefetch grant reads a word of the bank (R186, R258). -/
def State.grantPrefetch (s : State) (b q : Nat) (e : ReadEcc) : State :=
  match s.wordAt q b with
  | some (id, w, n, _) =>
    if e = .uncorrectable then s.wordLost n
    else
      let s := s.readFinds n e
      let h := s.sq q
      let got := h.keepGot (fun x => Seg.perWord (Seg.fmt (s.seg x))) ++ [(id, w)]
      State.takeWords q got.length (s.setSq q { h with got := got })
  | none => s

/-- A grant of the mover: the read of a word in the source bank, then the write of the same word in the destination bank (R276). -/
def State.grantMove (s : State) (b : Nat) (o : XOp) (e : ReadEcc) : State :=
  let src := o.peer.getD 0
  if !o.half then (if src / 64 = b then (s.setActive b 9 { o with half := true }).readFinds src e else s)
  else if o.ppn / 64 = b then
    let s := s.putWord o.ppn o.prog (s.word src o.prog)
    if o.prog = 1023 then s.moveWhole { o with half := false } else s.setActive b 9 { o with half := false, prog := o.prog + 1 }
  else s

/-- A grant of the scrubber reads a word, or rewrites the one it has corrected, from the same share (R253). -/
def State.grantScrub (s : State) (b : Nat) (o : XOp) (e : ReadEcc) : State :=
  let on := { o with half := false, prog := min 1023 (o.prog + 1) }
  if o.half then s.setActive b 10 on
  else if e = .corrected ∧ o.code = 7 then (s.setActive b 10 { o with half := true }).readFinds o.ppn e
  else (s.setActive b 10 on).readFinds o.ppn e

/-- A grant of a page operation moves one word (R258, R278). -/
def State.grantOp (s : State) (b r : Nat) (e : ReadEcc) : State :=
  match (s.unit b r).active with
  | none =>
    if r = 10 then
      match s.scrubNext b with
      | some p => s.grantScrub b { code := 7, entry := Pg.entry (s.page p), gen := Pg.gen (s.page p), ppn := p, since := s.tick } e
      | none => s
    else s
  | some o =>
    if r = 8 then
      match s.opWord o o.prog with
      | some v =>
        let s := if o.prog = 0 ∨ Pg.state (s.page o.ppn) ≠ Pg.filling then s.beginFill o else s
        let s := if o.code = 3 ∧ 8 ≤ o.src then s else s.putWord o.ppn o.prog v
        if o.prog = 1023 then s.finishWrite o else s.setActive b r { o with prog := o.prog + 1 }
      | none => s
    else if r = 9 then s.grantMove b o e
    else if r = 10 then s.grantScrub b o e
    else (s.setActive b r { o with prog := min 1023 (o.prog + 1) }).readFinds o.ppn e

/-- BANK_ARBITRATION: one core cycle of a bank (R262 to R272). -/
def State.arbCycle (s : State) (b : Nat) (reqs : List BankReq) : State :=
  let h := s.arbOf b
  if 512 ≤ h.cycle then s
  else
    let l := s.present b reqs
    let e := s.arbE b l
    let u := s.arbS b l
    let d := s.arbDecide b reqs
    let win : Option Nat := match d with | .requester r _ => some r | _ => none
    let slotEnds := h.cycle % s.refreshSlot b + 1 = s.refreshSlot b
    let refreshed := match d with | .refresh _ => true | _ => h.row
    let surplus := match win with | some r => u.contains r | none => false
    let dueWin := match win with | some r => r < 8 && e.contains r | none => false
    let h' : ArbHid := {
      cycle := h.cycle + 1
      row := if slotEnds then false else refreshed
      refresh := (match d with | .refresh _ => h.refresh + 1 | _ => h.refresh)
      idle := (match d with | .none => h.idle + 1 | _ => h.idle)
      lastDue := if dueWin then some h.cycle else h.lastDue
      grants := (match win with | some r => Sp.set (fun _ => 0) h.grants r (h.granted r + 1) | none => h.grants)
      surplus := (match win with | some r => if surplus then Sp.set (fun _ => 0) h.surplus r (Sp.get (fun _ => 0) h.surplus r + 1) else h.surplus | none => h.surplus) }
    let s := s.setArb b h'
    let s := s.each (e ++ u) (fun s r =>
      let c := if win = some r then 0 else min (s.cnt b r + 1) 1023
      (s.p (K.ARB_WAIT b r) c).p (K.ARB_PEAK_WAIT b r) (max c (s.g (K.ARB_PEAK_WAIT b r))))
    let s := match d with
      | .requester r true => (s.inc (K.ARB_FORCED b r)).raiseBits 72 (2 ^ b)
      | .refresh true => (s.inc (K.ARB_STEALS b)).raiseBits 74 (2 ^ b)
      | _ => s
    let order := s.firstOf b (e ++ u)
    let losers := (l.map (·.requester)).filter (fun r => win != some r)
    let s := s.each losers (fun s r =>
      let f := s.arbForecast b r (e.contains r) (order == some r)
      (s.p (K.ARB_FORECAST b r) (f.1 * 64 + f.2)).emit (.forecast b r f.1 f.2))
    match d with
    | .refresh _ => s.emit (.grant b 12)
    | .none => s.emit (.grant b 13)
    | .requester r _ =>
      let s := s.emit (.grant b r)
      match l.find? (fun q => q.requester == r) with
      | some q =>
        if q.withdrawn then ((s.inc (K.ARB_DEAD b)).raiseBits 73 (2 ^ b)).checkEnds b
        else (if r < 8 then s.grantPrefetch b r q.ecc else s.grantOp b r q.ecc).checkEnds b
      | none => s

/-- BANK_ARBITRATION (R264). -/
def execBankArbitration (b : Nat) (reqs : List BankReq) : State → Host.Outcome State Fault Refusal :=
  run (fun s => if b < 16 then s.arbCycle b reqs else s)

/-- The shadow set equals the set in use or not (ARB_SHADOW_DIRTY). -/
def State.shadowDirty (s : State) : State :=
  s.p K.ARB_SHADOW_DIRTY (b2n ((List.range 12).any (fun r =>
    s.g (K.ARB_PRIO_SH r) != s.g (K.ARB_PRIO r) || s.g (K.ARB_LIMIT_SH r) != s.g (K.ARB_LIMIT r))))

/-- ARB_COMMIT: the shadow set comes into use (R266). -/
def State.arbCommitCmd (s : State) (w : Who) (arg : Nat) : CmdRes :=
  s.call w K.ARB_COMMIT arg 1 (fun s =>
    let s := s.each (List.range 12) (fun s r => (s.p (K.ARB_PRIO r) (s.g (K.ARB_PRIO_SH r))).p (K.ARB_LIMIT r) (s.g (K.ARB_LIMIT_SH r)))
    let s := (s.inc K.ARB_COMMITS).p K.ARB_SHADOW_DIRTY 0
    s.done (s.g K.ARB_COMMITS))

/-- ARB_COMMIT (R266). -/
def execArbCommit (who : Who) : State → Host.Outcome State Fault Refusal := run (fun s => s.command (fun s => s.arbCommitCmd who 0))

/-- A write of ARB_URG_r (R267): in all 16 arbiters at once. -/
def State.urgWrite (s : State) (r v : Nat) : CmdRes :=
  if 12 ≤ r then s.deny RC.noObject else if 1 < v then s.deny RC.range else (s.p (K.ARB_URG r) v).done

/-- ARB_URG_WRITE (R267): privilege OPERATE. -/
def execArbUrgWrite (who : Who) (r v : Nat) : State → Host.Outcome State Fault Refusal :=
  run (fun s => s.command (fun s =>
    if s.bootRom then s.deny RC.noObject else if s.privOf who < 1 then s.deny RC.privilege else s.urgWrite r v))

/-- An operation that a reset of its bank has ended: POST completes with an error in its command's record, REFILL is tried again, READ
frees its slot (R245, R282). -/
def State.opReset (s : State) (o : XOp) : State :=
  if o.code = 3 then (s.p (K.PAGE_POST + 2) RC.state).p (K.PAGE_POST + 3) 4
  else if o.code = 1 then s.setRetry o.ppn (some (s.tick + 1250))
  else if o.code = 8 then s.slotFreed o.src
  else s

/-- ARB_STATE_ERROR: the arbiter and the scheduler of a bank are reset in a cycle without a grant (R282): every counter of the frame restarts,
and active and held operations end. -/
def State.arbError (s : State) (b : Nat) : State :=
  let s := s.each (List.range 12) (fun s r => s.p (K.ARB_WAIT b r) 0)
  let h := s.arbOf b
  let s := if 512 ≤ h.cycle then s else
    s.setArb b { h with cycle := h.cycle + 1, idle := h.idle + 1, grants := [], surplus := [],
                        row := if h.cycle % s.refreshSlot b + 1 = s.refreshSlot b then false else h.row }
  let s := s.each [8, 9, 10, 11] (fun s r =>
    let u := s.unit b r
    ((u.active.toList ++ u.held.toList).filter (fun o => o.banks.contains b)).foldl (fun s o => (s.endOp b r o 4).opReset o) s)
  (s.inc (K.ARB_RESETS b)).raiseBits 78 (2 ^ b)

/-- ARB_STATE_ERROR (R282). -/
def execArbStateError (b : Nat) : State → Host.Outcome State Fault Refusal := run (fun s => if b < 16 then s.arbError b else s)

/-! ## At a frame boundary (R262, R284) -/

/-- Latch the _LAST objects of every bank, count the state errors corrected, raise EV077, start the counts of the new frame (R282, R284,
R287). -/
def State.arbLatch (s : State) : State :=
  s.each (List.range 16) (fun s b =>
    let h := s.arbOf b
    let slack := match h.lastDue with | some c => 511 - c | none => 512
    let s := s.add (K.ARB_ECC_CORRECTED b) (s.meas.eccFixed.getD b 0)
    let s := s.pAll [(K.ARB_IDLE_LAST b, h.idle), (K.ARB_REFRESH_LAST b, h.refresh), (K.ARB_SLACK_LAST b, slack)]
    let s := s.each (List.range 12) (fun s r =>
      (s.p (K.ARB_GRANTS_LAST b r) (h.granted r)).p (K.ARB_SURPLUS_LAST b r) (Sp.get (fun _ => 0) h.surplus r))
    let s := if slack < s.g K.ARB_SLACK_ALARM then s.raiseBits 77 (2 ^ b) else s
    s.setArb b {})

/-- Refresh rows of every bank, from the sensor of its place on the die (R254). -/
def State.refreshRows (s : State) : State :=
  s.each (List.range 16) (fun s b => s.p (K.REFRESH_ROWS b) (if (s.meas.temps[b / 2]?).getD 0 < 8500 then 8 else 16))

end Sys2Proof.Machine
end

