-- ==== Sys2Proof/Machine/Synth.lean ====
section
/-! DEFINITION. The Spindle, BYP, the LOSC monitor, the UT synthesizers, and the gating of clock-mode pads (R299 to R302, R326 to R361). -/

namespace Sys2Proof.Machine

/-! ## How a channel is judged (R72, R74, R97) -/

/-- The source of a channel. -/
def State.src (s : State) (c : Nat) : Nat := s.g (K.CH_SOURCE c)

/-- A CLOCK channel fed from a spread UT is of class AUX (R74). -/
def State.aux (s : State) (c : Nat) : Bool :=
  s.src c == 4 && s.g (K.CLK_SRC c) != 0 && s.g (K.UT_SSC_MODE (s.g (K.CLK_SRC c) - 1)) != 0

/-- The core feeds edges to the channel: DIRECT, TRIGGER or PATTERN. -/
def State.usesCore (s : State) (c : Nat) : Bool := s.src c == 1 || s.src c == 2 || s.src c == 3

/-- A channel is over limit (R97); AUX never is. -/
def State.overLimit (s : State) (c : Nat) : Bool :=
  !s.aux c && (s.g (K.CH_BOUND c) == unknownBound || s.g (K.CH_BOUND_LIMIT c) < s.g (K.CH_BOUND c))

/-- A channel is judged by its bound: OVER_LIMIT and GATED of CH_STATUS (R72, R98, R316). -/
def State.judge (s : State) (c : Nat) : State :=
  let shut := (s.overLimit c && s.g (K.CH_POLICY c) == 0) || s.gb (K.PAD_SHUTDOWN c)
  s.p (K.CH_STATUS c) (setBit (setBit (s.g (K.CH_STATUS c)) 1 (s.overLimit c)) 3 shut)

/-! ## Clock-mode pads -/

/-- The CLOCK channels fed from a source: 0 SPN, u + 1 for UT u. -/
def State.clockPads (s : State) (src : Nat) : List Nat :=
  instances 64 (fun c => s.g (K.CH_SOURCE c) == 4 && s.g (K.CLK_SRC c) == src)

/-! ### The clock of a pad (R300, R301, R336, R339) -/

/-- Source cycles of a period, and of its high part, in 2⁻⁴⁸ cycles (R300). -/
def Wave.span (w : Wave) : Nat := max 1 w.div * 2 ^ 48
def Wave.high (w : Wave) : Nat := (max 1 w.div + 1) / 2 * 2 ^ 48
/-- The first whole q at or after one at which the clock has come to a place in its period: 0 for a rise, the high part for a fall. -/
def Wave.next (w : Wave) (place q : Nat) : Nat :=
  q + ceilDiv ((place + w.span - (w.pos + w.rate * q) % w.span) % w.span) (max 1 w.rate)
/-- The first rising and the first falling edge at or after a time in the frame. -/
def Wave.rise (w : Wave) (q : Nat) : Nat := w.next 0 q
def Wave.fall (w : Wave) (q : Nat) : Nat := w.next w.high q
/-- The level of the clock at a time in the frame. -/
def Wave.isHigh (w : Wave) (q : Nat) : Bool := (w.pos + w.rate * q) % w.span < w.high
/-- The period and the high time in q, rounded up. -/
def Wave.period (w : Wave) : Nat := ceilDiv w.span (max 1 w.rate)
def Wave.highTime (w : Wave) : Nat := ceilDiv w.high (max 1 w.rate)
/-- The clock as the next frame begins. -/
def Wave.step (w : Wave) : Wave := { w with pos := (w.pos + w.rate * qFrame) % w.span }

/-- The count of q at the start of the frame, by boundaries from reset. -/
def State.qTick (s : State) : Nat := s.tick * qFrame
/-- The linear time of a count of q from reset that lies in this frame or a later one. -/
def State.linear (s : State) (t : Nat) : Nat := s.frameStart + (t - s.qTick)
/-- The effective polarity of a pad (R295). -/
def State.inverted (s : State) (c : Nat) : Bool := s.gb (K.PAD_INVERT c) != s.gb (K.PAD_AUTO_INVERTED c)

/-- Source cycles per q of a source, in 2⁻⁴⁸ cycles: the Spindle has one in 1,024 q (R301), a UT NINT + NFRAC / 2³² in 65,536 q (R338). -/
def State.sourceRate (s : State) (src : Nat) : Nat := if src = 0 then 2 ^ 38 else (s.ut (src - 1)).num

/-- The clock of a pad on its own source at the boundary in force: Spindle cycles from timescale zero; UT cycles from there too while
UT_PHASE_DET is 1, else from the second of the last restart (R301, R339, R340). -/
def State.ownWave (s : State) (c : Nat) : Wave :=
  let src := s.g (K.CLK_SRC c)
  let n := max 1 (s.g (K.CLK_DIV c))
  let u := src - 1
  let cycles : Nat := if src = 0 then s.fn * 8192 * 2 ^ 48
    else (if s.gb (K.UT_PHASE_DET u) then s.fn * (s.ut u).num else (s.ut u).acc) * 2 ^ 23
  let phase : Nat := s.g (K.CLK_PHASE c) * 2 ^ 48 + (if src = 0 then 0 else s.g (K.UT_PHASE u) * 2 ^ 42)
  { rate := s.sourceRate src, pos := (((cycles : Int) - phase) % (n * 2 ^ 48 : Nat)).toNat, div := n }

/-- The steering word that BYP applies: the one in force, to 10 ppb (R335). -/
def State.bypSteer (s : State) : Int := roundHalfEven (s.gi K.SPN_STEER) (10 ^ 10) * 10 ^ 10

/-- The rate of a substitute: the exact division by CLK_DIV/4 of BYP's 2.56 GHz where CLK_DIV is a multiple of 4, else any rate within
1 ppm of CLK_FREQ (R336). BYP follows its own steering word; q follows the clock that carries the core (R335). -/
def State.substRate (s : State) (c free : Nat) : Nat :=
  let src := s.g (K.CLK_SRC c)
  let r := s.sourceRate src
  let r := if s.clock = .byp then r else (((r : Int) * (10 ^ 18 + s.bypSteer)) / (10 ^ 18 + s.gi K.SPN_STEER)).toNat
  if src = 0 ∧ s.g (K.CLK_DIV c) % 4 = 0 then r else r - r / 10 ^ 6 + free % (2 * (r / 10 ^ 6) + 1)

/-- The substitute clock of a pad; its phase is open (R336). -/
def State.substWave (s : State) (c : Nat) : Wave :=
  let n := max 1 (s.g (K.CLK_DIV c))
  { rate := s.substRate c (Config.freeValue s.free), pos := Config.freeValue (s.free + 1) % (n * 2 ^ 48), div := n }

/-- The clock with which a pad would open now. -/
def State.nextWave (s : State) (c : Nat) : Wave := if s.gb (K.CLK_SUBST c) then s.substWave c else s.ownWave c

/-- The clock at its highest instantaneous frequency: a centre-spread UT goes above its own (R349, R357). -/
def State.topWave (s : State) (c : Nat) (w : Wave) : Wave :=
  let u := s.g (K.CLK_SRC c) - 1
  if s.g (K.CLK_SRC c) ≠ 0 ∧ s.g (K.UT_SSC_MODE u) = 2 then { w with rate := w.rate + w.rate * s.g (K.UT_SSC_DEPTH u) / 10000 } else w

/-! ### Gating (R348, R349) -/

/-- A gating instant of a pad, at an offset into the frame: it closes at its next falling edge and may open again from a boundary on; a
gating under way keeps its instant, and the later boundary holds (R302, R348). -/
def State.gatePad (s : State) (c openFrom off : Nat) : State :=
  let h := s.pad c
  let live := s.g (K.CLK_GATED c) == 0
  s.setPad c { h with closing := live, gateAt := if live && !h.closing then s.qTick + off else h.gateAt, openFrom := max h.openFrom openFrom }

/-- Gate every pad of a list at the boundary in force. -/
def State.gatePads (s : State) (l : List Nat) (openFrom : Nat) : State := s.each l (fun s c => s.gatePad c openFrom 0)

/-- The time of the first falling edge at or after the gating instant, and after the first rise. -/
def State.fallAt (s : State) (c : Nat) : Nat :=
  let h := s.pad c
  match h.wave with
  | some w => s.qTick + w.fall (max h.gateAt h.up - s.qTick)
  | none => s.qTick

/-- A pad that closes does so in this frame. -/
def State.fallsNow (s : State) (c : Nat) : Bool := (s.pad c).closing && s.fallAt c < s.qTick + qFrame

/-- T_s: the period of the slower of the old and the new clock; where one side is gated throughout, the other stands for both. -/
def State.slower (s : State) (c : Nat) (w : Wave) : Nat :=
  match (s.pad c).prev with
  | some p => max p.period w.period
  | none => w.period

/-- A pad that opened with a clock at the boundary in force would have no low or high pulse below T_s/2, and no cycle below the period of
the faster clock by more than 200 ppm (R349). -/
def State.spaced (s : State) (c : Nat) (w : Wave) : Bool :=
  let h := s.pad c
  let first := s.qTick + w.rise 0
  let ts := s.slower c w
  (match h.parkUp with
    | some u => decide (u + ts ≤ first)
    | none => decide (h.fell * 2 + ts ≤ first * 2)) &&
  (match h.prev with
    | some p => [p, s.topWave c w].any (fun x => 10000 * x.span ≤ 10002 * (x.rate * (first + p.highTime - h.fell)))
    | none => true)

/-- The bit of a source in the bitmap of R361. -/
def synthBit (src : Nat) : Nat := 2 ^ src

/-- A pad whose source is away takes its BYP substitute through a gating, or is gated where there is none (R336). -/
def State.takeSubst (s : State) (off c : Nat) : State :=
  let ok := s.g (K.CLK_FREQ c) ≤ 640000000000000 && s.g K.BYP_STATE == 2
  (((s.gatePad c s.tick off).p (K.CLK_SUBST c) (b2n ok))).raiseBits 27 (synthBit (s.g (K.CLK_SRC c)))

/-- The source of a pad goes away at an offset into the frame: the pad moves to its substitute (R336, R358, R359). -/
def State.toSubst (s : State) (off c : Nat) : State :=
  (if s.gb (K.CLK_SUBST c) then s else s.setPad c { s.pad c with substAt := s.tick }).takeSubst off c

/-- A free offset into a frame: the instant of an event that comes without its time. -/
def State.someOffset (s : State) : Nat × State := (s.fresh.1 % qFrame, s.fresh.2)

/-- Take a pad off its substitute: it is gated and opens on its own source (R331, R358). -/
def State.fromSubst (s : State) (c openFrom : Nat) : State :=
  if s.gb (K.CLK_SUBST c) then (s.gatePad c openFrom 0).p (K.CLK_SUBST c) 0 else s

/-- The source of a pad runs: the Spindle carries the clocks, or the UT is LOCKED or STEER. -/
def State.sourceRuns (s : State) (src : Nat) : Bool :=
  if src = 0 then s.clock == .spindle
  else s.g (K.UT_STATE (src - 1)) == 3 || s.g (K.UT_STATE (src - 1)) == 4

/-- The source of a pad is away, so that substitutes stand in for it: BYP carries the clocks (R359, R587), or the UT left its pads for
substitutes and has not returned (R345, R358). -/
def State.sourceAway (s : State) (src : Nat) : Bool := if src = 0 then s.clock == .byp else (s.ut (src - 1)).fromSub

/-- Spread is on (R357). -/
def State.spread (s : State) (u : Nat) : Bool := s.g (K.UT_SSC_MODE u) != 0

/-- The current frame boundary is one at which R340 allows a restart of a UT; to a spread one R340 does not apply (R357). -/
def State.phiHere (s : State) (u : Nat) : Bool := s.spread u || s.fn % max 1 (s.g (K.UT_PHI_FRAMES u)) == 0

/-- The current frame boundary is one at which a pad's first rising edge may come (R301, R340). -/
def State.restartHere (s : State) (c : Nat) : Bool :=
  let src := s.g (K.CLK_SRC c)
  if src = 0 then
    ((s.fn * 8192 : Int) - (s.g (K.CLK_PHASE c) : Int)) % (max 1 (s.g (K.CLK_DIV c)) : Nat) == 0
  else s.phiHere (src - 1)

/-- A gated pad may open at this boundary, its source aside (R98, R302, R315, R349, R601). -/
def State.canOpen (s : State) (c : Nat) : Bool :=
  s.gb (K.CLK_GATED c) && s.g (K.CH_SOURCE c) == 4 && s.g (K.PAD_FMT c) != 0 && !s.gb (K.PAD_SHUTDOWN c) &&
  2 ≤ s.mode && s.mode != 10 && !(s.pad c).waits && !(bit (s.g (K.CH_STATUS c)) 1 && s.g (K.CH_POLICY c) == 0) &&
  (s.pad c).openFrom ≤ s.tick && s.spaced c (s.nextWave c)

/-- A gated pad may open now (R301, R302, R339, R353, R601). -/
def State.mayOpen (s : State) (c : Nat) : Bool :=
  s.canOpen c &&
  (if s.gb (K.CLK_SUBST c) then s.g K.BYP_STATE == 2
   else s.sourceRuns (s.g (K.CLK_SRC c)) && s.restartHere c)

/-- Open a pad: its first rising edge is the first of its clock at or after the restart instant. A pad that is high falls half a T_s
before it (R348). -/
def State.openPad (s : State) (c : Nat) : State :=
  let w := s.nextWave c
  let first := s.qTick + w.rise 0
  let s := if (s.pad c).parkUp.isSome then s.emit (.clockDown c (s.frameStart + w.rise 0 - s.slower c w / 2)) else s
  let s : State := if s.gb (K.CLK_SUBST c) then { s with free := s.free + 2 } else s
  (((s.p (K.CLK_GATED c) 0).p (K.PAD_LEVEL c) 1).setPad c { s.pad c with
      carried := true, closing := false, wave := some w, up := first, parkUp := none }).emit (.clockUp c (s.linear first) w (s.inverted c))

/-- CLOCK_GATE_OPEN (R348). -/
def execClockGateOpen (c : Nat) : State → Host.Outcome State Fault Refusal :=
  run (fun s => if s.mayOpen c then s.openPad c else s)

/-- The source frequency of a pad as a ratio in µHz (R299, R338). -/
def sourceFreq (src num : Nat) : Nat × Nat :=
  if src = 0 then (10240000000000000, 1) else (160000000000000 * num, 2 ^ 32)

/-- The ratio of a UT in units of 2⁻³² (R338). -/
def State.utNum (s : State) (u : Nat) : Nat := s.g (K.UT_NINT u) * 2 ^ 32 + s.g (K.UT_NFRAC u)

/-- CLK_FREQ after a change of source, divider or synthesizer frequency: the nominal one (R299). -/
def State.setClkFreq (s : State) (c : Nat) : State :=
  let src := s.g (K.CLK_SRC c)
  let f := sourceFreq src (s.utNum (src - 1))
  let r := s.est f.1 (f.2 * max 1 (s.g (K.CLK_DIV c)))
  r.2.p (K.CLK_FREQ c) r.1.toNat

/-! ## Bands -/

/-- The frequency of a ratio, and an end of the effective range of a row, in 10⁻¹⁰ kHz times 2³² (R338, R343). -/
def scaledFreq (num : Nat) : Int := (160000 * num * 10 ^ 10 : Nat)
def scaledEnd (kHz : Nat) (tempco dT : Int) : Int := (kHz : Int) * ((10 : Int) ^ 10 + tempco * dT) * 2 ^ 32

/-- Distance of a frequency from the two ends of the effective range of a band-table row; none when the row is not valid. -/
def bandMargins (row num : Nat) (dT : Int) : Option (Int × Int) :=
  if bit row 127 then
    let tc := signed 16 (bits row 95 80)
    some (scaledFreq num - scaledEnd (bits row 63 32) tc dT, scaledEnd (bits row 31 0) tc dT - scaledFreq num)
  else none

/-- The lesser margin. -/
def lesser (m : Int × Int) : Int := min m.1 m.2

/-- A margin of p ppm of a frequency. -/
def ppmOf (num p : Nat) : Int := (160000 * num * 10 ^ 4 * p : Nat)

/-- A band-table row. -/
def State.bandRow (s : State) (u r : Nat) : Nat := s.g (atRow (K.UT_BAND_TABLE u) r)

/-- The margins of the row in force, at the present die temperature (R344, R347). -/
def State.rowMargins (s : State) (u num : Nat) : Option (Int × Int) :=
  bandMargins (s.ut u).row num (Config.dieTemp s.meas.temps - (s.ut u).tref)

/-- Die temperature less UT_BAND_TREF, in 0.01 °C. -/
def State.bandDT (s : State) (u : Nat) : Int := Config.dieTemp s.meas.temps - s.gi (K.UT_BAND_TREF u)

/-- The row a relock selects: the largest lesser margin among the valid rows that contain the frequency, lowest row on a tie. -/
def State.pickBand (s : State) (u num : Nat) : Option Nat :=
  ((List.range 128).foldl (fun (best : Option (Nat × Int)) r =>
    match bandMargins (s.bandRow u r) num (s.bandDT u) with
    | some m =>
      if lesser m < 0 then best
      else (match best with
        | some b => if b.2 < lesser m then some (r, lesser m) else best
        | none => some (r, lesser m))
    | none => best) none).map (·.1)

/-- Some valid row leaves a margin of p ppm at both ends. -/
def State.bandLeaves (s : State) (u num p : Nat) : Bool :=
  (List.range 128).any (fun r =>
    match bandMargins (s.bandRow u r) num (s.bandDT u) with
    | some m => ppmOf num p ≤ lesser m
    | none => false)

/-! ## Relock (R350) -/

/-- The least P of R340 over the enabled pads of a UT, those whose format is not DISABLED; none when it exceeds 1,250,000. -/
def State.phiFrames (s : State) (u : Nat) : Option Nat :=
  let num := s.utNum u
  let l := ((s.clockPads (u + 1)).filter (fun c => s.g (K.PAD_FMT c) != 0)).foldl (fun p c =>
    let d := 2 ^ 25 * max 1 (s.g (K.CLK_DIV c))
    Nat.lcm p (d / Nat.gcd num d)) 1
  if l ≤ 1250000 then some l else none

/-- Keep UT_PHI_FRAMES of a UT current, and UT_PHASE_DET of a LOCKED one: without a P it is 0 (R340). -/
def State.setPhi (s : State) (u : Nat) : State :=
  let s := s.p (K.UT_PHI_FRAMES u) ((s.phiFrames u).getD 1250000)
  if s.g (K.UT_STATE u) = 3 then s.p (K.UT_PHASE_DET u) (b2n ((s.ut u).det && (s.phiFrames u).isSome)) else s

/-- Step 2: the band row is selected and the VCO takes its code; without a row the UT is short of band, and its pads that run on it leave
for their substitutes (R343, R345). -/
def State.utStep2 (s : State) (u : Nat) : State :=
  let h := s.ut u
  match s.pickBand u h.num with
  | some r =>
    let s := s.p (K.UT_BAND u) r
    let f := s.est (160000000000000 * h.num : Nat) (2 ^ 32)
    let m := match bandMargins (s.bandRow u r) h.num (s.bandDT u) with
      | some m => lesser m
      | none => 0
    let s := f.2.p (K.UT_FREQ_NOW u) f.1.toNat
    let g := s.est m (160000 * h.num * 10 ^ 4)
    (g.2.p (K.UT_MARGIN_PPM u) g.1.toNat).setUt u { h with
      step := 3, lockBy := s.tick + 12500, short := false, row := s.bandRow u r, tref := s.gi (K.UT_BAND_TREF u) }
  | none =>
    let s := if h.fromSub then s else (s.clockPads (u + 1)).foldl (fun s c => s.toSubst 0 c) s
    let s := ((s.p (K.UT_STATE u) 5).p (K.UT_BAND u) 255).p (K.UT_MARGIN_PPM u) 0
    let s := if h.short && h.step == 2 then s else s.raiseBits 28 (synthBit (u + 1))
    s.setUt u { h with step := 2, short := true, fromSub := true }

/-- No pad of a UT still waits for its falling edge. -/
def State.allGated (s : State) (u : Nat) : Bool := (s.clockPads (u + 1)).all (fun c => !(s.pad c).closing)

/-- A gated relock from step 1, to a ratio (R350). -/
def State.gatedRelock (s : State) (u num : Nat) : State :=
  let s := s.setUt u { s.ut u with step := 1, num := num, steer := none, short := false, fromSub := false }
  let s := (s.p (K.UT_STATE u) 1).p (K.UT_PHASE_DET u) 0
  let s := s.each (s.clockPads (u + 1)) (fun s c => (s.gatePad c s.tick 0).p (K.CLK_SUBST c) 0)
  let s := (s.clockPads (u + 1)).foldl State.setClkFreq s
  let s := s.setPhi u
  if s.allGated u then s.utStep2 u else s

/-- A new change during a relock: its target replaces the old one, and the relock goes on from step 2, whose row may be the same, once
every pad is gated; the settle window restarts (R352). -/
def State.retarget (s : State) (u num : Nat) : State :=
  let s := (s.setUt u { s.ut u with num := num }).setPhi u
  if (s.ut u).step = 1 then s
  else (s.p (K.UT_STATE u) (if (s.ut u).fromSub then 5 else 1)).utStep2 u

/-- A pad carries no clock from a time on: it is low unless its driver is off. -/
def State.stopWave (s : State) (c t : Nat) : State :=
  let s := if s.g (K.PAD_LEVEL c) = 2 then s else s.p (K.PAD_LEVEL c) 0
  (s.p (K.CLK_GATED c) 1).setPad c { s.pad c with closing := false, prev := (s.pad c).wave, wave := none, fell := t, parkUp := none }

/-- CLOCK_GATE_CLOSE (R348): the pad stays low from its falling edge; when it was the last pad a relock waits for, step 2 of R350
follows. -/
def State.closePad (s : State) (c : Nat) : State :=
  let t := s.fallAt c
  let s := (s.stopWave c t).emit (.clockDown c (s.linear t))
  let src := s.g (K.CLK_SRC c)
  if src ≠ 0 ∧ (s.ut (src - 1)).step = 1 ∧ s.allGated (src - 1) then s.utStep2 (src - 1) else s

/-- CLOCK_GATE_CLOSE (R348). -/
def execClockGateClose (c : Nat) : State → Host.Outcome State Fault Refusal :=
  run (fun s => if s.fallsNow c then s.closePad c else s)

/-- A falling edge that the frame which ends held has closed its pad. -/
def State.closeDue (s : State) : State := s.each (instances 64 s.fallsNow) State.closePad

/-- A gated pad whose park level is HIGH rises to it at the first boundary at least T_s/2 after it fell (R348). -/
def State.parkRise (s : State) (c : Nat) : State :=
  let h := s.pad c
  if s.g (K.CH_SOURCE c) = 4 ∧ s.gb (K.CLK_GATED c) ∧ s.g (K.PAD_LEVEL c) = 0 ∧ s.g (K.PAD_PARK c) = 1 ∧ s.g (K.PAD_FMT c) ≠ 0 ∧
      h.fell * 2 + s.slower c (s.nextWave c) ≤ s.qTick * 2 then
    ((s.p (K.PAD_LEVEL c) 1).setPad c { h with parkUp := some s.qTick }).emit (.parkHigh c s.frameStart)
  else s

/-- The least and the highest instantaneous frequency of a UT's modulation, as ratios over 10,000 (R357). -/
def State.spreadEnds (s : State) (u : Nat) : Nat × Nat :=
  let d := s.g (K.UT_SSC_DEPTH u)
  if s.g (K.UT_SSC_MODE u) = 0 then (10000, 10000) else if s.g (K.UT_SSC_MODE u) = 1 then (10000 - d, 10000) else (10000 - d, 10000 + d)

/-- The rate of a UT through a frame: that of R338, steered or not; of a spread one somewhere in its modulation, whose phase is open
(R355, R357). -/
def State.frameRate (s : State) (u : Nat) : Nat × State :=
  let r := (s.ut u).num
  if s.spread u then
    let lo := r * (s.spreadEnds u).1 / 10000
    let hi := r * (s.spreadEnds u).2 / 10000
    (lo + s.fresh.1 % (hi - lo + 1), s.fresh.2)
  else (r, s)

/-- The clocks of the pads as a frame begins: the rate of their UT enters, the pads at rest rise to a HIGH park level, and those that
run carry their clock through the frame. -/
def State.waveFrame (s : State) : State :=
  s.each (instances 64 (fun c => s.g (K.CH_SOURCE c) == 4)) (fun s c =>
    match (s.pad c).wave with
    | some w =>
      let src := s.g (K.CLK_SRC c)
      let own := src != 0 && !(s.pad c).closing && !s.gb (K.CLK_SUBST c)
      let r := if own then s.frameRate (src - 1) else (w.rate, s)
      let w := { w with rate := r.1 }
      (r.2.setPad c { s.pad c with wave := some w }).emit (.clock c w (s.inverted c))
    | none => s.parkRise c)

/-- The clocks of the pads run on into the next frame. -/
def State.stepWaves (s : State) : State :=
  s.each (instances 64 (fun c => (s.pad c).wave.isSome)) (fun s c => s.setPad c { s.pad c with wave := (s.pad c).wave.map Wave.step })

/-- UT_LOCK (R351): lock is declared, SETTLE begins. -/
def State.utLocked (s : State) (u : Nat) : State :=
  ((s.p (K.UT_STATE u) 2).p (K.UT_LAST_LOCK_FN u) s.fn).setUt u
    { s.ut u with step := 4, settle := s.tick + framesOfUs (s.g (K.UT_SETTLE u)) }

/-- UT_LOCK (R351). -/
def execUtLock (u : Nat) : State → Host.Outcome State Fault Refusal :=
  run (fun s => if (s.ut u).step = 3 then s.utLocked u else s)

/-- UT_LOCK_TIMEOUT (R351): EV025, and the relock repeats from step 2. -/
def execUtLockTimeout (u : Nat) : State → Host.Outcome State Fault Refusal :=
  run (fun s =>
    if (s.ut u).step = 3 ∧ (s.ut u).lockBy ≤ s.tick then (s.raiseBits 25 (synthBit (u + 1))).utStep2 u else s)

/-- UT_SETTLE_END (R350): the UT waits for a boundary that R340 allows. -/
def execUtSettleEnd (u : Nat) : State → Host.Outcome State Fault Refusal :=
  run (fun s =>
    if (s.ut u).step = 4 ∧ (s.ut u).settle ≤ s.tick then s.setUt u { s.ut u with step := 5 } else s)

/-- A loss of lock of a running UT (R358). -/
def State.utLost (s : State) (u : Nat) : State :=
  let s := (s.raiseBits 22 (synthBit (u + 1))).inc (K.UT_UNLOCKS u)
  let o := s.someOffset
  let s := (s.clockPads (u + 1)).foldl (fun s c => s.toSubst o.1 c) o.2
  let s := (s.p (K.UT_STATE u) 5).setUt u { s.ut u with fromSub := true, steer := none, num := s.utNum u }
  s.utStep2 u

/-- UT_LOSS_OF_LOCK (R358). -/
def execUtLossOfLock (u : Nat) : State → Host.Outcome State Fault Refusal :=
  run (fun s =>
    if s.gb (K.UT_ENABLE u) ∧ 2 ≤ s.g (K.UT_STATE u) ∧ s.g (K.UT_STATE u) ≤ 4 then s.utLost u else s)

/-- Frames from now to the next boundary that R340 allows a restart of a UT. -/
def State.toRestart (s : State) (u : Nat) : Nat :=
  let p := max 1 (s.g (K.UT_PHI_FRAMES u))
  if s.spread u then 0 else (p - s.fn % p) % p

/-- Pads on substitutes whose UT waits for its restart are gated off them in time to reopen at the restart boundary (R358). -/
def State.leaveSubst (s : State) (u : Nat) : State :=
  if (s.ut u).step ≠ 5 then s
  else s.each (s.clockPads (u + 1)) (fun s c =>
    if s.toRestart u ≤ 2 + 2 * s.slower c (s.ownWave c) / qFrame then s.fromSubst c s.tick else s)

/-- Begin a hitless steer to a ratio: equal amounts per frame, at UT_STEER_RATE or less (R355). -/
def State.hitless (s : State) (u num : Nat) : State :=
  let h := s.ut u
  let d := ((num : Int) - (h.num : Int)).natAbs
  let n := max 1 (ceilDiv (d * 1250 * 1000000) (max 1 (h.num * s.g (K.UT_STEER_RATE u))))
  ((s.p (K.UT_STATE u) 4).p (K.UT_PHASE_DET u) 0).setUt u { h with steer := some (h.num, num, n, 0), det := false }

/-- The VCO cycles of the frame that ended are counted while a UT runs (R340). -/
def State.utCount (s : State) (u : Nat) : State :=
  if s.g (K.UT_STATE u) = 3 ∨ s.g (K.UT_STATE u) = 4 then s.setUt u { s.ut u with acc := (s.ut u).acc + (s.ut u).num } else s

/-- One frame of a UT: its cycles are counted, a hitless steer moves on; EV026 when it reaches its target (R355). -/
def State.utSteerStep (s : State) (u : Nat) : State :=
  let s := s.utCount u
  let h := s.ut u
  match h.steer with
  | none => s
  | some (a, b, n, i) =>
    let i := i + 1
    let f := s.est ((160000000000000 : Int) * ((a : Int) * n + ((b : Int) - a) * i)) (2 ^ 32 * max 1 n)
    let s := f.2.p (K.UT_FREQ_NOW u) f.1.toNat
    if n ≤ i then
      ((s.setUt u { h with steer := none, num := b }).p (K.UT_STATE u) 3).raiseBits 26 (synthBit (u + 1))
    else
      s.setUt u { h with steer := some (a, b, n, i), num := (((a : Int) * n + ((b : Int) - a) * i) / (max 1 n : Nat)).toNat }

/-- The margins of the row in force, once per frame; a relock goes to the frequency of R338 (R344, R345). -/
def State.utMargin (s : State) (u : Nat) : State :=
  let h := s.ut u
  if h.step = 2 then (if (s.pickBand u h.num).isSome then s.utStep2 u else s)
  else if 2 ≤ s.g (K.UT_STATE u) ∧ s.g (K.UT_STATE u) ≤ 4 then
    match s.rowMargins u h.num with
    | none => s
    | some m =>
      let g := s.est (max 0 (lesser m)) (160000 * h.num * 10 ^ 4)
      let s := g.2.p (K.UT_MARGIN_PPM u) g.1.toNat
      if lesser m < ppmOf h.num 200 then
        (if s.bandLeaves u (s.utNum u) 500 then ((s.raiseBits 24 (synthBit (u + 1))).inc (K.UT_REBANDS u)).gatedRelock u (s.utNum u)
         else if h.short then s
         else (s.raiseBits 28 (synthBit (u + 1))).setUt u { h with short := true })
      else s.setUt u { h with short := false }
  else s

/-- UT_BAND_MEASURE (R342). -/
def State.utBandMeasureBody (s : State) (u fLo fHi : Nat) : CmdRes :=
  if s.gb (K.UT_ENABLE u) then s.deny RC.state
  else (s.pi (K.UT_MEAS_TEMP u) (Config.dieTemp s.meas.temps)).done (fLo % 2 ^ 32 * 2 ^ 32 + fHi % 2 ^ 32)

def State.utBandMeasureCmd (s : State) (w : Who) (u code fLo fHi : Nat) : CmdRes :=
  s.call w (K.UT_BAND_MEASURE u) code 1 (fun s => s.utBandMeasureBody u fLo fHi)

/-- UT_BAND_MEASURE (R342). -/
def execUtBandMeasure (who : Who) (u code fLo fHi : Nat) : State → Host.Outcome State Fault Refusal :=
  run (fun s => s.command (fun s => s.utBandMeasureCmd who u code fLo fHi))

/-! ## Spindle, BYP and LOSC -/

/-- SPINDLE_LOCK (R330). A follower in LOCKING enters ALIGNING and asks for M8 (R481, R484). -/
def State.spnLocked (s : State) : State :=
  let s : State := { s.p K.SPN_STATE 2 with spnFrames := 0 }
  if s.g K.STK_STATE = 3 ∧ s.stk.onStack then (s.p K.STK_STATE 4).askFollow else s

/-- SPINDLE_LOCK (R330). -/
def execSpindleLock : State → Host.Outcome State Fault Refusal :=
  run (fun s => if s.g K.SPN_STATE = 1 ∨ s.g K.SPN_STATE = 3 then s.spnLocked else s)

/-- The clocks move to BYP, and Spindle-fed pads to their substitutes at that coarse-cycle boundary, an offset into the frame (R11, R359). -/
def State.bypSwitch (s : State) (off : Nat) : State :=
  let s : State := { s.p K.SPN_ON_BYP 1 with clock := .byp, bypSince := s.tick }
  (s.clockPads 0).foldl (fun s c => s.toSubst off c) s

/-- The Spindle loses lock (R330), at an offset into the frame: its own part, before the calibrations it ends. -/
def State.spnLost (s : State) (off : Nat) : State :=
  let s := ((s.p K.SPN_STATE 3).inc K.SPN_UNLOCKS).p K.SPN_LAST_UNLOCK_FN s.fn
  let s : State := { s.raiseBits 16 1 with spnFrames := 0, lostLock := true }
  if s.clock = .spindle then s.bypSwitch (off % qFrame) else s

/-- The clocks return to the Spindle (R331, R359, R414); EV017 tells of a return after a loss of lock. -/
def State.switchBack (s : State) : State :=
  let s := if s.lostLock then s.raiseBits 17 1 else s
  let s : State := { s.p K.SPN_ON_BYP 0 with clock := .spindle, bypResid := true, lostLock := false }
  let s := s.p K.SR_BYP_TERM (s.g (atRow K.SR_TERMS 6))
  (s.clockPads 0).foldl (fun s c => s.fromSubst c s.tick) s

/-- SPINDLE_SWITCH_BACK (R331): at a boundary at least 2,500 frames after the Spindle is locked again. -/
def execSpindleSwitchBack : State → Host.Outcome State Fault Refusal :=
  run (fun s =>
    if s.clock = .byp ∧ s.gb K.SPN_ON_BYP ∧ 3 ≤ s.mode ∧ s.m2Left ∧ s.g K.SPN_STATE = 2 ∧ 2500 < s.spnFrames then s.switchBack else s)

/-- SPN_MARGIN_LOW (R329). -/
def execSpnMarginLow : State → Host.Outcome State Fault Refusal :=
  run (fun s =>
    if 1250000 ≤ s.marginLow ∧ !bit (s.g K.REPLACE_REASON) 9 then (s.setReplace 9).raiseBits 19 1 else s)

/-- SPN_MARGIN_RESTORED (R329). -/
def execSpnMarginRestored : State → Host.Outcome State Fault Refusal :=
  run (fun s => if 1250000 ≤ s.marginOk then s.clearReplace 9 else s)

/-- Pads that run from a substitute are gated while BYP is unlocked (R337). -/
def State.substGone (s : State) : State :=
  let o := s.someOffset
  let l := instances 64 (fun c => s.g (K.CH_SOURCE c) == 4 && s.gb (K.CLK_SUBST c))
  if l.isEmpty then s else o.2.each l (fun s c => (s.gatePad c s.tick o.1).p (K.CLK_SUBST c) 0)

/-- The bounds of a list of channels become unknown at once, and the channels are judged by them (R100, R117). -/
def State.boundsGone (s : State) (l : List Nat) : State := s.each l (fun s c => (s.p (K.CH_BOUND c) unknownBound).judge c)

/-- Every bound becomes unknown at once (R332, R337). -/
def State.allUnknown (s : State) : State := (s.p K.DEV_BOUND unknownBound).boundsGone (List.range 64)

/-- BYP loses lock (R332, R337): it keeps the clocks it carries, with every bound unknown. -/
def State.bypLost (s : State) : State :=
  let s : State := { (s.p K.BYP_STATE 3).inc K.BYP_UNLOCKS with bypFrames := 0 }
  let s := (s.raiseBits 20 32).substGone
  if s.clock = .byp then ({ s with unkByp := true } : State).allUnknown else s

/-- BYP_LOSS_OF_LOCK (R337). -/
def execBypLossOfLock : State → Host.Outcome State Fault Refusal :=
  run (fun s => if s.g K.BYP_STATE = 2 then s.bypLost else s)

/-- Substitutes are available again: the pads whose source is away take them (R337). -/
def State.substBack (s : State) : State :=
  s.each (instances 64 (fun c => s.g (K.CH_SOURCE c) == 4 && !s.gb (K.CLK_SUBST c) && s.sourceAway (s.g (K.CLK_SRC c)))) (fun s c => s.takeSubst 0 c)

/-- The core and coarse clocks run from BYP in LOAD: from its lock to the sweep, and after it (R587, R594, R595). -/
def State.loadOnByp (s : State) : State := { s.p K.SPN_ON_BYP 1 with clock := .byp, bypSince := s.tick, unkLosc := false }

/-- BYP locks (R334): in M1 the timescale then counts on it (R594). -/
def State.bypLocked (s : State) : State :=
  let s : State := { s.p K.BYP_STATE 2 with bypFrames := 0 }
  let s := if s.clock = .onDie ∨ (s.mode = 1 ∧ s.host.swept) then s.loadOnByp else s
  s.substBack

/-- LOSC_MISSING (R332): the Spindle holds, BYP loses lock, every bound is unknown. -/
def State.loscGone (s : State) : State :=
  let s : State := { s.raiseBits 21 33 with loscMiss := true, unkLosc := true, spnFrames := 0 }
  let s := if s.g K.SPN_STATE = 0 then s else s.p K.SPN_STATE 4
  let s := if s.mode < 2 then s else s.allUnknown
  if s.g K.BYP_STATE = 0 then s else s.bypLost

/-- LOSC_MISSING (R332). -/
def execLoscMissing : State → Host.Outcome State Fault Refusal :=
  run (fun s => if !s.loscMiss ∧ s.mode ≠ 0 then s.loscGone else s)

/-- LOSC_PRESENT (R332): both reacquire with their clocks live. While BYP carries the clocks, R337 decides on the bounds. -/
def State.loscBack (s : State) : State :=
  ({ s with loscMiss := false, unkLosc := s.clock == Clock.spindle }.p K.SPN_STATE 1).p K.BYP_STATE 1

/-- LOSC is measured in LOAD and the Spindle band is chosen; the Spindle and BYP then acquire (R328, R334). -/
def State.loscMeasured (s : State) (code : Nat) : State :=
  s.pAll [(K.LOSC_FREQ, code), (K.SPN_BAND, Config.spindleBand code (Config.dieTemp s.meas.temps) % 4), (K.SPN_STATE, 1), (K.BYP_STATE, 1)]

/-- LOSC_PRESENT (R332). When LOSC appears in LOAD only, it is measured then: its frequency is one of the three (R328). -/
def execLoscPresent : State → Host.Outcome State Fault Refusal :=
  run (fun s =>
    if !s.loscMiss then s
    else if s.g K.LOSC_FREQ = 0 then (s.loscBack.fresh.2).loscMeasured (s.fresh.1 % 3 + 1)
    else s.loscBack)

end Sys2Proof.Machine
end

