-- ==== Sys2Proof/Machine/Headstock.lean ====
section
/-! DEFINITION. The Headstock: samples, labels, qualification, selection, disagreement, servo, first alignment (R362 to R397). -/

namespace Sys2Proof.Machine

/-- The type of a slot. -/
def State.slotType (s : State) (n : Nat) : Nat := s.g (K.SLOT_TYPE n)
/-- HS_SLOPE × 1 s, scaled by 10^18, in q/16 (R389, R390). -/
def State.slopeReach (s : State) : Nat := s.g K.HS_SLOPE * 16 * qSecond
/-- A phase in q/16 lies within HS_SLOPE × 1 s. -/
def State.withinSlope (s : State) (r : Int) : Bool := r.natAbs * 10 ^ 18 ≤ s.slopeReach
/-- The sum of the bank sensors: eight times their mean θ (R398). -/
def tempSum (l : List Int) : Int := l.foldl (· + ·) 0
/-- The model's steering word at the present time and temperature, SR_F0 + SR_DRIFT·(t − t_n) + SR_TEMPCO·(θ − θ_n) (R403), times
10,000,000: frames of a second times eight sensors. -/
def State.modelScaled (s : State) : Int :=
  s.gi K.SR_F0 * 10000000 + s.gi K.SR_DRIFT * ((s.tick : Int) - (s.learnN.1 : Int)) * 8 +
    s.gi K.SR_TEMPCO * (tempSum s.meas.temps - s.learnN.2) * 1250000

/-! ## Samples -/

/-- The least-squares fit of R370 over samples (time, phase), newest first: slope in 10^-18 as a ratio, and RMS departure in 0.1 ps. -/
def fitSums (l : List (Int × Int)) : Int × Int × Int × Int × Int :=
  let x0 := (l.headD (0, 0)).1
  let y0 := (l.headD (0, 0)).2
  l.foldl (fun a p =>
    let x := p.1 - x0
    let y := p.2 - y0
    (a.1 + x, a.2.1 + y, a.2.2.1 + x * x, a.2.2.2.1 + x * y, a.2.2.2.2 + y * y)) (0, 0, 0, 0, 0)

/-- Write SLOT_FREQ_OFF and SLOT_TIE_RMS from the samples held (R370): the RMS rounded up, no fit below two samples. -/
def State.fitSlot (s : State) (n : Nat) : State :=
  let l := (s.slot n).samples
  let m : Int := l.length
  let a := fitSums l
  let d := m * a.2.2.1 - a.1 * a.1
  if l.length < 2 ∨ d ≤ 0 then s.p (K.SLOT_TIE_RMS n) unknownBound
  else
    let num := m * a.2.2.2.1 - a.1 * a.2.1
    let f := s.est (num * 10 ^ 18) (16 * d.toNat)
    let s := f.2.pi (K.SLOT_FREQ_OFF n) f.1
    let rss := d * (m * a.2.2.2.2 - a.2.1 * a.2.1) - num * num
    let rms := ceilSqrt (ceilDiv (rss.toNat * 15625 ^ 2) ((m * m * d).toNat * 262144 ^ 2))
    s.p (K.SLOT_TIE_RMS n) (capBound rms)

/-- The phase a prediction gives at a time, in q/16 (R370). -/
def State.predicted (s : State) (n : Nat) (t : Int) : Int × State :=
  match (s.slot n).samples with
  | (t0, p0) :: _ =>
    let r := s.est (s.gi (K.SLOT_FREQ_OFF n) * (t - t0) * 16) (10 ^ 18)
    (p0 + r.1, r.2)
  | [] => (0, s)

/-- A slot has a prediction: two samples (R370). -/
def State.hasPred (s : State) (n : Nat) : Bool := 2 ≤ (s.slot n).samples.length

/-- The jump threshold in q/16, wider on BYP (R371). -/
def State.jumpThresh (s : State) (n : Nat) : Nat :=
  (s.g (K.SLOT_JUMP_THRESH n) + if s.coarse then 10486 else 0) * 16

/-- The latest phase of the selected slot, exactly (R368), and as HS_SERVO_ERR. -/
def State.setServo (s : State) (e : Int) : State := { s.pi K.HS_SERVO_ERR e with servoErr := e }

/-- The latest phase of a slot, exactly (R368), and as SLOT_PHASE. -/
def State.setPhase (s : State) (n : Nat) (ph : Int) : State := (s.setSlot n { s.slot n with phase := ph }).pi (K.SLOT_PHASE n) ph

/-- The servo's phase error after a sample of the selected slot (R386, R388, R407). -/
def State.servoSample (s : State) (n : Nat) (ph : Int) : State :=
  if s.g K.HS_SELECTED = n then
    let e := ph - s.target
    let s := s.setServo e
    { s with newSmp := true, within := if e.natAbs ≤ 10486 * 16 then s.within + 1 else 0 }
  else s

/-- Take a sample of a slot: time in q, phase in q/16 (R367, R370, R374). At most one per frame is taken by the caller. -/
def State.takeSample (s : State) (n : Nat) (t ph : Int) : State :=
  let pr := s.predicted n t
  let dep := ph - pr.1
  let jump := s.hasPred n && s.jumpThresh n < dep.natAbs
  let s := pr.2
  let h := s.slot n
  let h := { h with smpTick := some (s.tick + 1), noSig := false, timedOut := false }
  let s := if jump then
      ((s.pi (K.SLOT_LAST_JUMP n) dep).raiseBits 9 (2 ^ n)).setSlot n
        { h with samples := [(t, ph)], events := setBit h.events 3 true, anchor := none }
    else s.setSlot n { h with samples := ((t, ph) :: h.samples).take 64 }
  let s := (s.setPhase n ph).inc (K.SLOT_SAMPLES n)
  (s.fitSlot n).servoSample n ph

/-- A sample was taken in the present frame (R367). -/
def State.sampledNow (s : State) (n : Nat) : Bool := (s.slot n).smpTick == some (s.tick + 1)

/-- The seconds of a PPS edge: by the label in force, else the whole second nearest t − SLOT_DELAY (R372). -/
def State.ppsSecond (s : State) (n : Nat) (t : Int) : Int :=
  match (s.slot n).label with
  | some (sec, te) => sec + roundHalfEven (t - te) qSecond
  | none => roundHalfEven (t - s.gi (K.SLOT_DELAY n)) qSecond

/-- An edge lies in the acceptance window of a PPS slot (R369): within 1 ms of the predicted edge; without a prediction,
the first edge of its second. -/
def State.ppsAccepts (s : State) (n : Nat) (t : Int) : Bool × State :=
  let sec := s.ppsSecond n t
  let fresh := match (s.slot n).edges.head? with
    | some e => e.sec != sec
    | none => true
  if s.hasPred n then
    let ph := (sec * qSecond + s.gi (K.SLOT_DELAY n) - t) * 16
    let pr := s.predicted n t
    (fresh && (ph - pr.1).natAbs ≤ 10485760000 * 16, pr.2)
  else (fresh, s)

/-- Record an edge taken as a sample (R367, R372). -/
def State.keepEdge (s : State) (n : Nat) (t sec : Int) (given : Bool) : State :=
  let s := (s.inc (K.SLOT_EDGE_SEQ n)).p (K.SLOT_LAST_EDGE n) (ofTime92 t.toNat)
  let h := s.slot n
  s.setSlot n { h with edges := ({ seq := s.g (K.SLOT_EDGE_SEQ n), t := t, sec := sec, given := given } :: h.edges).take 16 }

/-- The period of a slot's edge grid as a ratio of q: SLOT_PRESCALE / SLOT_NOM_FREQ (R368). -/
def State.gridPeriod (s : State) (n : Nat) : Nat × Nat :=
  (s.g (K.SLOT_PRESCALE n) * 1000000 * qSecond, max 1 (s.g (K.SLOT_NOM_FREQ n)))

/-- The phase of a frequency sample in q/16: the grid point nearest t − SLOT_DELAY, plus SLOT_DELAY, minus t (R368). -/
def State.gridPhase (s : State) (n : Nat) (t : Int) : Int × State :=
  let d := s.gi (K.SLOT_DELAY n)
  let a := ((s.slot n).anchor).getD (t - d)
  let p := s.gridPeriod n
  let k := roundHalfEven ((t - d - a) * p.2) p.1
  let r := s.est (k * p.1 * 16) p.2
  let s := r.2
  let h := s.slot n
  ((a + d - t) * 16 + r.1, if h.anchor.isNone then s.setSlot n { h with anchor := some a } else s)

/-- An edge of a physical input, after polarity and prescaler, as the slot's sample (R367 to R369). -/
def State.slotEdge (s : State) (n t : Nat) : State :=
  let ty := s.slotType n
  if s.sampledNow n then s
  else if ty = 1 then
    let a := s.ppsAccepts n t
    if a.1 then
      let s := a.2
      let sec := s.ppsSecond n t
      let given := (s.slot n).label.isSome || s.aligned
      let s := s.keepEdge n t sec given
      s.takeSample n t ((sec * qSecond + s.gi (K.SLOT_DELAY n) - t) * 16)
    else a.2
  else if ty = 2 ∨ ty = 3 ∨ ty = 4 then
    let g := s.gridPhase n t
    (g.2.keepEdge n t 0 false).takeSample n t g.1
  else s

/-- A slot loses its prediction (R370, R571). -/
def State.losePrediction (s : State) (n : Nat) : State :=
  (s.setSlot n { s.slot n with samples := [] }).p (K.SLOT_TIE_RMS n) unknownBound

/-- The age of a slot's signal condition is reached (R373): two missed seconds, or four expected periods and 4 µs without an edge. -/
def State.signalGone (s : State) (n : Nat) : Bool :=
  let h := s.slot n
  let now : Int := s.frameStart + qFrame
  let ty := s.slotType n
  match h.edges.head? with
  | none =>
    let p := s.gridPeriod n
    if ty = 1 then h.typeTick + 2500000 ≤ s.tick
    else 4 * p.1 ≤ (s.tick - h.typeTick) * qFrame * p.2 && h.typeTick + 5 ≤ s.tick
  | some e =>
    if ty = 1 then
      (if s.hasPred n then e.t + 2 * qSecond + 10485760000 ≤ now
       else e.t / qSecond + 3 ≤ now / qSecond)
    else
      let p := s.gridPeriod n
      4 * p.1 ≤ (now - e.t).toNat * p.2 && 41943040 ≤ now - e.t

/-- SLOT_NO_SIGNAL (R373): NO_SIGNAL is set, the prediction is lost, EV000. -/
def State.setNoSignal (s : State) (n : Nat) : State :=
  let s := (s.losePrediction n).setSlot n { (s.losePrediction n).slot n with noSig := true }
  (s.pbit (K.SLOT_DISQ n) 0 true).raiseBits 0 (2 ^ n)

/-- SLOT_NO_SIGNAL (R373). -/
def execSlotNoSignal (n : Nat) : State → Host.Outcome State Fault Refusal :=
  run (fun s =>
    if 1 ≤ s.slotType n ∧ s.slotType n ≤ 4 ∧ !(s.slot n).noSig ∧ s.signalGone n then s.setNoSignal n else s)

/-- No sample for SLOT_SAMPLE_TIMEOUT (R373). -/
def State.sampleLate (s : State) (n : Nat) : Bool :=
  let h := s.slot n
  (match h.smpTick with | some t => t - 1 | none => h.typeTick) + framesOfMs (s.g (K.SLOT_SAMPLE_TIMEOUT n)) ≤ s.tick

/-- SLOT_SAMPLE_TIMEOUT (R373): SAMPLE is set. -/
def State.setTimedOut (s : State) (n : Nat) : State :=
  (s.setSlot n { s.slot n with timedOut := true }).pbit (K.SLOT_DISQ n) 6 true

/-- SLOT_SAMPLE_TIMEOUT (R373). -/
def execSlotSampleTimeout (n : Nat) : State → Host.Outcome State Fault Refusal :=
  run (fun s => if (s.slotType n = 5 ∨ s.slotType n = 6) ∧ s.sampleLate n then s.setTimedOut n else s)

/-! ## Labels -/

/-- Re-reference every sample of a slot by whole seconds. -/
def State.shiftPhases (s : State) (n : Nat) (d : Int) : State :=
  let h := s.slot n
  (s.setSlot n { h with samples := h.samples.map (fun p => (p.1, p.2 + d)) }).setPhase n (h.phase + d)

/-- A count of q that the timescale may hold (R42). -/
def inTimescale (t : Int) : Bool := 0 ≤ t && t < (2 ^ 43 * qSecond : Nat)

/-- SLOT_LABEL (R372): a label that differs from one given sets LABEL and raises EV008; the new label is in force. A second that the
timescale cannot hold is refused (R42). -/
def State.slotLabelBody (s : State) (n arg : Nat) : CmdRes :=
  if s.slotType n ≠ 1 then s.deny RC.state
  else
    match (s.slot n).edges.find? (fun e => decide (e.seq = arg % 2 ^ 64)) with
    | none => s.deny RC.range
    | some e =>
      let sec : Int := bits arg 127 80
      let h := s.slot n
      if 2 ^ 43 ≤ bits arg 127 80 then s.deny RC.range else
      let clash := e.given && e.sec != sec
      let h := { h with
        label := some (sec, e.t)
        events := if clash then setBit h.events 5 true else h.events
        edges := h.edges.map (fun x => { x with sec := sec + roundHalfEven (x.t - e.t) qSecond, given := true }) }
      let s := (s.setSlot n h).p (K.SLOT_LABELLED n) 1
      let s := s.shiftPhases n ((sec - e.sec) * qSecond * 16)
      (if clash then s.raiseBits 8 (2 ^ n) else s).done

def State.slotLabelCmd (s : State) (w : Who) (n arg : Nat) : CmdRes :=
  s.call w (K.SLOT_LABEL n) arg 1 (fun s => s.slotLabelBody n arg)

/-- SLOT_LABEL (R372). -/
def execSlotLabel (who : Who) (n arg : Nat) : State → Host.Outcome State Fault Refusal :=
  run (fun s => s.command (fun s => s.slotLabelCmd who n arg))

/-- A slot becomes AVAILABLE; EV002 (R376, R397). -/
def State.makeAvailable (s : State) (n : Nat) : State :=
  ((s.setSlot n { s.slot n with everAvail := true, wtr := 0, qual := 0 }).p (K.SLOT_STATE n) 4).raiseBits 2 (2 ^ n)

/-- SLOT_CLEAR_WTR (R377). -/
def State.slotClearWtrBody (s : State) (n : Nat) : CmdRes :=
  if s.g (K.SLOT_STATE n) ≠ 3 then s.deny RC.state
  else ((s.p (K.SLOT_WTR_LEFT n) 0).makeAvailable n).done

def State.slotClearWtrCmd (s : State) (w : Who) (n arg : Nat) : CmdRes :=
  s.call w (K.SLOT_CLEAR_WTR n) arg 1 (fun s => s.slotClearWtrBody n)

/-- SLOT_CLEAR_WTR (R377). -/
def execSlotClearWtr (who : Who) (n : Nat) : State → Host.Outcome State Fault Refusal :=
  run (fun s => s.command (fun s => s.slotClearWtrCmd who n 0))

/-- The latest frame at or before the current one with given low 32 bits (R393); none before frame 0. -/
def frameOfLow (fn low : Nat) : Option Nat :=
  let f := fn - fn % 2 ^ 32 + low % 2 ^ 32
  if f ≤ fn then some f else if 2 ^ 32 ≤ f then some (f - 2 ^ 32) else none

/-- A sample with an offset and a bound, of a link or the host (R393): a second one in a frame replaces the first. -/
def State.offsetSample (s : State) (n : Nat) (t : Int) (ph : Int) (bound : Nat) : State :=
  let h := s.slot n
  let s := if s.sampledNow n then s.setSlot n { h with samples := h.samples.drop 1 } else s
  (s.p (K.SLOT_SAMPLE_BOUND n) bound).takeSample n t ph

/-- HT_SAMPLE (R393). -/
def State.htSampleBody (s : State) (n arg : Nat) : CmdRes :=
  if s.slotType n ≠ 6 then s.deny RC.state
  else
    match frameOfLow s.fn (bits arg 31 0) with
    | none => s.deny RC.range
    | some f =>
      if f + 1250000 < s.fn then s.deny RC.range
      else (s.offsetSample n (f * qFrame : Nat) (toI64 (bits arg 127 64) * 16) (bits arg 63 32)).done

def State.htSampleCmd (s : State) (w : Who) (n arg : Nat) : CmdRes :=
  s.call w (K.HT_SAMPLE n) arg 1 (fun s => s.htSampleBody n arg)

/-- HT_SAMPLE (R393). -/
def execHtSample (who : Who) (n arg : Nat) : State → Host.Outcome State Fault Refusal :=
  run (fun s => s.command (fun s => s.htSampleCmd who n arg))

/-! ## Qualification (R373 to R376), once per frame -/

/-- IN_DIAG disqualifies (R373 bit 1). -/
def State.padDisq (s : State) (n : Nat) : Bool :=
  n < 16 && (bit (s.g (K.IN_DIAG n)) 1 || bit (s.g (K.IN_DIAG n)) 2 || (bit (s.g (K.IN_DIAG n)) 3 && !s.gb (K.IN_AUTO_INVERTED n)))

/-- The bits of SLOT_DISQ of a slot in this frame (R373). -/
def State.disqOf (s : State) (n : Nat) : Nat :=
  let h := s.slot n
  let ty := s.slotType n
  let f := s.gi (K.SLOT_FREQ_OFF n)
  b2n h.noSig
  + 2 * b2n (bit h.events 1 || s.padDisq n)
  + 4 * b2n (decide (s.g (K.SLOT_FREQ_TOL n) * 10 ^ 11 < f.natAbs))
  + 8 * b2n (bit h.events 3)
  + 16 * b2n (decide (400000000000000 < (f + s.gi K.SPN_STEER).natAbs))
  + 32 * b2n (bit h.events 5 || (ty == 1 && h.label.isNone && !s.aligned))
  + 64 * b2n ((ty == 5 || ty == 6) && (h.timedOut || s.g (K.SLOT_SAMPLE_BOUND n) == unknownBound))
  + 128 * b2n h.dis
  + 256 * b2n (s.gb (K.SLOT_LOCKOUT n))
  + 512 * b2n (s.mode == 8)

/-- A slot enters FAILED (R376, R397, R409). -/
def State.slotFails (s : State) (n d : Nat) : State :=
  let s := ((s.p (K.SLOT_STATE n) 1).inc (K.SLOT_DISQUALS n)).pbit K.SR_REJECTED n false
  if bit d 0 then s else s.raiseBits 1 (2 ^ n)

/-- A slot begins to qualify: its grid is anchored again (R368, R376). -/
def State.slotQualifies (s : State) (n : Nat) : State :=
  let q := framesOfMs (s.g (K.SLOT_QUAL_TIME n))
  ((s.setSlot n { s.slot n with qual := q, anchor := none }).p (K.SLOT_STATE n) 2).p (K.SLOT_QUAL_LEFT n) (s.g (K.SLOT_QUAL_TIME n))

/-- One slot's move of the frame (R375, R376, R409). -/
def State.qualifySlot (s : State) (n : Nat) : State :=
  if s.slotType n = 0 then
    (if s.g (K.SLOT_STATE n) = 0 then s else (s.p (K.SLOT_STATE n) 0).p (K.SLOT_DISQ n) 0)
  else
    let d := s.disqOf n
    let s := if bit d 4 && !bit (s.g (K.SLOT_DISQ n)) 4 then s.raiseBits 10 (2 ^ n) else s
    let s := s.p (K.SLOT_DISQ n) d
    let s := s.setSlot n { s.slot n with events := 0 }
    let st := s.g (K.SLOT_STATE n)
    let rejected := bit (s.g K.SR_REJECTED) n
    if d % 128 ≠ 0 then (if st = 1 then s else s.slotFails n d)
    else if st = 0 ∨ st = 1 then s.slotQualifies n
    else if st = 2 then
      let q := (s.slot n).qual - 1
      (s.setSlot n { s.slot n with qual := q }).p (K.SLOT_QUAL_LEFT n) (ceilDiv q 1250)
    else if st = 3 then
      let w := (s.slot n).wtr - 1
      (s.setSlot n { s.slot n with wtr := w }).p (K.SLOT_WTR_LEFT n) (ceilDiv w 1250000)
    else if st = 4 ∨ st = 5 then (if 128 ≤ d ∨ rejected then s.p (K.SLOT_STATE n) 6 else s)
    else if 128 ≤ d ∨ rejected then s
    else s.p (K.SLOT_STATE n) (if s.g K.HS_SELECTED = n then 5 else 4)

/-- SLOT_QUAL_EXPIRY (R376). -/
def State.qualExpires (s : State) (n : Nat) : State :=
  if (s.slot n).everAvail then
    let w := s.g (K.SLOT_WTR n)
    ((s.setSlot n { s.slot n with wtr := w * 1250000 }).p (K.SLOT_STATE n) 3).p (K.SLOT_WTR_LEFT n) w
  else s.makeAvailable n

/-- SLOT_QUAL_EXPIRY (R376). -/
def execSlotQualExpiry (n : Nat) : State → Host.Outcome State Fault Refusal :=
  run (fun s => if s.g (K.SLOT_STATE n) = 2 ∧ (s.slot n).qual = 0 then s.qualExpires n else s)

/-- SLOT_WTR_EXPIRY (R376). -/
def execSlotWtrExpiry (n : Nat) : State → Host.Outcome State Fault Refusal :=
  run (fun s => if s.g (K.SLOT_STATE n) = 3 ∧ (s.slot n).wtr = 0 then s.makeAvailable n else s)

/-! ## Selection and disagreement (R379 to R383) -/

/-- The candidates of R379. -/
def State.candidates (s : State) : List Nat :=
  instances 28 (fun n => s.g (K.SLOT_STATE n) == 4 || s.g (K.SLOT_STATE n) == 5)

/-- Phase difference in q/16 and frequency difference of two slots. -/
def State.phaseDiff (s : State) (a b : Nat) : Nat := ((s.slot a).phase - (s.slot b).phase).natAbs
def State.freqDiff (s : State) (a b : Nat) : Nat := (s.gi (K.SLOT_FREQ_OFF a) - s.gi (K.SLOT_FREQ_OFF b)).natAbs
/-- Both slots carry time. -/
def State.bothTime (s : State) (a b : Nat) : Bool := carriesTime (s.slotType a) && carriesTime (s.slotType b)
/-- The threshold of a quantity, and the difference of two slots in it (R380). -/
def disThresh (phase : Bool) : Nat := if phase then 1048576 * 16 else 10 ^ 10
def State.disDiff (s : State) (phase : Bool) (a b : Nat) : Nat := if phase then s.phaseDiff a b else s.freqDiff a b

/-- New disagreements among candidates of equal rank, and the frames each has stayed below 80 % of its threshold (R380). -/
def State.trackDisag (s : State) : State :=
  let c := s.candidates
  let old := s.disag.map (fun d =>
    { d with below := if 5 * s.disDiff d.phase d.a d.b < 4 * disThresh d.phase then d.below + 1 else 0 })
  let pairs := c.flatMap (fun a => (c.filter (fun b => a < b && s.g (K.SLOT_RANK a) == s.g (K.SLOT_RANK b))).map (fun b => (a, b)))
  let new := pairs.flatMap (fun p =>
    [true, false].filterMap (fun ph =>
      if (ph && !s.bothTime p.1 p.2) || s.disDiff ph p.1 p.2 ≤ disThresh ph
        || old.any (fun d => d.a == p.1 && d.b == p.2 && d.phase == ph) then none
      else some { a := p.1, b := p.2, phase := ph, start := s.tick, below := 0, noArb := false }))
  { s with disag := old ++ new }

/-- The disagreements in which a slot takes part. -/
def State.disputes (s : State) (n : Nat) : List Disag := s.disag.filter (fun d => d.a == n || d.b == n)
/-- SLOT_DISAGREE_WITH of a slot. -/
def State.disagreeWith (s : State) (n : Nat) : Nat := bitmap ((s.disputes n).map (fun d => if d.a = n then d.b else d.a))

/-- The arbiter of a disagreement: the candidate outside G with the lowest rank, then number, that can measure the quantity (R381). -/
def State.arbiterOf (s : State) (g : List Nat) (phase : Bool) : Option Nat :=
  (s.candidates.filter (fun n => !g.contains n && (!phase || carriesTime (s.slotType n)))).foldl
    (fun b n => match b with
      | some m => if s.g (K.SLOT_RANK n) < s.g (K.SLOT_RANK m) then some n else b
      | none => some n) none

/-- A slot departs from the Steady Rest prediction by the threshold (R381, R401). -/
def State.offPrediction (s : State) (phase : Bool) (n : Nat) : Bool :=
  if phase then
    let moved := s.predInt * qFrame * 16 / 10 ^ 18 / 10000000
    disThresh true < ((s.slot n).phase - ((s.slot n).p0 - moved)).natAbs
  else disThresh false * 10000000 < ((s.gi (K.SLOT_FREQ_OFF n) + s.gi K.SPN_STEER) * 10000000 - s.modelScaled).natAbs

/-- The slots of one disagreement that its arbiter excludes; none means it has no arbiter (R381, R382). -/
def State.arbitrate (s : State) (g : List Nat) (d : Disag) : Option (List Nat) :=
  let out := match s.arbiterOf g d.phase with
    | some m => [d.a, d.b].filter (fun n => disThresh d.phase < s.disDiff d.phase n m)
    | none => if s.gb K.HS_PRED_VALID then [d.a, d.b].filter (fun n => s.offPrediction d.phase n) else []
  if out.isEmpty then none else some out

/-- Exclude a slot for disagreement (R381, R382). -/
def State.exclude (s : State) (n : Nat) : State := s.setSlot n { s.slot n with dis := true }

/-- Apply Equal-Rank Disagreement to the slots of one rank (R380 to R382): what is left of them, and the state. -/
def State.applyDisag (s : State) (cur : Nat) (g : List Nat) : List Nat × State :=
  let ds := s.disag.filter (fun d => g.contains d.a && g.contains d.b)
  ds.foldl (fun (acc : List Nat × State) d =>
    let s := acc.2
    match s.arbitrate g d with
    | some out => (acc.1.filter (fun n => !out.contains n), (out.foldl State.exclude s).raiseBits 6 (bitmap out))
    | none =>
      let s : State := { s with disag := s.disag.map (fun x => if x.a = d.a ∧ x.b = d.b ∧ x.phase = d.phase then { x with noArb := true } else x) }
      if g.contains cur then
        let out := [d.a, d.b].filter (· != cur)
        let out := if d.a = cur ∨ d.b = cur then out else [d.a, d.b]
        (acc.1.filter (fun n => !out.contains n), out.foldl State.exclude s)
      else (acc.1.filter (fun n => n != d.a && n != d.b), [d.a, d.b].foldl State.exclude s)) (g, s)

/-- Rank by rank (R379). -/
def State.chooseRank (cur : Nat) : Nat → Nat → List Nat → State → Nat × State
  | 0, _, _, s => (255, s)
  | fuel + 1, r, c, s =>
    let g := c.filter (fun n => s.g (K.SLOT_RANK n) == r)
    let a := s.applyDisag cur g
    if a.1.contains cur then (cur, a.2)
    else match a.1.head? with
      | some n => (n, a.2)
      | none => State.chooseRank cur fuel (r + 1) c a.2

/-- The choice of the frame (R379). A FORCE_HOLDOVER reaction in force selects none (R567). -/
def State.choose (s : State) : Nat × State :=
  let c := s.candidates
  let ct := c.filter (fun n => carriesTime (s.slotType n))
  let c := if !s.aligned && !ct.isEmpty then ct else c
  let cur := s.g K.HS_SELECTED
  if !s.forced.isEmpty then (255, s)
  else if c.contains (s.g K.HS_FORCE) then (s.g K.HS_FORCE, s)
  else if c.isEmpty then (255, s)
  else if !s.gb K.HS_REVERTIVE && c.contains cur then (cur, s)
  else State.chooseRank cur 256 0 c s

/-- HS_DISAGREE and its term while a disagreement without an arbiter lasts (R382, R383). -/
def State.disagTerm (s : State) : State :=
  let cur := s.g K.HS_SELECTED
  let l := s.disag.filter (·.noArb)
  let terms := l.map (fun d =>
    let diff := if d.a = cur ∨ d.b = cur then s.disDiff d.phase d.a d.b
      else max (s.disDiff d.phase d.a cur) (s.disDiff d.phase d.b cur)
    if cur = 255 then 0
    else if d.phase then sixteenthsToBound diff
    else ceilDiv (diff * (s.tick - d.start)) (1250000 * 100000))
  let s := (s.p K.HS_DISAGREE (b2n !l.isEmpty)).p K.HS_DISAGREE_TERM (capBound (terms.foldl max 0))
  if l.isEmpty then s else s.raiseBits 6 (bitmap (l.flatMap (fun d => [d.a, d.b])))

/-- DISAGREEMENT_END (R380): the disagreements of two slots that have stayed below 80 % for 10 s end. -/
def State.endDisag (s : State) (a b : Nat) : State :=
  let done := fun (d : Disag) => ((d.a == a && d.b == b) || (d.a == b && d.b == a)) && decide (12500000 ≤ d.below)
  let s : State := { s with disag := s.disag.filter (fun d => !done d) }
  let s := s.each [a, b] (fun s n =>
    let s := s.p (K.SLOT_DISAGREE_WITH n) (s.disagreeWith n)
    if (s.disputes n).isEmpty then s.setSlot n { s.slot n with dis := false } else s)
  s.disagTerm

/-- DISAGREEMENT_END (R380). -/
def execDisagreementEnd (a b : Nat) : State → Host.Outcome State Fault Refusal := run (fun s => s.endDisag a b)

/-- The selection of the frame: a decision differing from the last takes effect three frames later (R378). -/
def State.selectFrame (s : State) : State :=
  let s := s.trackDisag
  let c := s.choose
  let s := c.2
  let s := s.each (List.range 28) (fun s n => s.p (K.SLOT_DISAGREE_WITH n) (s.disagreeWith n))
  let s := s.disagTerm
  let last := match s.selPend.getLast? with
    | some p => p.1
    | none => s.g K.HS_SELECTED
  if c.1 = last then s else { s with selPend := s.selPend ++ [(c.1, s.soon)] }

/-- No candidate is left in M4 or M5: the Headstock asks for M6, or M7 without a usable model (R392, R403, R589). -/
def State.askCoast (s : State) : State :=
  if (s.mode = 4 ∨ s.mode = 5) ∧ (s.candidates.isEmpty ∨ !s.forced.isEmpty) then
    s.askSteer s.coastMode (if s.forced.isEmpty then 2 else 5)
  else if s.mode = 3 ∧ s.aligned ∧ s.candidates.isEmpty then s.askSteer s.coastMode 3
  else s

/-! ## Servo (R384 to R391) -/

/-- The steering word of the frame from the selected slot: its frequency estimate, carried to the word in force, plus the phase slope. -/
def State.servo (s : State) : State :=
  match s.selected with
  | none => s
  | some n =>
    let m := s.effMode
    if m = 8 ∨ m = 6 ∨ m = 7 ∨ m = 2 ∨ !s.newSmp then s
    else
      let e := s.servoErr
      let free := Config.servoSlope n e s.free
      let align := m = 3 ∧ !s.aligned ∧ carriesTime (s.slotType n)
      let slope :=
        if align then clampAbs 400000000000000 free
        else if m = 5 then (if 0 ≤ e then (s.g K.HS_SLOPE : Int) else -(s.g K.HS_SLOPE : Int))
        else clampAbs (s.g K.HS_SLOPE) free
      let s : State := { s with free := s.free + 1, newSmp := false, steerNext := s.gi (K.SLOT_FREQ_OFF n) + s.gi K.SPN_STEER + slope }
      s.pi K.HS_PHASE_SLOPE slope

/-- HS_STATE (R396). -/
def State.hsState (s : State) : Nat :=
  let m := s.effMode
  if m = 8 then 5
  else match s.selected with
    | none => 0
    | some n =>
      if m = 5 then 4
      else if m = 3 ∧ !s.aligned ∧ carriesTime (s.slotType n) then 1
      else if m = 3 ∧ s.aligned then 2
      else 3

/-- The ends of M3 and M5 (R388, R390). -/
def State.trackRequests (s : State) : State :=
  let s := if s.mode = 3 ∧ s.aligned ∧ s.selected.isSome ∧ 10 ≤ s.within then s.askSteer 4 2 else s
  if s.swOn then
    let s := s.pi K.HS_SWITCH_REMAIN s.servoErr
    if s.withinSlope s.servoErr then
      let s : State := { s with swOn := false }
      (s.raiseBits 4 (bitmap s.selected.toList)).askSteer 4 2
    else s
  else s

/-- SPN_STEER at step 1 of R26: the word formed, clamped (R326, R327). -/
def State.applySteer (s : State) : State :=
  if s.mode < 2 then s
  else
    let v := clampAbs 500000000000000 s.steerNext
    let s := (s.pi K.SPN_STEER v).p K.SPN_STEER_CLAMPED (b2n (v != s.steerNext))
    if v = s.steerNext then s else s.raiseBits 18 1

/-- The phase of the selected slot modulo a frame, centred, in q/16 (R387). -/
def centredPhase (ph : Int) : Int :=
  let r := ph % (qFrame * 16 : Nat)
  if r ≤ (qFrame * 8 : Nat) then r else r - (qFrame * 16 : Nat)

/-- Every time a slot holds moves with the timescale (R387, R485, R600): its phase by the negated argument, its grid with its edges. -/
def State.slotMoves (s : State) (d : Int) (n : Nat) : State :=
  let h := s.slot n
  let time := carriesTime (s.slotType n)
  let dp := if time then d * 16 else 0
  let wrap := s.slotType n = 1 ∧ h.label.isNone
  let fix := fun (p : Int) => if wrap then p - dp - roundHalfEven (p - dp) (qSecond * 16) * (qSecond * 16 : Nat) else p - dp
  if s.slotType n = 0 then s
  else
    (s.setSlot n { h with
      samples := h.samples.map (fun p => (p.1 + d, fix p.2))
      edges := h.edges.map (fun e => { e with t := e.t + d })
      label := h.label.map (fun l => (l.1, l.2 + d))
      anchor := h.anchor.map (· + d)
      p0 := h.p0 - dp }).setPhase n (fix h.phase)

/-- The frames by which first alignment moves the frame number. -/
def State.alignFrames (s : State) : Int := (s.servoErr - centredPhase s.servoErr) / (qFrame * 16 : Nat)

/-- FIRST_ALIGNMENT is due: M3, unset, a time slot selected whose phase modulo a frame lies within 1,024 q (R387), and the timescale
would stay below 2⁴³ s (R42). -/
def State.alignDue (s : State) : Bool :=
  s.mode == 3 && !s.aligned && s.timeSelected && (centredPhase s.servoErr).natAbs ≤ 1024 * 16 &&
    inTimescale ((s.frameStart : Int) + s.alignFrames * qFrame)

/-- The frame number moves by whole frames, and every time the Headstock holds by an amount in q: those frames, but for the part of a
frame by which a follower moves its frame grid (R387, R483, R485, R600). -/
def State.moveTimescale (s : State) (frames d : Int) : State :=
  let fn := ((s.fn : Int) + frames).toNat
  let s := (s.p K.TS_FN fn).p K.TS_NOW (ofTime92 (fn * qFrame))
  let s := s.each (List.range 28) (fun s n => s.slotMoves d n)
  s.setServo (if s.timeSelected then s.servoErr - d * 16 else s.servoErr)

end Sys2Proof.Machine
end

