-- ==== Sys2Proof/Machine/SteadyRest.lean ====
section
/-! DEFINITION. The Steady Rest: learning, coasting, returns, the device bound, Epoch Records, leap seconds and the step (R41 to R51, R398 to R428, R600). -/

namespace Sys2Proof.Machine

/-! ## Learning (R398 to R401) -/

/-- The learning source: the ATOMIC slot AVAILABLE or SELECTED of lowest rank, else the selected slot. -/
def State.learningSource (s : State) : Option Nat :=
  let at' := s.candidates.filter (fun n => s.slotType n == 3)
  match at'.foldl (fun b n => match b with
      | some m => if s.g (K.SLOT_RANK n) < s.g (K.SLOT_RANK m) then some n else b
      | none => some n) (none : Option Nat) with
  | some n => some n
  | none => s.selected

/-- The sums of the normal equations of R399 over samples (t − t_n in s, 8(θ − θ_n), m). -/
structure FitSums where
  n  : Int := 0
  x  : Int := 0
  z  : Int := 0
  y  : Int := 0
  xx : Int := 0
  xz : Int := 0
  zz : Int := 0
  xy : Int := 0
  zy : Int := 0
  yy : Int := 0
deriving DecidableEq, Repr

def fitAdd (a : FitSums) (x z y : Int) : FitSums :=
  { n := a.n + 1, x := a.x + x, z := a.z + z, y := a.y + y, xx := a.xx + x * x, xz := a.xz + x * z, zz := a.zz + z * z,
    xy := a.xy + x * y, zy := a.zy + z * y, yy := a.yy + y * y }

/-- The determinant of a symmetric 3 × 3 matrix, and the three numerators of Cramer's rule. -/
def fitDet (a : FitSums) : Int :=
  a.n * (a.xx * a.zz - a.xz * a.xz) - a.x * (a.x * a.zz - a.xz * a.z) + a.z * (a.x * a.xz - a.xx * a.z)
def fitF (a : FitSums) : Int :=
  a.y * (a.xx * a.zz - a.xz * a.xz) - a.x * (a.xy * a.zz - a.xz * a.zy) + a.z * (a.xy * a.xz - a.xx * a.zy)
def fitD (a : FitSums) : Int :=
  a.n * (a.xy * a.zz - a.xz * a.zy) - a.y * (a.x * a.zz - a.xz * a.z) + a.z * (a.x * a.zy - a.xy * a.z)
def fitT (a : FitSums) : Int :=
  a.n * (a.xx * a.zy - a.xy * a.xz) - a.x * (a.x * a.zy - a.xy * a.z) + a.y * (a.x * a.xz - a.xx * a.z)

/-- Write the model from the learning samples held (R399). Where the normal equations do not determine it, or fewer than four
samples leave no standard error, the value the manual does not state is free. -/
def State.fitModel (s : State) : State :=
  let l := s.learn
  let last := l.getLast?.getD { tick := 0, m := 0, th := 0 }
  let a := l.foldl (fun a e =>
    fitAdd a (((e.tick : Int) - (last.tick : Int)) / 1250000) (e.th - last.th) e.m) ({} : FitSums)
  let d := fitDet a
  let s : State := { s with learnN := (last.tick, last.th) }
  let s := s.p K.SR_LEARNED l.length
  let floor := match s.learningSource with
    | some n => if s.slotType n = 3 then s.g K.SR_FSTAB_ATOMIC else s.g K.SR_B_FLOOR
    | none => s.g K.SR_B_FLOOR
  if d ≤ 0 ∨ l.length < 4 then
    let f := s.fresh
    let g := f.2.fresh
    let h := g.2.fresh
    let b := h.2.fresh
    let c := b.2.fresh
    let s := c.2
    ((((s.pi K.SR_F0 (toI64 f.1)).pi K.SR_DRIFT (toI64 g.1)).pi K.SR_TEMPCO (toI64 h.1)).p K.SR_B_UNC (max floor b.1)).p K.SR_C_UNC c.1
  else
    let f := s.est (fitF a) d.toNat
    let g := f.2.est (fitD a) d.toNat
    let h := g.2.est (8 * fitT a) d.toNat
    let s := ((h.2.pi K.SR_F0 f.1).pi K.SR_DRIFT g.1).pi K.SR_TEMPCO h.1
    let rss := (a.yy * d - (fitF a * a.y + fitD a * a.xy + fitT a * a.zy)).toNat
    let den := (a.n - 3).toNat * d.toNat * d.toNat
    let bu := ceilSqrt (ceilDiv (9 * rss * (a.xx * a.zz - a.xz * a.xz).toNat) den)
    let cu := ceilSqrt (ceilDiv (9 * rss * (a.n * a.zz - a.z * a.z).toNat) (4 * den))
    (s.p K.SR_B_UNC (max floor bu)).p K.SR_C_UNC cu

/-- A learning sample is due: a second boundary in M3, M4 or M5 with a source that has a fit, the clocks not on BYP (R398). -/
def State.learnDue (s : State) : Bool :=
  3 ≤ s.effMode && s.effMode ≤ 5 && s.fn % 1250000 == 0 && s.clock != .byp &&
  (match s.learningSource with | some n => s.g (K.SLOT_TIE_RMS n) != unknownBound | none => false)

/-- The frame that ends adds SPN_STEER + SLOT_FREQ_OFF of the learning source to the mean of its second (R398). -/
def State.learnAdd (s : State) : State :=
  match s.learningSource with
  | some n => { s with learnSum := (s.learnSum.1 + s.gi K.SPN_STEER + s.gi (K.SLOT_FREQ_OFF n), s.learnSum.2 + 1) }
  | none => s

/-- A second boundary: what the ending second has summed is its sample, and the next second begins. -/
def State.learnSecond (s : State) : State :=
  if s.fn % 1250000 = 0 then { s with learnLast := s.learnSum, learnSum := (0, 0) } else s

/-- The mean of the ending second over the frames that had a learning source; with none, the one given. -/
def State.learnMean (s : State) (given : Int) : Int × State :=
  if s.learnLast.2 = 0 then (given, s) else s.est s.learnLast.1 s.learnLast.2

/-- Record a learning sample and refit (R398, R399). -/
def State.learnSample (s : State) (mean : Int) : State :=
  let win := s.g K.SR_LEARN_WINDOW * 1250000
  let l := s.learn ++ [{ tick := s.tick, m := mean, th := tempSum s.meas.temps }]
  let s : State := { s with learn := l.filter (fun e => s.tick < e.tick + win) }
  s.fitModel

/-- LEARNING_SAMPLE (R398). -/
def execLearningSample (mean : Int) : State → Host.Outcome State Fault Refusal :=
  run (fun s => if s.learnDue then (s.learnMean mean).2.learnSample (s.learnMean mean).1 else s)

/-- HS_PRED_VALID (R401), and the quantities it rests on, once per frame. -/
def State.predFrame (s : State) : State :=
  let s : State := if s.disag.isEmpty then
      (List.range 28).foldl (fun (s : State) n => s.setSlot n { s.slot n with p0 := (s.slot n).phase })
        { s with undisp := 0, predInt := 0 }
    else { s with undisp := s.undisp + 1, predInt := s.predInt + (s.gi K.SPN_STEER * 10000000 - s.modelScaled) }
  let b := s.g K.SR_B_UNC
  let t := s.undisp
  let ok := s.usable && b < 5000000000 &&
    b * t * 1250000 + s.g K.SR_C_UNC * t * t < 500000 * 100000 * 1250000 * 1250000
  s.p K.HS_PRED_VALID (b2n ok)

/-! ## Coasting (R402 to R406) -/

/-- SR_STATE of the frame (R402). -/
def State.srState (s : State) : Nat :=
  let m := s.effMode
  if m = 6 then 3
  else if m = 7 then 4
  else if s.aligned ∧ s.selected.isSome ∧ !s.timeSelected then 2
  else if s.timeSelected ∧ s.usable then 1 else 0

/-- SR_STATE, its event, the entry to a coasting state, whose `a` the BYP residual enters while it stays, and the freezing of the
model (R400, R402, R411, R414). -/
def State.srFrame (s : State) : State :=
  let st := s.srState
  let old := s.g K.SR_STATE
  let s := if (st = 2 ∨ st = 3) ∧ st ≠ old then s.raiseVal 11 st else s
  let s : State := if 2 ≤ st ∧ s.coast ≠ st then
      { s.p (atRow K.SR_TERMS 7) (sumBounds [s.g (atRow K.SR_TERMS 0), s.g K.SR_BYP_TERM]) with coast := st, coastTick := s.tick }
    else if st < 2 then { s.p (atRow K.SR_TERMS 7) 0 with coast := 0 }
    else s
  ({ s with frozen := st == 3 }).p K.SR_STATE st

/-- SR_HOLD_AGE (R405). -/
def State.holdAgeFrame (s : State) : State :=
  if s.timeSelected then { s.p K.SR_HOLD_AGE 0 with timeTick := some s.tick }
  else if !s.aligned then s.p K.SR_HOLD_AGE unknownBound
  else s.p K.SR_HOLD_AGE ((s.tick - s.timeTick.getD 0) / 1250)

/-- The model's word is due: in M6, every 1,250 frames from its entry (R403). -/
def State.steerDue (s : State) : Bool := s.effMode == 6 && (s.tick - s.coastTick) % 1250 == 0

/-- HOLDOVER_STEER (R403): the word of the model, applied at step 1 of the next boundary. -/
def State.holdoverSteer (s : State) : State :=
  let r := s.est s.modelScaled 10000000
  { r.2 with steerNext := r.1 }

/-- HOLDOVER_STEER (R403). -/
def execHoldoverSteer : State → Host.Outcome State Fault Refusal :=
  run (fun s => if s.steerDue then s.holdoverSteer else s)

/-- HOLD_MAX_EXPIRY (R404): M6 gives way to M7; under M9, M10 and M11 the called-for mode does. -/
def State.holdMax (s : State) : State :=
  if 9 ≤ s.mode then { s with coast := 4, coastTick := s.tick } else s.askSteer 7 3

/-- HOLD_MAX_EXPIRY (R404). -/
def execHoldMaxExpiry : State → Host.Outcome State Fault Refusal :=
  run (fun s => if s.effMode = 6 ∧ s.g K.SR_HOLD_MAX * 1000 < s.g K.SR_HOLD_AGE then s.holdMax else s)

/-! ## Returns and selection changes (R378, R386, R389 to R392, R407 to R409) -/

/-- The cause of EV013: slot, policy and the low bits of j. -/
def returnCause (n policy : Nat) (j : Int) : Nat := n * 2 ^ 56 + policy * 2 ^ 48 + (j % 2 ^ 48).toNat

/-- The slot leaves SELECTED: its absorbed offset ends (R376, R408). -/
def State.leaveSelected (s : State) : State :=
  let cur := s.g K.HS_SELECTED
  let s := if cur < 28 ∧ s.g (K.SLOT_STATE cur) = 5 then s.p (K.SLOT_STATE cur) 4 else s
  { s.p K.SR_ABSORB_TERM 0 with target := 0 }

/-- A slot, or none (255), becomes the selected slot, with what the servo takes from its phase. -/
def State.becomeSelected (s : State) (n : Nat) (target : Int) : State :=
  let old := s.g K.HS_SELECTED
  let s := s.leaveSelected
  let s := ((s.p K.HS_SELECTED n).inc K.HS_SWITCHES).p K.HS_LAST_SWITCH_FN s.fn
  let s := s.raiseBits 3 (if n < 28 then 2 ^ n else if old < 28 then 2 ^ old else 0)
  let s := if n < 28 ∧ s.g (K.SLOT_STATE n) = 4 then s.p (K.SLOT_STATE n) 5 else s
  let s : State := { s with target := target, within := 0 }
  if n < 28 then s.setServo ((s.slot n).phase - target) else s

/-- What follows of a new selection for the mode (R389 to R392, R589). -/
def State.afterSelect (s : State) (n : Nat) : State :=
  let m := s.effMode
  if n = 255 then { s with swOn := false }.askCoast
  else
    let e := s.servoErr
    let small := s.withinSlope e || !carriesTime (s.slotType n)
    if m = 4 then (if small then s else ({ s with swOn := true }).askSteer 5 2)
    else if m = 5 then
      let s := s.raiseBits 5 (2 ^ n)
      if small then (({ s with swOn := false }).raiseBits 4 (2 ^ n)).askSteer 4 2 else s
    else if m = 6 ∨ m = 7 then
      (if small then s.askSteer 4 2 else ({ s with swOn := true }).askSteer 5 2)
    else s

/-- A selection is a return: no time slot was selected, in M6, M7 or FLYWHEEL, and it is no frequency slot during FLYWHEEL (R407). -/
def State.isReturn (s : State) (n : Nat) : Bool :=
  n < 28 && !s.timeSelected && (s.effMode == 6 || s.effMode == 7 || s.coast == 2) &&
  !(s.coast == 2 && !carriesTime (s.slotType n))

/-- A change of the selected slot takes effect (R378). -/
def State.selectionEffect (s : State) (n : Nat) : State :=
  if n = s.g K.HS_SELECTED then s
  else if s.isReturn n then
    let j := (s.slot n).phase
    let big := s.g (K.SLOT_JUMP_THRESH n) * 16 < j.natAbs
    let pol := s.g (K.SLOT_JUMP_POLICY n)
    let s := (s.pi K.SR_LAST_RETURN_JUMP j).raiseVal 13 (returnCause n pol j)
    if big ∧ pol = 2 then
      (s.pbit K.SR_REJECTED n true).p (K.SLOT_STATE n) 6
    else if !carriesTime (s.slotType n) then (s.becomeSelected n j).afterSelect n
    else if big ∧ pol = 0 then
      ((s.becomeSelected n j).p K.SR_ABSORB_TERM (capBound (sixteenthsToBound j))).afterSelect n
    else (s.becomeSelected n 0).afterSelect n
  else
    let target := if n < 28 ∧ !carriesTime (s.slotType n) then (s.slot n).phase else 0
    (s.becomeSelected n target).afterSelect n

/-- SELECTION_CHANGE_EFFECT (R378): the oldest decided change that is due. -/
def execSelectionChangeEffect : State → Host.Outcome State Fault Refusal :=
  run (fun s =>
    match s.selPend with
    | (n, due) :: rest => if due ≤ s.tick then ({ s with selPend := rest }).selectionEffect n else s
    | [] => s)

/-- SR_REJECT_CLEAR (R409). -/
def State.srRejectClearBody (s : State) (n : Nat) : CmdRes :=
  if n < 28 then (s.pbit K.SR_REJECTED n false).done else s.deny RC.range

def State.srRejectClearCmd (s : State) (w : Who) (n : Nat) : CmdRes :=
  s.call w K.SR_REJECT_CLEAR n 1 (fun s => s.srRejectClearBody n)

/-- SR_REJECT_CLEAR (R409). -/
def execSrRejectClear (who : Who) (n : Nat) : State → Host.Outcome State Fault Refusal :=
  run (fun s => s.command (fun s => s.srRejectClearCmd who n))

/-! ## The device bound (R410 to R414, R418, R487) -/

/-- A rate term x·t × 10^-5 rounded up to 0.1 ps, t in frames (R411, R412). -/
def rateTerm (x frames : Nat) : Nat := ceilDiv (x * frames) (1250000 * 100000)
/-- A quadratic term x·t² × 10^-5 rounded up. -/
def quadTerm (x frames : Nat) : Nat := ceilDiv (x * frames * frames) (1250000 * 1250000 * 100000)

/-- Row 6: the coarse term while the clocks run from BYP (R410). -/
def State.coarseTerm (s : State) : Nat :=
  if s.clock = .byp then 10000 + ceilDiv (100000 * (s.tick - s.bypSince)) 1250000 else 0

/-- The servo term (R411). -/
def State.servoTerm (s : State) : Nat := sixteenthsToBound (s.servoErr)

/-- The stated bound of a slot (R394). -/
def State.statedBound (s : State) (n : Nat) : Nat :=
  if n < 16 then s.g (K.SLOT_STATED_BOUND n) else s.g (K.SLOT_SAMPLE_BOUND n)

/-- Frequency uncertainty of a frequency slot in FLYWHEEL (R411). -/
def State.fstab (s : State) (n : Nat) : Nat :=
  if s.slotType n = 3 then s.g K.SR_FSTAB_ATOMIC
  else if s.slotType n = 4 then s.g K.SR_FSTAB_SYNCE else s.g K.SR_FSTAB_FREQ

/-- The skew term of a follower (R487). -/
def State.skewTerm (s : State) : Nat :=
  sumBounds [s.g K.STK_PATH_UNC, sixteenthsToBound (s.gi K.STK_OFFSET), 10]

/-- The rate and quadratic terms of the phase part (rows 8 and 9). -/
def State.coastTerms (s : State) : Nat × Nat :=
  let t := s.tick - s.coastTick
  let st := s.g K.SR_STATE
  if !s.aligned then (0, 0)
  else if st = 2 then (rateTerm (s.fstab (s.g K.HS_SELECTED)) t, 0)
  else if st = 3 then (rateTerm (s.g K.SR_B_UNC) t, quadTerm (s.g K.SR_C_UNC) t)
  else if st = 4 then (rateTerm (s.g K.SR_LOSC_STAB) t, quadTerm (s.g K.SR_LOSC_AGE) t)
  else (0, 0)

/-- The phase part by situation (R411, R487). -/
def State.phasePart (s : State) : Nat :=
  let st := s.g K.SR_STATE
  if s.effMode = 8 then sumBounds [s.stkBound, s.skewTerm]
  else if !s.aligned then 0
  else if st = 2 then sumBounds [s.g (atRow K.SR_TERMS 7), s.coastTerms.1, s.servoTerm]
  else if st = 3 ∨ st = 4 then sumBounds [s.g (atRow K.SR_TERMS 7), s.coastTerms.1, s.coastTerms.2]
  else match s.selected with
    | some n =>
      let rms := s.g (K.SLOT_TIE_RMS n)
      sumBounds [s.statedBound n, s.g (K.SLOT_DELAY_UNC n), if rms = unknownBound then unknownBound else 3 * rms, s.servoTerm]
    | none => unknownBound

/-- Every bound is unknown whatever the terms (R406, R412, R487, R488). -/
def State.boundsUnknown (s : State) : Bool :=
  s.unkLosc || s.unkByp || s.stkAlert ||
  ((s.effMode == 6 || s.effMode == 7) && (s.gb K.SPN_STEER_CLAMPED || s.loscMiss)) ||
  (s.effMode == 8 && 2560 < s.g K.STK_MSG_AGE)

/-- DEVICE_BOUND_COMPUTE and BOUND_ALARM (R410 to R413, R418). -/
def State.deviceBound (s : State) : State :=
  let ct := s.coastTerms
  let rows := [s.phasePart, s.g K.SR_SPN_TERM, s.g K.SR_CAL_TERM, s.g K.HS_DISAGREE_TERM, s.g K.SR_ABSORB_TERM,
    s.g K.SR_BYP_TERM, s.coarseTerm]
  let s := (rows.zipIdx).foldl (fun (s : State) p => s.p (atRow K.SR_TERMS p.2) p.1) s
  let s := (s.p (atRow K.SR_TERMS 8) ct.1).p (atRow K.SR_TERMS 9) ct.2
  let b := if s.boundsUnknown then unknownBound else sumBounds rows
  let flags := if s.effMode = 8 then b2n (s.stkCoarse || s.coarseTerm != 0) + 2 * b2n s.stkLocal
    else b2n (s.coarseTerm != 0) + 2 * b2n (!s.aligned)
  let s := (s.p K.DEV_BOUND b).p K.DEV_BOUND_FLAGS flags
  let al := s.g K.DEV_BOUND_ALARM
  if al ≠ unknownBound ∧ (al < b ∨ b = unknownBound) then s.raiseVal 14 b else s

/-- The conditions of R332, R337 and R414 under which bounds become known again and the BYP residual ends, at the end of a frame. -/
def State.boundsFrame (s : State) : State :=
  let sample := s.newSmp && s.timeSelected
  let s : State := if s.unkLosc && !s.loscMiss && s.clock != .byp && s.g K.SPN_STATE == 2 && s.newSmp
    then { s with unkLosc := false } else s
  let locked := if s.clock = .byp then s.bypFrames else s.spnFrames
  let s : State := if s.unkByp && (if s.aligned then s.clock == .spindle && sample else 2500 < locked)
    then { s with unkByp := false } else s
  if s.bypResid && s.clock == .spindle && sample then { s.p K.SR_BYP_TERM 0 with bypResid := false } else s

/-! ## Epoch Records (R420 to R427) -/

/-- FLAGS (R421). -/
def State.erFlags (s : State) : Nat :=
  b2n s.aligned + 2 * b2n (bit (s.g K.DEV_BOUND_FLAGS) 1) + 4 * b2n (bit (s.g K.DEV_BOUND_FLAGS) 0)
    + 8 * b2n (s.g K.DEV_BOUND == unknownBound) + 16 * b2n (s.gb K.HS_DISAGREE) + 32 * b2n s.stepped
    + 64 * b2n (s.g K.SR_ABSORB_TERM != 0)

/-- The highest bank sensor reading. -/
def maxTemp (l : List Int) : Int := l.foldl max (l.headD 0)

/-- Bytes 0 to 63 of a record (R420). -/
def State.erBytes (s : State) (seq : Nat) : List Byte :=
  let hold := if s.aligned then s.g K.SR_HOLD_AGE / 1000 else unknownBound
  beBytes 1 1 ++ beBytes 1 s.mode ++ beBytes 1 (s.g K.HS_SELECTED) ++ beBytes 1 s.erFlags ++ beBytes 8 Config.deviceUid
    ++ beBytes 8 seq ++ beBytes 12 (s.g K.TS_NOW % 2 ^ 92) ++ beBytes 8 s.fn ++ beBytes 4 (s.g K.DEV_BOUND)
    ++ beBytes 4 hold ++ beBytes 4 (s.g K.CAL_COUNT) ++ beBytes 6 (bits (s.g K.CAL_TIME) 91 44)
    ++ beBytes 2 ((maxTemp s.meas.temps) % 65536).toNat ++ beBytes 4 (s.g K.REPLACE_REASON)

/-- EPOCH_RECORD_BUILD (R422, R423): SEQ advances by one for each record. -/
def State.erBuildNow (s : State) : State :=
  let seq := s.g K.ER_BOOT * 2 ^ 32 + (s.erCount + 1) % 2 ^ 32
  { s with erBuild := some (s.erBytes seq, seq), erCount := s.erCount + 1, stepped := false }

/-- EPOCH_RECORD_BUILD (R422): at a second boundary, in every mode from M2 on, when no record is being signed. -/
def execEpochRecordBuild : State → Host.Outcome State Fault Refusal :=
  run (fun s => if 2 ≤ s.mode ∧ s.fn % 1250000 = 0 ∧ s.erBuild.isNone then s.erBuildNow else s)

/-- EPOCH_RECORD_SKIPPED (R425): a record not signed by the next second boundary is not emitted. -/
def execEpochRecordSkipped : State → Host.Outcome State Fault Refusal :=
  run (fun s =>
    match s.erBuild with
    | some r => if s.fn % 1250000 = 0 then ({ s with erBuild := none }.inc K.ER_SKIPPED).raiseVal 15 r.2 else s
    | none => s)

/-! ## The timescale (R44 to R51, R600) -/

/-- UTC_OFFSET after the pending leap (R44). -/
def State.newOffset (s : State) : Int :=
  s.gi K.UTC_OFFSET + (if s.g K.LEAP_PENDING = 1 then 1 else if s.g K.LEAP_PENDING = 2 then -1 else 0)

/-- The frame that contains LEAP_EPOCH. -/
def State.leapFrame (s : State) : Nat := frameOf (time92 (s.g K.LEAP_EPOCH))

/-- LEAP_EPOCH_REACHED (R46). -/
def execLeapEpochReached : State → Host.Outcome State Fault Refusal :=
  run (fun s =>
    if s.g K.LEAP_PENDING ≠ 0 ∧ s.leapFrame ≤ s.fn then (s.pi K.UTC_OFFSET s.newOffset).p K.LEAP_PENDING 0 else s)

/-- TS_STEP (R42, R51, R486, R600): the frame on which the step lands is the first that R23 allows. `idle` says that every sequencer is
STOPPED. -/
def State.tsStepBody (s : State) (idle : Bool) (arg : Nat) : CmdRes :=
  let d := toI64 arg
  let t : Int := (s.fnAt s.soon * qFrame : Nat) + d
  if s.mode ≠ 9 ∨ !idle ∨ s.tsStep.isSome then s.deny RC.state
  else if d % (qFrame : Int) ≠ 0 then s.deny RC.range
  else if !inTimescale t then s.deny RC.range
  else ({ s with tsStep := some (d / (qFrame : Int), s.soon) }).accept

end Sys2Proof.Machine
end

