-- ==== Sys2Proof/Machine/Steps.lean ====
section
/-! DEFINITION. Step 4 of R26: the corrections of an edge and their steps at a frame boundary: correction-table entries, live pad-audit
trims, anchors (R23, R24, R28, R30, R112, R114, R443, R448, R451, R456). -/

namespace Sys2Proof.Machine

/-- The bank of a core: channels 8k to 8k + 7 and spare 64 + k. -/
def bankOf (c : Nat) : Nat := if c < 64 then c / 8 else c - 64

/-- The anchor of a core on a pad (R85, R467). -/
def State.anchor (s : State) (c k : Nat) : Int := if k = c then s.gi (K.ANC_OWN c) else s.gi (K.ANC_SPARE c)
/-- Write an anchor of a pad. -/
def State.setAnchor (s : State) (c k : Nat) (v : Int) : State := if k = c then s.pi (K.ANC_OWN c) v else s.pi (K.ANC_SPARE c) v

/-- The correction-table entry of a vernier (R112). -/
def State.corrOf (s : State) (k v i : Nat) : Int := Sp.get (fun _ => 0) s.corr ((k * 2 + v) * 256 + i)
/-- The 512 entries of a core: A, then B. -/
def State.entriesOf (s : State) (core : Nat) : List Int := (List.range 512).map (fun i => Sp.get (fun _ => 0) s.corr (core * 512 + i))
def State.setEntries (s : State) (core : Nat) (l : List Int) : State :=
  { s with corr := (l.zipIdx).foldl (fun m p => Sp.set (fun _ => 0) m (core * 512 + p.2) p.1) s.corr }

def State.calOf (s : State) (k : Nat) : CalHid := Sp.get (fun _ => {}) s.cal k
def State.setCal (s : State) (k : Nat) (h : CalHid) : State := { s with cal := Sp.set (fun _ => {}) s.cal k h }

/-- A spare swap or return falls due on a core at this boundary: its correction step waits one frame (R30). -/
def State.swapDue (s : State) (core : Nat) : Bool :=
  match (s.bank (bankOf core)).change with
  | some x => x.due ≤ s.tick && (64 ≤ core || x.back == some core || x.cover == some core)
  | none => false

/-- One frame of correction steps, toward the new entries in STEP and toward the old ones in RESTORE (R443, R447, R448). -/
def State.calSteps (s : State) (k : Nat) : State :=
  let h := s.calOf k
  let st := s.g (K.CALB_STATE k)
  let core := s.g (K.CALB_CORE k)
  let s : State := if st = 3 ∧ s.tick < h.began + 299594 then s.setCal k { h with temp := s.meas.temps.getD k 0 } else s
  if s.clock = .byp ∨ !((st = 4 ∧ h.stepAt ≤ s.tick) ∨ st = 7) ∨ s.swapDue core then s
  else
    let now := s.entriesOf core
    let goal := if st = 4 then h.new else h.old
    if now = goal then s
    else (s.setEntries core ((now.zip goal).map (fun p => stepToward p.1 p.2))).setCal k { h with last := some s.tick }

/-- The pad emitted no edge in the last 1,024 frames. -/
def State.auditIdle (s : State) (c : Nat) : Bool := (s.pad c).lastEdge.all (fun t => t + 1024 < s.tick)

/-- A target that a block has set comes into force (R23). -/
def State.takeGoal (s : State) (c : Nat) : State :=
  let h := s.pad c
  match h.goalNext with
  | some g => if g.2 ≤ s.tick then s.setPad c { h with goal := g.1, goalNext := none } else s
  | none => s

/-- One step of a pad's trim toward the target in force (R448, R451, R452). -/
def State.trimStep (s : State) (c : Nat) : State :=
  let s := s.takeGoal c
  if s.clock = .byp ∨ s.auditIdle c then s
  else s.pi (K.CH_TRIM c) (stepToward (s.gi (K.CH_TRIM c)) (s.pad c).goal)

/-- One step of the anchors that an anchor procedure moves (R448, R456). -/
def State.ancStep (s : State) : State :=
  match s.ancRun with
  | some a =>
    if s.g K.ANC_STATE = 2 ∧ s.clock ≠ .byp then
      a.goal.foldl (fun s x => s.setAnchor a.ch x.1 (stepToward (s.anchor a.ch x.1) x.2.1)) s
    else s
  | none => s

/-- The corrections as the next boundary leaves them: the commits due by then, then its steps (R24). -/
def State.ahead (s : State) : State :=
  let v : State := { s.view (s.tick + 1) with tick := s.tick + 1 }
  ((List.range 64).foldl State.trimStep ((List.range 8).foldl State.calSteps v)).ancStep

end Sys2Proof.Machine
end

