-- ==== Sys2Proof/Machine/Edge.lean ====
section
/-! DEFINITION. The edge engine, the formatters and the channel bounds (R68 to R123, R298, R305, R415 to R417). -/

namespace Sys2Proof.Machine

def State.core (s : State) (k : Nat) : CoreHid := Sp.get (fun _ => {}) s.coreHid k
def State.setCore (s : State) (k : Nat) (h : CoreHid) : State := { s with coreHid := Sp.set (fun _ => {}) s.coreHid k h }
/-- The core that carries a channel at a boundary: a crosspoint change accepted and due by then counts (R85, R288). -/
def State.coreAt (s : State) (c t : Nat) : Nat :=
  match (s.bank (bankOf c)).change with
  | some x =>
    if t < x.due then s.g (K.CH_CORE c)
    else if x.cover = some c then 64 + bankOf c
    else if x.back = some c then c
    else s.g (K.CH_CORE c)
  | none => s.g (K.CH_CORE c)

/-- The channel that a core feeds now. -/
def State.channelOf (s : State) (k : Nat) : Option Nat :=
  if k < 64 then (if s.g (K.CH_CORE k) = k then some k else none)
  else (instances 64 (fun c => s.g (K.CH_CORE c) == k)).head?

/-- A channel's own core may leave without a swap: PARK, CLOCK or DISABLED, or M10 (R303, R602). -/
def State.idleChannel (s : State) (c : Nat) : Bool :=
  s.src c == 0 || s.src c == 4 || s.g (K.PAD_FMT c) == 0 || s.mode == 10

/-! ## Bounds -/

/-- The format term (R119). -/
def formatTerm (fmt slew : Nat) : Nat :=
  if fmt = 0 then 0 else if fmt ≤ 5 then (if slew ≤ 1 then 0 else 5) else (if slew ≤ 1 then 10 else 15)

/-- The temperature term of a core (R123). -/
def State.tempTerm (s : State) (k : Nat) : Nat :=
  ceilDiv (s.g (K.IP_TEMPCO k) * (s.gi (K.IP_TEMP_NOW k) - s.gi (K.IP_TEMP_CAL k)).natAbs) 10000

/-- The coarse term of a channel (R415): on BYP since the switch, on a substitute, or gated for want of one, since its source went
(R345, R358). -/
def State.chCoarse (s : State) (c : Nat) : Nat :=
  if s.clock = .byp then s.coarseTerm
  else if s.src c = 4 ∧ (s.gb (K.CLK_SUBST c) ∨ (s.g (K.CLK_SRC c) ≠ 0 ∧ s.sourceAway (s.g (K.CLK_SRC c)))) then 10000 + ceilDiv (100000 * (s.tick - (s.pad c).substAt)) 1250000
  else 0

/-- The bound of a channel is unknown for a cause of its own (R417). -/
def State.chUnknown (s : State) (c k : Nat) : Bool :=
  (s.usesCore c && s.g (K.IP_STATE k) == 2) || s.gb (K.IP_SETTLING c) || s.gb (K.PAD_SHUTDOWN c) || bit (s.g (K.PAD_DIAG c)) 3
  || (s.pad c).vddoBad || (s.pad c).ranged || (s.usesCore c && (s.core k).restoring)
  || (s.src c == 4 && s.g (K.CLK_SRC c) != 0 && s.g (K.UT_PHASE_DET (s.g (K.CLK_SRC c) - 1)) == 0)

/-- The anchor uncertainty of a core on a pad (R415, R467). -/
def State.anchorUnc (s : State) (c k : Nat) : Nat := if k = c then s.g (K.ANC_OWN_UNC c) else s.g (K.ANC_SPARE_UNC c)

/-- The channel bound over a device bound, for the frame whose objects the state holds (R415, R417). -/
def State.chBound (s : State) (c k : Nat) (prox : Bool) : Nat :=
  if s.aux c || s.chUnknown c k then unknownBound
  else
    let all := [s.g K.DEV_BOUND, formatTerm (s.g (K.PAD_FMT c)) (s.g (K.PAD_SLEW c)), s.anchorUnc c k, s.g (K.AUDIT_RESID c), s.chCoarse c]
    let cored := if s.usesCore c then
        [s.g (K.IP_CAL_UNC k), s.tempTerm k, 1, if prox then 15 else 0, s.g (K.CH_DELAY_UNC c)] else []
    let trig := if s.src c = 2 then [15] else []
    let clk := if s.src c = 4 then [if s.g (K.CLK_SRC c) = 0 then 2 else 10] else []
    sumBounds (all ++ cored ++ trig ++ clk)

/-- The bounds of the next frame, with the proximity the pass found (R416). -/
def State.computeBounds (s : State) : State :=
  let v := s.view (s.tick + 1)
  let v := ({ v with tick := s.tick + 1 } : State).deviceBound
  let s := s.each (List.range 64) (fun s c =>
    let k := s.coreAt c (s.tick + 1)
    s.setCh c { s.ch c with bound := some (v.chBound c k (s.core k).prox) })
  s.each (List.range 72) (fun s k =>
    let h := s.core k
    let s := if h.prox then s.inc (K.IP_PROX_FRAMES k) else s
    if h.prox || h.proxN || h.termNext then s.setCore k { h with prox := h.proxN, proxN := false, termNext := h.prox } else s)

/-! ## Withholding -/

/-- The event of a reason for withholding (R107): 1 LATE to 6 BOUND; LEVEL raises none. -/
def whEvent : Nat → Option Nat
  | 1 => some 37
  | 2 => some 35
  | 3 => some 34
  | 4 => some 36
  | 5 => some 39
  | 6 => some 32
  | _ => none

/-- Count a withheld edge in one block of counters (R71); an edge time below zero reads as zero. -/
def State.countWh (s : State) (c r : Nat) (t : Int) : State :=
  (((s.inc (K.CH_WITHHELD c)).inc (atSub (K.CH_WH_LATE c) (r - 1))).p (K.CH_LAST_WH c) (ofTime92 t.toNat)).p (K.CH_LAST_WH_REASON c) r

/-- An edge of a channel on a core is withheld for a reason (R71, R107). -/
def State.withhold (s : State) (c k r : Nat) (t : Int) : State :=
  let s := s.countWh c r t
  let s := if 64 ≤ k then s.countWh k r t else s
  match whEvent r with
  | some e => s.raiseBits e (2 ^ c)
  | none => s

/-! ## From nominal time to queue entry (R85 to R93) -/

/-- The edge time of a nominal time plus delay on a core, by a vernier: the one rounding (R85 to R87). On BYP the table is not used (R111). -/
def State.edgeTime (s : State) (c k v : Nat) (nominal delay : Int) : Int :=
  let u := (nominal + delay) * 16 + s.anchor c k + s.gi (K.CH_TRIM c)
  let i := (roundHalfEven u 16 % 8192).toNat / 32
  roundHalfEven (u + if s.coarse then 0 else s.corrOf k v i) 16

/-- The placement word of an entry (R90): TRIG, FPAR, LEVEL, VERN, COARSE, FINE; bits [31:27] are 0. -/
def QEdge.word (e : QEdge) : Nat :=
  b2n e.trig * 2 ^ 26 + frameOf e.t % 2 * 2 ^ 25 + b2n e.level * 2 ^ 24 + e.vern % 2 * 2 ^ 23 + coarseOf e.t * 2 ^ 13 + fineOf e.t

namespace Pw
/-! The fields of a placement word. -/
def fpar (w : Nat) : Nat := bits w 25 25
def level (w : Nat) : Bool := bit w 24
def coarse (w : Nat) : Nat := bits w 22 13
def fine (w : Nat) : Nat := bits w 12 0
/-- The time in a frame that a word stands for (R60, R109); on BYP the fine code is not applied (R111). -/
def time (w fn : Nat) (byp : Bool) : Nat :=
  fn * qFrame + coarse w * qCoarse + (if byp then 0 else bits (fine w) 12 10 * 1024 + bits (fine w) 9 5 * 32 + bits (fine w) 4 0)
end Pw

/-- Put an entry into a queue in time order. -/
def insEdge (e : QEdge) : List QEdge → List QEdge
  | [] => [e]
  | x :: l => if e.t < x.t then e :: x :: l else x :: insEdge e l

/-- The edges a core has for a frame: queued, and for the frame being emitted those that left. -/
def State.edgesFor (s : State) (k f : Nat) : Nat :=
  ((s.core k).queue.filter (fun e => frameOf e.t == f)).length + (if f = s.fn then (s.core k).sentN else 0)

/-- Checks 3 to 5 of R91. -/
def State.placeReason (s : State) (c k t : Nat) : Option Nat :=
  match (s.ch c).hist with
  | t1 :: l =>
    if t ≤ t1 then some 2
    else if t - t1 < 1573 ∨ l.head?.any (fun t2 => t - t2 < 16384) then some 3
    else if 256 ≤ s.edgesFor k (frameOf t) ∨ 512 ≤ (s.core k).queue.length then some 4 else none
  | [] => if 256 ≤ s.edgesFor k (frameOf t) ∨ 512 ≤ (s.core k).queue.length then some 4 else none

/-- A time lies in the guard window of a boundary (R304). -/
def inGuard (t : Int) (fn : Nat) : Bool := (fn * qFrame : Nat) - (32768 : Int) ≤ t && t < (fn * qFrame : Nat) + (32768 : Int)

/-- An edge of a channel lies in the guard window of a swap or return pending or just made (R305). -/
def State.guarded (s : State) (c t : Nat) : Bool :=
  let h := s.bank (bankOf c)
  (match h.change with
    | some x => (x.cover == some c || x.back == some c) && inGuard t (s.fnAt x.due)
    | none => false)
  || (h.moved.contains c && inGuard t (s.g (K.SP_LAST_FN (bankOf c))))

/-- The proximity term enters the bound of a frame that is already computed: an edge in a guard window after the test (R305). -/
def State.lateTerm (s : State) (c k f : Nat) : State :=
  let h := s.core k
  if f = s.fn ∧ !h.termNow then
    ((((s.setCore k { h with termNow := true }).inc (K.IP_PROX_FRAMES k)).p (K.CH_BOUND c) (sumBounds [s.g (K.CH_BOUND c), 15]))).judge c
  else if f = s.fn + 1 ∧ s.passed ∧ !h.termNext then
    ((s.setCore k { h with termNext := true }).inc (K.IP_PROX_FRAMES k)).setCh c { s.ch c with bound := (s.ch c).bound.map (fun b => sumBounds [b, 15]) }
  else s

/-- Queue an edge (R88, R90, R120). Close edges queued for the next frame enter its bound as the pass finds them; those found after it
enter the bound of the frame after (R416). -/
def State.queueEdge (s : State) (c k v t : Nat) (level trig : Bool) : State :=
  let near := match (s.ch c).hist with | t1 :: _ => t - t1 < 32768 | [] => false
  let guard := s.guarded c t
  let next := frameOf t == s.fn + 1
  let s := if guard then s.lateTerm c k (frameOf t) else s
  let h := s.core k
  let q := insEdge { t := t, ch := c, level := level, vern := v, trig := trig } h.queue
  let h := { h with queue := q, prox := h.prox || (next && !s.passed && (near || guard)), proxN := h.proxN || (next && s.passed && near) }
  let s := ((s.setCore k h).p (K.CH_NEXT_VERNIER k) (1 - v)).setCh c { s.ch c with hist := t :: (s.ch c).hist.take 1 }
  s.p (K.CH_QUEUE_PEAK k) (max (s.g (K.CH_QUEUE_PEAK k)) q.length)

/-- The level of the source moves (R315). -/
def State.setSrcLevel (s : State) (c : Nat) (b : Bool) : State := s.setPad c { s.pad c with srcLevel := some b }

/-- The next vernier of a core (R88). -/
def State.nextVern (s : State) (k : Nat) : Nat := s.g (K.CH_NEXT_VERNIER k)

/-- Place one nominal time in the pass for frame fn + 1 (R85 to R93, R113), with the corrections of `w`: queued, withheld, or still
waiting when its corrected time lies after the frame (R84). -/
def State.placeOne (s w : State) (c k : Nat) (delay : Int) (lane : Bool) (n : Int × Bool) : State :=
  let v := s.nextVern k
  let t := w.edgeTime c k v n.1 delay
  if lane then (s.setSrcLevel c n.2).withhold c k 5 t
  else if t < ((s.fn + 1) * qFrame : Nat) then (s.setSrcLevel c n.2).withhold c k 1 t
  else if ((s.fn + 2) * qFrame : Nat) ≤ t then s.setCh c { s.ch c with wait := (s.ch c).wait ++ [n] }
  else
    let s := s.setSrcLevel c n.2
    match s.placeReason c k t.toNat with
    | some r => s.withhold c k r t
    | none => s.queueEdge c k v t.toNat n.2 false

/-! ## DIRECT rules (R75 to R78, R106) -/

/-- A rule as the objects give it. -/
def State.ruleVal (s : State) (c k : Nat) : RuleVal :=
  { on := s.gb (K.RULE_ENABLE c k), epoch := time92 (s.g (K.RULE_EPOCH c k)), period := s.gi (K.RULE_PERIOD c k),
    width := s.gi (K.RULE_WIDTH c k), count := s.g (K.RULE_COUNT c k) }

/-- The least j whose assert lies at or after a time; at most the count. -/
def firstJ (r : RuleVal) (t : Int) : Nat :=
  let j := (ceilDivI (t - r.epoch) (max 1 r.period.toNat)).toNat
  if r.count = 0 then j else min j r.count

/-- The pulses of a rule from j to a limit, as assert and deassert, and the next j. -/
def pulses (r : RuleVal) (j : Nat) (hi : Int) : List (Int × Int) :=
  (List.range (firstJ r hi - j)).map (fun i => (r.epoch + (j + i : Nat) * r.period, r.epoch + (j + i : Nat) * r.period + r.width))

/-- Pulse j of a rule has begun and its deassert is not placed. -/
def RuleVal.openAt (r : RuleVal) (begun : List Int) (j : Nat) : Bool := r.on && begun.contains (r.epoch + j * r.period + r.width)

/-- Distinct times in rising order. -/
def sortTimes (l : List Int) : List Int := (l.mergeSort (· ≤ ·)).eraseDups

/-- The level changes of a set of pulses before a limit, from a level (R77). -/
def levelChanges (ps : List (Int × Int)) (level : Bool) (hi : Int) : List (Int × Bool) :=
  ((sortTimes (ps.flatMap (fun p => [p.1, p.2]))).filter (· < hi)).foldl (fun (acc : List (Int × Bool)) t =>
    let b := ps.any (fun p => p.1 ≤ t && t < p.2)
    if b = ((acc.getLast?.map (·.2)).getD level) then acc else acc ++ [(t, b)]) []

/-- The expansion of the DIRECT rules of a channel for the next frame: nominal times join the channel's waiting ones. -/
def State.expand (s v : State) (c : Nat) : State :=
  let h := s.ch c
  let d := v.gi (K.CH_DELAY c)
  let lo : Int := ((s.fn + 1) * qFrame : Nat) - d
  let hi : Int := ((s.fn + 2) * qFrame : Nat) - d
  let rs := (List.range 4).map (v.ruleVal c)
  let js := (List.range 4).map (fun k =>
    let r := rs.getD k {}
    let j := s.g (K.RULE_NEXT_J c k)
    if h.src = 1 ∧ h.rules.getD k {} = r then (if r.openAt h.begun j then j + 1 else j) else firstJ r lo)
  let begun : List (Int × Int) := h.begun.map (fun x => (x - 2 ^ 63, x))
  let new := (List.range 4).flatMap (fun k => if (rs.getD k {}).on then pulses (rs.getD k {}) (js.getD k 0) hi else [])
  let all := begun ++ new
  let nom := levelChanges all (!h.begun.isEmpty) hi
  let left := (all.filter (fun p => hi ≤ p.2)).map (·.2)
  let s := s.each (List.range 4) (fun s k =>
    let r := rs.getD k {}
    let j := if r.on then max (js.getD k 0) (firstJ r hi) else js.getD k 0
    let j := if 0 < j ∧ r.openAt left (j - 1) then j - 1 else j
    (s.p (K.RULE_NEXT_J c k) j).p (K.RULE_DONE c k) (b2n (r.count != 0 && r.count ≤ j)))
  let h := s.ch c
  s.setCh c { h with rules := rs, begun := left, wait := h.wait ++ nom }

/-! ## Lanes (R102 to R105) -/

/-- The planned load of a channel. -/
def State.planned (s : State) (c : Nat) : Nat :=
  if s.src c = 3 then 256
  else if s.src c = 1 then
    (List.range 4).foldl (fun n k => if s.gb (K.RULE_ENABLE c k) then n + 2 * ceilDiv qFrame (max 1 (s.g (K.RULE_PERIOD c k))) else n) 0
  else 0

/-- The lane limit while some lanes are out of service. -/
def laneLimit (out : Nat) : Nat :=
  let n := (bitList 12 out).length
  if n = 0 then 1536 else if n = 12 then 0 else min 2048 (ceilDiv 18432 (12 - n))

/-- The lane in service with the lowest load that can take a core. -/
def lowestLane (out : Nat) (loads : List Nat) (need : Nat) : Option Nat :=
  ((List.range 12).filter (fun l => !bit out l && loads.getD l 0 + need ≤ laneLimit out)).foldl
    (fun best l => match best with
      | some b => if loads.getD l 0 < loads.getD b 0 then some l else best
      | none => some l) none

/-- The assignment of R105, in ascending index of the cores that carry the channels: channel, lane (none: not served), pin overridden. -/
def State.lanes (s : State) (out : Nat) : List (Nat × Option Nat × Bool) :=
  let cs := (List.range 72).flatMap (fun k => instances 64 (fun c => s.coreAt c s.tick == k && (s.src c == 1 || s.src c == 3)))
  let pin := fun c => s.g (K.CH_LANE_PIN c)
  let good := fun c => pin c < 12 && !bit out (pin c)
  let order := cs.filter good ++ cs.filter (fun c => !good c)
  (order.foldl (fun (acc : List (Nat × Option Nat × Bool) × List Nat) c =>
    let need := s.planned c
    let l := if good c ∧ acc.2.getD (pin c) 0 + need ≤ laneLimit out then some (pin c) else lowestLane out acc.2 need
    let past := pin c < 12 && l != some (pin c)
    match l with
    | some x => (acc.1 ++ [(c, l, past)], acc.2.set x (acc.2.getD x 0 + need))
    | none => (acc.1 ++ [(c, none, past)], acc.2)) ([], List.replicate 12 0)).1

/-- Serve every core of the next frame: CH_LANE, PIN_OVERRIDDEN and the placement log, a core that no lane takes included (R104, R105). -/
def State.assignLanes (s v : State) : State :=
  let l := v.lanes s.lanesOut
  s.each (List.range 64) (fun s c =>
    let old := s.g (K.CH_LANE c)
    match l.find? (fun x => x.1 == c) with
    | some x =>
      let new := x.2.1.getD 255
      let s := (s.p (K.CH_LANE c) new).pbit (K.CH_STATUS c) 5 x.2.2
      let served := (s.ch c).src == 1 || (s.ch c).src == 3
      if new = old ∧ (new ≠ 255 ∨ served) then s
      else s.plLog Pl.lane (if s.lanesOut = 0 then Pl.forCommit else Pl.forFault) (v.coreAt c v.tick) (if old = 255 then none else some old) x.2.1 0
    | none => (s.p (K.CH_LANE c) 255).pbit (K.CH_STATUS c) 5 (v.g (K.CH_LANE_PIN c) < 12 && bit s.lanesOut (v.g (K.CH_LANE_PIN c))))

/-! ## The placement pass (R85, R20) -/

/-- A source no longer places, or places anew, from the next frame on (R73). -/
def State.turnSource (s v : State) (c : Nat) : State :=
  let h := s.ch c
  let src := v.src c
  if h.src = src then s
  else
    let lo : Int := ((s.fn + 1) * qFrame : Nat) - v.gi (K.CH_DELAY c)
    s.setCh c { h with src := src, begun := [], rules := [], wait := if src = 3 then h.wait.filter (fun n => lo ≤ n.1) else [] }

/-- The pass of one channel: its due nominal times in time order. `v` holds the objects and corrections of the frame placed. -/
def State.passChannel (s v : State) (failing c : Nat) : State :=
  let s := s.turnSource v c
  let s := if v.src c = 1 then s.expand v c else s
  if v.src c = 1 ∨ v.src c = 3 then
    let h := s.ch c
    let d := v.gi (K.CH_DELAY c)
    let due := (h.wait.filter (fun n => n.1 + d < ((s.fn + 2) * qFrame : Nat))).mergeSort (fun a b => a.1 ≤ b.1)
    let s := s.setCh c { h with wait := h.wait.filter (fun n => ((s.fn + 2) * qFrame : Nat) ≤ n.1 + d) }
    let k := s.coreAt c (s.tick + 1)
    let lane := s.g (K.CH_LANE c)
    let bad := lane == 255 || bit failing lane
    due.foldl (fun s n => s.placeOne v c k d bad n) s
  else s

/-- PLACEMENT_PASS: the lanes place the edges of the next frame; those that fail their check leave service. -/
def State.pass (s : State) (failing : Nat) : State :=
  let failing := failing % 2 ^ 12 &&& (2 ^ 12 - 1 - s.lanesOut)
  let v := s.ahead
  let s := s.each (List.range 8) (fun s q => if s.g (K.SQ_STATE q) = 0 then s else s.handTo q ((s.fn + 2 + s.lead q) * qFrame))
  let s := s.assignLanes v
  let off := s.mode = 10
  let s := if off then s else s.each (List.range 64) (fun s c => s.passChannel v failing c)
  let hit := bitmap (instances 64 (fun c => (v.src c == 1 || v.src c == 3) && (s.g (K.CH_LANE c) == 255 || bit failing (s.g (K.CH_LANE c)))))
  let s := if failing = 0 ∧ (hit = 0 ∨ off) then s else s.raiseBits 39 hit
  let s := { s with lanesOut := s.lanesOut ||| failing }.computeBounds
  { s with passed := true }

/-- PLACEMENT_PASS (R85): once in each frame, after TABLES are in force (M2 on). -/
def execPlacementPass (failing : Nat) : State → Host.Outcome State Fault Refusal :=
  run (fun s => if 2 ≤ s.mode ∧ !s.passed then s.pass failing else s)

/-! ## Triggers (R79 to R82) -/

/-- The time before which a trigger is ignored (R81). -/
def Burst.till (b : Burst) : Int := b.ts + b.offset + ((b.count : Int) - 1) * b.period + b.width + b.delay

/-- TRIGGER_ACCEPT: the channels that a timestamped edge of an input triggers. -/
def State.trigger (s : State) (ref t : Nat) (rising : Bool) : State :=
  if s.mode = 10 ∨ s.mode < 2 then s
  else s.each (instances 64 (fun c => s.src c == 2 && s.g (K.TRIG_INPUT c) == ref &&
      (s.g (K.TRIG_EDGE c) == 3 || (if rising then s.g (K.TRIG_EDGE c) == 1 else s.g (K.TRIG_EDGE c) == 2)))) (fun s c =>
    if (s.ch c).burst.any (fun b => (t : Int) < b.till) then (s.inc (K.TRIG_IGNORED c)).raiseBits 38 (2 ^ c)
    else
      ((s.inc (K.TRIG_ACCEPTED c)).p (K.TRIG_LAST c) (ofTime92 t)).setCh c { s.ch c with
        burst := some { ts := t, offset := s.gi (K.TRIG_OFFSET c), count := s.g (K.TRIG_COUNT c), period := s.gi (K.TRIG_PERIOD c),
                        width := s.gi (K.TRIG_WIDTH c), delay := s.gi (K.CH_DELAY c) } })

/-- The nominal time of the next edge of a burst, with its level (R80); none when all are issued. -/
def Burst.edge (b : Burst) : Option (Int × Bool) :=
  if 2 * b.count ≤ b.next then none
  else
    let a := b.ts + b.offset + (b.next / 2 : Nat) * b.period
    some (if b.next % 2 = 0 then (a, true) else (a + b.width, false))

/-- TRIGGER_EDGE_ISSUE (R82): the next edge of a burst, once its frame is the frame being emitted or the next. -/
def State.issue (s : State) (c : Nat) : State :=
  match (s.ch c).burst with
  | none => s
  | some b =>
    match b.edge with
    | none => s
    | some n =>
      let soon := (n.1 + b.delay) / (qFrame : Int) ≤ (s.fn : Int)
      let k := s.coreAt c (if soon then s.tick else s.tick + 1)
      let v := s.nextVern k
      let t := (if soon then s else s.ahead).edgeTime c k v n.1 b.delay
      if ((s.fn + 2) * qFrame : Nat) ≤ t then s
      else if (s.atTime t.toNat).src c ≠ 2 then s.setCh c { s.ch c with burst := none }
      else
        let s := (s.setCh c { s.ch c with burst := some { b with next := b.next + 1 } }).setSrcLevel c n.2
        if t < 0 ∨ t < (b.ts : Int) + trigLatency ∨ t < s.frameStart then s.withhold c k 1 t
        else match s.placeReason c k t.toNat with
          | some r => s.withhold c k r t
          | none => s.queueEdge c k v t.toNat n.2 true

/-- TRIGGER_EDGE_ISSUE (R82). -/
def execTriggerEdgeIssue (c : Nat) : State → Host.Outcome State Fault Refusal :=
  run (fun s => if c < 64 ∧ s.mode ≠ 10 ∧ 2 ≤ s.mode then s.issue c else s)

/-! ## Inputs (R149, R320) -/

/-- The polarity of an input (R320). -/
def State.inInvert (s : State) (n : Nat) : Bool := s.gb (K.IN_INVERT n) != s.gb (K.IN_AUTO_INVERTED n)

/-- The division of an input: SLOT_PRESCALE for the frequency types, else 1 (R365). -/
def State.division (s : State) (n : Nat) : Nat :=
  let ty := s.slotType n
  if ty = 2 ∨ ty = 3 ∨ ty = 4 then max 1 (s.g (K.SLOT_PRESCALE n)) else 1

/-- An edge after polarity and prescaler: dropped under the rate limit, or timestamped for the trigger, the compare history and the slot. -/
def State.timestamp (s : State) (n t : Nat) (rising : Bool) : State :=
  let h := s.inp n
  if (if rising then h.lastRise else h.lastFall).any (fun l => t < l + 524288) then
    (s.inc (K.IN_DROPPED n)).setInp n { h with level := rising, drops := t :: h.drops }
  else
    let h := if rising then { h with lastRise := some t } else { h with lastFall := some t }
    let s := ((s.setInp n { h with level := rising, history := (t, rising) :: h.history }).inc (K.IN_EDGES n)).trigger n t rising
    if rising then s.slotEdge n t else s

/-- The timestamp of an edge: to 1 q; on BYP the first coarse-cycle boundary after it, less 4,096 q (R365, R371). -/
def State.stamp (s : State) (t : Nat) : Nat := if s.coarse then (t / qCoarse + 1) * qCoarse - 4096 else t

/-- INPUT_EDGE: the prescaler turns every P-th edge of the input into one edge of a square wave (R365). -/
def State.inputEdge (s : State) (n t : Nat) (raw : Bool) : State :=
  let h := s.inp n
  let p := s.division n
  if s.g (K.IN_FMT n) = 0 then s
  else if p = 1 then s.timestamp n t (raw != s.inInvert n)
  else
    let s := s.setInp n { h with presc := (h.presc + 1) % p }
    if (h.presc + 1) % p = 0 then s.timestamp n t (!h.level) else s

/-! ## Emission (R94 to R100, R109, R111) -/

/-- The N pin of a pad that drives its P pin to a level: its complement; its static state in format 7; off on LINE50 (R291, R646). -/
def State.nPin (s : State) (c : Nat) (p : Bool) : Nat :=
  if s.g (K.PAD_FMT c) = 7 then s.g (K.PAD_N_STATIC c) else if s.g (K.PAD_FMT c) = 8 then 2 else b2n !p

/-- An edge leaves its queue as BOUND, LEVEL or emitted (R98 to R100), at the time its placement word gives. -/
def State.emitEdge (s : State) (k : Nat) (e : QEdge) : State :=
  let c := e.ch
  let w := e.word
  let past := s.overLimit c
  if s.gb (K.PAD_SHUTDOWN c) ∨ (past ∧ s.g (K.CH_POLICY c) = 0) then s.withhold c k 6 e.t
  else if (s.g (K.PAD_LEVEL c) == 1) = Pw.level w then s.withhold c k 7 e.t
  else
    let off := s.g (K.PAD_FMT c) == 0
    let s := if off then s else s.p (K.PAD_LEVEL c) (b2n (Pw.level w))
    let s := (s.inc (K.CH_EDGES c)).setPad c { s.pad c with carried := true, lastEdge := some s.tick }
    let s := if 64 ≤ k then s.inc (K.CH_EDGES k) else s
    let p := Pw.level w != s.inverted c
    let s := if off then s else s.emit (.edge k c (Pw.time w (frameOf e.t) s.coarse) p (s.nPin c p) past)
    if past then
      let flag := fun (s : State) x => ((s.inc (K.CH_FLAGGED x)).p (K.CH_LAST_FLAG x) (ofTime92 e.t)).p (K.CH_LAST_FLAG_BOUND x) (s.g (K.CH_BOUND c))
      let s := flag s c
      (if 64 ≤ k then flag s k else s).raiseBits 33 (2 ^ c)
    else s

/-- EDGE_EMIT: the next entry of a queue for the frame being emitted. -/
def State.emitNext (s : State) (k : Nat) : State :=
  let h := s.core k
  match h.queue with
  | e :: l => if frameOf e.t = s.fn then (s.setCore k { h with queue := l, sentN := h.sentN + 1 }).emitEdge k e else s
  | [] => s

/-- EDGE_EMIT (R95). -/
def execEdgeEmit (core : Nat) : State → Host.Outcome State Fault Refusal :=
  run (fun s => if core < 72 then s.emitNext core else s)

/-- The entries of an ended frame are discarded as LATE (R95). `s` is at the new frame. -/
def State.discardOld (s : State) : State :=
  s.each (List.range 72) (fun s k =>
    let h := s.core k
    let old := h.queue.filter (fun e => frameOf e.t < s.fn)
    let s := s.setCore k { h with queue := h.queue.filter (fun e => s.fn ≤ frameOf e.t), sentN := 0 }
    old.foldl (fun s e => s.withhold e.ch k 1 e.t) s)

/-- FORMATTER_BOUND_CHECK: bounds take the values computed for the frame, unknown where a cause of R417 holds by now, gates open or close,
edges of a closed gate are withheld (R94, R97, R98, R101). -/
def State.boundCheck (s : State) : State :=
  let s := s.each (List.range 64) (fun s c =>
    let h := s.ch c
    let k := s.g (K.CH_CORE c)
    let b := if s.chUnknown c k || s.g K.DEV_BOUND == unknownBound then unknownBound else h.bound.getD (s.chBound c k (s.core k).prox)
    let s := (s.p (K.CH_BOUND c) b).setCh c { h with bound := none }
    let past := s.overLimit c
    let lead := s.usesCore c && s.gi (K.CH_DELAY c) < -(2 * qFrame : Nat)
    let coarse := s.chCoarse c != 0 || bit (s.g K.DEV_BOUND_FLAGS) 0
    let s := (s.p (K.CH_STATUS c) (setBit (setBit (s.g (K.CH_STATUS c)) 2 coarse) 4 lead)).judge c
    if s.src c = 4 then
      (if past ∧ s.g (K.CH_POLICY c) = 0 then (((s.gatePad c s.tick 0).inc (K.CH_WITHHELD c)).inc (K.CH_WH_BOUND c)).raiseBits 32 (2 ^ c)
       else if past then (s.inc (K.CH_FLAGGED c)).raiseBits 33 (2 ^ c)
       else s)
    else s)
  s.each (List.range 72) (fun s k =>
    let h := s.core k
    let closed := fun (e : QEdge) => frameOf e.t == s.fn && bit (s.g (K.CH_STATUS e.ch)) 3
    let gone := h.queue.filter closed
    let s := s.setCore k { h with queue := h.queue.filter (fun e => !closed e), sentN := h.sentN + gone.length, termNow := h.termNext, termNext := false }
    gone.foldl (fun s e => s.withhold e.ch k 6 e.t) s)

/-- The verniers of the cores that a change puts on a pad at the next boundary start at A (R89). -/
def State.presetVerniers (s : State) : State :=
  s.each (List.range 8) (fun s k =>
    match (s.bank k).change with
    | some x =>
      if x.due = s.tick + 1 then
        let s := if x.cover.isSome then s.p (K.CH_NEXT_VERNIER (64 + k)) 0 else s
        match x.back with | some c => s.p (K.CH_NEXT_VERNIER c) 0 | none => s
      else s
    | none => s)

/-! ## Faults and clocks within a frame (R100, R127) -/

/-- Bounds after a switch to BYP at an offset of q into the frame (R100): the bound of the frame and the coarse terms of the rest of it. -/
def State.bypBounds (s : State) (q : Nat) : State :=
  let term := 10000 + ceilDiv (100000 * (qFrame - q % qFrame)) qSecond
  let s := (s.p K.DEV_BOUND (sumBounds [s.g K.DEV_BOUND, term])).p K.DEV_BOUND_FLAGS (setBit (s.g K.DEV_BOUND_FLAGS) 0 true)
  let s := s.p (atRow K.SR_TERMS 6) term
  s.each (List.range 64) (fun s c =>
    if s.aux c then s
    else ((s.p (K.CH_BOUND c) (sumBounds [s.g (K.CH_BOUND c), term, term])).p (K.CH_STATUS c) (setBit (s.g (K.CH_STATUS c)) 2 true)).judge c)

end Sys2Proof.Machine
end

