-- ==== Sys2Proof/Machine/Pads.lean ====
section
/-! DEFINITION. Spares and the crosspoint, core faults, pads, inputs, supplies and temperature (R121, R122, R126 to R128, R288 to R322,
R446, R558, R641 to R654). -/

namespace Sys2Proof.Machine

/-! ## Pad settings (R121, R291, R645) -/

/-- The VDDO classes a format accepts (R291): 1 1.2 V, 2 1.8 V, 3 2.5 V, 4 3.3 V. -/
def fmtAccepts (fmt cls : Nat) : Bool :=
  if fmt = 0 then true
  else if fmt = 3 then cls != 0
  else if fmt = 5 then cls == 3 || cls == 4
  else if fmt = 8 then cls == 4
  else 2 ≤ cls

/-- PAD_MIN_GAP of a format (R291). -/
def minGap (fmt : Nat) : Nat :=
  if fmt = 1 ∨ fmt = 3 ∨ fmt = 4 then 2048 else if fmt = 2 then 4096 else if fmt = 5 then 3277
  else if fmt = 6 ∨ fmt = 7 then 20972 else if fmt = 8 then 419431 else 0

/-- The highest clock of a format in µHz (R291). -/
def topClock (fmt : Nat) : Nat :=
  (if fmt = 1 ∨ fmt = 3 ∨ fmt = 4 then 2560 else if fmt = 2 then 1280 else if fmt = 5 then 1600 else if fmt = 6 ∨ fmt = 7 then 250
   else if fmt = 8 then 12500 else 0) * (if fmt = 8 then 10 ^ 9 else 10 ^ 12)

/-! ### Expected values (R646, R648): in hundredths of a mV -/

/-- The share of its swing at step 15 that a differential format has at an amplitude step, in hundredths (R294). -/
def ampShare (step : Nat) : Nat := 55 + 3 * step

/-- The expected swing of a format at an amplitude step and a VDDO in mV; of formats 6 to 8 the expected high level. -/
def expSwing (fmt step vddo : Nat) : Nat :=
  if fmt = 1 then 350 * ampShare step else if fmt = 2 then 750 * ampShare step else if fmt = 3 then 400 * ampShare step
  else if fmt = 4 ∨ fmt = 5 then 800 * ampShare step else if fmt = 6 ∨ fmt = 7 then 100 * vddo
  else if fmt = 8 then min (50 * vddo) ((10 + 2 * step) * 5000) else 0

/-- The expected common mode of a format: of a complementary LVCMOS pad, midway between its levels. -/
def expVcm (fmt vddo : Nat) : Nat :=
  if fmt = 1 then 120000 else if fmt = 2 then 37500 else if fmt = 3 then 100 * (vddo - 200) else if fmt = 4 then 100 * (vddo - 400)
  else if fmt = 5 then 100 * (vddo - 1300) else 50 * vddo

/-- The expected high level of a pin: common mode plus half the swing of formats 1 to 5. -/
def expHigh (fmt step vddo : Nat) : Nat :=
  if 1 ≤ fmt ∧ fmt ≤ 5 then expVcm fmt vddo + expSwing fmt step vddo / 2 else expSwing fmt step vddo

/-- The expected driver current in mA times 10,000: swing per leg over 50 Ω; LVDS has 3.5 mA at step 15. -/
def expDrive (fmt step vddo : Nat) : Nat := if fmt = 1 then 350 * ampShare step else expSwing fmt step vddo * 2

/-- The VDDO of the bank of a pad in mV, and the expected swing of the pad. -/
def State.vddoOf (s : State) (c : Nat) : Nat := s.g (K.BANK_VDDO_MV (c / 8))
def State.padSwing (s : State) (c : Nat) : Nat := expSwing (s.g (K.PAD_FMT c)) (s.g (K.PAD_AMP c)) (s.vddoOf c)

/-- A monitor shows the condition of a detector in a frame (R314): 0 SHORT_GND, 1 SHORT_VDDO, 2 PN_SHORT, 3 OPEN. -/
def State.shows (s : State) (c det : Nat) (m : PadMon) : Bool :=
  let f := s.g (K.PAD_FMT c)
  let v := s.vddoOf c
  let a := s.g (K.PAD_AMP c)
  let vcm := expVcm f v
  if det = 0 then m.limit && m.high.any (fun h => h * 400 < expHigh f a v)
  else if det = 1 then m.limit && m.low.any (fun l => v * 90 < l * 100)
  else if det = 2 then m.swing.natAbs * 500 < s.padSwing c && decide ((m.vcm * 100 - vcm).natAbs * 5 ≤ vcm)
  else if f = 5 then m.drive * 5000 < expDrive f a v
  else if f = 8 then m.high.isSome && m.drive < 50
  else s.padSwing c * 160 < m.swing.natAbs * 10000

/-- The level of a pad at its park level: 2 is off (R297). -/
def State.parkState (s : State) (c : Nat) : Nat := s.g (K.PAD_PARK c)

/-- The level at which a driver starts (R315): the source's, or the park level. -/
def State.sourceLevel (s : State) (c : Nat) : Nat :=
  match (s.pad c).srcLevel with
  | some b => if s.src c = 0 ∨ s.src c = 4 then s.parkState c else b2n b
  | none => s.parkState c

/-- A change of pad settings takes effect: the bound is unknown until the audit converges (R121, R122). -/
def State.settlePad (s : State) (c : Nat) : State :=
  let s := (s.p (K.IP_SETTLING c) 1).setPad c { s.pad c with settle := some s.tick, audited := false }
  if s.aux c then s else ((s.p (K.CH_BOUND c) unknownBound).setCh c { s.ch c with bound := some unknownBound }).judge c

/-- A clock pad is gated at its park level from a boundary on, OFF counting as LOW (R348). -/
def State.parkClock (s : State) (c : Nat) : State :=
  let b := s.parkLevel c
  let s := (s.stopWave c s.qTick).p (K.PAD_LEVEL c) (b2n b)
  s.setPad c { s.pad c with parkUp := if b then some s.qTick else none }

/-- A driver turns on at the level of its source; a CLOCK pad opens as a gating (R315, R645). -/
def State.driverOn (s : State) (c : Nat) : State :=
  if s.src c = 4 then (s.parkClock c).settlePad c
  else (s.p (K.PAD_LEVEL c) (s.sourceLevel c)).settlePad c

/-- A driver is off: both pins at high impedance. -/
def State.driverOff (s : State) (c : Nat) : State := (s.p (K.PAD_LEVEL c) 2).stopWave c s.qTick

/-- The class of the bank of a pad. -/
def State.classOf (s : State) (c : Nat) : Nat := s.g (K.BANK_VDDO_CLASS (c / 8))

/-- A format in force and the bank's class decide whether the driver waits (R645). -/
def State.padClass (s : State) (c : Nat) : State :=
  if s.g (K.PAD_FMT c) = 0 ∨ fmtAccepts (s.g (K.PAD_FMT c)) (s.classOf c) then s
  else if (s.pad c).waits then s
  else (s.driverOff c).setPad c { (s.driverOff c).pad c with waits := true }

/-- PAD_DRIVER_TURN_ON (R645). -/
def execPadDriverTurnOn (c : Nat) : State → Host.Outcome State Fault Refusal :=
  run (fun s =>
    if c < 64 ∧ (s.pad c).waits ∧ fmtAccepts (s.g (K.PAD_FMT c)) (s.classOf c) then
      let s := s.setPad c { s.pad c with waits := false }
      if s.g (K.PAD_FMT c) = 0 ∨ s.gb (K.PAD_SHUTDOWN c) then s else s.driverOn c
    else s)

/-- PAD_SETTLE_TIMEOUT (R122). -/
def execPadSettleTimeout (c : Nat) : State → Host.Outcome State Fault Refusal :=
  run (fun s =>
    if c < 64 ∧ s.gb (K.IP_SETTLING c) ∧ (s.pad c).settle.any (fun t => t + 4096 ≤ s.tick) then
      (s.setPad c { s.pad c with settle := none }).raiseBits 41 (2 ^ c)
    else s)

/-! ## Calibration events and early exits (R446, R447) -/

/-- Raise a calibration source: the banks concerned, and the first core or pad (R468). -/
def State.raiseCal (s : State) (src k core : Nat) : State := s.raiseDet src core (2 ^ k)

/-- A reason of a core sets; its pending age begins (R435, R449). -/
def State.wantCal (s : State) (core i : Nat) : State :=
  let s := s.pbit (K.CORE_CAL_REASON core) i true
  match Sp.find s.calSince core with
  | some _ => s
  | none => { s with calSince := Sp.ins s.calSince core (s.tick + 1) }

/-- A bank's present phase begins. -/
def State.phase (s : State) (k ph : Nat) : State :=
  ((s.p (K.CALB_STATE k) ph).p (K.CALB_FN k) s.fn).setCal k { s.calOf k with began := s.tick, noRef := false }

/-- A bank has no calibration running. -/
def State.calIdle (s : State) (k : Nat) : State :=
  let core := s.g (K.CALB_CORE k)
  let s := if core < 72 then
      (s.p (K.CORE_CAL_STATE core) (if s.g (K.CORE_CAL_REASON core) = 0 then 0 else 1)).setCore core { s.core core with restoring := false } else s
  ((s.phase k 0).p (K.CALB_CORE k) 255).setCal k {}

/-- SP_STATE: FAULT while the spare's own Index Plate is in FAULT (R306). -/
def State.setSp (s : State) (k st : Nat) : State := s.p (K.SP_STATE k) (if s.g (K.IP_STATE (64 + k)) = 2 then 6 else st)

/-- The first boundary R23 allows for a swap of a channel that a fault covers (R307). -/
def State.acceptFault (s : State) (k c : Nat) (back : Option Nat) : State :=
  let h := s.bank k
  let s := s.setBank k { h with search := none, change := some { back := back, cover := some c, after := 3, due := s.soon },
                                waiting := h.waiting.filter (· != c) }
  ((s.setSp k 3).p (K.SP_COVERS k) c).pbit (K.SP_WAITING k) (c % 8) false

/-- The spare is FREE; a channel that waits takes it (R310). -/
def State.spareFreed (s : State) (k : Nat) : State :=
  let s := (s.setSp k 0).p (K.SP_COVERS k) 255
  if s.g (K.SP_STATE k) ≠ 0 then s
  else match (s.bank k).waiting with
    | c :: _ => s.acceptFault k c none
    | [] => s

/-- The sequencer that owns a PATTERN channel. -/
def State.ownerSeq (s : State) (c : Nat) : Nat :=
  if s.src c = 3 then ((List.range 8).find? (fun q => s.owns q c)).getD 0xFF else 0xFF

/-- A channel edge may lie at a time, by the rules of a train (R304). -/
def trainIn (r : RuleVal) (d w0 w1 : Int) : Bool :=
  r.on && (firstJ r (w0 - d) < firstJ r (w1 - d) ||
    firstJ { r with epoch := r.epoch + r.width } (w0 - d) < firstJ { r with epoch := r.epoch + r.width } (w1 - d))

/-- The boundary `tick + 3` is a quiet point for a channel (R304). -/
def State.quiet (s : State) (c : Nat) : Bool :=
  let b : Int := (s.fnAt s.soon * qFrame : Nat)
  let w0 := b - 32768
  let w1 := b + 32768
  let v := s.view s.soon
  let d := v.gi (K.CH_DELAY c)
  let inW := fun (t : Int) => w0 ≤ t && t < w1
  if v.src c = 0 ∨ v.src c = 4 ∨ s.mode = 10 then true
  else if v.src c = 1 then
    !((List.range 4).any (fun k => trainIn (v.ruleVal c k) d w0 w1)) && !(s.ch c).begun.any (fun t => inW (t + d))
      && !(s.ch c).wait.any (fun n => inW (n.1 + d))
  else if v.src c = 2 then
    match (s.ch c).burst with
    | some b => !trainIn { on := true, epoch := b.ts + b.offset, period := b.period, width := b.width, count := b.count } b.delay w0 w1
    | none => true
  else
    let q := v.ownerSeq c
    if 8 ≤ q ∨ s.g (K.SQ_STATE q) = 0 then false
    else
      let h := s.sq q
      let x := (h.fifo.filter (fun v => !v.handed)).foldl (fun x v => x.vecActions q v) s
      w1 ≤ (h.tNext : Int) + d && !(x.ch c).wait.any (fun n => inW (n.1 + d))

/-- One frame of a search: the first quiet point is taken (R308, R309). -/
def State.searchFrame (s : State) (k : Nat) : State :=
  let h := s.bank k
  match h.search, h.change with
  | some x, none =>
    if x.req + 999 < s.tick ∨ !s.quiet x.ch then s
    else
      let ch : XChange := match x.why with
        | .cal => { back := none, cover := some x.ch, after := 2, due := s.soon }
        | .host => { back := none, cover := some x.ch, after := 4, due := s.soon }
        | .back => { back := some x.ch, cover := none, after := 0, due := s.soon }
      s.setBank k { h with change := some ch }
  | _, _ => s

/-- A search begins (R308, R309). -/
def State.beginSearch (s : State) (k c : Nat) (why : Purpose) : State :=
  let s := (s.setBank k { s.bank k with search := some { why := why, ch := c, req := s.tick } }).setSp k (if why = .back then 5 else 1)
  s.searchFrame k

/-- The return of a calibrated core begins (R309, R440). -/
def State.calReturn (s : State) (k : Nat) : State := (s.phase k 6).beginSearch k (s.g (K.SP_COVERS k)) .back

/-- RETRY bars a core for CAL_RETRY ms; the exit is counted (R435, R446). -/
def State.calExit (s : State) (core : Nat) : State :=
  let s := (s.wantCal core 6).inc K.CAL_ABORTS
  { s with calRetry := Sp.ins s.calRetry core (s.tick + framesOfMs (s.g K.CAL_RETRY)) }

/-- The running calibration of a bank leaves its phase early: back to the old entries, to the own core, or to IDLE (R446, R447). -/
def State.calLeave (s : State) (k : Nat) : State :=
  let h := s.calOf k
  let core := s.g (K.CALB_CORE k)
  let st := s.g (K.CALB_STATE k)
  let s := s.calExit core
  if st = 1 then ((s.setBank k { s.bank k with search := none, change := none }).calIdle k).spareFreed k
  else if h.last.isSome ∧ st ≠ 6 then ((s.phase k 7).p (K.CORE_CAL_STATE core) 4).setCore core { s.core core with restoring := true }
  else if h.swap ∧ !h.home then (if st = 6 then s else s.calReturn k)
  else (s.p (K.IP_STATE core) h.prior).calIdle k

/-- CAL_ABANDONED (R446): EV085, unless no calibration runs in the bank or it already goes back. -/
def State.calAbandon (s : State) (k : Nat) : State :=
  if s.g (K.CALB_STATE k) = 0 ∨ s.g (K.CALB_STATE k) = 7 then s
  else (s.raiseCal 85 k (s.g (K.CALB_CORE k))).calLeave k

/-- The spare is taken from a calibration that it carries: its return is made with the swap (R307, R446). -/
def State.calTaken (s : State) (k : Nat) : State :=
  if s.g (K.CALB_STATE k) = 0 ∨ !(s.calOf k).swap then s
  else if s.g (K.CALB_STATE k) = 7 then s.setCal k { s.calOf k with home := true }
  else if s.g (K.CALB_STATE k) = 6 then
    ((s.raiseCal 85 k (s.g (K.CALB_CORE k))).p (K.IP_STATE (s.g (K.CALB_CORE k))) (s.calOf k).prior).calIdle k
  else (s.setCal k { s.calOf k with home := true }).calAbandon k

/-- R307: a fault of the core of a channel asks for the spare. -/
def State.spareFor (s : State) (c : Nat) : State :=
  let k := c / 8
  let st := s.g (K.SP_STATE k)
  if !s.gb (K.CH_SPARE_ALLOW c) then s.raiseBits 47 (2 ^ c)
  else if st = 0 then s.acceptFault k c none
  else if st = 1 then
    let s := if s.g (K.CALB_STATE k) = 1 then (s.raiseCal 85 k (s.g (K.CALB_CORE k))).calExit (s.g (K.CALB_CORE k)) |>.calIdle k else s
    (s.setBank k { s.bank k with search := none, change := none }).acceptFault k c none
  else if st = 2 ∨ st = 4 ∨ st = 5 then
    let old := s.g (K.SP_COVERS k)
    (s.calTaken k).acceptFault k c (some old)
  else
    let s := s.raiseBits 47 (2 ^ c)
    let h := s.bank k
    (s.setBank k { h with waiting := if h.waiting.contains c then h.waiting else h.waiting ++ [c] }).pbit (K.SP_WAITING k) (c % 8) true

/-- A channel returns to its own core: for a calibration, the anchor procedure included (R228, R455). -/
def State.comeBack (s : State) (k c : Nat) : State :=
  let s := (s.p (K.CH_CORE c) c).inc (K.SP_SWAPS k)
  let s := s.plLog Pl.spare (if s.g (K.CALB_STATE k) ≠ 0 ∨ (s.bank k).anchor then Pl.forCal else if s.g (K.SP_STATE k) = 3 then Pl.forFault else Pl.forHost) 0 (some c) none 0
  let s := s.setBank k { s.bank k with anchor := false }
  if s.g (K.CALB_STATE k) = 6 ∧ s.g (K.CALB_CORE k) = c then (s.p (K.IP_STATE c) (s.calOf k).prior).calIdle k else s

/-- A core is detached for its calibration; a core in FAULT stays in FAULT (R117, R128). -/
def State.goOffline (s : State) (core : Nat) : State := if s.g (K.IP_STATE core) = 2 then s else s.p (K.IP_STATE core) 1

/-- A channel goes to the spare. A calibration by swap settles from there (R440). -/
def State.goSpare (s : State) (k c after : Nat) : State :=
  let s := (((s.p (K.CH_CORE c) (64 + k)).p (K.SP_COVERS k) c).inc (K.SP_SWAPS k)).setSp k after
  let s := s.plLog Pl.spare (if after = 2 then Pl.forCal else if after = 3 then Pl.forFault else Pl.forHost) 0 (some c) (some (64 + k)) 0
  if after = 2 ∧ s.g (K.CALB_STATE k) = 1 then
    ((s.setCal k { s.calOf k with prior := s.g (K.IP_STATE c) }).goOffline c).phase k 2
  else s

/-- SPARE_SWAP_EFFECT (R289): the change of a bank takes effect. -/
def State.swapEffect (s : State) (k : Nat) : State :=
  match (s.bank k).change with
  | some x =>
    if s.tick < x.due then s
    else
      let s := s.setBank k { s.bank k with change := none, search := none, moved := x.back.toList ++ x.cover.toList }
      let s := s.p (K.SP_LAST_FN k) s.fn
      let s := (s.raiseBits 45 (bitmap (x.back.toList ++ x.cover.toList)))
      let s := match x.back with | some c => s.comeBack k c | none => s
      match x.cover with
      | some c => s.goSpare k c x.after
      | none => s.spareFreed k
  | none => s

/-- The channel that a spare feeds. -/
def State.fedBy (s : State) (k : Nat) : Option Nat := (instances 64 (fun c => s.g (K.CH_CORE c) == 64 + k)).head?

/-- A channel that a COVER_FAULT spare covers has become PARK (R310), at step 5 of the boundary. Where the spare carries it, it returns to
its own core and the spare is FREE; where the spare has yet to take it, the swap is dropped. A channel that the spare carries until then
returns at the boundary of the dropped swap, and the spare is in RETURN up to it. -/
def State.parkedFree (s : State) (k : Nat) : State :=
  let c := s.g (K.SP_COVERS k)
  let h := s.bank k
  if s.g (K.SP_STATE k) = 3 ∧ c < 64 ∧ s.src c = 0 then
    match s.fedBy k, h.change with
    | some old, some x =>
      if old = c then s
      else ((s.setBank k { h with change := some { x with back := some old, cover := none, after := 0 } }).p (K.SP_COVERS k) old).setSp k 5
    | some old, none =>
      if old = c then
        let s := (s.setBank k { h with search := none, moved := [c] }).p (K.SP_LAST_FN k) s.fn
        (((s.comeBack k c).p (K.CH_NEXT_VERNIER c) 0).raiseBits 45 (2 ^ c)).spareFreed k
      else s
    | none, _ => (s.setBank k { h with change := none, search := none }).spareFreed k
  else s

/-- SPARE_SWAP_EFFECT (R289). -/
def execSpareSwapEffect (k : Nat) : State → Host.Outcome State Fault Refusal :=
  run (fun s => if k < 8 then s.swapEffect k else s)

/-- SP_SWAP (R313). -/
def State.spSwapBody (s : State) (k c : Nat) : CmdRes :=
  if c / 8 ≠ k then s.deny RC.range
  else if s.g (K.SP_STATE k) ≠ 0 then s.deny RC.busy
  else (s.beginSearch k c .host).accept

def State.spSwapCmd (s : State) (w : Who) (k c : Nat) : CmdRes := s.call w (K.SP_SWAP k) c 1 (fun s => s.spSwapBody k c)

/-- SP_SWAP (R313). -/
def execSpSwap (who : Who) (k ch : Nat) : State → Host.Outcome State Fault Refusal :=
  run (fun s => s.command (fun s => s.spSwapCmd who k ch))

/-- SP_RETURN (R309, R313). -/
def State.spReturnBody (s : State) (k : Nat) : CmdRes :=
  let st := s.g (K.SP_STATE k)
  let c := s.g (K.SP_COVERS k)
  if (st ≠ 3 ∧ st ≠ 4) ∨ 64 ≤ c ∨ (s.bank k).change.isSome then s.deny RC.state
  else if s.g (K.IP_STATE c) ≠ 0 then s.deny RC.state
  else (s.beginSearch k c .back).accept

def State.spReturnCmd (s : State) (w : Who) (k arg : Nat) : CmdRes := s.call w (K.SP_RETURN k) arg 1 (fun s => s.spReturnBody k)

/-- SP_RETURN (R309). -/
def execSpReturn (who : Who) (k : Nat) : State → Host.Outcome State Fault Refusal :=
  run (fun s => s.command (fun s => s.spReturnCmd who k 0))

/-- SPARE_SEARCH_FAIL (R31, R308): the spare is FREE again and EV081 is raised; a calibration is deferred. -/
def State.searchFails (s : State) (k c : Nat) : State :=
  let core := s.g (K.CALB_CORE k)
  let s := (s.inc (K.SP_SEARCH_FAILS k)).setBank k { s.bank k with search := none }
  let s := if s.g (K.CALB_STATE k) = 1 then ((s.raiseCal 81 k core).calExit core).calIdle k else s.raiseCal 81 k c
  s.spareFreed k

/-- SPARE_SEARCH_FAIL (R308). -/
def execSpareSearchFail (k : Nat) : State → Host.Outcome State Fault Refusal :=
  run (fun s =>
    match (s.bank k).search, (s.bank k).change with
    | some x, none => if k < 8 ∧ x.why ≠ .back ∧ x.req + 999 ≤ s.tick then s.searchFails k x.ch else s
    | _, _ => s)

/-- RETURN_FORCED (R309). -/
def execReturnForced (k : Nat) : State → Host.Outcome State Fault Refusal :=
  run (fun s =>
    match (s.bank k).search, (s.bank k).change with
    | some x, none =>
      if k < 8 ∧ x.why = .back ∧ x.req + 999 ≤ s.tick then
        (s.inc (K.SP_SEARCH_FAILS k)).setBank k { s.bank k with change := some { back := some x.ch, cover := none, after := 0, due := s.soon } }
      else s
    | _, _ => s)

/-- A spare in FAULT that carries a channel returns it to its own core, once that is READY, at the first boundary that R23 allows
(R311). -/
def State.faultReturn (s : State) (k : Nat) : State :=
  match s.fedBy k, (s.bank k).change with
  | some c, none =>
    if s.g (K.SP_STATE k) = 6 ∧ s.g (K.IP_STATE c) = 0 then
      s.setBank k { s.bank k with search := none, change := some { back := some c, cover := none, after := 6, due := s.soon } }
    else s
  | _, _ => s

/-- A spare's own Index Plate faults (R311): the channel that it carries returns, at the boundary of an accepted return where there is
one; a channel that it was to take stays on its own core, by R307; a channel without a working core is reported. -/
def State.spareFaulted (s : State) (k : Nat) : State :=
  let next := (s.bank k).change
  let fed := s.fedBy k
  let s := (s.p (K.SP_STATE k) 6).setBank k { s.bank k with search := none, change := match fed, next with
    | some c, some x => if x.back = some c ∧ s.g (K.IP_STATE c) ≠ 2 then some { x with cover := none, after := 6 } else none
    | _, _ => none }
  let s := s.p (K.SP_COVERS k) (fed.getD 255)
  let s := match next.bind (·.cover) with
    | some c => if fed ≠ some c ∧ s.g (K.IP_STATE c) = 2 then s.spareFor c else s
    | none => s
  match fed with
  | some c => if s.g (K.IP_STATE c) = 0 ∨ (s.bank k).change.isSome then s.faultReturn k else s.raiseBits 47 (2 ^ c)
  | none => s

/-- EV040: the cause names the lowest core that entered FAULT in the frame, with its fault bits, and every channel (R127); the cores with
PHASE_DIST alone are told apart (R574). -/
def State.raisePlate (s : State) (core faultBits mask : Nat) : State :=
  let d := core + faultBits * 256
  let lower := fun a => if core < a % 128 then d else a
  let e := (s.ev 40).getD { detail := d, mask := 0, inputs := 0, bits := true }
  s.putEv 40 { e with
    detail := lower e.detail
    mask := e.mask ||| mask
    inputs := if faultBits = 4 then e.inputs ||| mask else e.inputs
    alt := if faultBits = 4 then e.alt else some (lower (e.alt.getD d)) }

/-- A core that entered FAULT in this frame reports a further bit: the cause of EV040 takes its fault bits, and the core has no longer
PHASE_DIST alone (R127, R574). -/
def State.joinPlate (s : State) (core faultBits mask : Nat) : State :=
  match s.ev 40 with
  | some e =>
    let d := core + faultBits * 256
    let renew := fun a => if core = a % 128 then d else a
    if e.inputs &&& mask = 0 ∧ e.detail % 128 ≠ core ∧ !e.alt.any (fun a => a % 128 == core) then s
    else s.putEv 40 { e with
      detail := renew e.detail
      inputs := if faultBits = 4 then e.inputs else e.inputs - (e.inputs &&& mask)
      alt := if faultBits = 4 then e.alt else some (match e.alt with
        | some a => if core < a % 128 then d else renew a
        | none => d) }
  | none => s

/-- PHASE_DIST first appears: its shadow opens with the next frame, and the lowest core of this frame is the first reporter (R574). -/
def State.phaseShadow (s : State) (core : Nat) : State :=
  let isPhase := fun (x : Shadow) => match x.kind with | .phaseDist _ => true | _ => false
  if s.shadows.any isPhase then
    { s with shadows := s.shadows.map (fun x => match x.kind with
        | .phaseDist c => if x.start = s.tick + 1 then { x with kind := .phaseDist (min c core) } else x
        | _ => x) }
  else { s with shadows := s.shadows ++ [{ kind := .phaseDist core, src := 40, seq := 0, start := s.tick + 1, till := none, logged := [] }] }

/-- A fault bit sets on a core (R127, R435, R446). A core already in FAULT only gains the bits. -/
def State.plateFault (s : State) (core faultBits : Nat) : State :=
  let all := s.g (K.IP_FAULT core) ||| faultBits
  let s := s.p (K.IP_FAULT core) all
  let carried := (s.channelOf core).toList
  if s.g (K.IP_STATE core) = 2 then s.joinPlate core all (bitmap carried)
  else
    let k := bankOf core
    let s := ((s.p (K.IP_STATE core) 2).raisePlate core all (bitmap carried)).wantCal core 0
    let s := s.boundsGone (carried.filter s.usesCore)
    let s := if s.g (K.CALB_CORE k) = core ∧ s.g (K.CALB_STATE k) ≠ 0 then (s.setCal k { s.calOf k with prior := 2 }).calAbandon k else s
    let s := if bit faultBits 2 then s.phaseShadow core else s
    if 64 ≤ core then s.spareFaulted k else s

/-- INDEX_PLATE_FAULT (R127). -/
def execIndexPlateFault (core faultBits : Nat) : State → Host.Outcome State Fault Refusal :=
  run (fun s => if core < 72 ∧ faultBits % 32 ≠ 0 then s.plateFault core (faultBits % 32) else s)

/-- A channel stops waiting when its core leaves FAULT, it needs no core, or the spare is not allowed (R310). -/
def State.waitFrame (s : State) (k : Nat) : State :=
  let h := s.bank k
  let stay := h.waiting.filter (fun c => s.g (K.IP_STATE c) == 2 && s.src c != 0 && s.src c != 4 && s.g (K.PAD_FMT c) != 0 && s.gb (K.CH_SPARE_ALLOW c))
  if stay = h.waiting then s else (s.setBank k { h with waiting := stay }).p (K.SP_WAITING k) (bitmap (stay.map (· % 8)))

/-- A bank is degraded (R312): its spare is consumed and a core of the bank that is neither the spare nor the covered channel's is in FAULT. -/
def State.degraded (s : State) (k : Nat) : Bool :=
  (s.g (K.SP_STATE k) == 3 || s.g (K.SP_STATE k) == 6) &&
  (List.range 8).any (fun i => s.g (K.IP_STATE (8 * k + i)) == 2 && s.g (K.SP_COVERS k) != 8 * k + i)

/-! ## Pad diagnostics (R314 to R317) -/

/-- A detector watches a pad of this format (R314). -/
def State.detects (s : State) (c det : Nat) : Bool :=
  let f := s.g (K.PAD_FMT c)
  f != 0 && bit (s.g (K.PAD_DIAG_MASK c)) det && !(s.pad c).waits &&
  (if det = 2 then f ≤ 6 else if det = 3 then f ≤ 5 || f == 8
   else if det = 4 then s.g (K.PAD_LOOP_REF c) != 255 || s.ancRun.any (fun a => a.ch == c) else true)

/-- Frames in a row that a monitor has shown the condition of a detector, and has not, after another frame. -/
def runOn (r : Nat × Nat) (b : Bool) : Nat × Nat := if b then (r.1 + 1, 0) else (0, r.2 + 1)

/-- One frame of the detectors of a pad: what its monitor recorded (R314). While its driver is off they do not count, and start over (R645);
a driver that is shut down is only probed (R315). -/
def State.detectFrame (s : State) (mons : List (Nat × PadMon)) (c : Nat) : State :=
  let h := s.pad c
  let mon := (mons.find? (fun p => p.1 == c)).map (·.2)
  if mon.isNone ∧ h.runs = [] then s
  else
    let r := (List.range 4).map (fun d =>
      if h.waits ∨ s.g (K.PAD_FMT c) = 0 ∨ s.gb (K.PAD_SHUTDOWN c) then (0, 0)
      else runOn (h.runs.getD d (0, 0)) (s.detects c d && mon.any (s.shows c d)))
    s.setPad c { h with runs := r }

/-- Returned edges in a row against and with the direction of the pad, after another at its loop input (R314). -/
def State.returned (s : State) (n : Nat) (rising : Bool) : State :=
  s.each (instances 64 (fun c => s.g (K.PAD_LOOP_REF c) == n && s.src c != 4 && s.g (K.PAD_LEVEL c) != 2 && s.detects c 4)) (fun s c =>
    let h := s.pad c
    s.setPad c { h with back := runOn h.back (rising == ((s.g (K.PAD_LEVEL c) == 1) == s.inverted c)) })

/-- INPUT_EDGE (R320): the edge is timestamped, and is a returned edge of the pads that name its input (R314). -/
def execInputEdge (ref t : Nat) (rising : Bool) : State → Host.Outcome State Fault Refusal :=
  run (fun s => if ref < 16 ∧ 2 ≤ s.mode then (s.inputEdge ref (s.stamp t) rising).returned ref rising else s)

/-- A detector has found its condition for the frames, or returned edges, of its row (R314). The edges that a clock pad or CAL_RET returns
are not followed one by one. -/
def State.detected (s : State) (c det : Nat) : Bool :=
  let h := s.pad c
  if det ≤ 2 then 4 ≤ (h.runs.getD det (0, 0)).1
  else if det = 3 then 16 ≤ (h.runs.getD 3 (0, 0)).1
  else 16 ≤ h.back.1 || s.src c == 4 || s.ancRun.any (fun a => a.ch == c)

/-- The condition of a detector has been absent for the frames, or returned edges, of its row (R314). -/
def State.detectOver (s : State) (c det : Nat) : Bool :=
  let h := s.pad c
  if det = 3 then 16 ≤ (h.runs.getD 3 (0, 0)).2
  else 16 ≤ h.back.2 || s.src c == 4 || s.ancRun.any (fun a => a.ch == c)

/-- A detector of a pad declares (R314 to R317). -/
def State.padDeclare (s : State) (c det : Nat) : State :=
  let s := (s.pbit (K.PAD_DIAG c) det true).inc (K.PAD_DETECTIONS c)
  if det ≤ 2 then
    let s := (s.driverOff c).p (K.PAD_SHUTDOWN c) 1
    (s.setPad c { s.pad c with probed := s.tick, clean := 0, resume := false }).raiseBits 42 (2 ^ c)
  else if det = 3 then s.raiseOpen (2 ^ c) 0
  else (s.setPad c { s.pad c with invert := if s.gb (K.PAD_AUTO_INV c) then some s.tick else none }).raiseBits 44 (2 ^ c)

/-- PAD_FAULT_DECLARE (R314). -/
def execPadFaultDeclare (c det : Nat) : State → Host.Outcome State Fault Refusal :=
  run (fun s => if c < 64 ∧ det < 5 ∧ s.detects c det ∧ s.detected c det ∧ !bit (s.g (K.PAD_DIAG c)) det then s.padDeclare c det else s)

/-- PAD_FAULT_CLEAR (R314): OPEN and REVERSED; a short clears by its probes. -/
def execPadFaultClear (c det : Nat) : State → Host.Outcome State Fault Refusal :=
  run (fun s => if c < 64 ∧ (det = 3 ∨ det = 4) ∧ s.detectOver c det ∧ bit (s.g (K.PAD_DIAG c)) det then s.pbit (K.PAD_DIAG c) det false else s)

/-- PAD_PROBE (R315): after three clean probes in a row the short clears and the driver may resume. -/
def State.probe (s : State) (c : Nat) (clean : Bool) : State :=
  let h := s.pad c
  let n := if clean then h.clean + 1 else 0
  let s := (s.inc (K.PAD_PROBES c)).setPad c { h with probed := s.tick, clean := n, resume := 3 ≤ n }
  if 3 ≤ n then s.p (K.PAD_DIAG c) (s.g (K.PAD_DIAG c) / 8 * 8) else s

/-- PAD_PROBE (R315). -/
def execPadProbe (c : Nat) (clean : Bool) : State → Host.Outcome State Fault Refusal :=
  run (fun s => if c < 64 ∧ s.gb (K.PAD_SHUTDOWN c) ∧ (s.pad c).probed + 125000 ≤ s.tick then s.probe c clean else s)

/-- PAD_DRIVER_RESUME (R315). -/
def execPadDriverResume (c : Nat) : State → Host.Outcome State Fault Refusal :=
  run (fun s =>
    if c < 64 ∧ s.gb (K.PAD_SHUTDOWN c) ∧ (s.pad c).resume ∧ (s.pad c).probed < s.tick then
      let s := (s.setPad c { s.pad c with resume := false, clean := 0 }).p (K.PAD_SHUTDOWN c) 0
      if (s.pad c).waits ∨ s.g (K.PAD_FMT c) = 0 then s else s.driverOn c
    else s)

/-- PAD_AUTO_INVERT (R317): at the boundary after the declaration; the detector restarts. -/
def execPadAutoInvert (c : Nat) : State → Host.Outcome State Fault Refusal :=
  run (fun s =>
    if c < 64 ∧ (s.pad c).invert.any (fun t => t < s.tick) then
      let s := s.setPad c { s.pad c with invert := none, back := (0, 0) }
      ((s.p (K.PAD_AUTO_INVERTED c) (1 - s.g (K.PAD_AUTO_INVERTED c))).pbit (K.PAD_DIAG c) 4 false).settlePad c
    else s)

/-! ## Inputs (R321, R322) -/

/-- INPUT_DIAG_DECLARE (R321): OPEN (2) and PN_SHORT (1) of a DIFF input. -/
def execInputDiagDeclare (n det : Nat) (declared : Bool) : State → Host.Outcome State Fault Refusal :=
  run (fun s =>
    if n < 16 ∧ (det = 1 ∨ det = 2) ∧ s.g (K.IN_FMT n) = 1 ∧ bit (s.g (K.IN_DIAG n)) det ≠ declared then
      let s := s.pbit (K.IN_DIAG n) det declared
      if declared then s.raiseOpen 0 (2 ^ n) else s
    else s)

/-- INPUT_REVERSED (R322). -/
def execInputReversed (n : Nat) : State → Host.Outcome State Fault Refusal :=
  run (fun s =>
    if n < 16 ∧ s.g (K.IN_FMT n) = 1 ∧ s.slotType n = 1 ∧ !bit (s.g (K.IN_DIAG n)) 3 then
      (s.pbit (K.IN_DIAG n) 3 true).setInp n { s.inp n with invert := if s.gb (K.IN_AUTO_INV n) then some s.tick else none }
    else s)

/-- INPUT_AUTO_INVERT (R322): at the boundary after the declaration; the detector restarts, the slot is disqualified. -/
def execInputAutoInvert (n : Nat) : State → Host.Outcome State Fault Refusal :=
  run (fun s =>
    if n < 16 ∧ (s.inp n).invert.any (fun t => t < s.tick) then
      let s := s.setInp n { s.inp n with invert := none }
      let s := ((s.p (K.IN_AUTO_INVERTED n) (1 - s.g (K.IN_AUTO_INVERTED n))).inc (K.IN_INV_TOGGLES n)).p (K.IN_DIAG n)
        (setBit (setBit (s.g (K.IN_DIAG n)) 3 false) 0 true)
      (s.setSlot n { s.slot n with events := setBit (s.slot n).events 1 true }).raiseBits 46 (2 ^ n)
    else s)

/-! ## Supplies and temperature (R558, R641, R654) -/

/-- Typical values of the VDDO classes in mV. -/
def classMv (cls : Nat) : Nat := if cls = 1 then 1200 else if cls = 2 then 1800 else if cls = 3 then 2500 else if cls = 4 then 3300 else 0
/-- A voltage lies within p percent of a value. -/
def inPct (mv v p : Nat) : Bool := v * (100 - p) ≤ mv * 100 && mv * 100 ≤ v * (100 + p)

/-- One frame of a bank's VDDO (R641): the counts, and the bounds of its channels outside ±5 % of the class in force. -/
def State.vddoFrame (s : State) (k mv : Nat) : State :=
  let h := s.bank k
  let cls := s.g (K.BANK_VDDO_CLASS k)
  let near := ((List.range 5).find? (fun c => c != 0 && inPct mv (classMv c) 4)).getD 0
  let out := cls != 0 && !inPct mv (classMv cls) 5
  let s := (s.p (K.BANK_VDDO_MV k) mv).setBank k { h with
    vIn := if near = h.vIn.1 then (near, h.vIn.2 + 1) else (near, 1), vOut := if out then h.vOut + 1 else 0 }
  let s := if out then s.each ((List.range 8).map (8 * k + ·)) (fun s c =>
      ((s.setPad c { s.pad c with vddoBad := true, audited := false }).p (K.CH_BOUND c) unknownBound).judge c) else s
  if cls = 0 ∧ (List.range 8).any (fun i => s.g (K.PAD_FMT (8 * k + i)) != 0) then s.raiseBits 114 (2 ^ k) else s

/-- The class a bank's VDDO asks for: 0 after 16 frames outside ±5 %, a class after 16 frames within ±4 % of it. -/
def State.vddoNext (s : State) (k : Nat) : Option Nat :=
  let h := s.bank k
  let cls := s.g (K.BANK_VDDO_CLASS k)
  if cls ≠ 0 then (if 16 ≤ h.vOut then some 0 else none)
  else if h.vIn.1 ≠ 0 ∧ 16 ≤ h.vIn.2 then some h.vIn.1 else none

/-- VDDO_CLASS_CHANGE (R641): EV114; drivers that the class does not accept go off (R645). -/
def execVddoClassChange (k : Nat) : State → Host.Outcome State Fault Refusal :=
  run (fun s =>
    match s.vddoNext k with
    | some cls =>
      if k < 8 then
        let s := ((s.p (K.BANK_VDDO_CLASS k) cls).setBank k { s.bank k with vOut := 0 }).raiseBits 114 (2 ^ k)
        s.each ((List.range 8).map (8 * k + ·)) State.padClass
      else s
    | none => s)

/-- The recommended range of a rail in mV (R639): VDD and VDDA in tenths. -/
def State.railOk (s : State) (rail : Nat) : Bool :=
  let m := s.meas
  if rail = 0 then 7275 ≤ m.vdd * 10 && m.vdd * 10 ≤ 7725
  else if rail = 1 then 873 ≤ m.vdda && m.vdda ≤ 927
  else if rail = 2 then 1710 ≤ m.vddio && m.vddio ≤ 1890
  else 3135 ≤ m.vddh && m.vddh ≤ 3465

/-- SUPPLY_OUT_OF_RANGE (R558): 16 consecutive frames outside. -/
def execSupplyOutOfRange (rail : Nat) : State → Host.Outcome State Fault Refusal :=
  run (fun s => if rail < 4 ∧ 16 ≤ s.supOut.getD rail 0 then s.raiseVal (if rail = 0 then 112 else if rail = 1 then 113 else 115) 0 else s)

/-- The maximum junction temperature of the grade in 0.01 °C (R639). -/
def gradeMax : Int := if Config.gradeI then 11000 else 10500

/-- One frame of supplies and temperature: the counts of R558 and R654, EV116 and EV117. -/
def State.supplyFrame (s : State) : State :=
  let s : State := { s with
    supOut := (List.range 4).map (fun r => if s.railOk r then 0 else s.supOut.getD r 0 + 1)
    hotFrames := if s.meas.temps.any (fun t => 12500 ≤ t) then s.hotFrames + 1 else 0 }
  let s := s.each (List.range 72) (fun s c => s.pi (K.IP_TEMP_NOW c) (s.meas.temps.getD (bankOf c) 0))
  let s := s.each (List.range 8) (fun s k => s.vddoFrame k (s.meas.vddo.getD k 0))
  let hot := fun (limit : Int) => bitmap ((List.range 8).filter (fun k => limit ≤ s.meas.temps.getD k 0))
  let s := if hot gradeMax = 0 then s else s.raiseBits 116 (hot gradeMax)
  if hot (gradeMax + 1000) = 0 then s else s.raiseBits 117 (hot (gradeMax + 1000))

end Sys2Proof.Machine
end

