-- ==== Sys2Proof/Machine/Calibration.lean ====
section
/-! DEFINITION. Calibration and the Calliper: core calibrations, the live pad audit, the anchor procedure, calibration sets (R429 to R468). -/

namespace Sys2Proof.Machine

/-! ## Plausibility (R433, R434) -/

/-- The first check a block fails; 0 when it passes. Pads bring the state of the pad and its expected swing (R648), other blocks the
amplitude monitor of their tap; all but the audit the reference. -/
def State.blockCode (s : State) (b : CalBlock) (pad : Option Nat) (noRef : Bool) : Nat :=
  let m := s.g K.CAL_SPREAD_MAX
  let far := match pad with
    | some c => b.swing * 200 < s.padSwing c || s.padSwing c * 150 < b.swing * 10000
    | none => b.lowSwing
  if b.seen ≠ b.sent then 1
  else if far then 2
  else if m < b.sigma ∨ 8 * m < b.departure then 3
  else if pad.any (fun c => s.g (K.PAD_DIAG c) % 16 != 0 || s.gb (K.PAD_SHUTDOWN c)) then 4
  else if noRef ∧ s.gb K.CAL_TRACE_EN then 5 else 0

/-- A block fails: EV083 and its record. Kinds: 1 calibration, 2 verification, 3 audit, 4 anchor. -/
def State.blockFails (s : State) (k code kind ident : Nat) : State :=
  ((s.p K.CAL_LAST_INVALID (code * 65536 + kind * 256 + ident)).p K.CAL_LAST_INVALID_FN s.fn).raiseCal 83 k ident

/-- 3·σ/√n, rounded up. -/
def spreadOf (sigma n : Nat) : Nat := ceilSqrt (ceilDiv (9 * sigma * sigma) (max 1 n))

/-! ## Requests (R435 to R439, R449) -/

/-- A calibration of a core is running. -/
def State.calRuns (s : State) (core : Nat) : Bool := s.g (K.CALB_CORE (bankOf core)) == core && s.g (K.CALB_STATE (bankOf core)) != 0
/-- Core i of a bank; 8 is the spare. -/
def bankCore (k i : Nat) : Nat := if i = 8 then 64 + k else 8 * k + i
/-- The temperature difference of a core. -/
def State.tempDiff (s : State) (core : Nat) : Nat := (s.gi (K.IP_TEMP_NOW core) - s.gi (K.IP_TEMP_CAL core)).natAbs

/-- No reason is left: the request of a core is over. -/
def State.calSettled (s : State) (core : Nat) : State :=
  if s.g (K.CORE_CAL_REASON core) ≠ 0 then s
  else { s with calSince := Sp.del s.calSince core, calRetry := Sp.del s.calRetry core } |>.p (K.CORE_CAL_AGE core) 0 |>.p (K.CORE_CAL_OVERDUE core) 0

/-- CAL_OVERDUE_BANKS, and the CAL_OVERDUE reason while it is nonzero (R449). -/
def State.overdueBanks (s : State) : State :=
  let m := bitmap ((List.range 8).filter (fun k => (List.range 9).any (fun i => s.gb (K.CORE_CAL_OVERDUE (bankCore k i)))))
  let s := s.p K.CAL_OVERDUE_BANKS m
  if m = 0 then s.clearReplace 10 else s

/-- The core may be calibrated where it is (R437, R311). A spare in FAULT that covers nothing is calibrated as a FREE one is. -/
def State.directPath (s : State) (core : Nat) : Bool :=
  let k := bankOf core
  if 64 ≤ core then s.g (K.SP_STATE k) == 0 || (s.g (K.SP_STATE k) == 6 && s.g (K.SP_COVERS k) == 255)
  else s.idleChannel core || (s.g (K.CH_CORE core) == 64 + k && s.g (K.SP_STATE k) == 3)

/-- A core of a bank is eligible (R437). -/
def State.eligible (s : State) (core : Nat) : Bool :=
  let r := s.g (K.CORE_CAL_REASON core)
  r != 0 && !bit r 6 && s.clock != .byp && s.g K.CAL_REF_STATE != 2 && !s.ancRun.any (fun a => a.ch / 8 == bankOf core) &&
  (s.directPath core || (core < 64 && s.usesCore core && s.g (K.SP_STATE (bankOf core)) == 0))

/-- A core waits for its spare (R438). -/
def State.waitsSpare (s : State) (core : Nat) : Bool :=
  let st := s.g (K.SP_STATE (bankOf core))
  core < 64 && s.g (K.CORE_CAL_REASON core) != 0 && !s.calRuns core && s.usesCore core && !s.directPath core && (st == 3 || st == 4 || st == 6)

/-- CORE_CAL_STATE, CALB_QUEUE and CALB_SPARE_BUSY of a bank; EV082 when a wait begins (R438, R465, R466). -/
def State.calQueue (s : State) (k : Nat) : State :=
  let s := s.each ((List.range 9).map (bankCore k)) (fun s c =>
    if s.calRuns c then s
    else if s.waitsSpare c then
      (if s.g (K.CORE_CAL_STATE c) = 2 then s else (s.p (K.CORE_CAL_STATE c) 2).raiseCal 82 k c)
    else s.p (K.CORE_CAL_STATE c) (if s.g (K.CORE_CAL_REASON c) = 0 then 0 else 1))
  let queued := (List.range 9).filter (fun i => s.g (K.CORE_CAL_REASON (bankCore k i)) != 0 && !s.calRuns (bankCore k i))
  (s.p (K.CALB_QUEUE k) (bitmap queued)).p (K.CALB_SPARE_BUSY k) (b2n (queued.any (fun i => s.waitsSpare (bankCore k i))))

/-- The lowest reason bit of a core. -/
def lowestBit (r : Nat) : Nat := ((List.range 7).find? (fun i => bit r i)).getD 7

/-- A core goes before another (R439). -/
def State.calBefore (s : State) (a b : Nat) : Bool :=
  let ra := lowestBit (s.g (K.CORE_CAL_REASON a))
  let rb := lowestBit (s.g (K.CORE_CAL_REASON b))
  ra < rb || (ra == rb && ra == 4 && s.tempDiff b < s.tempDiff a)

/-- The core that an idle bank starts. -/
def State.calNext (s : State) (k : Nat) : Option Nat :=
  (((List.range 9).map (bankCore k)).filter s.eligible).foldl (fun best c =>
    match best with
    | some b => if s.calBefore c b then some c else best
    | none => some c) none

/-- A core calibration starts (R440). -/
def State.calStart (s : State) (k core : Nat) : State :=
  let direct := s.directPath core
  let s := (s.p (K.CALB_CORE k) core).p (K.CORE_CAL_STATE core) 3
  let s := s.setCal k { swap := !direct, prior := s.g (K.IP_STATE core) }
  if direct then (s.goOffline core).phase k 2 else (s.phase k 1).beginSearch k core .cal

/-- CORE_CAL_START (R439). -/
def execCoreCalStart (k : Nat) : State → Host.Outcome State Fault Refusal :=
  run (fun s =>
    if 8 ≤ k ∨ s.mode < 2 then s
    else
      let s := s.calQueue k
      if s.g (K.CALB_STATE k) ≠ 0 then s
      else match s.calNext k with
        | some c => s.calStart k c
        | none => s)

/-- CAL_SETTLE_END (R440); on BYP the heads take no samples, and the phase lasts (R430). -/
def execCalSettleEnd (k : Nat) : State → Host.Outcome State Fault Refusal :=
  run (fun s => if k < 8 ∧ s.g (K.CALB_STATE k) = 2 ∧ (s.calOf k).began + 64 ≤ s.tick ∧ s.clock ≠ .byp then s.phase k 3 else s)

/-! ## Measurement, steps and verification (R441 to R447) -/

/-- A calibration fails for its result (R442, R445). -/
def State.calFails (s : State) (k : Nat) : State :=
  let core := s.g (K.CALB_CORE k)
  (((s.raiseCal 84 k core).p (K.CORE_CAL_FAILS core) (min 255 (s.g (K.CORE_CAL_FAILS core) + 1)))).calLeave k

/-- MEASURE completes (R433, R441, R442): each new entry is the old one less its residual. -/
def State.measured (s : State) (k : Nat) (res : List Int) (b : CalBlock) : State :=
  let core := s.g (K.CALB_CORE k)
  let h := s.calOf k
  let code := s.blockCode b none h.noRef
  if code ≠ 0 then (s.blockFails k code 1 core).calAbandon k
  else
    let old := s.entriesOf core
    let new := (old.zip res).map (fun p => p.1 - p.2)
    if new.any (fun x => x < -32768 || 32767 < x) then s.calFails k
    else
      let s := s.phase k 4
      s.setCal k { s.calOf k with old := old, new := new, stepAt := s.soon }

/-- CAL_MEASURE_COMPLETE (R441). -/
def execCalMeasureComplete (k : Nat) (residuals : List Int) (blk : CalBlock) : State → Host.Outcome State Fault Refusal :=
  run (fun s =>
    if k < 8 ∧ s.g (K.CALB_STATE k) = 3 ∧ (s.calOf k).began + 299594 ≤ s.tick ∧ s.clock ≠ .byp ∧ residuals.length = 512
    then s.measured k residuals blk else s)

/-- CAL_STEPS_DONE (R440): the frame after the last step. -/
def execCalStepsDone (k : Nat) : State → Host.Outcome State Fault Refusal :=
  run (fun s =>
    let h := s.calOf k
    if k < 8 ∧ s.g (K.CALB_STATE k) = 4 ∧ h.stepAt ≤ s.tick ∧ s.entriesOf (s.g (K.CALB_CORE k)) = h.new ∧ h.last.all (fun t => t < s.tick)
    then s.phase k 5 else s)

/-- A calibration passes (R445, R128). -/
def State.calPasses (s : State) (k inlA inlB : Nat) : State :=
  let core := s.g (K.CALB_CORE k)
  let h := s.calOf k
  let s := s.raiseCal 80 k core
  let s := s.pAll [(K.IP_INL_A core, inlA), (K.IP_INL_B core, inlB), (K.IP_CAL_UNC core, max inlA inlB + 1), (K.CORE_CAL_REASON core, 0),
    (K.CORE_CAL_FAILS core, 0), (K.CORE_CAL_FN core, s.fn), (K.CAL_DIRTY, 1), (K.IP_FAULT core, 0)]
  let s := (((s.pi (K.IP_TEMP_CAL core) h.temp).inc (K.CORE_CAL_COUNT core)).inc K.CAL_DONE).calSettled core
  let s := (s.setCal k { h with prior := 0 }).overdueBanks
  if h.swap ∧ !h.home then s.calReturn k
  else
    let s := (s.p (K.IP_STATE core) 0).calIdle k
    if 64 ≤ core ∧ s.g (K.SP_STATE k) = 6 then s.spareFreed k else s

/-- CAL_VERIFY_COMPLETE (R444, R445). -/
def execCalVerifyComplete (k : Nat) (errA errB : Int) (blk : CalBlock) : State → Host.Outcome State Fault Refusal :=
  run (fun s =>
    let h := s.calOf k
    if k < 8 ∧ s.g (K.CALB_STATE k) = 5 ∧ h.began + 1171 ≤ s.tick ∧ s.clock ≠ .byp then
      let code := s.blockCode blk none h.noRef
      let a := sixteenthsToBound errA
      let b := sixteenthsToBound errB
      if code ≠ 0 then (s.blockFails k code 2 (s.g (K.CALB_CORE k))).calAbandon k
      else if max a b + 1 ≤ 5 then s.calPasses k a b
      else s.calFails k
    else s)

/-- CAL_RESTORE_COMPLETE (R447): the return of a swap path follows, unless R307 has forced it. -/
def execCalRestoreComplete (k : Nat) : State → Host.Outcome State Fault Refusal :=
  run (fun s =>
    let h := s.calOf k
    let core := s.g (K.CALB_CORE k)
    if k < 8 ∧ s.g (K.CALB_STATE k) = 7 ∧ s.entriesOf core = h.old ∧ h.last.all (fun t => t < s.tick) then
      let s := s.setCore core { s.core core with restoring := false }
      if h.swap ∧ !h.home then s.calReturn k else (s.p (K.IP_STATE core) h.prior).calIdle k
    else s)

/-- CAL_RETRY_EXPIRY (R435): RETRY clears. -/
def execCalRetryExpiry (core : Nat) : State → Host.Outcome State Fault Refusal :=
  run (fun s =>
    match Sp.find s.calRetry core with
    | some t =>
      if t ≤ s.tick then (({ s with calRetry := Sp.del s.calRetry core } : State).pbit (K.CORE_CAL_REASON core) 6 false).calSettled core else s
    | none => s)

/-- CAL_PERIOD_EXPIRY (R435, R436). -/
def execCalPeriodExpiry (core : Nat) : State → Host.Outcome State Fault Refusal :=
  run (fun s =>
    let p := s.g K.CAL_PERIOD
    if core < 72 ∧ s.gb K.CAL_AUTO ∧ p ≠ 0 ∧ s.g (K.CORE_CAL_FN core) + p * 1250000 ≤ s.fn ∧ !s.calRuns core then s.wantCal core 5 else s)

/-- The pending age of a core in frames (R449). -/
def State.calAge (s : State) (core : Nat) : Nat :=
  match Sp.find s.calSince core with
  | some t => s.tick + 1 - t
  | none => 0

/-- A core becomes overdue; the first one sets the reason and raises EV086 (R449). -/
def State.goesOverdue (s : State) (core : Nat) : State :=
  let first := s.g K.CAL_OVERDUE_BANKS = 0
  let s := (s.p (K.CORE_CAL_OVERDUE core) 1).overdueBanks
  if first then (s.setReplace 10).raiseCal 86 (bankOf core) core else s

/-- CAL_OVERDUE (R449). -/
def execCalOverdue (core : Nat) : State → Host.Outcome State Fault Refusal :=
  run (fun s =>
    if core < 72 ∧ !s.gb (K.CORE_CAL_OVERDUE core) ∧ s.g K.CAL_OVERDUE * 1250000 < s.calAge core then s.goesOverdue core else s)

/-- CORE_CAL_REQUEST (R436). -/
def State.coreCalBody (s : State) (core : Nat) : CmdRes := if s.calRuns core then s.deny RC.busy else (s.wantCal core 2).done

def State.coreCalCmd (s : State) (w : Who) (core arg : Nat) : CmdRes :=
  s.call w (K.CORE_CAL_REQUEST core) arg 1 (fun s => s.coreCalBody core)

/-- CORE_CAL_REQUEST (R436). -/
def execCoreCalRequest (who : Who) (core : Nat) : State → Host.Outcome State Fault Refusal :=
  run (fun s => s.command (fun s => s.coreCalCmd who core 0))

def State.calAllCmd (s : State) (w : Who) (arg : Nat) : CmdRes :=
  s.call w K.CAL_ALL arg 1 (fun s => (s.each ((List.range 72).filter (fun c => !s.calRuns c)) (fun s c => s.wantCal c 2)).done)

/-- CAL_ALL (R463). -/
def execCalAll (who : Who) : State → Host.Outcome State Fault Refusal := run (fun s => s.command (fun s => s.calAllCmd who 0))

/-- CALLIPER_SELF_CAL (R19, R430): once per second, of the nine heads; on BYP they take no samples. -/
def execCalliperSelfCal (residuals : List Nat) : State → Host.Outcome State Fault Refusal :=
  run (fun s =>
    if 2 ≤ s.mode ∧ s.clock ≠ .byp ∧ residuals.length = 9 ∧ s.selfCal.all (fun t => t + 1250000 ≤ s.tick) then
      ({ s with selfCal := some s.tick } : State).p K.SR_CAL_TERM (residuals.foldl max 5)
    else s)

/-- The audit blocks of the pads of a bank are discarded: new ones open (R430). -/
def State.auditAnew (s : State) (k : Nat) : State :=
  let h := s.bank k
  (s.setBank k { h with used := h.samples }).each ((List.range 8).map (8 * k + ·)) (fun s c =>
    s.setPad c { s.pad c with auditAt := s.tick, auditHad := h.samples })

/-- One frame of a bank head's audit samples: 8, or 1 beside a calibration in MEASURE or VERIFY; none on BYP (R429 to R431). -/
def State.headFrameOf (s : State) (k : Nat) : State :=
  let n := if s.clock = .byp then 0 else if s.g (K.CALB_STATE k) = 3 ∨ s.g (K.CALB_STATE k) = 5 then 1 else 8
  s.setBank k { s.bank k with samples := (s.bank k).samples + n }

/-- The head of a pad's bank has had the samples of a block since the block opened, beside those of the other pads (R18, R429). -/
def State.sampled (s : State) (c n : Nat) : Bool :=
  let h := s.bank (c / 8)
  (s.pad c).auditHad + n ≤ h.samples && h.used + n ≤ h.samples

/-! ## The live pad audit (R450 to R453) -/

/-- AUDIT_RESID: the remaining trim and three standard errors, rounded up as one sum, never below 2 (R452). -/
def State.residual (s : State) (c : Nat) : Nat :=
  let b := Sp.get (fun _ => (0, 1)) s.auditBlk c
  let a := (s.gi (K.AUDIT_TARGET c) - s.gi (K.CH_TRIM c)).natAbs * 1000000
  max 2 (ceilDiv (a + ceilSqrt (ceilDiv (9 * b.1 * b.1 * 16777216 ^ 2) (max 1 b.2))) 16777216)

/-- AUDIT_STATE, and the end of settling at convergence (R121, R452). -/
def State.auditState (s : State) (c : Nat) : State :=
  let h := s.pad c
  let settling := (s.gb (K.IP_SETTLING c) || h.vddoBad) && !h.audited
  let ok := s.g (K.AUDIT_RESID c) ≤ 5 && !settling
  let s := s.p (K.AUDIT_STATE c) (if s.auditIdle c then 0 else if ok then 2 else if s.gb (K.IP_SETTLING c) then 3 else 1)
  if ok ∧ h.audited then
    let s := if s.gb (K.IP_SETTLING c) then (s.p (K.IP_SETTLING c) 0).setPad c { s.pad c with settle := none } else s
    if h.vddoBad ∧ s.classOf c ≠ 0 ∧ (s.bank (c / 8)).vOut = 0 then s.setPad c { s.pad c with vddoBad := false } else s
  else s

/-- One frame of a pad's trim, its residual and its state (R451, R452, R448). -/
def State.trimFrame (s : State) (c : Nat) : State :=
  let held := s.clock = .byp ∨ s.auditIdle c
  let s := s.trimStep c
  (if held then s else s.p (K.AUDIT_RESID c) (s.residual c)).auditState c

/-- An audit block closes (R433, R434, R451, R453). -/
def State.auditClose (s : State) (c : Nat) (b : CalBlock) : State :=
  let h := s.bank (c / 8)
  let s := (s.setPad c { s.pad c with auditAt := s.tick, auditHad := h.samples }).setBank (c / 8) { h with used := h.used + b.n }
  let code := s.blockCode b (some c) false
  if code ≠ 0 then (s.blockFails (c / 8) code 3 c).inc (K.AUDIT_REJECTS c)
  else
    let far := 16384 < b.mean.natAbs
    let s := ((s.pi (K.AUDIT_TARGET c) (clampAbs 16384 (-b.mean))).pi (K.AUDIT_LAST_MEAN c) b.mean).inc (K.AUDIT_BLOCKS c)
    let s : State := { s with auditBlk := Sp.ins s.auditBlk c (b.sigma, b.n) }
    let s := s.setPad c { s.pad c with audited := true, ranged := far, goalNext := some (clampAbs 16384 (-b.mean), s.soon) }
    let s := if far then s.raiseCal 90 (c / 8) c else s
    (s.p (K.AUDIT_RESID c) (s.residual c)).auditState c

/-- AUDIT_BLOCK_CLOSE (R451): at 256 samples, or at 16 or more after 1,024 frames, within the share of the head (R18, R19). -/
def execAuditBlockClose (pad : Nat) (blk : CalBlock) : State → Host.Outcome State Fault Refusal :=
  run (fun s =>
    if pad < 64 ∧ 2 ≤ s.mode ∧ s.clock = .spindle ∧ s.sampled pad blk.n ∧
        (blk.n = 256 ∨ (16 ≤ blk.n ∧ blk.n < 256 ∧ (s.pad pad).auditAt + 1024 ≤ s.tick)) then s.auditClose pad blk
    else s)

/-! ## The anchor procedure (R454 to R456) -/

/-- A core of an anchor procedure begins its run: the own core at once, the spare by a swap (R455). -/
def State.ancNext (s : State) (a : AncRun) (core : Nat) (rest : List Nat) : State :=
  if core = a.ch then { s with ancRun := some { a with core := core, left := rest, began := some s.tick, noRef := false } }
  else
    let k := a.ch / 8
    let s := (s.setBank k { s.bank k with change := some { back := none, cover := some a.ch, after := 2, due := s.soon } }).setSp k 1
    { s with ancRun := some { a with core := core, left := rest, began := none, noRef := false } }

/-- ANC_RUN (R454). Cores 0 names none: RANGE. -/
def State.ancRunBody (s : State) (arg : Nat) : CmdRes :=
  let c := bits arg 5 0
  let cores := bits arg 9 8
  let k := c / 8
  if s.mode ≠ 9 ∨ s.src c ≠ 0 ∨ s.g (K.PAD_FMT c) = 0 ∨ s.g K.CAL_REF_STATE ≠ 1 then s.deny RC.state
  else if s.g K.ANC_FIXTURE_UNC = unknownBound ∨ cores = 0 then s.deny RC.range
  else if s.g (K.CALB_STATE k) ≠ 0 ∨ (bit cores 1 ∧ s.g (K.SP_STATE k) ≠ 0) ∨ s.g K.ANC_STATE ≠ 0 then s.deny RC.busy
  else
    let l := (if bit cores 0 then [c] else []) ++ (if bit cores 1 then [64 + k] else [])
    match l with
    | x :: rest => ((s.p K.ANC_STATE 1).ancNext { ch := c, core := x } x rest).accept
    | [] => s.deny RC.range

def State.ancRunCmd (s : State) (w : Who) (arg : Nat) : CmdRes := s.call w K.ANC_RUN arg 3 (fun s => s.ancRunBody arg)

/-- ANC_RUN (R454). -/
def execAncRun (who : Who) (arg : Nat) : State → Host.Outcome State Fault Refusal :=
  run (fun s => s.command (fun s => s.ancRunCmd who arg))

/-- The spare of an anchor procedure goes back; every boundary is quiet for a PARK channel. -/
def State.ancBack (s : State) (c : Nat) : State :=
  if s.g (K.CH_CORE c) = c then s else (s.setBank (c / 8) { s.bank (c / 8) with anchor := true }).beginSearch (c / 8) c .back

/-- A failed block ends the procedure with every value unchanged (R456). -/
def State.ancFails (s : State) (a : AncRun) (code : Nat) : State :=
  let k := a.ch / 8
  (({ (s.blockFails k code 4 a.ch).raiseCal 89 k a.ch with ancRun := none } : State).p K.ANC_STATE 0).ancBack a.ch

/-- The run of a core ends (R455). -/
def State.ancDone (s : State) (a : AncRun) (b : CalBlock) (base : Int) : State :=
  let code := s.blockCode b (some a.ch) a.noRef
  if code ≠ 0 then s.ancFails a code
  else
    let new := s.anchor a.ch a.core + s.gi (K.CH_TRIM a.ch) - b.mean
    let unc := capBound (s.g K.ANC_FIXTURE_UNC + spreadOf b.sigma b.n + 2)
    let a := { a with done := a.done ++ [(a.core, new, unc)], base := if a.core = a.ch then some base else a.base }
    match a.left with
    | x :: rest => s.ancNext a x rest
    | [] => ({ s with ancRun := some { a with began := none, due := some s.soon } } : State).ancBack a.ch

/-- ANCHOR_RUN_COMPLETE (R455); on BYP the heads take no samples (R430). -/
def execAnchorRunComplete (k : Nat) (blk : CalBlock) (baseline : Int) : State → Host.Outcome State Fault Refusal :=
  run (fun s =>
    match s.ancRun with
    | some a =>
      if a.ch / 8 = k ∧ s.clock ≠ .byp ∧ a.due.isNone ∧ a.began.any (fun t => t + s.g K.ANC_EDGES ≤ s.tick) then s.ancDone a blk baseline else s
    | none => s)

/-- Write the uncertainty of an anchor. -/
def State.setAnchorUnc (s : State) (c k u : Nat) : State := if k = c then s.p (K.ANC_OWN_UNC c) u else s.p (K.ANC_SPARE_UNC c) u

/-- The uncertainty of an anchor that steps: the larger of the old and new values plus the remaining difference (R456). -/
def State.ancUncs (s : State) (a : AncRun) : State :=
  a.goal.foldl (fun s x =>
    s.setAnchorUnc a.ch x.1 (sumBounds [x.2.2, sixteenthsToBound (x.2.1 - s.anchor a.ch x.1)])) s

/-- The results of an anchor procedure apply: both anchors of the pad take the trim, which becomes 0, and step from there (R456). -/
def State.ancApply (s : State) (a : AncRun) : State :=
  let c := a.ch
  let trim := s.gi (K.CH_TRIM c)
  let sp := 64 + c / 8
  let s := (s.pi (K.ANC_OWN c) (s.gi (K.ANC_OWN c) + trim)).pi (K.ANC_SPARE c) (s.gi (K.ANC_SPARE c) + trim)
  let s := ((s.pi (K.CH_TRIM c) 0).pi (K.AUDIT_TARGET c) 0).setPad c { s.pad c with goal := 0, goalNext := none }
  let goal := a.done.map (fun x => (x.1, x.2.1, max x.2.2 (s.anchorUnc c (if x.1 = c then c else sp))))
  let s : State := { s with baseline := match a.base with | some b => Sp.set (fun _ => 0) s.baseline c b | none => s.baseline }
  let a := { a with goal := goal, due := none }
  let s := ((s.pAll [(K.ANC_STATE, 2), (K.ANC_SOURCE c, 2), (K.ANC_FN c, s.fn), (K.CAL_DIRTY, 1)]).raiseCal 88 (c / 8) c).ancUncs a
  { s with ancRun := some a }

/-- ANCHOR_APPLY (R456). -/
def execAnchorApply (k : Nat) : State → Host.Outcome State Fault Refusal :=
  run (fun s =>
    match s.ancRun with
    | some a => if a.ch / 8 = k ∧ a.due.any (fun t => t ≤ s.tick) then s.ancApply a else s
    | none => s)

/-- One frame of the anchor procedure: the steps (R456, R448), the start of a run whose swap took effect, the reference check. -/
def State.ancFrame (s : State) : State :=
  match s.ancRun with
  | none => s
  | some a =>
    if s.g K.ANC_STATE = 2 then
      (if s.clock = .byp then s
       else if a.goal.all (fun x => s.anchor a.ch x.1 == x.2.1) then
         let s := a.done.foldl (fun s x => s.setAnchorUnc a.ch x.1 x.2.2) s
         ({ s with ancRun := none } : State).p K.ANC_STATE 0
       else s.ancStep.ancUncs a)
    else
      let a := if a.due.isNone ∧ a.began.isNone ∧ s.clock ≠ .byp ∧ s.g (K.CH_CORE a.ch) = a.core then { a with began := some s.tick } else a
      { s with ancRun := some { a with noRef := a.noRef || s.g K.CAL_REF_STATE != 1 } }

/-! ## Once per frame -/

/-- CAL_REF_CHECK (R432): on BYP head HR takes no samples, and what it found stands (R31, R430). -/
def State.refFrame (s : State) : State :=
  if !s.gb K.CAL_TRACE_EN then s.p K.CAL_REF_STATE 0
  else if s.clock = .byp then s
  else
    let good := s.meas.refPresent && s.meas.refFreqOff.natAbs ≤ 5000000000000
    let bad := !good && s.g K.CAL_REF_STATE != 2
    let s := (s.p K.CAL_REF_STATE (if good then 1 else 2)).pi K.CAL_REF_FREQ_OFF s.meas.refFreqOff
    let s := if s.fn % 1250000 = 0 then s.pi K.CAL_REF_PHASE s.meas.refPhase else s
    if bad then s.raiseDet 91 0 0 else s

/-- CAL_TEMP_TRIGGER and the pending ages (R435, R449). -/
def State.calFrame (s : State) : State :=
  let s := s.refFrame
  let s := s.each (List.range 72) (fun s c =>
    let s := if s.gb K.CAL_AUTO ∧ s.g K.CAL_TEMP_TRIG ≤ s.tempDiff c ∧ !s.calRuns c ∧ !bit (s.g (K.CORE_CAL_REASON c)) 4 ∧ 2 ≤ s.mode
      then s.wantCal c 4 else s
    if s.g (K.CORE_CAL_REASON c) = 0 then s else s.p (K.CORE_CAL_AGE c) (s.calAge c / 1250000))
  s.each (List.range 8) (fun s k =>
    let s := s.setCal k { s.calOf k with noRef := (s.calOf k).noRef || s.g K.CAL_REF_STATE != 1 }
    let s := if s.g (K.CALB_STATE k) = 0 then s.setCal k {} else s
    (s.headFrameOf k).calQueue k)

/-- The steps of step 4 of R26: entries, trims, anchors. -/
def State.stepFrame (s : State) : State :=
  let s := s.each (List.range 8) State.calSteps
  let s := s.each (List.range 64) State.trimFrame
  s.ancFrame

/-- The clock switch ends every calibration in MEASURE or VERIFY, and every block in progress is discarded: an anchor run starts over on the
Spindle (R430, R446). -/
def State.calByp (s : State) : State :=
  let s := s.each (List.range 8) State.auditAnew
  let s : State := { s with ancRun := s.ancRun.map (fun a => if a.due.isNone && s.g K.ANC_STATE == 1 then { a with began := none } else a) }
  s.each (List.range 8) (fun s k => if s.g (K.CALB_STATE k) = 3 ∨ s.g (K.CALB_STATE k) = 5 then s.calAbandon k else s)

/-- SPINDLE_LOSS_OF_LOCK (R330, R11, R100, R446): at an offset of q into the frame. -/
def execSpindleLossOfLock (q : Nat) : State → Host.Outcome State Fault Refusal :=
  run (fun s =>
    if s.g K.SPN_STATE = 2 then
      let byp := s.clock == .spindle
      let s := s.spnLost q
      if byp then (s.bypBounds q).calByp else s
    else s)

/-- BYP_LOCK (R334). -/
def execBypLock : State → Host.Outcome State Fault Refusal :=
  run (fun s => if s.g K.BYP_STATE = 1 ∨ s.g K.BYP_STATE = 3 then s.bypLocked else s)

/-! ## Calibration sets (R458 to R462) -/

/-- The objects of a set: of each core and of each pad. -/
def setKeys : List Nat :=
  (List.range 72).flatMap (fun c => [K.CORE_REF c, K.IP_INL_A c, K.IP_INL_B c, K.IP_CAL_UNC c, K.IP_TEMP_CAL c, K.CORE_CAL_COUNT c, K.CORE_CAL_FN c]) ++
  (List.range 64).flatMap (fun c => [K.ANC_OWN c, K.ANC_OWN_UNC c, K.ANC_SPARE c, K.ANC_SPARE_UNC c, K.ANC_SOURCE c])

/-- The set that a store would write: what is in force, with the next sequence number. -/
def State.takeSet (s : State) : NvmSet :=
  let last := (List.range 72).foldl (fun m c => max m (s.g (K.CORE_CAL_FN c))) 0
  let count := (List.range 72).foldl (fun n c => n + s.g (K.CORE_CAL_COUNT c)) 0
  { seq := s.g K.CAL_SEQ + 1, corr := s.corr, base := s.baseline,
    objs := (setKeys.map (fun k => (k, s.g k))) ++ [(K.CAL_COUNT, count % 2 ^ 32), (K.CAL_TIME, ofTime92 (last * qFrame))] }

/-- The least-written slot of a bank outside a list; a tie is left open (R459). -/
def State.leastWritten (s : State) (bank : Nat) (tried : List Nat) : Option Nat :=
  let l := (List.range 16).filter (fun i => !tried.contains (16 * bank + i))
  let w := fun i => s.g (atRow K.NVM_SLOT_WRITES (16 * bank + i))
  match l with
  | [] => none
  | x :: _ =>
    let m := l.foldl (fun m i => min m (w i)) (w x)
    let best := l.filter (fun i => w i == m)
    some (16 * bank + best.getD (Config.leastWrittenTie best % max 1 best.length) x)

/-- NVM_LIFE_PCT (R462). -/
def State.lifeFrame (s : State) : State :=
  let w := (List.range 32).foldl (fun m i => max m (s.g (atRow K.NVM_SLOT_WRITES i))) 0
  let new := (100 * (100000 - w)) / 100000
  let old := s.g K.NVM_LIFE_PCT
  let s := s.p K.NVM_LIFE_PCT new
  let s := if new < 10 then s.setReplace 8 else s
  if new < 10 ∧ 10 ≤ old then s.raiseDet 95 0 0 else s

/-- A slot is written and will be read back (R459). -/
def State.writeSlot (s : State) (slot : Nat) (tried : List Nat) (set : NvmSet) : State :=
  let s : State := { s with store := some (slot :: tried, set), nvm := Sp.del s.nvm slot }
  ((s.inc (atRow K.NVM_SLOT_WRITES slot)).p K.NVM_STATE 1).lifeFrame

/-- The bank that does not hold the set in force; A when neither does. -/
def State.otherBank (s : State) : Nat := if s.g K.NVM_SET_BANK = 0 then 1 else 0

/-- A store is due (R459). -/
def State.storeIsDue (s : State) : Bool :=
  s.g K.NVM_STATE == 0 && (s.storeDue ||
    (s.gb K.CAL_DIRTY && (List.range 8).all (fun k => s.g (K.CALB_STATE k) == 0) && s.ancRun.isNone &&
      s.storeLast + s.g K.CAL_STORE_MIN * 1250000 ≤ s.tick))

/-- NVM_STORE_START (R459). -/
def execNvmStoreStart : State → Host.Outcome State Fault Refusal :=
  run (fun s =>
    if s.storeIsDue ∧ 2 ≤ s.mode then
      match s.leastWritten s.otherBank [] with
      | some slot => ({ s with storeDue := false } : State).writeSlot slot [] s.takeSet
      | none => s
    else s)

/-- A store completes (R459). -/
def State.stored (s : State) (slot : Nat) (set : NvmSet) : State :=
  let s : State := { s with nvm := Sp.ins s.nvm slot set, store := none, storeLast := s.tick }
  let s := s.pAll ([(K.CAL_SEQ, set.seq), (K.NVM_SET_BANK, slot / 16), (K.NVM_SET_SLOT, slot % 16), (K.NVM_STATE, 0), (K.CAL_DIRTY, 0)]
    ++ set.objs.filter (fun p => p.1 == K.CAL_COUNT || p.1 == K.CAL_TIME) ++ (List.range 72).map (fun c => (K.IP_TABLE_SEQ c, set.seq)))
  (s.inc K.NVM_STORES).raiseDet 92 0 0

/-- A slot check fails: the next least-written slot of the bank, at most three in all (R459). -/
def State.slotFailsCheck (s : State) (tried : List Nat) (set : NvmSet) : State :=
  let s : State := { s.inc K.NVM_STORE_FAILS with nvm := Sp.ins s.nvm (tried.headD 0) { set with good := false } }
  match (if 3 ≤ tried.length then none else s.leastWritten (tried.headD 0 / 16) tried) with
  | some slot => s.writeSlot slot tried set
  | none => (({ s with store := none, storeLast := s.tick } : State).p K.NVM_STATE 0).raiseDet 93 0 0

/-- NVM_STORE_COMPLETE (R459). -/
def execNvmStoreComplete (ok : Bool) : State → Host.Outcome State Fault Refusal :=
  run (fun s =>
    match s.store with
    | some (tried, set) => if ok then s.stored (tried.headD 0) set else s.slotFailsCheck tried set
    | none => s)

def State.calStoreCmd (s : State) (w : Who) (arg : Nat) : CmdRes :=
  s.call w K.CAL_STORE arg 1 (fun s => ({ s with storeDue := true } : State).done)

/-- CAL_STORE (R459). -/
def execCalStore (who : Who) : State → Host.Outcome State Fault Refusal := run (fun s => s.command (fun s => s.calStoreCmd who 0))

end Sys2Proof.Machine
end

