-- ==== Sys2Proof/Machine/Timescale.lean ====
section
/-! DEFINITION. Moves of the timescale: first alignment, TS_STEP, and what stops or restarts with them (R43, R51, R302, R387, R599 to R601). -/

namespace Sys2Proof.Machine

/-- A driver of a pad is on: it has a format, no detector holds it off, and its bank's class suits it (R315, R645). -/
def State.drives (s : State) (c : Nat) : Bool :=
  s.g (K.PAD_FMT c) != 0 && !s.gb (K.PAD_SHUTDOWN c) && !(s.pad c).waits

/-- The queued edges of some channels are discarded without a count (R599, R601). -/
def State.dropEdges (s : State) (p : Nat → Bool) : State :=
  s.each (List.range 72) (fun s k =>
    let h := s.core k
    s.setCore k { h with queue := h.queue.filter (fun e => !p e.ch) })

/-- A sequencer stops inside an iteration; the level records of its owned pins take their park levels (R599, R601). -/
def State.haltSeq (s : State) (q : Nat) : State :=
  if s.g (K.SQ_STATE q) = 0 then s
  else
    let s := s.each (instances 64 (s.owns q)) (fun s c => s.setLevel q c (s.parkLevel c))
    (s.p (K.SQ_JUMP_STATUS q) 0).stopped q

/-- Every sequencer that is armed or running stops at the frame that begins, its PATTERN pins parked without a placed edge (R599). -/
def State.haltSeqs (s : State) : State :=
  let owned := fun c => s.src c == 3 && (List.range 8).any (fun q => s.g (K.SQ_STATE q) != 0 && s.owns q c)
  let l := instances 64 owned
  let s := s.each l (fun s c =>
    let s := s.setCh c { s.ch c with wait := [] }
    if s.drives c then s.p (K.PAD_LEVEL c) (b2n (s.parkLevel c)) else s)
  (s.each (List.range 8) State.haltSeq).dropEdges (fun c => l.contains c)

/-- Every DIRECT rule is treated as changed at the frame (R78, R600, R603). -/
def State.rulesAfresh (s : State) : State :=
  s.each (instances 64 (fun c => s.src c == 1)) (fun s c => s.setCh c { s.ch c with rules := [], begun := [], wait := [] })

/-- The Spindle-fed clock pads are gated, for two frames at least (R302). -/
def State.gateSpindle (s : State) : State := s.gatePads (s.clockPads 0) (s.tick + 2)

/-- A time held as a count of q, moved. -/
def movedTime (d : Int) (t : Nat) : Nat := ((t : Int) + d).toNat

/-- The timescale moves: the frame number by whole frames, and every time of an edge or window already placed, taken or expected with
it, so that each stays at its instant. -/
def State.moveAll (s : State) (frames d : Int) : State :=
  let s := s.moveTimescale frames d
  let s := s.each (List.range 72) (fun s k =>
    let h := s.core k
    s.setCore k { h with queue := h.queue.map (fun e => { e with t := movedTime d e.t }) })
  let s := s.each (List.range 64) (fun s c =>
    let h := s.ch c
    s.setCh c { h with hist := h.hist.map (movedTime d), burst := h.burst.map (fun b => { b with ts := movedTime d b.ts }) })
  let s := s.each (List.range 16) (fun s n =>
    let h := s.inp n
    s.setInp n { h with lastRise := h.lastRise.map (movedTime d), lastFall := h.lastFall.map (movedTime d),
                        history := h.history.map (fun e => (movedTime d e.1, e.2)), drops := h.drops.map (movedTime d) })
  s.each (List.range 8) (fun s q =>
    let h := s.sq q
    s.setSq q { h with cmp := h.cmp.map (fun v =>
      { v with wins := v.wins.map (fun w => (w.1, w.2.1, movedTime d w.2.2.1, movedTime d w.2.2.2)) }) })

/-- Place the edges of the frame that begins for the DIRECT channels, on the timescale in force: the pass of the frame before, made for
rules that change here (R78, R600, R603). -/
def State.placeHere (s : State) : State :=
  let fn := s.fn
  let tick := s.tick
  let s : State := { s.p K.TS_FN (fn - 1) with tick := tick - 1 }
  let s := s.each (instances 64 (fun c => s.src c == 1)) (fun s c => s.passChannel s 0 c)
  { s.p K.TS_FN fn with tick := tick }

/-- First alignment (R43, R387, R599): the aligned values are taken, TS_STATE becomes ALIGNED, clocks are gated, sequencers stop. -/
def State.alignNow (s : State) (frames d : Int) : State :=
  let s := (((s.moveAll frames d).p K.TS_STATE 1).haltSeqs).rulesAfresh
  ((s.p K.HS_ALIGN_FN s.fn).raiseBits 7 (bitmap s.selected.toList)).gateSpindle

/-- FIRST_ALIGNMENT (R387), at a frame boundary. -/
def execFirstAlignment : State → Host.Outcome State Fault Refusal :=
  run (fun s => if s.alignDue then s.alignNow s.alignFrames (s.alignFrames * qFrame) else s)

/-- A step of the timescale by whole frames takes effect (R51, R485, R600): bursts end, and the DIRECT rules place their edges of this
frame anew. -/
def State.stepNow (s : State) (frames : Int) : State :=
  let s := (s.moveAll frames (frames * qFrame)).inc K.TS_STEP_COUNT
  let s := s.each (instances 64 (fun c => (s.ch c).burst.isSome)) (fun s c => s.setCh c { s.ch c with burst := none })
  let s := ((s.dropEdges (fun c => s.src c != 3)).rulesAfresh).placeHere
  { s.gateSpindle with stepped := true, stk := { s.stk with steps := 3 } }

/-- A host's step ends a MISMATCH: the follower searches again (R483). -/
def State.hostStep (s : State) (frames : Int) : State :=
  let s := s.stepNow frames
  if s.g K.STK_STATE = 7 then { s.p K.STK_STATE 2 with stk := { s.stk with okRun := 0 } } else s

/-- TS_STEP as a command: every sequencer must be STOPPED (R51, R600). -/
def State.tsStepCmd (s : State) (w : Who) (arg : Nat) : CmdRes :=
  s.call w K.TS_STEP arg 3 (fun s => s.tsStepBody ((List.range 8).all (fun q => s.g (K.SQ_STATE q) == 0)) arg)

/-- TS_STEP (R51). -/
def execTsStep (who : Who) (arg : Nat) : State → Host.Outcome State Fault Refusal :=
  run (fun s => s.command (fun s => s.tsStepCmd who arg))

/-- TS_STEP_EFFECT (R600): an accepted step at its boundary. -/
def execTsStepEffect : State → Host.Outcome State Fault Refusal :=
  run (fun s =>
    match s.tsStep with
    | some (d, due) => if due ≤ s.tick then ({ s with tsStep := none }).hostStep d else s
    | none => s)

end Sys2Proof.Machine
end

