-- ==== Sys2Proof/Machine/Wire.lean ====
section
/-! DEFINITION. What goes over the wires of the stack and the fabric, bit by bit: the Marking message with its code and its CRC (R473, R474),
the Tenon frame header (R494) and the payload of a TIME frame (R501); and the descriptors of the queue pairs (R615). -/

namespace Sys2Proof.Machine

/-! ## CRC-32C -/

/-- CRC-32C after one more byte, reflected. -/
def crcByte (c : Nat) (b : Byte) : Nat :=
  (List.range 8).foldl (fun c _ => if c % 2 = 1 then (c / 2) ^^^ 0x82F63B78 else c / 2) (c ^^^ b.toNat)

/-- CRC-32C of bytes (R458, R474, R494). -/
def crc32c (bs : List Byte) : Nat := bs.foldl crcByte 0xFFFFFFFF ^^^ 0xFFFFFFFF

/-! ## Marking messages (R473, R474) -/

/-- Bits [255:32] of a Marking message. -/
def markBody (m : MarkMsg) : Nat :=
  2 ^ 220 + m.turn % 16 * 2 ^ 216 + m.mmode % 16 * 2 ^ 212 + b2n m.aligned * 2 ^ 211 + b2n m.coarse * 2 ^ 210 + b2n m.isLocal * 2 ^ 209
    + b2n m.stepped * 2 ^ 208 + m.fn % 2 ^ 64 * 2 ^ 144 + m.bound % 2 ^ 32 * 2 ^ 112 + m.delay % 2 ^ 24 * 2 ^ 88
    + ofI64 m.utcOffset % 2 ^ 16 * 2 ^ 72 + m.leap % 4 * 2 ^ 70 + m.pkind % 4 * 2 ^ 68 + m.tdepth % 16 * 2 ^ 64 + m.payload % 2 ^ 64

/-- CRC of a message by its bits [255:32], taken as 28 bytes, most significant first. -/
def markCrc (body : Nat) : Nat := crc32c (beBytes 28 body)

/-- The 256 bits of a Marking message. -/
def markWord (m : MarkMsg) : Nat := markBody m * 2 ^ 32 + markCrc (markBody m)

/-- A Marking message as its 256 bits say it; it is good when its code held, and its VERSION and CRC are right (R480). -/
def readMark (w : Nat) (clean : Bool) : MarkMsg :=
  { good := clean && bits w 255 252 == 1 && bits w 31 0 == markCrc (bits w 255 32)
    turn := bits w 251 248, mmode := bits w 247 244, aligned := bit w 243, coarse := bit w 242, isLocal := bit w 241, stepped := bit w 240
    fn := bits w 239 176, bound := bits w 175 144, delay := bits w 143 120, utcOffset := signed 16 (bits w 119 104)
    leap := bits w 103 102, pkind := bits w 101 100, tdepth := bits w 99 96, payload := bits w 95 32 }

/-- A bit time (R473). -/
abbrev qBit : Nat := 1048576

/-- The level of MARK_OUT x q after a Marking pulse whose message is w: a start bit, then 256 bits in Manchester code, then low (R473). -/
def markLevel (w x : Nat) : Bool :=
  if x < qBit then true
  else if x < 257 * qBit then bit w (256 - x / qBit) == decide (x % qBit < qBit / 2)
  else false

/-! ## Tenon frames (R494, R501) -/

/-- The fields of a Tenon header that MGMT and EVENT frames carry (R494). -/
def mgmtHeader (f : MgmtFrame) : Nat :=
  f.dst % 4096 * 2 ^ 44 + f.src % 4096 * 2 ^ 32 + f.dstGen % 256 * 2 ^ 24 + f.srcGen % 256 * 2 ^ 16 + f.age % 2 ^ 16
    + (if f.event then 0 else f.xid % 2 ^ 16 * 2 ^ 112 + f.xidGen % 256 * 2 ^ 104) + f.hops % 16 * 2 ^ 100

/-- The 128 bits of a Tenon header, word 0 in the low half: VERSION, KIND, LENGTH and what the kind adds (R494). -/
def tenonHeader (kind len rest : Nat) : Nat := 2 ^ 60 + kind * 2 ^ 56 + len % 2 ^ 16 * 2 ^ 80 + rest

/-- The 48 bytes of a TIME frame's payload (R501). -/
def timeBytes (f : TimeFrame) : List Byte :=
  beBytes 4 f.seq ++ beBytes 4 f.rxSeq ++ beBytes 12 (ofTime92 f.txPrev) ++ beBytes 12 (ofTime92 f.rxTime) ++ beBytes 4 f.bound
    ++ beBytes 1 (f.tdepth % 16 * 16 + b2n f.viaYou * 8 + b2n f.aligned * 4 + b2n f.calValid * 2) ++ beBytes 3 0
    ++ beBytes 8 (ofI64 f.calRefPhase)

/-- Bytes a to b of a payload as a number. -/
def field (p : List Byte) (a b : Nat) : Nat := ofBe ((p.drop a).take (b + 1 - a))

/-- A received TIME frame as its payload says it, with its arrival and the ratio measured on the link. -/
def readTime (r : TimeRx) : TimeFrame :=
  let p := r.payload
  let fl := field p 36 36
  { seq := field p 0 3, rxSeq := field p 4 7, txPrev := time92 (field p 8 19), rxTime := time92 (field p 20 31), bound := field p 32 35
    tdepth := bits fl 7 4, viaYou := bit fl 3, aligned := bit fl 2, calValid := bit fl 1, calRefPhase := toI64 (field p 40 47)
    arrival := r.arrival, ratio := r.ratio }

/-! ## Descriptors (R615) -/

/-- A submission descriptor: a WOP message with the places of its request and its response, a page image, or neither. A place is a window
and a byte offset as a descriptor word has them. -/
inductive Desc where
  | wop (tag place length rspPlace capacity : Nat)
  | load (tag window offset entry gen page : Nat)
  | other (tag type : Nat)
deriving DecidableEq, Repr

/-- A descriptor as its eight words say it. -/
def readDesc (l : List Nat) : Desc :=
  let w := fun i => l.getD i 0
  let tag := bits (w 0) 31 0
  let type := bits (w 0) 63 56
  if type = 1 then .wop tag (w 1) (bits (w 2) 15 0) (w 4) (bits (w 5) 15 0)
  else if type = 2 then .load tag (bits (w 1) 63 52) (bits (w 1) 51 0) (bits (w 2) 63 50) (bits (w 2) 49 42) (w 3)
  else .other tag type

end Sys2Proof.Machine
end

