-- ==== Sys2Proof/Machine/Stack.lean ====
section
/-! DEFINITION. The stack port: Marking messages and alerts, echoes, following, stack starts (R469 to R491). -/

namespace Sys2Proof.Machine

abbrev State.role (s : State) : Nat := s.g K.STK_ROLE
abbrev State.stkState (s : State) : Nat := s.g K.STK_STATE

/-- Following or about to: ALIGNING or FOLLOWING. -/
def State.follows (s : State) : Bool := s.stkState == 4 || s.stkState == 5

/-- TDEPTH of the device (R505). -/
def State.tdepth (s : State) : Nat :=
  if !s.aligned then 15
  else if s.effMode = 8 then s.stkDepth
  else match s.selected with
    | some n =>
      if s.slotType n = 5 then (if n < 16 then 1 else 1 + (Sp.get (fun _ => ({} : LinkHid)) s.links (n - 16)).depth) else 0
    | none => 0

/-! ## The master (R472 to R478) -/

/-- The largest device bound that the present state gives in the coming 2,560 frames: every term is held or grows (R474). -/
def State.advancedBound (s : State) : Nat := (({ s with tick := s.tick + 2559 } : State).deviceBound).g K.DEV_BOUND

/-- PKIND of the next message (R475): 0 NONE, 1 START, 2 LEAP_EPOCH. -/
def State.pkind (s : State) : Nat :=
  let leap := s.g K.LEAP_PENDING != 0
  match s.stkStart with
  | some (_, n, _) => if leap && n != 0 && s.stk.starts then 2 else 1
  | none => if leap then 2 else 0

/-- The message of the Marking pulse at the boundary of the present frame (R474). -/
def State.markMsg (s : State) : MarkMsg :=
  let k := s.pkind
  { good := true, turn := s.stk.turn, mmode := s.mode, aligned := s.aligned, coarse := bit (s.g K.DEV_BOUND_FLAGS) 0,
    isLocal := bit (s.g K.DEV_BOUND_FLAGS) 1, stepped := s.stk.steps != 0, fn := s.fn, bound := s.advancedBound,
    delay := s.g (atRow K.STK_DELAY s.stk.turn), utcOffset := s.gi K.UTC_OFFSET, leap := s.g K.LEAP_PENDING, pkind := k,
    tdepth := s.tdepth,
    payload := if k = 1 then (match s.stkStart with | some (t, _, _) => t - s.frameStart | none => 0)
      else if k = 2 then bits (s.g K.LEAP_EPOCH) 91 44 else 0 }

/-- A bit of STK_MEMBERS or STK_FOLLOWING takes a value; a change raises EV100 (R478, R514). -/
def State.setMember (s : State) (k p : Nat) (b : Bool) : State :=
  if bit (s.g k) p = b then s else (s.pbit k p b).raiseVal 100 p

/-- A position has not echoed the last Marking pulse: it has no DELAY until four pulses in a row are echoed again (R478). -/
def State.echoMissing (s : State) (p : Nat) : State :=
  let s : State := { s with stk := { s.stk with run := Sp.set (fun _ => 0) s.stk.run p 0 } }
  ((s.p (atRow K.STK_DELAY p) 0xFFFFFF).setMember K.STK_MEMBERS p false).setMember K.STK_FOLLOWING p false

/-- The positions that echoed before and have not echoed the last pulse. -/
def State.silent (s : State) : List Nat :=
  (List.range 16).filter (fun p => Sp.get (fun _ => 0) s.stk.run p != 0 && !bit s.stk.echoed p)

/-- MARKING_PULSE_SEND: the message goes out, TURN and the alternation of R475 advance; a position whose echo of the pulse before is
missing is noted. -/
def State.markSend (s : State) : State :=
  let s := s.each s.silent State.echoMissing
  let m := s.markMsg
  let st := s.stkStart.map (fun p => (p.1, p.2.1 + (if m.pkind = 1 then 1 else 0), p.2.2))
  ({ s with
    stkStart := st
    stk := { s.stk with turn := (s.stk.turn + 1) % 16, pulse := some (s.tick, s.frameStart), sent := m.bound,
                        steps := s.stk.steps - 1, starts := m.pkind == 1, echoed := 0, aborted := false } }).emit (.marking (markWord m))

/-- MARKING_PULSE_SEND (R472): a master, from M2 on, at a boundary whose FN is a multiple of 1,280. -/
def execMarkingPulseSend : State → Host.Outcome State Fault Refusal :=
  run (fun s =>
    if s.role = 1 ∧ 2 ≤ s.mode ∧ s.fn % 1280 = 0 ∧ !s.stk.pulse.any (fun p => p.1 == s.tick) then s.markSend else s)

/-- The conditions of R476 that hold: bit 0 the bound, 1 COARSE, 2 LOCAL, 3 the Spindle has lost lock. -/
def State.alertNow (s : State) : Nat :=
  b2n (s.g K.DEV_BOUND == unknownBound || s.stk.sent < s.g K.DEV_BOUND) + 2 * b2n (bit (s.g K.DEV_BOUND_FLAGS) 0)
    + 4 * b2n (bit (s.g K.DEV_BOUND_FLAGS) 1) + 8 * b2n (s.g K.SPN_STATE == 3)

/-- A condition of R476 has arisen since the last alert. -/
def State.alertDue (s : State) : Bool := (List.range 4).any (fun i => bit s.alertNow i && !bit s.stk.seen i)

/-- Conditions that have ceased may arise again; once per frame. -/
def State.alertFrame (s : State) : State := { s with stk := { s.stk with seen := s.stk.seen &&& s.alertNow } }

/-- A message is on the line: it ends in the 33rd frame (R473). -/
def State.markOnLine (s : State) : Bool := !s.stk.aborted && s.stk.pulse.any (fun p => s.tick < p.1 + 33)

/-- MARKING_ALERT_SEND (R476). -/
def State.alertSend (s : State) : State :=
  let s := (s.inc K.STK_ALERTS).raiseVal 99 0
  ({ s with stk := { s.stk with seen := s.alertNow, aborted := s.stk.aborted || s.markOnLine } }).emit (.alert s.markOnLine)

/-- MARKING_ALERT_SEND (R476). -/
def execMarkingAlertSend : State → Host.Outcome State Fault Refusal :=
  run (fun s => if s.role = 1 ∧ 2 ≤ s.mode ∧ s.alertDue then s.alertSend else s)

/-- DELAY of a position from its external round trips in q: the mean of half of them in q/16, halves to even (R478). -/
def delayOf (l : List Int) : Int := roundHalfEven (8 * l.foldl (· + ·) 0) (max 1 l.length)

/-- MARK_ECHO_RECEIVE (R478, R489): an echo of the last Marking pulse, or none (width 0); the follower's status by the width. -/
def State.echoReceive (s : State) (p tEcho width : Nat) : State :=
  match s.stk.pulse with
  | none => s
  | some (_, t) =>
    let trip : Int := (tEcho : Int) - t - 262144
    let there := 1 ≤ width && width ≤ 3
    let l := if there then (trip :: Sp.get (fun _ => []) s.stk.trips p).take 16 else Sp.get (fun _ => []) s.stk.trips p
    let run := if there then Sp.get (fun _ => 0) s.stk.run p + 1 else 0
    let s : State := { s with stk := { s.stk with echoed := setBit s.stk.echoed p true } }
    let d := delayOf l
    let ok := 4 ≤ run && 0 ≤ d && d < 0xFFFFFF
    let s : State := { s with stk := { s.stk with
      trips := Sp.set (fun _ => []) s.stk.trips p l, run := Sp.set (fun _ => 0) s.stk.run p run } }
    let s := s.p (atRow K.STK_DELAY p) (if ok then d.toNat else 0xFFFFFF)
    let s := (s.setMember K.STK_MEMBERS p ok).setMember K.STK_FOLLOWING p (width == 1)
    match s.stkStart with
    | some (start, n, _) =>
      if (width = 2 ∨ width = 3) ∧ 1 ≤ n ∧ t ≤ start then s.pbit K.SQ_STACK_RESULT p true else s
    | none => s

/-- MARK_ECHO_RECEIVE (R478): at the master, from position 1 to 15. -/
def execMarkEchoReceive (p tEcho width : Nat) : State → Host.Outcome State Fault Refusal :=
  run (fun s => if s.role = 1 ∧ 1 ≤ p ∧ p < 16 then s.echoReceive p tEcho width else s)

/-! ## The follower (R477, R480 to R489) -/

/-- Width of the echo in bit times (R477). -/
def State.echoWidth (s : State) : Nat := if s.stkState ≠ 5 then 3 else if s.stk.failed.isSome then 2 else 1

/-- MARK_ECHO_SEND (R477). -/
def execMarkEchoSend (tIn : Nat) : State → Host.Outcome State Fault Refusal :=
  run (fun s => if s.role = 2 then s.emit (.echo (tIn + 262144) s.echoWidth) else s)

/-- The Spindle reference returns to LOSC: the steering word is STK_FOLLOW_STEER, from step 1 of the next boundary on (R326, R484). -/
def State.refToLosc (s : State) : State :=
  if s.stk.onStack then
    let v := s.gi K.STK_FOLLOW_STEER
    { s with steerNext := v, stk := { s.stk with onStack := false, left := 0 } }
  else s

/-- The follower stops following: LOST (6) or MISMATCH (7) (R483, R484, R589). -/
def State.stackLost (s : State) (st : Nat) : State :=
  let s := ((s.p K.STK_STATE st).inc K.STK_LOSSES).raiseVal 97 (s.g K.STK_POSITION)
  let s := s.refToLosc
  let s : State := { s with stkAlert := false, stk := { s.stk with okRun := 0, joined := false, offs := [], take := none, utc := none } }
  s.leaveFollow (if st = 7 then 3 else s.coastMode)

/-- In LOCKING, ALIGNING or FOLLOWING. -/
def State.joining (s : State) : Bool := 3 ≤ s.stkState && s.stkState ≤ 5

/-- STACK_CLK_MISSING (R480, R484). -/
def execStackClkMissing : State → Host.Outcome State Fault Refusal :=
  run (fun s =>
    if s.role = 2 then
      let s : State := { s with stk := { s.stk with clkMiss := true, okRun := 0 } }
      if s.joining then s.stackLost 6 else s
    else s)

/-- STACK_MSG_TIMEOUT (R484): 3,840 frames without a valid message. -/
def execStackMsgTimeout : State → Host.Outcome State Fault Refusal :=
  run (fun s => if s.role = 2 ∧ s.joining ∧ s.stk.last.all (fun t => t + 3840 ≤ s.tick) then s.stackLost 6 else s)

/-- STACK_REFERENCE_SWITCH (R481): in LOCKING, at a frame boundary; a Spindle that holds its lock is then aligned. -/
def execStackReferenceSwitch : State → Host.Outcome State Fault Refusal :=
  run (fun s =>
    if s.stkState = 3 ∧ !s.stk.onStack then
      let s : State := { s with stk := { s.stk with onStack := true } }
      if s.g K.SPN_STATE = 2 then (s.p K.STK_STATE 4).askFollow else s
    else s)

/-- STACK_ALERT_SEEN (R488): the bounds of a follower become unknown at once. -/
def execStackAlertSeen : State → Host.Outcome State Fault Refusal :=
  run (fun s =>
    if s.role = 2 then
      let s := (s.inc K.STK_ALERTS).raiseVal 99 (s.g K.STK_POSITION)
      if s.follows then (({ s with stkAlert := true }).p K.DEV_BOUND unknownBound).boundsGone (List.range 64) else s
    else s)

/-- The largest distance in q/16 by which the phase shifter may move in one frame, in 10⁻¹⁸ (R482). -/
def State.shiftLimit (s : State) : Nat :=
  let l := 16 * 10 ^ 18
  if s.stkState = 4 ∧ s.aligned then min l (s.g K.HS_SLOPE * qFrame * 16) else l

/-- The phase shifter removes STK_OFFSET, once per frame (R482). -/
def State.shifterFrame (s : State) : State :=
  if s.stk.onStack then
    let d := clampAbs s.shiftLimit s.stk.left
    { s with stk := { s.stk with shifted := s.stk.shifted + d, left := s.stk.left - d } }
  else s

/-- The offset of a pulse, in q/32 (R482). -/
def State.pulseOffset (s : State) (m : MarkMsg) (tIn : Nat) : Int :=
  2 * (16 * (tIn : Int) - (m.fn * (qFrame * 16) : Nat) - s.stk.own) - s.gi K.STK_ASYM

/-- STK_OFFSET from the offsets held, and the state that its magnitude names (R479, R482). -/
def State.setOffset (s : State) : State :=
  let l := s.stk.offs
  let r := s.est (l.foldl (· + ·) 0) (2 * max 1 l.length)
  let s := r.2.pi K.STK_OFFSET r.1
  let s : State := { s with stk := { s.stk with left := r.1 * 10 ^ 18 } }
  if r.1.natAbs ≤ 168 then
    (if s.stkState = 4 then (s.p K.STK_STATE 5).raiseVal 96 (s.g K.STK_POSITION) else s)
  else if s.stkState = 5 then s.p K.STK_STATE 4 else s

def State.keepOffset (s : State) (e : Int) : State :=
  ({ s with stk := { s.stk with offs := (e :: s.stk.offs).take 16, joined := true } }).setOffset

/-- The first pulse of ALIGNING (R483): an unset timescale takes the master's, by whole coarse cycles; an aligned one more than 1 µs off
enters MISMATCH. -/
def State.joinStack (s : State) (m : MarkMsg) (tIn : Nat) : State :=
  let e := s.pulseOffset m tIn
  if s.aligned then (if 2 * 167772160 < e.natAbs then s.stackLost 7 else s.keepOffset e)
  else
    let d : Int := -(e.tdiv (qCoarse * 32 : Nat)) * qCoarse
    let frames := (frameOf ((tIn : Int) + d).toNat : Int) - frameOf tIn
    let s := if m.aligned then s.alignNow frames d else s.moveAll frames d
    s.keepOffset (e + d * 32)

/-- A later pulse: a message whose frame number differs is a step of the master, its first alignment, or a loss (R484, R485). -/
def State.laterPulse (s : State) (m : MarkMsg) (tIn : Nat) : State :=
  let e := s.pulseOffset m tIn
  let frames := roundHalfEven (-e) (qFrame * 32)
  let first := m.aligned && !s.aligned
  let s := s.keepOffset (e + frames * (qFrame * 32 : Nat))
  if first then { s with stk := { s.stk with take := some (frames, true) } }
  else if frames = 0 then s
  else if m.stepped then { s with stk := { s.stk with take := some (frames, false) } }
  else s.stackLost 6

/-- STACK_START_ACT (R200, R489): the follower arms its mask, or none of it. -/
def State.startAct (s : State) (m : MarkMsg) : State :=
  let start := m.fn * qFrame + m.payload
  let mask := bitList 8 (s.g K.SQ_STACK_MASK)
  if m.pkind ≠ 1 ∨ !s.follows ∨ s.stkStart.any (fun p => p.1 == start) then s
  else
    let s : State := { s with stkStart := some (start, 0, 1) }
    if s.startRefusal mask start = 0 then (s.each mask (fun s q => s.arm q start)).p K.SQ_START_FN (frameOf start)
    else { s.raiseBits 56 (s.g K.SQ_STACK_MASK) with stk := { s.stk with failed := some start } }

/-- What M8 takes from a message: UTC_OFFSET and LEAP_PENDING at the next pulse, LEAP_EPOCH (R486). -/
def State.followUtc (s : State) (m : MarkMsg) : State :=
  if s.effMode = 8 then
    let s : State := { s with stk := { s.stk with utc := some (m.utcOffset, m.leap) } }
    if m.pkind = 2 then s.p K.LEAP_EPOCH (m.payload % 2 ^ 48 * 2 ^ 44) else s
  else s

/-- A valid message (R480 to R489). -/
def State.validMsg (s : State) (m : MarkMsg) (tIn : Nat) : State :=
  let s := s.inc K.STK_MSGS
  let s : State := { s with
    stkBound := m.bound, stkCoarse := m.coarse, stkLocal := m.isLocal, stkDepth := m.tdepth, stkAlert := false
    stk := { s.stk with okRun := s.stk.okRun + 1, last := some (s.tick - (s.fn - frameOf tIn)) } }
  let s := if s.follows then (if s.stk.joined then s.laterPulse m tIn else s.joinStack m tIn) else s
  let s := (s.followUtc m).startAct m
  if (s.stkState = 2 ∨ s.stkState = 6) ∧ 2 ≤ s.stk.okRun then
    { s.p K.STK_STATE 3 with stk := { s.stk with clkMiss := false, joined := false, offs := [] } }
  else s

/-- MARKING_MESSAGE_RECEIVE: DELAY for the own position comes with the messages whose TURN names it; a message is not valid without it. -/
def State.messageReceive (s : State) (m : MarkMsg) (tIn : Nat) : State :=
  let s : State := if m.good ∧ m.turn = s.g K.STK_POSITION then { s with stk := { s.stk with own := m.delay } } else s
  if m.good ∧ s.stk.own ≠ 0xFFFFFF then s.validMsg m tIn
  else
    ({ s with stk := { s.stk with okRun := 0 } }.inc K.STK_MSG_ERRORS).raiseVal 98 (s.g K.STK_POSITION)

/-- MARKING_MESSAGE_RECEIVE (R482). -/
def execMarkingMessageReceive (m : MarkRx) (tIn : Nat) : State → Host.Outcome State Fault Refusal :=
  run (fun s => if s.role = 2 then s.messageReceive (readMark m.word m.clean) tIn else s)

/-! ## At each frame boundary -/

/-- What a follower takes at a Marking pulse: a step, a first alignment, UTC_OFFSET and LEAP_PENDING (R485, R486). -/
def State.takePulse (s : State) : State :=
  let at' : Int := (s.fn : Int) + (s.stk.take.map (·.1)).getD 0
  if s.follows ∧ at' % 1280 = 0 then
    let take := s.stk.take
    let utc := s.stk.utc
    let s : State := { s with stk := { s.stk with take := none, utc := none } }
    let s := match take with
      | some (f, true) => s.alignNow f (f * qFrame)
      | some (f, false) => s.stepNow f
      | none => s
    match utc with
    | some (o, l) => if s.effMode = 8 then (s.pi K.UTC_OFFSET o).p K.LEAP_PENDING l else s
    | none => s
  else s

/-- The stack's own boundary work: the master's STACK_CLK_OUT from M2 on (R472); the pulse's values, the shifter, the measured steering of STACK_CLK_IN, ages and terms, starts that
have passed (R475, R477, R482, R485 to R490). -/
def State.stackFrame (s : State) : State :=
  let gone := s.stkStart.any (fun p => p.1 < s.frameStart)
  let s : State := if gone then { s with stkStart := none } else s
  let s : State := if s.stk.failed.any (fun t => decide (t < s.frameStart)) then { s with stk := { s.stk with failed := none } } else s
  if s.role = 2 then
    let s := s.takePulse.shifterFrame
    let s := if s.stk.onStack then (let r := s.fresh; r.2.p K.STK_FOLLOW_STEER (r.1 % 2 ^ 64)) else s
    let s := match s.stk.last with
      | some t => s.p K.STK_MSG_AGE (min unknownBound (s.tick - t))
      | none => s
    s.p K.STK_SKEW_TERM s.skewTerm
  else if s.role = 1 then (s.alertFrame).emit (.stackClk s.frameStart)
  else s

/-- STK_ROLE or STK_POSITION changes at a commit (R471, R479): the port starts over in its new role. -/
def State.stackRole (s : State) : State :=
  let s := if s.joining then s.refToLosc.leaveFollow s.coastMode else s
  let st := if s.role = 1 then 1 else if s.role = 2 then 2 else 0
  let s := (List.range 16).foldl (fun (s : State) p =>
    ((s.p (atRow K.STK_DELAY p) 0xFFFFFF).setMember K.STK_MEMBERS p (s.role == 1 && p == 0)).setMember K.STK_FOLLOWING p false) s
  { s.p K.STK_STATE st with stk := {}, stkAlert := false, stkStart := none }

end Sys2Proof.Machine
end

