-- ==== Sys2Proof/Machine/Fabric.lean ====
section
/-! DEFINITION. Tenon links and the fabric: hellos, root, addresses, routes, two-way time transfer (R492 to R507). -/

namespace Sys2Proof.Machine

def State.link (s : State) (k : Nat) : LinkHid := Sp.get (fun _ => {}) s.links k
def State.setLink (s : State) (k : Nat) (h : LinkHid) : State := { s with links := Sp.set (fun _ => {}) s.links k h }
/-- A link is UP. -/
def State.linkUp (s : State) (k : Nat) : Bool := s.g (K.TN_STATE k) == 3
/-- The device is the root. -/
def State.isRoot (s : State) : Bool := s.gb K.FAB_ENABLE && s.fab.root.isSome && s.fab.link.isNone

/-! ## Sending (R494, R499, R500) -/

/-- Half blocks of 33 bits that a line at 25.78125 Gb/s carries in a frame (R492). -/
abbrev lineFrame : Nat := 625
/-- 100 ns and 50 µs in q. -/
abbrev q100ns : Nat := 1048576
abbrev q50us : Nat := 524288000

/-- The traffic class of a Tenon frame (R500): 0 TIME, 1 EVENT, 2 MGMT; a lower one is sent first. -/
def sendClass : Out → Nat
  | .fabricEvent .. => 1
  | .mgmt _ f => if f.event then 1 else 2
  | .mgmtAnswer .. => 2
  | _ => 0

/-- Payload bytes of a Tenon frame: 48 of TIME (R501), 32 for each event record (R510), else free up to 1,024 (R494). -/
def payloadOf (n : Nat) : Out → Nat
  | .time .. => 48
  | .fabricEvent _ _ recs => min 1024 (32 * recs.length)
  | .hello k _ => Config.tenonPayload 1 k n % 1025
  | .route k _ => Config.tenonPayload 2 k n % 1025
  | .lease k _ => Config.tenonPayload 3 k n % 1025
  | .mgmt k f => Config.tenonPayload (if f.event then 6 else 5) k n % 1025
  | .mgmtAnswer k _ _ => Config.tenonPayload 5 k n % 1025
  | _ => 0

/-- Half blocks of a Tenon frame on the line: header, payload and CRC between a start and a terminate block (R492, R494). -/
def frameBlocks (n : Nat) (o : Out) : Nat := 2 * (2 + ceilDiv (20 + payloadOf n o) 8)

/-- KIND of a Tenon frame, and what its header adds (R494). -/
def headerOf (len : Nat) : Out → Nat
  | .hello .. => tenonHeader 1 len 0
  | .route .. => tenonHeader 2 len 0
  | .lease .. => tenonHeader 3 len 0
  | .time .. => tenonHeader 4 len 0
  | .mgmt _ f => tenonHeader (if f.event then 6 else 5) len (mgmtHeader f)
  | .mgmtAnswer _ f _ => tenonHeader 5 len (mgmtHeader f)
  | .fabricEvent _ f _ => tenonHeader 6 len (mgmtHeader f)
  | _ => 0

/-- A frame is discarded: its counter, and EV105 with the link it came over or waited for. -/
def State.discardFrame (s : State) (k counter : Nat) : State := (s.inc counter).raiseVal 105 k

/-- Hops to an address, 16 when unreachable; its link and generation (R512). -/
def State.route (s : State) (a : Nat) : Nat := s.g (atRow K.FAB_ROUTES a)
def State.hopsTo (s : State) (a : Nat) : Nat := if bit (s.route a) 63 then bits (s.route a) 62 59 else 16
def State.routeLink (s : State) (a : Nat) : Nat := bits (s.route a) 58 56
def State.routeGen (s : State) (a : Nat) : Nat := bits (s.route a) 55 48

/-- AGE of a MGMT or EVENT frame that departs on a link: its residence and the delay of the link more, rounded up to 100 ns (R499). -/
def State.agedBy (s : State) (k stay age : Nat) : Nat := age + ceilDiv (16 * stay + (s.gi (K.TN_DELAY k)).toNat) (16 * q100ns)

/-- The header of a MGMT or EVENT frame that departs on a link after waiting since a boundary count: AGE and one hop more; or the counter
of its discard (R499). -/
def State.departing (s : State) (k since : Nat) (f : MgmtFrame) : Except Nat MgmtFrame :=
  let stay := f.stay + (s.tick - since) * qFrame
  let age := s.agedBy k stay f.age
  if 16 ≤ s.hopsTo f.dst ∨ 15 ≤ f.hops ∨ !s.linkUp k then .error K.FAB_NO_ROUTE
  else if s.routeGen f.dst ≠ f.dstGen then .error K.FAB_STALE
  else if q50us < stay then .error K.FAB_RESIDENCE_DROPS
  else if 8000 < age then .error K.FAB_EXPIRED
  else .ok { f with age := age, hops := f.hops + 1 }

/-- A frame as it departs, or the counter of its discard. -/
def State.departed (s : State) (k since : Nat) : Out → Except Nat Out
  | .mgmt j f => (s.departing k since f).map (fun f => .mgmt j f)
  | .fabricEvent j f recs => (s.departing k since f).map (fun f => .fabricEvent j f recs)
  | .mgmtAnswer j f r => (s.departing k since f).map (fun f => .mgmtAnswer j f r)
  | o => .ok o

/-- The line takes a frame, or finds it to be discarded. -/
def State.depart (s : State) (k since : Nat) (o : Out) : State :=
  match s.departed k since o with
  | .ok o =>
    let l := s.link k
    (s.setLink k { l with busy := l.busy + frameBlocks l.sentN o, sentN := l.sentN + 1 }).emit (.tenon (headerOf (payloadOf l.sentN o) o) o)
  | .error c => s.discardFrame k c

/-- A line can take a frame in the present frame. -/
def State.lineFree (s : State) (k : Nat) : Bool := (s.link k).busy < lineFrame

/-- A frame is handed to a link: it departs at once while the line can take it, else it waits for the frames before it (R500). -/
def State.handOver (s : State) (k : Nat) (o : Out) : State :=
  if s.lineFree k then s.depart k s.tick o
  else s.setLink k { s.link k with sends := (s.link k).sends ++ [(s.tick, o)] }

/-- The waiting frame a link sends next: the oldest of the first class that has one. -/
def nextSend (l : List (Nat × Out)) : Option (Nat × Out) :=
  ([0, 1, 2].filterMap (fun c => l.find? (fun x => sendClass x.2 == c))).head?

/-- The line takes waiting frames, class by class, as long as it can take one; a frame once begun goes out whole. -/
def State.drainSends (s : State) (k : Nat) : Nat → State
  | 0 => s
  | n + 1 =>
    match nextSend (s.link k).sends with
    | some x =>
      if s.lineFree k then
        ((s.setLink k { s.link k with sends := (s.link k).sends.erase x }).depart k x.1 x.2).drainSends k n
      else s
    | none => s

/-- A frame boundary: the line has sent what a frame can carry, and takes what waits. -/
def State.sendFrame (s : State) (k : Nat) : State :=
  let l := s.link k
  if l.busy = 0 then s
  else (s.setLink k { l with busy := l.busy - lineFrame }).drainSends k l.sends.length

/-- A link loses its line: the MGMT and EVENT frames that wait have no route, and the others go with the link. -/
def State.dropSends (s : State) (k : Nat) : State :=
  let l := s.link k
  let s := (l.sends.filter (fun x => 1 ≤ sendClass x.2)).foldl (fun (s : State) _ => s.discardFrame k K.FAB_NO_ROUTE) s
  s.setLink k { s.link k with sends := [] }

/-- A Tenon frame arrives on a link with block lock: with a bad CRC it is discarded and counted (R494). -/
def State.received (s : State) (k : Nat) (crcOk : Bool) (take : State → State) : State :=
  if 8 ≤ k ∨ !(s.link k).lock then s
  else if crcOk then take s
  else s.inc (K.TN_BLOCK_ERRORS k)

/-! ## Routes (R498) -/

/-- A route row (R512): hops, link, generation. -/
def routeRow (hops link gen : Nat) : Nat := 2 ^ 63 + hops * 2 ^ 59 + link * 2 ^ 56 + gen % 256 * 2 ^ 48
/-- Write a route; a change is sent on within 1,250 frames. -/
def State.setRoute (s : State) (a row : Nat) : State :=
  if s.route a = row then s else { s.p (atRow K.FAB_ROUTES a) row with fab := { s.fab with changed := true } }
/-- A route becomes unreachable. -/
def State.dropRoute (s : State) (a : Nat) : State := s.setRoute a (setBits (s.route a) 63 59 0)

/-- Routes through a link that leaves UP become unreachable at once. -/
def State.dropLinkRoutes (s : State) (k : Nat) : State :=
  s.each (instances 4096 (fun a => bit (s.route a) 63 && s.routeLink a == k && a != s.g K.FAB_ADDR)) State.dropRoute

/-- One row of a ROUTE frame received on a link: a distance vector with the generation of the address. -/
def State.takeRoute (s : State) (k : Nat) (r : RouteRow) : State :=
  let h := r.hops + 1
  let newer := let d := (r.gen + 256 - s.routeGen r.addr) % 256; 1 ≤ d && d < 128
  if 4096 ≤ r.addr ∨ r.addr = s.g K.FAB_ADDR then s
  else if bit (s.route r.addr) 63 && s.routeLink r.addr == k then
    (if h < 16 then s.setRoute r.addr (routeRow h k r.gen) else s.dropRoute r.addr)
  else if h < 16 ∧ (h < s.hopsTo r.addr ∨ newer) then s.setRoute r.addr (routeRow h k r.gen)
  else s

/-- TN_ROUTE_RECEIVE (R498). -/
def execTnRouteReceive (k : Nat) (rows : Rx (List RouteRow)) : State → Host.Outcome State Fault Refusal :=
  run (fun s => s.received k rows.crcOk (fun s =>
    if s.linkUp k ∧ s.gb K.FAB_ENABLE then rows.frame.foldl (fun s r => s.takeRoute k r) s else s))

/-- The vector sent on a link: split horizon with poisoned reverse. -/
def State.vector (s : State) (k : Nat) : List RouteRow :=
  (List.range 4096).map (fun a =>
    { addr := a, gen := s.routeGen a,
      hops := if s.routeLink a = k ∧ a ≠ s.g K.FAB_ADDR then 16 else s.hopsTo a })

/-- TN_ROUTE_SEND (R498): every 12,500 frames, and within 1,250 of a change. -/
def execTnRouteSend : State → Host.Outcome State Fault Refusal :=
  run (fun s =>
    if s.gb K.FAB_ENABLE ∧ (s.fab.changed ∨ s.fab.routeAt.all (fun t => t + 12500 ≤ s.tick)) then
      let s := s.each (instances 8 s.linkUp) (fun s k => s.handOver k (.route k (s.vector k)))
      { s with fab := { s.fab with changed := false, routeAt := some s.tick } }
    else s)

/-! ## Root and own address (R495 to R497) -/

/-- EV104: an address is granted, lost or refused. -/
def State.addrEvent (s : State) (a : Nat) : State := s.raiseVal 104 a

/-- The device holds an address, or none (0xFFFF). -/
def State.setAddr (s : State) (a gen : Nat) : State :=
  let old := s.g K.FAB_ADDR
  if old = a ∧ s.g K.FAB_ADDR_GEN = gen then s
  else
    let s := if old < 4096 then s.dropRoute old else s
    let s := ((s.p K.FAB_ADDR a).p K.FAB_ADDR_GEN gen).addrEvent (if a < 4096 then a else old)
    if a < 4096 then s.setRoute a (routeRow 0 0 gen) else s

/-- A device that is no longer root has no leases to keep. -/
def State.clearLeases (s : State) : State :=
  let s := s.fab.ends.foldl (fun (s : State) p => s.p (atRow K.FAB_LEASES p.1) (setBit (s.g (atRow K.FAB_LEASES p.1)) 127 false)) s
  { s with fab := { s.fab with ends := [] } }

/-- The root views on offer: priority, unique ID, distance, ROOT_SEQ, link. -/
def State.rootViews (s : State) : List (Nat × Nat × Nat × Nat × Nat) :=
  (instances 8 s.linkUp).filterMap (fun k => (s.link k).view.map (fun v => (v.1, v.2.1, v.2.2.1 + 1, v.2.2.2, k)))

/-- A root view is better: lower pair, then nearer. -/
def betterRoot (a b : Nat × Nat × Nat × Nat × Nat) : Bool :=
  a.1 < b.1 || (a.1 == b.1 && (a.2.1 < b.2.1 || (a.2.1 == b.2.1 && a.2.2.1 < b.2.2.1)))

/-- Elect the root from the device's own pair and the root views of its UP neighbours (R495). -/
def State.elect (s : State) : State :=
  let own : Nat × Nat × Nat × Nat × Nat := (s.g K.FAB_PRIORITY, Config.deviceUid, 0, 0, 8)
  let b := s.rootViews.foldl (fun b v => if v.2.2.1 ≤ 15 && betterRoot v b then v else b) own
  let was := s.isRoot
  let same := s.fab.root == some (b.1, b.2.1)
  let f := { s.fab with root := some (b.1, b.2.1), link := if b.2.2.2.2 = 8 then none else some b.2.2.2.2 }
  let f := if same ∧ b.2.2.2.1 ≤ s.fab.seq then f else { f with seq := b.2.2.2.1, seqTick := s.tick }
  let s := if s.g K.FAB_ROOT_UID = b.2.1 then s else (s.p K.FAB_ROOT_UID b.2.1).raiseVal 103 b.2.2.2.2
  let s : State := { s.p K.FAB_ROOT_DIST b.2.2.1 with fab := f }
  if s.isRoot ∧ !was then { s.setAddr 0 ((s.g K.FAB_ADDR_GEN + 1) % 256) with fab := { s.fab with lease := none } }
  else if was ∧ !s.isRoot then s.clearLeases.setAddr 0xFFFF (s.g K.FAB_ADDR_GEN)
  else s

/-- FAB_ENABLE or FAB_PRIORITY takes a value (R495). -/
def State.fabEnable (s : State) : State :=
  if s.gb K.FAB_ENABLE then s.elect
  else
    let s := s.clearLeases.setAddr 0xFFFF (s.g K.FAB_ADDR_GEN)
    let s := if s.g K.FAB_ROOT_UID = 0 then s else (s.p K.FAB_ROOT_UID 0).raiseVal 103 8
    { s.p K.FAB_ROOT_DIST 0xFF with fab := { s.fab with root := none, link := none, lease := none } }

def State.reElect (s : State) : State := if s.gb K.FAB_ENABLE then s.elect else s

/-- FAB_ROOT_TIMEOUT (R495): no advance of ROOT_SEQ for 100 ms. -/
def State.rootTimeout (s : State) : State :=
  match s.fab.root with
  | some (_, u) =>
    let q := s.fab.seq
    let s := s.each (List.range 8) (fun s k =>
      if (s.link k).view.any (fun v => v.2.1 == u && v.2.2.2 ≤ q) then s.setLink k { s.link k with view := none } else s)
    ({ s with fab := { s.fab with dead := some (u, q) } }).elect
  | none => s

/-- FAB_ROOT_TIMEOUT (R495). -/
def execFabRootTimeout : State → Host.Outcome State Fault Refusal :=
  run (fun s => if s.gb K.FAB_ENABLE ∧ !s.isRoot ∧ s.fab.seqTick + 125000 ≤ s.tick then s.rootTimeout else s)

/-! ## Links (R493) -/

/-- The delay of a link is 3 µs or more, in q/16. -/
def State.farLink (s : State) (k : Nat) : Bool := decide ((503316480 : Int) ≤ s.gi (K.TN_DELAY k))

/-- A link takes a state other than UP. -/
def State.linkTo (s : State) (k st : Nat) : State :=
  let was := s.linkUp k
  let s := s.p (K.TN_STATE k) st
  if was then
    let s := ((s.inc (K.TN_DOWNS k)).raiseVal 102 k).p (K.TN_LINK_TERM k) unknownBound
    (s.dropLinkRoutes k).reElect
  else s

/-- A link goes back to TRAINING. -/
def State.retrain (s : State) (k : Nat) : State :=
  let s := (s.linkTo k 1).dropSends k
  s.setLink k { (s.link k) with lock := false, missed := 0, clean := 0, hello := none, view := none }

/-- TN_ENABLE takes a value: DOWN at 0, TRAINING at 1. -/
def State.linkEnable (s : State) (k : Nat) : State :=
  if s.gb (K.TN_ENABLE k) then (if s.g (K.TN_STATE k) = 0 then s.p (K.TN_STATE k) 1 else s)
  else (s.retrain k).p (K.TN_STATE k) 0

/-- TN_BLOCK_LOCK (R493). -/
def execTnBlockLock (k : Nat) : State → Host.Outcome State Fault Refusal :=
  run (fun s =>
    if k < 8 ∧ s.gb (K.TN_ENABLE k) ∧ !(s.link k).lock then
      (s.p (K.TN_STATE k) 2).setLink k { s.link k with lock := true, rxTick := s.tick, txTick := none, missed := 0 }
    else s)

/-- TN_BLOCK_LOCK_LOSS (R493). -/
def execTnBlockLockLoss (k : Nat) : State → Host.Outcome State Fault Refusal :=
  run (fun s => if k < 8 ∧ (s.link k).lock then (s.inc (K.TN_BLOCK_ERRORS k)).retrain k else s)

/-- TN_HELLO_MISS (R493): no hello in an interval of 12,500 frames; the third in a row ends the link. -/
def execTnHelloMiss (k : Nat) : State → Host.Outcome State Fault Refusal :=
  run (fun s =>
    let h := s.link k
    if k < 8 ∧ h.lock ∧ h.rxTick + 12500 * (h.missed + 1) ≤ s.tick then
      let s := (s.inc (K.TN_HELLO_MISSED k)).setLink k { h with missed := h.missed + 1 }
      if 3 ≤ h.missed + 1 then s.retrain k else s
    else s)

/-- The hello a link sends. -/
def State.ownHello (s : State) (k : Nat) : Hello :=
  let r := s.fab.root.getD (s.g K.FAB_PRIORITY, Config.deviceUid)
  { uid := Config.deviceUid, link := k, priority := s.g K.FAB_PRIORITY, addr := s.g K.FAB_ADDR, addrGen := s.g K.FAB_ADDR_GEN,
    rootPri := r.1, rootUid := r.2, rootDist := s.g K.FAB_ROOT_DIST, rootSeq := if s.isRoot then s.fab.ownSeq else s.fab.seq,
    seesUid := s.g (K.TN_PEER_UID k), seesLink := s.g (K.TN_PEER_LINK k) }

/-- TN_HELLO_SEND (R493): every 12,500 frames; the root advances ROOT_SEQ with each. -/
def execTnHelloSend (k : Nat) : State → Host.Outcome State Fault Refusal :=
  run (fun s =>
    if k < 8 ∧ (s.link k).lock ∧ (s.link k).txTick.all (fun t => t + 12500 ≤ s.tick) then
      let s : State := if s.isRoot then { s with fab := { s.fab with ownSeq := s.fab.ownSeq + 1 } } else s
      (s.setLink k { s.link k with txTick := some s.tick }).handOver k (.hello k (s.ownHello k))
    else s)

/-- The state a hello gives a link that is in no FAULT. -/
def State.linkSeen (s : State) (k : Nat) (h : Hello) : State :=
  if h.seesUid = Config.deviceUid ∧ h.seesLink = k then
    (if s.linkUp k then s
     else ((s.p (K.TN_STATE k) 3).raiseVal 101 k).setLink k { s.link k with asym := none, exch := 0, offs := [], timeAt := none, departs := [], rxSeq := none })
  else s.linkTo k 2

/-- TN_HELLO_RECEIVE: the peer, the FAULT condition, the state of the link, and the root view. -/
def State.helloReceive (s : State) (k : Nat) (h : Hello) : State :=
  let l := s.link k
  let fresh := !s.fab.dead.any (fun d => d.1 == h.rootUid && h.rootSeq ≤ d.2)
  let view := if h.rootDist + 1 ≤ 15 ∧ fresh then some (h.rootPri, h.rootUid, h.rootDist, h.rootSeq) else none
  let bad := h.uid == Config.deviceUid || s.farLink k
  let s := s.setLink k { l with rxTick := s.tick, missed := 0, hello := some h, view := view, clean := if bad then 0 else l.clean + 1 }
  let s := (s.p (K.TN_PEER_UID k) h.uid).p (K.TN_PEER_LINK k) h.link
  let s := if bad then (if s.g (K.TN_STATE k) = 4 then s else (s.linkTo k 4).raiseVal 102 k)
    else if s.g (K.TN_STATE k) = 4 ∧ l.clean + 1 < 3 then s
    else s.linkSeen k h
  s.reElect

/-- TN_HELLO_RECEIVE (R493). -/
def execTnHelloReceive (k : Nat) (h : Rx Hello) : State → Host.Outcome State Fault Refusal :=
  run (fun s => s.received k h.crcOk (fun s => s.helloReceive k h.frame))

/-! ## Address leases (R496, R497) -/

def State.leaseRow (s : State) (a : Nat) : Nat := s.g (atRow K.FAB_LEASES a)
def State.leaseValid (s : State) (a : Nat) : Bool := bit (s.leaseRow a) 127
def State.leaseUid (s : State) (a : Nat) : Nat := bits (s.leaseRow a) 63 0
def State.leaseGen (s : State) (a : Nat) : Nat := bits (s.leaseRow a) 126 119

/-- An address that can be granted: not leased, not in quarantine. -/
def State.addrFree (s : State) (a : Nat) : Bool :=
  1 ≤ a && a < 4096 && !s.leaseValid a && !s.fab.quar.any (fun q => q.1 == a && s.tick < q.2)

/-- Write a lease, for FAB_LEASE seconds from now. -/
def State.putLease (s : State) (a uid gen : Nat) : State :=
  let s := s.p (atRow K.FAB_LEASES a) (2 ^ 127 + gen % 256 * 2 ^ 119 + uid % 2 ^ 64)
  { s with fab := { s.fab with ends := Sp.ins s.fab.ends a (s.tick + s.g K.FAB_LEASE * 1250000) } }

/-- A lease ends: its address is quarantined for RETIRE_INTERVAL. -/
def State.endLease (s : State) (a : Nat) : State :=
  let s := s.p (atRow K.FAB_LEASES a) (setBit (s.leaseRow a) 127 false)
  ({ s with fab := { s.fab with ends := Sp.del s.fab.ends a, quar := s.fab.quar ++ [(a, s.tick + s.retireFrames)] } }).addrEvent a

/-- The root's answer to a request: the present address again; else the one asked for; else the lowest that is free. -/
def State.grantLease (s : State) (f : LeaseFrame) : LeaseFrame × State :=
  let answer := fun (a gen : Nat) => { f with isGrant := true, addr := a, gen := gen, refused := false, lease := s.g K.FAB_LEASE }
  let held := (s.fab.ends.find? (fun p => s.leaseUid p.1 == f.uid)).map (·.1)
  let claim := s.leaseValid f.addr && s.leaseUid f.addr != f.uid
  if held.isSome ∧ (held = some f.addr ∨ 4096 ≤ f.addr) then
    let a := held.getD 0
    (answer a (s.leaseGen a), s.putLease a f.uid (s.leaseGen a))
  else if 1 ≤ f.addr ∧ f.addr < 4096 ∧ held.isNone ∧ (s.addrFree f.addr ∨ (claim ∧ f.uid < s.leaseUid f.addr)) then
    (answer f.addr f.gen, s.putLease f.addr f.uid f.gen)
  else
    let s := match held with | some a => s.endLease a | none => s
    let a := if s.addrFree f.pin then some f.pin else (List.range 4096).find? s.addrFree
    match a with
    | some a => (answer a ((s.leaseGen a + 1) % 256), (s.putLease a f.uid (s.leaseGen a + 1)).addrEvent a)
    | none => ({ f with isGrant := true, refused := true, lease := 0 }, s.addrEvent f.addr)

/-- A grant for the device itself. -/
def State.takeLease (s : State) (f : LeaseFrame) : State :=
  if f.refused then (s.setAddr 0xFFFF (s.g K.FAB_ADDR_GEN)).addrEvent f.addr
  else { s.setAddr f.addr f.gen with fab := { s.fab with lease := some (s.tick, f.lease) } }

/-- TN_LEASE_RECEIVE: a request is answered by the root or passed toward it; a grant is taken or passed back along its path. -/
def State.leaseReceive (s : State) (k : Nat) (f : LeaseFrame) : State :=
  if f.isGrant then
    (if f.uid = Config.deviceUid then (if s.isRoot then s else
        let t := s.takeLease f
        { t with fab := { t.fab with lease := if f.refused then none else some (s.tick, f.lease) } })
     else match Sp.find s.fab.paths f.uid with
      | some j => s.handOver j (.lease j f)
      | none => s)
  else if s.isRoot then (let r := s.grantLease f; r.2.handOver k (.lease k r.1))
  else match s.fab.link with
    | some j => ({ s with fab := { s.fab with paths := Sp.ins s.fab.paths f.uid k } }).handOver j (.lease j f)
    | none => s

/-- TN_LEASE_RECEIVE (R496). -/
def execTnLeaseReceive (k : Nat) (f : Rx LeaseFrame) : State → Host.Outcome State Fault Refusal :=
  run (fun s => s.received k f.crcOk (fun s => if s.linkUp k ∧ s.gb K.FAB_ENABLE then s.leaseReceive k f.frame else s))

/-- A renewal is due: no address yet, or half the lease has passed. -/
def State.renewDue (s : State) : Bool :=
  match s.fab.lease with
  | some (t, l) => decide (t + l * 625000 ≤ s.tick)
  | none => true

/-- FAB_ADDR_RENEW (R496). -/
def execFabAddrRenew : State → Host.Outcome State Fault Refusal :=
  run (fun s =>
    match s.fab.link with
    | some k =>
      if s.gb K.FAB_ENABLE ∧ s.renewDue then
        s.handOver k (.lease k
          { isGrant := false, uid := Config.deviceUid, pin := s.g K.FAB_ADDR_PIN, addr := s.g K.FAB_ADDR,
            gen := s.g K.FAB_ADDR_GEN, refused := false, lease := 0 })
      else s
    | none => s)

/-- FAB_LEASE_EXPIRY (R496): at the root the lease of an address; at its holder the address itself. -/
def execFabLeaseExpiry (addr : Nat) : State → Host.Outcome State Fault Refusal :=
  run (fun s =>
    let due := (Sp.find s.fab.ends addr).any (fun t => decide (t ≤ s.tick))
    let s := if s.isRoot ∧ due then s.endLease addr else s
    if !s.isRoot ∧ s.g K.FAB_ADDR = addr ∧ s.fab.lease.any (fun l => decide (l.1 + l.2 * 1250000 ≤ s.tick)) then
      (let t := s.setAddr 0xFFFF (s.g K.FAB_ADDR_GEN); { t with fab := { t.fab with lease := none } })
    else s)

/-! ## Two-way time transfer (R501 to R506) -/

/-- The TIME frame a link sends (R501), with the time of its departure kept. -/
def State.timeSend (s : State) (k t : Nat) : State :=
  let l := s.link k
  let seq := (l.txSeq + 1) % 2 ^ 32
  let rx := l.rxSeq.getD (0, 0)
  let f : TimeFrame :=
    { seq := seq, rxSeq := rx.1, txPrev := (l.departs.headD (0, 0)).2, rxTime := rx.2, bound := s.g K.DEV_BOUND,
      tdepth := s.tdepth, viaYou := s.g K.HS_SELECTED == 16 + k && s.slotType (16 + k) == 5, aligned := s.aligned,
      calValid := s.g K.CAL_REF_STATE == 1, calRefPhase := s.gi K.CAL_REF_PHASE, arrival := 0, ratio := 0 }
  (s.setLink k { l with txSeq := seq, timeAt := some s.tick, departs := ((seq, t) :: l.departs).take 8 }).handOver k (.time k (timeBytes f))

/-- TN_TIME_SEND (R501): every 1,250 frames while UP with TN_TIME_EN 1. The command is the departure, at time t: it comes when the line can
take the frame, which goes before the EVENT and MGMT frames that wait (R500). -/
def execTnTimeSend (k t : Nat) : State → Host.Outcome State Fault Refusal :=
  run (fun s =>
    if k < 8 ∧ s.linkUp k ∧ s.gb (K.TN_TIME_EN k) ∧ (s.link k).timeAt.all (fun x => x + 1250 ≤ s.tick) ∧ s.lineFree k then s.timeSend k t else s)

/-- ceil(3σ/8) in 0.1 ps, σ the RMS departure of (time, offset) pairs in q and q/16 from their linear fit (R504). -/
def spread38 (l : List (Int × Int)) : Nat :=
  let m : Int := l.length
  let a := fitSums l
  let d := m * a.2.2.1 - a.1 * a.1
  let num := m * a.2.2.2.1 - a.1 * a.2.1
  let rss := d * (m * a.2.2.2.2 - a.2.1 * a.2.1) - num * num
  if d ≤ 0 then 0 else ceilSqrt (ceilDiv (9 * rss.toNat * 15625 ^ 2) (64 * (m * m * d).toNat * 262144 ^ 2))

/-- TN_LINK_TERM (R504). -/
def State.linkTerm (s : State) (k : Nat) : Nat :=
  let unc := s.g (K.TN_ASYM_UNC k)
  let l := (s.link k).offs
  if unc = unknownBound ∨ l.length < 64 then unknownBound else sumBounds [ceilDiv unc 2, spread38 l, 10]

/-- BOUND of the sample of a link (R503). -/
def State.linkBound (s : State) (k : Nat) (f : TimeFrame) : Nat :=
  if f.viaYou ∨ !f.aligned ∨ 14 ≤ f.tdepth then unknownBound else sumBounds [f.bound, s.g (K.TN_LINK_TERM k)]

/-- The results of TN_ASYM_CAL: the mean in q/16, and with the argument the RMS of the values in 0.1 ps (R506). -/
def State.asymResult (s : State) (k : Nat) (mean : Int) (unc : Nat) : State :=
  (s.pi (K.TN_ASYM_RESULT k) mean).p (K.TN_ASYM_RESULT_UNC k) (capBound unc)

/-- An exchange of TN_ASYM_CAL (R506): one more value, the measured asymmetry less twice the difference of the two ends' CAL_REF phases.
The 1,024th writes the mean, halves to even, and 2 × the argument + ceil(3·σ/32) with the RMS σ of the values in 0.1 ps. -/
def State.asymExchange (s : State) (k : Nat) (f : TimeFrame) (num : Int) : State :=
  match (s.link k).asym with
  | none => s
  | some (arg, n, sum, sq) =>
    if s.g K.CAL_REF_STATE ≠ 1 ∨ !f.calValid then s
    else
      let v := s.est num (10 ^ 18)
      let x := v.1 - 2 * (s.gi K.CAL_REF_PHASE - f.calRefPhase)
      let sum := sum + x
      let sq := sq + x.natAbs ^ 2
      let s := v.2
      if n + 1 < 1024 then s.setLink k { s.link k with asym := some (arg, n + 1, sum, sq) }
      else
        let unc := 2 * arg + ceilSqrt (ceilDiv (9 * sq * 15625 ^ 2) (32 ^ 2 * 1024 * 262144 ^ 2))
        let s := s.asymResult k (roundHalfEven sum 1024) unc
        s.setLink k { s.link k with asym := none }

/-- The exchange that a TIME frame completes (R502): t1 to t4, referred to t4 by the frequency ratio. -/
def State.exchange (s : State) (k : Nat) (f : TimeFrame) (t1 t4 : Nat) : State :=
  let e : Int := 10 ^ 18
  let fwd : Int := 16 * e * ((f.rxTime : Int) - t1) + 16 * f.ratio * ((t4 : Int) - t1)
  let back : Int := 16 * e * ((t4 : Int) - f.txPrev)
  let o := s.est (fwd - back - e * s.gi (K.TN_ASYM k)) (2 * 10 ^ 18)
  let d := o.2.est (fwd + back) (2 * 10 ^ 18)
  let s := (d.2.pi (K.TN_OFFSET k) o.1).pi (K.TN_DELAY k) d.1
  let s := s.setLink k { s.link k with offs := (((t4 : Int), o.1) :: (s.link k).offs).take 64, depth := f.tdepth, exch := (s.link k).exch + 1 }
  let s := (s.p (K.TN_LINK_TERM k) (s.linkTerm k)).asymExchange k f (fwd - back)
  if s.slotType (16 + k) = 5 then
    let start := frameOf t4 * qFrame
    let ph := roundHalfEven (o.1 * e - 16 * f.ratio * ((t4 : Int) - start)) (16 * 10 ^ 18)
    s.offsetSample (16 + k) start (ph * 16) (s.linkBound k f)
  else s

/-- TN_TIME_RECEIVE (R502, R503): an exchange needs the frame before it and the departure it answers. -/
def State.timeReceive (s : State) (k : Nat) (f : TimeFrame) : State :=
  let l := s.link k
  let s := (s.inc (K.TN_EXCHANGES k)).setLink k { l with rxSeq := some (f.seq, f.arrival), calOk := f.calValid }
  match l.rxSeq, l.departs.find? (fun p => p.1 == f.rxSeq) with
  | some (q, t4), some (_, t1) =>
    if f.seq = (q + 1) % 2 ^ 32 then
      let s := s.exchange k f t1 t4
      if s.farLink k then (s.linkTo k 4).raiseVal 102 k else s
    else s
  | _, _ => s

/-- TN_TIME_RECEIVE (R502). -/
def execTnTimeReceive (k : Nat) (f : Rx TimeRx) : State → Host.Outcome State Fault Refusal :=
  run (fun s => s.received k f.crcOk (fun s => if s.linkUp k then s.timeReceive k (readTime f.frame) else s))

/-- TN_ASYM_CAL (R506): the measurement begins, and its results come with the 1,024th exchange from here. A link that sends no TIME frames
has no exchange to wait for: what the measurement found there is given. -/
def State.asymCalBody (s : State) (k arg : Nat) (mean : Int) (rms : Nat) : CmdRes :=
  if !s.linkUp k ∨ s.g K.CAL_REF_STATE ≠ 1 ∨ !(s.link k).calOk then s.deny RC.state
  else if !s.gb (K.TN_TIME_EN k) then (s.asymResult k mean (2 * arg + ceilDiv (3 * rms) 32)).done
  else (s.setLink k { s.link k with asym := some (arg, 0, 0, 0) }).done

def State.asymCalCmd (s : State) (w : Who) (k arg : Nat) (mean : Int) (rms : Nat) : CmdRes :=
  s.call w (K.TN_ASYM_CAL k) arg 1 (fun s => s.asymCalBody k arg mean rms)

/-- TN_ASYM_CAL (R506). -/
def execTnAsymCal (who : Who) (k arg : Nat) (mean : Int) (rms : Nat) : State → Host.Outcome State Fault Refusal :=
  run (fun s => if k < 8 then s.command (fun s => s.asymCalCmd who k arg mean rms) else s)

end Sys2Proof.Machine
end

