-- ==== Sys2Proof/Machine/Views.lean ====
section
/-! DEFINITION. What a read of an object returns (R515, R533): the value held, or, for an object whose value follows from other state,
that value. -/

namespace Sys2Proof.Machine

/-- The index and subindex of an address, at row 0. -/
def atObj (k : Nat) : Nat := k - keyRow k
/-- The same subindex of instance 0 as another address has. -/
def sameSub (k k0 : Nat) : Bool := keySub k == keySub k0

/-- How a decided item of a sequencer's line reads in SQ_NEXT1 and SQ_NEXT2; past them the provisional resolutions read (R187). -/
def nextCode : Option Iter → Nat
  | some it => if it.kind = 2 then 0xFFFE else if it.kind = 0 then it.entry else 0xFFFF
  | none => 0xFFFF

/-- A slot of the loop stack (SQ_LOOP_j): slot 0 is the bottom. -/
def loopSlot (l : List LoopRec) (j : Nat) : Nat :=
  match l.reverse[j]? with
  | some r => r.passes % 2 ^ 32 * 2 ^ 32 + 2 ^ 31 + r.first
  | none => 0

/-- The operation word (R286). -/
def XOp.word (o : XOp) : Nat :=
  o.code * 2 ^ 60 + o.entry * 2 ^ 46 + o.gen * 2 ^ 38 + o.ppn * 2 ^ 28
    + (match o.peer with | some p => p * 2 ^ 18 + 2 ^ 17 | none => 0) + o.prog % 1024

/-- An operation as a bank sees it: none of another bank's. -/
def opAt (b : Nat) (o : Option XOp) : Nat :=
  match o with
  | some o => if o.banks.contains b then o.word else 0
  | none => 0

/-- SQ_NEXT1 (0) and SQ_NEXT2 (1): what is final on the line, else the provisional resolutions (R187). -/
def State.nextOf (s : State) (q i : Nat) : Nat :=
  let h := s.sq q
  let l := if s.plays q then h.line.drop 1 else h.line
  if i < l.length then nextCode l[i]? else ((s.provisional q)[i - l.length]?).getD 0xFFFF

/-- STATE of an entry as it reads (R178): an activity state whenever one applies. -/
def State.segState (s : State) (e : Nat) : Nat :=
  let r := s.seg e
  let q := Seg.owner r
  let st := Seg.base r
  if st = 1 ∨ st = 2 then
    (if s.plays q && (s.sq q).line.head?.any (fun it => it.kind == 0 && it.entry == e) then 5
     else if s.onLine q e then 4
     else if s.nextOf q 0 = e ∨ s.nextOf q 1 = e then 3
     else if !s.active e then st
     else if (s.beginsSoon q 64 (s.path q 64) (s.lineEnd q (s.sqLimit q))).contains e then 3
     else 6)
  else st

/-- The pages of PAGE_MAP in a state, of one bank or of all. -/
def State.pageCount (s : State) (p : Nat → Bool) (st : Nat) : Nat :=
  (s.pages.filter (fun r => p r.1 && Pg.state r.2 == st)).length
/-- FREE pages: those that PAGE_MAP lists in no other state. -/
def State.freeCount (s : State) (p : Nat → Bool) (n : Nat) : Nat := n - (s.pages.filter (fun r => p r.1 && Pg.state r.2 != Pg.free)).length

/-- The logical output of a pad (R324). -/
def State.logicalOf (s : State) (c : Nat) : Nat :=
  let pos := if s.role = 0 then 0 else s.g K.STK_POSITION
  match (s.rows K.LOGICAL_MAP 1024).find? (fun r => bit r.2 63 && bits r.2 59 56 == pos && bits r.2 5 0 == c) with
  | some r => r.1
  | none => 0xFFFF

/-- The edge counters of a spare read its own core's; the status bits but BUSY those of the channel it covers (R71). -/
def State.chStatus (s : State) (c : Nat) : Nat :=
  let st := if c < 64 then s.g (K.CH_STATUS c) else match s.channelOf c with
    | some x => s.g (K.CH_STATUS x)
    | none => 0
  setBit st 0 !(s.core c).queue.isEmpty

/-- PAD_LEVEL: the present level; while a clock runs, the one that it has at the instant of the read, which lies anywhere in the frame
(R295, R300). -/
def State.padLevel (s : State) (c v : Nat) : Nat :=
  match (s.pad c).wave with
  | some w =>
    let q := Config.measured (K.PAD_LEVEL c) s.tick % qFrame
    if v = 2 then 2 else b2n ((s.pad c).up ≤ s.qTick + q && w.isHigh q)
  | none => v

/-- Views of a channel block. -/
def State.lookChannel (s : State) (c x k v : Nat) : Nat :=
  let is := sameSub k
  if x = 0 ∧ c < 64 then (if is (K.CH_SEQ 0) then s.ownerSeq c else if is (K.CH_ANCHOR 0) then ofI64 (s.anchor c (s.g (K.CH_CORE c))) else v)
  else if c ≥ 64 ∧ (x = 0 ∨ (2 ≤ x ∧ x ≤ 6)) then
    (if x = 0 ∧ is (K.CH_CORE 0) then v
     else match s.channelOf c with
      | some y =>
        if x = 0 ∧ is (K.CH_SEQ 0) then s.ownerSeq y else if x = 0 ∧ is (K.CH_ANCHOR 0) then ofI64 (s.anchor y c) else s.g (key (0x5000 + 0x20 * y + x) (keySub k) 0)
      | none => dflt k)
  else if x = 1 then (if is (K.CH_QUEUE_OCC 0) then (s.core c).queue.length else if is (K.CH_STATUS 0) then s.chStatus c else v)
  else if x = 7 then
    (if is (K.IP_SETTLING 0) then (match s.channelOf c with | some y => s.g (K.IP_SETTLING y) | none => 0)
     else if is (K.IP_PAD_TERM 0) then (match s.channelOf c with | some y => formatTerm (s.g (K.PAD_FMT y)) (s.g (K.PAD_SLEW y)) | none => 0)
     else v)
  else if x = 0x10 ∧ c < 64 then
    (if is (K.PAD_MIN_GAP 0) then minGap (s.g (K.PAD_FMT c)) else if is (K.PAD_CLASS 0) then b2n (s.aux c)
     else if is (K.PAD_LEVEL 0) then s.padLevel c v else if is (K.CH_LOGICAL 0) then s.logicalOf c else v)
  else if x = 0x10 then (if is (K.BANK_DEGRADED 0) then b2n (s.degraded (c - 64)) else v)
  else if x = 0x11 then
    (match (s.meas.pads.find? (fun p => p.1 == c)).map (·.2) with
     | some m => if is (K.PAD_SWING_MV 0) then ofI64 m.swing else if is (K.PAD_VCM_MV 0) then ofI64 m.vcm else if is (K.PAD_I_DRV 0) then m.drive else v
     | none => if is (K.PAD_SWING_MV 0) || is (K.PAD_VCM_MV 0) || is (K.PAD_I_DRV 0) then Config.measured k s.tick else v)
  else v

/-- Views of a sequencer's blocks. -/
def State.lookSeq (s : State) (q k v : Nat) : Nat :=
  let is := sameSub k
  let h := s.sq q
  if is (K.SQ_NEXT1 0) then s.nextOf q 0
  else if is (K.SQ_NEXT2 0) then s.nextOf q 1
  else if is (K.SQ_JUMP_FN 0) then (if v = 0 ∧ (s.g (K.SQ_JUMP_STATUS q) = 1 ∨ s.g (K.SQ_JUMP_STATUS q) = 2) then s.jumpFrame q else v)
  else if is (K.SQ_FIFO_OCC 0) then h.fifo.length
  else if 0x10 ≤ keySub k ∧ keySub k < 0x14 then loopSlot h.loops (keySub k - 0x10)
  else v

/-- Views of a bank's scheduler. -/
def State.lookSched (s : State) (b k : Nat) (v : Nat) : Nat :=
  let sub := keySub k
  let i := (sub - 0x10) / 4
  if sub = 1 then ([8, 9, 10, 11].map (fun r => ((s.unit b r).wait.filter (fun o => o.banks.contains b)).length)).foldl (· + ·) 0
  else if 0x10 ≤ sub ∧ sub < 0x20 ∧ sub % 4 = 0 then opAt b (s.unit b (8 + i)).active
  else if 0x10 ≤ sub ∧ sub < 0x20 ∧ sub % 4 = 1 then opAt b (s.unit b (8 + i)).held
  else v

/-- The lease a session has left, in µs (R527, R554). -/
def State.leaseLeft (s : State) (k : Nat) : Nat :=
  if s.g (K.SESS_STATE k) = 1 ∨ s.g (K.SESS_STATE k) = 2 then s.g (K.SESS_LEASE k) - (s.tick - (s.sessOf k).renewed) * 4 / 5 else 0

/-- SESS_STAGED_LIST: index, subindex and row of a staged value. -/
def State.stagedRow (s : State) (k r : Nat) : Nat :=
  match (s.sessOf k).staged[r]? with
  | some (a, _) => keyIndex a * 2 ^ 40 + keySub a * 2 ^ 32 + keyRow a
  | none => 0

/-- The mapped channels of the COMPAT personality. -/
def State.mapped (s : State) (c : Nat) : Bool := s.g K.CPT_CH_BASE ≤ c && c < s.g K.CPT_CH_BASE + 24

/-- CPT_STATUS (R606). -/
def State.cptStatus (s : State) : Nat :=
  let l := instances 64 s.mapped
  let flagged := l.any (fun c => s.g (K.CH_FLAGGED c) != 0 && s.frameStart ≤ time92 (s.g (K.CH_LAST_FLAG c)) + qSecond)
  b2n (s.aligned && s.selected.isSome) + 2 * b2n (3 ≤ s.g K.SR_STATE)
    + 4 * b2n ((List.range 8).any (fun r => s.g (K.R_TYPE r) != 0 && s.g (K.SLOT_STATE r) == 1))
    + 8 * b2n (l.any (fun c => s.g (K.CH_BOUND c) == unknownBound)) + 16 * b2n flagged

/-- Entries of a table whose rows are lease rows read with the time that remains (R512). -/
def State.leaseRead (s : State) (a v : Nat) : Nat :=
  if bit v 127 then setBits v 95 64 (((Sp.find s.fab.ends a).getD 0 - s.tick) / 1250) else v

/-- XS_CAL: the core whose tables are being loaded in M1, in rising order, and how many of its 512 entries are, as they stand (R281). -/
def State.loadProgress (s : State) : Nat :=
  match (if s.mode = 1 ∧ s.host.bootSet.isSome then (List.range 72).find? (fun c => !s.host.loaded.contains c) else none) with
  | some c => c * 2 ^ 56 + Config.measured K.XS_CAL s.tick % 512
  | none => 0xFF * 2 ^ 56

/-- CALB_POINTS: 7 samples in each frame make points of 4,096 in MEASURE and of 256 in VERIFY (R440, R465). -/
def State.calPoints (s : State) (k : Nat) : Nat :=
  let n := 7 * (s.tick - (s.calOf k).began)
  if s.g (K.CALB_STATE k) = 3 then min 512 (n / 4096) else if s.g (K.CALB_STATE k) = 5 then min 32 (n / 256) else 0

/-- What a read of an address returns. -/
def State.look (s : State) (k : Nat) : Nat :=
  let i := keyIndex k
  let sub := keySub k
  let r := keyRow k
  let v := s.g k
  if i < 0xF000 ∧ sub = 0 then highestSub i
  else if 0x5000 ≤ i ∧ i < 0x5900 then s.lookChannel ((i - 0x5000) / 0x20) ((i - 0x5000) % 0x20) k v
  else if 0x6020 ≤ i ∧ i < 0x6028 then s.lookSeq (i - 0x6020) k v
  else if 0x7020 ≤ i ∧ i < 0x7030 then s.lookSched (i - 0x7020) k v
  else if atObj k = K.SEG_TABLE then setBits v 2 0 (s.segState r)
  else if atObj k = K.SEG_PLACE then setBit v 38 (s.residency r == 1 && !s.allValid r)
  else if k = K.PAGES_FREE then s.freeCount (fun _ => true) 1024
  else if k = K.PAGES_RETIRED then s.pageCount (fun _ => true) Pg.retired
  else if 0x6420 ≤ i ∧ i < 0x6428 then
    (if sameSub k (K.SQ_WORD_LOAD 0) then s.wordLoad (i - 0x6420) else if sameSub k (K.RING_VALID 0) then s.ringValid (i - 0x6420) else v)
  else if 0x6430 ≤ i ∧ i < 0x6440 then
    (let b := i - 0x6430
     if sameSub k (K.BANK_LOAD 0) then s.bankLoad b else if sameSub k (K.BANK_FREE 0) then s.freeCount (fun p => p / 64 == b) 64 else v)
  else if k = K.WIN_OLDEST then (if s.xfers.isEmpty then 2 ^ 64 - 1 else s.xfers.foldl (fun m x => min m x.start) (2 ^ 64 - 1))
  else if 0x8030 ≤ i ∧ i < 0x8038 then
    (if sameSub k (K.CALB_POINTS 0) then s.calPoints (i - 0x8030) else v)
  else if k = K.NVM_STATE then (if s.store.isSome then 1 + Config.measured k s.tick % 2 else v)
  else if k = K.XS_CAL then s.loadProgress
  else if k = K.SPN_MARGIN_PPM then s.meas.spnMargin
  else if k = K.HS_STATE then s.hsState
  else if k = K.FAB_UID ∨ k = K.ID_UID then Config.deviceUid
  else if k = K.FAB_TDEPTH then s.tdepth
  else if k = K.FAB_REACHABLE then ((s.rows K.FAB_ROUTES 4096).filter (fun p => bit p.2 63)).length
  else if atObj k = K.FAB_LEASES then s.leaseRead r v
  else if k = K.WOP_CHANNELS then s.chans.length
  else if k = K.ID_GRADE then b2n Config.gradeI
  else if k = K.ID_BOOT then s.g K.ER_BOOT
  else if 0x2020 ≤ i ∧ i < 0x2028 then
    (let n := i - 0x2020
     if sameSub k (K.SESS_LEASE_LEFT 0) then s.leaseLeft n
     else if sameSub k (K.SESS_STAGED 0) then (s.sessOf n).staged.length
     else if sameSub k (K.SESS_STAGED_LIST 0) then s.stagedRow n r else v)
  else if k = K.CPT_STATUS then s.cptStatus
  else if k = K.FC_LIVE_LO then bitmap ((s.raised.map (·.1)).filter (· < 64))
  else if k = K.FC_LIVE_HI then bitmap ((((s.raised.map (·.1)).filter (64 ≤ ·))).map (· - 64))
  else if k = K.FC_SHADOWS then (s.shadows.filter (fun x => match x.kind with | .direct _ _ => false | _ => true)).length + s.resets.length
  else if 0xE100 ≤ i ∧ i < 0xE118 ∧ sub = 8 then s.g K.CPT_CH_BASE + (i - 0xE100)
  else if 0xE200 ≤ i ∧ i < 0xE208 ∧ sub = 4 then s.g (K.SLOT_STATE (i - 0xE200))
  else if k = K.TEL_TEMP_MAX then ofI64 (maxTemp s.meas.temps)
  else if atObj k = K.TEL_TEMP then ofI64 (s.meas.temps.getD r 0)
  else if k = K.TEL_VDD_MV then s.meas.vdd
  else if k = K.TEL_VDDA_MV then s.meas.vdda
  else if k = K.TEL_VDDIO_MV then s.meas.vddio
  else if k = K.TEL_VDDH_MV then s.meas.vddh
  else if k = K.TEL_POWER_MW then s.meas.power.foldl (· + ·) 0
  else if atObj k = K.TEL_POWER_RAIL then s.meas.power.getD r 0
  else if i = 0xB000 ∧ 0x40 ≤ sub ∧ sub < 0x80 ∧ sub % 16 = 0xE then
    (let q := (sub - 0x40) / 16
     (s.xfers.filter (fun x => x.load.any (fun l => l.1 == q))).length + (s.qpOf q).done.length)
  else v

/-- What a read of a byte of BAR2 returns (R611): the post and read slots, the segment table in rows of 32 bytes (R174), the correction
tables in use as 16-bit values, low byte first (R115); 0 elsewhere. -/
def State.bar2 (s : State) (off : Nat) : Byte :=
  if off < 245760 then s.slotByte off
  else if 0x100000 ≤ off ∧ off < 0x180000 then
    (let x := off - 0x100000
     BitVec.ofNat 8 (s.look (atRow K.SEG_TABLE (x / 32)) / 256 ^ (x % 32)))
  else if 0x200000 ≤ off ∧ off < 0x212000 then
    (let x := off - 0x200000
     BitVec.ofNat 8 ((BitVec.ofInt 16 (Sp.get (fun _ => 0) s.corr (x / 2))).toNat / 256 ^ (x % 2)))
  else 0

/-- Bytes of a number, without leading zeros. -/
def plainBytes (v : Nat) : List Byte := beBytes ((v.log2 + 8) / 8) v

/-- The bytes of a STR or BLOB object (R516): those made with the device, those of the latest Epoch Record, or the text of its Default. -/
def State.content (s : State) (k : Nat) : List Byte :=
  if k = K.ER_LATEST then (if s.g k = 0 then [] else beBytes 128 (s.g k))
  else if k = K.ID_VENDOR ∨ k = K.ID_FAMILY ∨ k = K.ID_DEVICE then plainBytes (s.g k)
  else Config.madeBytes k

/-- The record of a command (R534), word w. -/
def State.cmdWord (s : State) (k w : Nat) : Nat := if w < 7 then s.g (k + w) else 0

end Sys2Proof.Machine
end

