-- ==== Sys2Proof/Machine/Checks.lean ====
section
/-! DEFINITION. The conditions the owning chapters set on the values of a commit (R530): each is tried on the projected configuration
for the instances the commit touches, and names the object at fault. -/

namespace Sys2Proof.Machine

/-! ## Instances a commit touches -/

/-- A list without its repeats, in the order of first appearance. -/
def nub : List Nat → List Nat
  | [] => []
  | x :: l => x :: (nub l).filter (· != x)

/-- The indices among committed values that lie in a range, less its start. -/
def touchedIx (vals : List (Nat × Nat)) (lo hi : Nat) : List Nat :=
  nub ((vals.map (fun p => keyIndex p.1)).filterMap (fun i => if lo ≤ i ∧ i < hi then some (i - lo) else none))

/-- A value is committed for an object, row or not. -/
def sets (vals : List (Nat × Nat)) (k : Nat) : Bool := vals.any (fun p => atObj p.1 == k)

/-- The rows committed for a table. -/
def rowsOf (vals : List (Nat × Nat)) (k : Nat) : List Nat := (vals.filter (fun p => atObj p.1 == k)).map (fun p => keyRow p.1)

/-- A failed condition: the object it names and the result. -/
abbrev Fail := Nat × Nat
/-- The failure of a condition. -/
def failIf (b : Bool) (k code : Nat) : List Fail := if b then [(k, code)] else []

/-! ## Ranges of single values (the Meaning columns) -/

/-- The values an object takes at an index below 0x5000, and at the channel block. -/
def limitLow (i s : Nat) : Option (Int × Int) :=
  if i = 0x2010 then (if s = 6 then some (0, 2) else none)
  else if 0x3000 ≤ i ∧ i < 0x3700 then
    (if i % 0x40 = 0 then
      match s with
      | 1 => some (0, 6) | 2 => some (1, 15) | 5 => some (1, 65536) | 6 => some (-10485760000000, 10485760000000)
      | 9 => some (0, 600000) | 0xa => some (0, 3600) | 0xb => some (1, 5000) | 0xd => some (0, 2) | 0xf => some (10, 60000)
      | _ => none
     else match s with
      | 1 => some (0, 2) | 2 => some (0, 2) | 3 => some (400, 2000)
      | _ => none)
  else if i = 0x3700 then (if s = 3 then some (1000000, 100000000000) else none)
  else if i = 0x3800 then
    match s with
    | 6 => some (3600, 604800) | 7 => some (600, 86400) | 0x14 => some (3600, 31536000)
    | _ => none
  else if 0x4010 ≤ i ∧ i < 0x4014 then
    match s with
    | 2 => some (31, 40) | 4 => some (0, 1) | 5 => some (1, 10) | 6 => some (0, 63) | 7 => some (500, 100000) | 8 => some (0, 2)
    | 9 => some (0, 50) | 0xa => some (30000, 33000)
    | _ => none
  else if 0x5000 ≤ i ∧ i < 0x5900 then
    (if i % 0x20 = 0 then
      match s with
      | 1 => some (0, 4) | 2 => some (0, 1) | 4 => some (-134217728, 10485760000000)
      | _ => none
     else if i % 0x20 = 0x10 then
      match s with
      | 1 => some (0, 8) | 2 => some (0, 15) | 3 => some (0, 3) | 5 => some (0, 2) | 6 => some (0, 2)
      | _ => none
     else if i % 0x20 = 0x12 then
      match s with
      | 1 => some (0, 4) | 2 => some (1, 16777216)
      | _ => none
     else none)
  else none

/-- The values an object takes at an index from 0x6000 up. -/
def limitHigh (i s : Nat) : Option (Int × Int) :=
  if 0x6010 ≤ i ∧ i < 0x6018 then
    match s with
    | 1 => some (0, 192) | 2 => some (0, 2)
    | _ => none
  else if 0x6020 ≤ i ∧ i < 0x6028 then
    match s with
    | 2 => some (0, 16383) | 3 => some (4194304, 10485760000000) | 6 => some (1000, 1000000)
    | _ => none
  else if 0x6200 ≤ i ∧ i < 0x6240 then
    match s with
    | 2 => some (-60, 60) | 5 => some (0, 120)
    | _ => none
  else if i = 0x6400 then
    match s with
    | 0xd => some (1, 31) | 0xe => some (1000, 100000)
    | _ => none
  else if i = 0x7000 then (if s = 0x60 then some (0, 512) else none)
  else if i = 0x8000 then
    match s with
    | 2 => some (25, 1600) | 4 => some (100, 3600000) | 5 => some (3600, 2592000) | 6 => some (2, 100) | 7 => some (5, 200)
    | 0x17 => some (60, 86400)
    | _ => none
  else if i = 0x8020 then (if s = 4 then some (256, 65536) else none)
  else if i = 0x9000 then
    match s with
    | 0x10 => some (1, 1023) | 0x11 => some (60, 2592000)
    | _ => none
  else if i = 0xa000 then
    match s with
    | 1 => some (0, 2) | 2 => some (0, 15)
    | _ => none
  else if i = 0xa010 then (if s = 5 then some (10, 3600) else none)
  else if i = 0xb000 then
    match s with
    | 0x11 => some (0, 1) | 0x17 => some (1, 128) | 0x20 => some (0, 1)
    | _ => none
  else if i = 0xb100 then (if s = 3 then some (0, 7) else none)
  else if i = 0xc000 then
    match s with
    | 4 => some (0, 3) | 5 => some (0, 3) | 6 => some (0, 3) | 0xa => some (10, 3600)
    | _ => none
  else if i = 0xd000 then (if s = 1 then some (1, 1000) else none)
  else if i = 0xe000 then (if s = 2 then some (0, 1) else none)
  else if 0xe100 ≤ i ∧ i < 0xe118 then
    match s with
    | 1 => some (0, 2) | 2 => some (0, 7)
    | _ => none
  else if 0xe200 ≤ i ∧ i < 0xe208 then
    match s with
    | 1 => some (0, 2) | 2 => some (1, 8)
    | _ => none
  else none

/-- Objects whose values are a range and one value beside it. -/
def limitOdd (k v : Nat) : Bool :=
  let i := keyIndex k
  let s := keySub k
  if 0x5000 ≤ i ∧ i < 0x5900 ∧ i % 0x20 = 0 ∧ s = 8 then 12 ≤ v && v != 0xFF
  else if 0x5000 ≤ i ∧ i < 0x5900 ∧ i % 0x20 = 0x10 ∧ s = 8 then 16 ≤ v && v != 0xFF
  else if 0x6420 ≤ i ∧ i < 0x6428 ∧ s = 4 then (v == 1 || 512 < v)
  else if k = K.CAL_PERIOD then v != 0 && (v < 3600 || 31536000 < v)
  else if k = K.HS_FORCE then 27 < v && v < 0xFF
  else if k = K.FAB_ADDR_PIN then v == 0 || (4095 < v && v != 0xFFFF)
  else if k = K.CPT_CH_BASE then v % 8 != 0 || 40 < v
  else if i = 0xb000 ∧ 0x40 ≤ s ∧ s < 0x80 ∧ s % 16 = 4 then
    (let ok := fun n => 4 ≤ n && n ≤ 12
     !(ok (bits v 23 16) && ok (bits v 15 8) && (ok (bits v 7 0) || bits v 7 0 == 0)))
  else false

/-- A committed value lies outside what its object takes. -/
def outOfRange (k v : Nat) : Bool :=
  let i := keyIndex k
  let s := keySub k
  let isSigned : Bool := match objAt i s with
    | some d => d.ty == .i64 || d.ty == .dur64
    | none => false
  let x : Int := if isSigned then toI64 v else (v : Int)
  limitOdd k v || (match (if i < 0x6000 then limitLow i s else limitHigh i s) with
    | some (lo, hi) => decide (x < lo) || decide (hi < x)
    | none => false)

/-- The single-value ranges of a commit. -/
def rangeFails (vals : List (Nat × Nat)) : List Fail := vals.flatMap (fun p => failIf (outOfRange p.1 p.2) (atObj p.1) RC.range)

/-! ## Timescale (R47, R486) -/

/-- LEAP_PENDING and LEAP_EPOCH; `first` is the earliest frame count a change may take. -/
def State.leapFails (p : State) (vals : List (Nat × Nat)) (first : Nat) : List Fail :=
  let v := p.g K.LEAP_PENDING
  let t := p.g K.LEAP_EPOCH
  let off := p.gi K.UTC_OFFSET + (if v = 1 then 1 else -1)
  let bad := bits t 43 0 != 0 || ((bits t 91 44 : Int) - off) % 86400 != 0 || time92 t < p.fnAt first * qFrame
  failIf (sets vals K.LEAP_PENDING && (v == 1 || v == 2) && bad) K.LEAP_PENDING RC.range

/-- The objects a follower in M8 takes from its master. -/
def State.followFails (s : State) (vals : List (Nat × Nat)) : List Fail :=
  [K.UTC_OFFSET, K.LEAP_PENDING, K.LEAP_EPOCH].flatMap (fun k => failIf (s.mode == 8 && sets vals k) k RC.state)

/-! ## Channels and pads (R76, R80, R103, R173, R292, R293, R300, R338) -/

/-- A width, or a period less a width, below a gap. -/
def thin (period width : Int) (gap : Nat) : Bool := decide (width < gap) || decide (period - width < gap)

/-- The DIRECT rules of a channel. -/
def State.ruleFails (p : State) (c : Nat) : List Fail :=
  let on := (List.range 4).filter (fun j => p.gb (K.RULE_ENABLE c j))
  let each := on.flatMap (fun j =>
    let per := p.gi (K.RULE_PERIOD c j)
    let w := p.gi (K.RULE_WIDTH c j)
    failIf (decide (per < 65536)) (K.RULE_PERIOD c j) RC.range
      ++ failIf (thin per w 1573 || (p.src c == 1 && thin per w (minGap (p.g (K.PAD_FMT c))))) (K.RULE_WIDTH c j) RC.range)
  let load := on.foldl (fun n j => n + 2 * ceilDiv qFrame (max 1 (p.gi (K.RULE_PERIOD c j)).toNat)) 0
  each ++ (match on.head? with
    | some j => failIf (256 < load) (K.RULE_PERIOD c j) RC.rate
    | none => [])

/-- The TRIGGER program of a channel whose source is TRIGGER. -/
def State.triggerFails (p : State) (c : Nat) : List Fail :=
  if p.src c = 2 then
    let off := p.gi (K.TRIG_OFFSET c)
    let per := p.gi (K.TRIG_PERIOD c)
    let w := p.gi (K.TRIG_WIDTH c)
    failIf (15 < p.g (K.TRIG_INPUT c)) (K.TRIG_INPUT c) RC.range
      ++ failIf (p.g (K.TRIG_EDGE c) == 0 || 3 < p.g (K.TRIG_EDGE c)) (K.TRIG_EDGE c) RC.range
      ++ failIf (decide (off < 0) || decide ((qSecond : Int) < off) || decide (off + p.gi (K.CH_DELAY c) < trigLatency)) (K.TRIG_OFFSET c) RC.range
      ++ failIf (p.g (K.TRIG_COUNT c) == 0) (K.TRIG_COUNT c) RC.range
      ++ failIf (decide (per < 65536) || decide ((qSecond : Int) < per)) (K.TRIG_PERIOD c) RC.range
      ++ failIf (thin per w (max 1573 (minGap (p.g (K.PAD_FMT c))))) (K.TRIG_WIDTH c) RC.range
  else []

/-- The ratio of a UT's committed frequency, and its highest instantaneous frequency under spread as a fraction of it (R357). -/
def State.spreadTop (p : State) (u : Nat) : Nat × Nat :=
  if p.g (K.UT_SSC_MODE u) = 2 then (10000 + p.g (K.UT_SSC_DEPTH u), 10000) else (10000, 10000)

/-- A source frequency over a divider exceeds the highest clock of a format; DISABLED names none. -/
def tooFast (src num : Nat) (top : Nat × Nat) (div fmt : Nat) : Bool :=
  let f := sourceFreq src num
  fmt != 0 && topClock fmt * (f.2 * top.2 * div) < f.1 * top.1

/-- The divider and phase of a pad. -/
def State.clockFails (p : State) (c : Nat) : List Fail :=
  let src := p.g (K.CLK_SRC c)
  let n := p.g (K.CLK_DIV c)
  let u := src - 1
  let fed := src != 0 && src ≤ 4
  let num := if fed then p.utNum u else 0
  failIf (n ≤ p.g (K.CLK_PHASE c)) (K.CLK_PHASE c) RC.range
    ++ failIf ((src == 0 && n < 4) || (fed && p.gb (K.UT_ENABLE u) && n < 3) || tooFast src num (1, 1) n (p.g (K.PAD_FMT c))) (K.CLK_DIV c) RC.range

/-- The format that a commit leaves in force on a pad against the class of its bank (R292). -/
def State.supplyFails (p : State) (c : Nat) : List Fail :=
  failIf (!fmtAccepts (p.g (K.PAD_FMT c)) (p.classOf c)) (K.PAD_FMT c) RC.supply

/-- The lane pin of a channel: the load pinned to its lane. -/
def State.laneFails (p : State) (vals : List (Nat × Nat)) (c : Nat) : List Fail :=
  let l := p.g (K.CH_LANE_PIN c)
  let load := (instances 64 (fun x => p.g (K.CH_LANE_PIN x) == l)).foldl (fun n x => n + p.planned x) 0
  failIf (sets vals (K.CH_LANE_PIN c) && l < 12 && laneLimit p.lanesOut < load) (K.CH_LANE_PIN c) RC.laneCapacity

/-- The lead of a channel against what its running owner latched. -/
def State.leadFails (p : State) (c : Nat) : List Fail :=
  failIf ((List.range 8).any (fun q => p.owns q c && p.g (K.SQ_STATE q) != 0 && p.lead q < p.chLead c)) (K.CH_DELAY c) RC.state

/-- The conditions on one channel. -/
def State.channelFails (p : State) (vals : List (Nat × Nat)) (c : Nat) : List Fail :=
  p.laneFails vals c ++ p.leadFails c ++ p.ruleFails c ++ p.triggerFails c ++ p.clockFails c

/-! ## Vectors and sequencers (R137, R144, R169) -/

/-- The position map of a sequencer. -/
def State.posFails (p : State) (q : Nat) : List Fail :=
  let m := fun i => p.g (K.SQ_POS q i)
  (List.range 40).flatMap (fun i =>
    failIf ((79 < m i && m i != 0xFF) || (m i != 0xFF && (List.range 40).any (fun j => j != i && m j == m i))) (K.SQ_POS q i) RC.range)

/-- One timing set. -/
def State.timingFails (p : State) (n : Nat) : List Fail :=
  let per := p.g (K.TS_PERIOD n)
  failIf (per < 131072 || 4294967296 < per) (K.TS_PERIOD n) RC.range
    ++ (List.range 80).flatMap (fun i =>
      let e1 := bits (p.g (K.TSP_EDGE n i)) 31 0
      let e2 := bits (p.g (K.TSP_EDGE n i)) 63 32
      let st := p.g (K.TSP_STROBE n i)
      failIf (4 < p.g (K.TSP_FMT n i)) (K.TSP_FMT n i) RC.range
        ++ failIf (i < 64 && (per ≤ e1 || (p.g (K.TSP_FMT n i) != 0 && (per ≤ e2 || e2 < e1 + 1573)))) (K.TSP_EDGE n i) RC.range
        ++ failIf (64 ≤ i && per ≤ bits st 31 0 + bits st 63 32) (K.TSP_STROBE n i) RC.range)

/-- Ownership of channels: no bit in two masks, none changed while its sequencer runs. -/
def State.ownFails (b p : State) (vals : List (Nat × Nat)) : List Fail :=
  let l := (List.range 8).filter (fun q => sets vals (K.SQ_OWN q))
  if l.isEmpty then []
  else (List.range 8).flatMap (fun q =>
    failIf (l.contains q && b.g (K.SQ_OWN q) != p.g (K.SQ_OWN q) && p.g (K.SQ_STATE q) != 0) (K.SQ_OWN q) RC.state
      ++ failIf ((List.range 8).any (fun r => r != q && p.g (K.SQ_OWN q) &&& p.g (K.SQ_OWN r) != 0)) (K.SQ_OWN q) RC.overlap)

/-! ## Templates (R161) -/

/-- What an entry of a template writes: vector and position, 80 for TSSEL. -/
def tfPlaces (u a b : Nat) : List (Nat × Nat) :=
  let byte := fun n => (List.range 8).map (fun i => (Tf.uVec u n i, Tf.uPos u))
  if Tf.kind a = 1 then (List.range (Tf.count a)).map (fun j => (Tf.v0 b + j * Tf.stride b, if Tf.tssel a then 80 else Tf.pos a))
  else if Tf.kind a = 2 then (List.range (Tf.count a)).flatMap (fun j => byte (Tf.byte b + j))
  else if Tf.kind a = 3 then byte (Tf.byte b)
  else []

/-- A list holds an element twice. -/
def twice : List (Nat × Nat) → Bool
  | [] => false
  | x :: l => l.contains x || twice l

/-- The faults of a template for an entry of the segment table: subindex and result. -/
def State.tfFaults (p : State) (m row : Nat) : List (Nat × Nat) :=
  let n := p.g (K.TF_COUNT m)
  let u := p.g (K.TF_UART m)
  let wide := positions (Seg.fmt row)
  let len := Seg.len row
  let ent := fun e => (p.g (K.TF_ENT_A m e), p.g (K.TF_ENT_B m e))
  let one := (List.range n).flatMap (fun e =>
    let a := (ent e).1
    let b := (ent e).2
    let kindBad := !(1 ≤ Tf.kind a && Tf.kind a ≤ 3)
    let fieldBad := Tf.kind a != 3 && fieldWidth (Tf.field a) == 0
    let countBad := (Tf.kind a == 1 && (Tf.count a == 0 || 48 < Tf.count a)) || (Tf.kind a == 2 && (Tf.count a == 0 || 6 < Tf.count a))
    let farBad := Tf.kind a == 1 && (tfPlaces u a b).any (fun x => len ≤ x.1)
    let posBad := Tf.kind a == 1 && !Tf.tssel a && wide ≤ Tf.pos a
    let byteBad := (Tf.kind a == 2 && Tf.uBytes u < Tf.byte b + Tf.count a) || (Tf.kind a == 3 && Tf.uBytes u ≤ Tf.byte b)
    failIf (kindBad || fieldBad || countBad || farBad || posBad || byteBad) (0x10 + 2 * e) RC.range)
  let region := failIf (Tf.uBytes u != 0 && (len ≤ Tf.uFirst u + (10 * (Tf.uBytes u - 1) + 9) * Tf.uStride u || wide ≤ Tf.uPos u)) 3 RC.range
  let dbl := (List.range n).flatMap (fun e =>
    let mine := tfPlaces u (ent e).1 (ent e).2
    failIf ((List.range n).any (fun f => f != e && (tfPlaces u (ent f).1 (ent f).2).any (fun x => mine.contains x))) (0x10 + 2 * e) RC.overlap)
  region ++ one ++ dbl

/-- A template that committed segments name. -/
def State.templateFails (p : State) (m : Nat) : List Fail :=
  (p.entries.filter (fun e => Seg.live (p.seg e) && Seg.tfEn (p.seg e) && Seg.tf (p.seg e) == m)).flatMap (fun e =>
    (p.tfFaults m (p.seg e)).map (fun f => (key (0x6200 + m) f.1 0, f.2)))

/-! ## Segments (R176, R180, R247) -/

/-- The faults of one entry left in force. -/
def State.segBad (p : State) (e : Nat) : Option Nat :=
  let r := p.seg e
  let good := fun t => Seg.live (p.seg t) && Seg.owner (p.seg t) == Seg.owner r
  let len := bits r 39 16
  let tf := if Seg.tfEn r then p.tfFaults (Seg.tf r) r else []
  if (1 ≤ len ∧ len ≤ 31) ∨ Seg.kind r = 3 ∨ Seg.underrun r = 3 ∨ Seg.jumpKind r = 3 then some RC.range
  else if !Seg.stops r && !good (Seg.next r) then some RC.range
  else if Seg.jumpKind r != 0 && !good (Seg.jumpTarget r) then some RC.range
  else if Seg.loopEnd r && !(good (Seg.loopFrom r) && Seg.loopBegin (p.seg (Seg.loopFrom r))) then some RC.range
  else if tf.any (fun f => f.2 == RC.range) then some RC.range
  else tf.head?.map (·.2)

/-- The entries a commit of segment rows leaves in force, and the rows it may not write now; `p` has the rows placed, `s` runs. -/
def State.segFails (s b p : State) (vals : List (Nat × Nat)) (due : Nat) : List Fail :=
  let rows := rowsOf vals K.SEG_TABLE
  if rows.isEmpty then []
  else
    rows.flatMap (fun e =>
      failIf (b.retiredAt e due) K.SEG_TABLE RC.quarantine ++ failIf (Seg.live (s.seg e) && s.active e) K.SEG_TABLE RC.active)
      ++ (p.entries.filter (fun e => Seg.live (p.seg e))).flatMap (fun e =>
        match p.segBad e with
        | some c => [(K.SEG_TABLE, c)]
        | none => [])

/-! ## Utility synthesizers (R338, R343, R352, R354, R357) -/

/-- The ratio of a UT at a boundary to come, a steer under way going on (R354, R355). -/
def State.numAt (s : State) (u due : Nat) : Nat :=
  match (s.ut u).steer with
  | some (a, b, n, i) => (((a : Int) * n + ((b : Int) - a) * (min n (i + (due - s.tick)) : Nat)) / (max 1 n : Nat)).toNat
  | none => (s.ut u).num

/-- The conditions on one UT: `s` runs, `b` is the configuration before the commit. -/
def State.utFails (s b p : State) (u due : Nat) : List Fail :=
  let num := p.utNum u
  let moved := num != b.utNum u
  let h := s.ut u
  let spreadMoved := p.g (K.UT_SSC_MODE u) != b.g (K.UT_SSC_MODE u) || p.g (K.UT_SSC_DEPTH u) != b.g (K.UT_SSC_DEPTH u) ||
    p.g (K.UT_SSC_FREQ u) != b.g (K.UT_SSC_FREQ u)
  let hit := p.g (K.UT_CHANGE u) == 1
  let k := if p.g (K.UT_NINT u) = b.g (K.UT_NINT u) then K.UT_NFRAC u else K.UT_NINT u
  let now := s.numAt u due
  let okSteer := (s.g (K.UT_STATE u) == 3 || s.g (K.UT_STATE u) == 4) && !p.spread u &&
    ((num : Int) - (now : Int)).natAbs * 1000 ≤ now &&
    (match s.rowMargins u num with
     | some m => ppmOf num 200 ≤ lesser m
     | none => false)
  let depth := p.g (K.UT_SSC_DEPTH u)
  let pads := instances 64 (fun c => p.src c == 4 && p.g (K.CLK_SRC c) == u + 1)
  let ends := if p.g (K.UT_SSC_MODE u) = 1 then (10000 - depth, 10000) else (10000 - depth, 10000 + depth)
  let bandKept := (List.range 128).any (fun r =>
    match bandMargins (p.bandRow u r) num (p.bandDT u) with
    | some m => decide (ppmOf num 500 + scaledFreq num * (10000 - ends.1) / 10000 ≤ m.1) && decide (ppmOf num 500 + scaledFreq num * (ends.2 - 10000) / 10000 ≤ m.2)
    | none => false)
  failIf (num < 31 * 2 ^ 32 + 2 ^ 30 || 40 * 2 ^ 32 < num) (K.UT_NINT u) RC.range
    ++ failIf ((moved || (p.gb (K.UT_ENABLE u) && !b.gb (K.UT_ENABLE u))) && !p.bandLeaves u num 500) (if moved then k else K.UT_ENABLE u) RC.band
    ++ failIf (hit && (moved || spreadMoved) && h.step != 0) (if moved then k else K.UT_SSC_MODE u) RC.state
    ++ failIf (hit && moved && h.step == 0 && !okSteer) k RC.range
    ++ failIf (p.g (K.UT_SSC_MODE u) == 2 && 25 < depth) (K.UT_SSC_DEPTH u) RC.range
    ++ failIf (p.spread u && (!bandKept || pads.any (fun c => tooFast (u + 1) num (p.spreadTop u) (p.g (K.CLK_DIV c)) (p.g (K.PAD_FMT c)))))
        (K.UT_SSC_DEPTH u) RC.range
    ++ pads.flatMap p.clockFails

/-! ## Slots, stack, collector, logical outputs -/

/-- The types a slot takes (R362). -/
def slotAllows (n type : Nat) : Bool :=
  type == 0 || (if n < 16 then 1 ≤ type && type ≤ 4 else if n < 24 then type == 5 else type == 6)

/-- One slot (R362, R364, R365). -/
def State.slotValueFails (p : State) (n : Nat) : List Fail :=
  let ty := p.g (K.SLOT_TYPE n)
  let pre := p.g (K.SLOT_PRESCALE n)
  let f := p.g (K.SLOT_NOM_FREQ n)
  let r := (slotTypeRow ty).1
  failIf (!slotAllows n ty) (K.SLOT_TYPE n) RC.range
    ++ failIf (p.g (K.SLOT_BW n) < r.1 || r.2 < p.g (K.SLOT_BW n)) (K.SLOT_BW n) RC.range
    ++ failIf (ty == 1 && pre != 1) (K.SLOT_PRESCALE n) RC.range
    ++ failIf (2 ≤ ty && ty ≤ 4 && (20000000000000 * pre < f || f < 1000000 * pre)) (K.SLOT_NOM_FREQ n) RC.range
    ++ failIf (ty != 0 && (p.g (K.SLOT_QUAL_TIME n) < 1000 || 600000 < p.g (K.SLOT_QUAL_TIME n))) (K.SLOT_QUAL_TIME n) RC.range

/-- Role and position in a stack (R471). -/
def State.stackFails (b p : State) : List Fail :=
  let role := p.g K.STK_ROLE
  let pos := p.g K.STK_POSITION
  let busy := (List.range 8).any (fun q => p.g (K.SQ_STATE q) != 0)
  failIf (b.g K.STK_ROLE != role && busy) K.STK_ROLE RC.state
    ++ failIf (b.g K.STK_POSITION != pos && busy) K.STK_POSITION RC.state
    ++ failIf ((role == 2 && pos == 0) || (role == 1 && pos != 0)) K.STK_POSITION RC.range

/-- The sources a BLOCK_RESET may name (R571). -/
def resetSources : List Nat := [0, 1, 9, 43, 46, 22, 24, 25, 48, 51, 53, 63, 83, 84, 85, 90, 102, 105, 97, 98, 99]

/-- A reaction is allowed for a source (R567). -/
def reactionAllowed (src code : Nat) : Bool :=
  if evClass src = .reserved then code == 0
  else if code = 3 then (32 ≤ src && src ≤ 37) || src == 40 || src == 41
  else if code = 4 then resetSources.contains src
  else true

/-- A row of FC_CONFIG (R586). -/
def fcRowBad (src r : Nat) : Bool :=
  bits r 57 36 == 0 || 3600000 < bits r 57 36 || bits r 35 26 == 0 || bits r 25 19 < 8 ||
    !reactionAllowed src (bits r 63 61) || !reactionAllowed src (bits r 60 58)

/-- Two valid rows of LOGICAL_MAP name one position and channel (R324). -/
def State.logicalFails (p : State) : List Fail :=
  let l := (p.rows K.LOGICAL_MAP 1024).filterMap (fun r => if bit r.2 63 then some (bits r.2 59 56, bits r.2 5 0) else none)
  failIf (twice l) K.LOGICAL_MAP RC.overlap

/-- What M11 does not let a commit stage (R605). -/
def State.compatFails (s : State) (staged : List (Nat × Nat)) : List Fail :=
  if s.mode = 11 then
    staged.flatMap (fun x =>
      let i := keyIndex x.1
      let sub := keySub x.1
      let c := (i - 0x5000) / 0x20
      let o := (i - 0x5000) % 0x20
      let chan := 0x5000 ≤ i && i < 0x5900
      let bad := (chan && c < 64 && s.mapped c && o ≤ 6) || (chan && c < 64 && !s.mapped c && o == 0 && sub == 1 && x.2 != 0) ||
        (0x3000 ≤ i && i < 0x3200 && i % 0x40 == 0 && (sub == 1 || sub == 2 || sub == 4 || sub == 5 || sub == 6)) ||
        (0x6010 ≤ i && i < 0x6400)
      failIf bad (atObj x.1) RC.state)
  else []

/-! ## Placement (R220) -/

/-- A committed value bears on placement. -/
def placeKey (k : Nat) : Bool :=
  let i := keyIndex k
  let s := keySub k
  atObj k == K.SEG_TABLE || atObj k == K.SEG_SOURCE || (0x6420 ≤ i && i < 0x6428) || atObj k == K.WIN_TABLE ||
    (0x6100 ≤ i && i < 0x6200 && s == 1) || (0x6010 ≤ i && i < 0x6018 && s == 1)

/-- The object a placement refusal names: the first committed one that bears on placement. -/
def placeObj (vals : List (Nat × Nat)) : Nat :=
  ((vals.map (fun p => p.1)).filter placeKey).foldl (fun m k => min m (atObj k)) (2 ^ 64)

/-- A configuration with a commit's values and their placement, or the refusal with the values alone. -/
def State.lay (b : State) (vals : List (Nat × Nat)) (due : Nat) (act : Nat → Bool) : Option Nat × State :=
  let p := b.pAll vals
  if vals.any (fun x => placeKey x.1) then
    match b.place p vals due act with
    | .ok t => (none, t)
    | .error c => (some c, p.each (rowsOf vals K.SEG_TABLE) (fun p e => p.setSeg e (setBits (p.seg e) 2 0 1)))
  else (none, p)

/-! ## All of them -/

/-- The channels a commit touches, those its UT feeds left out. -/
def touchedChannels (vals : List (Nat × Nat)) : List Nat :=
  nub ((touchedIx vals 0x5000 0x5800).map (fun i => i / 0x20))

/-- Every failed condition of a commit (R530): `s` runs, `b` is the configuration under the commit, `vals` its values with those they
bring along, `staged` those it was given, and the boundary it is due at. -/
def State.valueFails (s b : State) (vals staged : List (Nat × Nat)) (due : Nat) : List Fail :=
  let laid := b.lay vals due s.active
  let p := laid.2
  let chans := touchedChannels vals
  let owns := (List.range 8).any (fun q => sets vals (K.SQ_OWN q))
  rangeFails vals
    ++ p.leapFails vals (min due s.soon)
    ++ s.followFails vals
    ++ (touchedIx vals 0x3000 0x3700).flatMap (fun i => if i % 0x40 = 0 then p.slotValueFails (i / 0x40) else [])
    ++ (nub (touchedIx vals 0x4010 0x4014 ++ touchedIx vals 0x4020 0x4024)).flatMap (fun u => s.utFails b p u due)
    ++ (List.range 64).flatMap p.supplyFails ++ chans.flatMap (p.channelFails vals)
    ++ (if owns then (List.range 64).flatMap p.leadFails else [])
    ++ (if sets vals K.LOGICAL_MAP then p.logicalFails else [])
    ++ (touchedIx vals 0x6010 0x6018).flatMap p.posFails
    ++ b.ownFails p vals
    ++ (touchedIx vals 0x6100 0x6200).flatMap p.timingFails
    ++ (touchedIx vals 0x6200 0x6240).flatMap p.templateFails
    ++ s.segFails b p vals due
    ++ (match laid.1 with
        | some c => [(placeObj vals, c)]
        | none => [])
    ++ (rowsOf vals K.FC_CONFIG).flatMap (fun r => failIf (fcRowBad r (p.g (atRow K.FC_CONFIG r))) K.FC_CONFIG RC.range)
    ++ (if sets vals K.STK_ROLE || sets vals K.STK_POSITION then b.stackFails p else [])
    ++ s.compatFails staged

/-- The failure a commit reports: the one whose object has the lowest index and subindex. -/
def firstFail : List Fail → Option Fail
  | [] => none
  | f :: l => match firstFail l with
    | some g => if g.1 < f.1 then some g else some f
    | none => some f

/-- The commit is refused by placement (R220). -/
def State.placeRefuses (s b : State) (vals : List (Nat × Nat)) (due : Nat) (f : Fail) : Bool :=
  match (b.lay vals due s.active).1 with
  | some c => f.1 == placeObj vals && f.2 == c
  | none => false

end Sys2Proof.Machine
end

