-- ==== Sys2Proof/Machine/Sessions.lean ====
section
/-! DEFINITION. Sessions (R524 to R532): opening, breaking, staging, and the commit from its acceptance over its check to its
application, with what each block does as a committed value comes into force. -/

namespace Sys2Proof.Machine

/-! ## Formats of written values (R7, R54, R57, R66) -/

/-- The reserved and read-only fields of the objects whose layouts have some. -/
def reservedFields (k : Nat) : List (Nat × Nat) :=
  let i := keyIndex k
  let s := keySub k
  let a := atObj k
  if a = K.SEG_TABLE then [(47, 40), (2, 0), (75, 64), (145, 128), (229, 192)]
  else if a = K.SEG_SOURCE then [(5, 0)]
  else if a = K.WIN_TABLE then [(11, 0), (103, 66)]
  else if a = K.FC_CONFIG then [(18, 0)]
  else if a = K.LOGICAL_MAP then [(62, 60), (55, 6)]
  else if a = K.PRINCIPALS then [(511, 272)]
  else if a = K.FAB_EVT_SUBS then [(62, 60), (39, 8)]
  else if a = K.ETH_MAC then [(63, 48)]
  else if a = K.TBL_SEL then [(63, 56)]
  else if 0x4020 ≤ i ∧ i < 0x4024 ∧ s = keySub (K.UT_BAND_TABLE 0) then [(79, 64), (116, 112)]
  else if 0x6200 ≤ i ∧ i < 0x6240 then
    (if s = keySub (K.TF_FLAGS 0) then [(63, 2)]
     else if s = keySub (K.TF_UART 0) then [(1, 0)]
     else if s = keySub (K.TF_CRC 0) then [(63, 17)]
     else if 0x10 ≤ s ∧ s % 2 = 0 then [(20, 0)]
     else if 0x10 ≤ s then [(7, 0)]
     else [])
  else if i = 0xb000 ∧ 0x40 ≤ s ∧ s < 0x80 ∧ s % 16 = 4 then [(31, 24)]
  else if i = 0xb000 ∧ 0x40 ≤ s ∧ s < 0x80 ∧ s % 16 = 0xB then [(7, 2)]
  else []

/-- The value an object takes from a written one, or why it is refused. -/
def fitValue (k : Nat) (ty : OType) (v : Nat) : Except Nat Nat :=
  let up := fun n => if v < 2 ^ n then Except.ok (clearFields v (reservedFields k)) else Except.error RC.range
  match ty with
  | .bool => if v < 2 then .ok v else .error RC.range
  | .u8 => up 8
  | .u16 => up 16
  | .u32 => up 32
  | .off32 => if v < 2 ^ 64 then .ok (v % 2 ^ 32) else .error RC.range
  | .time92 => if time92Malformed v then .error RC.malformed else .ok v
  | .tbl _ bytes => up (8 * bytes)
  | .cmd true => up 128
  | _ => up 64

/-! ## Sessions -/

/-- A session is OPEN or PENDING. -/
def State.sessLive (s : State) (k : Nat) : Bool := k < 8 && (s.g (K.SESS_STATE k) == 1 || s.g (K.SESS_STATE k) == 2)

/-- Why a requester may not act in a session; 0 when it owns it (R544, R554). -/
def State.sessRefusal (s : State) (w : Who) (k : Nat) : Nat :=
  if !s.sessLive k then RC.noSession else if s.g (K.SESS_OWNER k) != identityOf w then RC.owner else 0

/-- A request renews the lease of the session it names (R527). -/
def State.renewSess (s : State) (k : Nat) : State := s.setSess k { s.sessOf k with renewed := s.tick }

/-- A session is broken or closed (R528): 1 LEASE, 2 NEW_EPOCH, 3 LINK, 4 CLOSE. -/
def State.breakSess (s : State) (reason : Nat) (k : Nat) : State :=
  let owner := s.g (K.SESS_OWNER k)
  let s := s.setSess k { s.sessOf k with staged := [], nonce := none, retire := s.tick + s.retireFrames }
  let s := (s.p (K.SESS_STATE k) 3).p (K.SESS_LAST_BREAK k) reason
  let s := s.breakLocks (fun o => o == owner)
  let s : State := if s.g K.BAR0_SESSION = k then { s with barHold := none } else s
  if reason = 4 then s else s.raiseVal 106 (Config.causeWord 106 k reason)

/-- Break the sessions, and the locks, whose owner identity satisfies a test (R526). -/
def State.breakParty (s : State) (reason : Nat) (p : Nat → Bool) : State :=
  (s.each (instances 8 (fun k => s.sessLive k && p (s.g (K.SESS_OWNER k)))) (fun s k => s.breakSess reason k)).breakLocks p

/-- OPEN (R525, R526): the value is the session. -/
def State.openSess (s : State) (w : Who) (nonce : Option Nat) (lease : Nat) : CmdRes :=
  let me := identityOf w
  let held := (List.range 8).find? (fun k => s.sessLive k && s.g (K.SESS_OWNER k) == me && nonce.isSome && (s.sessOf k).nonce == nonce)
  match held with
  | some k => (s.renewSess k).done k
  | none =>
    let lease := if lease = 0 then 10000 else lease
    if lease < 1000 ∨ 1000000 < lease then s.deny RC.range
    else
      let s := s.breakParty 2 (fun o => identityParty o == identityParty me && o != me)
      match (List.range 8).find? (fun k => s.g (K.SESS_STATE k) == 0) with
      | none => s.deny RC.busy
      | some k =>
        let s := s.pAll [(K.SESS_STATE k, 1), (K.SESS_GEN k, (s.g (K.SESS_GEN k) + 1) % 256), (K.SESS_OWNER k, me), (K.SESS_LEASE k, lease),
          (K.SESS_COMMIT_STATE k, 0), (K.SESS_COMMIT_FN k, 0), (K.SESS_COMMIT_RESULT k, 0), (K.SESS_COMMIT_OBJ k, 0)]
        let s := s.setSess k { nonce := nonce, renewed := s.tick }
        ((List.range 64).foldl (fun (s : State) t => s.setTxn k t {}) s).done k

/-- The lease of a session has run out at this boundary (R527): 5 frames take 4 µs. -/
def State.leaseOver (s : State) (k : Nat) : Bool :=
  s.sessLive k && s.g (K.SESS_LEASE k) * 5 < (s.tick - (s.sessOf k).renewed) * 4

/-- SESSION_LEASE_EXPIRY (R527). -/
def execSessionLeaseExpiry (k : Nat) : State → Host.Outcome State Fault Refusal :=
  run (fun s => if s.leaseOver k then s.breakSess 1 k else s)

/-- RETIRE_INTERVAL has passed since a session was closed or broken (R528). -/
def State.sessRetired (s : State) (k : Nat) : State :=
  if k < 8 ∧ s.g (K.SESS_STATE k) = 3 ∧ (s.sessOf k).retire ≤ s.tick then s.p (K.SESS_STATE k) 0 else s

/-- SESSION_RETIRE_EXPIRY (R528). -/
def execSessionRetireExpiry (k : Nat) : State → Host.Outcome State Fault Refusal := run (fun s => s.sessRetired k)

/-! ## Staging (R529) -/

/-- A list of staged values with one replaced or added. -/
def stageIn (l : List (Nat × Nat)) (k v : Nat) : List (Nat × Nat) :=
  if l.any (fun x => x.1 == k) then l.map (fun x => if x.1 = k then (k, v) else x) else l ++ [(k, v)]

/-- Stage a value whose format has been checked. -/
def State.stage (s : State) (j k v : Nat) : CmdRes :=
  let h := s.sessOf j
  if s.g (K.SESS_STATE j) = 2 then s.deny RC.busy
  else if 8192 ≤ h.staged.length ∧ !h.staged.any (fun x => x.1 == k) then s.deny RC.full
  else (s.setSess j { h with staged := stageIn h.staged k v }).done

/-! ## What committed values bring along: COMPAT (R607), slot types (R364) -/

/-- M11 is in force, or will be, at a boundary. -/
def State.compatAt (s : State) (due : Nat) : Bool :=
  match s.modePend with
  | some p => if p.due ≤ due then p.target == 11 else s.mode == 11
  | none => s.mode == 11

/-- q(x) for a value in picoseconds, held within a DUR64. -/
def qClamp (x : Int) : Int := max (-(2 : Int) ^ 63) (min (2 ^ 63 - 1) (qOfPs x))

/-- The first whole second at or after a boundary, plus a delay, in q. -/
def State.compatEpoch (s : State) (due : Nat) (delay : Int) : Int := (ceilDiv (s.fnAt due * qFrame) qSecond * qSecond : Nat) + delay

/-- The native values of COMPAT channel k. -/
def State.nativeChannel (p : State) (due k : Nat) : List (Nat × Nat) :=
  let c := p.g K.CPT_CH_BASE + k
  let delay := qClamp (p.gi (K.C_DELAY_PS k))
  let width := ofI64 (qClamp (p.gi (K.C_WIDTH_PS k)))
  let period := ofI64 (qClamp (p.gi (K.C_PERIOD_PS k)))
  if p.g (K.C_MODE k) = 1 then
    [(K.CH_SOURCE c, 2), (K.TRIG_INPUT c, p.g (K.C_REF k)), (K.TRIG_EDGE c, 1), (K.TRIG_OFFSET c, ofI64 delay), (K.TRIG_COUNT c, p.g (K.C_COUNT k)),
     (K.TRIG_PERIOD c, period), (K.TRIG_WIDTH c, width), (K.CH_DELAY c, 0)]
  else if p.g (K.C_MODE k) = 2 then
    [(K.CH_SOURCE c, 1), (K.RULE_EPOCH c 0, ofTime92 (p.compatEpoch due delay).toNat), (K.RULE_PERIOD c 0, period), (K.RULE_WIDTH c 0, width),
     (K.RULE_COUNT c 0, p.g (K.C_COUNT k)), (K.RULE_ENABLE c 0, 1), (K.RULE_ENABLE c 1, 0), (K.RULE_ENABLE c 2, 0), (K.RULE_ENABLE c 3, 0)]
  else [(K.CH_SOURCE c, 0)]

/-- A converted COMPAT value does not fit its native object: the object it would set. -/
def State.nativeFails (p : State) (due k : Nat) : List Fail :=
  let c := p.g K.CPT_CH_BASE + k
  let wide := fun (x : Int) => qOfPs x != qClamp x
  let m := p.g (K.C_MODE k)
  let e := p.compatEpoch due (qClamp (p.gi (K.C_DELAY_PS k)))
  failIf (m == 1 && wide (p.gi (K.C_DELAY_PS k))) (K.TRIG_OFFSET c) RC.range
    ++ failIf (m == 1 && wide (p.gi (K.C_PERIOD_PS k))) (K.TRIG_PERIOD c) RC.range
    ++ failIf (m == 1 && wide (p.gi (K.C_WIDTH_PS k))) (K.TRIG_WIDTH c) RC.range
    ++ failIf (m == 2 && (wide (p.gi (K.C_DELAY_PS k)) || decide (e < 0))) (K.RULE_EPOCH c 0) RC.range
    ++ failIf (m == 2 && wide (p.gi (K.C_PERIOD_PS k))) (K.RULE_PERIOD c 0) RC.range
    ++ failIf (m == 2 && wide (p.gi (K.C_WIDTH_PS k))) (K.RULE_WIDTH c 0) RC.range

/-- The native values of COMPAT reference r. -/
def State.nativeType (p : State) (r : Nat) : List (Nat × Nat) :=
  let t := p.g (K.R_TYPE r)
  [(K.SLOT_TYPE r, t), (K.SLOT_PRESCALE r, 1)] ++ (if t = 2 then [(K.SLOT_NOM_FREQ r, 10000000000000)] else [])

/-- COMPAT channels whose derivation a commit touches. -/
def compatTouched (vals : List (Nat × Nat)) : List Nat :=
  instances 24 (fun k => sets vals K.CPT_CH_BASE || vals.any (fun x => keyIndex x.1 == 0xE100 + k && keySub x.1 ≤ 6))

/-- The native values that committed COMPAT values derive; `p` holds the configuration with them. -/
def State.natives (p : State) (vals : List (Nat × Nat)) (due : Nat) : List (Nat × Nat) :=
  let base := p.g K.CPT_CH_BASE
  (compatTouched vals).flatMap (p.nativeChannel due)
    ++ (instances 24 (fun k => sets vals K.CPT_CH_BASE || sets vals (K.C_INVERT k))).map (fun k => (K.PAD_INVERT (base + k), p.g (K.C_INVERT k)))
    ++ (if sets vals K.CPT_CH_BASE || sets vals K.CPT_POLICY then (List.range 24).map (fun k => (K.CH_POLICY (base + k), p.g K.CPT_POLICY)) else [])
    ++ (instances 8 (fun r => sets vals (K.R_TYPE r))).flatMap p.nativeType
    ++ (instances 8 (fun r => sets vals (K.R_PRIORITY r))).map (fun r => (K.SLOT_RANK r, p.g (K.R_PRIORITY r)))
    ++ (instances 8 (fun r => sets vals (K.R_DELAY_PS r))).map (fun r => (K.SLOT_DELAY r, ofI64 (qClamp (p.gi (K.R_DELAY_PS r)))))

/-- The defaults a slot takes with a new type, unless the commit sets them (R364). -/
def State.typeDefaults (b p : State) (vals : List (Nat × Nat)) : List (Nat × Nat) :=
  (instances 28 (fun n => b.g (K.SLOT_TYPE n) != p.g (K.SLOT_TYPE n))).flatMap (fun n =>
    let r := slotTypeRow (p.g (K.SLOT_TYPE n))
    ([(K.SLOT_BW n, r.2.1), (K.SLOT_QUAL_TIME n, r.2.2.1), (K.SLOT_JUMP_POLICY n, r.2.2.2)]).filter (fun x => !sets vals x.1))

/-- All that a commit of staged values sets over a configuration. -/
def State.fullValues (s b : State) (own : List (Nat × Nat)) (due : Nat) : List (Nat × Nat) :=
  let p := b.pAll own
  let mid := own ++ (if s.compatAt due then p.natives own due else [])
  mid ++ b.typeDefaults (b.pAll mid) mid

/-! ## Acceptance and check (R530, R531) -/

/-- Put a commit among those in the order of application: by due boundary, the earlier accepted first. -/
def insCommit (c : Commit) : List Commit → List Commit
  | [] => [c]
  | d :: l => if c.due < d.due then c :: d :: l else d :: insCommit c l

/-- The commits in the order in which they apply. -/
def inOrder (l : List Commit) : List Commit := l.foldl (fun r c => insCommit c r) []

/-- The configuration under a commit that falls due at a boundary: every final, or every accepted, commit due by then laid in order. -/
def State.under (s : State) (onlyFinal : Bool) (due : Nat) : State :=
  (inOrder (s.commits.filter (fun c => c.due ≤ due && (c.final || !onlyFinal)))).foldl (fun b c => (b.lay c.vals c.due s.active).2) s

/-- A commit stages a timing-set object or SQ_TS_BASE (R146). -/
def timingCommit (vals : List (Nat × Nat)) : Bool :=
  vals.any (fun x => (0x6100 ≤ keyIndex x.1 && keyIndex x.1 < 0x6200) || (0x6010 ≤ keyIndex x.1 && keyIndex x.1 < 0x6018 && keySub x.1 == 1))

/-- The failed conditions of a commit over a configuration. -/
def State.commitFails (s b : State) (own vals : List (Nat × Nat)) (due : Nat) : List Fail :=
  s.valueFails b vals own due
    ++ (if s.compatAt due then (compatTouched own).flatMap ((b.pAll own).nativeFails due) else [])
    ++ (if s.compatAt due then (instances 8 (fun r => sets own (K.R_DELAY_PS r))).flatMap (fun r =>
          let x := (b.pAll own).gi (K.R_DELAY_PS r)
          failIf (qOfPs x != qClamp x) (K.SLOT_DELAY r) RC.range) else [])

/-- The refusal of a commit is recorded (R180, R220, R530, R532, R633). -/
def State.noteRefusal (s : State) (k code : Nat) (placed : Bool) (rows : List Nat) : State :=
  let s := s.raiseVal 107 (Config.causeWord 107 k code)
  let s := if code = RC.active then s.inc K.SEG_REFUSED_ACTIVE else s
  if placed then
    let e := rows.headD 0
    let f := s.fresh
    (f.2.raiseVal 71 (f.1 % 1024)).plLog Pl.refuse Pl.forCommit e none (some code) (Seg.owner (s.seg e))
  else s

/-- The status objects of a refused commit. -/
def State.showRefusal (s : State) (k code obj : Nat) : State :=
  s.pAll [(K.SESS_COMMIT_STATE k, 3), (K.SESS_COMMIT_RESULT k, code), (K.SESS_COMMIT_OBJ k, obj / 65536)]

/-- A commit accepted gives the channel of a directly calibrated core a source that uses the core: the calibration is abandoned (R446). -/
def State.calYields (s p : State) : State :=
  s.each ((List.range 8).filter (fun k =>
    let core := s.g (K.CALB_CORE k)
    core < 64 && s.g (K.CALB_STATE k) != 0 && !(s.calOf k).swap && s.idleChannel core && !p.idleChannel core)) State.calAbandon

/-- SESS_COMMIT or COMMIT in a session of the caller's: the value is SESS_COMMIT_FN. -/
def State.commitBody (s : State) (k fn : Nat) : CmdRes :=
  let own := (s.sessOf k).staged
  let ts := timingCommit own
  let lead := if ts then (List.range 8).foldl (fun m q => max m (s.largestLead q)) 0 else 0
  let first := s.soon + lead
  let due := if fn = 0 then first else s.tick + (fn - s.fn)
  let b := s.under false due
  let vals := s.fullValues b own due
  let refuse := fun code obj placed =>
    let t := (((s.showRefusal k code obj).p (K.SESS_COMMIT_FN k) (s.fnAt first)).noteRefusal k code placed (rowsOf vals K.SEG_TABLE))
    (⟨code, s.fnAt first, t⟩ : CmdRes)
  match firstFail (s.commitFails b own vals due) with
  | some f => refuse f.2 f.1 (s.placeRefuses b vals due f)
  | none =>
    if due < first then refuse RC.horizon 0 false
    else if s.tick + 33554432 < due then refuse RC.range 0 false
    else
      let c : Commit := { sess := k, due := due, check := if ts then due - 2 - lead else due - 1, final := false, vals := vals, own := own.length, gen := s.g (K.SESS_GEN k) }
      let t := s.pAll [(K.SESS_STATE k, 2), (K.SESS_COMMIT_STATE k, 1), (K.SESS_COMMIT_RESULT k, RC.accepted), (K.SESS_COMMIT_OBJ k, 0), (K.SESS_COMMIT_FN k, s.fnAt due)]
      (({ t with commits := t.commits ++ [c] }).calYields (b.lay vals due s.active).2).accept (s.fnAt due)

/-- A commit asked for by a requester. -/
def State.commitIn (s : State) (w : Who) (k fn : Nat) : CmdRes :=
  let r := s.sessRefusal w k
  if r ≠ 0 then s.deny r
  else
    let s := s.renewSess k
    if s.privOf w < 2 then s.deny RC.privilege
    else if s.g (K.SESS_STATE k) = 2 then s.deny RC.busy
    else s.commitBody k fn

/-- The session of a commit is still the one that made it. -/
def State.sameSess (s : State) (c : Commit) : Bool := s.g (K.SESS_GEN c.sess) == c.gen
/-- The session of a commit still waits for it. -/
def State.waitsFor (s : State) (c : Commit) : Bool := s.sameSess c && s.g (K.SESS_STATE c.sess) == 2

/-- A commit is over: the session that waits for it is OPEN again. -/
def State.dropCommit (s : State) (c : Commit) : State :=
  let s : State := { s with commits := s.commits.erase c }
  if s.waitsFor c then s.p (K.SESS_STATE c.sess) 1 else s

/-- A commit refused after its acceptance (R29, R531): its values stay staged, or are gone with its session. -/
def State.refuseCommit (s : State) (c : Commit) (code obj : Nat) : State :=
  let s := if s.sameSess c then s.showRefusal c.sess code obj else s
  s.dropCommit c

/-- R531: the check of a commit at the boundary that begins its check frame. -/
def State.checkCommit (s : State) (c : Commit) : State :=
  let own := c.vals.take c.own
  let b := s.under true c.due
  let vals := s.fullValues b own c.due
  match firstFail (s.commitFails b own vals c.due) with
  | some f => (s.refuseCommit c f.2 f.1).noteRefusal c.sess f.2 (s.placeRefuses b vals c.due f) (rowsOf vals K.SEG_TABLE)
  | none => { s with commits := s.commits.map (fun d => if d = c then { c with final := true, vals := vals } else d) }

/-- The commits whose check falls at this boundary. -/
def State.checksDue (s : State) : List Commit := s.commits.filter (fun c => !c.final && c.check ≤ s.tick)

/-- SESSION_COMMIT_CHECK (R531), of the commit of a session. -/
def execSessionCommitCheck (k : Nat) : State → Host.Outcome State Fault Refusal :=
  run (fun s => match s.checksDue.find? (fun c => c.sess == k) with
    | some c => s.checkCommit c
    | none => s)

/-- R29: at M10 every pending commit is refused. -/
def State.refuseAll (s : State) : State := s.commits.foldl (fun s c => s.refuseCommit c RC.modeChanged 0) s

/-! ## Values coming into force -/

/-- PAD_PARK changes: one transition on a PARK channel, on a running driver before the first edge, and on a gated clock pad (R297, R348). -/
def State.parkApplied (s old : State) (c : Nat) : State :=
  if s.g (K.PAD_PARK c) = old.g (K.PAD_PARK c) ∨ !s.drives c ∨ s.mode < 2 ∨ s.mode = 10 then s
  else if s.src c = 4 then
    (if s.gb (K.CLK_GATED c) ∧ s.parkLevel c != old.parkLevel c then s.parkClock c else s)
  else if s.src c = 0 ∨ !(s.pad c).carried then
    let t := s.p (K.PAD_LEVEL c) (s.parkState c)
    if old.g (K.PAD_PARK c) = 2 then t.settlePad c else t
  else s

/-- The pad objects of a channel change (R121, R295, R297, R315, R645). -/
def State.padApplied (s old : State) (c : Nat) : State :=
  let fmt := s.g (K.PAD_FMT c)
  let was := old.g (K.PAD_FMT c)
  if fmt ≠ was then
    let s := s.setPad c { s.pad c with waits := false }
    if fmt = 0 then (s.driverOff c).settlePad c
    else if s.gb (K.PAD_SHUTDOWN c) then s.settlePad c
    else if !fmtAccepts fmt (s.classOf c) then (s.settlePad c).padClass c
    else if was = 0 ∨ (old.pad c).waits then s.driverOn c
    else (s.settlePad c).parkApplied old c
  else
    let set := s.g (K.PAD_AMP c) != old.g (K.PAD_AMP c) || s.g (K.PAD_SLEW c) != old.g (K.PAD_SLEW c) || s.g (K.PAD_INVERT c) != old.g (K.PAD_INVERT c)
    (if set then s.settlePad c else s).parkApplied old c

/-- A CLOCK channel's source, divider or phase changes: it is gated and opens with the new values, on a substitute while its source is away
(R302, R336, R353). -/
def State.clockApplied (s old : State) (c : Nat) : State :=
  let same := s.g (K.CLK_SRC c) == old.g (K.CLK_SRC c) && s.g (K.CLK_DIV c) == old.g (K.CLK_DIV c) && s.g (K.CLK_PHASE c) == old.g (K.CLK_PHASE c)
  if same then s
  else
    let s := s.setClkFreq c
    if s.src c ≠ 4 then s
    else
      let s := s.gatePad c (s.tick + 2) 0
      if s.sourceAway (s.g (K.CLK_SRC c)) then s.toSubst 0 c else s.p (K.CLK_SUBST c) 0

/-- CH_SOURCE changes (R73, R297, R299): a channel that becomes CLOCK is gated, and has a substitute while its source is away (R336). -/
def State.sourceApplied (s old : State) (c : Nat) : State :=
  if s.src c = old.src c then s
  else
    let s := if old.src c = 2 then s.setCh c { s.ch c with burst := none } else s
    let s := if old.src c = 4 then (s.p (K.CLK_SUBST c) 0).stopWave c s.qTick else s
    let park := s.src c = 0 ∨ old.src c = 4
    let on := s.drives c ∧ s.mode ≠ 10
    let s := if s.src c = 4 then (if on then s.parkClock c else s)
      else if park ∧ on then s.p (K.PAD_LEVEL c) (s.parkState c) else s
    if s.src c = 4 then
      let s := (s.setPad c { s.pad c with openFrom := s.tick, prev := none }).setClkFreq c
      if s.sourceAway (s.g (K.CLK_SRC c)) then s.toSubst 0 c else s
    else s

/-- A slot takes a new type (R364). -/
def State.slotApplied (s old : State) (n : Nat) : State :=
  if s.slotType n = old.slotType n then s
  else
    let s := if 4 ≤ s.g (K.SLOT_STATE n) then s.slotFails n 0 else s
    let s := s.setSlot n { typeTick := s.tick, phase := (s.slot n).phase }
    (s.pAll [(K.SLOT_STATE n, b2n (s.slotType n != 0)), (K.SLOT_DISQ n, 0), (K.SLOT_LABELLED n, 0), (K.SLOT_QUAL_LEFT n, 0), (K.SLOT_WTR_LEFT n, 0),
      (K.SLOT_TIE_RMS n, unknownBound), (K.SLOT_SAMPLE_BOUND n, unknownBound)]).pbit K.SR_REJECTED n false

/-- The objects of a UT change (R346, R350, R352, R353, R355). -/
def State.utApplied (s old : State) (u : Nat) : State :=
  let on := s.gb (K.UT_ENABLE u)
  let was := old.gb (K.UT_ENABLE u)
  let num := s.utNum u
  let moved := num != old.utNum u
  let spread := s.g (K.UT_SSC_MODE u) != old.g (K.UT_SSC_MODE u) || s.g (K.UT_SSC_DEPTH u) != old.g (K.UT_SSC_DEPTH u) ||
    s.g (K.UT_SSC_FREQ u) != old.g (K.UT_SSC_FREQ u)
  let s := if on && !was then s.gatedRelock u num
    else if was && !on then
      let s := s.each (s.clockPads (u + 1)) (fun s c => (s.gatePad c s.tick 0).p (K.CLK_SUBST c) 0)
      (s.setUt u { num := num }).pAll [(K.UT_STATE u, 0), (K.UT_PHASE_DET u, 0), (K.UT_BAND u, 255), (K.UT_MARGIN_PPM u, 0)]
    else if on && (spread || moved) then
      (if (s.ut u).step ≠ 0 then s.retarget u num
       else if spread || s.g (K.UT_CHANGE u) != 1 then s.gatedRelock u num
       else s.hitless u num)
    else if moved then s.setUt u { s.ut u with num := num }
    else s
  let s := if s.g (K.UT_PHASE u) = old.g (K.UT_PHASE u) then s else s.gatePads (s.clockPads (u + 1)) (s.tick + 2)
  (s.each (s.clockPads (u + 1)) State.setClkFreq).setPhi u

/-- Ownership of channels changes: the level record of a pin newly owned holds its park level (R169, R298). -/
def State.ownApplied (s old : State) (q : Nat) : State :=
  s.each (instances 64 (fun c => bit (s.g (K.SQ_OWN q)) c && !bit (old.g (K.SQ_OWN q)) c)) (fun s c => s.setLevel q c (s.parkLevel c))

/-- QP_ENABLE takes a value (R614, R619). -/
def State.qpApplied (s old : State) (q : Nat) : State :=
  if s.g (K.QP_ENABLE q) = old.g (K.QP_ENABLE q) then s
  else if s.gb (K.QP_ENABLE q) then
    (s.pAll [(K.QP_SQ_TAIL q, 0), (K.QP_SQ_HEAD q, 0), (K.QP_CQ_HEAD q, 0), (K.QP_CQ_TAIL q, 0), (K.QP_REC_HEAD q, 0), (K.QP_REC_TAIL q, 0), (K.QP_STATE q, 1)]).setQp q { s.qpOf q with flip := false }
  else if s.xfers.any (fun x => x.load.any (fun l => l.1 == q)) || (s.g (K.QP_STATE q) == 1 && !(s.qpOf q).done.isEmpty) then s
  else (s.p (K.QP_STATE q) 0).setQp q {}

/-- End the WOP channels that satisfy a test (R550, R622). -/
def State.endChans (s : State) (p : Chan → Bool) : State := { s with chans := s.chans.filter (fun x => !p x.2) }

/-- The port settings whose change ends the Ethernet channels (R622). -/
def ethKeys : List Nat := [K.ETH_MODE, K.ETH_MAC, K.ETH_VLAN, K.ETH_IPV4, K.ETH_IPV4_GW, atRow K.ETH_IPV6 0, atRow K.ETH_IPV6 1, K.ETH_IPV6_PREFIX, K.ETH_UDP_PORT]

/-- The management port (R622, R633). -/
def State.ethApplied (s old : State) : State :=
  let s := if ethKeys.any (fun k => s.g k != old.g k) then s.endChans (fun c => c.transport == 2) else s
  if old.gb K.ETH_ENABLE && !s.gb K.ETH_ENABLE then s.p K.ETH_LINK 0 else s

/-- A change of WINDOW clears the window count and the severe state of a source (R561). -/
def State.fcApplied (s old : State) (e : Nat) : State :=
  if bits (s.g (atRow K.FC_CONFIG e)) 57 36 = bits (old.g (atRow K.FC_CONFIG e)) 57 36 then s
  else (({ s with fcSubs := Sp.del s.fcSubs e }).p (atRow K.FC_WINDOW_COUNT e) 0).pbit (if e < 64 then K.FC_SEVERE_LO else K.FC_SEVERE_HI) (e % 64) false

/-- What the blocks do as values come into force: `old` is the state before them, `vals` are the values. -/
def State.applied (s old : State) (vals : List (Nat × Nat)) : State :=
  let any := fun k => sets vals k
  let chans := touchedChannels vals
  let s := s.each chans (fun s c => (((s.sourceApplied old c).padApplied old c).clockApplied old c))
  let s := s.each (List.range 4) (fun s u => if chans.isEmpty then s else s.setPhi u)
  let s := s.each (touchedIx vals 0x4010 0x4014) (fun s u => s.utApplied old u)
  let s := s.each (instances 28 (fun n => any (K.SLOT_TYPE n))) (fun s n => s.slotApplied old n)
  let s := s.each (instances 8 (fun q => any (K.SQ_OWN q))) (fun s q => s.ownApplied old q)
  let s := if timingCommit vals then s.each (List.range 8) State.retime else s
  let win := any K.WIN_TABLE
  let s := if win || any K.SEG_SOURCE then s.retrySoon win (rowsOf vals K.SEG_SOURCE) else s
  let s := if s.g K.STK_ROLE = old.g K.STK_ROLE ∧ s.g K.STK_POSITION = old.g K.STK_POSITION then s else s.stackRole
  let s := if s.g K.FAB_ENABLE = old.g K.FAB_ENABLE ∧ s.g K.FAB_PRIORITY = old.g K.FAB_PRIORITY then s else s.fabEnable
  let s := s.each (instances 8 (fun k => s.g (K.TN_ENABLE k) != old.g (K.TN_ENABLE k))) State.linkEnable
  let s := s.each (List.range 4) (fun s q => s.qpApplied old q)
  let s := s.ethApplied old
  let rows := (rowsOf vals K.PRINCIPALS).filter (fun r => s.g (atRow K.PRINCIPALS r) != old.g (atRow K.PRINCIPALS r))
  let s := if rows.isEmpty then s else s.endChans (fun c => rows.contains c.row)
  let s : State := { s with host := { s.host with
    subPos := (rowsOf vals K.FAB_EVT_SUBS).foldl (fun m r => Sp.ins m r (s.g K.FC_LOG_HEAD)) s.host.subPos } }
  s.each (rowsOf vals K.FC_CONFIG) (fun s e => s.fcApplied old e)

/-! ## Application (R531) -/

/-- A final commit is applied whole at its boundary. -/
def State.applyCommit (s : State) (c : Commit) : State :=
  let t := (s.lay c.vals c.due s.active).2.applied s c.vals
  let t := if t.sameSess c then ((t.p (K.SESS_COMMIT_STATE c.sess) 2).p (K.SESS_COMMIT_RESULT c.sess) RC.ok).inc (K.SESS_COMMITS c.sess) else t
  let t := if t.waitsFor c then t.setSess c.sess { t.sessOf c.sess with staged := [] } else t
  t.dropCommit c

/-- The final commits due at this boundary, in the order of acceptance. -/
def State.appliesDue (s : State) : List Commit := s.commits.filter (fun c => c.final && c.due ≤ s.tick)

/-- SESSION_COMMIT_APPLY (R531), of the commit of a session. -/
def execSessionCommitApply (k : Nat) : State → Host.Outcome State Fault Refusal :=
  run (fun s => match s.appliesDue.find? (fun c => c.sess == k) with
    | some c => s.applyCommit c
    | none => s)

/-- Step 3 of R26, then the checks of R531. -/
def State.commitFrame (s : State) : State :=
  let s := s.appliesDue.foldl State.applyCommit s
  s.checksDue.foldl State.checkCommit s

/-- Lease breaks and the ends of RETIRED at a boundary (R527, R528). -/
def State.sessionFrame (s : State) : State :=
  s.each (List.range 8) (fun s k => if s.leaseOver k then s.breakSess 1 k else s.sessRetired k)

/-! ## The session commands (R554) -/

/-- SESS_COMMIT as a command of the dictionary. -/
def State.sessCommitCmd (s : State) (w : Who) (k fn : Nat) : CmdRes := s.call w (K.SESS_COMMIT k) fn 2 (fun s => s.commitIn w k fn)

/-- SESS_COMMIT (R530). -/
def execSessCommit (who : Who) (k fn : Nat) : State → Host.Outcome State Fault Refusal :=
  run (fun s => if k < 8 then s.command (fun s => s.sessCommitCmd who k fn) else s)

/-- Discard the staged values of a session of the caller's. -/
def State.discardIn (s : State) (w : Who) (k : Nat) : CmdRes :=
  let r := s.sessRefusal w k
  if r ≠ 0 then s.deny r
  else if s.g (K.SESS_STATE k) = 2 then (s.renewSess k).deny RC.busy
  else ((s.renewSess k).setSess k { (s.renewSess k).sessOf k with staged := [] }).done

def State.sessDiscardCmd (s : State) (w : Who) (k arg : Nat) : CmdRes := s.call w (K.SESS_DISCARD k) arg 1 (fun s => s.discardIn w k)

/-- SESS_DISCARD (R554). -/
def execSessDiscard (who : Who) (k : Nat) : State → Host.Outcome State Fault Refusal :=
  run (fun s => if k < 8 then s.command (fun s => s.sessDiscardCmd who k 0) else s)

/-- Close a session of the caller's. -/
def State.closeIn (s : State) (w : Who) (k : Nat) : CmdRes :=
  let r := s.sessRefusal w k
  if r ≠ 0 then s.deny r else (s.breakSess 4 k).done

def State.sessCloseCmd (s : State) (w : Who) (k arg : Nat) : CmdRes := s.call w (K.SESS_CLOSE k) arg 1 (fun s => s.closeIn w k)

/-- SESS_CLOSE (R528). -/
def execSessClose (who : Who) (k : Nat) : State → Host.Outcome State Fault Refusal :=
  run (fun s => if k < 8 then s.command (fun s => s.sessCloseCmd who k 0) else s)

end Sys2Proof.Machine
end

