-- ==== Sys2Proof/Machine/Collector.lean ====
section
/-! DEFINITION. The fault collector (R555 to R586): counting windows and escalation, sticky cause records, reactions, block resets
and their shadows, consequential and merged events, the log, the replacement request, and the delivery of events. -/

namespace Sys2Proof.Machine

/-! ## Configuration rows and cause records (R563, R586) -/

namespace Fc
/-- The fields of an FC_CONFIG row. -/
def minor (r : Nat) : Nat := bits r 63 61
def severe (r : Nat) : Nat := bits r 60 58
def window (r : Nat) : Nat := bits r 57 36
def threshold (r : Nat) : Nat := bits r 35 26
def vector (r : Nat) : Nat := bits r 25 19
/-- Frames of a sub-window (R559). -/
def span (r : Nat) : Nat := max 1 (ceilDiv (window r * 1250) 16)
end Fc

namespace Rec
/-- The fields of a cause record (R563). -/
def seq (r : Nat) : Nat := bits r 63 32
def held (r : Nat) : Bool := bit r 31
def reaction (r : Nat) : Nat := bits r 28 26
def secondary (r : Nat) : Nat := bits r 23 16
def count (r : Nat) : Nat := bits r 255 192
end Rec

/-- The configuration in force of a source, and its cause record. -/
def State.fcRow (s : State) (src : Nat) : Nat := s.g (atRow K.FC_CONFIG src)
def State.causeRec (s : State) (src : Nat) : Nat := s.g (atRow K.FC_RECORDS src)
def State.setRec (s : State) (src r : Nat) : State := s.p (atRow K.FC_RECORDS src) r
/-- The objects that hold a bit for each source, and that bit. -/
def State.srcBit (s : State) (lo src : Nat) : Bool := bit (s.g (if src < 64 then lo else atSub lo 1)) (src % 64)
def State.setSrcBit (s : State) (lo src : Nat) (b : Bool) : State := s.pbit (if src < 64 then lo else atSub lo 1) (src % 64) b
/-- A source is severe. -/
def State.isSevere (s : State) (src : Nat) : Bool := s.srcBit K.FC_SEVERE_LO src

/-- Write a log entry (R580, R581): kind, source, SEQ, frame, cause, and the record that caused or absorbed the event. -/
def State.fcLog (s : State) (kind src seq fn detail : Nat) (cause : Option (Nat × Nat)) (count : Nat) : State :=
  let k := s.g K.FC_LOG_HEAD
  let w0 := seq * 2 ^ 32 + src * 2 ^ 25 + kind * 2 ^ 22 + k % 2 ^ 22
  let w3 := (match cause with | some (cs, cq) => cq * 2 ^ 32 + cs * 2 ^ 25 + 2 ^ 24 | none => 0) + min count (2 ^ 24 - 1)
  (s.p (atRow K.FC_LOG (k % 1024)) (w0 + fn * 2 ^ 64 + detail % 2 ^ 64 * 2 ^ 128 + w3 * 2 ^ 192)).p K.FC_LOG_HEAD (k + 1)

/-- COUNT of a record named by source and SEQ, while it is held. -/
def State.countOf (s : State) (src seq : Nat) : Nat := if Rec.seq (s.causeRec src) = seq then Rec.count (s.causeRec src) else 0

/-- A delivery is due on the vector of a source (R582). -/
def State.deliver (s : State) (src : Nat) : State := { s with msixPend := s.msixPend ||| 2 ^ Fc.vector (s.fcRow src) }

/-! ## Block resets (R571) -/

/-- The block that a source names for BLOCK_RESET. -/
def blockOf (src : Nat) : Option Blk :=
  if [0, 1, 9, 43, 46].contains src then some .input
  else if [22, 24, 25].contains src then some .ut
  else if [48, 51, 53, 63].contains src then some .sequencer
  else if [83, 84, 85, 90].contains src then some .calibration
  else if [102, 105].contains src then some .link
  else if [97, 98, 99].contains src then some .stackPort
  else none

/-- The instances that the cause of an event names. -/
def instancesOf (src : Nat) (e : Ev) : List Nat :=
  match blockOf src with
  | some .input => if src = 43 then bitList 16 e.inputs else bitList 16 e.mask
  | some .ut => bitList 4 (e.mask / 2)
  | some .sequencer => bitList 8 e.mask
  | some .calibration => bitList 8 e.mask
  | some .link => if e.detail < 8 then [e.detail] else []
  | some .stackPort => [0]
  | none => []

/-- A shadow of a block reset: from its start, of that instance. -/
def Shadow.isBlock (x : Shadow) (b : Blk) (inst : Nat) : Bool := decide (x.kind = .block b inst)

/-- The record whose reaction ordered a reset of an instance that has not settled. -/
def State.resetBy (s : State) (b : Blk) (inst : Nat) : Option (Nat × Nat) :=
  match s.resets.find? (fun r => r.blk = b && r.inst == inst) with
  | some r => some (r.src, r.seq)
  | none => (s.shadows.find? (fun x => x.isBlock b inst)).map (fun x => (x.src, x.seq))

/-! ## Shadows (R571 to R575) -/

/-- Every event of a source. -/
abbrev wholeCause : Nat := 2 ^ 64 - 1

/-- What a shadow covers of the events of a source: the instances of a bitmap, or every event; none where the source is not shadowed. -/
def State.coverOf (s : State) (k : ShadowKind) (src : Nat) (e : Ev) : Option Nat :=
  match k with
  | .block .input n =>
    if [0, 1, 2, 3, 5, 6, 9, 43, 46].contains src then some (2 ^ n) else if src = 60 ∨ src = 61 then some wholeCause else none
  | .block .ut u =>
    if 22 ≤ src ∧ src ≤ 27 then some (2 ^ (u + 1))
    else if src = 32 ∨ src = 33 then some (bitmap (s.clockPads (u + 1))) else none
  | .block .sequencer q => if 48 ≤ src ∧ src ≤ 56 then some (2 ^ q) else if src = 62 ∨ src = 77 then some wholeCause else none
  | .block .calibration k => if (81 ≤ src ∧ src ≤ 85) ∨ src = 90 then some (2 ^ k) else if src = 45 then some wholeCause else none
  | .block .link k =>
    if src = 101 ∨ src = 102 ∨ src = 105 then (if e.detail = k then some wholeCause else none)
    else if src = 0 ∨ src = 1 then some (2 ^ (16 + k)) else none
  | .block .stackPort _ => if 96 ≤ src ∧ src ≤ 100 then some wholeCause else none
  | .direct 3 m => if src = 45 ∨ src = 47 then some m else none
  | .direct 4 _ => if src = 125 then some wholeCause else none
  | .direct 6 _ => if src = 3 ∨ src = 11 ∨ src = 12 ∨ src = 126 then some wholeCause else none
  | .direct 7 _ => if src = 54 ∨ src = 124 then some wholeCause else none
  | .direct _ _ => none
  | .phaseDist _ => if src = 40 then (if e.alt.isNone then some wholeCause else some e.inputs) else none

/-- The part of an event that a shadow leaves: nothing, the event untouched (none of it shadowed), or the rest. -/
def leaveOf (src m : Nat) (e : Ev) : Option Ev :=
  if m = wholeCause then none
  else if src = 43 then
    (let i := e.inputs - (e.inputs &&& m)
     if i = 0 ∧ e.mask = 0 then none else some { e with inputs := i })
  else if src = 40 then some { e with mask := e.mask - (e.mask &&& m), inputs := 0, detail := e.alt.getD e.detail }
  else
    let r := e.mask - (e.mask &&& m)
    if r = 0 ∧ e.mask ≠ 0 then none else some { e with mask := r, detail := if e.detail = e.mask then r else e.detail }

/-- An event passes the shadows open in its frame: what is left of it, whether a part was consequential, and the entries written
(R572). A source whose severe reaction in force is SAFE is never shadowed (R575). -/
def State.passShadows (s : State) (src fn at_ : Nat) (e : Ev) : State × Option Ev × Bool :=
  if Fc.severe (s.fcRow src) = 7 then (s, some e, false)
  else
    s.shadows.foldl (fun (a : State × Option Ev × Bool) (x : Shadow) =>
      match a.2.1 with
      | none => a
      | some r =>
        if x.start ≤ at_ ∧ x.till.all (fun t => at_ < t) then
          (match s.coverOf x.kind src r with
           | none => a
           | some m =>
             let rest := leaveOf src m r
             if rest = some r then a
             else
               let y := { x with logged := src :: x.logged }
               let t := if x.logged.contains src then a.1
                 else State.fcLog { a.1 with shadows := a.1.shadows.map (fun z => if z = x then y else z) } 4 src 0 fn e.detail
                   (some (x.src, x.seq)) (a.1.countOf x.src x.seq)
               (t, rest, true))
        else a) (s, some e, false)

/-! ## Merging (R576, R661) -/

/-- The record that absorbs an event of a source: of the same group, of another source, being handled, the one latched first. -/
def State.absorber (s : State) (src at_ : Nat) : Option Handling :=
  (s.handling.filter (fun h => h.src / 16 == src / 16 && h.src != src && Rec.held (s.causeRec h.src) && Rec.seq (s.causeRec h.src) == h.seq
      && h.till.all (fun t => decide (at_ ≤ t)))).foldl
    (fun b h => match b with
      | some c => if h.order < c.order then some h else b
      | none => some h) none

/-- An event is merged into a record: SECONDARY, MERGED, the log entry and FC_MERGED. -/
def State.mergeMark (s : State) (into seq src fn detail : Nat) : State :=
  let r := s.causeRec into
  let held := Rec.seq r = seq
  let r1 := setBits r 23 16 (min 255 (Rec.secondary r + 1))
  let r2 := if src / 16 = into / 16 then setBit r1 (src % 16) true else r1
  let s := if held then s.setRec into r2 else s
  (s.fcLog 5 src 0 fn detail (some (into, seq)) (s.countOf into seq)).inc K.FC_MERGED

/-! ## Counting (R559, R560, R564) -/

/-- The sum of the sub-windows of a source. -/
def State.windowCount (s : State) (src : Nat) : Nat := ((Sp.find s.fcSubs src).getD []).foldl (· + ·) 0
/-- Write FC_WINDOW_COUNT of a source; the row holds 16 bits. -/
def State.showWindow (s : State) (src : Nat) : State := s.p (atRow K.FC_WINDOW_COUNT src) (min 65535 (s.windowCount src))

/-- One more counted event in the present sub-window. -/
def bump : List Nat → List Nat
  | [] => [1]
  | n :: l => (n + 1) :: l

/-- A new record is latched. -/
def State.latch (s : State) (src fn : Nat) (e : Ev) : State :=
  let q := s.g K.FC_SEQ
  let r := q * 2 ^ 32 + 2 ^ 31 + fn * 2 ^ 64 + fn * 2 ^ 128 + 2 ^ 192 + e.detail % 2 ^ 64 * 2 ^ 256 + e.mask % 2 ^ 64 * 2 ^ 320
    + (if src = 43 then e.inputs % 2 ^ 16 * 2 ^ 448 else 0)
  let s : State := { s with recOrd := Sp.ins s.recOrd src s.recNext, recNext := s.recNext + 1 }
  ((s.setRec src r).p K.FC_SEQ (if q = 2 ^ 32 - 1 then 1 else q + 1)).setSrcBit K.FC_HELD_LO src true

/-- A held record takes one more event. -/
def State.updateRec (s : State) (src fn : Nat) (e : Ev) : State :=
  let r := s.causeRec src
  let r := setBits (setBits r 255 192 (Rec.count r + 1)) 191 128 fn
  let r := setBits r 383 320 (bits r 383 320 ||| e.mask)
  s.setRec src (if src = 43 then setBits r 463 448 (bits r 463 448 ||| e.inputs) else r)

/-- A reaction as it acts now (R567, R571): FORCE_HOLDOVER and a BLOCK_RESET that names no input act as NOTIFY. -/
def State.reactionNow (s : State) (src code : Nat) (e : Ev) : Nat :=
  if code = 6 ∧ ((8 ≤ s.mode ∧ s.mode ≤ 11) ∨ !s.aligned) then 2
  else if code = 4 ∧ src = 43 ∧ e.inputs = 0 then 2
  else code

/-- The reaction that the next counted event of a source takes, and whether it escalates the source. -/
def State.reactionTo (s : State) (src : Nat) (e : Ev) : Nat × Bool :=
  let row := s.fcRow src
  if s.isSevere src then (min (Fc.minor row) 1, false)
  else if Fc.threshold row ≤ s.windowCount src + 1 then (s.reactionNow src (Fc.severe row) e, true)
  else (s.reactionNow src (Fc.minor row) e, false)

/-- A reaction taken in this step. -/
structure FcAct where
  src  : Nat
  seq  : Nat
  code : Nat
  ev   : Ev

/-- Count an event: window, record, escalation, log; what is left to do for its reaction. -/
def State.countEvent (s : State) (src fn : Nat) (e : Ev) : State × Option FcAct :=
  let row := s.fcRow src
  let x := s.reactionTo src e
  let fresh := !Rec.held (s.causeRec src)
  let s : State := { s with fcSubs := Sp.ins s.fcSubs src (bump ((Sp.find s.fcSubs src).getD [])) }
  let s := s.showWindow src
  let s := if fresh then s.latch src fn e else s.updateRec src fn e
  let s := if x.2 then
      (let s := (s.setSrcBit K.FC_SEVERE_LO src true).setRec src (setBits (setBit (s.causeRec src) 29 true) 447 384 fn)
       if 2 ≤ Fc.severe row then ({ s with escSubs := bump s.escSubs }).inc K.FC_ESCALATIONS else s)
    else s
  let r := s.causeRec src
  let s := s.setRec src (setBits r 28 26 (max (Rec.reaction r) x.1))
  let seq := Rec.seq r
  let cnt := Rec.count r
  let s := if fresh then s.fcLog 1 src seq fn e.detail none cnt
    else if !x.2 && 1 ≤ x.1 then s.fcLog 2 src seq fn e.detail none cnt else s
  let s := if x.2 then s.fcLog 3 src seq fn e.detail none cnt else s
  (s, if 1 ≤ x.1 then some { src := src, seq := seq, code := x.1, ev := e } else none)

/-- The collector takes one event of a frame (R572 to R576). -/
def State.takeEvent (s : State) (src fn at_ : Nat) (e : Ev) : State × Option FcAct :=
  let s := s.inc (atRow K.FC_COUNT src)
  let p := s.passShadows src fn at_ e
  let s := if p.2.2 then p.1.inc K.FC_CONSEQ else p.1
  match p.2.1 with
  | none => (s, none)
  | some e =>
    let safe : Bool := Fc.severe (s.fcRow src) == 7
    let into := if safe then none else s.absorber src at_
    match into with
    | some h =>
      let s := s.mergeMark h.src h.seq src fn e.detail
      (if 2 ≤ Fc.minor (s.fcRow src) then s.deliver src else s, none)
    | none =>
      let inst := instancesOf src e
      let again : Bool := !safe && (s.reactionTo src e).1 == 4 && !inst.isEmpty &&
        inst.all (fun i => match blockOf src with | some b => (s.resetBy b i).isSome | none => false)
      match again, blockOf src, inst with
      | true, some b, i :: _ =>
        (match s.resetBy b i with
         | some o =>
           let s := s.mergeMark o.1 o.2 src fn e.detail
           (if 2 ≤ Fc.minor (s.fcRow src) then s.deliver src else s, none)
         | none => (s, none))
      | _, _, _ => s.countEvent src fn e

/-! ## Reactions (R567 to R570, R573) -/

/-- A record is being handled until a frame, or until further notice. -/
def State.handle (s : State) (a : FcAct) (till : Option Nat) : State :=
  let later := fun (x : Option Nat) => match x, till with
    | some p, some q => some (max p q)
    | _, _ => none
  if s.handling.any (fun h => h.src == a.src && h.seq == a.seq) then
    { s with handling := s.handling.map (fun h => if h.src = a.src ∧ h.seq = a.seq then { h with till := later h.till } else h) }
  else { s with handling := s.handling ++ [{ src := a.src, seq := a.seq, order := (Sp.find s.recOrd a.src).getD 0, till := till }] }

/-- A shadow over the direct effects of a reaction. -/
def State.direct (s : State) (a : FcAct) (mask till : Nat) : State :=
  { s with shadows := s.shadows ++ [{ kind := .direct a.code mask, src := a.src, seq := a.seq, start := s.tick, till := some till, logged := [] }] }

/-- A request for M10 (R567, R577, R578), from a mode that has that transition (R589). -/
def State.askSafe (s : State) : State := if (2 ≤ s.mode ∧ s.mode ≤ 9) ∨ s.mode = 11 then s.askMode 10 5 0 else s

/-- SPARE (R307, R567): a fault of each channel of the cause that its own core carries. -/
def State.actSpare (s : State) (a : FcAct) : State :=
  let l := (bitList 64 a.ev.mask).filter (fun c => s.g (K.CH_CORE c) == c)
  let s := s.direct a (bitmap ((l.map (fun c => c / 8)).flatMap (fun k => (List.range 8).map (fun i => 8 * k + i)))) (s.tick + 4)
  let s := s.each l State.spareFor
  let done := l.any (fun c => (s.bank (c / 8)).change.any (fun x => x.cover == some c))
  s.handle a (some (if done then s.tick + 2 else s.tick))

/-- BLOCK_RESET (R571, R576): each instance named begins its reset at the first boundary R23 allows; one already being reset is merged. -/
def State.actReset (s : State) (a : FcAct) (b : Blk) : State :=
  (instancesOf a.src a.ev).foldl (fun (s : State) i =>
    match s.resetBy b i with
    | some o => s.mergeMark o.1 o.2 a.src (s.fn - 1) a.ev.detail
    | none => State.handle { s with resets := s.resets ++ [{ blk := b, inst := i, src := a.src, seq := a.seq, due := s.soon }] } a none) s

/-- FORCE_HOLDOVER (R567, R568): the Headstock selects no slot, from the first boundary R23 allows. -/
def State.actHold (s : State) (a : FcAct) : State :=
  let s : State := { s with forced := if s.forced.contains a.src then s.forced else s.forced ++ [a.src],
                            reacts := s.reacts ++ [{ src := a.src, seq := a.seq, code := 6, mask := 0, due := s.soon }] }
  (s.direct a 0 (s.tick + 4)).handle a (some (s.tick + 2))

/-- Execute a reaction; `safe` says that a SAFE reaction is taken at this step (R569). -/
def State.act1 (s : State) (safe : Bool) (a : FcAct) : State :=
  let s := if 2 ≤ a.code then s.deliver a.src else s
  let here := s.handle a (some s.tick)
  match a.code with
  | 5 => here.setReplace 12
  | 7 => (s.askSafe.direct a 0 (s.tick + 4)).handle a (some (s.tick + 2))
  | 3 => if safe then here else s.actSpare a
  | 4 => if safe || (instancesOf a.src a.ev).isEmpty then here else (match blockOf a.src with | some b => s.actReset a b | none => here)
  | 6 => if safe then here else s.actHold a
  | _ => here

/-! ## Block resets begin and settle (R571) -/

/-- The reset of an instance. -/
def State.beginReset (s : State) (b : Blk) (inst : Nat) : State :=
  match b with
  | .input =>
    let s := s.setInp inst { level := (s.inp inst).level }
    if s.slotType inst = 0 then s
    else
      let s := s.setNoSignal inst
      if s.g (K.SLOT_STATE inst) = 1 then s else s.slotFails inst 1
  | .ut => if s.gb (K.UT_ENABLE inst) then s.gatedRelock inst (s.utNum inst) else s
  | .sequencer => if s.plays inst || s.g (K.SQ_STATE inst) == 1 then (s.holdReq inst { stop := true, park := true, fn := s.fn }).st else s
  | .calibration =>
    (s.calAbandon inst).auditAnew inst
  | .link => if s.g (K.TN_STATE inst) = 0 then s else s.retrain inst
  | .stackPort =>
    if s.role = 2 then (if s.stkState = 6 then s else s.stackLost 6)
    else if s.role = 1 then
      ({ s with stk := { s.stk with trips := [], run := [] } }).each (List.range 16) (fun s p =>
        let s := s.p (atRow K.STK_DELAY p) 0xFFFFFF
        if p = 0 then s else s.setMember K.STK_MEMBERS p false)
    else s

/-- A reset ordered begins: its shadow opens. -/
def State.startReset (s : State) (r : PendReset) : State :=
  let s : State := { s with resets := s.resets.erase r }
  State.beginReset { s with shadows := s.shadows ++ [{ kind := .block r.blk r.inst, src := r.src, seq := r.seq, start := s.tick, till := none, logged := [] }] }
    r.blk r.inst

/-- The resets due at this boundary, after step 5 of R26 (R568). -/
def State.resetsDue (s : State) : State := (s.resets.filter (fun r => r.due ≤ s.tick)).foldl State.startReset s

/-- The settle window of a reset has ended. -/
def State.settled (s : State) (b : Blk) (inst : Nat) (x : Shadow) : Bool :=
  match b with
  | .input => x.start + 1250 ≤ s.tick
  | .ut => s.g (K.UT_STATE inst) == 3 || s.g (K.UT_STATE inst) == 0 || x.start + 25000 ≤ s.tick
  | .sequencer => x.till.any (fun t => decide (t ≤ s.tick))
  | .calibration => s.g (K.CALB_STATE inst) == 0
  | .link => s.linkUp inst || x.start + 37500 ≤ s.tick
  | .stackPort => x.start + 2560 ≤ s.tick

/-- The settle window of an instance ends: EV125, consequential of the record that ordered the reset, whose handling ends with its
last instance (R558, R573, R576). -/
def State.endSettle (s : State) (x : Shadow) : State :=
  let s : State := { s with shadows := s.shadows.erase x ++
    [{ kind := .direct 4 0, src := x.src, seq := x.seq, start := s.tick, till := some (s.tick + 1), logged := [] }] }
  let s := s.raiseVal 125 0
  let open_ : Bool := s.resets.any (fun r => r.src == x.src && r.seq == x.seq) ||
    s.shadows.any (fun y => y.src == x.src && y.seq == x.seq && (match y.kind with | .block _ _ => true | _ => false))
  if open_ then s
  else { s with handling := s.handling.map (fun h => if h.src = x.src ∧ h.seq = x.seq ∧ h.till.isNone then { h with till := some (s.tick - 1) } else h) }

/-- The settle windows that end at this boundary, the sequencers that have stopped, and the PHASE_DIST shadow, which lasts while the
bit stays set on the first reporter (R571, R574). -/
def State.watchShadows (s : State) : State :=
  let s : State := { s with shadows := s.shadows.map (fun x => match x.kind with
    | .block .sequencer q => if s.g (K.SQ_STATE q) = 0 ∧ x.till.isNone then { x with till := some (s.tick + 2) } else x
    | _ => x) }
  let s := s.shadows.foldl (fun (s : State) x => match x.kind with
    | .block b i => if s.settled b i x then s.endSettle x else s
    | _ => s) s
  { s with
    shadows := s.shadows.filter (fun x => match x.kind with
      | .phaseDist c => bit (s.g (K.IP_FAULT c)) 2
      | .direct _ _ => x.till.all (fun t => decide (s.tick < t))
      | _ => true)
    handling := s.handling.filter (fun h => h.till.all (fun t => decide (s.tick ≤ t))) }

/-! ## Sub-windows (R559, R560, R562, R567) -/

/-- A source ends being severe (R560): its SEVERE_END entry. -/
def State.endSevere (s : State) (src : Nat) : State :=
  let r := s.causeRec src
  (s.setSrcBit K.FC_SEVERE_LO src false).fcLog 7 src (Rec.seq r) s.fn 0 none (Rec.count r)

/-- The window count of a severe source stands below its threshold at a sub-window boundary. -/
def State.severeOver (s : State) (src : Nat) : Bool := s.isSevere src && s.windowCount src < Fc.threshold (s.fcRow src)
/-- A FORCE_HOLDOVER has run out: the window count of its source is 0. -/
def State.forceOver (s : State) (src : Nat) : Bool := s.forced.contains src && s.windowCount src == 0
/-- The present boundary is a sub-window boundary of a source. -/
def State.subBoundary (s : State) (src : Nat) : Bool := s.fn % Fc.span (s.fcRow src) == 0
/-- The FORCE_HOLDOVER of a source ends. -/
def State.endForce (s : State) (src : Nat) : State := { s with forced := s.forced.filter (· != src) }

/-- A sub-window of a source begins where one does. -/
def State.subWindow (s : State) (src : Nat) : State :=
  if s.subBoundary src then
    let s := match Sp.find s.fcSubs src with
      | some l => State.showWindow { s with fcSubs := if (l.take 15).all (· == 0) then Sp.del s.fcSubs src else Sp.ins s.fcSubs src (0 :: l.take 15) } src
      | none => s
    let s := if s.severeOver src then s.endSevere src else s
    if s.forceOver src then s.endForce src else s
  else s

/-- The ESCALATIONS reason of the replacement request (R562). -/
def State.escalations (s : State) : State :=
  let l := ceilDiv (s.g K.FC_ESC_WINDOW * framesPerSecond) 16
  let s : State := if s.fn % l = 0 ∧ !s.escSubs.isEmpty then
      { s with escSubs := if (s.escSubs.take 15).all (· == 0) then [] else 0 :: s.escSubs.take 15 } else s
  if s.g K.FC_ESC_LIMIT < s.escSubs.foldl (· + ·) 0 then s.setReplace 11 else s.clearReplace 11

/-! ## Step 6 of R26 -/

/-- TRANSIENT sets on the records whose live bit is clear in the frame that ended (R565). -/
def State.transients (s : State) (raised : Sp Ev) : State :=
  s.each (instances 128 (fun e => Rec.held (s.causeRec e) && (Sp.find raised e).isNone)) (fun s e => s.setRec e (setBit (s.causeRec e) 30 true))

/-- The record that the first reporter's event left names the shadow of PHASE_DIST (R574). -/
def State.namePhase (s : State) : State :=
  { s with shadows := s.shadows.map (fun x => match x.kind with
      | .phaseDist _ => if x.seq = 0 then { x with seq := Rec.seq (s.causeRec 40) } else x
      | _ => x) }

/-- The collector processes the events of the frame that ended (R555): `raised` holds them. -/
def State.collect (s : State) (raised : Sp Ev) : State :=
  let fn := s.fn - 1
  let at_ := s.tick - 1
  let s : State := { s with evLast := raised.foldl (fun m p => Sp.ins m p.1 (fn, at_)) s.evLast }
  let x := raised.foldl (fun (a : State × List FcAct) p =>
    let r := a.1.takeEvent p.1 fn at_ p.2
    (r.1, a.2 ++ r.2.toList)) (s, [])
  let s := x.1.namePhase
  let safe := x.2.any (fun a => a.code == 7)
  let s := x.2.foldl (fun s a => s.act1 safe a) s
  let s := s.each (List.range 128) State.subWindow
  ((s.escalations).transients raised).watchShadows

/-- FORCE_HOLDOVER reactions that take effect at this boundary: EV126 (R558, R568). -/
def State.reactsDue (s : State) : State :=
  let l := s.reacts.filter (fun r => r.due ≤ s.tick)
  l.foldl (fun (s : State) _ => s.raiseVal 126 0) { s with reacts := s.reacts.filter (fun r => s.tick < r.due) }

/-! ## Commands of the collector -/

/-- BLOCK_RESET (R571): the reset of an instance that a source has ordered begins at its boundary. -/
def execBlockReset (b : Blk) (inst src : Nat) : State → Host.Outcome State Fault Refusal :=
  run (fun s => match s.resets.find? (fun r => r.blk = b && r.inst == inst && r.src == src && r.due ≤ s.tick) with
    | some r => s.startReset r
    | none => s)

/-- BLOCK_RESET_SETTLE_END (R571). -/
def execBlockResetSettleEnd (b : Blk) (inst : Nat) : State → Host.Outcome State Fault Refusal :=
  run (fun s => match s.shadows.find? (fun x => x.isBlock b inst) with
    | some x => if s.settled b inst x then s.endSettle x else s
    | none => s)

/-- SEVERE_END (R560). -/
def execSevereEnd (src : Nat) : State → Host.Outcome State Fault Refusal :=
  run (fun s => if src < 128 ∧ s.subBoundary src ∧ s.severeOver src then s.endSevere src else s)

/-- FORCE_HOLDOVER_END (R567). -/
def execForceHoldoverEnd (src : Nat) : State → Host.Outcome State Fault Refusal :=
  run (fun s => if src < 128 ∧ s.subBoundary src ∧ s.forceOver src then s.endForce src else s)

/-- The row of a source's collector state is set from the configuration in force with its counts at 0 (R577). -/
def State.fcRestart (s : State) (src : Nat) : State :=
  let s : State := { s with fcSubs := Sp.del s.fcSubs src, recOrd := Sp.del s.recOrd src }
  let s := s.pAll [(atRow K.FC_COUNT src, 0), (atRow K.FC_WINDOW_COUNT src, 0), (atRow K.FC_RECORDS src, 0)]
  (s.setSrcBit K.FC_HELD_LO src false).setSrcBit K.FC_SEVERE_LO src false

/-- COLLECTOR_ECC_ERROR (R577, R578): in M11 no uncorrectable error is repaired. -/
def State.eccError (s : State) (src : Nat) (e : EccError) : State :=
  match e with
  | .singleBit => (s.inc K.FC_ECC_CORRECTED).raiseVal 120 0
  | .oneCopy => if s.mode = 11 then s.askSafe else (s.inc K.FC_ECC_CORRECTED).raiseVal 121 0
  | .bothCopies => if s.mode = 11 then s.askSafe else (s.fcRestart src).askSafe

/-- COLLECTOR_ECC_ERROR (R577). -/
def execCollectorEccError (row : Nat) (e : EccError) : State → Host.Outcome State Fault Refusal :=
  run (fun s => if row < 128 then s.eccError row e else s)

/-- FC_CLEAR (R566): the record is cleared only while it is the one named. -/
def State.fcClearBody (s : State) (arg : Nat) : CmdRes :=
  let src := arg % 128
  let seq := bits arg 63 32
  let r := s.causeRec src
  if Rec.held r ∧ Rec.seq r = seq then
    ((({ s with recOrd := Sp.del s.recOrd src }).setRec src 0).setSrcBit K.FC_HELD_LO src false |>.fcLog 6 src seq s.fn 0 none (Rec.count r)).done
  else (s.inc K.FC_STALE_CLEARS).deny RC.stale

def State.fcClearCmd (s : State) (w : Who) (arg : Nat) : CmdRes := s.call w K.FC_CLEAR arg 1 (fun s => s.fcClearBody arg)

/-- FC_CLEAR (R566). -/
def execFcClear (who : Who) (arg : Nat) : State → Host.Outcome State Fault Refusal :=
  run (fun s => s.command (fun s => s.fcClearCmd who arg))

/-- FC_DEGRADE_CLEAR clears REACTION of REPLACE_REASON (R579, R585). -/
def State.fcDegradeClearCmd (s : State) (w : Who) (arg : Nat) : CmdRes :=
  s.call w K.FC_DEGRADE_CLEAR arg 3 (fun s => (s.clearReplace 12).done)

/-- FC_DEGRADE_CLEAR (R579). -/
def execFcDegradeClear (who : Who) : State → Host.Outcome State Fault Refusal :=
  run (fun s => s.command (fun s => s.fcDegradeClearCmd who 0))

/-- SIGNER_FAULT (R558): the Epoch signer or the handshake signer fails its self-check. -/
def execSignerFault : State → Host.Outcome State Fault Refusal := run (fun s => s.raiseVal 119 0)

/-! ## Pins (R579, R583, R601) -/

/-- IRQ_N: asserted while a held record of a source in FC_IRQ_MASK has taken NOTIFY or more. -/
def State.irqAsserted (s : State) : Bool :=
  (List.range 128).any (fun e => Rec.held (s.causeRec e) && 2 ≤ Rec.reaction (s.causeRec e) && s.srcBit K.FC_IRQ_MASK_LO e)
/-- ALARM_N: asserted while a severe source has DEGRADE, FORCE_HOLDOVER or SAFE as its severe reaction. -/
def State.alarmAsserted (s : State) : Bool := (List.range 128).any (fun e => s.isSevere e && 5 ≤ Fc.severe (s.fcRow e))
/-- REPLACE_N: asserted while REPLACE_REASON is nonzero. -/
def State.replaceAsserted (s : State) : Bool := s.g K.REPLACE_REASON != 0
/-- SAFE_N: low in M10, and while the device is in M0 or M1. -/
def State.safeAsserted (s : State) : Bool := s.mode == 10 || s.mode ≤ 1

/-! ## Delivery (R510, R582, R584) -/

/-- The log entries of some groups from one position on, at most n of them, and the position after the last one seen. -/
def State.logFrom (s : State) (groups n : Nat) : Nat → Nat → List Nat × Nat
  | 0, pos => ([], pos)
  | f + 1, pos =>
    if n = 0 ∨ s.g K.FC_LOG_HEAD ≤ pos then ([], pos)
    else
      let r := s.g (atRow K.FC_LOG (pos % 1024))
      if bit groups (bits r 31 29) then
        (let x := State.logFrom s groups (n - 1) f (pos + 1)
         (r :: x.1, x.2))
      else State.logFrom s groups n f (pos + 1)
  termination_by structural f => f

/-- EVENT messages on the open channels whose principal subscribes (R584): at most 30 records in one message of a frame. -/
def State.wopEvents (s : State) : State :=
  s.chans.foldl (fun (s : State) p =>
    let c := p.2
    let subs := s.g (atRow K.FC_WOP_SUBS c.row)
    let head := s.g K.FC_LOG_HEAD
    if subs = 0 then { s with chans := Sp.ins s.chans p.1 { c with logPos := head } }
    else
      let x := s.logFrom subs 30 1024 (max c.logPos (head - 1024))
      if x.1.isEmpty then { s with chans := Sp.ins s.chans p.1 { c with logPos := x.2 } }
      else ({ s with chans := Sp.ins s.chans p.1 { c with logPos := x.2, ctrOut := c.ctrOut + 1 } }).emit (.eventMsg p.1 x.1)) s

/-- EVENT frames to the subscribed fabric addresses (R510): at most 32 records in one frame; a stale row sends nothing. -/
def State.fabricEvents (s : State) : State :=
  s.each (List.range 8) (fun s r =>
    let row := s.g (atRow K.FAB_EVT_SUBS r)
    let head := s.g K.FC_LOG_HEAD
    let pos := (Sp.find s.host.subPos r).getD head
    let at_ := fun (s : State) n => { s with host := { s.host with subPos := Sp.ins s.host.subPos r n } }
    if bit row 63 then
      let x := s.logFrom (row % 256) 32 1024 (max pos (head - 1024))
      let a := bits row 59 48
      if x.1.isEmpty then at_ s x.2
      else if a = s.g K.FAB_ADDR ∧ s.g K.FAB_ADDR_GEN = bits row 47 40 then at_ s x.2
      else if s.routeGen a = bits row 47 40 ∧ s.hopsTo a < 16 then
        let f : MgmtFrame :=
          { (default : MgmtFrame) with
            event := true, dst := a, dstGen := bits row 47 40, src := s.g K.FAB_ADDR, srcGen := s.g K.FAB_ADDR_GEN }
        (at_ s x.2).handOver (s.routeLink a) (.fabricEvent (s.routeLink a) f x.1)
      else (at_ s x.2).inc K.FAB_STALE
    else at_ s head)

/-- The MSI-X messages due: each unmasked pending vector sends one (R582). -/
def State.msixSend (s : State) : State :=
  let go := bitList 128 s.msixPend |>.filter (fun v => !bit s.msixMask v)
  go.foldl (fun (s : State) v => ({ s with msixPend := setBit s.msixPend v false }).emit (.msix v)) s

/-- MSIX_UNMASK (R582): a pending vector sends at once. -/
def execMsixUnmask (vec : Nat) : State → Host.Outcome State Fault Refusal :=
  run (fun s => if vec < 128 then State.msixSend { s with msixMask := setBit s.msixMask vec false } else s)

end Sys2Proof.Machine
end

