-- ==== Sys2Proof/Machine/Host.lean ====
section
/-! DEFINITION. The host interfaces below their messages (R609 to R633): the rings of the queue pairs, record delivery, the PCI
Express link, the management port's link, the firmware flash, telemetry and the emission of Epoch Records. -/

namespace Sys2Proof.Machine

/-! ## Rings (R613, R614, R619, R620) -/

/-- The entries of a queue pair's submission (2), completion (1) or record (0) ring. -/
def State.ringSize (s : State) (q which : Nat) : Nat := 2 ^ (s.g (K.QP_SIZES q) / 256 ^ which % 256)
/-- An index into a ring of n entries, one further. -/
def nextIx (i n : Nat) : Nat := (i + 1) % n
/-- The host address of bytes at a window and offset (R240). -/
def State.hostAddr (s : State) (place more bytes : Nat) : Option Nat :=
  let t := s.window (place / 2 ^ 52)
  let o := place % 2 ^ 52 + more
  if t.2.2 && o + bytes ≤ t.2.1 then some (t.1 + o) else none

/-- Finished descriptors of a queue pair that are not posted, and those whose work goes on. -/
def State.inFlight (s : State) (q : Nat) : Nat :=
  (s.xfers.filter (fun x => x.load.any (fun l => l.1 == q))).length + (s.qpOf q).done.length
/-- The completion ring is full. -/
def State.cqFull (s : State) (q : Nat) : Bool := nextIx (s.g (K.QP_CQ_TAIL q)) (s.ringSize q 1) == s.g (K.QP_CQ_HEAD q)

/-- A queue pair with nothing left in flight: OFF once it is disabled (R614); in ERROR its completions are lost (R619). -/
def State.qpSettle (s : State) (q : Nat) : State :=
  let s := if s.g (K.QP_STATE q) = 2 then s.setQp q { s.qpOf q with done := [] } else s
  if s.g (K.QP_STATE q) ≠ 0 ∧ !s.gb (K.QP_ENABLE q) ∧ s.inFlight q = 0 then s.p (K.QP_STATE q) 0 else s

/-- A queue pair enters ERROR (R619). -/
def State.qpFails (s : State) (q : Nat) : State :=
  if s.g (K.QP_STATE q) = 1 then ((s.p (K.QP_STATE q) 2).raiseVal 110 (Config.causeWord 110 1 q)).qpSettle q else s

/-- QP_ERROR (R619): a descriptor fetch or the write of a completion fails. -/
def execQpError (q : Nat) : State → Host.Outcome State Fault Refusal := run (fun s => if q < 4 then s.qpFails q else s)

/-- A write of a ring index by the host, at once (R517, R614). -/
def State.ringWrite (s : State) (k n v : Nat) : CmdRes := if v < 2 ^ 32 then (s.p k (v % n)).done else s.deny RC.range

/-- A write that needs OPERATE and no session of its own. -/
def State.plainWrite (s : State) (w : Who) (body : State → CmdRes) : CmdRes :=
  if s.bootRom then s.deny RC.noObject else if s.privOf w < 1 then s.deny RC.privilege else body s

/-- QP_SQ_TAIL_WRITE (R616). -/
def execQpSqTailWrite (who : Who) (q v : Nat) : State → Host.Outcome State Fault Refusal :=
  run (fun s => if q < 4 then s.command (fun s => s.plainWrite who (fun s => s.ringWrite (K.QP_SQ_TAIL q) (s.ringSize q 2) v)) else s)

/-- QP_CQ_HEAD_WRITE (R619). -/
def execQpCqHeadWrite (who : Who) (q v : Nat) : State → Host.Outcome State Fault Refusal :=
  run (fun s => if q < 4 then s.command (fun s => s.plainWrite who (fun s => s.ringWrite (K.QP_CQ_HEAD q) (s.ringSize q 1) v)) else s)

/-- The device may fetch the next descriptor of a queue pair (R614, R616, R619). -/
def State.mayFetch (s : State) (q : Nat) : Bool :=
  q < 4 && s.g (K.QP_STATE q) == 1 && s.gb (K.QP_ENABLE q) && s.g (K.QP_SQ_HEAD q) != s.g (K.QP_SQ_TAIL q) && s.inFlight q < 64 && !s.cqFull q

/-- A descriptor is fetched in ring order and worked on by `f`; a slot that does not translate puts the queue pair in ERROR. -/
def State.fetchDesc (s : State) (q : Nat) (f : State → State) : State :=
  if s.mayFetch q then
    match s.hostAddr (s.g (K.QP_SQ_BASE q)) (64 * s.g (K.QP_SQ_HEAD q)) 64 with
    | some _ => f (s.p (K.QP_SQ_HEAD q) (nextIx (s.g (K.QP_SQ_HEAD q)) (s.ringSize q 2)))
    | none => s.qpFails q
  else s

/-- DESC_LOAD (R616): a page write from host memory. -/
def execDescLoad (q : Nat) (desc : List Nat) : State → Host.Outcome State Fault Refusal :=
  run (fun s => match readDesc desc with
    | .load tag window offset entry gen page => s.fetchDesc q (fun s => s.loadPage q tag window offset entry gen page)
    | _ => s)

/-- The first finished descriptor of a queue pair is posted (R617, R619). -/
def State.postCompletion (s : State) (q : Nat) : State :=
  let h := s.qpOf q
  match h.done with
  | [] => s
  | d :: rest =>
    if s.g (K.QP_STATE q) ≠ 1 ∨ s.cqFull q then s
    else
      let t := s.g (K.QP_CQ_TAIL q)
      match s.hostAddr (s.g (K.QP_CQ_BASE q)) (16 * t) 16 with
      | none => s.qpFails q
      | some _ =>
        let w0 := d.tag % 2 ^ 32 * 2 ^ 32 + d.result * 2 ^ 24 + d.detail * 2 ^ 16 + d.kind * 2 ^ 8 + b2n !h.flip
        let n := nextIx t (s.ringSize q 1)
        let s := (s.setQp q { done := rest, flip := if n = 0 then !h.flip else h.flip }).p (K.QP_CQ_TAIL q) n
        ({ s with msixPend := s.msixPend ||| 2 ^ q }.emit (.completion q t w0 d.value)).qpSettle q

/-- COMPLETION_POST (R619). -/
def execCompletionPost (q : Nat) : State → Host.Outcome State Fault Refusal := run (fun s => if q < 4 then s.postCompletion q else s)

/-- Write a record of 128 bytes to a record ring (R620, R624): a full ring drops it, and a place outside its window takes nothing. -/
def State.putRecord (s : State) (kind : Nat) (rec : List Byte) (q : Nat) : State :=
  let n := s.ringSize q 0
  let t := s.g (K.QP_REC_TAIL q)
  if s.g (K.QP_STATE q) = 0 ∨ n = 1 ∨ !bit (s.g (K.QP_REC_SEL q)) kind then s
  else if nextIx t n = s.g (K.QP_REC_HEAD q) then s.inc (K.QP_REC_DROPPED q)
  else match s.hostAddr (s.g (K.QP_REC_BASE q)) (128 * t) 128 with
    | none => s
    | some _ =>
      { s.p (K.QP_REC_TAIL q) (nextIx t n) with msixPend := s.msixPend ||| 2 ^ (4 + q) }.emit (.record q kind (rec.map BitVec.toNat))

/-! ## Epoch Records (R424, R624) -/

/-- The record under construction is signed and emitted. -/
def State.erEmit (s : State) (body : List Byte) (seq : Nat) : State :=
  let rec_ := body ++ beBytes 64 (Config.epochSignature body)
  let s := { s with erBuild := none }.pAll [(K.ER_LATEST, ofBe rec_), (atRow K.ER_HISTORY (seq % 64), ofLe rec_), (K.ER_SEQ, seq)]
  let s := s.each (List.range 4) (fun s q => s.putRecord 0 rec_ q)
  s.chans.foldl (fun (s : State) p =>
    if s.gb (atRow K.ER_WOP_SUBS p.2.row) then
      ({ s with chans := Sp.ins s.chans p.1 { p.2 with ctrOut := p.2.ctrOut + 1 } }).emit (.epochMsg p.1 (rec_.map BitVec.toNat))
    else s) s

/-- EPOCH_RECORD_EMIT (R424): the record of the latest second boundary, before the next one. -/
def execEpochRecordEmit : State → Host.Outcome State Fault Refusal :=
  run (fun s => match s.erBuild with
    | some r => s.erEmit r.1 r.2
    | none => s)

/-! ## Telemetry (R631, R632) -/

/-- The sum of a counter over some instances. -/
def State.total (s : State) (n : Nat) (k : Nat → Nat) : Nat := ((List.range n).map (fun i => s.g (k i))).foldl (· + ·) 0

/-- Edges withheld and flagged over all channels, and underruns begun over all sequencers, since reset. -/
def State.telTotals (s : State) : Nat × Nat × Nat := (s.total 64 K.CH_WITHHELD, s.total 64 K.CH_FLAGGED, s.total 8 K.SQ_UNDERRUNS)

/-- The bytes of a telemetry record. -/
def State.telBytes (s : State) : List Byte :=
  let t := s.telTotals
  let b := s.host.telBase
  let m := s.meas
  beBytes 1 0x80 ++ beBytes 1 s.mode ++ beBytes 2 0 ++ beBytes 8 s.fn
    ++ (List.range 8).flatMap (fun i => beBytes 2 ((m.temps.getD i 0) % 65536).toNat)
    ++ beBytes 4 (s.g K.DEV_BOUND) ++ beBytes 2 m.vdd ++ beBytes 2 m.vdda ++ (List.range 8).flatMap (fun i => beBytes 2 (m.vddo.getD i 0))
    ++ beBytes 2 m.vddio ++ beBytes 2 m.vddh ++ beBytes 4 (s.look K.TEL_POWER_MW) ++ beBytes 4 (s.g K.REPLACE_REASON)
    ++ beBytes 8 (s.look K.FC_LIVE_LO) ++ beBytes 8 (s.look K.FC_LIVE_HI)
    ++ beBytes 4 (t.1 - b.1) ++ beBytes 4 (t.2.1 - b.2.1) ++ beBytes 4 (t.2.2 - b.2.2) ++ beBytes 36 0

/-- TELEMETRY_RECORD (R631): once at each boundary whose FN is a multiple of 1,250 × TEL_PERIOD. -/
def execTelemetryRecord : State → Host.Outcome State Fault Refusal :=
  run (fun s =>
    if 2 ≤ s.mode ∧ s.fn % (1250 * s.g K.TEL_PERIOD) = 0 ∧ s.host.telAt ≠ s.tick + 1 then
      let rec_ := s.telBytes
      let s : State := { s with host := { s.host with telBase := s.telTotals, telAt := s.tick + 1 } }
      (s.inc K.TEL_RECORDS).each (List.range 4) (fun s q => s.putRecord 1 rec_ q)
    else s)

/-! ## PCI Express (R526, R592, R609, R612, R633) -/

/-- A loss of the link, or a reset of the interface: the sessions and locks of TRANSPORT 1 break, EV109. -/
def State.pcieBreak (s : State) (kind : Nat) : State :=
  (s.breakParty 3 (fun o => identityTransport o == 1)).raiseVal 109 (Config.causeWord 109 kind 0)

/-- The interface is reset: its configuration, the MSI-X mask and pending bits, the half-latches of BAR0. -/
def State.pcieReset (s : State) (kind : Nat) (d3 : Bool) : State :=
  { s.pcieBreak kind with devCtl := (0, 2, d3), msixMask := 2 ^ 128 - 1, msixPend := 0, barLatch := none, barHold := none }

/-- PCIE_LINK_UP (R609): the link reaches DL_Active. -/
def execPcieLinkUp : State → Host.Outcome State Fault Refusal := run (fun s => { s with host := { s.host with pcieUp := true } })

/-- PCIE_LINK_DOWN (R526): the link leaves DL_Active. -/
def execPcieLinkDown : State → Host.Outcome State Fault Refusal :=
  run (fun s => if s.host.pcieUp then State.pcieBreak { s with host := { s.host with pcieUp := false } } 0 else s)

/-- PCIE_HOT_RESET (R592): a fundamental or a hot reset of the interface. -/
def execPcieHotReset (fundamental : Bool) : State → Host.Outcome State Fault Refusal :=
  run (fun s => State.pcieReset { s with host := { s.host with pcieUp := false } } (if fundamental then 0 else 1) false)

/-- FUNCTION_LEVEL_RESET (R526). -/
def execFunctionLevelReset : State → Host.Outcome State Fault Refusal := run (fun s => s.pcieReset 2 false)

/-- A transition to D3hot acts as a hot reset of the interface (R612). -/
def State.toD3 (s : State) : State := if s.devCtl.2.2 then s else s.pcieReset 3 true

/-- D3HOT_ENTRY (R612). -/
def execD3hotEntry : State → Host.Outcome State Fault Refusal := run State.toD3

/-- PCIE_CONFIG_WRITE (R609, R612): completion timeout value, Max_Read_Request_Size code up to 4,096 bytes, power state. -/
def execPcieConfigWrite (reg v : Nat) : State → Host.Outcome State Fault Refusal :=
  run (fun s =>
    if reg = 0 then { s with devCtl := (v % 16, s.devCtl.2) }
    else if reg = 1 then (if v ≤ 5 then { s with devCtl := (s.devCtl.1, v, s.devCtl.2.2) } else s)
    else if v = 3 then s.toD3
    else if v = 0 then { s with devCtl := (s.devCtl.1, s.devCtl.2.1, false) }
    else s)

/-- PCIE_AER_ERROR (R633): EV110 with the AER status. -/
def execPcieAerError (status : Nat) : State → Host.Outcome State Fault Refusal :=
  run (fun s => s.raiseVal 110 (Config.causeWord 110 0 status))

/-! ## Management port (R622, R633) -/

/-- ETH_LINK_UP (R622). -/
def execEthLinkUp : State → Host.Outcome State Fault Refusal := run (fun s => if s.gb K.ETH_ENABLE then s.p K.ETH_LINK 1 else s)

/-- ETH_LINK_DOWN (R633). -/
def execEthLinkDown : State → Host.Outcome State Fault Refusal :=
  run (fun s => if s.g K.ETH_LINK = 1 then (let t := s.p K.ETH_LINK 0; if t.gb K.ETH_ENABLE then t.raiseVal 111 0 else t) else s)

/-! ## Firmware flash (R627, R628) -/

/-- Where an image slot begins, and its bytes. -/
def slotBase (slot : Nat) : Nat := slot * 0x100000
def State.flashByte (s : State) (a : Nat) : Byte := Sp.get (fun _ => 0xFF) s.host.flash a
def State.flashBytes (s : State) (a n : Nat) : List Byte := (List.range n).map (fun i => s.flashByte (a + i))
/-- VERSION and LENGTH of an image. -/
def State.imageVersion (s : State) (slot : Nat) : Nat := ofBe (s.flashBytes (slotBase slot + 4) 4)
def State.imageLength (s : State) (slot : Nat) : Nat := ofBe (s.flashBytes (slotBase slot + 8) 4)
/-- The header of an image is one, and its signature over header and body verifies. -/
def State.imagePasses (s : State) (slot : Nat) : Bool :=
  let b := slotBase slot
  let n := s.imageLength slot
  s.flashBytes b 4 == [0x54, 0x47, 0x46, 0x57] && n + 128 ≤ 0x100000 &&
    Config.ed25519Verifies Config.firmwareKey (s.flashBytes b (64 + n)) (s.flashBytes (b + 64 + n) 64)

/-- Begin a flash operation. -/
def State.flBegin (s : State) (op : FlOp) : State := ({ s with host := { s.host with flOp := some op } }).p K.FL_STATE op.kind

/-- Why a slot may not be written: it runs, or the flash is busy. -/
def State.flRefusal (s : State) : Nat :=
  if s.host.fwSlot = some (s.g K.FL_TARGET) then RC.state else if s.g K.FL_STATE ≠ 0 then RC.busy else 0

/-- FL_ERASE of the target slot. -/
def State.flEraseCmd (s : State) (w : Who) (arg : Nat) : CmdRes :=
  s.call w K.FL_ERASE arg 1 (fun s =>
    if s.flRefusal ≠ 0 then s.deny s.flRefusal else (s.flBegin { kind := 1, slot := s.g K.FL_TARGET }).accept)

/-- FL_ERASE (R628). -/
def execFlErase (who : Who) : State → Host.Outcome State Fault Refusal :=
  run (fun s => s.command (fun s => s.flEraseCmd who 0))

/-- A write of an FL_DATA row: it programs only erased flash. -/
def State.flData (s : State) (row v : Nat) : CmdRes :=
  if s.flRefusal ≠ 0 then s.deny s.flRefusal
  else
    let slot := s.g K.FL_TARGET
    if (s.flashBytes (slotBase slot + 128 * row) 128).all (· == 0xFF) then (s.flBegin { kind := 2, slot := slot, row := row, data := v }).done
    else s.deny RC.state

/-- FL_DATA_WRITE (R628), a write of a row of an RWI table; the flash objects remain under the boot ROM (R598). -/
def execFlDataWrite (who : Who) (row v : Nat) : State → Host.Outcome State Fault Refusal :=
  run (fun s => s.command (fun s =>
    if s.privOf who < 1 then s.deny RC.privilege else if 8192 ≤ row then s.deny RC.access else s.flData row v))

/-- FL_VERIFY of the target slot: OK or AUTH. -/
def State.flVerifyCmd (s : State) (w : Who) (arg : Nat) : CmdRes :=
  s.call w K.FL_VERIFY arg 1 (fun s =>
    if s.g K.FL_STATE ≠ 0 then s.deny RC.busy
    else
      let t := s.flBegin { kind := 3, slot := s.g K.FL_TARGET }
      if s.imagePasses (s.g K.FL_TARGET) then t.done else t.deny RC.auth)

/-- FL_VERIFY (R628). -/
def execFlVerify (who : Who) : State → Host.Outcome State Fault Refusal :=
  run (fun s => s.command (fun s => s.flVerifyCmd who 0))

/-- The row of FL_SLOTS of a slot, with its signature bit. -/
def State.showSlot (s : State) (slot : Nat) (good : Bool) : State :=
  s.p (atRow K.FL_SLOTS slot) (s.imageVersion slot + b2n (s.host.fwSlot == some slot) * 2 ^ 62 + b2n good * 2 ^ 63)

/-- A flash operation completes: its bytes are erased or programmed, and FL_SLOTS follows. -/
def State.flDone (s : State) (op : FlOp) : State :=
  let b := slotBase op.slot
  let s := ({ s with host := { s.host with flOp := none } }).p K.FL_STATE 0
  if op.kind = 1 then
    State.showSlot { s with host := { s.host with flash := s.host.flash.filter (fun p => p.1 < b || b + 0x100000 ≤ p.1) } } op.slot false
  else if op.kind = 2 then
    State.showSlot { s with host := { s.host with
      flash := (List.range 128).foldl (fun m i => Sp.set (fun _ => 0xFF) m (b + 128 * op.row + i) (BitVec.ofNat 8 (op.data / 256 ^ i))) s.host.flash } } op.slot false
  else s.showSlot op.slot (s.imagePasses op.slot)

/-- FL_OPERATION_COMPLETE (R628). -/
def execFlOperationComplete : State → Host.Outcome State Fault Refusal :=
  run (fun s => match s.host.flOp with
    | some op => s.flDone op
    | none => s)

end Sys2Proof.Machine
end

