-- ==== Sys2Proof/Machine/Dict.lean ====
section
/-! DEFINITION. The dictionary as every path reaches it (R515 to R523, R533, R539, R540): the read of an object, of a row and of bytes,
the execution of a command, and the write of an object or row in a session. -/

namespace Sys2Proof.Machine

/-! ## Commands (R517, R534) -/

/-- BAR0_OPEN: opens a new session for queue pair 0 and names it in BAR0_SESSION (R525, R538). -/
def State.bar0OpenCmd (s : State) (w : Who) (arg : Nat) : CmdRes :=
  s.call w K.BAR0_OPEN arg 1 (fun s =>
    let r := s.openSess w none (arg % 2 ^ 32)
    if r.code = RC.ok then ⟨r.code, r.value, { r.st.p K.BAR0_SESSION r.value with barHold := none }⟩ else r)

/-- The BAR0 session is an OPEN or PENDING session of queue pair 0 (R537). -/
def State.bar0Live (s : State) : Bool :=
  let k := s.g K.BAR0_SESSION
  s.sessLive k && identityParty (s.g (K.SESS_OWNER k)) == identityParty (identityOf (bar0Who 0))

/-- Queue pair 0 with the boot epoch of the BAR0 session's owner. -/
def State.bar0Me (s : State) : Who := bar0Who (if s.bar0Live then s.g (K.SESS_OWNER (s.g K.BAR0_SESSION)) % 2 ^ 32 else 0)

/-- The address that TBL_SEL names: an object, and a row. -/
def selObj (v : Nat) : Nat := key (bits v 55 40) (bits v 39 32) 0
def selRow (v : Nat) : Nat := v % 2 ^ 32

/-- Words 0 to 15 of the port row as one number (R540). -/
def State.portRow (s : State) : Nat := ((List.range 16).map (fun w => s.g (K.TBL_WORD w) * 2 ^ (64 * w))).foldl (· + ·) 0

/-- The commands below index 0x5000. -/
def State.runLow (s : State) (w : Who) (k arg : Nat) : CmdRes :=
  let i := keyIndex k
  let sub := keySub k
  if k = K.MODE_REQUEST then s.modeRequestCmd w arg
  else if k = K.BAR0_OPEN then s.bar0OpenCmd w arg
  else if k = K.TS_STEP then s.tsStepCmd w arg
  else if 0x2020 ≤ i ∧ i < 0x2028 then
    (let j := i - 0x2020
     if sub = 7 then s.sessCommitCmd w j arg else if sub = 8 then s.sessDiscardCmd w j arg else s.sessCloseCmd w j arg)
  else if 0x3000 ≤ i ∧ i < 0x3700 then
    (let n := (i - 0x3000) / 0x40
     if sub = 0x10 then s.slotClearWtrCmd w n arg else if sub = 0x11 then s.slotLabelCmd w n arg else s.htSampleCmd w n arg)
  else if k = K.SR_REJECT_CLEAR then s.srRejectClearCmd w arg
  else if 0x4020 ≤ i ∧ i < 0x4024 then
    s.utBandMeasureCmd w (i - 0x4020) arg (Config.measured k s.tick % 2 ^ 32) (Config.measured (k + 1) s.tick % 2 ^ 32)
  else s.deny RC.noObject

/-- The commands from index 0x5000 up. -/
def State.runHigh (s : State) (w : Who) (k arg : Nat) : CmdRes :=
  let i := keyIndex k
  let sub := keySub k
  if 0x5000 ≤ i ∧ i < 0x5900 then
    (let c := (i - 0x5000) / 0x20
     if (i - 0x5000) % 0x20 = 8 then s.coreCalCmd w c arg
     else if sub = 5 then s.spSwapCmd w (c - 64) arg else s.spReturnCmd w (c - 64) arg)
  else if k = K.SQ_START then s.sqStartCmd w arg
  else if 0x6010 ≤ i ∧ i < 0x6018 then s.cmpLogResumeCmd w (i - 0x6010) arg
  else if 0x6020 ≤ i ∧ i < 0x6028 then
    (let q := i - 0x6020
     if sub = 4 then s.sqLockCmd w q arg else if sub = 7 then s.sqJumpCmd w q arg else s.sqStopCmd w q arg)
  else if k = K.SEG_FREE then s.segFreeCmd w arg
  else if k = K.PAGE_POST then s.pagePostCmd w arg
  else if k = K.PAGE_READ then s.pageReadCmd w arg
  else if k = K.MEM_SELFTEST then s.selftestCmd w arg
  else if k = K.ARB_COMMIT then s.arbCommitCmd w arg
  else if k = K.CAL_ALL then s.calAllCmd w arg
  else if k = K.CAL_STORE then s.calStoreCmd w arg
  else if k = K.ANC_RUN then s.ancRunCmd w arg
  else if k = K.FC_CLEAR then s.fcClearCmd w arg
  else if k = K.FC_DEGRADE_CLEAR then s.fcDegradeClearCmd w arg
  else if 0xA020 ≤ i ∧ i < 0xA028 then
    s.asymCalCmd w (i - 0xA020) arg (toI64 (Config.measured k s.tick)) (Config.measured (k + 1) s.tick)
  else if k = K.FL_ERASE then s.flEraseCmd w arg
  else if k = K.FL_VERIFY then s.flVerifyCmd w arg
  else s.deny RC.noObject

/-- Execute a command of the dictionary; TBL_PUT, which writes a row, is executed by `execute`. -/
def State.runCmd (s : State) (w : Who) (k arg : Nat) : CmdRes :=
  if keyIndex k < 0x5000 then s.runLow w k arg else s.runHigh w k arg

/-! ## Reading (R515, R516, R533) -/

/-- What a read finds: result, bytes of its value over WOP, and the value. -/
abbrev Found := Nat × Nat × Nat

/-- The bytes of a value over WOP (R516). -/
def OType.wopBytes : OType → Nat
  | .time92 => 16
  | .cmd _ => 56
  | _ => 8

/-- A number of bytes as the number its big-endian spelling names. -/
def wopText (l : List Byte) : Nat × Nat := (l.length, ofBe l)

/-- The command record, seven words, as a number with word 0 in its low bits (R534). -/
def State.cmdRecord (s : State) (k : Nat) : Nat := ((List.range 7).map (fun w => s.cmdWord k w * 2 ^ (64 * w))).foldl (· + ·) 0

/-- An address that exists for the requester: in the boot ROM only some do (R598). -/
def State.hidden (s : State) (k : Nat) : Bool := s.bootRom && !bootRomReach k

/-- Subindex 0x00 of an index (R515); the boot ROM holds few objects (R598). -/
def State.readCount (s : State) (i : Nat) : Nat :=
  if s.bootRom then (if i = 0x1000 ∨ i = 0x2000 then highestSub i else if i = 0xB000 then keySub K.FL_STATE else 0) else highestSub i

/-- The object read at an address, as a word of BAR0 has it (R516): result and value. -/
def State.readWord (s : State) (k : Nat) : Nat × Nat :=
  if 0xF000 ≤ keyIndex k then (RC.noObject, 0)
  else if keySub k = 0 then (RC.ok, s.readCount (keyIndex k))
  else if s.hidden k then (RC.noObject, 0)
  else match objAt (keyIndex k) (keySub k) with
    | none => (RC.noObject, 0)
    | some d => match d.ty with
      | .str => (RC.ok, (s.content k).length)
      | .blob => (RC.ok, (s.content k).length)
      | .tbl rows bytes => (RC.ok, rows * 2 ^ 32 + bytes)
      | .cmd _ => (RC.ok, s.g k)
      | _ => (RC.ok, s.look k)

/-- The object read at an address over WOP (R543). A table is read by its rows only. -/
def State.readWop (s : State) (k : Nat) : Found :=
  let r := s.readWord k
  if r.1 ≠ RC.ok then (r.1, 0, 0)
  else match objAt (keyIndex k) (keySub k) with
    | none => (r.1, 8, r.2)
    | some d => match d.ty with
      | .str => (r.1, wopText (s.content k))
      | .blob => (r.1, wopText (s.content k))
      | .tbl _ _ => (RC.access, 0, 0)
      | .cmd _ => (r.1, 56, s.cmdRecord k)
      | ty => (r.1, ty.wopBytes, r.2)

/-- A row of a table (R517): result, bytes, value. -/
def State.readRow (s : State) (k row : Nat) : Found :=
  if 0xF000 ≤ keyIndex k ∨ s.hidden k then (RC.noObject, 0, 0)
  else match objAt (keyIndex k) (keySub k) with
    | none => (if keySub k = 0 then RC.access else RC.noObject, 0, 0)
    | some d => match d.ty with
      | .tbl rows bytes => if row < rows then (RC.ok, bytes, s.look (atRow k row)) else (RC.access, 0, 0)
      | _ => (RC.access, 0, 0)

/-- Bytes of a STR or BLOB (R543), as far as it has them. -/
def State.readBytes (s : State) (k off cnt : Nat) : Found :=
  if 0xF000 ≤ keyIndex k ∨ s.hidden k then (RC.noObject, 0, 0)
  else match objAt (keyIndex k) (keySub k) with
    | none => (if keySub k = 0 then RC.access else RC.noObject, 0, 0)
    | some d => match d.ty with
      | .str => (RC.ok, wopText (((s.content k).drop off).take cnt))
      | .blob => (RC.ok, wopText (((s.content k).drop off).take cnt))
      | _ => (RC.access, 0, 0)

/-- The port row that a selection latches (R540). -/
def State.selected16 (s : State) (sel : Nat) : Nat :=
  let k := selObj sel
  let row := selRow sel
  if 0xF000 ≤ keyIndex k ∨ s.hidden k then 0
  else match objAt (keyIndex k) (keySub k) with
    | none => 0
    | some d => match d.ty with
      | .tbl rows _ => if row < rows then s.look (atRow k row) else 0
      | .str => ofLe (((s.content k).drop (128 * row)).take 128)
      | .blob => ofLe (((s.content k).drop (128 * row)).take 128)
      | .cmd _ => if row = 0 then s.cmdRecord k else 0
      | _ => 0

/-! ## Writing (R517, R529, R537, R540) -/

/-- The objects of a spare's channel block that read the channel it covers (R70). -/
def spareReads (k : Nat) : Bool :=
  let i := keyIndex k
  let c := (i - 0x5000) / 0x20
  let x := (i - 0x5000) % 0x20
  decide (0x5000 ≤ i ∧ i < 0x5900 ∧ 64 ≤ c) && (x == 0 || (2 ≤ x && x ≤ 6))

/-- The object that a write reaches, or why it is refused before anything else is asked. -/
def State.writeTarget (s : State) (k : Nat) : Except Nat ObjDef :=
  if 0xF000 ≤ keyIndex k then .error RC.access
  else if keySub k = 0 then .error RC.access
  else if s.hidden k then .error RC.noObject
  else match objAt (keyIndex k) (keySub k) with
    | none => .error RC.noObject
    | some d => if d.acc = .ro ∨ spareReads k then .error RC.access else .ok d

/-- The privilege a write needs (R522). -/
def writeNeed (k : Nat) (a : Acc) : Nat := if keyIndex k = 0xC000 then 3 else if a = .rws then 2 else 1

/-- A write of TBL_SEL latches the port row (R540). -/
def State.selWrite (s : State) (v : Nat) : CmdRes :=
  let v := clearFields v [(63, 56)]
  let r := s.selected16 v
  ((List.range 16).foldl (fun (s : State) w => s.p (K.TBL_WORD w) (r / 2 ^ (64 * w) % 2 ^ 64)) (s.p K.TBL_SEL v)).done

/-- A write of an RW or RWI object, in force at once (R517). -/
def State.writeNow (s : State) (w : Who) (k v : Nat) : CmdRes :=
  let i := keyIndex k
  let sub := keySub k
  if 0x6010 ≤ i ∧ i < 0x6018 then s.cmpTailWrite (i - 0x6010) v
  else if i = 0x7000 then
    (if 0x50 ≤ sub then s.urgWrite (sub - 0x50) v
     else if sub < 0x20 then (if 15 < v then s.deny RC.range else ((s.p k v).shadowDirty).done)
     else if v < 1 ∨ 1023 < v then s.deny RC.range else ((s.p k v).shadowDirty).done)
  else if k = K.BAR0_SESSION then (if 7 < v ∧ v ≠ 0xFF then s.deny RC.range else ({ s.p k v with barHold := none } : State).done)
  else if k = K.TBL_SEL then s.selWrite v
  else if i = 0x2001 then (s.p k v).done
  else if 0x2020 ≤ i ∧ i < 0x2028 then
    (let r := s.sessRefusal w (i - 0x2020)
     if r ≠ 0 then s.deny r else if v < 1000 ∨ 1000000 < v then s.deny RC.range else (s.p k v).done)
  else if k = K.FL_TARGET then (if 1 < v then s.deny RC.range else (s.p k v).done)
  else if i = 0xB000 then
    (let q := (sub - 0x40) / 16
     s.ringWrite k (s.ringSize q (if sub % 16 = 5 then 2 else if sub % 16 = 7 then 1 else 0)) v)
  else (s.p k v).done

/-- A write of a row of an RWI table. -/
def State.writeRowNow (s : State) (k row v : Nat) : CmdRes :=
  if k = K.FL_DATA then s.flData row v else (s.p (atRow k row) v).done

/-- A value is written for a requester: at once, or staged in a session; `row` for a row of a table. -/
def State.writeFit (s : State) (w : Who) (sess : Nat) (d : ObjDef) (k : Nat) (row : Option Nat) (v : Nat) : CmdRes :=
  match fitValue k d.ty v with
  | .error c => s.deny c
  | .ok v =>
    if d.acc = .rws then
      (let r := s.sessRefusal w sess
       if r ≠ 0 then s.deny r else s.stage sess (atRow k (row.getD 0)) v)
    else match row with
      | some r => s.writeRowNow k r v
      | none => s.writeNow w k v

/-- The write of a row (R517, R540, R543). -/
def State.writeRow (s : State) (w : Who) (sess k row v : Nat) : CmdRes :=
  match s.writeTarget k with
  | .error c => s.deny c
  | .ok d =>
    match d.ty with
    | .tbl rows _ =>
      if s.privOf w < writeNeed k d.acc then s.deny RC.privilege
      else if rows ≤ row then s.deny RC.access
      else s.writeFit w sess d k (some row) v
    | _ => s.deny RC.access

/-- TBL_PUT (R540): the port row, cut to the table's width, is written as the selected row in the BAR0 session. -/
def State.tblPutCmd (s : State) (w : Who) (arg : Nat) : CmdRes :=
  s.call w K.TBL_PUT arg 1 (fun s =>
    let sel := s.g K.TBL_SEL
    let k := selObj sel
    let width := match objAt (keyIndex k) (keySub k) with
      | some d => (match d.ty with | .tbl _ b => b | _ => 128)
      | none => 128
    if !s.bar0Live then s.deny RC.noSession
    else s.writeRow (if w.transport = 1 ∧ w.principal = 0 then s.bar0Me else w) (s.g K.BAR0_SESSION) k (selRow sel) (s.portRow % 2 ^ (8 * width)))

/-- Execute a command of the dictionary for a requester. -/
def State.execute (s : State) (w : Who) (k arg : Nat) : CmdRes := if k = K.TBL_PUT then s.tblPutCmd w arg else s.runCmd w k arg

/-- The write of an object (R517), in a session where it is staged. -/
def State.writeObj (s : State) (w : Who) (sess k v : Nat) : CmdRes :=
  match s.writeTarget k with
  | .error c => s.deny c
  | .ok d =>
    match d.ty with
    | .tbl _ _ => s.deny RC.access
    | .cmd _ =>
      (match fitValue k d.ty v with
       | .error c => s.deny c
       | .ok v => s.execute w k v)
    | _ =>
      if s.privOf w < writeNeed k d.acc then s.deny RC.privilege else s.writeFit w sess d k none v

end Sys2Proof.Machine
end

