-- ==== Sys2Proof/Machine/Wop.lean ====
section
/-! DEFINITION. The Wearok Object Protocol (R541 to R550): operations, messages and their transaction slots, their bytes, the sealed
channels and their handshake. -/

namespace Sys2Proof.Machine

/-! ## Operations (R543) -/

/-- The result of an operation: its part of the response, and the state it leaves. -/
structure OpRes where
  resp : OpResp
  st   : State

/-- A read operation. -/
def State.opRead (s : State) (r : Found) : OpRes := ⟨⟨r.1, r.2.1, r.2.2⟩, s⟩
/-- An operation that changes state, with n bytes of response data. -/
def CmdRes.op (r : CmdRes) (n : Nat) : OpRes := ⟨⟨r.code, n, r.value⟩, r.st⟩

/-- READ with STAGED: the caller's staged value when one is held (R529). -/
def State.readStaged (s : State) (w : Who) (k a : Nat) : Found :=
  match (s.sessOf k).staged.find? (fun x => x.1 == a), objAt (keyIndex a) (keySub a) with
  | some x, some d => if s.sessRefusal w k = 0 then (RC.ok, d.ty.wopBytes, x.2) else s.readWop a
  | _, _ => s.readWop a

/-- An address that an operation names. -/
def opKey (idx sub : Nat) : Nat := key (idx % 65536) (sub % 256) 0

/-- A write of an object; a command answers with its VALUE. -/
def State.opWrite (s : State) (w : Who) (k idx sub v : Nat) : OpRes :=
  let a := opKey idx sub
  (s.writeObj w k a v).op (match objAt (keyIndex a) (keySub a) with | some d => (match d.ty with | .cmd _ => 8 | _ => 0) | none => 0)

/-- OPEN: the session and its SESS_GEN (R525); it needs OPERATE (R522). -/
def State.opOpen (s : State) (w : Who) (nonce lease : Nat) : OpRes :=
  if s.privOf w < 1 then (s.deny RC.privilege).op 0
  else
    let r := s.openSess w (some nonce) lease
    if r.code = RC.ok then ⟨⟨r.code, 2, r.value * 256 + r.st.g (K.SESS_GEN r.value)⟩, r.st⟩ else r.op 0

/-- RENEW (R527). -/
def State.renewIn (s : State) (w : Who) (k : Nat) : CmdRes :=
  let r := s.sessRefusal w k
  if r ≠ 0 then s.deny r else (s.renewSess k).done

/-- One operation of a message in session k (255 for none). -/
def State.runOp (s : State) (w : Who) (k : Nat) (o : WopOp) : OpRes :=
  match o with
  | .read idx sub st => s.opRead (if st then s.readStaged w k (opKey idx sub) else s.readWop (opKey idx sub))
  | .write idx sub v => s.opWrite w k idx sub v
  | .readRow idx sub row => s.opRead (s.readRow (opKey idx sub) row)
  | .writeRow idx sub row v => (s.writeRow w k (opKey idx sub) row v).op 0
  | .readBytes idx sub off cnt => s.opRead (s.readBytes (opKey idx sub) off cnt)
  | .openS nonce lease => s.opOpen w nonce lease
  | .close => (s.closeIn w k).op 0
  | .commit fn => (s.commitIn w k fn).op 8
  | .discard => (s.discardIn w k).op 0
  | .renew => (s.renewIn w k).op 0

/-- The operations that a message without a session may carry (R544). -/
def opFree : WopOp → Bool
  | .read .. => true
  | .readRow .. => true
  | .readBytes .. => true
  | .openS .. => true
  | _ => false

/-- A failed result. -/
def opFailed (code : Nat) : Bool := code != RC.ok && code != RC.accepted

/-- The operations of a message in order, with STOP_ON_ERROR (R544). -/
def runOps (w : Who) (k : Nat) (stop : Bool) : List WopOp → Bool → State → List OpResp × State
  | [], _, s => ([], s)
  | o :: l, bad, s =>
    if bad && stop then
      (let r := runOps w k stop l true s
       (⟨RC.skipped, 0, 0⟩ :: r.1, r.2))
    else
      let x := s.runOp w k o
      let r := runOps w k stop l (bad || opFailed x.resp.result) x.st
      (x.resp :: r.1, r.2)

/-! ## Messages (R544, R545) -/

/-- A response with a message result and no operations. -/
def answerTo (m : WopMsg) (code : Nat) : WopResp :=
  { session := m.session, sessGen := m.sessGen, txn := m.txn, txnGen := m.txnGen, result := code }

/-- A message: the response, or none where it is discarded. -/
def State.message (s : State) (w : Who) (m : WopMsg) : Option WopResp × State :=
  let k := m.session
  if k = 255 then
    if m.ops.all opFree then
      (let r := runOps w 255 m.stopOnError m.ops false s
       (some { answerTo m RC.ok with ops := r.1 }, r.2))
    else (some (answerTo m RC.malformed), s)
  else if 8 ≤ k then (some (answerTo m RC.noSession), s)
  else if s.g (K.SESS_OWNER k) ≠ identityOf w then (some (answerTo m RC.owner), s)
  else
    let slot := m.txn % 64
    let t := s.txnOf k slot
    if m.sessGen ≠ s.g (K.SESS_GEN k) then (none, s.inc (K.SESS_STALE k))
    else if m.txnGen = t.gen then
      (some t.resp, (if s.sessLive k then s.renewSess k else s).setTxn k slot { t with sent := some s.tick })
    else if m.txnGen ≠ (t.gen + 1) % 256 then (none, s.inc (K.SESS_STALE k))
    else if !s.sessLive k then (some (answerTo m RC.noSession), s)
    else if t.sent.any (fun x => decide (s.tick < x + s.retireFrames)) then (some (answerTo m RC.quarantine), s.renewSess k)
    else
      let r := runOps w k m.stopOnError m.ops false (s.renewSess k)
      let a := { answerTo m RC.ok with ops := r.1 }
      (some a, r.2.setTxn k slot { gen := m.txnGen, sent := some s.tick, resp := a })

/-! ## The bytes of messages (R541 to R543) -/

/-- The tables whose rows are laid out in bytes (R540). -/
def byteRows (k : Nat) : Bool := [K.WOP_TRUST, K.PRINCIPALS, K.ER_HISTORY, K.FL_DATA, K.ETH_IPV6].contains (atObj k)

/-- Words 0 to n − 1 of a number, each big-endian. -/
def wordBytes (n v : Nat) : List Byte := (List.range n).flatMap (fun w => beBytes 8 (v / 2 ^ (64 * w)))

/-- The n bytes of a row: as laid out in bytes, else its words in order, or its one value. -/
def rowBytes (k n v : Nat) : List Byte := if byteRows k then leBytes n v else if n ≤ 8 then beBytes n v else wordBytes (n / 8) v

/-- A row from its bytes. -/
def ofRowBytes (k : Nat) (l : List Byte) : Nat :=
  if byteRows k then ofLe l
  else if l.length ≤ 8 then ofBe l
  else ((List.range (l.length / 8)).map (fun w => ofBe ((l.drop (8 * w)).take 8) * 2 ^ (64 * w))).foldl (· + ·) 0

/-- The operation with an opcode, OFLAGS, INDEX, SUB and data; none where they make none. -/
def readOp (code fl idx sub : Nat) (d : List Byte) : Option WopOp :=
  let n := d.length
  if code = 1 ∧ n = 0 then some (.read idx sub (bit fl 0))
  else if code = 2 ∧ (n = 8 ∨ n = 16) then some (.write idx sub (ofBe d))
  else if code = 3 ∧ n = 4 then some (.readRow idx sub (ofBe d))
  else if code = 4 ∧ 5 ≤ n then some (.writeRow idx sub (ofBe (d.take 4)) (ofRowBytes (opKey idx sub) (d.drop 4)))
  else if code = 5 ∧ n = 6 then some (.readBytes idx sub (ofBe (d.take 4)) (ofBe (d.drop 4)))
  else if code = 6 ∧ n = 8 then some (.openS (ofBe (d.take 4)) (ofBe (d.drop 4)))
  else if code = 7 ∧ n = 0 then some .close
  else if code = 8 ∧ n = 8 then some (.commit (ofBe d))
  else if code = 9 ∧ n = 0 then some .discard
  else if code = 10 ∧ n = 0 then some .renew
  else none

/-- Operations from the bytes after the header: so many of them, and nothing more. -/
def readOps : Nat → List Byte → Option (List WopOp)
  | 0, l => if l.isEmpty then some [] else none
  | n + 1, l =>
    let dlen := field l 6 7
    let pad := 8 * ceilDiv dlen 8
    if l.length < 8 + pad then none
    else match readOp (field l 0 0) (field l 1 1) (field l 2 3) (field l 4 4) ((l.drop 8).take dlen), readOps n (l.drop (8 + pad)) with
      | some o, some r => some (o :: r)
      | _, _ => none

/-- A message as its header says it, without operations. -/
def readHeader (l : List Byte) : WopMsg :=
  { session := field l 2 2, sessGen := field l 3 3, txn := field l 4 4 % 64, txnGen := field l 5 5, stopOnError := bit (field l 6 6) 1, ops := [] }

/-- An unsealed request from its bytes; none where they spell none (R541). -/
def readMsg (l : List Byte) : Option WopMsg :=
  if field l 0 0 = 1 ∧ field l 1 1 = 1 ∧ bit (field l 6 6) 0 = false ∧ field l 8 9 = l.length then
    (readOps (field l 10 10) (l.drop 16)).map (fun ops => { readHeader l with ops := ops })
  else none

/-- BOOT_EPOCH of a message (R541). -/
def bootEpochOf (l : List Byte) : Nat := field l 12 15

/-- The data of one operation of a response (R543). -/
def respData (o : WopOp) (r : OpResp) : List Byte :=
  match o with
  | .read idx sub _ =>
    (match objAt (idx % 65536) (sub % 256) with
     | some d => (match d.ty with | .cmd _ => wordBytes (r.len / 8) r.value | _ => beBytes r.len r.value)
     | none => beBytes r.len r.value)
  | .readRow idx sub _ => rowBytes (opKey idx sub) r.len r.value
  | _ => beBytes r.len r.value

/-- OPCODE, INDEX and SUB of an operation. -/
def opHead : WopOp → Nat × Nat × Nat
  | .read idx sub _ => (1, idx, sub)
  | .write idx sub _ => (2, idx, sub)
  | .readRow idx sub _ => (3, idx, sub)
  | .writeRow idx sub _ _ => (4, idx, sub)
  | .readBytes idx sub _ _ => (5, idx, sub)
  | .openS .. => (6, 0, 0)
  | .close => (7, 0, 0)
  | .commit _ => (8, 0, 0)
  | .discard => (9, 0, 0)
  | .renew => (10, 0, 0)

/-- One operation of a response: its header and its data, padded with zeros (R542). -/
def opBytes (o : WopOp) (r : OpResp) : List Byte :=
  let h := opHead o
  beBytes 1 h.1 ++ beBytes 1 0 ++ beBytes 2 h.2.1 ++ beBytes 1 h.2.2 ++ beBytes 1 r.result ++ beBytes 2 r.len ++ respData o r
    ++ beBytes (8 * ceilDiv r.len 8 - r.len) 0

/-- The bytes of a response to a message (R541, R543). -/
def respBytes (m : WopMsg) (epoch : Nat) (a : WopResp) : List Byte :=
  let body := (m.ops.zip a.ops).flatMap (fun x => opBytes x.1 x.2)
  beBytes 1 1 ++ beBytes 1 2 ++ beBytes 1 a.session ++ beBytes 1 a.sessGen ++ beBytes 1 a.txn ++ beBytes 1 a.txnGen ++ beBytes 1 0
    ++ beBytes 1 a.result ++ beBytes 2 (16 + body.length) ++ beBytes 1 a.ops.length ++ beBytes 1 0 ++ beBytes 4 epoch ++ body

/-- A request in its bytes: the response with its bytes, or none where it is discarded. One that spells no request answers MALFORMED; one
shorter than a header answers nothing. -/
def State.request (s : State) (w : Who) (l : List Byte) : Option (WopResp × List Byte) × State :=
  if l.length < 16 then (none, s)
  else
    let m := readMsg l
    let r := match m with
      | some m => s.message w m
      | none => (some (answerTo (readHeader l) RC.malformed), s)
    (r.1.map (fun a => (a, respBytes (m.getD (readHeader l)) w.bootEpoch a)), r.2)

/-- A message of a requester is taken and answered. -/
def State.takeMessage (s : State) (w : Who) (l : List Byte) : State :=
  let r := s.request w l
  match r.1 with
  | some a => r.2.emit (.wop w a.1 a.2)
  | none => r.2

/-- WOP_MESSAGE (R544). -/
def execWopMessage (who : Who) (bytes : List Byte) : State → Host.Outcome State Fault Refusal :=
  run (fun s => s.takeMessage { who with bootEpoch := bootEpochOf bytes } bytes)

/-- One operation by itself, in a session of the requester's or, where it may, in none (R544). -/
def State.single (s : State) (w : Who) (k : Nat) (o : WopOp) : State :=
  let x : OpRes :=
    if k = 255 then (if opFree o then s.runOp w k o else (s.deny RC.malformed).op 0)
    else
      let r := s.sessRefusal w k
      if r ≠ 0 then (s.deny r).op 0 else (s.renewSess k).runOp w k o
  x.st.emit (.result x.resp.result x.resp.value)

/-- WOP_READ (R543). -/
def execWopRead (who : Who) (k idx sub : Nat) (staged : Bool) : State → Host.Outcome State Fault Refusal :=
  run (fun s => s.single who k (.read idx sub staged))

/-- WOP_WRITE (R543). -/
def execWopWrite (who : Who) (k idx sub v : Nat) : State → Host.Outcome State Fault Refusal :=
  run (fun s => s.single who k (.write idx sub v))

/-- WOP_READ_ROW (R543). -/
def execWopReadRow (who : Who) (k idx sub row : Nat) : State → Host.Outcome State Fault Refusal :=
  run (fun s => s.single who k (.readRow idx sub row))

/-- WOP_WRITE_ROW (R543). -/
def execWopWriteRow (who : Who) (k idx sub row v : Nat) : State → Host.Outcome State Fault Refusal :=
  run (fun s => s.single who k (.writeRow idx sub row v))

/-- WOP_READ_BYTES (R543). -/
def execWopReadBytes (who : Who) (k idx sub off cnt : Nat) : State → Host.Outcome State Fault Refusal :=
  run (fun s => s.single who k (.readBytes idx sub off cnt))

/-- WOP_OPEN (R525). -/
def execWopOpen (who : Who) (nonce lease : Nat) : State → Host.Outcome State Fault Refusal :=
  run (fun s => s.single who 255 (.openS nonce lease))

/-- WOP_CLOSE (R528). -/
def execWopClose (who : Who) (k : Nat) : State → Host.Outcome State Fault Refusal := run (fun s => s.single who k .close)

/-- WOP_COMMIT (R530). -/
def execWopCommit (who : Who) (k fn : Nat) : State → Host.Outcome State Fault Refusal := run (fun s => s.single who k (.commit fn))

/-- WOP_DISCARD (R543). -/
def execWopDiscard (who : Who) (k : Nat) : State → Host.Outcome State Fault Refusal := run (fun s => s.single who k .discard)

/-- WOP_RENEW (R527). -/
def execWopRenew (who : Who) (k : Nat) : State → Host.Outcome State Fault Refusal := run (fun s => s.single who k .renew)

/-! ## Channels (R546, R548 to R550) -/

/-- A handshake fails (R548): AUTH, WOP_AUTH_FAILS, EV108. -/
def State.shakeFails (s : State) (transport peer : Nat) : State :=
  let s : State := { s with shakes := s.shakes.filter (fun h => !(h.transport == transport && h.peer == peer)) }
  ((s.inc K.WOP_AUTH_FAILS).raiseVal 108 transport).emit (.handshake transport peer RC.auth [])

/-- HELLO: the device answers with its nonce, key, certificate and signature. -/
def State.shakeHello (s : State) (transport peer : Nat) (body : List Byte) : State :=
  if body.length ≤ 64 then s.shakeFails transport peer
  else
    let reply := Config.handshakeReply body
    let old := s.shakes.filter (fun h => !(h.transport == transport && h.peer == peer))
    let t : State := { s with shakes := old ++ [{ transport := transport, peer := peer, hello := body, reply := reply }] }
    t.emit (.handshake transport peer RC.ok reply)

/-- WOP_HANDSHAKE_HELLO (R548). -/
def execWopHandshakeHello (transport peer : Nat) (body : List Byte) : State → Host.Outcome State Fault Refusal :=
  run (fun s => if transport = 2 ∨ transport = 3 then s.shakeHello transport peer body else s)

/-- The row of PRINCIPALS that a certificate's key matches. -/
def State.principalOf (s : State) (cert : List Byte) : Option Nat :=
  (List.range 64).find? (fun r =>
    let row := s.g (atRow K.PRINCIPALS r)
    (principalRow row).2 && row % 2 ^ 256 == Config.sha256 (Config.subjectKey cert) % 2 ^ 256)

/-- The certificate validates against an issuer in WOP_TRUST; its period counts only while TS_STATE is ALIGNED. -/
def State.certGood (s : State) (cert : List Byte) : Bool :=
  (List.range 8).any (fun r => s.g (atRow K.WOP_TRUST r) != 0 && Config.certificateValid cert (s.g (atRow K.WOP_TRUST r))) &&
    (!s.aligned || Config.certificateCurrent cert (s.frameStart / qSecond))

/-- The number of a new channel: the lowest free one, or the one idle longest (R550). -/
def State.newChan (s : State) : Nat :=
  match (List.range 16).find? (fun i => (Sp.find s.chans i).isNone) with
  | some i => i
  | none => (s.chans.foldl (fun (b : Nat × Nat) p => if p.2.lastMsg < b.2 then (p.1, p.2.lastMsg) else b) (0, ((Sp.find s.chans 0).getD {}).lastMsg)).1

/-- FINISH: the signature over both bodies is checked, and the channel opens. -/
def State.shakeFinish (s : State) (transport peer : Nat) (body : List Byte) : State :=
  match s.shakes.find? (fun h => h.transport == transport && h.peer == peer) with
  | none => s.shakeFails transport peer
  | some h =>
    let cert := h.hello.drop 64
    let both := h.hello ++ h.reply
    let good := Config.ed25519Verifies (Config.subjectKey cert) (leBytes 32 (Config.sha256 both)) (body.take 64) && s.certGood cert
    match good, s.principalOf cert with
    | true, some row =>
      let all := both ++ body
      let c : Chan := { transport := transport, peer := peer, row := row, keyIn := Config.channelKey all false, keyOut := Config.channelKey all true,
                        lastMsg := s.tick, logPos := s.g K.FC_LOG_HEAD }
      let keep := s.shakes.filter (fun x => !(x.transport == transport && x.peer == peer))
      let t : State := { s with shakes := keep, chans := Sp.ins s.chans s.newChan c }
      t.emit (.handshake transport peer RC.ok [])
    | _, _ => s.shakeFails transport peer

/-- WOP_HANDSHAKE_FINISH (R548). -/
def execWopHandshakeFinish (transport peer : Nat) (body : List Byte) : State → Host.Outcome State Fault Refusal :=
  run (fun s => if transport = 2 ∨ transport = 3 then s.shakeFinish transport peer body else s)

/-- A channel has gone WOP_IDLE seconds without a valid message (R550). -/
def State.chanIdle (s : State) (c : Chan) : Bool := c.lastMsg + s.g K.WOP_IDLE * framesPerSecond ≤ s.tick

/-- WOP_CHANNEL_IDLE_EXPIRY (R550). -/
def execWopChannelIdleExpiry (ch : Nat) : State → Host.Outcome State Fault Refusal :=
  run (fun s => match Sp.find s.chans ch with
    | some c => if s.chanIdle c then { s with chans := Sp.del s.chans ch } else s
    | none => s)

/-- The channels idle too long, at a boundary. -/
def State.idleChans (s : State) : State := { s with chans := s.chans.filter (fun p => !s.chanIdle p.2) }

/-- A COUNTER has reached 2³² (R550). -/
def Chan.spent (c : Chan) : Bool := decide (2 ^ 32 ≤ c.ctrIn) || decide (2 ^ 32 ≤ c.ctrOut)

/-- Write a channel back; a spent one ends. -/
def State.keepChan (s : State) (ch : Nat) (c : Chan) : State := { s with chans := if c.spent then Sp.del s.chans ch else Sp.ins s.chans ch c }

/-- A message that arrives on a channel of a transport (R546, R549): it must be sealed, its tag must hold and its COUNTER must be new.
`who` makes the requester from the channel's row; `reply` sends the response. -/
def State.sealedMessage (s : State) (transport ch counter : Nat) (isSealed : Bool) (bytes : List Byte) (who : Nat → Who) (m : WopMsg)
    (reply : State → Who → WopResp → State) : State :=
  match Sp.find s.chans ch with
  | none => s.inc K.WOP_REPLAYS
  | some c =>
    if !isSealed ∨ c.transport ≠ transport ∨ counter ≤ c.ctrIn ∨ !Config.sealValid c.keyIn counter bytes then s.inc K.WOP_REPLAYS
    else
      let s := s.keepChan ch { c with ctrIn := counter, lastMsg := s.tick }
      let r := s.message (who c.row) m
      match r.1 with
      | none => r.2
      | some a =>
        let t := match Sp.find r.2.chans ch with
          | some d => r.2.keepChan ch { d with ctrOut := d.ctrOut + 1 }
          | none => r.2
        reply t (who c.row) a

end Sys2Proof.Machine
end

