-- ==== Sys2Proof/Machine/Bar0.lean ====
section
/-! DEFINITION. The dictionary as BAR0 and SMBus reach it (R55, R536 to R540, R547): writes with their outcome, the halves of a wide
value, the BAR0 session, and SMBus selections. -/

namespace Sys2Proof.Machine

/-- An object of two BAR0 words (R55): a TIME92, or a command with a 128-bit argument. -/
def wideAt (k : Nat) : Bool :=
  match objAt (keyIndex k) (keySub k) with
  | some d => (match d.ty with | .time92 => true | .cmd true => true | _ => false)
  | none => false

/-- An address is the upper word of a wide object. -/
def upperOf (k : Nat) : Bool := 1 < keySub k && (objAt (keyIndex k) (keySub k)).isNone && wideAt (k - 65536)

/-- Every BAR0 access renews the session that BAR0_SESSION names (R527). -/
def State.bar0Renew (s : State) : State := if s.bar0Live then s.renewSess (s.g K.BAR0_SESSION) else s

/-- The write of one 64-bit word. A write of the upper word fills the hold; a write of the lower word of a wide object applies both. -/
def State.bar0Put (s : State) (k v : Nat) : CmdRes :=
  let held := s.barHold
  let s : State := { s with barHold := none }
  let j := s.g K.BAR0_SESSION
  if k = K.BAR0_OPEN then s.writeObj (bar0Who (v / 2 ^ 32)) j k v
  else if k = K.BAR0_SESSION then s.writeObj s.bar0Me j k v
  else if !s.bar0Live then s.deny RC.noSession
  else if upperOf k then
    (match s.writeTarget (k - 65536) with
     | .error c => s.deny c
     | .ok _ => ({ s with barHold := some (k - 65536, v) } : State).done)
  else if wideAt k then
    (match s.writeTarget k with
     | .error c => s.deny c
     | .ok _ =>
       match held with
       | some h => if h.1 = k then s.writeObj s.bar0Me j k (h.2 * 2 ^ 64 + v) else s.deny RC.malformed
       | none => s.deny RC.malformed)
  else s.writeObj s.bar0Me j k v

/-- A BAR0 write with its outcome in BAR0_RESULT (R537, R538). -/
def State.bar0Write (s : State) (k v : Nat) : State :=
  let r := s.bar0Renew.bar0Put k (v % 2 ^ 64)
  let t := r.st.p K.BAR0_RESULT (r.code * 2 ^ 56 + keyIndex k * 2 ^ 40 + keySub k * 2 ^ 32 + (s.g K.BAR0_RESULT + 1) % 2 ^ 32)
  t.emit (.result r.code r.value)

/-- A BAR0 write of other than 8 bytes, naturally aligned, is refused (R536). -/
def State.bar0Narrow (s : State) (k : Nat) : State :=
  let t := (({ s.bar0Renew with barHold := none } : State)).p K.BAR0_RESULT
    (RC.malformed * 2 ^ 56 + keyIndex k * 2 ^ 40 + keySub k * 2 ^ 32 + (s.g K.BAR0_RESULT + 1) % 2 ^ 32)
  t.emit (.result RC.malformed 0)

/-- OBJECT_WRITE (R517), at a byte offset of BAR0 (R536). -/
def execObjectWrite (off len v : Nat) : State → Host.Outcome State Fault Refusal :=
  run (fun s =>
    let k := opKey (off / 2048) (off / 8)
    if len = 8 ∧ off % 8 = 0 then s.bar0Write k v else s.bar0Narrow k)

/-- The value of a wide object as two BAR0 words, and the result of reading it (R55). -/
def State.readWide (s : State) (k : Nat) : Nat × Nat :=
  let r := s.readWord k
  match objAt (keyIndex k) (keySub k) with
  | some d => (match d.ty with | .cmd _ => (r.1, s.g k + s.g (k + 1) * 2 ^ 64) | _ => r)
  | none => r

/-- The read of the word of s fills the latch with the word of s + 1; the read of the word of s + 1 of an object returns the latched half
when the latch is tagged with it, else the present upper half (R55). -/
def State.bar0Read (s : State) (k : Nat) : State :=
  if upperOf k then
    let r := s.readWide (k - 65536)
    if r.1 ≠ RC.ok then s.emit (.result r.1 0)
    else match s.barLatch with
      | some l => s.emit (.result RC.ok (if l.1 = k - 65536 then l.2 else r.2 / 2 ^ 64))
      | none => s.emit (.result RC.ok (r.2 / 2 ^ 64))
  else
    let r := s.readWide k
    let s : State := if wideAt k && r.1 == RC.ok then { s with barLatch := some (k, r.2 / 2 ^ 64) } else s
    s.emit (.result r.1 (r.2 % 2 ^ 64))

/-- BAR0_TIME92_READ_LOW (R55): the read of a BAR0 word, of the word of s or of the word of s + 1. -/
def execBar0Time92ReadLow (idx sub : Nat) : State → Host.Outcome State Fault Refusal :=
  run (fun s => s.bar0Renew.bar0Read (opKey idx sub))

/-- BAR0_TIME92_WRITE_HIGH (R55): the write of the word after that of the object named. -/
def execBar0Time92WriteHigh (idx sub v : Nat) : State → Host.Outcome State Fault Refusal :=
  run (fun s => s.bar0Write (opKey idx (sub + 1)) v)

/-- BAR0_TIME92_WRITE_LOW (R55). -/
def execBar0Time92WriteLow (idx sub v : Nat) : State → Host.Outcome State Fault Refusal :=
  run (fun s => s.bar0Write (opKey idx sub) v)

/-- BAR0_SESSION_WRITE (R537). -/
def execBar0SessionWrite (v : Nat) : State → Host.Outcome State Fault Refusal := run (fun s => s.bar0Write K.BAR0_SESSION v)

/-- BAR0_OPEN (R525). -/
def execBar0Open (arg : Nat) : State → Host.Outcome State Fault Refusal := run (fun s => s.bar0Write K.BAR0_OPEN arg)

/-- TBL_SEL_WRITE (R540). -/
def execTblSelWrite (v : Nat) : State → Host.Outcome State Fault Refusal := run (fun s => s.bar0Write K.TBL_SEL v)

/-- TBL_PUT (R540). -/
def execTblPut : State → Host.Outcome State Fault Refusal := run (fun s => s.bar0Write K.TBL_PUT 0)

/-! ## SMBus (R547) -/

/-- A type that SMBus reads. -/
def OType.smb : OType → Bool
  | .bool => true
  | .u8 => true
  | .u16 => true
  | .u32 => true
  | .u64 => true
  | .i64 => true
  | .dur64 => true
  | .off32 => true
  | _ => false

/-- SMB_SELECT (R547). -/
def execSmbSelect (idx sub : Nat) (pec : Bool) : State → Host.Outcome State Fault Refusal :=
  run (fun s => if pec then { s with smb := some (idx % 65536 * 256 + sub % 256) } else s)

/-- The result code and value of a Block Read. -/
def State.smbFound (s : State) : Nat × Nat :=
  match s.smb with
  | none => (RC.access, 0)
  | some x =>
    let k := key (x / 256) (x % 256) 0
    if [0x1000, 0x2000, 0x2010, 0x3700, 0x3800, 0x9000, 0xD000].contains (keyIndex k) then
      (match objAt (keyIndex k) (keySub k) with
       | some d => if d.ty.smb then s.readWord k else (RC.access, 0)
       | none => s.readWord k)
    else (RC.access, 0)

/-- SMB_READ (R547): a transaction with a bad PEC is ignored. -/
def execSmbRead (pec : Bool) : State → Host.Outcome State Fault Refusal :=
  run (fun s => if pec then s.emit (.result s.smbFound.1 s.smbFound.2) else s)

end Sys2Proof.Machine
end

