-- ==== Sys2Proof/Machine/Clocks.lean ====
section
/-! DEFINITION. The restart of a UT synthesizer, at which its pads open with their bounds known again (R339, R340, R350, R356, R358). -/

namespace Sys2Proof.Machine

/-- The bound of a pad fed from a UT that has restarted: what it is in the frame that begins, by which the channel is judged (R356, R417). -/
def State.restartBound (s : State) (c : Nat) : State :=
  let k := s.g (K.CH_CORE c)
  let b := if s.g K.DEV_BOUND = unknownBound then unknownBound else s.chBound c k false
  (s.p (K.CH_BOUND c) b).judge c

/-- UT_RESTART (R340, R350 step 4): dividers and modulator restart, the phase is fixed where R340 has a P, and the pads open that may. A
pad still on a substitute is gated off it, and opens at a later boundary that R340 allows. -/
def State.utRestart (s : State) (u : Nat) : State :=
  let h := s.ut u
  let pads := s.clockPads (u + 1)
  let det := (s.phiFrames u).isSome && !s.spread u
  let s := (s.p (K.UT_STATE u) 3).p (K.UT_PHASE_DET u) (b2n det)
  let s := s.setUt u { h with step := 0, fromSub := false, det := det, acc := s.fn % 1250000 * h.num }
  let s := s.each pads (fun s c =>
    let s := s.restartBound c
    if s.gb (K.CLK_SUBST c) then s.fromSubst c s.tick
    else if s.canOpen c then s.openPad c else s)
  if h.fromSub then s.raiseBits 23 (synthBit (u + 1)) else s

/-- UT_RESTART (R340). -/
def execUtRestart (u : Nat) : State → Host.Outcome State Fault Refusal :=
  run (fun s =>
    if (s.ut u).step = 5 ∧ s.phiHere u then s.utRestart u else s)

end Sys2Proof.Machine
end

