-- ==== Sys2Proof/Machine/Transition.lean ====
section
/-! DEFINITION. Mode transitions taking effect (R587 to R591), SAFE (R601 to R603) and the entry to COMPAT (R604, R608). -/

namespace Sys2Proof.Machine

/-- The condition for leaving M2 by M3 (R589): the Spindle locked for 2,500 frames, and a candidate or an accepted request. -/
def State.mayLeave2 (s : State) : Bool := decide (2500 < s.spnFrames) && (!s.candidates.isEmpty || s.req3)

/-- The steps of LOAD are complete and BYP is locked (R589, R595). -/
def State.loadDone (s : State) : Bool := s.host.swept && s.g K.BYP_STATE == 2

/-- The trigger of a pending transition of the Headstock, the Steady Rest or LOAD still holds (R589, R591). -/
def State.triggerHolds (s : State) (p : ModePend) : Bool :=
  if p.rank < 3 then true
  else if s.mode = 1 then s.loadDone
  else if p.target = 3 then s.mayLeave2
  else if p.target = 4 then s.selected.isSome && !s.swOn && (s.mode != 3 || (s.aligned && decide (10 ≤ s.within)))
  else if p.target = 5 then s.swOn
  else if s.mode = 6 then s.selected.isNone
  else s.candidates.isEmpty || !s.forced.isEmpty

/-- What the Headstock and the Steady Rest ask for goes on being asked while its trigger holds (R591); once the condition for leaving M2
holds it has held, in M9, M10 and M11 too (R588). -/
def State.modeAsks (s : State) : State :=
  let m := s.mode
  if m = 1 then (if s.loadDone then s.askMode 2 0 3 else s)
  else if m = 2 then
    (if !s.mayLeave2 then s
     else
       let s : State := { s with m2Left := true }
       if s.req3 then s.askMode 3 1 2 else s.askSteer 3 2)
  else if 9 ≤ m then (if s.mayLeave2 ∧ !s.bootRom then { s with m2Left := true } else s)
  else if (m = 4 ∨ m = 6 ∨ m = 7) ∧ s.swOn ∧ s.selected.isSome then s.askSteer 5 2
  else if (m = 5 ∨ m = 6 ∨ m = 7) ∧ !s.swOn ∧ s.selected.isSome ∧ s.forced.isEmpty then s.askSteer 4 2
  else s

/-- MODE and its objects as a transition takes effect (R553). -/
def State.takeMode (s : State) (target cause : Nat) : State :=
  ({ s with modePend := none }.pAll [(K.MODE_PREV, s.mode), (K.MODE, target), (K.MODE_FN, s.fn), (K.MODE_CAUSE, cause),
    (K.MODE_PENDING, 255), (K.MODE_PENDING_FN, 0)]).inc K.MODE_TRANSITIONS

/-- M10 takes effect (R29, R601): sequencers stop, no source places an edge, pads go to their park levels, clock pads are gated, pending
commits are refused. Entered from M1 it runs the boot ROM with every pad at high impedance (R598). -/
def State.safeEntry (s : State) (old : Nat) : State :=
  if old = 1 then ({ s with bootRom := true }.refuseAll).raiseVal 124 0
  else
    let s := s.haltSeqs
    let s := s.each (List.range 64) (fun s c =>
      let s := s.setCh c { s.ch c with wait := [], burst := none }
      if s.src c = 4 then s.gatePad c s.tick 0 else if s.drives c then s.p (K.PAD_LEVEL c) (s.parkState c) else s)
    ((s.dropEdges (fun _ => true)).refuseAll).raiseVal 124 0

/-- M10 ends (R603). -/
def State.safeExit (s : State) : State := (s.rulesAfresh).placeHere

/-- The COMPAT values that set native ones, as if all had been committed. -/
def State.compatValues (s : State) : List (Nat × Nat) :=
  ([K.CPT_CH_BASE, K.CPT_POLICY] ++ (List.range 8).flatMap (fun r => [K.R_TYPE r, K.R_PRIORITY r, K.R_DELAY_PS r])).map (fun k => (k, s.g k))

/-- M11 takes effect (R604): sequencers stop, the channels outside the mapped 24 park, the native values of R607 are taken. -/
def State.compatEntry (s : State) : State :=
  let s := (s.haltSeqs).p K.ID_PERSONALITY 1
  let base := s.g K.CPT_CH_BASE
  let park := (instances 64 (fun c => c < base || base + 24 ≤ c)).map (fun c => (K.CH_SOURCE c, 0))
  let vals := park ++ s.natives s.compatValues s.tick
  let t := s.pAll vals
  let vals := vals ++ State.typeDefaults s t vals
  (s.pAll vals).applied s vals

/-- What a transition does beside the mode objects: `old` is the mode it left. -/
def State.modeEffects (s : State) (old : Nat) : State :=
  let s := if old = 10 then s.safeExit else if old = 11 then s.p K.ID_PERSONALITY 0 else s
  if s.mode = 10 then s.safeEntry old
  else if s.mode = 11 then s.compatEntry
  else if old = 2 ∧ (s.mode = 3 ∨ s.mode = 8) then
    (let s : State := { s with m2Left := true }
     if s.g K.SPN_STATE = 2 ∧ s.clock = .byp then s.switchBack else s)
  else s

/-- The target of a pending transition as it takes effect: a request to leave M9, M10 or M11 goes to the mode called for then (R588, R589);
M6 or M7 is chosen by the model then (R403). -/
def State.finalTarget (s : State) (p : ModePend) : Nat :=
  if 9 ≤ s.mode ∧ p.target < 9 then s.calledFor
  else if (p.target = 6 ∨ p.target = 7) ∧ s.mode ≠ 6 then s.coastMode
  else p.target

/-- The pending transition at its boundary (R40, R591). -/
def State.transition (s : State) : State :=
  match s.modePend with
  | none => s
  | some p =>
    if s.tick < p.due then s
    else if !s.triggerHolds p then s.withdrawMode
    else (s.takeMode (s.finalTarget p) p.cause).modeEffects s.mode

/-- MODE_TRANSITION (R40). -/
def execModeTransition : State → Host.Outcome State Fault Refusal := run State.transition

end Sys2Proof.Machine
end

