-- ==== Sys2Proof/Machine/Load.lean ====
section
/-! DEFINITION. Reset and LOAD: entry to M0, reset release, firmware, calibration set, tables and sweep (R592 to R598, R281, R457, R460,
R518, R627, R629, R643, R654). -/

namespace Sys2Proof.Machine

/-! ## M0 RESET (R592, R593) -/

/-- What a reset keeps of the dictionary: the configuration of the security index, and the write counts of the NVM (R518). -/
def keptObject (k : Nat) : Bool :=
  (keyIndex k == 0xC000 && ((2 ≤ keySub k && keySub k ≤ 6) || keySub k == keySub K.WOP_IDLE)) || atObj k == K.NVM_SLOT_WRITES

/-- What the NVM holds: a store under way leaves a set without its marker (R643). -/
def State.nvmLeft (s : State) : Sp NvmSet :=
  match s.store with
  | some (slot :: _, set) => Sp.ins s.nvm slot { set with good := false }
  | _ => s.nvm

/-- The device is in M0: objects at their defaults, NVM and flash kept, nothing else. `causes` are what holds it there. -/
def State.toReset (s : State) (causes : Nat) : State :=
  { State.reset with
    free := s.free
    od := s.od.filter (fun p => keptObject p.1)
    m0Causes := causes
    nvm := s.nvmLeft
    nvmBoot := s.nvmBoot
    host := { flash := s.host.flash, jtag := s.host.jtag } }

/-- POWER_ON (R592): the test access port powers up in Test-Logic-Reset. -/
def execPowerOn : State → Host.Outcome State Fault Refusal :=
  runAny (fun s => ({ s with host := { s.host with jtag := 8 } }).toReset 1)

/-- SUPPLY_BELOW_THRESHOLD (R643) of VDD, VDDA, VDDIO or VDDH; VDDO takes no part. -/
def execSupplyBelowThreshold (rail : Nat) : State → Host.Outcome State Fault Refusal :=
  runAny (fun s => if rail < 4 then s.toReset (setBit s.m0Causes 0 true) else s)

/-- RESET_N_LOW (R592). -/
def execResetNLow : State → Host.Outcome State Fault Refusal :=
  runAny (fun s => s.toReset (setBit s.m0Causes 1 true))

/-- THERMAL_SHUTDOWN (R654): a sensor at 125 °C or more for 16 consecutive frames. -/
def execThermalShutdown : State → Host.Outcome State Fault Refusal :=
  run (fun s => if 16 ≤ s.hotFrames then s.toReset (setBit s.m0Causes 2 true) else s)

/-- JTAG_INSTRUCTION_LOAD (R629): any instruction but BYPASS, IDCODE and SAMPLE/PRELOAD puts the device in M0. -/
def execJtagInstructionLoad (ir : Nat) : State → Host.Outcome State Fault Refusal :=
  runAny (fun s =>
    let s : State := { s with host := { s.host with jtag := ir } }
    if ir = 1 then s.emit (.idCode 0x17264A2B)
    else if ir ≤ 2 then s else s.toReset (setBit s.m0Causes 3 true))

/-- JTAG_TEST_LOGIC_RESET (R629). -/
def execJtagTestLogicReset : State → Host.Outcome State Fault Refusal :=
  runAny (fun s => { s with host := { s.host with jtag := 8 }, m0Causes := setBit s.m0Causes 3 false })

/-! ## Reset release (R594) -/

/-- Reset release: M1, the timescale counts from zero on the on-die oscillator, LOSC is measured (R328), the image slots are read (R627). -/
def State.toLoad (s : State) (losc : Nat) : State :=
  let s : State := { s with m0Causes := 0, clock := .onDie, tick := 0 }
  let s := (s.takeMode 1 0).p K.ETH_MAC (ofLe (Config.madeBytes K.ETH_MAC) % 2 ^ 48)
  let s := ((s.showSlot 0 false).showSlot 1 false).lifeFrame
  if 1 ≤ losc ∧ losc ≤ 3 then s.loscMeasured losc else s.loscGone

/-- RESET_RELEASE (R594, R629, R654): RESET_N is high and the supplies are good; neither temperature nor a test instruction holds M0. -/
def execResetRelease (losc : Nat) : State → Host.Outcome State Fault Refusal :=
  runAny (fun s => if s.mode = 0 ∧ !bit s.m0Causes 2 ∧ !bit s.m0Causes 3 then s.toLoad losc else s)

/-- THERMAL_RECOVERY (R654): every sensor reads below 100 °C. With nothing else to hold M0 the device proceeds as at reset release, with
whatever it then finds of LOSC. -/
def execThermalRecovery : State → Host.Outcome State Fault Refusal :=
  runAny (fun s =>
    if s.mode = 0 ∧ bit s.m0Causes 2 then
      let s : State := { s with m0Causes := setBit s.m0Causes 2 false }
      if s.m0Causes = 0 then s.fresh.2.toLoad (s.fresh.1 % 4) else s
    else s)

/-! ## The calibration set (R281, R460) -/

/-- The factory copy as a set with sequence number 0: the cores it covers and every pad's factory anchors (R460). -/
def factorySet : NvmSet where
  good := Config.factoryGood
  seq := 0
  objs := ((List.range 72).filter Config.factoryCovers).flatMap (fun c =>
      [K.CORE_REF c, K.IP_INL_A c, K.IP_INL_B c, K.IP_TEMP_CAL c, K.CORE_CAL_COUNT c, K.CORE_CAL_FN c].map (fun k => (k, Config.factoryObject k))
        ++ [(K.IP_CAL_UNC c, min 5 (Config.factoryObject (K.IP_CAL_UNC c)))])
    ++ (List.range 64).flatMap (fun c =>
      [K.ANC_OWN c, K.ANC_SPARE c].map (fun k => (k, Config.factoryObject k))
        ++ [K.ANC_OWN_UNC c, K.ANC_SPARE_UNC c].map (fun k => (k, min 4 (Config.factoryObject k))) ++ [(K.ANC_SOURCE c, 1)])
    ++ [K.CAL_COUNT, K.CAL_TIME].map (fun k => (k, Config.factoryObject k))
  corr := ((List.range (72 * 512)).filter (fun i => Config.factoryCovers (i / 512))).foldl (fun m i => Sp.set (fun _ => 0) m i (Config.factoryEntry i).toInt) []
  base := (List.range 64).foldl (fun m c => Sp.set (fun _ => 0) m c (Config.factoryBaseline c)) []

/-- The valid set with the highest sequence number, of the 32 slots. -/
def bestSet (m : Sp NvmSet) : Option (Nat × NvmSet) :=
  m.foldl (fun b p => if !p.2.good then b else match b with
    | some x => if x.2.seq < p.2.seq then some p else b
    | none => some p) none

/-- The set LOAD takes: the best slot, else the factory copy (slot 32). -/
def State.chosenSet (s : State) : Option (Nat × NvmSet) :=
  match bestSet s.nvm with
  | some x => some x
  | none => if Config.factoryGood then some (32, factorySet) else none

/-- The objects of a set that belong to no core's tables. -/
def padKey (k : Nat) : Bool :=
  k == K.CAL_COUNT || k == K.CAL_TIME || (List.range 64).any (fun c => k == K.ANC_OWN c || k == K.ANC_OWN_UNC c || k == K.ANC_SPARE c || k == K.ANC_SPARE_UNC c || k == K.ANC_SOURCE c)

/-- R460: the set is selected, its anchors and baselines are taken. Without one every anchor is 0 with unknown uncertainty. -/
def State.selectSet (s : State) : State :=
  let bad := (s.nvm.filter (fun p => !p.2.good)).length
  let s := s.p K.NVM_BOOT_REJECTED bad
  let s := if bad = 0 then s else s.raiseDet 94 0 0
  match s.chosenSet with
  | some (slot, set) =>
    let s : State := { s with baseline := set.base, host := { s.host with bootSet := some (slot, set) } }
    s.pAll ([(K.NVM_SET_BANK, slot / 16), (K.NVM_SET_SLOT, slot % 16), (K.CAL_SEQ, set.seq)] ++ set.objs.filter (fun p => padKey p.1))
  | none =>
    let s : State := { s with host := { s.host with loaded := List.range 72 } }
    s.pAll ((K.NVM_SET_BANK, 255) :: (List.range 64).flatMap (fun c => [(K.ANC_OWN_UNC c, unknownBound), (K.ANC_SPARE_UNC c, unknownBound)]))

/-- The objects of a core that a set carries. -/
def coreKeys (c : Nat) : List Nat :=
  [K.CORE_REF c, K.IP_INL_A c, K.IP_INL_B c, K.IP_CAL_UNC c, K.IP_TEMP_CAL c, K.CORE_CAL_COUNT c, K.CORE_CAL_FN c]

/-- The tables of one core are loaded (R281): a core that the set covers is READY (R118), unless it is in FAULT, which a load does not end (R128). -/
def State.loadCore (s : State) (set : NvmSet) (c : Nat) : State :=
  let mine := set.objs.filter (fun p => (coreKeys c).contains p.1)
  let covered := mine.any (fun p => p.1 == K.IP_CAL_UNC c && decide (p.2 < 250))
  let s : State := { s with host := { s.host with loaded := s.host.loaded ++ [c] } }
  let s := s.p (K.IP_TABLE_SEQ c) set.seq
  if covered then
    ((s.setEntries c ((List.range 512).map (fun i => Sp.get (fun _ => 0) set.corr (c * 512 + i)))).pAll mine).p (K.IP_STATE c)
      (if s.g (K.IP_STATE c) = 2 then 2 else 0)
  else s

/-- TABLE_LOAD_COMPLETE (R281) of a core. -/
def execTableLoadComplete (core : Nat) : State → Host.Outcome State Fault Refusal :=
  run (fun s =>
    match s.host.bootSet with
    | some (_, set) => if s.mode = 1 ∧ core < 72 ∧ !s.host.loaded.contains core then s.loadCore set core else s
    | none => s)

/-! ## Firmware (R595, R627) -/

/-- The image slot that LOAD checks next: the higher VERSION first, slot 0 first when they are equal. -/
def State.nextImage (s : State) : Option Nat :=
  (if s.imageVersion 0 < s.imageVersion 1 then [1, 0] else [0, 1]).find? (fun i => !s.host.fwTried.contains i)

/-- An image runs: BOOT advances and the calibration set is selected (R595 steps 1, 3 and 4). -/
def State.imageRuns (s : State) (slot : Nat) : State :=
  let boot := (s.nvmBoot + 1) % 2 ^ 32
  let s : State := { s with nvmBoot := boot, host := { s.host with fwSlot := some slot } }
  ((s.showSlot slot true).pAll [(K.ID_FW_VERSION, s.imageVersion slot), (K.ER_BOOT, boot), (K.ID_BOOT, boot)]).selectSet

/-- An image is rejected: EV118; when none is left, M10 follows (R589). -/
def State.imageRejected (s : State) (slot : Nat) : State :=
  let s : State := { s with host := { s.host with fwTried := s.host.fwTried ++ [slot] } }
  let s := (s.showSlot slot false).raiseVal 118 (Config.causeWord 118 slot 0)
  if s.nextImage.isNone then s.askMode 10 5 0 else s

/-- FIRMWARE_CHECK_COMPLETE (R595): what the read and the check of the image found. -/
def execFirmwareCheckComplete (slot : Nat) (pass : Bool) : State → Host.Outcome State Fault Refusal :=
  run (fun s =>
    if s.mode = 1 ∧ s.host.fwSlot.isNone ∧ s.nextImage = some slot then (if pass then s.imageRuns slot else s.imageRejected slot) else s)

/-! ## The sweep (R457, R596) -/

/-- All tables are loaded. -/
def State.tablesLoaded (s : State) : Bool := s.host.fwSlot.isSome && s.host.loaded.length == 72

/-- 35 ms after reset release, in frames (R596). -/
def sweepLatest : Nat := 43750

/-- LOAD at a boundary: the sweep begins when it can, on the Spindle (R595, R596); a loss of lock ends it. -/
def State.loadFrame (s : State) : State :=
  if s.mode ≠ 1 ∨ s.host.swept then s
  else match s.host.sweepAt with
    | none =>
      if s.tablesLoaded ∧ s.g K.SPN_STATE = 2 ∧ s.tick ≤ sweepLatest then
        { s.p K.SPN_ON_BYP 0 with clock := .spindle, host := { s.host with sweepAt := some s.tick } }
      else s
    | some _ =>
      if s.g K.SPN_STATE = 2 then s else { s with host := { s.host with sweepAt := none } }

/-- The steps of LOAD are over (R595 step 6, R435): the clocks move to BYP, and the cores still UNCALIBRATED ask for calibration. -/
def State.loadEnds (s : State) : State :=
  let s : State := { s with host := { s.host with swept := true } }
  let s := s.each (instances 72 (fun c => s.g (K.IP_STATE c) == 3)) (fun s c => s.wantCal c 1)
  if s.g K.BYP_STATE = 2 then s.loadOnByp else s

/-- VERIFY on a core (R457, R596). -/
def State.deviates (s : State) (c : Nat) : State := (s.wantCal c 3).raiseCal 87 (bankOf c) c

/-- The result of the sweep on one core: a deviation over the limit or a failed block sets VERIFY (R457). Which check a block failed is
left open (R434). -/
def State.swept1 (s : State) (d : Nat × Nat × Bool) : State :=
  if s.g (K.IP_STATE d.1) = 3 ∨ 72 ≤ d.1 then s
  else
    if d.2.2 then (s.fresh.2.blockFails (bankOf d.1) (s.fresh.1 % 5 + 1) 2 d.1).deviates d.1
    else
      let s := s.p (K.CORE_VERIFY_DEV d.1) d.2.1
      if s.g K.CAL_VERIFY_LIMIT < d.2.1 then s.deviates d.1 else s

/-- VERIFY_SWEEP (R457): 9,216 frames after it began; it says what it found of every core that it compares. -/
def execVerifySweep (devs : List (Nat × Nat × Bool)) : State → Host.Outcome State Fault Refusal :=
  run (fun s =>
    if s.mode = 1 ∧ !s.host.swept ∧ s.host.sweepAt.any (fun t => t + 9216 ≤ s.tick)
        ∧ (List.range 72).all (fun c => s.g (K.IP_STATE c) == 3 || devs.any (fun d => d.1 == c)) then
      (devs.foldl State.swept1 s).loadEnds
    else s)

/-- VERIFY_SWEEP_SKIPPED (R596): the sweep could not begin in 35 ms. -/
def execVerifySweepSkipped : State → Host.Outcome State Fault Refusal :=
  run (fun s =>
    if s.mode = 1 ∧ !s.host.swept ∧ s.host.sweepAt.isNone ∧ s.tablesLoaded ∧ sweepLatest < s.tick then
      (s.each (instances 72 (fun c => s.g (K.IP_STATE c) != 3)) State.deviates).loadEnds
    else s)

end Sys2Proof.Machine
end

