-- ==== Sys2Proof/Machine/Remote.lean ====
section
/-! DEFINITION. Messages from outside (R499, R508, R509, R616, R618, R623): WOP descriptors, datagrams of the management port, and
MGMT and EVENT frames of the fabric. -/

namespace Sys2Proof.Machine

/-! ## Queue pairs (R616, R618) -/

/-- A WOP descriptor in hand: the message is executed for queue pair q; it completes when its response is written. A place that does not
translate ends it as a translation miss ends a LOAD. -/
def State.wopDesc (s : State) (q tag place length rspPlace capacity : Nat) (req : List Byte) : State :=
  if length < 16 ∨ 1024 < length then s.descDone q tag 1 RC.malformed 0 0
  else if (s.hostAddr place 0 length).isNone then s.descDone q tag 1 RC.source 1 0
  else
    let l := req.take length
    let w : Who := { transport := 1, originGen := 0, originAddr := 0, principal := q, bootEpoch := bootEpochOf l }
    let r := s.request w l
    match r.1 with
    | none => r.2.descDone q tag 1 RC.ok 0 0
    | some a =>
      let n := a.2.length
      if capacity < n then r.2.descDone q tag 1 RC.malformed 0 0
      else if (r.2.hostAddr rspPlace 0 n).isNone then r.2.descDone q tag 1 RC.source 1 0
      else (r.2.emit (.wop w a.1 a.2)).descDone q tag 1 RC.ok 0 n

/-- DESC_WOP (R616): a descriptor and its request are fetched, in ring order. One of no known TYPE completes MALFORMED. -/
def execDescWop (q : Nat) (d : WopFetch) : State → Host.Outcome State Fault Refusal :=
  run (fun s => match readDesc d.desc with
    | .wop tag place length rspPlace capacity => s.fetchDesc q (fun s => s.wopDesc q tag place length rspPlace capacity d.req)
    | .other tag type => s.fetchDesc q (fun s => s.descDone q tag type RC.malformed 0 0)
    | .load .. => s)

/-! ## Management port (R546, R623) -/

/-- A WOP datagram at a running port: at most 100 are accepted in a period; an unsealed one that is no handshake is discarded. -/
def State.datagram (s : State) (ch counter : Nat) (isSealed handshake : Bool) (bytes : List Byte) (epoch : Nat) (m : WopMsg) : State :=
  if 100 ≤ s.host.ethCount then s.inc K.ETH_RX_DROPPED
  else
    let s := ({ s with host := { s.host with ethCount := s.host.ethCount + 1 } }).inc K.ETH_RX_DATAGRAMS
    if handshake && !isSealed then s
    else s.sealedMessage 2 ch counter isSealed bytes
      (fun row => { transport := 2, originGen := 0, originAddr := 0, principal := row, bootEpoch := epoch }) m (fun s w r => s.emit (.wop w r (respBytes m w.bootEpoch r)))

/-- ETH_DATAGRAM_RECEIVE (R623); the bodies of a handshake are the operands of their own commands. -/
def execEthDatagramReceive (ch counter : Nat) (isSealed handshake : Bool) (bytes : List Byte) (bootEpoch : Nat) (m : WopMsg) :
    State → Host.Outcome State Fault Refusal :=
  run (fun s => if s.gb K.ETH_ENABLE then s.datagram ch counter isSealed handshake bytes bootEpoch m else s)

/-! ## Fabric (R499, R508, R509) -/

/-- A frame is sent on over the link of its route, with AGE and HOPS advanced as it departs (R499). -/
def State.forward (s : State) (k : Nat) (f : MgmtFrame) : State :=
  if s.hopsTo f.dst ≥ 16 ∨ 15 ≤ f.hops then s.discardFrame k K.FAB_NO_ROUTE
  else if s.routeGen f.dst ≠ f.dstGen then s.discardFrame k K.FAB_STALE
  else
    let out := s.routeLink f.dst
    if q50us < f.stay then s.discardFrame k K.FAB_RESIDENCE_DROPS
    else if 8000 < s.agedBy out f.stay f.age then s.discardFrame k K.FAB_EXPIRED
    else s.handOver out (.mgmt out f)

/-- The response to a request goes back to its requester in a MGMT frame with the request's XID (R508, R509). -/
def State.answerMgmt (s : State) (k : Nat) (f : MgmtFrame) (r : WopResp) : State :=
  let g : MgmtFrame :=
    { f with event := false, response := true, dst := f.src, dstGen := f.srcGen, src := f.dst, srcGen := f.dstGen,
             age := 0, hops := 0, stay := 0, bytes := [] }
  if 16 ≤ s.hopsTo g.dst then s.discardFrame k K.FAB_NO_ROUTE
  else if s.routeGen g.dst ≠ g.dstGen then s.discardFrame k K.FAB_STALE
  else s.handOver (s.routeLink g.dst) (.mgmtAnswer (s.routeLink g.dst) g r)

/-- The current generation of an XID. -/
def State.xidGenOf (s : State) (x : Nat) : Nat := (Sp.find s.fab.xidGen x).getD 0

/-- An XID is given back: quarantined for RETIRE_INTERVAL, its generation advanced (R508). -/
def State.endXid (s : State) (x : Nat) : State :=
  { s with fab := { s.fab with xidGen := Sp.ins s.fab.xidGen x ((s.xidGenOf x + 1) % 256),
                               xidQuar := s.fab.xidQuar ++ [(x, s.tick + s.retireFrames)] } }

/-- An XID is under quarantine. -/
def State.xidHeld (s : State) (x : Nat) : Bool := s.fab.xidQuar.any (fun p => p.1 == x && s.tick < p.2)

/-- A MGMT frame for this device: a response of the current generation frees its XID; a request carries a WOP message. -/
def State.mgmtHere (s : State) (k : Nat) (f : MgmtFrame) : State :=
  if f.event then s
  else if f.response then
    (if s.xidGenOf f.xid = f.xidGen ∧ !s.xidHeld f.xid then s.endXid f.xid else s.inc K.FAB_STALE)
  else if f.shake && !f.isSealed then s
  else s.sealedMessage 3 f.chan f.counter f.isSealed f.bytes
    (fun row => { transport := 3, originGen := f.srcGen, originAddr := f.src, principal := row, bootEpoch := f.epoch }) f.body
    (fun s _ r => s.answerMgmt k f r)

/-- TN_MGMT_RECEIVE: a MGMT or EVENT frame arrives on a link that is UP. -/
def State.mgmtReceive (s : State) (k : Nat) (f : MgmtFrame) : State :=
  if 8000 < f.age then s.discardFrame k K.FAB_EXPIRED
  else if s.g K.FAB_ADDR = f.dst then
    (if s.g K.FAB_ADDR_GEN = f.dstGen then s.mgmtHere k f else s.discardFrame k K.FAB_STALE)
  else s.forward k f

/-- TN_MGMT_RECEIVE (R499). -/
def execTnMgmtReceive (k : Nat) (f : Rx MgmtFrame) : State → Host.Outcome State Fault Refusal :=
  run (fun s => s.received k f.crcOk (fun s => if s.linkUp k then s.mgmtReceive k f.frame else s))

/-- XID_TIMEOUT (R508): a request outstanding for 1,600 µs under an XID that is not in quarantine. -/
def execXidTimeout (xid : Nat) : State → Host.Outcome State Fault Refusal :=
  run (fun s => if s.xidHeld xid then s else (s.inc K.FAB_MGMT_TIMEOUTS).endXid xid)

end Sys2Proof.Machine
end

