-- ==== Sys2Proof/Machine/Frame.lean ====
section
/-! DEFINITION. The frame boundary: the changes due at a frame in the order of R26, and the work of the units that act once per frame (R18,
R19, R26, R568). -/

namespace Sys2Proof.Machine

/-- What the frame that ends still does: vectors due in it are fetched (R20, R186), streams that wait are found (R238), clock
pads that were to fall in it have fallen (R348). -/
def State.frameEnds (s : State) : State := (((s.each (List.range 8) State.fetchDue).starved).closeDue).learnAdd

/-- The next frame begins: the counts advance together (R50), and the events of the new frame start empty. -/
def State.nextFrame (s : State) : State :=
  let fn := s.fn + 1
  { (s.p K.TS_FN fn).p K.TS_NOW (ofTime92 (fn * qFrame)) with tick := s.tick + 1, raised := [], passed := false }

/-- Step 1 of R26: the steering word. In M8 it is the one measured of STACK_CLK_IN (R482). -/
def State.step1 (s : State) : State :=
  let s : State := if s.effMode = 8 ∧ s.stk.onStack then { s with steerNext := s.gi K.STK_FOLLOW_STEER } else s
  s.applySteer

/-- The changes of the selected slot that fall due (R378). -/
def State.selections (s : State) : State :=
  let l := s.selPend.filter (fun p => p.2 ≤ s.tick)
  l.foldl (fun (s : State) p => s.selectionEffect p.1) { s with selPend := s.selPend.filter (fun p => s.tick < p.2) }

/-- Step 2 of R26: the mode transition, with the changes of selection and the reactions that fall due with it (R378, R568). -/
def State.step2 (s : State) : State := ((s.transition).selections).reactsDue

/-- Step 5 of R26: spare swaps and returns. -/
def State.step5 (s : State) : State := s.each (List.range 8) (fun s k => (s.parkedFree k).swapEffect k)

/-- Consecutive frames of lock and of Spindle margin, as the boundary finds them (R329 to R331, R337, R589). -/
def State.lockFrames (s : State) : State :=
  let m := s.meas.spnMargin
  { s with
    spnFrames := if s.g K.SPN_STATE = 2 then s.spnFrames + 1 else 0
    bypFrames := if s.g K.BYP_STATE = 2 then s.bypFrames + 1 else 0
    marginLow := if s.g K.LOSC_FREQ ≠ 0 ∧ m < 100 then s.marginLow + 1 else 0
    marginOk := if s.g K.LOSC_FREQ ≠ 0 ∧ 150 ≤ m then s.marginOk + 1 else 0 }

/-- Step 6 of R26: the telemetry snapshot, the collector's processing of the frame that ended (R555), the arbiters' statistics (R284). -/
def State.step6 (s : State) (m : Latch) (ended : Sp Ev) : State :=
  let s : State := { (s.collect ended) with meas := m }
  (s.arbLatch).refreshRows

/-- The REPLACE_REASON bits of the banks (R312, R579). -/
def State.bankReasons (s : State) : State :=
  s.each (List.range 8) (fun s k => if s.degraded k then s.setReplace k else s.clearReplace k)

/-- Pads and spares once per frame (R308 to R312, R641). -/
def State.spareFrame (s : State) : State :=
  let s := s.each (List.range 8) (fun s k => ((s.waitFrame k).faultReturn k).searchFrame k)
  s.bankReasons.presetVerniers

/-- The Headstock and the Steady Rest once per frame (R375 to R392, R400 to R405). In M2 no slot is selected (R587). -/
def State.headFrame (s : State) : State :=
  let s := s.learnSecond.each (List.range 28) State.qualifySlot
  let s := if s.effMode = 2 then s else s.selectFrame
  let s := (s.boundsFrame).servo
  let s : State := { s with newSmp := false }
  let s := ((s.trackRequests).askCoast).modeAsks
  ((s.srFrame).holdAgeFrame).predFrame

/-- The host's interfaces once per frame (R582, R584, R510, R550, R614, R622). -/
def State.hostFrame (s : State) : State :=
  let s := ((s.each (List.range 8) State.sendFrame).each (List.range 4) State.qpSettle).idleChans
  let s : State := if s.fn % 12500 = 0 then { s with host := { s.host with ethCount := 0 } } else s
  ((s.msixSend).wopEvents).fabricEvents

/-- The units of a running device once per frame, after the six steps: edges, memory, Headstock, bounds, stack, calibration, synthesizers. -/
def State.units (s : State) : State :=
  let s := s.setsInUse
  let s := ((((s.readyFrame).residencyFrame).ringDeferred).moveEffect).supplyFrame
  let s := ((s.scrubFrame).each (List.range 8) State.retireWorn).each (List.range 16) State.startReads
  let s := ((s.headFrame).stackFrame).deviceBound
  let s := ((s.spareFrame).discardOld).boundCheck
  let s := s.each (List.range 64) (fun s c => s.detectFrame s.meas.pads c)
  let s := s.each (List.range 4) (fun s u => ((s.utSteerStep u).utMargin u).leaveSubst u)
  s.waveFrame.calFrame

/-- FRAME_BOUNDARY (R26): the frame that ends finishes, and the changes due at the new frame are applied in order. In M1 there is only
LOAD beside them (R19). -/
def State.boundaryOf (s : State) (m : Latch) : State :=
  let s := if 2 ≤ s.mode then s.frameEnds else s
  let ended := s.raised
  let s := ((s.nextFrame.stepWaves.step1).step2).commitFrame
  let s := (s.sessionFrame).stepFrame
  let s := ((s.step5).resetsDue).step6 m ended
  let s := s.lockFrames
  let s := if 2 ≤ s.mode then s.units else (s.loadFrame.modeAsks).supplyFrame
  s.hostFrame

/-- FRAME_BOUNDARY (R26): whatever falls due at it, the count of boundaries advances by one, and what the measuring units latched is taken. -/
def execFrameBoundary (m : Latch) : State → Host.Outcome State Fault Refusal :=
  run (fun s => { s.boundaryOf m with tick := s.tick + 1, meas := m })

/-- REACTION_TAKE_EFFECT (R568): the accepted reactions whose boundary has come take effect: FORCE_HOLDOVER, swaps, the transition to M10,
block resets, in the order of R26. -/
def execReactionTakeEffect : State → Host.Outcome State Fault Refusal :=
  run (fun s =>
    let s := if s.modePend.any (fun p => p.target == 10) then s.transition else s
    ((s.reactsDue).step5).resetsDue)

end Sys2Proof.Machine
end

