-- ==== Sys2Proof/Machine/Dispatch.lean ====
section
/-! DEFINITION. The meaning of every command: one arm for each constructor of Instr. -/

namespace Sys2Proof.Machine

/-- What a command does to everything but the queue: the state after it holds the commands that waited before it. -/
def exec (i : Instr) (s : State) : Host.Outcome State Fault Refusal :=
  match i with
  | .frameBoundary m => Sys2Proof.Machine.execFrameBoundary m s
  | .reactionTakeEffect => Sys2Proof.Machine.execReactionTakeEffect s
  | .blockReset b inst src => Sys2Proof.Machine.execBlockReset b inst src s
  | .blockResetSettleEnd b inst => Sys2Proof.Machine.execBlockResetSettleEnd b inst s
  | .severeEnd src => Sys2Proof.Machine.execSevereEnd src s
  | .forceHoldoverEnd src => Sys2Proof.Machine.execForceHoldoverEnd src s
  | .collectorEccError row e => Sys2Proof.Machine.execCollectorEccError row e s
  | .fcClear who arg => Sys2Proof.Machine.execFcClear who arg s
  | .fcDegradeClear who => Sys2Proof.Machine.execFcDegradeClear who s
  | .sessionCommitCheck k => Sys2Proof.Machine.execSessionCommitCheck k s
  | .sessionCommitApply k => Sys2Proof.Machine.execSessionCommitApply k s
  | .modeTransition => Sys2Proof.Machine.execModeTransition s
  | .modeRequest who target => Sys2Proof.Machine.execModeRequest who target s
  | .placementPass failing => Sys2Proof.Machine.execPlacementPass failing s
  | .edgeEmit core => Sys2Proof.Machine.execEdgeEmit core s
  | .inputEdge ref t rising => Sys2Proof.Machine.execInputEdge ref t rising s
  | .triggerEdgeIssue c => Sys2Proof.Machine.execTriggerEdgeIssue c s
  | .indexPlateFault core faultBits => Sys2Proof.Machine.execIndexPlateFault core faultBits s
  | .spindleLock => Sys2Proof.Machine.execSpindleLock s
  | .spindleLossOfLock q => Sys2Proof.Machine.execSpindleLossOfLock q s
  | .spindleSwitchBack => Sys2Proof.Machine.execSpindleSwitchBack s
  | .spnMarginLow => Sys2Proof.Machine.execSpnMarginLow s
  | .bypLock => Sys2Proof.Machine.execBypLock s
  | .bypLossOfLock => Sys2Proof.Machine.execBypLossOfLock s
  | .loscMissing => Sys2Proof.Machine.execLoscMissing s
  | .loscPresent => Sys2Proof.Machine.execLoscPresent s
  | .utLock u => Sys2Proof.Machine.execUtLock u s
  | .utLockTimeout u => Sys2Proof.Machine.execUtLockTimeout u s
  | .utSettleEnd u => Sys2Proof.Machine.execUtSettleEnd u s
  | .utRestart u => Sys2Proof.Machine.execUtRestart u s
  | .utLossOfLock u => Sys2Proof.Machine.execUtLossOfLock u s
  | .clockGateClose c => Sys2Proof.Machine.execClockGateClose c s
  | .clockGateOpen c => Sys2Proof.Machine.execClockGateOpen c s
  | .utBandMeasure who u code fLo fHi => Sys2Proof.Machine.execUtBandMeasure who u code fLo fHi s
  | .slotQualExpiry n => Sys2Proof.Machine.execSlotQualExpiry n s
  | .slotWtrExpiry n => Sys2Proof.Machine.execSlotWtrExpiry n s
  | .slotNoSignal n => Sys2Proof.Machine.execSlotNoSignal n s
  | .slotSampleTimeout n => Sys2Proof.Machine.execSlotSampleTimeout n s
  | .disagreementEnd a b => Sys2Proof.Machine.execDisagreementEnd a b s
  | .selectionChangeEffect => Sys2Proof.Machine.execSelectionChangeEffect s
  | .firstAlignment => Sys2Proof.Machine.execFirstAlignment s
  | .slotLabel who n arg => Sys2Proof.Machine.execSlotLabel who n arg s
  | .slotClearWtr who n => Sys2Proof.Machine.execSlotClearWtr who n s
  | .htSample who n arg => Sys2Proof.Machine.execHtSample who n arg s
  | .srRejectClear who n => Sys2Proof.Machine.execSrRejectClear who n s
  | .holdoverSteer => Sys2Proof.Machine.execHoldoverSteer s
  | .holdMaxExpiry => Sys2Proof.Machine.execHoldMaxExpiry s
  | .learningSample mean => Sys2Proof.Machine.execLearningSample mean s
  | .epochRecordBuild => Sys2Proof.Machine.execEpochRecordBuild s
  | .epochRecordEmit => Sys2Proof.Machine.execEpochRecordEmit s
  | .epochRecordSkipped => Sys2Proof.Machine.execEpochRecordSkipped s
  | .leapEpochReached => Sys2Proof.Machine.execLeapEpochReached s
  | .tsStep who arg => Sys2Proof.Machine.execTsStep who arg s
  | .tsStepEffect => Sys2Proof.Machine.execTsStepEffect s
  | .prefetchDeadline q => Sys2Proof.Machine.execPrefetchDeadline q s
  | .iterationBoundary q => Sys2Proof.Machine.execIterationBoundary q s
  | .vectorStart q => Sys2Proof.Machine.execVectorStart q s
  | .seqStartReached q => Sys2Proof.Machine.execSeqStartReached q s
  | .compareOutcome q => Sys2Proof.Machine.execCompareOutcome q s
  | .sqLockAcquire who q => Sys2Proof.Machine.execSqLockAcquire who q s
  | .sqLockRelease who q => Sys2Proof.Machine.execSqLockRelease who q s
  | .sqLockLeaseExpiry q => Sys2Proof.Machine.execSqLockLeaseExpiry q s
  | .sqJump who q arg => Sys2Proof.Machine.execSqJump who q arg s
  | .sqStop who q arg => Sys2Proof.Machine.execSqStop who q arg s
  | .sqStart who arg => Sys2Proof.Machine.execSqStart who arg s
  | .segFree who e => Sys2Proof.Machine.execSegFree who e s
  | .segFreeEffect e => Sys2Proof.Machine.execSegFreeEffect e s
  | .retireIntervalExpiry e => Sys2Proof.Machine.execRetireIntervalExpiry e s
  | .cmpLogResume who q => Sys2Proof.Machine.execCmpLogResume who q s
  | .cmpLogTailWrite who q v => Sys2Proof.Machine.execCmpLogTailWrite who q v s
  | .bankArbitration b reqs => Sys2Proof.Machine.execBankArbitration b reqs s
  | .playbackParkOnRetire q => Sys2Proof.Machine.execPlaybackParkOnRetire q s
  | .pageAllocateDeferred e j => Sys2Proof.Machine.execPageAllocateDeferred e j s
  | .arbCommit who => Sys2Proof.Machine.execArbCommit who s
  | .arbUrgWrite who r v => Sys2Proof.Machine.execArbUrgWrite who r v s
  | .arbStateError b => Sys2Proof.Machine.execArbStateError b s
  | .pagePost who arg => Sys2Proof.Machine.execPagePost who arg s
  | .pageWriteComplete ppn => Sys2Proof.Machine.execPageWriteComplete ppn s
  | .pageReadByEntry who arg => Sys2Proof.Machine.execPageReadByEntry who arg s
  | .pageReadByPpn who arg => Sys2Proof.Machine.execPageReadByPpn who arg s
  | .pageReadComplete slot bad => Sys2Proof.Machine.execPageReadComplete slot bad s
  | .memSelftest who mask => Sys2Proof.Machine.execMemSelftest who mask s
  | .selftestPageDone ppn pass => Sys2Proof.Machine.execSelftestPageDone ppn pass s
  | .pageMoveStart src dst why => Sys2Proof.Machine.execPageMoveStart src dst why s
  | .pageMoveComplete => Sys2Proof.Machine.execPageMoveComplete s
  | .scrubPageDone ppn => Sys2Proof.Machine.execScrubPageDone ppn s
  | .refillStart q => Sys2Proof.Machine.execRefillStart q s
  | .dmaCompletion tag st data last => Sys2Proof.Machine.execDmaCompletion tag st data last s
  | .dmaCompletionTimeout tag => Sys2Proof.Machine.execDmaCompletionTimeout tag s
  | .refillRetryExpiry ppn => Sys2Proof.Machine.execRefillRetryExpiry ppn s
  | .segProducedWrite who e v => Sys2Proof.Machine.execSegProducedWrite who e v s
  | .padFaultDeclare c det => Sys2Proof.Machine.execPadFaultDeclare c det s
  | .padProbe c clean => Sys2Proof.Machine.execPadProbe c clean s
  | .padDriverResume c => Sys2Proof.Machine.execPadDriverResume c s
  | .padAutoInvert c => Sys2Proof.Machine.execPadAutoInvert c s
  | .padSettleTimeout c => Sys2Proof.Machine.execPadSettleTimeout c s
  | .padDriverTurnOn c => Sys2Proof.Machine.execPadDriverTurnOn c s
  | .vddoClassChange k => Sys2Proof.Machine.execVddoClassChange k s
  | .inputDiagDeclare n det declared => Sys2Proof.Machine.execInputDiagDeclare n det declared s
  | .inputReversed n => Sys2Proof.Machine.execInputReversed n s
  | .inputAutoInvert n => Sys2Proof.Machine.execInputAutoInvert n s
  | .supplyOutOfRange rail => Sys2Proof.Machine.execSupplyOutOfRange rail s
  | .thermalShutdown => Sys2Proof.Machine.execThermalShutdown s
  | .thermalRecovery => Sys2Proof.Machine.execThermalRecovery s
  | .spareSwapEffect k => Sys2Proof.Machine.execSpareSwapEffect k s
  | .spSwap who k ch => Sys2Proof.Machine.execSpSwap who k ch s
  | .spReturn who k => Sys2Proof.Machine.execSpReturn who k s
  | .spareSearchFail k => Sys2Proof.Machine.execSpareSearchFail k s
  | .returnForced k => Sys2Proof.Machine.execReturnForced k s
  | .coreCalStart k => Sys2Proof.Machine.execCoreCalStart k s
  | .calSettleEnd k => Sys2Proof.Machine.execCalSettleEnd k s
  | .calMeasureComplete k residuals blk => Sys2Proof.Machine.execCalMeasureComplete k residuals blk s
  | .calStepsDone k => Sys2Proof.Machine.execCalStepsDone k s
  | .calVerifyComplete k errA errB blk => Sys2Proof.Machine.execCalVerifyComplete k errA errB blk s
  | .calRestoreComplete k => Sys2Proof.Machine.execCalRestoreComplete k s
  | .calRetryExpiry core => Sys2Proof.Machine.execCalRetryExpiry core s
  | .calPeriodExpiry core => Sys2Proof.Machine.execCalPeriodExpiry core s
  | .calOverdue core => Sys2Proof.Machine.execCalOverdue core s
  | .coreCalRequest who core => Sys2Proof.Machine.execCoreCalRequest who core s
  | .calAll who => Sys2Proof.Machine.execCalAll who s
  | .calliperSelfCal residuals => Sys2Proof.Machine.execCalliperSelfCal residuals s
  | .auditBlockClose pad blk => Sys2Proof.Machine.execAuditBlockClose pad blk s
  | .ancRun who arg => Sys2Proof.Machine.execAncRun who arg s
  | .anchorRunComplete k blk baseline => Sys2Proof.Machine.execAnchorRunComplete k blk baseline s
  | .anchorApply k => Sys2Proof.Machine.execAnchorApply k s
  | .calStore who => Sys2Proof.Machine.execCalStore who s
  | .nvmStoreStart => Sys2Proof.Machine.execNvmStoreStart s
  | .nvmStoreComplete ok => Sys2Proof.Machine.execNvmStoreComplete ok s
  | .tableLoadComplete core => Sys2Proof.Machine.execTableLoadComplete core s
  | .verifySweep devs => Sys2Proof.Machine.execVerifySweep devs s
  | .verifySweepSkipped => Sys2Proof.Machine.execVerifySweepSkipped s
  | .markingPulseSend => Sys2Proof.Machine.execMarkingPulseSend s
  | .markingAlertSend => Sys2Proof.Machine.execMarkingAlertSend s
  | .markingMessageReceive m tIn => Sys2Proof.Machine.execMarkingMessageReceive m tIn s
  | .markEchoSend tIn => Sys2Proof.Machine.execMarkEchoSend tIn s
  | .markEchoReceive p tEcho width => Sys2Proof.Machine.execMarkEchoReceive p tEcho width s
  | .stackAlertSeen => Sys2Proof.Machine.execStackAlertSeen s
  | .stackReferenceSwitch => Sys2Proof.Machine.execStackReferenceSwitch s
  | .stackClkMissing => Sys2Proof.Machine.execStackClkMissing s
  | .stackMsgTimeout => Sys2Proof.Machine.execStackMsgTimeout s
  | .tnBlockLock k => Sys2Proof.Machine.execTnBlockLock k s
  | .tnBlockLockLoss k => Sys2Proof.Machine.execTnBlockLockLoss k s
  | .tnHelloSend k => Sys2Proof.Machine.execTnHelloSend k s
  | .tnHelloReceive k h => Sys2Proof.Machine.execTnHelloReceive k h s
  | .tnHelloMiss k => Sys2Proof.Machine.execTnHelloMiss k s
  | .tnTimeSend k t => Sys2Proof.Machine.execTnTimeSend k t s
  | .tnTimeReceive k f => Sys2Proof.Machine.execTnTimeReceive k f s
  | .tnAsymCal who k arg mean rms => Sys2Proof.Machine.execTnAsymCal who k arg mean rms s
  | .tnRouteSend => Sys2Proof.Machine.execTnRouteSend s
  | .tnRouteReceive k rows => Sys2Proof.Machine.execTnRouteReceive k rows s
  | .fabRootTimeout => Sys2Proof.Machine.execFabRootTimeout s
  | .tnLeaseReceive k f => Sys2Proof.Machine.execTnLeaseReceive k f s
  | .fabAddrRenew => Sys2Proof.Machine.execFabAddrRenew s
  | .fabLeaseExpiry addr => Sys2Proof.Machine.execFabLeaseExpiry addr s
  | .tnMgmtReceive k f => Sys2Proof.Machine.execTnMgmtReceive k f s
  | .xidTimeout xid => Sys2Proof.Machine.execXidTimeout xid s
  | .objectWrite off len v => Sys2Proof.Machine.execObjectWrite off len v s
  | .bar0Time92ReadLow idx sub => Sys2Proof.Machine.execBar0Time92ReadLow idx sub s
  | .bar0Time92WriteHigh idx sub v => Sys2Proof.Machine.execBar0Time92WriteHigh idx sub v s
  | .bar0Time92WriteLow idx sub v => Sys2Proof.Machine.execBar0Time92WriteLow idx sub v s
  | .bar0SessionWrite v => Sys2Proof.Machine.execBar0SessionWrite v s
  | .bar0Open arg => Sys2Proof.Machine.execBar0Open arg s
  | .tblSelWrite v => Sys2Proof.Machine.execTblSelWrite v s
  | .tblPut => Sys2Proof.Machine.execTblPut s
  | .sessCommit who k fn => Sys2Proof.Machine.execSessCommit who k fn s
  | .sessDiscard who k => Sys2Proof.Machine.execSessDiscard who k s
  | .sessClose who k => Sys2Proof.Machine.execSessClose who k s
  | .sessionLeaseExpiry k => Sys2Proof.Machine.execSessionLeaseExpiry k s
  | .sessionRetireExpiry k => Sys2Proof.Machine.execSessionRetireExpiry k s
  | .wopMessage who bytes => Sys2Proof.Machine.execWopMessage who bytes s
  | .wopRead who k idx sub staged => Sys2Proof.Machine.execWopRead who k idx sub staged s
  | .wopWrite who k idx sub v => Sys2Proof.Machine.execWopWrite who k idx sub v s
  | .wopReadRow who k idx sub row => Sys2Proof.Machine.execWopReadRow who k idx sub row s
  | .wopWriteRow who k idx sub row v => Sys2Proof.Machine.execWopWriteRow who k idx sub row v s
  | .wopReadBytes who k idx sub off cnt => Sys2Proof.Machine.execWopReadBytes who k idx sub off cnt s
  | .wopOpen who nonce lease => Sys2Proof.Machine.execWopOpen who nonce lease s
  | .wopClose who k => Sys2Proof.Machine.execWopClose who k s
  | .wopCommit who k fn => Sys2Proof.Machine.execWopCommit who k fn s
  | .wopDiscard who k => Sys2Proof.Machine.execWopDiscard who k s
  | .wopRenew who k => Sys2Proof.Machine.execWopRenew who k s
  | .wopHandshakeHello transport peer body => Sys2Proof.Machine.execWopHandshakeHello transport peer body s
  | .wopHandshakeFinish transport peer body => Sys2Proof.Machine.execWopHandshakeFinish transport peer body s
  | .wopChannelIdleExpiry ch => Sys2Proof.Machine.execWopChannelIdleExpiry ch s
  | .ethDatagramReceive ch counter isSealed handshake bytes bootEpoch m => Sys2Proof.Machine.execEthDatagramReceive ch counter isSealed handshake bytes bootEpoch m s
  | .ethLinkDown => Sys2Proof.Machine.execEthLinkDown s
  | .smbSelect idx sub pec => Sys2Proof.Machine.execSmbSelect idx sub pec s
  | .smbRead pec => Sys2Proof.Machine.execSmbRead pec s
  | .qpSqTailWrite who q v => Sys2Proof.Machine.execQpSqTailWrite who q v s
  | .descWop q d => Sys2Proof.Machine.execDescWop q d s
  | .descLoad q desc => Sys2Proof.Machine.execDescLoad q desc s
  | .completionPost q => Sys2Proof.Machine.execCompletionPost q s
  | .qpCqHeadWrite who q v => Sys2Proof.Machine.execQpCqHeadWrite who q v s
  | .qpError q => Sys2Proof.Machine.execQpError q s
  | .telemetryRecord => Sys2Proof.Machine.execTelemetryRecord s
  | .pcieLinkDown => Sys2Proof.Machine.execPcieLinkDown s
  | .pcieHotReset fundamental => Sys2Proof.Machine.execPcieHotReset fundamental s
  | .functionLevelReset => Sys2Proof.Machine.execFunctionLevelReset s
  | .d3hotEntry => Sys2Proof.Machine.execD3hotEntry s
  | .flErase who => Sys2Proof.Machine.execFlErase who s
  | .flDataWrite who row v => Sys2Proof.Machine.execFlDataWrite who row v s
  | .flVerify who => Sys2Proof.Machine.execFlVerify who s
  | .flOperationComplete => Sys2Proof.Machine.execFlOperationComplete s
  | .jtagInstructionLoad ir => Sys2Proof.Machine.execJtagInstructionLoad ir s
  | .powerOn => Sys2Proof.Machine.execPowerOn s
  | .supplyBelowThreshold rail => Sys2Proof.Machine.execSupplyBelowThreshold rail s
  | .resetNLow => Sys2Proof.Machine.execResetNLow s
  | .resetRelease losc => Sys2Proof.Machine.execResetRelease losc s
  | .spnMarginRestored => Sys2Proof.Machine.execSpnMarginRestored s
  | .padFaultClear c det => Sys2Proof.Machine.execPadFaultClear c det s
  | .firmwareCheckComplete slot pass => Sys2Proof.Machine.execFirmwareCheckComplete slot pass s
  | .ethLinkUp => Sys2Proof.Machine.execEthLinkUp s
  | .pcieLinkUp => Sys2Proof.Machine.execPcieLinkUp s
  | .msixUnmask vec => Sys2Proof.Machine.execMsixUnmask vec s
  | .postSlotWrite off bytes => Sys2Proof.Machine.execPostSlotWrite off bytes s
  | .pcieConfigWrite reg v => Sys2Proof.Machine.execPcieConfigWrite reg v s
  | .jtagTestLogicReset => Sys2Proof.Machine.execJtagTestLogicReset s
  | .signerFault => Sys2Proof.Machine.execSignerFault s
  | .pcieAerError status => Sys2Proof.Machine.execPcieAerError status s

end Sys2Proof.Machine
end

