-- ==== Sys2Proof/Safety.lean ====
section
/-! DEFINITION. What a safe state of the part is, and what a command does, in the terms the statements use: every store in canonical form;
the state a command answers, the objects it writes, the events it raises, the record it leaves. -/

namespace Sys2Proof.Machine

/-- Keys strictly rising: the canonical form of a store in which a place nothing has written holds nothing. -/
def Sp.rising {α : Type} : Sp α → Bool
  | [] => true
  | (k, _) :: m => m.all (fun p => decide (k < p.1)) && Sp.rising m

/-- The three memories are in canonical form: the dictionary (addresses strictly rising, no entry equal to its reset value), vector memory
(addresses strictly rising), the bytes of the post and read slots (strictly rising, no zero). Equal memories are then equal data. -/
def Memory.wf (s : State) : Bool := Sp.wf dflt s.od && Sp.rising s.vmem && Sp.wf (fun _ => 0) s.slotBytes

/-- A command answers a next state, and that state has a property. -/
def Gives (c : Instr) (s : State) (P : State → Prop) : Prop := ∃ t, exec c s = .next t ∧ P t

/-- The state as a command finds it: what an earlier command drove out is gone. -/
def State.noOut (s : State) : State := { s with out := [] }

/-- What the objects read after a list of writes, the latest first. -/
def after (g : Nat → Nat) : List (Nat × Nat) → Nat → Nat
  | [], j => g j
  | (k, v) :: l, j => if j = k then v else after g l j

/-- After, every object holds what it held, but for those listed (where one is listed twice, the first entry counts). -/
def Writes (s t : State) (l : List (Nat × Nat)) : Prop := ∀ j, t.g j = after s.g l j

/-- The same, but for the objects a test names, of which nothing is said. -/
def WritesBut (s t : State) (p : Nat → Bool) (l : List (Nat × Nat)) : Prop := ∀ j, p j = false → t.g j = after s.g l j

/-- After, every event source but those listed stands as it did. -/
def EventsBut (s t : State) (l : List Nat) : Prop := ∀ x, l.contains x = false → t.ev x = s.ev x

/-- Two tables agree at every place but one. -/
def ButAt {α : Type} (f g : Nat → α) (k : Nat) : Prop := ∀ j, j ≠ k → f j = g j

/-- Two tables agree at every place but those listed. -/
def ButThese {α : Type} (f g : Nat → α) (l : List Nat) : Prop := ∀ j, l.contains j = false → f j = g j

/-- The bits an event source has raised so far in this frame (none: 0). -/
def State.evMask (s : State) (src : Nat) : Nat := match s.ev src with | some e => e.mask | none => 0

/-- A device bound or a channel bound, or the status that follows from it (R100, R415). -/
def boundObj (j : Nat) : Bool := j == K.DEV_BOUND || (List.range 64).any (fun c => j == K.CH_BOUND c || j == K.CH_STATUS c)

/-- Whether a clock pad is on its substitute (R415). -/
def substObj (j : Nat) : Bool := (List.range 64).any (fun c => j == K.CLK_SUBST c)

/-- A row of FAB_ROUTES (R512). -/
def routeObj (j : Nat) : Bool := decide (K.FAB_ROUTES ≤ j ∧ j < K.FAB_ROUTES + 4096)

/-- The placement log (R228). -/
def plLogObj (j : Nat) : Bool := decide (K.PL_LOG ≤ j ∧ j < K.PL_LOG + 512) || j == K.PL_LOG_HEAD

/-- The record of a command's latest execution (R7, R534): argument with its reserved bits zero, result, VALUE, count, frame, requester. -/
def recordOf (s : State) (w : Who) (k arg code value : Nat) : List (Nat × Nat) :=
  [(k, clearFields arg (argReserved k) % 2 ^ 64), (k + 1, clearFields arg (argReserved k) / 2 ^ 64 % 2 ^ 64), (k + 2, code), (k + 3, value),
   (k + 4, s.g (k + 4) + 1), (k + 5, s.fn), (k + 6, identityOf w)]

/-- A command answers a result code and a VALUE, its record is kept, and beside the record it writes the objects listed. -/
def Answers (s t : State) (w : Who) (k arg code value : Nat) (l : List (Nat × Nat)) : Prop :=
  t.out = [.result code value] ∧ Writes s t (recordOf s w k arg code value ++ l)

/-- A Tenon frame as it goes out on a link: its header and itself (R494). -/
def State.tenon (s : State) (k : Nat) (o : Out) : Out := .tenon (headerOf (payloadOf (s.link k).sentN o) o) o

/-- A link whose line has taken a Tenon frame (R500). -/
def State.lineWith (s : State) (k : Nat) (o : Out) : LinkHid :=
  { s.link k with busy := (s.link k).busy + frameBlocks (s.link k).sentN o, sentN := (s.link k).sentN + 1 }

/-- The MGMT and EVENT frames that wait on a link: they have no route when its line goes (R499). -/
def State.unsent (s : State) (k : Nat) : Nat := ((s.link k).sends.filter (fun x => 1 ≤ sendClass x.2)).length

/-- What a pad holds once its clock has stopped, low from a time on (R315, R348). -/
def PadHid.stopped (h : PadHid) (t : Nat) : PadHid := { h with closing := false, prev := h.wave, wave := none, fell := t, parkUp := none }

/-- The reads of a bank's active page write have been asked of the host, or it has none to ask (R280). -/
def State.readsAsked (s : State) (b : Nat) : Bool :=
  (s.unit b 8).active.all (fun o => o.code == 3 || (s.xferOf o.ppn).all (·.asked))

/-- No operation at a bank, or of the mover, has met its end condition (R279). -/
def State.noneDead (s : State) (b : Nat) : Bool := [8, 9, 10].all (fun r => (s.unit b r).active.all (fun o => !s.opDead o))

/-- A requester's operations once it has accepted one that preempts none: active from a boundary count on, or waiting (R277). -/
def XUnit.taking (u : XUnit) (o : XOp) (tick : Nat) : XUnit :=
  match u.active with
  | none => { u with active := some { o with since := tick } }
  | some _ => { u with wait := u.wait ++ [o] }

/-- The refresh takes a cycle from the requests: its slot ends with the row still owed (R262). -/
def State.stealsAt (s : State) (b : Nat) : Bool :=
  !(s.arbOf b).row && (s.arbOf b).cycle % s.refreshSlot b + 1 == s.refreshSlot b

/-- A requester goes before every other one of a list (R264). -/
def State.leads (s : State) (b d : Nat) (l : List Nat) : Prop := d ∈ l ∧ ∀ r ∈ l, r ≠ d → s.before b d r = true

/-- Of a list, a requester whose wait has reached its limit has waited longest, the lowest index first (R263). -/
def State.starved1 (s : State) (b d : Nat) (l : List Nat) : Prop :=
  d ∈ l ∧ s.g (K.ARB_LIMIT d) ≤ s.cnt b d ∧ ∀ r ∈ l, s.g (K.ARB_LIMIT r) ≤ s.cnt b r → s.cnt b r < s.cnt b d ∨ (s.cnt b r = s.cnt b d ∧ d ≤ r)

/-- A bank's decision in a cycle, of the entitled requesters and the surplus ones (R262 to R264): 12 the refresh, 13 none. -/
def State.decides (s : State) (b d : Nat) (e u : List Nat) : Prop :=
  if s.stealsAt b = true ∧ e ++ u ≠ [] then d = 12
  else if e.any (fun r => s.g (K.ARB_LIMIT r) ≤ s.cnt b r) then s.starved1 b d e
  else if e ≠ [] then s.leads b d e
  else if u ≠ [] then s.leads b d u
  else d = if (s.arbOf b).row then 13 else 12

/-- What a bank counts of a cycle and its decision (R259, R262, R270). -/
def Counted (s t : State) (b d : Nat) : Prop :=
  (t.arbOf b).cycle = (s.arbOf b).cycle + 1 ∧
  (t.arbOf b).row = (decide ((s.arbOf b).cycle % s.refreshSlot b + 1 ≠ s.refreshSlot b) && (d == 12 || (s.arbOf b).row)) ∧
  (t.arbOf b).refresh = (s.arbOf b).refresh + (if d = 12 then 1 else 0) ∧
  (t.arbOf b).idle = (s.arbOf b).idle + (if d = 13 then 1 else 0) ∧
  (∀ r ∈ List.range 12, (t.arbOf b).granted r = (s.arbOf b).granted r + if d = r then 1 else 0) ∧ ButAt t.arbOf s.arbOf b

/-- What counts an edge withheld of a channel, and of its spare, with its reason and time (R91). -/
def State.withheldObj (s : State) (c k r t : Nat) : List (Nat × Nat) :=
  (if 64 ≤ k then [c, k] else [c]).flatMap (fun x => [(K.CH_LAST_WH_REASON x, r), (K.CH_LAST_WH x, ofTime92 t),
    (atSub (K.CH_WH_LATE x) (r - 1), s.g (atSub (K.CH_WH_LATE x) (r - 1)) + 1), (K.CH_WITHHELD x, s.g (K.CH_WITHHELD x) + 1)])

/-- What a placement pass writes beside edges and their counts: lanes, channel status, proximity frames, the placement log (R104, R105). -/
def passObj (j : Nat) : Bool :=
  plLogObj j || (List.range 64).any (fun c => j == K.CH_LANE c || j == K.CH_STATUS c) || (List.range 72).any (fun k => j == K.IP_PROX_FRAMES k)

/-- The channels that an edge of an input triggers (R79). -/
def State.triggered (s : State) (n : Nat) (rising : Bool) : List Nat :=
  (List.range 64).filter (fun c => s.src c == 2 && s.g (K.TRIG_INPUT c) == n && (s.g (K.TRIG_EDGE c) == 3 || s.g (K.TRIG_EDGE c) == if rising then 1 else 2))

/-- An edge of an input in a burst of a channel is ignored (R81). -/
def State.bursting (s : State) (c t : Nat) : Bool := (s.ch c).burst.any (fun b => (t : Int) < b.till)

/-- Each channel that an edge triggers starts its burst, or counts the edge as ignored (R79, R81). -/
def Triggered (s t : State) (n u : Nat) (rising : Bool) : Prop :=
  (∀ c ∈ List.range 64, t.ch c =
    if c ∈ s.triggered n rising ∧ s.bursting c u = false then
      { s.ch c with burst := some { ts := u, offset := s.gi (K.TRIG_OFFSET c), count := s.g (K.TRIG_COUNT c),
                                    period := s.gi (K.TRIG_PERIOD c), width := s.gi (K.TRIG_WIDTH c), delay := s.gi (K.CH_DELAY c) } }
    else s.ch c) ∧
  t.evMask 38 = s.evMask 38 ||| bitmap ((s.triggered n rising).filter (fun c => s.bursting c u)) ∧ EventsBut s t [38]

/-- What an edge of an input writes for the channels it triggers (R79, R81). -/
def State.triggerObj (s : State) (n u : Nat) (rising : Bool) : List (Nat × Nat) :=
  (s.triggered n rising).flatMap (fun c => if s.bursting c u then [(K.TRIG_IGNORED c, s.g (K.TRIG_IGNORED c) + 1)]
    else [(K.TRIG_LAST c, ofTime92 u), (K.TRIG_ACCEPTED c, s.g (K.TRIG_ACCEPTED c) + 1)])

/-- After, the pads hold what they held, but for the returns counted of those that loop back to an input (R314). -/
def LoopedBack (s t : State) (n : Nat) : Prop :=
  ∀ c ∈ List.range 64, t.pad c = { s.pad c with back := (t.pad c).back } ∧ (s.g (K.PAD_LOOP_REF c) ≠ n → t.pad c = s.pad c)

/-- CH_STATUS of a channel whose bound is unknown, its withholding gate closed or open (R98, R100). -/
def State.pastStatus (s : State) (c : Nat) (closed : Bool) : Nat := setBit (setBit (s.g (K.CH_STATUS c)) 1 true) 3 closed

/-- The objects that an item of a sequencer's line writes as it begins, a stop apart (R194, R201, R205). -/
def State.begun (s : State) (q : Nat) (it : Iter) : List (Nat × Nat) :=
  (if it.kind = 1 then [(K.SQ_ENTRY q, 0xFFFF)]
   else if it.state = 4 then [(K.SQ_REPLAYS q, s.g (K.SQ_REPLAYS q) + 1), (K.SQ_ENTRY q, it.entry)]
   else [(K.SQ_ITER q, it.n), (K.SQ_ENTRY q, it.entry)]) ++ [(K.SQ_STATE q, it.state)] ++
  (if it.under then [(K.SQ_LAST_UNDERRUN_FN q, frameOf (it.start.getD 0)), (K.SQ_UNDERRUNS q, s.g (K.SQ_UNDERRUNS q) + 1)] else []) ++
  (if it.jump then [(K.SQ_JUMP_STATUS q, 4)] else [])

/-- The events of an item that begins: EV048 of an underrun, EV049 of its end, and no other (R201, R205). -/
def BegunEvents (s t : State) (q : Nat) (it : Iter) : Prop :=
  (if it.under then t.evMask 48 = s.evMask 48 ||| 2 ^ q else t.ev 48 = s.ev 48) ∧
  (if it.resume then t.evMask 49 = s.evMask 49 ||| 2 ^ q else t.ev 49 = s.ev 49) ∧ EventsBut s t [48, 49]

/-- The choice of the program after an iteration that ends a sequencer's line (R182). -/
def State.programNext (s : State) (q : Nat) (it : Iter) : Choice :=
  s.nextChoice (joinLoops (s.sq q).loops it) it (s.tested it && s.jumpCond it (s.sq q).outcome)

/-- An item has joined the end of a sequencer's line, final from now on, beginning at a time (R181). -/
def Joins (s t : State) (q b : Nat) (nx : Iter) : Prop :=
  (t.sq q).line = (s.sq q).line ++ [nx] ∧ nx.id = (s.sq q).nextId ∧ nx.start = some b ∧ nx.final = s.tick ∧
  (t.sq q).nextId = (s.sq q).nextId + 1

/-- What a reset leaves of the dictionary: the kept objects as they were, every other one at its default (R518). -/
def ResetObjects (s t : State) : Prop := ∀ j, t.g j = if keptObject j then s.g j else dflt j

/-- The commands that act in M0 (R592 to R594, R629, R654): what puts the part there, what releases it, the test access port. -/
def wakes (c : Instr) : Bool :=
  match c with
  | .powerOn | .supplyBelowThreshold _ | .resetNLow | .resetRelease _ | .thermalRecovery | .jtagInstructionLoad _ | .jtagTestLogicReset => true
  | _ => false

/-- An owner identity is one of PCI Express (R523, R526). -/
def ofPcie (o : Nat) : Bool := o != 0 && identityTransport o == 1

/-- What a loss of the PCI Express link, or a reset of the interface, does to sessions and locks (R526, R528): those of TRANSPORT 1 break,
with nothing staged, and EV109 tells it. -/
def PcieBroken (s t : State) : Prop :=
  (∀ k ∈ List.range 8, t.g (K.SESS_STATE k) = if s.sessLive k && ofPcie (s.g (K.SESS_OWNER k)) then 3 else s.g (K.SESS_STATE k)) ∧
  (∀ k ∈ List.range 8, (s.sessLive k && ofPcie (s.g (K.SESS_OWNER k))) = true → (t.sessOf k).staged = [] ∧ t.g (K.SESS_LAST_BREAK k) = 3) ∧
  (∀ q ∈ List.range 8, t.g (K.SQ_LOCK_OWNER q) = if ofPcie (s.g (K.SQ_LOCK_OWNER q)) then 0 else s.g (K.SQ_LOCK_OWNER q)) ∧
  WritesBut s t (fun j => (List.range 8).any (fun k => j == K.SESS_STATE k || j == K.SESS_LAST_BREAK k || j == K.SQ_LOCK_OWNER k)) [] ∧
  EventsBut s t [52, 106, 109] ∧ t.ev 109 ≠ none

/-- The boot ROM does not run, and a requester has a privilege: a command of the dictionary is then executed (R522, R598). -/
def State.admits (s : State) (w : Who) (need : Nat) : Prop := s.mode ≠ 0 ∧ s.bootRom = false ∧ need ≤ s.privOf w

end Sys2Proof.Machine
end

