-- ==== Sys2Proof/Certificates/Slice0/Obligations.lean ====
section
/-! DEFINITION. What is claimed of the model: for each family of commands where they complete and what they change, frames included.
In a clause the hypotheses speak of the state and the operands alone, and the conclusion that the command answers a next state and which. -/

open Sys2Proof Sys2Proof.Machine

/-- The Spindle locks, loses lock, warns and is switched back to. SPINDLE_LOCK of an acquiring or unlocked Spindle makes SPN_STATE 2 and
restarts the count of frames of lock, changing nothing else (a follower that waits in LOCKING apart). SPINDLE_LOSS_OF_LOCK of a locked
Spindle makes SPN_STATE 3, counts in SPN_UNLOCKS, notes the frame and raises EV016; when the Spindle does not carry the clocks nothing
else changes, and when it does, BYP carries them from then on, with the bounds, the bound flags and the substitutes that follow from it,
the audit blocks begin anew and an anchor run's measurement starts over. SPN_MARGIN_LOW after 1,250,000 frames of low margin sets bit 9
of REPLACE_REASON and raises EV123 and EV019; SPN_MARGIN_RESTORED after as many frames of restored margin clears the bit. Nothing else
changes. SPINDLE_SWITCH_BACK, with BYP carrying the clocks in M3 or later and the Spindle locked for more than 2,500 frames, gives the
clocks back to the Spindle, clears SPN_ON_BYP, takes the BYP term of SR_TERMS into SR_BYP_TERM, ends every Spindle-fed pad's substitute,
and raises EV017 after a loss of lock. No other object changes. (R330, R329, R579, R331, R359, R414) What the rules leave open in it is
the model's choice: log entry 40. -/
def Obligations.SpindleStates : Prop :=
  ∀ (s : State) (q : Nat), 
  (s.mode ≠ 0 → (s.g K.SPN_STATE = 1 ∨ s.g K.SPN_STATE = 3) → (¬(s.g K.STK_STATE = 3 ∧ s.stk.onStack = true)) →
    Gives .spindleLock s (fun t => Writes s t [(K.SPN_STATE, 2)] ∧ t = { s with od := t.od, out := [], spnFrames := 0 })) ∧
  (s.mode ≠ 0 → s.g K.SPN_STATE = 2 → s.clock ≠ .spindle →
    Gives (.spindleLossOfLock q) s (fun t => Writes s t [(K.SPN_LAST_UNLOCK_FN, s.fn), (K.SPN_UNLOCKS, s.g K.SPN_UNLOCKS + 1), (K.SPN_STATE, 3)] ∧
    t = { s.raiseBits 16 1 with od := t.od, out := [], spnFrames := 0, lostLock := true })) ∧
  (s.mode ≠ 0 → s.g K.SPN_STATE = 2 → s.clock = .spindle → (∀ k ∈ List.range 8, s.g (K.CALB_STATE k) ≠ 3 ∧ s.g (K.CALB_STATE k) ≠ 5) →
    Gives (.spindleLossOfLock q) s (fun t => WritesBut s t (fun j => boundObj j || substObj j || j == K.DEV_BOUND_FLAGS || j == atRow K.SR_TERMS 6) [(K.SPN_ON_BYP, 1), (K.SPN_LAST_UNLOCK_FN, s.fn), (K.SPN_UNLOCKS, s.g K.SPN_UNLOCKS + 1), (K.SPN_STATE, 3)] ∧
    t.evMask 16 = s.evMask 16 ||| 1 ∧ EventsBut s t [16, 27] ∧
    t = { s with od := t.od, out := [], raised := t.raised, padHid := t.padHid, bankHid := t.bankHid, ancRun := t.ancRun, spnFrames := 0, lostLock := true, clock := .byp, bypSince := s.tick })) ∧
  (s.mode ≠ 0 → 1250000 ≤ s.marginLow → bit (s.g K.REPLACE_REASON) 9 = false →
    Gives .spnMarginLow s (fun t => Writes s t [(K.REPLACE_REASON, setBit (s.g K.REPLACE_REASON) 9 true)] ∧
    t = { (s.raiseBits 123 512).raiseBits 19 1 with od := t.od, out := [] })) ∧
  (s.mode ≠ 0 → 1250000 ≤ s.marginOk →
    Gives .spnMarginRestored s (fun t => Writes s t [(K.REPLACE_REASON, setBit (s.g K.REPLACE_REASON) 9 false)] ∧
    t = { s with od := t.od, out := [] })) ∧
  (3 ≤ s.mode → s.clock = .byp → s.g K.SPN_ON_BYP ≠ 0 → s.m2Left = true → s.g K.SPN_STATE = 2 → 2500 < s.spnFrames →
    Gives .spindleSwitchBack s (fun t => WritesBut s t (fun j => (s.clockPads 0).any (fun c => j == K.CLK_SUBST c)) [(K.SR_BYP_TERM, s.g (atRow K.SR_TERMS 6)), (K.SPN_ON_BYP, 0)] ∧
    (∀ c ∈ s.clockPads 0, t.g (K.CLK_SUBST c) = 0) ∧
    t = { (if s.lostLock then s.raiseBits 17 1 else s) with od := t.od, out := [], padHid := t.padHid, clock := .spindle, bypResid := true, lostLock := false }))

/-- BYP locks and loses lock, LOSC goes missing and comes back. BYP_LOCK makes BYP_STATE 2 and restarts its count of frames; in M1 on the
on-die oscillator the timescale counts on BYP from then on. BYP_LOSS_OF_LOCK makes BYP_STATE 3, counts in BYP_UNLOCKS, raises EV020 and
takes every clock pad off its substitute; while BYP carries the clocks every bound becomes unknown. LOSC_MISSING of a running device
marks LOSC missing and every bound unknown, puts a Spindle that was not off into HOLD and makes a BYP that was not off lose lock, and
raises EV021 (and EV020). LOSC_PRESENT has both acquire again; when LOSC had never been measured its frequency is one of the three the
part knows. (R334, R337, R594, R328, R332) What the rules leave open in it is the model's choice: log entries 14, 17, 108, 120. -/
def Obligations.BypAndLosc : Prop :=
  ∀ (s : State), s.mode ≠ 0 →
  ((s.g K.BYP_STATE = 1 ∨ s.g K.BYP_STATE = 3) → s.clock ≠ .onDie → (¬(s.mode = 1 ∧ s.host.swept = true)) →
    Gives .bypLock s (fun t => WritesBut s t (fun j => substObj j) [(K.BYP_STATE, 2)] ∧ EventsBut s t [27] ∧
    t = { s with od := t.od, out := [], raised := t.raised, padHid := t.padHid, bypFrames := 0 })) ∧
  ((s.g K.BYP_STATE = 1 ∨ s.g K.BYP_STATE = 3) → s.clock = .onDie →
    Gives .bypLock s (fun t => WritesBut s t (fun j => substObj j) [(K.SPN_ON_BYP, 1), (K.BYP_STATE, 2)] ∧ EventsBut s t [27] ∧
    t = { s with od := t.od, out := [], raised := t.raised, padHid := t.padHid, bypFrames := 0, clock := .byp, bypSince := s.tick, unkLosc := false })) ∧
  (s.g K.BYP_STATE = 2 → s.clock ≠ .byp →
    Gives .bypLossOfLock s (fun t => WritesBut s t (fun j => substObj j) [(K.BYP_UNLOCKS, s.g K.BYP_UNLOCKS + 1), (K.BYP_STATE, 3)] ∧
    (∀ c ∈ List.range 64, s.g (K.CH_SOURCE c) = 4 → t.g (K.CLK_SUBST c) = 0) ∧
    t = { s.raiseBits 20 32 with od := t.od, out := [], padHid := t.padHid, bypFrames := 0, free := t.free })) ∧
  (s.g K.BYP_STATE = 2 → s.clock = .byp → Gives .bypLossOfLock s (fun t => t.g K.BYP_STATE = 3 ∧
    t.g K.BYP_UNLOCKS = s.g K.BYP_UNLOCKS + 1 ∧ t.g K.DEV_BOUND = unknownBound ∧
    (∀ c ∈ List.range 64, t.g (K.CH_BOUND c) = unknownBound) ∧
    WritesBut s t (fun j => boundObj j || substObj j) [(K.BYP_UNLOCKS, s.g K.BYP_UNLOCKS + 1), (K.BYP_STATE, 3)] ∧
    t = { s.raiseBits 20 32 with od := t.od, out := [], padHid := t.padHid, bypFrames := 0, unkByp := true, free := t.free })) ∧
  (2 ≤ s.mode → s.loscMiss = false → Gives .loscMissing s (fun t => t.g K.SPN_STATE = (if s.g K.SPN_STATE = 0 then 0 else 4) ∧
    t.g K.BYP_STATE = (if s.g K.BYP_STATE = 0 then 0 else 3) ∧ t.g K.DEV_BOUND = unknownBound ∧
    (∀ c ∈ List.range 64, t.g (K.CH_BOUND c) = unknownBound) ∧
    WritesBut s t (fun j => boundObj j || substObj j || j == K.BYP_STATE || j == K.SPN_STATE || j == K.BYP_UNLOCKS) [] ∧
    t = { (if s.g K.BYP_STATE = 0 then s.raiseBits 21 33 else (s.raiseBits 21 33).raiseBits 20 32) with od := t.od, out := [], padHid := t.padHid, loscMiss := true, unkLosc := true, spnFrames := 0, bypFrames := t.bypFrames, unkByp := t.unkByp, free := t.free })) ∧
  (s.loscMiss = true → s.g K.LOSC_FREQ ≠ 0 → Gives .loscPresent s (fun t => Writes s t [(K.BYP_STATE, 1), (K.SPN_STATE, 1)] ∧
    t = { s with od := t.od, out := [], loscMiss := false, unkLosc := s.clock == Clock.spindle })) ∧
  (s.loscMiss = true → s.g K.LOSC_FREQ = 0 → Gives .loscPresent s (fun t => 1 ≤ t.g K.LOSC_FREQ ∧ t.g K.LOSC_FREQ ≤ 3 ∧
    WritesBut s t (fun j => j == K.LOSC_FREQ || j == K.SPN_BAND) [(K.BYP_STATE, 1), (K.SPN_STATE, 1)] ∧
    t = { s with od := t.od, out := [], loscMiss := false, unkLosc := s.clock == Clock.spindle, free := s.free + 1 }))

/-- A utility synthesizer locks, settles, restarts and loses lock. UT_LOCK of a UT that waits for lock makes UT_STATE 2 with the frame noted
and begins SETTLE; UT_LOCK_TIMEOUT raises EV025 and selects a band row again, waiting for lock anew when one contains the frequency,
else holding the UT in UNLOCKED without a row; UT_SETTLE_END lets it wait for its restart. Nothing else changes. UT_RESTART at a
boundary that R340 allows makes UT_STATE 3, sets UT_PHASE_DET where R340 gives a P and no spread is on, takes the UT's pads off their
substitutes (a running one is gated), judges them by their bounds, opens those that may open, and raises EV023 after a loss of lock.
UT_LOSS_OF_LOCK of a running UT counts in UT_UNLOCKS, raises EV022 and holds the UT unlocked, waiting for lock in a band row when one
contains the frequency of UT_NINT and UT_NFRAC. (R350, R351, R340, R358) What the rules leave open in it is the model's choice: log
entries 17, 112, 113, 114, 115. -/
def Obligations.UtStates : Prop :=
  ∀ (s : State) (u r : Nat), s.mode ≠ 0 → u < 4 →
  ((s.ut u).step = 3 → Gives (.utLock u) s (fun t => Writes s t [(K.UT_LAST_LOCK_FN u, s.fn), (K.UT_STATE u, 2)] ∧
    t = { s.setUt u { s.ut u with step := 4, settle := s.tick + framesOfUs (s.g (K.UT_SETTLE u)) } with od := t.od, out := [] })) ∧
  ((s.ut u).step = 3 → (s.ut u).lockBy ≤ s.tick → s.pickBand u (s.ut u).num = some r →
    Gives (.utLockTimeout u) s (fun t => WritesBut s t (fun j => j == K.UT_FREQ_NOW u || j == K.UT_MARGIN_PPM u) [(K.UT_BAND u, r)] ∧
    t = { (s.raiseBits 25 (2 ^ (u + 1))).setUt u { s.ut u with step := 3, lockBy := s.tick + 12500, short := false, row := s.bandRow u r, tref := s.gi (K.UT_BAND_TREF u) } with od := t.od, out := [], free := t.free })) ∧
  ((s.ut u).step = 3 → (s.ut u).lockBy ≤ s.tick → s.pickBand u (s.ut u).num = none →
    Gives (.utLockTimeout u) s (fun t => WritesBut s t (fun j => substObj j) [(K.UT_MARGIN_PPM u, 0), (K.UT_BAND u, 255), (K.UT_STATE u, 5)] ∧
    EventsBut s t [25, 27, 28] ∧
    t = { s.setUt u { s.ut u with step := 2, short := true, fromSub := true } with od := t.od, out := [], raised := t.raised, padHid := t.padHid })) ∧
  ((s.ut u).step = 4 → (s.ut u).settle ≤ s.tick →
    Gives (.utSettleEnd u) s (fun t => t = { s.setUt u { s.ut u with step := 5 } with out := [] })) ∧
  ((s.ut u).step = 5 → s.phiHere u = true →
    Gives (.utRestart u) s (fun t => WritesBut s t (fun j => (s.clockPads (u + 1)).any (fun c => j == K.CLK_SUBST c || j == K.CLK_GATED c || j == K.PAD_LEVEL c || j == K.CH_BOUND c || j == K.CH_STATUS c)) [(K.UT_PHASE_DET u, b2n ((s.phiFrames u).isSome && !s.spread u)), (K.UT_STATE u, 3)] ∧
    (∀ c ∈ s.clockPads (u + 1), t.g (K.CLK_SUBST c) = 0 ∧ (s.gb (K.CLK_SUBST c) = true → s.g (K.CLK_GATED c) = 0 →
    (t.pad c).closing = true)) ∧ t.evMask 23 = (if (s.ut u).fromSub then s.evMask 23 ||| 2 ^ (u + 1) else s.evMask 23) ∧
    EventsBut s t [23] ∧
    t = { s.setUt u { s.ut u with step := 0, fromSub := false, det := (s.phiFrames u).isSome && !s.spread u, acc := s.fn % 1250000 * (s.ut u).num } with od := t.od, out := t.out, raised := t.raised, padHid := t.padHid })) ∧
  (s.g (K.UT_ENABLE u) ≠ 0 → 2 ≤ s.g (K.UT_STATE u) → s.g (K.UT_STATE u) ≤ 4 →
    Gives (.utLossOfLock u) s (fun t => WritesBut s t (fun j => j == K.UT_FREQ_NOW u || j == K.UT_MARGIN_PPM u || j == K.UT_BAND u || substObj j) [(K.UT_STATE u, 5), (K.UT_UNLOCKS u, s.g (K.UT_UNLOCKS u) + 1)] ∧
    t.evMask 22 = s.evMask 22 ||| 2 ^ (u + 1) ∧ EventsBut s t [22, 27, 28] ∧ (t.ut u).steer = none ∧ (t.ut u).num = s.utNum u ∧
    (t.ut u).step = (if (s.pickBand u (s.utNum u)).isSome then 3 else 2) ∧
    t = { s with od := t.od, out := [], raised := t.raised, padHid := t.padHid, utHid := t.utHid, free := t.free }))

/-- Clock gates open and close, and a band is measured. CLOCK_GATE_CLOSE of a closing pad whose falling edge lies in the frame gates it and
leaves it low from that edge (off where its driver is off); when no relock waits for it nothing else changes. CLOCK_GATE_OPEN of a pad
that may open ungates it with its pad high: from the first rising edge of its clock at or after the boundary it carries that clock, and
a pad that stood at a HIGH park level falls half a period of the slower clock before. Nothing else changes. UT_BAND_MEASURE of a
disabled UT answers OK with the two measured ends as its VALUE and notes the die temperature; of an enabled one it answers STATE. Its
record is kept, and nothing else changes. (R300, R301, R348, R342, R534) What the rules leave open in it is the model's choice: log
entries 13, 17, 108, 109, 110, 111. -/
def Obligations.ClockGatesAndBands : Prop :=
  ∀ (s : State) (c : Nat) (w : Who) (u code fLo fHi : Nat), 
  (s.mode ≠ 0 → c < 64 → s.fallsNow c = true → (s.g (K.CLK_SRC c) = 0 ∨ (s.ut (s.g (K.CLK_SRC c) - 1)).step ≠ 1) →
    Gives (.clockGateClose c) s (fun t => Writes s t [(K.CLK_GATED c, 1), (K.PAD_LEVEL c, if s.g (K.PAD_LEVEL c) = 2 then 2 else 0)] ∧
    t = { s.setPad c { s.pad c with closing := false, prev := (s.pad c).wave, wave := none, fell := s.fallAt c, parkUp := none } with od := t.od, out := [.clockDown c (s.linear (s.fallAt c))] })) ∧
  (s.mode ≠ 0 → c < 64 → s.fallsNow c = true → Gives (.clockGateClose c) s (fun t => t.g (K.CLK_GATED c) = 1 ∧
    t.g (K.PAD_LEVEL c) = (if s.g (K.PAD_LEVEL c) = 2 then 2 else 0) ∧ (t.pad c).closing = false ∧ (t.pad c).wave = none ∧
    (t.pad c).prev = (s.pad c).wave ∧ (t.pad c).fell = s.fallAt c ∧ (t.pad c).parkUp = none ∧
    t.out = [.clockDown c (s.linear (s.fallAt c))] ∧ EventsBut s t [27, 28])) ∧
  (s.mode ≠ 0 → c < 64 → s.mayOpen c = true → Gives (.clockGateOpen c) s (fun t => Writes s t [(K.PAD_LEVEL c, 1), (K.CLK_GATED c, 0)] ∧
    t = { s.setPad c { s.pad c with carried := true, closing := false, wave := some (s.nextWave c), up := s.qTick + (s.nextWave c).rise 0, parkUp := none } with od := t.od, out := (if (s.pad c).parkUp.isSome then [.clockDown c (s.frameStart + (s.nextWave c).rise 0 - s.slower c (s.nextWave c) / 2)] else []) ++ [.clockUp c (s.linear (s.qTick + (s.nextWave c).rise 0)) (s.nextWave c) (s.inverted c)], free := if s.gb (K.CLK_SUBST c) then s.free + 2 else s.free })) ∧
  (s.admits w 1 → u < 4 → s.g (K.UT_ENABLE u) = 0 →
    Gives (.utBandMeasure w u code fLo fHi) s (fun t => Answers s t w (K.UT_BAND_MEASURE u) code RC.ok (fLo % 2 ^ 32 * 2 ^ 32 + fHi % 2 ^ 32) [(K.UT_MEAS_TEMP u, ofI64 (satI64 (Config.dieTemp s.meas.temps)))] ∧
    t = { s with od := t.od, out := t.out })) ∧
  (s.admits w 1 → u < 4 → s.g (K.UT_ENABLE u) ≠ 0 →
    Gives (.utBandMeasure w u code fLo fHi) s (fun t => Answers s t w (K.UT_BAND_MEASURE u) code RC.state 0 [] ∧
    t = { s with od := t.od, out := t.out }))

/-- A slot without a signal, and a slot without a sample. SLOT_NO_SIGNAL of a physical slot whose signal is gone sets bit 0 of SLOT_DISQ,
loses its prediction (no samples, SLOT_TIE_RMS unknown) and raises EV000 with the slot's bit; SLOT_SAMPLE_TIMEOUT of a link or host slot
whose sample is late sets bit 6 of SLOT_DISQ. Nothing else changes. (R370, R373) What the rules leave open in it is the model's choice:
log entries 15, 86, 116, 117. -/
def Obligations.SlotSignals : Prop :=
  ∀ (s : State) (n : Nat), s.mode ≠ 0 →
  (1 ≤ s.slotType n → s.slotType n ≤ 4 → (s.slot n).noSig = false → s.signalGone n = true →
    Gives (.slotNoSignal n) s (fun t => Writes s t [(K.SLOT_DISQ n, setBit (s.g (K.SLOT_DISQ n)) 0 true), (K.SLOT_TIE_RMS n, unknownBound)] ∧
    t.slot n = { s.slot n with samples := [], noSig := true } ∧ ButAt t.slot s.slot n ∧
    t = { s.raiseBits 0 (2 ^ n) with od := t.od, out := [], slots := t.slots })) ∧
  ((s.slotType n = 5 ∨ s.slotType n = 6) → s.sampleLate n = true →
    Gives (.slotSampleTimeout n) s (fun t => Writes s t [(K.SLOT_DISQ n, setBit (s.g (K.SLOT_DISQ n)) 6 true)] ∧
    t = { s.setSlot n { s.slot n with timedOut := true } with od := t.od, out := [] }))

/-- Qualification and wait-to-restore of a slot end. SLOT_QUAL_EXPIRY moves a slot that was AVAILABLE before to WAIT (3) with its full
wait-to-restore, and one that never was to AVAILABLE (4) with EV002; SLOT_WTR_EXPIRY and SLOT_CLEAR_WTR make a waiting slot AVAILABLE
with EV002; SLOT_CLEAR_WTR in another state answers STATE. Nothing else changes. (R376, R377, R397) -/
def Obligations.SlotQualifies : Prop :=
  ∀ (s : State) (w : Who) (n : Nat), s.mode ≠ 0 →
  (s.g (K.SLOT_STATE n) = 2 → (s.slot n).qual = 0 → (s.slot n).everAvail = true →
    Gives (.slotQualExpiry n) s (fun t => Writes s t [(K.SLOT_WTR_LEFT n, s.g (K.SLOT_WTR n)), (K.SLOT_STATE n, 3)] ∧
    t = { s.setSlot n { s.slot n with wtr := s.g (K.SLOT_WTR n) * 1250000 } with od := t.od, out := [] })) ∧
  (s.g (K.SLOT_STATE n) = 2 → (s.slot n).qual = 0 → (s.slot n).everAvail = false →
    Gives (.slotQualExpiry n) s (fun t => Writes s t [(K.SLOT_STATE n, 4)] ∧
    t = { (s.raiseBits 2 (2 ^ n)).setSlot n { s.slot n with everAvail := true, wtr := 0 } with od := t.od, out := [] })) ∧
  (s.g (K.SLOT_STATE n) = 3 → (s.slot n).wtr = 0 → Gives (.slotWtrExpiry n) s (fun t => Writes s t [(K.SLOT_STATE n, 4)] ∧
    t = { (s.raiseBits 2 (2 ^ n)).setSlot n { s.slot n with everAvail := true, qual := 0 } with od := t.od, out := [] })) ∧
  (s.admits w 1 → s.g (K.SLOT_STATE n) = 3 →
    Gives (.slotClearWtr w n) s (fun t => Answers s t w (K.SLOT_CLEAR_WTR n) 0 RC.ok 0 [(K.SLOT_STATE n, 4), (K.SLOT_WTR_LEFT n, 0)] ∧
    t = { (s.raiseBits 2 (2 ^ n)).setSlot n { s.slot n with everAvail := true, wtr := 0, qual := 0 } with od := t.od, out := t.out })) ∧
  (s.admits w 1 → s.g (K.SLOT_STATE n) ≠ 3 → Gives (.slotClearWtr w n) s (fun t => Answers s t w (K.SLOT_CLEAR_WTR n) 0 RC.state 0 [] ∧
    t = { s with od := t.od, out := t.out }))

/-- A PPS label and a host sample are taken. SLOT_LABEL answers STATE for a slot that is not PPS and RANGE where no held edge has the
sequence number or the label is 2^43 seconds or more; else it answers OK, sets SLOT_LABELLED, moves SLOT_PHASE by the whole seconds
between the new and the used label, puts the label in force, and raises EV008 when it differs from one given before. HT_SAMPLE of a HOST
slot answers OK, takes the bound and the phase (the servo's error too, of the selected slot), and counts the sample; for another type it
answers STATE, for a frame not of the last second RANGE. Other slots, and every object but those named, stay. (R372, R393, R534) What
the rules leave open in it is the model's choice: log entries 86, 116. -/
def Obligations.SlotLabelsAndSamples : Prop :=
  ∀ (s : State) (w : Who) (n arg f : Nat) (e : SlotEdge), s.admits w 1 →
  (s.slotType n ≠ 1 → Gives (.slotLabel w n arg) s (fun t => Answers s t w (K.SLOT_LABEL n) arg RC.state 0 [] ∧
    t = { s with od := t.od, out := t.out })) ∧
  (s.slotType n = 1 → (s.slot n).edges.find? (fun x => decide (x.seq = arg % 2 ^ 64)) = none →
    Gives (.slotLabel w n arg) s (fun t => Answers s t w (K.SLOT_LABEL n) arg RC.range 0 [] ∧ t = { s with od := t.od, out := t.out })) ∧
  (s.slotType n = 1 → (s.slot n).edges.find? (fun x => decide (x.seq = arg % 2 ^ 64)) = some e → 2 ^ 43 ≤ bits arg 127 80 →
    Gives (.slotLabel w n arg) s (fun t => Answers s t w (K.SLOT_LABEL n) arg RC.range 0 [] ∧ t = { s with od := t.od, out := t.out })) ∧
  (s.slotType n = 1 → (s.slot n).edges.find? (fun x => decide (x.seq = arg % 2 ^ 64)) = some e → bits arg 127 80 < 2 ^ 43 →
    Gives (.slotLabel w n arg) s (fun t => Answers s t w (K.SLOT_LABEL n) arg RC.ok 0 [(K.SLOT_PHASE n, ofI64 (satI64 ((s.slot n).phase + ((bits arg 127 80 : Int) - e.sec) * qSecond * 16))), (K.SLOT_LABELLED n, 1)] ∧
    (t.slot n).phase = (s.slot n).phase + ((bits arg 127 80 : Int) - e.sec) * qSecond * 16 ∧
    (t.slot n).label = some ((bits arg 127 80 : Int), e.t) ∧ ButAt t.slot s.slot n ∧
    t = { (if e.given = true ∧ e.sec ≠ (bits arg 127 80 : Int) then s.raiseBits 8 (2 ^ n) else s) with od := t.od, out := t.out, slots := t.slots })) ∧
  (s.slotType n ≠ 6 → Gives (.htSample w n arg) s (fun t => Answers s t w (K.HT_SAMPLE n) arg RC.state 0 [] ∧
    t = { s with od := t.od, out := t.out })) ∧
  (s.slotType n = 6 → frameOfLow s.fn (bits arg 31 0) = some f → f + 1250000 < s.fn →
    Gives (.htSample w n arg) s (fun t => Answers s t w (K.HT_SAMPLE n) arg RC.range 0 [] ∧ t = { s with od := t.od, out := t.out })) ∧
  (s.slotType n = 6 → frameOfLow s.fn (bits arg 31 0) = some f → s.fn ≤ f + 1250000 →
    Gives (.htSample w n arg) s (fun t => t.out = [.result RC.ok 0] ∧
    WritesBut s t (fun j => j == K.SLOT_FREQ_OFF n || j == K.SLOT_TIE_RMS n || j == K.SLOT_LAST_JUMP n || j == K.HS_SERVO_ERR) (recordOf s w (K.HT_SAMPLE n) arg RC.ok 0 ++ [(K.SLOT_SAMPLES n, s.g (K.SLOT_SAMPLES n) + 1), (K.SLOT_PHASE n, ofI64 (satI64 (toI64 (bits arg 127 64) * 16))), (K.SLOT_SAMPLE_BOUND n, bits arg 63 32)]) ∧
    (t.slot n).phase = toI64 (bits arg 127 64) * 16 ∧ (t.slot n).smpTick = some (s.tick + 1) ∧
    t.servoErr = (if s.g K.HS_SELECTED = n then toI64 (bits arg 127 64) * 16 - s.target else s.servoErr) ∧ ButAt t.slot s.slot n ∧
    EventsBut s t [9] ∧
    t = { s with od := t.od, out := t.out, slots := t.slots, raised := t.raised, free := t.free, newSmp := t.newSmp, within := t.within, servoErr := t.servoErr }))

/-- A selection takes effect, is rejected, and disputes end. SELECTION_CHANGE_EFFECT of a due change to a candidate makes it SELECTED,
counts the switch, notes the frame, ends the absorbed offset and lets the servo start from its phase (EV003); in M4 to M7 a switch of
the steering mode may follow (EV004, EV005); a return whose jump the policy rejects sets its bit of SR_REJECTED and takes it to HOLDOFF
(6), with EV013 and the selection kept. SR_REJECT_CLEAR clears one bit. DISAGREEMENT_END drops the disputes of two slots that have
stayed below 80 % for 10 s, and what they held of each other. Nothing else changes. (R378, R380, R407, R408, R409) What the rules leave
open in it is the model's choice: log entry 41. -/
def Obligations.Selection : Prop :=
  ∀ (s : State) (w : Who) (a b d : Nat) (rest : List (Nat × Nat)), s.mode ≠ 0 →
  (s.selPend = (a, d) :: rest → d ≤ s.tick → a < 28 → a ≠ s.g K.HS_SELECTED → s.isReturn a = false → s.mode = 3 →
    s.g (K.SLOT_STATE a) = 4 →
    Gives .selectionChangeEffect s (fun t => Writes s t [(K.HS_SERVO_ERR, ofI64 (satI64 (if carriesTime (s.slotType a) then (s.slot a).phase else 0))), (K.SLOT_STATE a, 5), (K.HS_LAST_SWITCH_FN, s.fn), (K.HS_SWITCHES, s.g K.HS_SWITCHES + 1), (K.HS_SELECTED, a), (K.SR_ABSORB_TERM, 0), (K.SLOT_STATE (s.g K.HS_SELECTED), if s.g K.HS_SELECTED < 28 ∧
    s.g (K.SLOT_STATE (s.g K.HS_SELECTED)) = 5 then 4 else s.g (K.SLOT_STATE (s.g K.HS_SELECTED)))] ∧
    t = { s.raiseBits 3 (2 ^ a) with od := t.od, out := [], selPend := rest, within := 0, target := if carriesTime (s.slotType a) then 0 else (s.slot a).phase, servoErr := if carriesTime (s.slotType a) then (s.slot a).phase else 0 })) ∧
  (s.selPend = (a, d) :: rest → d ≤ s.tick → a < 28 → a ≠ s.g K.HS_SELECTED → s.isReturn a = false → s.g (K.SLOT_STATE a) = 4 →
    Gives .selectionChangeEffect s (fun t => WritesBut s t (fun j => j == K.MODE_PENDING || j == K.MODE_PENDING_FN) [(K.HS_SERVO_ERR, ofI64 (satI64 (if carriesTime (s.slotType a) then (s.slot a).phase else 0))), (K.SLOT_STATE a, 5), (K.HS_LAST_SWITCH_FN, s.fn), (K.HS_SWITCHES, s.g K.HS_SWITCHES + 1), (K.HS_SELECTED, a), (K.SR_ABSORB_TERM, 0), (K.SLOT_STATE (s.g K.HS_SELECTED), if s.g K.HS_SELECTED < 28 ∧
    s.g (K.SLOT_STATE (s.g K.HS_SELECTED)) = 5 then 4 else s.g (K.SLOT_STATE (s.g K.HS_SELECTED)))] ∧ t.evMask 3 = s.evMask 3 ||| 2 ^ a ∧
    EventsBut s t [3, 4, 5] ∧
    t = { s with od := t.od, out := [], raised := t.raised, selPend := rest, within := 0, target := if carriesTime (s.slotType a) then 0 else (s.slot a).phase, servoErr := if carriesTime (s.slotType a) then (s.slot a).phase else 0, swOn := t.swOn, modePend := t.modePend })) ∧
  (s.selPend = (a, d) :: rest → d ≤ s.tick → a ≠ s.g K.HS_SELECTED → s.isReturn a = true →
    s.g (K.SLOT_JUMP_THRESH a) * 16 < (s.slot a).phase.natAbs → s.g (K.SLOT_JUMP_POLICY a) = 2 →
    Gives .selectionChangeEffect s (fun t => Writes s t [(K.SLOT_STATE a, 6), (K.SR_REJECTED, setBit (s.g K.SR_REJECTED) a true), (K.SR_LAST_RETURN_JUMP, ofI64 (satI64 (s.slot a).phase))] ∧
    t = { s.raiseVal 13 (returnCause a 2 (s.slot a).phase) with od := t.od, out := [], selPend := rest })) ∧
  (s.admits w 1 → a < 28 →
    Gives (.srRejectClear w a) s (fun t => Answers s t w K.SR_REJECT_CLEAR a RC.ok 0 [(K.SR_REJECTED, setBit (s.g K.SR_REJECTED) a false)] ∧
    t = { s with od := t.od, out := t.out })) ∧
  (s.admits w 1 → 28 ≤ a → Gives (.srRejectClear w a) s (fun t => Answers s t w K.SR_REJECT_CLEAR a RC.range 0 [] ∧
    t = { s with od := t.od, out := t.out })) ∧
  (a ≠ b →
    Gives (.disagreementEnd a b) s (fun t => t.disag = s.disag.filter (fun x => !(((x.a == a && x.b == b) || (x.a == b && x.b == a)) && decide (12500000 ≤ x.below))) ∧
    t.g (K.SLOT_DISAGREE_WITH a) = t.disagreeWith a ∧ t.g (K.SLOT_DISAGREE_WITH b) = t.disagreeWith b ∧
    t.g K.HS_DISAGREE = b2n (t.disag.any (·.noArb)) ∧ ((t.disputes a).isEmpty → (t.slot a).dis = false) ∧ ((t.disputes b).isEmpty →
    (t.slot b).dis = false) ∧ (∀ m : Fin 28, m.val ≠ a → m.val ≠ b → t.slot m = s.slot m) ∧
    WritesBut s t (fun j => j == K.SLOT_DISAGREE_WITH a || j == K.SLOT_DISAGREE_WITH b || j == K.HS_DISAGREE || j == K.HS_DISAGREE_TERM) [] ∧
    EventsBut s t [6] ∧ t = { s with od := t.od, out := [], slots := t.slots, disag := t.disag, raised := t.raised }))

/-- The model is learned, steers, and gives way. LEARNING_SAMPLE adds the mean of the second that ended at the present second, drops those
older than the window, and counts what is held in SR_LEARNED with the model written afresh. HOLDOVER_STEER makes the model's word,
rounded either way, the word of the next boundary. HOLD_MAX_EXPIRY asks for M7 at the third next boundary; in M9 or later it only turns
coasting into free-run. Nothing else changes. (R398, R399, R403, R404) What the rules leave open in it is the model's choice: log
entries 8, 15, 118, 119. -/
def Obligations.Coasting : Prop :=
  ∀ (s : State) (x : Int), s.mode ≠ 0 →
  (s.learnDue = true →
    Gives (.learningSample x) s (fun t => t.learn = (s.learn ++ [({ tick := s.tick, m := (s.learnMean x).1, th := tempSum s.meas.temps } : Learn)]).filter (fun e => s.tick < e.tick + s.g K.SR_LEARN_WINDOW * 1250000) ∧
    WritesBut s t (fun j => j == K.SR_F0 || j == K.SR_DRIFT || j == K.SR_TEMPCO || j == K.SR_B_UNC || j == K.SR_C_UNC) [(K.SR_LEARNED, t.learn.length)] ∧
    t = { s with od := t.od, out := [], learn := t.learn, learnN := t.learnN, free := t.free })) ∧
  (s.steerDue = true → Gives .holdoverSteer s (fun t => s.modelScaled - 10000000 < t.steerNext * 10000000 ∧
    t.steerNext * 10000000 < s.modelScaled + 10000000 ∧ t = { s with out := [], steerNext := t.steerNext, free := t.free })) ∧
  (s.mode = 6 → s.modePend = none → s.g K.SR_HOLD_MAX * 1000 < s.g K.SR_HOLD_AGE →
    Gives .holdMaxExpiry s (fun t => Writes s t [(K.MODE_PENDING_FN, s.fn + 3), (K.MODE_PENDING, 7)] ∧
    t = { s with od := t.od, out := [], modePend := some { target := 7, due := s.tick + 3, cause := 3, rank := 3 } })) ∧
  (9 ≤ s.mode → s.calledFor = 6 → s.g K.SR_HOLD_MAX * 1000 < s.g K.SR_HOLD_AGE →
    Gives .holdMaxExpiry s (fun t => t = { s with out := [], coast := 4, coastTick := s.tick }))

/-- Epoch Records are built, emitted and skipped. EPOCH_RECORD_BUILD at a second boundary forms the record of the next number and holds it
for signing, with every object unchanged. EPOCH_RECORD_SKIPPED drops one still held at a second boundary, counts it in ER_SKIPPED and
raises EV015 with its number. EPOCH_RECORD_EMIT makes the record with its signature ER_LATEST, its row of ER_HISTORY and ER_SEQ. (R420,
R422, R423, R425) What the rules leave open in it is the model's choice: log entries 12, 83. -/
def Obligations.EpochRecords : Prop :=
  ∀ (s : State) (rec_ : List Byte) (q : Nat), s.mode ≠ 0 →
  (2 ≤ s.mode → s.fn % 1250000 = 0 → s.erBuild = none →
    Gives .epochRecordBuild s (fun t => t = { s with out := [], erCount := s.erCount + 1, stepped := false, erBuild := some (s.erBytes (s.g K.ER_BOOT * 2 ^ 32 + (s.erCount + 1) % 2 ^ 32), s.g K.ER_BOOT * 2 ^ 32 + (s.erCount + 1) % 2 ^ 32) } ∧
    (s.erBytes (s.g K.ER_BOOT * 2 ^ 32 + (s.erCount + 1) % 2 ^ 32)).length = 64)) ∧
  (s.erBuild = some (rec_, q) → s.fn % 1250000 = 0 →
    Gives .epochRecordSkipped s (fun t => Writes s t [(K.ER_SKIPPED, s.g K.ER_SKIPPED + 1)] ∧
    t = { s.raiseVal 15 q with od := t.od, out := [], erBuild := none })) ∧
  (s.erBuild = some (rec_, q) → (∀ p ∈ [0, 1, 2, 3], s.g (K.QP_STATE p) = 0) → s.chans = [] →
    Gives .epochRecordEmit s (fun t => Writes s t [(K.ER_SEQ, q), (atRow K.ER_HISTORY (q % 64), ofLe (rec_ ++ beBytes 64 (Config.epochSignature rec_))), (K.ER_LATEST, ofBe (rec_ ++ beBytes 64 (Config.epochSignature rec_)))] ∧
    t = { s with od := t.od, out := [], erBuild := none }))

/-- First alignment and a step of the timescale. TS_STEP in M9 with every sequencer stopped accepts a whole number of frames for the third
next boundary; it answers STATE elsewhere and RANGE for a part of a frame or where the boundary at which it would take effect would come
before time zero or at 2^43 s or later. TS_STEP_EFFECT then moves the frame number by it, counts it in TS_STEP_COUNT, gates the
Spindle-fed clocks and marks the next record STEPPED. FIRST_ALIGNMENT moves the frame number to the aligned time and takes the same from
the servo's error, makes TS_STATE ALIGNED, notes the frame in HS_ALIGN_FN and raises EV007. (R43, R51, R387, R599, R600) What the rules
leave open in it is the model's choice: log entry 86. -/
def Obligations.TimescaleMoves : Prop :=
  ∀ (s : State) (w : Who) (arg d : Nat) (k : Int), s.mode ≠ 0 →
  (s.admits w 3 → s.mode = 9 → (∀ q ∈ List.range 8, s.g (K.SQ_STATE q) = 0) → s.tsStep = none → toI64 arg = k * (qFrame : Int) →
    0 ≤ (s.fn : Int) + 3 + k → (s.fn : Int) + 3 + k < 2 ^ 43 * 1250000 →
    Gives (.tsStep w arg) s (fun t => Answers s t w K.TS_STEP arg RC.accepted 0 [] ∧
    t = { s with od := t.od, out := t.out, tsStep := some (k, s.tick + 3) })) ∧
  (s.admits w 3 → (s.mode ≠ 9 ∨ s.tsStep.isSome = true) → Gives (.tsStep w arg) s (fun t => Answers s t w K.TS_STEP arg RC.state 0 [] ∧
    t = { s with od := t.od, out := t.out })) ∧
  (s.admits w 3 → s.mode = 9 → (∀ q ∈ List.range 8, s.g (K.SQ_STATE q) = 0) → s.tsStep = none → toI64 arg % (qFrame : Int) ≠ 0 →
    Gives (.tsStep w arg) s (fun t => Answers s t w K.TS_STEP arg RC.range 0 [] ∧ t = { s with od := t.od, out := t.out })) ∧
  (s.admits w 3 → s.mode = 9 → (∀ q ∈ List.range 8, s.g (K.SQ_STATE q) = 0) → s.tsStep = none → toI64 arg = k * (qFrame : Int) →
    ((s.fn : Int) + 3 + k < 0 ∨ 2 ^ 43 * 1250000 ≤ (s.fn : Int) + 3 + k) →
    Gives (.tsStep w arg) s (fun t => Answers s t w K.TS_STEP arg RC.range 0 [] ∧ t = { s with od := t.od, out := t.out })) ∧
  (s.tsStep = some (k, d) → d ≤ s.tick → Gives .tsStepEffect s (fun t => t.g K.TS_FN = ((s.fn : Int) + k).toNat ∧
    t.g K.TS_NOW = ofTime92 (((s.fn : Int) + k).toNat * qFrame) ∧ t.g K.TS_STEP_COUNT = s.g K.TS_STEP_COUNT + 1 ∧
    (∀ c ∈ s.clockPads 0, (t.pad c).closing = true ∨ t.g (K.CLK_GATED c) ≠ 0) ∧ t.tsStep = none ∧ t.stepped = true ∧ t.tick = s.tick ∧
    t.vmem = s.vmem ∧ t.slotBytes = s.slotBytes ∧ t.mode = s.mode ∧ (∀ q ∈ List.range 8, t.g (K.SQ_STATE q) = s.g (K.SQ_STATE q)) ∧
    (t.g K.STK_STATE = if s.g K.STK_STATE = 7 then 2 else s.g K.STK_STATE))) ∧
  (s.alignDue = true → Gives .firstAlignment s (fun t => t.servoErr = s.servoErr - s.alignFrames * qFrame * 16 ∧
    t.g K.TS_FN = ((s.fn : Int) + s.alignFrames).toNat ∧ t.g K.TS_NOW = ofTime92 (((s.fn : Int) + s.alignFrames).toNat * qFrame) ∧
    t.g K.TS_STATE = 1 ∧ t.g K.HS_ALIGN_FN = t.g K.TS_FN ∧ (∀ q ∈ List.range 8, t.g (K.SQ_STATE q) = 0) ∧
    t.evMask 7 = s.evMask 7 ||| 2 ^ s.g K.HS_SELECTED ∧ t.tick = s.tick ∧ t.vmem = s.vmem ∧ t.slotBytes = s.slotBytes ∧ t.mode = s.mode ∧
    t.g K.TS_STEP_COUNT = s.g K.TS_STEP_COUNT))

/-- A stack master sends, alerts and takes echoes. MARKING_PULSE_SEND at a frame whose number is a multiple of 1,280 sends the 256 bits of
that frame's Marking message and advances TURN; a position that echoed before and has not echoed the pulse before has its DELAY unknown
and leaves STK_MEMBERS and STK_FOLLOWING, and no other object changes. MARKING_ALERT_SEND when a condition of an alert has arisen sends
one, counts it and raises EV099; on a line that carries a message it ends that message. MARK_ECHO_RECEIVE of a position writes its
STK_DELAY, its bits of STK_MEMBERS and STK_FOLLOWING, and raises EV100 when either changes. Nothing else changes. (R472, R474, R475,
R476, R478) What the rules leave open in it is the model's choice: log entries 62, 76, 133. -/
def Obligations.StackMaster : Prop :=
  ∀ (s : State) (p te wd t0 b0 : Nat), s.mode ≠ 0 → s.role = 1 →
  (2 ≤ s.mode → s.fn % 1280 = 0 → s.stk.pulse.all (fun x => x.1 != s.tick) = true → s.stkStart = none → s.silent = [] →
    Gives .markingPulseSend s (fun t => t = { s with out := [.marking (markWord s.markMsg)], stk := { s.stk with turn := (s.stk.turn + 1) % 16, pulse := some (s.tick, s.fn * qFrame), sent := s.advancedBound, steps := s.stk.steps - 1, starts := false, echoed := 0, aborted := false } } ∧
    s.markMsg.fn = s.fn ∧ s.markMsg.turn = s.stk.turn ∧ s.markMsg.delay = s.g (atRow K.STK_DELAY s.stk.turn) ∧ s.markMsg.mmode = s.mode ∧
    s.markMsg.pkind = (if s.g K.LEAP_PENDING = 0 then 0 else 2))) ∧
  (2 ≤ s.mode → s.fn % 1280 = 0 → s.stk.pulse.all (fun x => x.1 != s.tick) = true → s.stkStart = none → p ∈ s.silent →
    Gives .markingPulseSend s (fun t => t.g (atRow K.STK_DELAY p) = 0xFFFFFF ∧ bit (t.g K.STK_MEMBERS) p = false ∧
    bit (t.g K.STK_FOLLOWING) p = false ∧ Sp.get (fun _ => 0) t.stk.run p = 0 ∧
    WritesBut s t (fun j => s.silent.any (fun i => j == atRow K.STK_DELAY i) || j == K.STK_MEMBERS || j == K.STK_FOLLOWING) [] ∧
    EventsBut s t [100] ∧
    t = { s with od := t.od, raised := t.raised, out := [.marking (markWord { s.markMsg with delay := if s.stk.turn ∈ s.silent then 0xFFFFFF else s.markMsg.delay })], stk := { s.stk with turn := (s.stk.turn + 1) % 16, pulse := some (s.tick, s.fn * qFrame), sent := s.advancedBound, steps := s.stk.steps - 1, starts := false, echoed := 0, aborted := false, run := t.stk.run } })) ∧
  (2 ≤ s.mode → s.alertDue = true → Gives .markingAlertSend s (fun t => Writes s t [(K.STK_ALERTS, s.g K.STK_ALERTS + 1)] ∧
    t = { s.raiseVal 99 0 with od := t.od, out := [.alert s.markOnLine], stk := { s.stk with seen := s.alertNow, aborted := s.stk.aborted || s.markOnLine } })) ∧
  (1 ≤ p → p < 16 → s.stk.pulse = some (b0, t0) → 1 ≤ wd → wd ≤ 3 → s.stkStart = none →
    Gives (.markEchoReceive p te wd) s (fun t => Sp.get (fun _ => []) t.stk.trips p = (((te : Int) - t0 - 262144) :: Sp.get (fun _ => []) s.stk.trips p).take 16 ∧
    t.g (atRow K.STK_DELAY p) = (if 3 ≤ Sp.get (fun _ => 0) s.stk.run p ∧ 0 ≤ delayOf (Sp.get (fun _ => []) t.stk.trips p) ∧
    delayOf (Sp.get (fun _ => []) t.stk.trips p) < 0xFFFFFF then (delayOf (Sp.get (fun _ => []) t.stk.trips p)).toNat else 0xFFFFFF) ∧
    bit (t.g K.STK_MEMBERS) p = decide (t.g (atRow K.STK_DELAY p) ≠ 0xFFFFFF) ∧ bit (t.g K.STK_FOLLOWING) p = decide (wd = 1) ∧
    WritesBut s t (fun j => j == atRow K.STK_DELAY p || j == K.STK_MEMBERS || j == K.STK_FOLLOWING) [] ∧ EventsBut s t [100] ∧
    t = { s with od := t.od, out := [], raised := t.raised, stk := { s.stk with trips := t.stk.trips, run := t.stk.run, echoed := setBit s.stk.echoed p true } })) ∧
  (1 ≤ p → p < 16 → s.stk.pulse = some (b0, t0) → wd = 0 → s.stkStart = none →
    Gives (.markEchoReceive p te wd) s (fun t => t.g (atRow K.STK_DELAY p) = 0xFFFFFF ∧ bit (t.g K.STK_MEMBERS) p = false ∧
    bit (t.g K.STK_FOLLOWING) p = false ∧
    WritesBut s t (fun j => j == atRow K.STK_DELAY p || j == K.STK_MEMBERS || j == K.STK_FOLLOWING) [] ∧ EventsBut s t [100] ∧
    t = { s with od := t.od, out := [], raised := t.raised, stk := { s.stk with trips := t.stk.trips, run := t.stk.run, echoed := setBit s.stk.echoed p true } }))

/-- A follower echoes, loses the stack, and sees alerts. MARK_ECHO_SEND answers a pulse 262,144 q later with a width that tells the state,
changing nothing. STACK_ALERT_SEEN counts and makes every bound of a following device unknown (EV099). STACK_REFERENCE_SWITCH in LOCKING
takes the stack's reference, and with the Spindle still locked enters ALIGNING and asks for M8. STACK_CLK_MISSING, and STACK_MSG_TIMEOUT
after 3,840 frames, make a joining follower LOST with EV097; where the Spindle's reference was the stack, STK_FOLLOW_STEER is its word
from the next boundary. (R477, R480, R481, R484, R488) What the rules leave open in it is the model's choice: log entries 77, 78, 130,
134. -/
def Obligations.StackFollower : Prop :=
  ∀ (s : State) (ti : Nat), s.mode ≠ 0 →
  (s.role = 2 →
    Gives (.markEchoSend ti) s (fun t => t = { s with out := [.echo (ti + 262144) (if s.g K.STK_STATE ≠ 5 then 3 else if s.stk.failed.isSome then 2 else 1)] })) ∧
  (s.role = 2 → s.g K.STK_STATE ≠ 4 → s.g K.STK_STATE ≠ 5 →
    Gives .stackAlertSeen s (fun t => Writes s t [(K.STK_ALERTS, s.g K.STK_ALERTS + 1)] ∧
    t = { s.raiseVal 99 (s.g K.STK_POSITION) with od := t.od, out := [] })) ∧
  (s.role = 2 → (s.g K.STK_STATE = 4 ∨ s.g K.STK_STATE = 5) → Gives .stackAlertSeen s (fun t => t.g K.STK_ALERTS = s.g K.STK_ALERTS + 1 ∧
    t.g K.DEV_BOUND = unknownBound ∧ (∀ c ∈ List.range 64, t.g (K.CH_BOUND c) = unknownBound) ∧
    WritesBut s t boundObj [(K.STK_ALERTS, s.g K.STK_ALERTS + 1)] ∧
    t = { s.raiseVal 99 (s.g K.STK_POSITION) with od := t.od, out := [], stkAlert := true })) ∧
  (s.g K.STK_STATE = 3 → s.stk.onStack = false → s.g K.SPN_STATE ≠ 2 →
    Gives .stackReferenceSwitch s (fun t => t = { s with out := [], stk := { s.stk with onStack := true } })) ∧
  (s.g K.STK_STATE = 3 → s.stk.onStack = false → s.g K.SPN_STATE = 2 → 2 ≤ s.mode → s.mode ≤ 7 → s.modePend = none →
    Gives .stackReferenceSwitch s (fun t => Writes s t [(K.MODE_PENDING_FN, s.fn + 3), (K.MODE_PENDING, 8), (K.STK_STATE, 4)] ∧
    t = { s with od := t.od, out := [], stk := { s.stk with onStack := true }, modePend := some { target := 8, due := s.tick + 3, cause := 4, rank := 1 } })) ∧
  (s.role = 2 → s.joining = false →
    Gives .stackClkMissing s (fun t => t = { s with out := [], stk := { s.stk with clkMiss := true, okRun := 0 } })) ∧
  (s.role = 2 → s.joining = true → s.mode ≠ 8 → s.modePend = none →
    Gives .stackClkMissing s (fun t => Writes s t [(K.STK_LOSSES, s.g K.STK_LOSSES + 1), (K.STK_STATE, 6)] ∧
    t = { s.raiseVal 97 (s.g K.STK_POSITION) with od := t.od, out := [], stkAlert := false, steerNext := t.steerNext, stk := { s.stk with clkMiss := true, okRun := 0, joined := false, offs := [], take := none, utc := none, onStack := false, left := if s.stk.onStack then 0 else s.stk.left } } ∧
    (s.stk.onStack = true → t.steerNext = s.gi K.STK_FOLLOW_STEER) ∧ (s.stk.onStack = false → t.steerNext = s.steerNext))) ∧
  (s.role = 2 → s.joining = true → s.mode = 8 → s.modePend = none → s.stk.last.all (fun x => x + 3840 ≤ s.tick) = true →
    Gives .stackMsgTimeout s (fun t => Writes s t [(K.MODE_PENDING_FN, s.fn + 3), (K.MODE_PENDING, s.coastMode), (K.STK_LOSSES, s.g K.STK_LOSSES + 1), (K.STK_STATE, 6)] ∧
    t = { s.raiseVal 97 (s.g K.STK_POSITION) with od := t.od, out := [], stkAlert := false, steerNext := t.steerNext, modePend := some { target := s.coastMode, due := s.tick + 3, cause := 4, rank := 1 }, stk := { s.stk with okRun := 0, joined := false, offs := [], take := none, utc := none, onStack := false, left := if s.stk.onStack then 0 else s.stk.left } } ∧
    (s.stk.onStack = true → t.steerNext = s.gi K.STK_FOLLOW_STEER) ∧ (s.stk.onStack = false → t.steerNext = s.steerNext)))

/-- A follower takes Marking messages. A message, read from its 256 bits with its CRC and VERSION, that is not valid counts in
STK_MSG_ERRORS with EV098. A valid one of a device that neither follows nor is about to counts in STK_MSGS, gives the bound and flags of
the master, ends an alert, and, as the second in a row while SEARCHING or LOST, takes STK_STATE to LOCKING (3). A message that names the
own position gives its delay. Nothing else changes. A message that was sent reads back, every field of it. (R474, R479, R480, R486) What
the rules leave open in it is the model's choice: log entries 77, 134. -/
def Obligations.MarkingMessages : Prop :=
  ∀ (s : State) (w : Nat) (clean : Bool) (m x : MarkMsg) (ti : Nat), s.mode ≠ 0 → s.role = 2 → readMark w clean = m →
  (m.good = false → Gives (.markingMessageReceive ⟨w, clean⟩ ti) s (fun t => Writes s t [(K.STK_MSG_ERRORS, s.g K.STK_MSG_ERRORS + 1)] ∧
    t = { s.raiseVal 98 (s.g K.STK_POSITION) with od := t.od, out := [], stk := { s.stk with okRun := 0 } })) ∧
  (m.good = true → m.turn ≠ s.g K.STK_POSITION → s.stk.own = 0xFFFFFF →
    Gives (.markingMessageReceive ⟨w, clean⟩ ti) s (fun t => Writes s t [(K.STK_MSG_ERRORS, s.g K.STK_MSG_ERRORS + 1)] ∧
    t = { s.raiseVal 98 (s.g K.STK_POSITION) with od := t.od, out := [], stk := { s.stk with okRun := 0 } })) ∧
  (m.good = true → m.turn = s.g K.STK_POSITION → m.delay ≠ 0xFFFFFF → (s.g K.STK_STATE = 2 ∨ s.g K.STK_STATE = 6) → s.effMode ≠ 8 →
    Gives (.markingMessageReceive ⟨w, clean⟩ ti) s (fun t => Writes s t [(K.STK_STATE, if 1 ≤ s.stk.okRun then 3 else s.g K.STK_STATE), (K.STK_MSGS, s.g K.STK_MSGS + 1)] ∧
    t.stk.own = m.delay ∧ t.stk.okRun = s.stk.okRun + 1 ∧ t.stk.last = some (s.tick - (s.fn - frameOf ti)) ∧
    t = { s with od := t.od, out := [], stkBound := m.bound, stkCoarse := m.coarse, stkLocal := m.isLocal, stkDepth := m.tdepth, stkAlert := false, stk := t.stk })) ∧
  (x.good = true → x.turn < 16 → x.mmode < 16 → x.fn < 2 ^ 64 → x.bound < 2 ^ 32 → x.delay < 2 ^ 24 → -(2 : Int) ^ 15 ≤ x.utcOffset →
    x.utcOffset < 2 ^ 15 → x.leap < 4 → x.pkind < 4 → x.tdepth < 16 → x.payload < 2 ^ 64 → readMark (markWord x) true = x)

/-- A link comes up, goes down, and carries routes. TN_BLOCK_LOCK takes an enabled link to HELLO; TN_BLOCK_LOCK_LOSS counts and takes it
back to TRAINING, and so does TN_HELLO_MISS at the third miss in a row, an earlier miss only counting. The MGMT and EVENT frames that
wait on such a link count in FAB_NO_ROUTE (EV105). TN_HELLO_SEND hands a hello to the line every 12,500 frames, the root advancing
ROOT_SEQ; a line that is not free lets it wait. A frame with a bad CRC only counts in TN_BLOCK_ERRORS. TN_HELLO_RECEIVE of a peer that
sees this link takes it UP with EV101, of one that does not to HELLO, and of the device itself to FAULT with EV102. A link that leaves
UP counts in TN_DOWNS with its term unknown and EV102, and its routes become unreachable. Nothing else changes on a device out of the
fabric. TN_ROUTE_RECEIVE on a link that is UP changes rows of FAB_ROUTES alone and never the row of the own address; a nearer or newer
row is taken with the link it came over, and over the same link every row is taken or, at 16 hops, made unreachable. A frame with a bad
CRC only counts in TN_BLOCK_ERRORS. TN_ROUTE_SEND sends the vector of every UP link, where the lines are free, a route through the link
poisoned to 16 hops. (R493, R494, R500, R498) What the rules leave open in it is the model's choice: log entries 60, 79, 80, 126, 127,
131. -/
def Obligations.LinksAndRoutes : Prop :=
  ∀ (s : State) (k : Nat) (h : Hello) (r : RouteRow) (rows : List RouteRow), s.mode ≠ 0 →
  (k < 8 → s.g (K.TN_ENABLE k) ≠ 0 → (s.link k).lock = false → Gives (.tnBlockLock k) s (fun t => Writes s t [(K.TN_STATE k, 2)] ∧
    t = { s.setLink k { s.link k with lock := true, rxTick := s.tick, txTick := none, missed := 0 } with od := t.od, out := [] })) ∧
  (k < 8 → (s.link k).lock = true → s.g (K.TN_STATE k) ≠ 3 →
    Gives (.tnBlockLockLoss k) s (fun t => Writes s t [(K.FAB_NO_ROUTE, s.g K.FAB_NO_ROUTE + s.unsent k), (K.TN_STATE k, 1), (K.TN_BLOCK_ERRORS k, s.g (K.TN_BLOCK_ERRORS k) + 1)] ∧
    EventsBut s t [105] ∧ (s.unsent k = 0 → t.raised = s.raised) ∧
    t = { s.setLink k { s.link k with lock := false, missed := 0, clean := 0, hello := none, view := none, sends := [] } with od := t.od, out := [], raised := t.raised })) ∧
  (k < 8 → (s.link k).lock = true → s.g (K.TN_STATE k) = 3 → s.g K.FAB_ENABLE = 0 →
    Gives (.tnBlockLockLoss k) s (fun t => WritesBut s t routeObj [(K.FAB_NO_ROUTE, s.g K.FAB_NO_ROUTE + s.unsent k), (K.TN_LINK_TERM k, unknownBound), (K.TN_DOWNS k, s.g (K.TN_DOWNS k) + 1), (K.TN_STATE k, 1), (K.TN_BLOCK_ERRORS k, s.g (K.TN_BLOCK_ERRORS k) + 1)] ∧
    (∀ a ∈ List.range 4096, t.route a = if bit (s.route a) 63 = true ∧ s.routeLink a = k ∧
    a ≠ s.g K.FAB_ADDR then setBits (s.route a) 63 59 0 else s.route a) ∧ t.ev 102 = (s.raiseVal 102 k).ev 102 ∧
    EventsBut s t [102, 105] ∧
    t = { s.setLink k { s.link k with lock := false, missed := 0, clean := 0, hello := none, view := none, sends := [] } with od := t.od, out := [], raised := t.raised, fab := { s.fab with changed := t.fab.changed } })) ∧
  (k < 8 → (s.link k).lock = true → (s.link k).rxTick + 12500 * ((s.link k).missed + 1) ≤ s.tick → (s.link k).missed < 2 →
    Gives (.tnHelloMiss k) s (fun t => Writes s t [(K.TN_HELLO_MISSED k, s.g (K.TN_HELLO_MISSED k) + 1)] ∧
    t = { s.setLink k { s.link k with missed := (s.link k).missed + 1 } with od := t.od, out := [] })) ∧
  (k < 8 → (s.link k).lock = true → (s.link k).rxTick + 12500 * ((s.link k).missed + 1) ≤ s.tick → 2 ≤ (s.link k).missed →
    s.g (K.TN_STATE k) ≠ 3 →
    Gives (.tnHelloMiss k) s (fun t => Writes s t [(K.FAB_NO_ROUTE, s.g K.FAB_NO_ROUTE + s.unsent k), (K.TN_STATE k, 1), (K.TN_HELLO_MISSED k, s.g (K.TN_HELLO_MISSED k) + 1)] ∧
    EventsBut s t [105] ∧ (s.unsent k = 0 → t.raised = s.raised) ∧
    t = { s.setLink k { s.link k with lock := false, missed := 0, clean := 0, hello := none, view := none, sends := [] } with od := t.od, out := [], raised := t.raised })) ∧
  (k < 8 → (s.link k).lock = true → (s.link k).txTick.all (fun x => x + 12500 ≤ s.tick) = true → s.isRoot = false → s.lineFree k = true →
    Gives (.tnHelloSend k) s (fun t => t = { s.setLink k { s.lineWith k (.hello k (s.ownHello k)) with txTick := some s.tick } with out := [s.tenon k (.hello k (s.ownHello k))] })) ∧
  (k < 8 → (s.link k).lock = true → (s.link k).txTick.all (fun x => x + 12500 ≤ s.tick) = true → s.isRoot = true → s.lineFree k = true →
    Gives (.tnHelloSend k) s (fun t => t = { s.setLink k { s.lineWith k (.hello k { s.ownHello k with rootSeq := s.fab.ownSeq + 1 }) with txTick := some s.tick } with fab := { s.fab with ownSeq := s.fab.ownSeq + 1 }, out := [s.tenon k (.hello k { s.ownHello k with rootSeq := s.fab.ownSeq + 1 })] })) ∧
  (k < 8 → (s.link k).lock = true → (s.link k).txTick.all (fun x => x + 12500 ≤ s.tick) = true → s.isRoot = false →
    s.lineFree k = false →
    Gives (.tnHelloSend k) s (fun t => t = { s.setLink k { s.link k with txTick := some s.tick, sends := (s.link k).sends ++ [(s.tick, .hello k (s.ownHello k))] } with out := [] })) ∧
  (k < 8 → (s.link k).lock = true →
    Gives (.tnHelloReceive k ⟨false, h⟩) s (fun t => Writes s t [(K.TN_BLOCK_ERRORS k, s.g (K.TN_BLOCK_ERRORS k) + 1)] ∧
    t = { s with od := t.od, out := [] })) ∧
  (k < 8 → (s.link k).lock = true → s.g K.FAB_ENABLE = 0 → h.uid ≠ Config.deviceUid → s.farLink k = false → s.g (K.TN_STATE k) = 2 →
    h.seesUid = Config.deviceUid → h.seesLink = k →
    Gives (.tnHelloReceive k ⟨true, h⟩) s (fun t => Writes s t [(K.TN_STATE k, 3), (K.TN_PEER_LINK k, h.link), (K.TN_PEER_UID k, h.uid)] ∧
    (t.link k).hello = some h ∧ (t.link k).rxTick = s.tick ∧ (t.link k).missed = 0 ∧ (t.link k).exch = 0 ∧ (t.link k).asym = none ∧
    ButAt t.link s.link k ∧ t = { s.raiseVal 101 k with od := t.od, out := [], links := t.links })) ∧
  (k < 8 → (s.link k).lock = true → s.g K.FAB_ENABLE = 0 → h.uid ≠ Config.deviceUid → s.farLink k = false → s.g (K.TN_STATE k) = 2 →
    (h.seesUid ≠ Config.deviceUid ∨ h.seesLink ≠ k) →
    Gives (.tnHelloReceive k ⟨true, h⟩) s (fun t => Writes s t [(K.TN_PEER_LINK k, h.link), (K.TN_PEER_UID k, h.uid)] ∧
    (t.link k).hello = some h ∧ ButAt t.link s.link k ∧ t = { s with od := t.od, out := [], links := t.links })) ∧
  (k < 8 → (s.link k).lock = true → s.g K.FAB_ENABLE = 0 → h.uid = Config.deviceUid → s.g (K.TN_STATE k) ≠ 3 → s.g (K.TN_STATE k) ≠ 4 →
    Gives (.tnHelloReceive k ⟨true, h⟩) s (fun t => Writes s t [(K.TN_STATE k, 4), (K.TN_PEER_LINK k, h.link), (K.TN_PEER_UID k, h.uid)] ∧
    (t.link k).clean = 0 ∧ ButAt t.link s.link k ∧ t = { s.raiseVal 102 k with od := t.od, out := [], links := t.links })) ∧
  (s.g K.FAB_ENABLE ≠ 0 → k < 8 → (s.link k).lock = true → s.g (K.TN_STATE k) = 3 →
    Gives (.tnRouteReceive k ⟨true, rows⟩) s (fun t => WritesBut s t (fun j => routeObj j && j != atRow K.FAB_ROUTES (s.g K.FAB_ADDR)) [] ∧
    t = { s with od := t.od, out := [], fab := { s.fab with changed := t.fab.changed } } ∧ (s.fab.changed = true →
    t.fab.changed = true))) ∧
  (s.g K.FAB_ENABLE ≠ 0 → k < 8 → (s.link k).lock = true → s.g (K.TN_STATE k) = 3 → r.addr < 4096 → r.addr ≠ s.g K.FAB_ADDR →
    r.hops < 15 → (r.hops + 1 < s.hopsTo r.addr ∨ (bit (s.route r.addr) 63 = true ∧
    s.routeLink r.addr = k) ∨ (1 ≤ (r.gen + 256 - s.routeGen r.addr) % 256 ∧ (r.gen + 256 - s.routeGen r.addr) % 256 < 128)) →
    Gives (.tnRouteReceive k ⟨true, [r]⟩) s (fun t => Writes s t [(atRow K.FAB_ROUTES r.addr, routeRow (r.hops + 1) k r.gen)])) ∧
  (s.g K.FAB_ENABLE ≠ 0 → k < 8 → (s.link k).lock = true → s.g (K.TN_STATE k) = 3 → r.addr < 4096 → r.addr ≠ s.g K.FAB_ADDR →
    15 ≤ r.hops → bit (s.route r.addr) 63 = true → s.routeLink r.addr = k →
    Gives (.tnRouteReceive k ⟨true, [r]⟩) s (fun t => Writes s t [(atRow K.FAB_ROUTES r.addr, setBits (s.route r.addr) 63 59 0)])) ∧
  (s.g K.FAB_ENABLE ≠ 0 → k < 8 → (s.link k).lock = true →
    Gives (.tnRouteReceive k ⟨false, rows⟩) s (fun t => Writes s t [(K.TN_BLOCK_ERRORS k, s.g (K.TN_BLOCK_ERRORS k) + 1)] ∧
    t = { s with od := t.od, out := [] })) ∧
  (s.g K.FAB_ENABLE ≠ 0 → (s.fab.changed = true ∨ s.fab.routeAt.all (fun x => x + 12500 ≤ s.tick) = true) →
    (∀ i ∈ List.range 8, s.linkUp i = true → s.lineFree i = true) →
    Gives .tnRouteSend s (fun t => (∀ i ∈ List.range 8, t.link i = if s.linkUp i then s.lineWith i (.route i (s.vector i)) else s.link i) ∧
    t = { s with links := t.links, out := (instances 8 s.linkUp).map (fun i => s.tenon i (.route i (s.vector i))), fab := { s.fab with changed := false, routeAt := some s.tick } }))

/-- The root is elected and addresses are leased. FAB_ROOT_TIMEOUT with no other root in sight makes the device root at distance 0 with
address 0 of the next generation. FAB_ADDR_RENEW sends a request toward the root when one is due. TN_LEASE_RECEIVE: a grant for the
device gives it address, generation and lease; a request is passed toward the root with its path remembered; the root grants a free
pinned address with its next generation, for FAB_LEASE seconds, with EV104. A frame leaves at once where its line is free, and one with
a bad CRC only counts in TN_BLOCK_ERRORS. FAB_LEASE_EXPIRY at the root ends a lease and quarantines its address; at the holder it takes
the address away. Nothing else changes. (R495, R496, R497, R500) What the rules leave open in it is the model's choice: log entries 60,
79. -/
def Obligations.RootAndAddresses : Prop :=
  ∀ (s : State) (k j u q pr a : Nat) (f : LeaseFrame), s.mode ≠ 0 → s.g K.FAB_ENABLE ≠ 0 →
  (s.isRoot = false → s.fab.seqTick + 125000 ≤ s.tick → s.fab.root = some (pr, u) →
    (∀ i ∈ List.range 8, (s.link i).view.all (fun v => v.2.1 == u && decide (v.2.2.2 ≤ s.fab.seq)) = true) → 4096 ≤ s.g K.FAB_ADDR →
    Gives .fabRootTimeout s (fun t => Writes s t [(atRow K.FAB_ROUTES 0, routeRow 0 0 ((s.g K.FAB_ADDR_GEN + 1) % 256)), (K.FAB_ADDR_GEN, (s.g K.FAB_ADDR_GEN + 1) % 256), (K.FAB_ADDR, 0), (K.FAB_ROOT_DIST, 0), (K.FAB_ROOT_UID, Config.deviceUid)] ∧
    t.isRoot = true ∧ t.fab.root = some (s.g K.FAB_PRIORITY, Config.deviceUid) ∧ t.fab.dead = some (u, s.fab.seq) ∧ t.fab.lease = none ∧
    EventsBut s t [103, 104] ∧ (∀ i ∈ List.range 8, (t.link i).view = none) ∧
    t = { s with od := t.od, out := [], raised := t.raised, links := t.links, fab := t.fab })) ∧
  (s.fab.link = some j → s.renewDue = true → s.lineFree j = true →
    f = { isGrant := false, uid := Config.deviceUid, pin := s.g K.FAB_ADDR_PIN, addr := s.g K.FAB_ADDR, gen := s.g K.FAB_ADDR_GEN, refused := false, lease := 0 } →
    Gives .fabAddrRenew s (fun t => t = { s.setLink j (s.lineWith j (.lease j f)) with out := [s.tenon j (.lease j f)] })) ∧
  (k < 8 → (s.link k).lock = true → s.g (K.TN_STATE k) = 3 → f.isGrant = true → f.uid = Config.deviceUid → f.refused = false →
    s.isRoot = false → f.addr < 4096 → 4096 ≤ s.g K.FAB_ADDR →
    Gives (.tnLeaseReceive k ⟨true, f⟩) s (fun t => Writes s t [(atRow K.FAB_ROUTES f.addr, routeRow 0 0 f.gen), (K.FAB_ADDR_GEN, f.gen), (K.FAB_ADDR, f.addr)] ∧
    t.fab.lease = some (s.tick, f.lease) ∧
    t = { s.raiseVal 104 f.addr with od := t.od, out := [], fab := { s.fab with lease := t.fab.lease, changed := t.fab.changed } })) ∧
  (k < 8 → (s.link k).lock = true → s.g (K.TN_STATE k) = 3 → f.isGrant = false → s.isRoot = false → s.fab.link = some j →
    s.lineFree j = true →
    Gives (.tnLeaseReceive k ⟨true, f⟩) s (fun t => t = { s.setLink j (s.lineWith j (.lease j f)) with out := [s.tenon j (.lease j f)], fab := { s.fab with paths := Sp.ins s.fab.paths f.uid k } })) ∧
  (k < 8 → (s.link k).lock = true → s.g (K.TN_STATE k) = 3 → f.isGrant = false → s.isRoot = true →
    (∀ p ∈ s.fab.ends, s.leaseUid p.1 ≠ f.uid) → 4096 ≤ f.addr → s.addrFree f.pin = true → s.lineFree k = true →
    Gives (.tnLeaseReceive k ⟨true, f⟩) s (fun t => Writes s t [(atRow K.FAB_LEASES f.pin, 2 ^ 127 + (s.leaseGen f.pin + 1) % 256 * 2 ^ 119 + f.uid % 2 ^ 64)] ∧
    t = { (s.raiseVal 104 f.pin).setLink k (s.lineWith k (.lease k { f with isGrant := true, addr := f.pin, gen := (s.leaseGen f.pin + 1) % 256, refused := false, lease := s.g K.FAB_LEASE })) with od := t.od, out := [s.tenon k (.lease k { f with isGrant := true, addr := f.pin, gen := (s.leaseGen f.pin + 1) % 256, refused := false, lease := s.g K.FAB_LEASE })], fab := { s.fab with ends := Sp.ins s.fab.ends f.pin (s.tick + s.g K.FAB_LEASE * 1250000) } })) ∧
  (k < 8 → (s.link k).lock = true →
    Gives (.tnLeaseReceive k ⟨false, f⟩) s (fun t => Writes s t [(K.TN_BLOCK_ERRORS k, s.g (K.TN_BLOCK_ERRORS k) + 1)] ∧
    t = { s with od := t.od, out := [] })) ∧
  (s.isRoot = true → Sp.find s.fab.ends a = some q → q ≤ s.tick →
    Gives (.fabLeaseExpiry a) s (fun t => Writes s t [(atRow K.FAB_LEASES a, setBit (s.g (atRow K.FAB_LEASES a)) 127 false)] ∧
    t = { s.raiseVal 104 a with od := t.od, out := [], fab := { s.fab with ends := Sp.del s.fab.ends a, quar := s.fab.quar ++ [(a, s.tick + s.retireFrames)] } })) ∧
  (s.isRoot = false → s.g K.FAB_ADDR = a → a < 4096 → s.fab.lease = some (q, j) → q + j * 1250000 ≤ s.tick →
    Gives (.fabLeaseExpiry a) s (fun t => Writes s t [(K.FAB_ADDR, 0xFFFF), (atRow K.FAB_ROUTES a, setBits (s.route a) 63 59 0)] ∧
    t = { s.raiseVal 104 a with od := t.od, out := [], fab := { s.fab with lease := none, changed := t.fab.changed } }))

/-- Two-way time transfer. TN_TIME_SEND sends the 48 bytes of a TIME frame of the next SEQ on a free line and remembers its departure,
changing no object. TN_TIME_RECEIVE of such bytes counts the exchange and remembers the arrival (a bad CRC only counts in
TN_BLOCK_ERRORS); the frame after it, naming a departure held, gives TN_OFFSET and TN_DELAY as half the difference and half the sum of
the two ways, corrected by TN_ASYM, rounded to a neighbour. TN_ASYM_CAL answers STATE unless the link is UP with both references valid,
else OK; what it finds on a link that sends no TIME frames is written at once, and otherwise the measurement begins: the exchange that
brings it to 1,024 values writes their mean, halves to even, and its uncertainty from the argument and the RMS of the values. The bytes
of a TIME frame read back, every field of it. (R500, R501, R502, R506, R534) What the rules leave open in it is the model's choice: log
entries 15, 80, 81, 128, 129. -/
def Obligations.TimeTransfer : Prop :=
  ∀ (s : State) (w : Who) (k x t1 t4 q pr u r : Nat) (f : TimeFrame) (bs : List Byte) (ratio y sum : Int), s.mode ≠ 0 → k < 8 →
  (s.g (K.TN_STATE k) = 3 → s.g (K.TN_TIME_EN k) ≠ 0 → (s.link k).timeAt.all (fun y => y + 1250 ≤ s.tick) = true → s.lineFree k = true →
    f = { seq := ((s.link k).txSeq + 1) % 2 ^ 32, rxSeq := ((s.link k).rxSeq.getD (0, 0)).1, rxTime := ((s.link k).rxSeq.getD (0, 0)).2, txPrev := ((s.link k).departs.headD (0, 0)).2, bound := s.g K.DEV_BOUND, tdepth := s.tdepth, viaYou := s.g K.HS_SELECTED == 16 + k && s.slotType (16 + k) == 5, aligned := s.aligned, calValid := s.g K.CAL_REF_STATE == 1, calRefPhase := s.gi K.CAL_REF_PHASE, arrival := 0, ratio := 0 } →
    Gives (.tnTimeSend k x) s (fun t => t = { s.setLink k { s.lineWith k (.time k (timeBytes f)) with txSeq := ((s.link k).txSeq + 1) % 2 ^ 32, timeAt := some s.tick, departs := ((((s.link k).txSeq + 1) % 2 ^ 32, x) :: (s.link k).departs).take 8 } with out := [s.tenon k (.time k (timeBytes f))] })) ∧
  ((s.link k).lock = true → readTime ⟨bs, u, ratio⟩ = f → s.g (K.TN_STATE k) = 3 → (s.link k).rxSeq = none →
    Gives (.tnTimeReceive k ⟨true, bs, u, ratio⟩) s (fun t => Writes s t [(K.TN_EXCHANGES k, s.g (K.TN_EXCHANGES k) + 1)] ∧
    t = { s.setLink k { s.link k with rxSeq := some (f.seq, f.arrival), calOk := f.calValid } with od := t.od, out := [] })) ∧
  ((s.link k).lock = true → readTime ⟨bs, u, ratio⟩ = f → s.g (K.TN_STATE k) = 3 → (s.link k).rxSeq = some (q, t4) →
    f.seq = (q + 1) % 2 ^ 32 → (s.link k).departs.find? (fun p => p.1 == f.rxSeq) = some (f.rxSeq, t1) → s.slotType (16 + k) ≠ 5 →
    ratio = 0 → (s.link k).asym = none → 0 ≤ (f.rxTime : Int) - t1 + (t4 - f.txPrev) →
    (f.rxTime : Int) - t1 + (t4 - f.txPrev) < 62914560 →
    Gives (.tnTimeReceive k ⟨true, bs, u, ratio⟩) s (fun t => t.g (K.TN_EXCHANGES k) = s.g (K.TN_EXCHANGES k) + 1 ∧
    t.g (K.TN_DELAY k) = ofI64 (satI64 (8 * ((f.rxTime : Int) - t1 + (t4 - f.txPrev)))) ∧
    (∃ o ∈ [(16 * ((f.rxTime : Int) - t1 - (t4 - f.txPrev)) - s.gi (K.TN_ASYM k)) / 2, (16 * ((f.rxTime : Int) - t1 - (t4 - f.txPrev)) - s.gi (K.TN_ASYM k) + 1) / 2], t.g (K.TN_OFFSET k) = ofI64 (satI64 o) ∧
    (t.link k).offs = (((t4 : Int), o) :: (s.link k).offs).take 64) ∧ (t.link k).exch = (s.link k).exch + 1 ∧
    (t.link k).rxSeq = some (f.seq, f.arrival) ∧ ButAt t.link s.link k ∧
    WritesBut s t (fun j => j == K.TN_EXCHANGES k || j == K.TN_OFFSET k || j == K.TN_DELAY k || j == K.TN_LINK_TERM k) [] ∧
    t = { s with od := t.od, out := [], links := t.links, free := t.free })) ∧
  ((s.link k).lock = true → readTime ⟨bs, u, ratio⟩ = f → s.g (K.TN_STATE k) = 3 → (s.link k).rxSeq = some (pr, t4) →
    f.seq = (pr + 1) % 2 ^ 32 → (s.link k).departs.find? (fun p => p.1 == f.rxSeq) = some (f.rxSeq, t1) → s.slotType (16 + k) ≠ 5 →
    ratio = 0 → (s.link k).asym = some (x, 1023, sum, q) → 0 ≤ (f.rxTime : Int) - t1 + (t4 - f.txPrev) →
    (f.rxTime : Int) - t1 + (t4 - f.txPrev) < 62914560 → s.g K.CAL_REF_STATE = 1 → f.calValid = true →
    y = 16 * ((f.rxTime : Int) - t1 - (t4 - f.txPrev)) - 2 * (s.gi K.CAL_REF_PHASE - f.calRefPhase) →
    Gives (.tnTimeReceive k ⟨true, bs, u, ratio⟩) s (fun t => t.g (K.TN_ASYM_RESULT k) = ofI64 (satI64 (roundHalfEven (sum + y) 1024)) ∧
    t.g (K.TN_ASYM_RESULT_UNC k) = capBound (2 * x + ceilSqrt (ceilDiv (9 * (q + y.natAbs ^ 2) * 15625 ^ 2) (32 ^ 2 * 1024 * 262144 ^ 2))) ∧
    (t.link k).asym = none ∧ ButAt t.link s.link k ∧
    WritesBut s t (fun j => j == K.TN_EXCHANGES k || j == K.TN_OFFSET k || j == K.TN_DELAY k || j == K.TN_LINK_TERM k || j == K.TN_ASYM_RESULT k || j == K.TN_ASYM_RESULT_UNC k) [])) ∧
  ((s.link k).lock = true →
    Gives (.tnTimeReceive k ⟨false, bs, u, ratio⟩) s (fun t => Writes s t [(K.TN_BLOCK_ERRORS k, s.g (K.TN_BLOCK_ERRORS k) + 1)] ∧
    t = { s with od := t.od, out := [] })) ∧
  (s.admits w 1 → s.g (K.TN_STATE k) = 3 → s.g K.CAL_REF_STATE = 1 → (s.link k).calOk = true → s.g (K.TN_TIME_EN k) ≠ 0 →
    Gives (.tnAsymCal w k x y r) s (fun t => Answers s t w (K.TN_ASYM_CAL k) x RC.ok 0 [] ∧
    t = { s.setLink k { s.link k with asym := some (x, 0, 0, 0) } with od := t.od, out := t.out })) ∧
  (s.admits w 1 → s.g (K.TN_STATE k) = 3 → s.g K.CAL_REF_STATE = 1 → (s.link k).calOk = true → s.g (K.TN_TIME_EN k) = 0 →
    Gives (.tnAsymCal w k x y r) s (fun t => Answers s t w (K.TN_ASYM_CAL k) x RC.ok 0 [(K.TN_ASYM_RESULT k, ofI64 (satI64 y)), (K.TN_ASYM_RESULT_UNC k, capBound (2 * x + ceilDiv (3 * r) 32))] ∧
    t = { s with od := t.od, out := t.out })) ∧
  (s.admits w 1 → (s.g (K.TN_STATE k) ≠ 3 ∨ s.g K.CAL_REF_STATE ≠ 1 ∨ (s.link k).calOk = false) →
    Gives (.tnAsymCal w k x y r) s (fun t => Answers s t w (K.TN_ASYM_CAL k) x RC.state 0 [] ∧ t = { s with od := t.od, out := t.out })) ∧
  (f.seq < 2 ^ 32 → f.rxSeq < 2 ^ 32 → f.txPrev < 2 ^ 43 * qSecond → f.rxTime < 2 ^ 43 * qSecond → f.bound < 2 ^ 32 → f.tdepth < 16 →
    -(2 : Int) ^ 63 ≤ f.calRefPhase → f.calRefPhase < 2 ^ 63 → readTime ⟨timeBytes f, f.arrival, f.ratio⟩ = f ∧ (timeBytes f).length = 48)

/-- Management frames, outstanding requests and datagrams. A MGMT or EVENT frame past 800 µs, or of another generation of the device's
address, is discarded with its counter and EV105; one for another address goes out on the route's link with AGE and HOPS advanced, where
that line is free; one with a bad CRC only counts in TN_BLOCK_ERRORS; a response of the current generation gives its XID back into
quarantine. XID_TIMEOUT of an XID not in quarantine counts and gives it back. ETH_DATAGRAM_RECEIVE drops the 101st datagram of a period,
takes an unsealed handshake without more, and counts a sealed one of an unknown channel as a replay. Nothing else changes. (R494, R499,
R500, R508, R509, R623) What the rules leave open in it is the model's choice: log entries 27, 60, 80, 126, 127, 132. -/
def Obligations.FabricFrames : Prop :=
  ∀ (s : State) (k x c : Nat) (f : MgmtFrame) (bs : List Byte) (m : WopMsg), s.mode ≠ 0 →
  (k < 8 → (s.link k).lock = true → s.g (K.TN_STATE k) = 3 → 8000 < f.age →
    Gives (.tnMgmtReceive k ⟨true, f⟩) s (fun t => Writes s t [(K.FAB_EXPIRED, s.g K.FAB_EXPIRED + 1)] ∧
    t = { s.raiseVal 105 k with od := t.od, out := [] })) ∧
  (k < 8 → (s.link k).lock = true → s.g (K.TN_STATE k) = 3 → f.age ≤ 8000 → s.g K.FAB_ADDR = f.dst → s.g K.FAB_ADDR_GEN ≠ f.dstGen →
    Gives (.tnMgmtReceive k ⟨true, f⟩) s (fun t => Writes s t [(K.FAB_STALE, s.g K.FAB_STALE + 1)] ∧
    t = { s.raiseVal 105 k with od := t.od, out := [] })) ∧
  (k < 8 → (s.link k).lock = true → s.g (K.TN_STATE k) = 3 → f.age ≤ 8000 → s.g K.FAB_ADDR ≠ f.dst → s.hopsTo f.dst < 16 → f.hops < 15 →
    s.routeGen f.dst = f.dstGen → f.stay ≤ 524288000 →
    f.age + ceilDiv (16 * f.stay + (s.gi (K.TN_DELAY (s.routeLink f.dst))).toNat) 16777216 ≤ 8000 → s.linkUp (s.routeLink f.dst) = true →
    s.lineFree (s.routeLink f.dst) = true →
    Gives (.tnMgmtReceive k ⟨true, f⟩) s (fun t => t = { s.setLink (s.routeLink f.dst) (s.lineWith (s.routeLink f.dst) (.mgmt (s.routeLink f.dst) { f with age := f.age + ceilDiv (16 * f.stay + (s.gi (K.TN_DELAY (s.routeLink f.dst))).toNat) 16777216, hops := f.hops + 1 })) with out := [s.tenon (s.routeLink f.dst) (.mgmt (s.routeLink f.dst) { f with age := f.age + ceilDiv (16 * f.stay + (s.gi (K.TN_DELAY (s.routeLink f.dst))).toNat) 16777216, hops := f.hops + 1 })] })) ∧
  (k < 8 → (s.link k).lock = true → s.g (K.TN_STATE k) = 3 → f.age ≤ 8000 → s.g K.FAB_ADDR ≠ f.dst →
    (16 ≤ s.hopsTo f.dst ∨ 15 ≤ f.hops) →
    Gives (.tnMgmtReceive k ⟨true, f⟩) s (fun t => Writes s t [(K.FAB_NO_ROUTE, s.g K.FAB_NO_ROUTE + 1)] ∧
    t = { s.raiseVal 105 k with od := t.od, out := [] })) ∧
  (k < 8 → (s.link k).lock = true → s.g (K.TN_STATE k) = 3 → f.age ≤ 8000 → s.g K.FAB_ADDR = f.dst → s.g K.FAB_ADDR_GEN = f.dstGen →
    f.event = false → f.response = true → s.xidGenOf f.xid = f.xidGen → s.xidHeld f.xid = false →
    Gives (.tnMgmtReceive k ⟨true, f⟩) s (fun t => t = { s with out := [], fab := { s.fab with xidGen := Sp.ins s.fab.xidGen f.xid ((f.xidGen + 1) % 256), xidQuar := s.fab.xidQuar ++ [(f.xid, s.tick + s.retireFrames)] } })) ∧
  (k < 8 → (s.link k).lock = true →
    Gives (.tnMgmtReceive k ⟨false, f⟩) s (fun t => Writes s t [(K.TN_BLOCK_ERRORS k, s.g (K.TN_BLOCK_ERRORS k) + 1)] ∧
    t = { s with od := t.od, out := [] })) ∧
  (s.xidHeld x = false → Gives (.xidTimeout x) s (fun t => Writes s t [(K.FAB_MGMT_TIMEOUTS, s.g K.FAB_MGMT_TIMEOUTS + 1)] ∧
    t = { s with od := t.od, out := [], fab := { s.fab with xidGen := Sp.ins s.fab.xidGen x ((s.xidGenOf x + 1) % 256), xidQuar := s.fab.xidQuar ++ [(x, s.tick + s.retireFrames)] } })) ∧
  (s.g K.ETH_ENABLE ≠ 0 → 100 ≤ s.host.ethCount →
    Gives (.ethDatagramReceive k x true false bs c m) s (fun t => Writes s t [(K.ETH_RX_DROPPED, s.g K.ETH_RX_DROPPED + 1)] ∧
    t = { s with od := t.od, out := [] })) ∧
  (s.g K.ETH_ENABLE ≠ 0 → s.host.ethCount < 100 →
    Gives (.ethDatagramReceive k x false true bs c m) s (fun t => Writes s t [(K.ETH_RX_DATAGRAMS, s.g K.ETH_RX_DATAGRAMS + 1)] ∧
    t = { s with od := t.od, out := [], host := { s.host with ethCount := s.host.ethCount + 1 } })) ∧
  (s.g K.ETH_ENABLE ≠ 0 → s.host.ethCount < 100 → Sp.find s.chans k = none →
    Gives (.ethDatagramReceive k x true false bs c m) s (fun t => Writes s t [(K.WOP_REPLAYS, s.g K.WOP_REPLAYS + 1), (K.ETH_RX_DATAGRAMS, s.g K.ETH_RX_DATAGRAMS + 1)] ∧
    t = { s with od := t.od, out := [], host := { s.host with ethCount := s.host.ethCount + 1 } }))

/-- Pad detectors declare, clear, probe and resume. PAD_FAULT_DECLARE of a watching detector sets its bit of PAD_DIAG and counts it: a short
takes the driver off (PAD_LEVEL off, gated, PAD_SHUTDOWN 1, EV042); OPEN raises EV043; REVERSED raises EV044 and, with PAD_AUTO_INV, an
inversion follows. PAD_FAULT_CLEAR clears OPEN or REVERSED. PAD_PROBE of a shut-down pad counts, and the third clean one in a row clears
the shorts and lets the driver resume; PAD_DRIVER_RESUME then turns it on at the level of its source with its bound unknown, and judges
the channel by that; a CLOCK pad resumes gated at its park level, OFF counting as LOW. Nothing else changes. (R314, R315) What the rules
leave open in it is the model's choice: log entries 66, 123, 124. -/
def Obligations.PadFaults : Prop :=
  ∀ (s : State) (c d : Nat) (cl : Bool), s.mode ≠ 0 → c < 64 →
  (d < 3 → s.detects c d = true → s.detected c d = true → bit (s.g (K.PAD_DIAG c)) d = false →
    Gives (.padFaultDeclare c d) s (fun t => Writes s t [(K.PAD_SHUTDOWN c, 1), (K.CLK_GATED c, 1), (K.PAD_LEVEL c, 2), (K.PAD_DETECTIONS c, s.g (K.PAD_DETECTIONS c) + 1), (K.PAD_DIAG c, setBit (s.g (K.PAD_DIAG c)) d true)] ∧
    t = { (s.raiseBits 42 (2 ^ c)).setPad c { (s.pad c).stopped (s.tick * qFrame) with probed := s.tick, clean := 0, resume := false } with od := t.od, out := [] })) ∧
  (s.detects c 3 = true → s.detected c 3 = true → bit (s.g (K.PAD_DIAG c)) 3 = false →
    Gives (.padFaultDeclare c 3) s (fun t => Writes s t [(K.PAD_DETECTIONS c, s.g (K.PAD_DETECTIONS c) + 1), (K.PAD_DIAG c, setBit (s.g (K.PAD_DIAG c)) 3 true)] ∧
    t.evMask 43 = s.evMask 43 ||| 2 ^ c ∧ EventsBut s t [43] ∧ t = { s with od := t.od, out := [], raised := t.raised })) ∧
  (s.detects c 4 = true → s.detected c 4 = true → bit (s.g (K.PAD_DIAG c)) 4 = false →
    Gives (.padFaultDeclare c 4) s (fun t => Writes s t [(K.PAD_DETECTIONS c, s.g (K.PAD_DETECTIONS c) + 1), (K.PAD_DIAG c, setBit (s.g (K.PAD_DIAG c)) 4 true)] ∧
    t = { (s.raiseBits 44 (2 ^ c)).setPad c { s.pad c with invert := if s.gb (K.PAD_AUTO_INV c) then some s.tick else none } with od := t.od, out := [] })) ∧
  ((d = 3 ∨ d = 4) → s.detectOver c d = true → bit (s.g (K.PAD_DIAG c)) d = true →
    Gives (.padFaultClear c d) s (fun t => Writes s t [(K.PAD_DIAG c, setBit (s.g (K.PAD_DIAG c)) d false)] ∧
    t = { s with od := t.od, out := [] })) ∧
  (s.g (K.PAD_SHUTDOWN c) ≠ 0 → (s.pad c).probed + 125000 ≤ s.tick →
    Gives (.padProbe c cl) s (fun t => Writes s t [(K.PAD_DIAG c, if cl = true ∧
    2 ≤ (s.pad c).clean then s.g (K.PAD_DIAG c) / 8 * 8 else s.g (K.PAD_DIAG c)), (K.PAD_PROBES c, s.g (K.PAD_PROBES c) + 1)] ∧
    t = { s.setPad c { s.pad c with probed := s.tick, clean := if cl then (s.pad c).clean + 1 else 0, resume := cl && decide (2 ≤ (s.pad c).clean) } with od := t.od, out := [] })) ∧
  (s.g (K.PAD_SHUTDOWN c) ≠ 0 → (s.pad c).resume = true → (s.pad c).probed < s.tick → (s.pad c).waits = false → s.g (K.PAD_FMT c) ≠ 0 →
    s.src c ≠ 4 →
    Gives (.padDriverResume c) s (fun t => Writes s t [(K.CH_STATUS c, s.pastStatus c (decide (s.g (K.CH_POLICY c) = 0))), (K.CH_BOUND c, unknownBound), (K.IP_SETTLING c, 1), (K.PAD_LEVEL c, s.sourceLevel c), (K.PAD_SHUTDOWN c, 0)] ∧
    t.pad c = { s.pad c with resume := false, clean := 0, settle := some s.tick, audited := false } ∧ ButAt t.pad s.pad c ∧
    (t.ch c).bound = some unknownBound ∧ ButAt t.ch s.ch c ∧
    t = { s with od := t.od, out := [], padHid := t.padHid, chHid := t.chHid })) ∧
  (s.g (K.PAD_SHUTDOWN c) ≠ 0 → (s.pad c).resume = true → (s.pad c).probed < s.tick → (s.pad c).waits = false → s.g (K.PAD_FMT c) ≠ 0 →
    s.src c = 4 → s.aux c = false →
    Gives (.padDriverResume c) s (fun t => Writes s t [(K.CH_STATUS c, s.pastStatus c (decide (s.g (K.CH_POLICY c) = 0))), (K.CH_BOUND c, unknownBound), (K.IP_SETTLING c, 1), (K.PAD_LEVEL c, if s.g (K.PAD_PARK c) = 1 then 1 else 0), (K.CLK_GATED c, 1), (K.PAD_SHUTDOWN c, 0)] ∧
    t.pad c = { (s.pad c).stopped (s.tick * qFrame) with resume := false, clean := 0, settle := some s.tick, audited := false, parkUp := if s.g (K.PAD_PARK c) = 1 then some (s.tick * qFrame) else none } ∧
    ButAt t.pad s.pad c ∧ t = { s with od := t.od, out := [], padHid := t.padHid, chHid := t.chHid })) ∧
  (s.g (K.PAD_SHUTDOWN c) ≠ 0 → (s.pad c).resume = true → (s.pad c).probed < s.tick → ((s.pad c).waits = true ∨ s.g (K.PAD_FMT c) = 0) →
    Gives (.padDriverResume c) s (fun t => Writes s t [(K.PAD_SHUTDOWN c, 0)] ∧
    t = { s.setPad c { s.pad c with resume := false, clean := 0 } with od := t.od, out := [] }))

/-- Pads invert, settle, and follow the class of their bank. PAD_AUTO_INVERT toggles the automatic inversion, restarts the REVERSED detector
and makes the pad settle with its bound unknown. PAD_SETTLE_TIMEOUT after 4,096 frames of settling raises EV041 with the pad's bit.
PAD_DRIVER_TURN_ON of a waiting driver whose format the bank's class now accepts turns it on. VDDO_CLASS_CHANGE gives the bank the class
its supply asks for, raises EV114, and takes off every driver whose format the class does not accept. Nothing else changes. (R121, R122,
R317, R641, R645) What the rules leave open in it is the model's choice: log entry 36. -/
def Obligations.PadSettings : Prop :=
  ∀ (s : State) (c k x : Nat), s.mode ≠ 0 →
  (c < 64 → (s.pad c).invert = some x → x < s.tick → s.aux c = false →
    Gives (.padAutoInvert c) s (fun t => Writes s t [(K.CH_STATUS c, s.pastStatus c (decide (s.g (K.CH_POLICY c) = 0 ∨ s.g (K.PAD_SHUTDOWN c) ≠ 0))), (K.CH_BOUND c, unknownBound), (K.IP_SETTLING c, 1), (K.PAD_DIAG c, setBit (s.g (K.PAD_DIAG c)) 4 false), (K.PAD_AUTO_INVERTED c, 1 - s.g (K.PAD_AUTO_INVERTED c))] ∧
    t.pad c = { s.pad c with invert := none, back := (0, 0), settle := some s.tick, audited := false } ∧ ButAt t.pad s.pad c ∧
    (t.ch c).bound = some unknownBound ∧ ButAt t.ch s.ch c ∧
    t = { s with od := t.od, out := [], padHid := t.padHid, chHid := t.chHid })) ∧
  (c < 64 → s.g (K.IP_SETTLING c) ≠ 0 → (s.pad c).settle = some x → x + 4096 ≤ s.tick →
    Gives (.padSettleTimeout c) s (fun t => t = { (s.raiseBits 41 (2 ^ c)).setPad c { s.pad c with settle := none } with out := [] })) ∧
  (c < 64 → (s.pad c).waits = true → fmtAccepts (s.g (K.PAD_FMT c)) (s.g (K.BANK_VDDO_CLASS (c / 8))) = true → s.g (K.PAD_FMT c) ≠ 0 →
    s.g (K.PAD_SHUTDOWN c) = 0 → s.src c ≠ 4 →
    Gives (.padDriverTurnOn c) s (fun t => Writes s t [(K.CH_STATUS c, s.pastStatus c (decide (s.g (K.CH_POLICY c) = 0))), (K.CH_BOUND c, unknownBound), (K.IP_SETTLING c, 1), (K.PAD_LEVEL c, s.sourceLevel c)] ∧
    t.pad c = { s.pad c with waits := false, settle := some s.tick, audited := false } ∧ ButAt t.pad s.pad c ∧ ButAt t.ch s.ch c ∧
    t = { s with od := t.od, out := [], padHid := t.padHid, chHid := t.chHid })) ∧
  (c < 64 → (s.pad c).waits = true → fmtAccepts (s.g (K.PAD_FMT c)) (s.g (K.BANK_VDDO_CLASS (c / 8))) = true → s.g (K.PAD_FMT c) ≠ 0 →
    s.g (K.PAD_SHUTDOWN c) = 0 → s.src c = 4 → s.aux c = false →
    Gives (.padDriverTurnOn c) s (fun t => Writes s t [(K.CH_STATUS c, s.pastStatus c (decide (s.g (K.CH_POLICY c) = 0))), (K.CH_BOUND c, unknownBound), (K.IP_SETTLING c, 1), (K.PAD_LEVEL c, if s.g (K.PAD_PARK c) = 1 then 1 else 0), (K.CLK_GATED c, 1)] ∧
    t.pad c = { (s.pad c).stopped (s.tick * qFrame) with waits := false, settle := some s.tick, audited := false, parkUp := if s.g (K.PAD_PARK c) = 1 then some (s.tick * qFrame) else none } ∧
    ButAt t.pad s.pad c ∧ ButAt t.ch s.ch c ∧ t = { s with od := t.od, out := [], padHid := t.padHid, chHid := t.chHid })) ∧
  (c < 64 → (s.pad c).waits = true → fmtAccepts (s.g (K.PAD_FMT c)) (s.g (K.BANK_VDDO_CLASS (c / 8))) = true →
    (s.g (K.PAD_FMT c) = 0 ∨ s.g (K.PAD_SHUTDOWN c) ≠ 0) →
    Gives (.padDriverTurnOn c) s (fun t => t = { s.setPad c { s.pad c with waits := false } with out := [] })) ∧
  (k < 8 → s.vddoNext k = some x → (∀ i ∈ List.range 8, fmtAccepts (s.g (K.PAD_FMT (8 * k + i))) x = true) →
    Gives (.vddoClassChange k) s (fun t => Writes s t [(K.BANK_VDDO_CLASS k, x)] ∧
    t = { (s.raiseBits 114 (2 ^ k)).setBank k { s.bank k with vOut := 0 } with od := t.od, out := [] })) ∧
  (k < 8 → s.vddoNext k = some x → c / 8 = k → fmtAccepts (s.g (K.PAD_FMT c)) x = false → (s.pad c).waits = false →
    Gives (.vddoClassChange k) s (fun t => t.g (K.BANK_VDDO_CLASS k) = x ∧ t.g (K.PAD_LEVEL c) = 2 ∧ t.g (K.CLK_GATED c) = 1 ∧
    (t.pad c).waits = true ∧ t.evMask 114 = s.evMask 114 ||| 2 ^ k ∧
    WritesBut s t (fun j => j == K.BANK_VDDO_CLASS k || (List.range 8).any (fun i => j == K.PAD_LEVEL (8 * k + i) || j == K.CLK_GATED (8 * k + i))) []))

/-- Inputs, supplies and cores report what is wrong with them. INPUT_DIAG_DECLARE of a DIFF input sets or clears OPEN or PN_SHORT in
IN_DIAG, raising EV043 when it sets. INPUT_REVERSED of a DIFF PPS input sets bit 3 and, with IN_AUTO_INV, an inversion follows:
INPUT_AUTO_INVERT toggles it, counts it, restarts the detector, disqualifies the slot and raises EV046. SUPPLY_OUT_OF_RANGE after 16
frames raises the rail's event: EV112 for VDD, EV113 for VDDA, EV115 for the others. Nothing else changes. INDEX_PLATE_FAULT of a core
not in FAULT joins its bits into IP_FAULT, takes IP_STATE to FAULT (2), sets the FAULT reason for calibration, makes the bound of the
channel it carries unknown, and raises EV040; of a core in FAULT it only joins the bits. A spare that faults goes to FAULT (6); the
channel that it feeds, whose own core is READY, returns there at the third next boundary. The objects named and the bounds of the
channels apart, no object changes. (R321, R322, R558, R127, R311, R435) What the rules leave open in it is the model's choice: log
entries 14, 70, 117. -/
def Obligations.InputsAndFaults : Prop :=
  ∀ (s : State) (n d x k f : Nat), s.mode ≠ 0 →
  (n < 16 → (d = 1 ∨ d = 2) → s.g (K.IN_FMT n) = 1 → bit (s.g (K.IN_DIAG n)) d = false →
    Gives (.inputDiagDeclare n d true) s (fun t => Writes s t [(K.IN_DIAG n, setBit (s.g (K.IN_DIAG n)) d true)] ∧ t.ev 43 ≠ none ∧
    EventsBut s t [43] ∧ t = { s with od := t.od, out := [], raised := t.raised })) ∧
  (n < 16 → (d = 1 ∨ d = 2) → s.g (K.IN_FMT n) = 1 → bit (s.g (K.IN_DIAG n)) d = true →
    Gives (.inputDiagDeclare n d false) s (fun t => Writes s t [(K.IN_DIAG n, setBit (s.g (K.IN_DIAG n)) d false)] ∧
    t = { s with od := t.od, out := [] })) ∧
  (n < 16 → s.g (K.IN_FMT n) = 1 → s.slotType n = 1 → bit (s.g (K.IN_DIAG n)) 3 = false →
    Gives (.inputReversed n) s (fun t => Writes s t [(K.IN_DIAG n, setBit (s.g (K.IN_DIAG n)) 3 true)] ∧
    t = { s.setInp n { s.inp n with invert := if s.gb (K.IN_AUTO_INV n) then some s.tick else none } with od := t.od, out := [] })) ∧
  (n < 16 → (s.inp n).invert = some x → x < s.tick →
    Gives (.inputAutoInvert n) s (fun t => Writes s t [(K.IN_DIAG n, setBit (setBit (s.g (K.IN_DIAG n)) 3 false) 0 true), (K.IN_INV_TOGGLES n, s.g (K.IN_INV_TOGGLES n) + 1), (K.IN_AUTO_INVERTED n, 1 - s.g (K.IN_AUTO_INVERTED n))] ∧
    t = { ((s.raiseBits 46 (2 ^ n)).setInp n { s.inp n with invert := none }).setSlot n { s.slot n with events := setBit (s.slot n).events 1 true } with od := t.od, out := [] })) ∧
  (n < 4 → 16 ≤ s.supOut.getD n 0 →
    Gives (.supplyOutOfRange n) s (fun t => t = { s.raiseVal (if n = 0 then 112 else if n = 1 then 113 else 115) 0 with out := [] })) ∧
  (k < 72 → f % 32 ≠ 0 → s.g (K.IP_STATE k) = 2 →
    Gives (.indexPlateFault k f) s (fun t => Writes s t [(K.IP_FAULT k, s.g (K.IP_FAULT k) ||| f % 32)] ∧
    t = { s with od := t.od, out := [] })) ∧
  (k < 64 → f % 32 ≠ 0 → s.g (K.IP_STATE k) ≠ 2 → s.g (K.CALB_CORE (k / 8)) ≠ k → bit (f % 32) 2 = false →
    Gives (.indexPlateFault k f) s (fun t => WritesBut s t boundObj [(K.CORE_CAL_REASON k, setBit (s.g (K.CORE_CAL_REASON k)) 0 true), (K.IP_STATE k, 2), (K.IP_FAULT k, s.g (K.IP_FAULT k) ||| f % 32)] ∧
    (s.g (K.CH_CORE k) = k → s.usesCore k = true → t.g (K.CH_BOUND k) = unknownBound) ∧ t.ev 40 ≠ none ∧ EventsBut s t [40] ∧
    t = { s with od := t.od, out := [], raised := t.raised, calSince := t.calSince })) ∧
  (64 ≤ k → k < 72 → f % 32 ≠ 0 → s.g (K.IP_STATE k) ≠ 2 → s.g (K.CALB_CORE (k - 64)) ≠ k → bit (f % 32) 2 = false →
    s.fedBy (k - 64) = none → (s.bank (k - 64)).change = none →
    Gives (.indexPlateFault k f) s (fun t => WritesBut s t boundObj [(K.SP_COVERS (k - 64), 255), (K.SP_STATE (k - 64), 6), (K.CORE_CAL_REASON k, setBit (s.g (K.CORE_CAL_REASON k)) 0 true), (K.IP_STATE k, 2), (K.IP_FAULT k, s.g (K.IP_FAULT k) ||| f % 32)] ∧
    t.ev 40 ≠ none ∧ EventsBut s t [40] ∧ (t.bank (k - 64)).search = none ∧ (t.bank (k - 64)).change = none ∧
    ButAt t.bank s.bank (k - 64) ∧
    t = { s with od := t.od, out := [], raised := t.raised, calSince := t.calSince, bankHid := t.bankHid })) ∧
  (64 ≤ k → k < 72 → f % 32 ≠ 0 → s.g (K.IP_STATE k) ≠ 2 → s.g (K.CALB_CORE (k - 64)) ≠ k → bit (f % 32) 2 = false →
    s.fedBy (k - 64) = some n → n < 64 → s.g (K.IP_STATE n) = 0 → (s.bank (k - 64)).change = none →
    Gives (.indexPlateFault k f) s (fun t => WritesBut s t boundObj [(K.SP_COVERS (k - 64), n), (K.SP_STATE (k - 64), 6), (K.CORE_CAL_REASON k, setBit (s.g (K.CORE_CAL_REASON k)) 0 true), (K.IP_STATE k, 2), (K.IP_FAULT k, s.g (K.IP_FAULT k) ||| f % 32)] ∧
    t.ev 40 ≠ none ∧ EventsBut s t [40] ∧ (t.bank (k - 64)).search = none ∧
    (t.bank (k - 64)).change = some { back := some n, cover := none, after := 6, due := s.tick + 3 } ∧ ButAt t.bank s.bank (k - 64) ∧
    t = { s with od := t.od, out := [], raised := t.raised, calSince := t.calSince, bankHid := t.bankHid }))

/-- Spares search, swap and return. SP_SWAP of a channel of the bank begins a search of a FREE spare (ACCEPTED), of another bank's channel
answers RANGE and of a busy spare BUSY; SP_RETURN of a covering spare whose channel has a good core begins the return, else STATE.
SPARE_SWAP_EFFECT of a due change takes the channel to the spare, counts and logs it, notes the frame and raises EV045.
SPARE_SEARCH_FAIL after 1,000 frames counts, frees the spare and raises EV081; RETURN_FORCED after as many makes the return at the third
next boundary. Nothing else changes. (R289, R304, R307, R308, R309, R310, R313) What the rules leave open in it is the model's choice:
log entries 62, 67. -/
def Obligations.Spares : Prop :=
  ∀ (s : State) (w : Who) (k c : Nat) (x : Search) (y : XChange), s.mode ≠ 0 → k < 8 →
  (s.admits w 1 → c / 8 = k → s.g (K.SP_STATE k) = 0 →
    Gives (.spSwap w k c) s (fun t => Answers s t w (K.SP_SWAP k) c RC.accepted 0 [(K.SP_STATE k, if s.g (K.IP_STATE (64 + k)) = 2 then 6 else 1)] ∧
    (t.bank k).search = some { why := .host, ch := c, req := s.tick } ∧ (∀ z, (t.bank k).change = some z →
    (s.bank k).change = some z ∨ z = { back := none, cover := some c, after := 4, due := s.tick + 3 }) ∧ ButAt t.bank s.bank k ∧
    t = { s with od := t.od, out := t.out, bankHid := t.bankHid })) ∧
  (s.admits w 1 → c / 8 ≠ k → Gives (.spSwap w k c) s (fun t => Answers s t w (K.SP_SWAP k) c RC.range 0 [] ∧
    t = { s with od := t.od, out := t.out })) ∧
  (s.admits w 1 → c / 8 = k → s.g (K.SP_STATE k) ≠ 0 → Gives (.spSwap w k c) s (fun t => Answers s t w (K.SP_SWAP k) c RC.busy 0 [] ∧
    t = { s with od := t.od, out := t.out })) ∧
  (s.admits w 1 → (s.g (K.SP_STATE k) = 3 ∨ s.g (K.SP_STATE k) = 4) → s.g (K.SP_COVERS k) = c → c < 64 → (s.bank k).change = none →
    s.g (K.IP_STATE c) = 0 →
    Gives (.spReturn w k) s (fun t => Answers s t w (K.SP_RETURN k) 0 RC.accepted 0 [(K.SP_STATE k, if s.g (K.IP_STATE (64 + k)) = 2 then 6 else 5)] ∧
    (t.bank k).search = some { why := .back, ch := c, req := s.tick } ∧ ButAt t.bank s.bank k ∧
    t = { s with od := t.od, out := t.out, bankHid := t.bankHid })) ∧
  (s.admits w 1 → s.g (K.SP_STATE k) ≠ 3 → s.g (K.SP_STATE k) ≠ 4 →
    Gives (.spReturn w k) s (fun t => Answers s t w (K.SP_RETURN k) 0 RC.state 0 [] ∧ t = { s with od := t.od, out := t.out })) ∧
  ((s.bank k).change = some y → y.due ≤ s.tick → y.back = none → y.cover = some c → s.g (K.CALB_STATE k) = 0 →
    Gives (.spareSwapEffect k) s (fun t => WritesBut s t plLogObj [(K.SP_STATE k, if s.g (K.IP_STATE (64 + k)) = 2 then 6 else y.after), (K.SP_SWAPS k, s.g (K.SP_SWAPS k) + 1), (K.SP_COVERS k, c), (K.CH_CORE c, 64 + k), (K.SP_LAST_FN k, s.fn)] ∧
    t.g K.PL_LOG_HEAD = s.g K.PL_LOG_HEAD + 1 ∧ t.evMask 45 = s.evMask 45 ||| 2 ^ c ∧ EventsBut s t [45] ∧
    t = { s.setBank k { s.bank k with change := none, search := none, moved := [c] } with od := t.od, out := [], raised := t.raised })) ∧
  ((s.bank k).change = some y → y.due ≤ s.tick → y.back = some c → y.cover = none → s.g (K.CALB_STATE k) = 0 → (s.bank k).waiting = [] →
    Gives (.spareSwapEffect k) s (fun t => WritesBut s t plLogObj [(K.SP_COVERS k, 255), (K.SP_STATE k, if s.g (K.IP_STATE (64 + k)) = 2 then 6 else 0), (K.SP_SWAPS k, s.g (K.SP_SWAPS k) + 1), (K.CH_CORE c, c), (K.SP_LAST_FN k, s.fn)] ∧
    t.g K.PL_LOG_HEAD = s.g K.PL_LOG_HEAD + 1 ∧ t.evMask 45 = s.evMask 45 ||| 2 ^ c ∧ EventsBut s t [45] ∧
    t = { s.setBank k { s.bank k with change := none, search := none, moved := [c], anchor := false } with od := t.od, out := [], raised := t.raised })) ∧
  ((s.bank k).search = some x → (s.bank k).change = none → x.why ≠ .back → x.req + 999 ≤ s.tick → s.g (K.CALB_STATE k) ≠ 1 →
    (s.bank k).waiting = [] →
    Gives (.spareSearchFail k) s (fun t => Writes s t [(K.SP_COVERS k, 255), (K.SP_STATE k, if s.g (K.IP_STATE (64 + k)) = 2 then 6 else 0), (K.SP_SEARCH_FAILS k, s.g (K.SP_SEARCH_FAILS k) + 1)] ∧
    t = { (s.raiseDet 81 x.ch (2 ^ k)).setBank k { s.bank k with search := none } with od := t.od, out := [] })) ∧
  ((s.bank k).search = some x → (s.bank k).change = none → x.why = .back → x.req + 999 ≤ s.tick →
    Gives (.returnForced k) s (fun t => Writes s t [(K.SP_SEARCH_FAILS k, s.g (K.SP_SEARCH_FAILS k) + 1)] ∧
    t = { s.setBank k { s.bank k with change := some { back := some x.ch, cover := none, after := 0, due := s.tick + 3 } } with od := t.od, out := [] }))

/-- A core calibration starts, settles, steps and goes back. CORE_CAL_START of an idle bank begins the calibration of the core that goes
first: at once (SETTLE) where the core may leave without a swap, else with a search of the spare. CAL_SETTLE_END after 64 frames, not on
BYP, begins MEASURE (3). CAL_STEPS_DONE the frame after the last step begins VERIFY (5). CAL_RESTORE_COMPLETE ends a calibration that
went back to its old entries, or begins the return from the spare. CAL_RETRY_EXPIRY clears the RETRY reason. Nothing else changes, the
queue objects of the bank apart for CORE_CAL_START. (R435, R439, R440, R443, R446, R447) What the rules leave open in it is the model's
choice: log entry 68. -/
def Obligations.CalPhases : Prop :=
  ∀ (s : State) (k c x : Nat), s.mode ≠ 0 →
  (k < 8 → 2 ≤ s.mode → (s.calQueue k).g (K.CALB_STATE k) = 0 → (s.calQueue k).calNext k = some c → (s.calQueue k).directPath c = true →
    Gives (.coreCalStart k) s (fun t => WritesBut s t (fun j => j == K.CALB_QUEUE k || j == K.CALB_SPARE_BUSY k || (List.range 9).any (fun i => j == K.CORE_CAL_STATE (bankCore k i))) [(K.CALB_FN k, s.fn), (K.CALB_STATE k, 2), (K.IP_STATE c, if s.g (K.IP_STATE c) = 2 then 2 else 1), (K.CALB_CORE k, c)] ∧
    t.g (K.CORE_CAL_STATE c) = 3 ∧ (t.calOf k).began = s.tick ∧ (t.calOf k).swap = false ∧ (t.calOf k).prior = s.g (K.IP_STATE c) ∧
    ButAt t.calOf s.calOf k ∧ EventsBut s t [82] ∧ t = { s with od := t.od, out := [], raised := t.raised, cal := t.cal })) ∧
  (k < 8 → 2 ≤ s.mode → (s.calQueue k).g (K.CALB_STATE k) = 0 → (s.calQueue k).calNext k = some c → (s.calQueue k).directPath c = false →
    Gives (.coreCalStart k) s (fun t => WritesBut s t (fun j => j == K.CALB_QUEUE k || j == K.CALB_SPARE_BUSY k || (List.range 9).any (fun i => j == K.CORE_CAL_STATE (bankCore k i))) [(K.SP_STATE k, if s.g (K.IP_STATE (64 + k)) = 2 then 6 else 1), (K.CALB_FN k, s.fn), (K.CALB_STATE k, 1), (K.CALB_CORE k, c)] ∧
    t.g (K.CORE_CAL_STATE c) = 3 ∧ t.calOf k = { swap := true, prior := s.g (K.IP_STATE c), began := s.tick } ∧ ButAt t.calOf s.calOf k ∧
    (t.bank k).search = some { why := .cal, ch := c, req := s.tick } ∧ ButAt t.bank s.bank k ∧ EventsBut s t [82] ∧
    t = { s with od := t.od, out := [], raised := t.raised, cal := t.cal, bankHid := t.bankHid })) ∧
  (k < 8 → s.g (K.CALB_STATE k) = 2 → (s.calOf k).began + 64 ≤ s.tick → s.clock ≠ .byp →
    Gives (.calSettleEnd k) s (fun t => Writes s t [(K.CALB_FN k, s.fn), (K.CALB_STATE k, 3)] ∧
    t = { s.setCal k { s.calOf k with began := s.tick, noRef := false } with od := t.od, out := [] })) ∧
  (k < 8 → s.g (K.CALB_STATE k) = 4 → (s.calOf k).stepAt ≤ s.tick → s.entriesOf (s.g (K.CALB_CORE k)) = (s.calOf k).new →
    (s.calOf k).last = some x → x < s.tick → Gives (.calStepsDone k) s (fun t => Writes s t [(K.CALB_FN k, s.fn), (K.CALB_STATE k, 5)] ∧
    t = { s.setCal k { s.calOf k with began := s.tick, noRef := false } with od := t.od, out := [] })) ∧
  (k < 8 → s.g (K.CALB_STATE k) = 7 → s.g (K.CALB_CORE k) = c → c < 72 → s.entriesOf c = (s.calOf k).old → (s.calOf k).last = some x →
    x < s.tick → (s.calOf k).swap = false →
    Gives (.calRestoreComplete k) s (fun t => Writes s t [(K.CALB_CORE k, 255), (K.CALB_FN k, s.fn), (K.CALB_STATE k, 0), (K.CORE_CAL_STATE c, if s.g (K.CORE_CAL_REASON c) = 0 then 0 else 1), (K.IP_STATE c, (s.calOf k).prior)] ∧
    t.calOf k = {} ∧ ButAt t.calOf s.calOf k ∧ (t.core c).restoring = false ∧ ButAt t.core s.core c ∧
    t = { s with od := t.od, out := [], cal := t.cal, coreHid := t.coreHid })) ∧
  (k < 8 → s.g (K.CALB_STATE k) = 7 → s.g (K.CALB_CORE k) = c → c < 72 → s.entriesOf c = (s.calOf k).old → (s.calOf k).last = some x →
    x < s.tick → (s.calOf k).swap = true → (s.calOf k).home = false →
    Gives (.calRestoreComplete k) s (fun t => Writes s t [(K.SP_STATE k, if s.g (K.IP_STATE (64 + k)) = 2 then 6 else 5), (K.CALB_FN k, s.fn), (K.CALB_STATE k, 6)] ∧
    t.calOf k = { s.calOf k with began := s.tick, noRef := false } ∧ ButAt t.calOf s.calOf k ∧
    (t.bank k).search = some { why := .back, ch := s.g (K.SP_COVERS k), req := s.tick } ∧ ButAt t.bank s.bank k ∧
    (t.core c).restoring = false ∧ ButAt t.core s.core c ∧
    t = { s with od := t.od, out := [], cal := t.cal, coreHid := t.coreHid, bankHid := t.bankHid })) ∧
  (Sp.find s.calRetry c = some x → x ≤ s.tick → setBit (s.g (K.CORE_CAL_REASON c)) 6 false ≠ 0 →
    Gives (.calRetryExpiry c) s (fun t => Writes s t [(K.CORE_CAL_REASON c, setBit (s.g (K.CORE_CAL_REASON c)) 6 false)] ∧
    t = { s with od := t.od, out := [], calRetry := Sp.del s.calRetry c })) ∧
  (Sp.find s.calRetry c = some x → x ≤ s.tick → setBit (s.g (K.CORE_CAL_REASON c)) 6 false = 0 →
    Gives (.calRetryExpiry c) s (fun t => Writes s t [(K.CORE_CAL_OVERDUE c, 0), (K.CORE_CAL_AGE c, 0), (K.CORE_CAL_REASON c, 0)] ∧
    t = { s with od := t.od, out := [], calRetry := t.calRetry, calSince := Sp.del s.calSince c } ∧ Sp.find t.calRetry c = none))

/-- A core calibration measures and verifies. CAL_MEASURE_COMPLETE of a plausible block whose new entries fit subtracts the residuals from
the entries and begins STEP (4), the steps starting at the third next boundary. CAL_VERIFY_COMPLETE with both errors small writes
IP_INL_A, IP_INL_B, IP_CAL_UNC, clears every reason and the fault, counts, notes frame and temperature, marks CAL_DIRTY, returns the
core to READY (0) and the bank to IDLE, with EV080. A block that is not plausible is recorded in CAL_LAST_INVALID with EV083 and EV085
and ends the calibration. (R433, R441, R442, R444, R445, R446) What the rules leave open in it is the model's choice: log entries 14,
68, 122. -/
def Obligations.CalResults : Prop :=
  ∀ (s : State) (k c : Nat) (res : List Int) (ea eb : Int) (b : CalBlock), s.mode ≠ 0 → k < 8 → s.g (K.CALB_CORE k) = c → c < 72 →
    s.clock ≠ .byp →
  (s.g (K.CALB_STATE k) = 3 → (s.calOf k).began + 299594 ≤ s.tick → res.length = 512 → s.blockCode b none (s.calOf k).noRef = 0 →
    (∀ p ∈ (s.entriesOf c).zip res, -32768 ≤ p.1 - p.2 ∧ p.1 - p.2 ≤ 32767) →
    Gives (.calMeasureComplete k res b) s (fun t => Writes s t [(K.CALB_FN k, s.fn), (K.CALB_STATE k, 4)] ∧
    t.calOf k = { s.calOf k with began := s.tick, noRef := false, old := s.entriesOf c, new := ((s.entriesOf c).zip res).map (fun p => p.1 - p.2), stepAt := s.tick + 3 } ∧
    ButAt t.calOf s.calOf k ∧ t = { s with od := t.od, out := [], cal := t.cal })) ∧
  (s.g (K.CALB_STATE k) = 3 → (s.calOf k).began + 299594 ≤ s.tick → res.length = 512 → s.blockCode b none (s.calOf k).noRef ≠ 0 →
    (s.calOf k).last = none → (s.calOf k).swap = false →
    Gives (.calMeasureComplete k res b) s (fun t => Writes s t [(K.CALB_CORE k, 255), (K.CALB_FN k, s.fn), (K.CALB_STATE k, 0), (K.CORE_CAL_STATE c, 1), (K.IP_STATE c, (s.calOf k).prior), (K.CAL_ABORTS, s.g K.CAL_ABORTS + 1), (K.CORE_CAL_REASON c, setBit (s.g (K.CORE_CAL_REASON c)) 6 true), (K.CAL_LAST_INVALID_FN, s.fn), (K.CAL_LAST_INVALID, s.blockCode b none (s.calOf k).noRef * 65536 + 256 + c)] ∧
    Sp.find t.calRetry c = some (s.tick + framesOfMs (s.g K.CAL_RETRY)) ∧ t.calOf k = {} ∧ ButAt t.calOf s.calOf k ∧
    t.evMask 83 = s.evMask 83 ||| 2 ^ k ∧ t.evMask 85 = s.evMask 85 ||| 2 ^ k ∧ EventsBut s t [83, 85] ∧
    t = { s with od := t.od, out := [], raised := t.raised, cal := t.cal, calRetry := t.calRetry, calSince := t.calSince, coreHid := t.coreHid })) ∧
  (s.g (K.CALB_STATE k) = 5 → (s.calOf k).began + 1171 ≤ s.tick → s.blockCode b none (s.calOf k).noRef = 0 → sixteenthsToBound ea ≤ 4 →
    sixteenthsToBound eb ≤ 4 → (s.calOf k).swap = false → c < 64 →
    Gives (.calVerifyComplete k ea eb b) s (fun t => WritesBut s t (fun j => j == K.CAL_OVERDUE_BANKS || j == K.REPLACE_REASON) [(K.CALB_CORE k, 255), (K.CALB_FN k, s.fn), (K.CALB_STATE k, 0), (K.CORE_CAL_STATE c, 0), (K.IP_STATE c, 0), (K.CORE_CAL_OVERDUE c, 0), (K.CORE_CAL_AGE c, 0), (K.CAL_DONE, s.g K.CAL_DONE + 1), (K.CORE_CAL_COUNT c, s.g (K.CORE_CAL_COUNT c) + 1), (K.IP_TEMP_CAL c, ofI64 (s.calOf k).temp), (K.IP_FAULT c, 0), (K.CAL_DIRTY, 1), (K.CORE_CAL_FN c, s.fn), (K.CORE_CAL_FAILS c, 0), (K.CORE_CAL_REASON c, 0), (K.IP_CAL_UNC c, max (sixteenthsToBound ea) (sixteenthsToBound eb) + 1), (K.IP_INL_B c, sixteenthsToBound eb), (K.IP_INL_A c, sixteenthsToBound ea)] ∧
    t.calOf k = {} ∧ ButAt t.calOf s.calOf k ∧
    t = { s.raiseDet 80 c (2 ^ k) with od := t.od, out := [], cal := t.cal, calSince := Sp.del s.calSince c, calRetry := Sp.del s.calRetry c, coreHid := t.coreHid })) ∧
  (s.g (K.CALB_STATE k) = 5 → (s.calOf k).began + 1171 ≤ s.tick → s.blockCode b none (s.calOf k).noRef = 0 →
    (4 < sixteenthsToBound ea ∨ 4 < sixteenthsToBound eb) → (s.calOf k).last = none → (s.calOf k).swap = false →
    Gives (.calVerifyComplete k ea eb b) s (fun t => Writes s t [(K.CALB_CORE k, 255), (K.CALB_FN k, s.fn), (K.CALB_STATE k, 0), (K.CORE_CAL_STATE c, 1), (K.IP_STATE c, (s.calOf k).prior), (K.CAL_ABORTS, s.g K.CAL_ABORTS + 1), (K.CORE_CAL_REASON c, setBit (s.g (K.CORE_CAL_REASON c)) 6 true), (K.CORE_CAL_FAILS c, min 255 (s.g (K.CORE_CAL_FAILS c) + 1))] ∧
    t.evMask 84 = s.evMask 84 ||| 2 ^ k ∧ EventsBut s t [84]))

/-- Calibrations are asked for and fall due. CORE_CAL_REQUEST of a core that is not being calibrated answers OK and sets its HOST reason,
else BUSY; CAL_ALL sets it for every core not being calibrated. CAL_PERIOD_EXPIRY sets the PERIOD reason. CAL_OVERDUE past its age makes
a core overdue, the first of all setting bit 10 of REPLACE_REASON with EV123 and EV086. CALLIPER_SELF_CAL, a second or more after the
last and off BYP, makes SR_CAL_TERM the largest of the nine heads' residuals, at least 5. A pending age begins with the first reason.
Nothing else changes. (R430, R435, R436, R449, R463) What the rules leave open in it is the model's choice: log entry 14. -/
def Obligations.CalRequests : Prop :=
  ∀ (s : State) (w : Who) (c : Nat) (rs : List Nat), s.mode ≠ 0 →
  (s.admits w 1 → s.calRuns c = false →
    Gives (.coreCalRequest w c) s (fun t => Answers s t w (K.CORE_CAL_REQUEST c) 0 RC.ok 0 [(K.CORE_CAL_REASON c, setBit (s.g (K.CORE_CAL_REASON c)) 2 true)] ∧
    t = { s with od := t.od, out := t.out, calSince := if (Sp.find s.calSince c).isSome then s.calSince else Sp.ins s.calSince c (s.tick + 1) })) ∧
  (s.admits w 1 → s.calRuns c = true → Gives (.coreCalRequest w c) s (fun t => Answers s t w (K.CORE_CAL_REQUEST c) 0 RC.busy 0 [] ∧
    t = { s with od := t.od, out := t.out })) ∧
  (s.admits w 1 → Gives (.calAll w) s (fun t => t.out = [.result RC.ok 0] ∧
    (∀ i ∈ List.range 72, t.g (K.CORE_CAL_REASON i) = if s.calRuns i = true then s.g (K.CORE_CAL_REASON i) else setBit (s.g (K.CORE_CAL_REASON i)) 2 true) ∧
    WritesBut s t (fun j => (List.range 72).any (fun i => j == K.CORE_CAL_REASON i)) (recordOf s w K.CAL_ALL 0 RC.ok 0) ∧
    t = { s with od := t.od, out := t.out, calSince := t.calSince })) ∧
  (c < 72 → s.g K.CAL_AUTO ≠ 0 → s.g K.CAL_PERIOD ≠ 0 → s.g (K.CORE_CAL_FN c) + s.g K.CAL_PERIOD * 1250000 ≤ s.fn → s.calRuns c = false →
    Gives (.calPeriodExpiry c) s (fun t => Writes s t [(K.CORE_CAL_REASON c, setBit (s.g (K.CORE_CAL_REASON c)) 5 true)] ∧
    t = { s with od := t.od, out := [], calSince := if (Sp.find s.calSince c).isSome then s.calSince else Sp.ins s.calSince c (s.tick + 1) })) ∧
  (c < 72 → s.g (K.CORE_CAL_OVERDUE c) = 0 → s.g K.CAL_OVERDUE * 1250000 < s.calAge c → s.g K.CAL_OVERDUE_BANKS = 0 →
    bit (s.g K.REPLACE_REASON) 10 = false → Gives (.calOverdue c) s (fun t => t.g (K.CORE_CAL_OVERDUE c) = 1 ∧
    bit (t.g K.CAL_OVERDUE_BANKS) (bankOf c) = true ∧ bit (t.g K.REPLACE_REASON) 10 = true ∧
    WritesBut s t (fun j => j == K.CORE_CAL_OVERDUE c || j == K.CAL_OVERDUE_BANKS || j == K.REPLACE_REASON) [] ∧
    t.evMask 86 = s.evMask 86 ||| 2 ^ bankOf c ∧ EventsBut s t [86, 123] ∧ t = { s with od := t.od, out := [], raised := t.raised })) ∧
  (2 ≤ s.mode → s.clock ≠ .byp → rs.length = 9 → s.selfCal.all (fun t => t + 1250000 ≤ s.tick) = true →
    Gives (.calliperSelfCal rs) s (fun t => Writes s t [(K.SR_CAL_TERM, rs.foldl max 5)] ∧
    t = { s with od := t.od, out := [], selfCal := some s.tick }))

/-- Audit blocks close and anchors are measured. AUDIT_BLOCK_CLOSE of a plausible block of as many samples as the head had for it takes the
negated mean, limited to 16,384, as the pad's target, which its trim follows from the third next boundary on, counts the block and notes
the mean, with EV090 where it was out of range; one that is not plausible is counted in AUDIT_REJECTS and recorded with EV083. ANC_RUN
in M9 of a PARK channel with a format begins the procedure (ACCEPTED). ANCHOR_RUN_COMPLETE of the own core alone computes the new anchor
for the third next boundary, a failed block ends the procedure with EV089; ANCHOR_APPLY folds the trim into both anchors and begins the
steps with EV088. (R433, R434, R451, R453, R454, R455, R456) What the rules leave open in it is the model's choice: log entries 14, 69,
120, 121. -/
def Obligations.AuditAndAnchors : Prop :=
  ∀ (s : State) (w : Who) (c k : Nat) (b : CalBlock) (base : Int) (a : AncRun), s.mode ≠ 0 →
  (c < 64 → s.clock = .spindle → 2 ≤ s.mode → s.sampled c b.n = true → (b.n = 256 ∨ (16 ≤ b.n ∧ b.n < 256 ∧
    (s.pad c).auditAt + 1024 ≤ s.tick)) → s.blockCode b (some c) false = 0 →
    Gives (.auditBlockClose c b) s (fun t => WritesBut s t (fun j => j == K.AUDIT_RESID c || j == K.AUDIT_STATE c || j == K.IP_SETTLING c) [(K.AUDIT_BLOCKS c, s.g (K.AUDIT_BLOCKS c) + 1), (K.AUDIT_LAST_MEAN c, ofI64 b.mean), (K.AUDIT_TARGET c, ofI64 (clampAbs 16384 (-b.mean)))] ∧
    t.g (K.AUDIT_RESID c) = t.residual c ∧ (t.pad c).audited = true ∧ (t.pad c).auditAt = s.tick ∧
    (t.pad c).auditHad = (s.bank (c / 8)).samples ∧ (t.pad c).goalNext = some (clampAbs 16384 (-b.mean), s.tick + 3) ∧
    (t.pad c).ranged = decide (16384 < b.mean.natAbs) ∧ ButAt t.pad s.pad c ∧
    t.bank (c / 8) = { s.bank (c / 8) with used := (s.bank (c / 8)).used + b.n } ∧ ButAt t.bank s.bank (c / 8) ∧
    t = { (if 16384 < b.mean.natAbs then s.raiseDet 90 c (2 ^ (c / 8)) else s) with od := t.od, out := [], padHid := t.padHid, bankHid := t.bankHid, auditBlk := Sp.ins s.auditBlk c (b.sigma, b.n) })) ∧
  (c < 64 → s.clock = .spindle → 2 ≤ s.mode → s.sampled c b.n = true → (b.n = 256 ∨ (16 ≤ b.n ∧ b.n < 256 ∧
    (s.pad c).auditAt + 1024 ≤ s.tick)) → s.blockCode b (some c) false ≠ 0 →
    Gives (.auditBlockClose c b) s (fun t => Writes s t [(K.AUDIT_REJECTS c, s.g (K.AUDIT_REJECTS c) + 1), (K.CAL_LAST_INVALID_FN, s.fn), (K.CAL_LAST_INVALID, s.blockCode b (some c) false * 65536 + 768 + c)] ∧
    t = { ((s.raiseDet 83 c (2 ^ (c / 8))).setPad c { s.pad c with auditAt := s.tick, auditHad := (s.bank (c / 8)).samples }).setBank (c / 8) { s.bank (c / 8) with used := (s.bank (c / 8)).used + b.n } with od := t.od, out := [] })) ∧
  (s.admits w 3 → s.mode = 9 → c < 64 → s.src c = 0 → s.g (K.PAD_FMT c) ≠ 0 → s.g K.CAL_REF_STATE = 1 →
    s.g K.ANC_FIXTURE_UNC ≠ unknownBound → s.g (K.CALB_STATE (c / 8)) = 0 → s.g K.ANC_STATE = 0 →
    Gives (.ancRun w (c + 256)) s (fun t => Answers s t w K.ANC_RUN (c + 256) RC.accepted 0 [(K.ANC_STATE, 1)] ∧
    t = { s with od := t.od, out := t.out, ancRun := some { ch := c, core := c, began := some s.tick } })) ∧
  (s.admits w 3 → c < 64 → (s.mode ≠ 9 ∨ s.src c ≠ 0 ∨ s.g (K.PAD_FMT c) = 0 ∨ s.g K.CAL_REF_STATE ≠ 1) →
    Gives (.ancRun w (c + 256)) s (fun t => Answers s t w K.ANC_RUN (c + 256) RC.state 0 [] ∧ t = { s with od := t.od, out := t.out })) ∧
  (s.ancRun = some a → a.ch / 8 = k → s.clock ≠ .byp → a.due = none → a.core = a.ch → a.left = [] →
    (a.began.any (fun x => x + s.g K.ANC_EDGES ≤ s.tick)) = true → s.g (K.CH_CORE a.ch) = a.ch → s.blockCode b (some a.ch) a.noRef = 0 →
    Gives (.anchorRunComplete k b base) s (fun t => t = { s with out := [], ancRun := some { a with began := none, due := some (s.tick + 3), base := some base, done := a.done ++ [(a.ch, s.gi (K.ANC_OWN a.ch) + s.gi (K.CH_TRIM a.ch) - b.mean, capBound (s.g K.ANC_FIXTURE_UNC + spreadOf b.sigma b.n + 2))] } })) ∧
  (s.ancRun = some a → a.ch / 8 = k → s.clock ≠ .byp → a.due = none → (a.began.any (fun x => x + s.g K.ANC_EDGES ≤ s.tick)) = true →
    s.g (K.CH_CORE a.ch) = a.ch → s.blockCode b (some a.ch) a.noRef ≠ 0 →
    Gives (.anchorRunComplete k b base) s (fun t => Writes s t [(K.ANC_STATE, 0), (K.CAL_LAST_INVALID_FN, s.fn), (K.CAL_LAST_INVALID, s.blockCode b (some a.ch) a.noRef * 65536 + 1024 + a.ch)] ∧
    t = { (s.raiseDet 83 a.ch (2 ^ k)).raiseDet 89 a.ch (2 ^ k) with od := t.od, out := [], ancRun := none })) ∧
  (s.ancRun = some a → a.ch / 8 = k → (a.due.any (fun x => x ≤ s.tick)) = true →
    Gives (.anchorApply k) s (fun t => WritesBut s t (fun j => j == K.ANC_OWN_UNC a.ch || j == K.ANC_SPARE_UNC a.ch) [(K.CAL_DIRTY, 1), (K.ANC_FN a.ch, s.fn), (K.ANC_SOURCE a.ch, 2), (K.ANC_STATE, 2), (K.AUDIT_TARGET a.ch, 0), (K.CH_TRIM a.ch, 0), (K.ANC_SPARE a.ch, ofI64 (s.gi (K.ANC_SPARE a.ch) + s.gi (K.CH_TRIM a.ch))), (K.ANC_OWN a.ch, ofI64 (s.gi (K.ANC_OWN a.ch) + s.gi (K.CH_TRIM a.ch)))] ∧
    (∃ r ∈ t.ancRun, r.ch = a.ch ∧ r.due = none ∧ r.goal.map (fun x => (x.1, x.2.1)) = a.done.map (fun x => (x.1, x.2.1))) ∧
    t = { (s.raiseDet 88 a.ch (2 ^ k)).setPad a.ch { s.pad a.ch with goal := 0, goalNext := none } with od := t.od, out := [], ancRun := t.ancRun, baseline := t.baseline }))

/-- Calibration sets are stored. CAL_STORE answers OK and makes a store due, whatever else is pending. NVM_STORE_START of a due store writes
the set in force, one number on, to a least-written slot of the other bank: NVM_STATE becomes 1 and the slot's writes count.
NVM_STORE_COMPLETE of a good slot makes it the set in force with EV092; of a slot that failed its check counts it in NVM_STORE_FAILS and
takes another of the same bank, and the third failure ends the store with EV093. (R458, R459, R462) What the rules leave open in it is
the model's choice: log entries 14, 71, 125. -/
def Obligations.CalStores : Prop :=
  ∀ (s : State) (w : Who) (p : Nat) (l : List Nat) (set : NvmSet), s.mode ≠ 0 →
  (s.admits w 1 → Gives (.calStore w) s (fun t => Answers s t w K.CAL_STORE 0 RC.ok 0 [] ∧
    t = { s with od := t.od, out := t.out, storeDue := true })) ∧
  (s.storeIsDue = true → 2 ≤ s.mode → s.leastWritten (if s.g K.NVM_SET_BANK = 0 then 1 else 0) [] = some p →
    Gives .nvmStoreStart s (fun t => WritesBut s t (fun j => j == K.NVM_LIFE_PCT || j == K.REPLACE_REASON) [(K.NVM_STATE, 1), (atRow K.NVM_SLOT_WRITES p, s.g (atRow K.NVM_SLOT_WRITES p) + 1)] ∧
    t.store = some ([p], { s.takeSet with seq := s.g K.CAL_SEQ + 1, corr := s.corr, base := s.baseline }) ∧
    p / 16 = (if s.g K.NVM_SET_BANK = 0 then 1 else 0) ∧
    (∀ i ∈ List.range 16, s.g (atRow K.NVM_SLOT_WRITES p) ≤ s.g (atRow K.NVM_SLOT_WRITES (p / 16 * 16 + i))) ∧ EventsBut s t [95, 123] ∧
    t = { s with od := t.od, out := [], raised := t.raised, store := t.store, storeDue := false, nvm := Sp.del s.nvm p })) ∧
  (s.store = some (p :: l, set) → (∀ q ∈ set.objs, q.1 ≠ K.CAL_COUNT ∧ q.1 ≠ K.CAL_TIME) →
    Gives (.nvmStoreComplete true) s (fun t => WritesBut s t (fun j => (List.range 72).any (fun c => j == K.IP_TABLE_SEQ c)) [(K.NVM_STORES, s.g K.NVM_STORES + 1), (K.CAL_DIRTY, 0), (K.NVM_STATE, 0), (K.NVM_SET_SLOT, p % 16), (K.NVM_SET_BANK, p / 16), (K.CAL_SEQ, set.seq)] ∧
    (∀ c ∈ List.range 72, t.g (K.IP_TABLE_SEQ c) = set.seq) ∧ t.ev 92 ≠ none ∧ EventsBut s t [92] ∧
    t = { s with od := t.od, out := [], raised := t.raised, nvm := Sp.ins s.nvm p set, store := none, storeLast := s.tick })) ∧
  (s.store = some (p :: l, set) → 2 ≤ l.length →
    Gives (.nvmStoreComplete false) s (fun t => Writes s t [(K.NVM_STATE, 0), (K.NVM_STORE_FAILS, s.g K.NVM_STORE_FAILS + 1)] ∧
    t.ev 93 ≠ none ∧ EventsBut s t [93] ∧
    t = { s with od := t.od, out := [], raised := t.raised, nvm := Sp.ins s.nvm p { set with good := false }, store := none, storeLast := s.tick })) ∧
  (s.store = some ([p], set) → p < 32 → Gives (.nvmStoreComplete false) s (fun t => t.g K.NVM_STORE_FAILS = s.g K.NVM_STORE_FAILS + 1 ∧
    t.g K.NVM_STATE = 1 ∧ (∃ x ∈ t.store, x.2 = set ∧ x.1.length = 2 ∧ ∃ q ∈ x.1, q ≠ p ∧ q / 16 = p / 16 ∧
    t.g (atRow K.NVM_SLOT_WRITES q) = s.g (atRow K.NVM_SLOT_WRITES q) + 1)))

/-- A mode is asked for. MODE_REQUEST of a transition that the table of modes gives, with none pending or one of a lower rank only, answers
ACCEPTED and the transition is pending for the third next boundary, to the mode called for when the target is 3; in M2 a request for M3
is kept, and pending once the Spindle has been locked for 2,500 frames. A transition that the table does not give, and one out of M10
while a severe source calls for SAFE, is answered STATE, a number beyond 11 RANGE, and while one of the same or a higher rank is pending
BUSY. Nothing else changes. (R40, R553, R588, R589, R590, R591) What the rules leave open in it is the model's choice: log entry 62. -/
def Obligations.ModeRequests : Prop :=
  ∀ (s : State) (w : Who) (m : Nat) (p : ModePend), s.admits w (modeNeed s.mode m) →
  (m ≤ 11 → hostTransition s.mode m s.bootRom = true → (s.mode = 2 → m ≠ 3) → (¬(s.mode = 10 ∧ m = 3 ∧ s.safeSevere = true)) →
    s.modePend.all (fun x => (if m = 10 then 0 else 2) < x.rank) = true →
    Gives (.modeRequest w m) s (fun t => Answers s t w K.MODE_REQUEST m RC.accepted 0 [(K.MODE_PENDING_FN, s.fn + 3), (K.MODE_PENDING, if m = 3 then s.calledFor else m)] ∧
    t = { s with od := t.od, out := t.out, modePend := some { target := if m = 3 then s.calledFor else m, due := s.tick + 3, cause := 1, rank := if m = 10 then 0 else 2 } })) ∧
  (s.mode = 2 → m = 3 → s.bootRom = false → s.modePend.all (fun x => 2 < x.rank) = true → s.spnFrames ≤ 2500 →
    Gives (.modeRequest w m) s (fun t => Answers s t w K.MODE_REQUEST m RC.accepted 0 [] ∧
    t = { s with od := t.od, out := t.out, req3 := true })) ∧
  (s.mode = 2 → m = 3 → s.bootRom = false → s.modePend.all (fun x => 2 < x.rank) = true → 2500 < s.spnFrames →
    Gives (.modeRequest w m) s (fun t => Answers s t w K.MODE_REQUEST m RC.accepted 0 [(K.MODE_PENDING_FN, s.fn + 3), (K.MODE_PENDING, 3)] ∧
    t = { s with od := t.od, out := t.out, req3 := true, modePend := some { target := 3, due := s.tick + 3, cause := 1, rank := 2 } })) ∧
  (s.mode = 10 → m = 3 → s.safeSevere = true → Gives (.modeRequest w m) s (fun t => Answers s t w K.MODE_REQUEST m RC.state 0 [] ∧
    t = { s with od := t.od, out := t.out })) ∧
  (m ≤ 11 → hostTransition s.mode m s.bootRom = false →
    Gives (.modeRequest w m) s (fun t => Answers s t w K.MODE_REQUEST m RC.state 0 [] ∧ t = { s with od := t.od, out := t.out })) ∧
  (11 < m → Gives (.modeRequest w m) s (fun t => Answers s t w K.MODE_REQUEST m RC.range 0 [] ∧ t = { s with od := t.od, out := t.out })) ∧
  (m ≤ 11 → hostTransition s.mode m s.bootRom = true → (¬(s.mode = 10 ∧ m = 3 ∧ s.safeSevere = true)) → s.modePend = some p →
    p.rank ≤ (if m = 10 then 0 else 2) → Gives (.modeRequest w m) s (fun t => Answers s t w K.MODE_REQUEST m RC.busy 0 [] ∧
    t = { s with od := t.od, out := t.out }))

/-- A mode takes effect. MODE_TRANSITION of a pending transition that is due and whose trigger holds: among M3 to M9 it writes MODE,
MODE_PREV, MODE_FN and MODE_CAUSE, counts it, and ends the pending request, changing nothing else; into M10 from M2 or later it also
stops every sequencer, ends every burst, takes each driven pad without a clock to its park level, and raises EV124. One whose trigger
holds no more is withdrawn. (R29, R40, R553, R589, R601) What the rules leave open in it is the model's choice: log entries 14, 38, 42. -/
def Obligations.ModeTransitions : Prop :=
  ∀ (s : State) (p : ModePend), s.mode ≠ 0 → s.modePend = some p → p.due ≤ s.tick →
  (3 ≤ s.mode → s.mode ≤ 8 → s.triggerHolds p = true → 3 ≤ s.finalTarget p → s.finalTarget p ≤ 9 →
    Gives .modeTransition s (fun t => Writes s t [(K.MODE_TRANSITIONS, s.g K.MODE_TRANSITIONS + 1), (K.MODE_PENDING_FN, 0), (K.MODE_PENDING, 255), (K.MODE_CAUSE, p.cause), (K.MODE_FN, s.fn), (K.MODE, s.finalTarget p), (K.MODE_PREV, s.mode)] ∧
    t = { s with od := t.od, out := [], modePend := none })) ∧
  (2 ≤ s.mode → s.mode ≠ 10 → s.mode ≠ 11 → p.target = 10 → p.rank = 0 → Gives .modeTransition s (fun t => t.mode = 10 ∧
    t.g K.MODE_PREV = s.mode ∧ t.g K.MODE_CAUSE = p.cause ∧ t.g K.MODE_FN = s.fn ∧ t.g K.MODE_TRANSITIONS = s.g K.MODE_TRANSITIONS + 1 ∧
    t.modePend = none ∧ (∀ q ∈ List.range 8, t.g (K.SQ_STATE q) = 0) ∧ (∀ c ∈ List.range 64, (t.ch c).wait = [] ∧
    (t.ch c).burst = none) ∧ (∀ c ∈ List.range 64, s.src c ≠ 4 → s.drives c = true → t.g (K.PAD_LEVEL c) = s.parkState c) ∧
    t.ev 124 ≠ none ∧ t.safeAsserted = true ∧ t.tick = s.tick ∧ t.vmem = s.vmem ∧ t.slotBytes = s.slotBytes ∧ t.nvm = s.nvm ∧
    t.g K.TS_FN = s.g K.TS_FN)) ∧
  (s.triggerHolds p = false → Gives .modeTransition s (fun t => Writes s t [(K.MODE_PENDING_FN, 0), (K.MODE_PENDING, 255)] ∧
    t = { s with od := t.od, out := [], modePend := none }))

/-- A frame begins, and reactions take effect. FRAME_BOUNDARY completes in every state outside M0: the count of boundaries advances by one,
what the measuring units latched is taken, the frame has had no placement pass, the frames that VDD, VDDA, VDDIO and VDDH have lain
outside their ranges and a sensor at 125 °C or more are counted on, and what was due has been taken: no mode transition, change of the
selected slot, reaction, block reset or change of a spare waits that is due by the new boundary. The waiting commands, NVM and flash
stand. REACTION_TAKE_EFFECT completes in every state outside M0: the accepted reactions that are due take effect and raise EV126, and no
block reset or change of a spare that is due waits longer; a FORCE_HOLDOVER alone does nothing else; a due change of a spare takes its
channel to the spare; a due transition to M10 is made. (R18, R24, R26, R378, R558, R567, R568, R654) What the rules leave open in it is
the model's choice: log entries 7, 14, 102, 103. -/
def Obligations.FrameBoundaries : Prop :=
  ∀ (s : State) (m : Latch) (k c : Nat) (p : ModePend) (y : XChange), s.mode ≠ 0 →
  (Gives (.frameBoundary m) s (fun t => t.tick = s.tick + 1 ∧ t.meas = m ∧ t.pending = s.pending ∧ t.passed = false ∧
    t.supOut = (List.range 4).map (fun r => if ({ s with meas := m } : State).railOk r then 0 else s.supOut.getD r 0 + 1) ∧
    t.hotFrames = (if m.temps.any (fun x => 12500 ≤ x) then s.hotFrames + 1 else 0) ∧
    t.modePend.all (fun x => s.tick + 1 < x.due) = true ∧ (∀ x ∈ t.selPend, s.tick + 1 < x.2) ∧ (∀ x ∈ t.reacts, s.tick + 1 < x.due) ∧
    (∀ x ∈ t.resets, s.tick + 1 < x.due) ∧ (∀ b ∈ List.range 8, (t.bank b).change.all (fun x => s.tick + 1 < x.due) = true) ∧
    t.nvm = s.nvm ∧ t.host.flash = s.host.flash)) ∧
  (Gives .reactionTakeEffect s (fun t => t.reacts = s.reacts.filter (fun r => s.tick < r.due) ∧ (∀ x ∈ t.resets, s.tick < x.due) ∧
    (∀ b ∈ List.range 8, (t.bank b).change.all (fun x => s.tick < x.due) = true) ∧ (s.reacts.any (fun r => r.due ≤ s.tick) = true →
    t.ev 126 ≠ none) ∧ t.tick = s.tick ∧ t.nvm = s.nvm ∧ t.host.flash = s.host.flash)) ∧
  ((s.reacts.any (fun r => r.due ≤ s.tick)) = true → s.modePend.any (fun x => x.target == 10) = false →
    (∀ b ∈ List.range 8, (s.bank b).change = none ∧ s.g (K.SP_STATE b) ≠ 3) → s.resets = [] →
    Gives .reactionTakeEffect s (fun t => t = { s.raiseVal 126 0 with out := [], reacts := s.reacts.filter (fun r => s.tick < r.due) })) ∧
  (k < 8 → s.modePend.any (fun x => x.target == 10) = false → (∀ b ∈ List.range 8, b ≠ k → (s.bank b).change = none ∧
    s.g (K.SP_STATE b) ≠ 3) → s.resets = [] → (s.bank k).change = some y → y.due ≤ s.tick → y.back = none → y.cover = some c →
    s.src c ≠ 0 → s.g (K.SP_COVERS k) = c → s.g (K.CALB_STATE k) = 0 →
    Gives .reactionTakeEffect s (fun t => WritesBut s t plLogObj [(K.SP_STATE k, if s.g (K.IP_STATE (64 + k)) = 2 then 6 else y.after), (K.SP_SWAPS k, s.g (K.SP_SWAPS k) + 1), (K.SP_COVERS k, c), (K.CH_CORE c, 64 + k), (K.SP_LAST_FN k, s.fn)] ∧
    t.g K.PL_LOG_HEAD = s.g K.PL_LOG_HEAD + 1 ∧ t.evMask 45 = s.evMask 45 ||| 2 ^ c ∧ EventsBut s t [45, 126] ∧
    t = { s.setBank k { s.bank k with change := none, search := none, moved := [c] } with od := t.od, out := [], raised := t.raised, reacts := s.reacts.filter (fun r => s.tick < r.due) })) ∧
  (2 ≤ s.mode → s.mode ≠ 10 → s.modePend = some p → p.due ≤ s.tick → p.target = 10 → p.rank = 0 →
    (∀ b ∈ List.range 8, (s.bank b).change = none ∧ s.g (K.SP_STATE b) ≠ 3) → s.resets = [] →
    Gives .reactionTakeEffect s (fun t => t.mode = 10 ∧ t.g K.MODE_PREV = s.mode ∧ t.g K.MODE_CAUSE = p.cause ∧ t.g K.MODE_FN = s.fn ∧
    t.modePend = none ∧ (∀ q ∈ List.range 8, t.g (K.SQ_STATE q) = 0) ∧ (∀ c ∈ List.range 64, (t.ch c).wait = [] ∧
    (t.ch c).burst = none) ∧ (∀ c ∈ List.range 64, s.src c ≠ 4 → s.drives c = true → t.g (K.PAD_LEVEL c) = s.parkState c) ∧
    t.ev 124 ≠ none))

/-- FC_CLEAR clears the record it names, and no other. FC_CLEAR with the SEQ of the held record of its source clears the record, writes a
CLEARED log entry and answers OK; with another SEQ the record stays, the answer is STALE and FC_STALE_CLEARS counts the command. Either
way no count, window count or severe state changes. (R566) -/
def Obligations.RecordCleared : Prop :=
  ∀ (s : State) (w : Who) (src q : Nat), s.admits w 1 → src < 128 → q < 2 ^ 32 →
  (Rec.held (s.causeRec src) = true → Rec.seq (s.causeRec src) = q →
    Gives (.fcClear w (src + q * 2 ^ 32)) s (fun t => t.out = [.result RC.ok 0] ∧
    WritesBut s t (fun j => j == K.FC_HELD_LO || j == atSub K.FC_HELD_LO 1) (recordOf s w K.FC_CLEAR (src + q * 2 ^ 32) RC.ok 0 ++ [(K.FC_LOG_HEAD, s.g K.FC_LOG_HEAD + 1), (atRow K.FC_LOG (s.g K.FC_LOG_HEAD % 1024), q * 2 ^ 32 + src * 2 ^ 25 + 6 * 2 ^ 22 + s.g K.FC_LOG_HEAD % 2 ^ 22 + s.fn * 2 ^ 64 + min (Rec.count (s.causeRec src)) (2 ^ 24 - 1) * 2 ^ 192), (atRow K.FC_RECORDS src, 0)]) ∧
    t.srcBit K.FC_HELD_LO src = false ∧ t = { s with od := t.od, out := t.out, recOrd := Sp.del s.recOrd src })) ∧
  ((¬(Rec.held (s.causeRec src) = true ∧ Rec.seq (s.causeRec src) = q)) →
    Gives (.fcClear w (src + q * 2 ^ 32)) s (fun t => Answers s t w K.FC_CLEAR (src + q * 2 ^ 32) RC.stale 0 [(K.FC_STALE_CLEARS, s.g K.FC_STALE_CLEARS + 1)] ∧
    t = { s with od := t.od, out := t.out }))

/-- The collector's memory, vectors and the degrade reason. FC_DEGRADE_CLEAR clears REACTION of REPLACE_REASON. COLLECTOR_ECC_ERROR of a
single bit is counted as corrected with EV120, of one copy with EV121; with both copies lost the row restarts from its configuration
with its counts at 0 and the device asks for M10. MSIX_UNMASK sends a pending vector at once. SIGNER_FAULT raises EV119. Nothing else
changes. (R558, R577, R579, R582) What the rules leave open in it is the model's choice: log entries 14, 54. -/
def Obligations.CollectorCommands : Prop :=
  ∀ (s : State) (w : Who) (r : Nat), s.mode ≠ 0 →
  (s.admits w 3 →
    Gives (.fcDegradeClear w) s (fun t => Answers s t w K.FC_DEGRADE_CLEAR 0 RC.ok 0 [(K.REPLACE_REASON, setBit (s.g K.REPLACE_REASON) 12 false)] ∧
    t = { s with od := t.od, out := t.out })) ∧
  (r < 128 → Gives (.collectorEccError r .singleBit) s (fun t => Writes s t [(K.FC_ECC_CORRECTED, s.g K.FC_ECC_CORRECTED + 1)] ∧
    t = { s.raiseVal 120 0 with od := t.od, out := [] })) ∧
  (r < 128 → s.mode ≠ 11 →
    Gives (.collectorEccError r .oneCopy) s (fun t => Writes s t [(K.FC_ECC_CORRECTED, s.g K.FC_ECC_CORRECTED + 1)] ∧
    t = { s.raiseVal 121 0 with od := t.od, out := [] })) ∧
  (r < 128 → 2 ≤ s.mode → s.mode ≤ 9 → s.modePend = none →
    Gives (.collectorEccError r .bothCopies) s (fun t => WritesBut s t (fun j => j == K.FC_HELD_LO || j == atSub K.FC_HELD_LO 1 || j == K.FC_SEVERE_LO || j == atSub K.FC_SEVERE_LO 1) [(K.MODE_PENDING_FN, s.fn + 3), (K.MODE_PENDING, 10), (atRow K.FC_RECORDS r, 0), (atRow K.FC_WINDOW_COUNT r, 0), (atRow K.FC_COUNT r, 0)] ∧
    t.srcBit K.FC_HELD_LO r = false ∧ t.isSevere r = false ∧
    t = { s with od := t.od, out := [], fcSubs := Sp.del s.fcSubs r, recOrd := Sp.del s.recOrd r, modePend := some { target := 10, due := s.tick + 3, cause := 5, rank := 0 } })) ∧
  (r < 128 → s.msixPend = 2 ^ r →
    Gives (.msixUnmask r) s (fun t => t = { s with out := [.msix r], msixPend := setBit s.msixPend r false, msixMask := setBit s.msixMask r false })) ∧
  (s.msixPend = 0 → Gives (.signerFault) s (fun t => t = { s.raiseVal 119 0 with out := [] }))

/-- Block resets begin and settle, and severe states end. BLOCK_RESET of an instance ordered and due opens its shadow and resets it: a
calibration bank without a calibration drops its open audit blocks, a link out of service changes nothing. BLOCK_RESET_SETTLE_END of a
settled instance closes its shadow and raises EV125. SEVERE_END at a sub-window boundary below the threshold clears the source's severe
bit with a SEVERE_END log entry; FORCE_HOLDOVER_END at a window count of 0 ends the source's force. (R558, R560, R567, R571, R573) What
the rules leave open in it is the model's choice: log entries 14, 52, 53. -/
def Obligations.ResetsAndWindows : Prop :=
  ∀ (s : State) (i src : Nat) (b : Blk) (r : PendReset) (x : Shadow), s.mode ≠ 0 →
  (s.resets.find? (fun y => y.blk = .link && y.inst == i && y.src == src && y.due ≤ s.tick) = some r → i < 8 → r.inst = i →
    r.blk = .link → s.g (K.TN_STATE i) = 0 →
    Gives (.blockReset .link i src) s (fun t => t = { s with out := [], resets := s.resets.erase r, shadows := s.shadows ++ [{ kind := .block .link i, src := r.src, seq := r.seq, start := s.tick, till := none, logged := [] }] })) ∧
  (s.resets.find? (fun y => y.blk = .calibration && y.inst == i && y.src == src && y.due ≤ s.tick) = some r → i < 8 → r.inst = i →
    r.blk = .calibration → s.g (K.CALB_STATE i) = 0 →
    Gives (.blockReset .calibration i src) s (fun t => (∀ c ∈ List.range 8, t.pad (8 * i + c) = { s.pad (8 * i + c) with auditAt := s.tick, auditHad := (s.bank i).samples }) ∧
    ButThese t.pad s.pad ((List.range 8).map (8 * i + ·)) ∧ t.bank i = { s.bank i with used := (s.bank i).samples } ∧
    ButAt t.bank s.bank i ∧
    t = { s with out := [], padHid := t.padHid, bankHid := t.bankHid, resets := s.resets.erase r, shadows := s.shadows ++ [{ kind := .block .calibration i, src := r.src, seq := r.seq, start := s.tick, till := none, logged := [] }] })) ∧
  (s.shadows.find? (fun y => y.isBlock b i) = some x → s.settled b i x = true → s.resets = [] → s.shadows = [x] →
    Gives (.blockResetSettleEnd b i) s (fun t => t = { s.raiseVal 125 0 with out := [], shadows := [{ kind := .direct 4 0, src := x.src, seq := x.seq, start := s.tick, till := some (s.tick + 1), logged := [] }], handling := s.handling.map (fun h => if h.src = x.src ∧ h.seq = x.seq ∧ h.till.isNone then { h with till := some (s.tick - 1) } else h) })) ∧
  (src < 128 → s.subBoundary src = true → s.isSevere src = true → s.windowCount src < Fc.threshold (s.fcRow src) →
    Gives (.severeEnd src) s (fun t => t.isSevere src = false ∧ t.g K.FC_LOG_HEAD = s.g K.FC_LOG_HEAD + 1 ∧
    bits (t.g (atRow K.FC_LOG (s.g K.FC_LOG_HEAD % 1024))) 24 22 = 7 ∧
    WritesBut s t (fun j => j == K.FC_SEVERE_LO || j == atSub K.FC_SEVERE_LO 1 || j == K.FC_LOG_HEAD || j == atRow K.FC_LOG (s.g K.FC_LOG_HEAD % 1024)) [] ∧
    t = { s with od := t.od, out := [] })) ∧
  (src < 128 → s.subBoundary src = true → s.forced.contains src = true → s.windowCount src = 0 →
    Gives (.forceHoldoverEnd src) s (fun t => t = { s with out := [], forced := s.forced.filter (· != src) }))

/-- The device enters M0. POWER_ON, SUPPLY_BELOW_THRESHOLD of a rail, RESET_N_LOW, THERMAL_SHUTDOWN after 16 hot frames, and
JTAG_INSTRUCTION_LOAD of an instruction past the third put the device in M0 from any state: every object but the kept ones reads its
default, everything else stands as after reset but the causes that hold it there, the NVM, the flash and the test access port; a cause
already there stays, power-on apart. JTAG_INSTRUCTION_LOAD of the first three changes the port alone, IDCODE shifting its number out;
JTAG_TEST_LOGIC_RESET changes the port and its cause. (R518, R592, R593, R629, R643, R654) What the rules leave open in it is the
model's choice: log entries 3, 4, 5, 6. -/
def Obligations.ResetEntry : Prop :=
  ∀ (s : State) (r : Nat), s.store = none →
  (Gives .powerOn s (fun t => ResetObjects s t ∧ t.mode = 0 ∧
    t = { State.reset with od := t.od, pending := s.pending, free := s.free, m0Causes := 1, nvm := s.nvm, nvmBoot := s.nvmBoot, host := { flash := s.host.flash, jtag := 8 } })) ∧
  (r < 4 → Gives (.supplyBelowThreshold r) s (fun t => ResetObjects s t ∧ t.mode = 0 ∧
    t = { State.reset with od := t.od, pending := s.pending, free := s.free, m0Causes := setBit s.m0Causes 0 true, nvm := s.nvm, nvmBoot := s.nvmBoot, host := { flash := s.host.flash, jtag := s.host.jtag } })) ∧
  (Gives .resetNLow s (fun t => ResetObjects s t ∧ t.mode = 0 ∧
    t = { State.reset with od := t.od, pending := s.pending, free := s.free, m0Causes := setBit s.m0Causes 1 true, nvm := s.nvm, nvmBoot := s.nvmBoot, host := { flash := s.host.flash, jtag := s.host.jtag } })) ∧
  (s.mode ≠ 0 → 16 ≤ s.hotFrames → Gives .thermalShutdown s (fun t => ResetObjects s t ∧ t.mode = 0 ∧
    t = { State.reset with od := t.od, pending := s.pending, free := s.free, m0Causes := setBit s.m0Causes 2 true, nvm := s.nvm, nvmBoot := s.nvmBoot, host := { flash := s.host.flash, jtag := s.host.jtag } })) ∧
  (2 < r → Gives (.jtagInstructionLoad r) s (fun t => ResetObjects s t ∧ t.mode = 0 ∧
    t = { State.reset with od := t.od, pending := s.pending, free := s.free, m0Causes := setBit s.m0Causes 3 true, nvm := s.nvm, nvmBoot := s.nvmBoot, host := { flash := s.host.flash, jtag := r } })) ∧
  (r ≤ 2 →
    Gives (.jtagInstructionLoad r) s (fun t => t = { s with out := if r = 1 then [.idCode 0x17264A2B] else [], host := { s.host with jtag := r } })) ∧
  (Gives .jtagTestLogicReset s (fun t => t = { s with out := [], host := { s.host with jtag := 8 }, m0Causes := setBit s.m0Causes 3 false }))

/-- The device leaves M0 into LOAD. RESET_RELEASE with neither temperature nor a test instruction holding M0 enters M1 with the on-die
oscillator, boundary count 0, no cause left, the image slots shown, and LOSC measured with both synthesizers acquiring, or found missing
(EV021). THERMAL_RECOVERY does the same, with a free finding of LOSC, when nothing else holds M0; else it only ends its cause. (R328,
R594, R595, R654) What the rules leave open in it is the model's choice: log entries 14, 43. -/
def Obligations.ResetRelease : Prop :=
  ∀ (s : State) (l : Nat), s.mode = 0 →
  (bit s.m0Causes 2 = false → bit s.m0Causes 3 = false → 1 ≤ l → l ≤ 3 → Gives (.resetRelease l) s (fun t => t.mode = 1 ∧
    t.clock = .onDie ∧ t.tick = 0 ∧ t.m0Causes = 0 ∧ t.modePend = none ∧ t.g K.MODE_PREV = 0 ∧
    t.g K.MODE_TRANSITIONS = s.g K.MODE_TRANSITIONS + 1 ∧ t.g K.LOSC_FREQ = l ∧ t.g K.SPN_STATE = 1 ∧ t.g K.BYP_STATE = 1 ∧
    t.g K.SPN_BAND < 4 ∧ t.g (atRow K.FL_SLOTS 0) % 2 ^ 32 = s.imageVersion 0 % 2 ^ 32 ∧ t.g K.TS_FN = s.g K.TS_FN ∧ t.vmem = s.vmem ∧
    t.slotBytes = s.slotBytes ∧ t.nvm = s.nvm ∧ t.host = s.host ∧ EventsBut s t [95, 123])) ∧
  (bit s.m0Causes 2 = false → bit s.m0Causes 3 = false → (l = 0 ∨ 3 < l) → Gives (.resetRelease l) s (fun t => t.mode = 1 ∧
    t.clock = .onDie ∧ t.tick = 0 ∧ t.m0Causes = 0 ∧ t.loscMiss = true ∧ t.evMask 21 = s.evMask 21 ||| 33 ∧ t.nvm = s.nvm ∧
    t.host = s.host)) ∧
  (bit s.m0Causes 2 = true → setBit s.m0Causes 2 false = 0 → Gives .thermalRecovery s (fun t => t.mode = 1 ∧ t.clock = .onDie ∧
    t.tick = 0 ∧ t.m0Causes = 0 ∧ t.nvm = s.nvm ∧ t.host = s.host)) ∧
  (bit s.m0Causes 2 = true → setBit s.m0Causes 2 false ≠ 0 →
    Gives .thermalRecovery s (fun t => t = { s with out := [], m0Causes := setBit s.m0Causes 2 false }))

/-- LOAD checks an image, loads tables and sweeps. FIRMWARE_CHECK_COMPLETE of the image that LOAD reads next runs it when it passes, with
its version and the next BOOT; rejected, it raises EV118, and with none left M10 is asked for at the third next boundary.
TABLE_LOAD_COMPLETE of a core takes the core's entries and objects from the set chosen and makes it READY, unless it is in FAULT, when
the set covers it. VERIFY_SWEEP of every calibrated core, 9,216 frames after it began, writes each deviation and sets VERIFY with EV087
where it is over the limit; VERIFY_SWEEP_SKIPPED sets it on every calibrated core. Either ends the steps of LOAD. (R281, R457, R595,
R596, R627) What the rules leave open in it is the model's choice: log entries 14, 45, 46, 47. -/
def Obligations.LoadSteps : Prop :=
  ∀ (s : State) (i v : Nat) (set : NvmSet) (ds : List (Nat × Nat × Bool)), s.mode = 1 →
  (s.host.fwSlot = none → s.nextImage = some i →
    Gives (.firmwareCheckComplete i true) s (fun t => t.g K.ID_FW_VERSION = s.imageVersion i ∧ t.g K.ER_BOOT = (s.nvmBoot + 1) % 2 ^ 32 ∧
    t.g K.ID_BOOT = (s.nvmBoot + 1) % 2 ^ 32 ∧ t.nvmBoot = (s.nvmBoot + 1) % 2 ^ 32 ∧ t.host.fwSlot = some i ∧
    bit (t.g (atRow K.FL_SLOTS i)) 63 = true ∧ t.nvm = s.nvm ∧ t.vmem = s.vmem ∧ t.slotBytes = s.slotBytes ∧ t.tick = s.tick ∧
    t.clock = s.clock ∧ t.mode = 1 ∧ EventsBut s t [94])) ∧
  (s.host.fwSlot = none → s.nextImage = some i → s.host.fwTried = [] →
    Gives (.firmwareCheckComplete i false) s (fun t => Writes s t [(atRow K.FL_SLOTS i, s.imageVersion i)] ∧
    t = { s.raiseVal 118 (Config.causeWord 118 i 0) with od := t.od, out := [], host := { s.host with fwTried := [i] } })) ∧
  (s.host.fwSlot = none → s.nextImage = some i → s.host.fwTried = [1 - i] → s.modePend = none →
    Gives (.firmwareCheckComplete i false) s (fun t => Writes s t [(K.MODE_PENDING_FN, s.fn + 3), (K.MODE_PENDING, 10), (atRow K.FL_SLOTS i, s.imageVersion i)] ∧
    t = { s.raiseVal 118 (Config.causeWord 118 i 0) with od := t.od, out := [], host := { s.host with fwTried := [1 - i, i] }, modePend := some { target := 10, due := s.tick + 3, cause := 5, rank := 0 } })) ∧
  (s.host.bootSet = some (v, set) → i < 72 → s.host.loaded.contains i = false →
    set.objs.any (fun p => p.1 == K.IP_CAL_UNC i && decide (p.2 < 250)) = true → (set.objs.map (·.1)).Nodup →
    Gives (.tableLoadComplete i) s (fun t => WritesBut s t (fun j => (coreKeys i).contains j) [(K.IP_STATE i, if s.g (K.IP_STATE i) = 2 then 2 else 0), (K.IP_TABLE_SEQ i, set.seq)] ∧
    (∀ j ∈ coreKeys i, t.g j = ((set.objs.find? (fun p => p.1 == j)).map (·.2)).getD (s.g j)) ∧
    t = { s with od := t.od, out := [], corr := t.corr, host := { s.host with loaded := s.host.loaded ++ [i] } } ∧
    (∀ e ∈ List.range 512, Sp.get (fun _ => 0) t.corr (i * 512 + e) = Sp.get (fun _ => 0) set.corr (i * 512 + e)))) ∧
  (s.host.bootSet = some (v, set) → i < 72 → s.host.loaded.contains i = false →
    set.objs.any (fun p => p.1 == K.IP_CAL_UNC i && decide (p.2 < 250)) = false →
    Gives (.tableLoadComplete i) s (fun t => Writes s t [(K.IP_TABLE_SEQ i, set.seq)] ∧
    t = { s with od := t.od, out := [], host := { s.host with loaded := s.host.loaded ++ [i] } })) ∧
  (s.host.swept = false → s.host.sweepAt = some v → v + 9216 ≤ s.tick → s.g K.BYP_STATE ≠ 2 → i < 72 → s.g (K.IP_STATE i) ≠ 3 →
    (∀ c ∈ List.range 72, c ≠ i → s.g (K.IP_STATE c) = 3) → (∀ c ∈ List.range 72, s.calSince.any (fun p => p.1 == c) = true) →
    Gives (.verifySweep [(i, 7, false)]) s (fun t => WritesBut s t (fun j => (List.range 72).any (fun c => c != i && j == K.CORE_CAL_REASON c)) [(K.CORE_CAL_REASON i, if s.g K.CAL_VERIFY_LIMIT < 7 then setBit (s.g (K.CORE_CAL_REASON i)) 3 true else s.g (K.CORE_CAL_REASON i)), (K.CORE_VERIFY_DEV i, 7)] ∧
    (∀ c ∈ List.range 72, c ≠ i → t.g (K.CORE_CAL_REASON c) = setBit (s.g (K.CORE_CAL_REASON c)) 1 true) ∧
    t = { (if s.g K.CAL_VERIFY_LIMIT < 7 then s.raiseDet 87 i (2 ^ bankOf i) else s) with od := t.od, out := [], host := { s.host with swept := true } })) ∧
  (s.host.swept = false → s.host.sweepAt = some v → v + 9216 ≤ s.tick → s.g K.BYP_STATE ≠ 2 →
    (∀ c ∈ List.range 72, s.g (K.IP_STATE c) = 3 ∨ ds.any (fun d => d.1 == c) = true) → (ds.map (·.1)).Nodup →
    Gives (.verifySweep ds) s (fun t => (∀ d ∈ ds, d.1 < 72 → s.g (K.IP_STATE d.1) ≠ 3 → d.2.2 = false →
    t.g (K.CORE_VERIFY_DEV d.1) = d.2.1 ∧
    t.g (K.CORE_CAL_REASON d.1) = if s.g K.CAL_VERIFY_LIMIT < d.2.1 then setBit (s.g (K.CORE_CAL_REASON d.1)) 3 true else s.g (K.CORE_CAL_REASON d.1)) ∧
    (∀ d ∈ ds, d.1 < 72 → s.g (K.IP_STATE d.1) ≠ 3 → d.2.2 = true → bit (t.g (K.CORE_CAL_REASON d.1)) 3 = true) ∧
    (∀ c ∈ List.range 72, s.g (K.IP_STATE c) = 3 → t.g (K.CORE_CAL_REASON c) = setBit (s.g (K.CORE_CAL_REASON c)) 1 true) ∧
    WritesBut s t (fun j => j == K.CAL_LAST_INVALID || j == K.CAL_LAST_INVALID_FN || (List.range 72).any (fun c => j == K.CORE_CAL_REASON c || j == K.CORE_VERIFY_DEV c)) [] ∧
    EventsBut s t [83, 87] ∧
    t = { s with od := t.od, out := [], free := t.free, raised := t.raised, calSince := t.calSince, host := { s.host with swept := true } })) ∧
  (s.host.swept = false → s.host.sweepAt = none → s.tablesLoaded = true → 43750 < s.tick → s.g K.BYP_STATE ≠ 2 →
    Gives .verifySweepSkipped s (fun t => (∀ c ∈ List.range 72, t.g (K.CORE_CAL_REASON c) = setBit (s.g (K.CORE_CAL_REASON c)) (if s.g (K.IP_STATE c) = 3 then 1 else 3) true) ∧
    WritesBut s t (fun j => (List.range 72).any (fun c => j == K.CORE_CAL_REASON c)) [] ∧ (∀ c ∈ List.range 72, s.g (K.IP_STATE c) ≠ 3 →
    bit (t.evMask 87) (bankOf c) = true) ∧ EventsBut s t [87] ∧
    t = { s with od := t.od, out := [], raised := t.raised, calSince := t.calSince, host := { s.host with swept := true } }))

/-- Locks of a sequencer, and its compare log. SQ_LOCK_ACQUIRE and SQ_LOCK_RELEASE of a requester whom no other holder locks out answer OK
and set SQ_LOCK_OWNER to its identity, with the lease begun, or to 0; one locked out is answered LOCKED. The lock breaks with EV052 when
the lease has passed without renewal. CMP_LOG_RESUME clears CMP_LOG_HALTED; a write of CMP_LOG_TAIL takes a value from TAIL to HEAD and
answers RANGE outside. Nothing else changes. (R153, R154, R188, R189, R523) What the rules leave open in it is the model's choice: log
entries 62, 63, 93, 94. -/
def Obligations.SequencerLocks : Prop :=
  ∀ (s : State) (w : Who) (q v : Nat), q < 8 →
  (s.admits w 1 → s.lockedOut w q = false →
    Gives (.sqLockAcquire w q) s (fun t => Answers s t w (K.SQ_LOCK q) 1 RC.ok 0 [(K.SQ_LOCK_OWNER q, identityOf w)] ∧
    t = { s.setSq q { s.sq q with renewed := s.tick } with od := t.od, out := t.out })) ∧
  (s.admits w 1 → s.lockedOut w q = true → Gives (.sqLockAcquire w q) s (fun t => Answers s t w (K.SQ_LOCK q) 1 RC.locked 0 [] ∧
    t = { s with od := t.od, out := t.out })) ∧
  (s.admits w 1 → s.lockedOut w q = false →
    Gives (.sqLockRelease w q) s (fun t => Answers s t w (K.SQ_LOCK q) 0 RC.ok 0 [(K.SQ_LOCK_OWNER q, 0)] ∧
    t = { s with od := t.od, out := t.out })) ∧
  (s.admits w 1 → s.lockedOut w q = true → Gives (.sqLockRelease w q) s (fun t => Answers s t w (K.SQ_LOCK q) 0 RC.locked 0 [] ∧
    t = { s with od := t.od, out := t.out })) ∧
  (s.mode ≠ 0 → s.g (K.SQ_LOCK_OWNER q) ≠ 0 → (s.sq q).renewed + framesOfUs (s.g (K.SQ_LOCK_LEASE q)) ≤ s.tick →
    Gives (.sqLockLeaseExpiry q) s (fun t => Writes s t [(K.SQ_LOCK_OWNER q, 0)] ∧
    t = { s.raiseBits 52 (2 ^ q) with od := t.od, out := [] })) ∧
  (s.admits w 1 → Gives (.cmpLogResume w q) s (fun t => Answers s t w (K.CMP_LOG_RESUME q) 0 RC.ok 0 [(K.CMP_LOG_HALTED q, 0)] ∧
    t = { s with od := t.od, out := t.out })) ∧
  (s.admits w 1 → s.g (K.CMP_LOG_TAIL q) ≤ v → v ≤ s.g (K.CMP_LOG_HEAD q) →
    Gives (.cmpLogTailWrite w q v) s (fun t => Writes s t [(K.CMP_LOG_TAIL q, v)] ∧
    t = { s with od := t.od, out := [.result RC.ok 0] })) ∧
  (s.admits w 1 → (v < s.g (K.CMP_LOG_TAIL q) ∨ s.g (K.CMP_LOG_HEAD q) < v) →
    Gives (.cmpLogTailWrite w q v) s (fun t => t = { s with out := [.result RC.range 0] }))

/-- Jumps, stops and starts are asked for. SQ_JUMP and SQ_STOP of a sequencer that plays, by a requester not locked out, hold the request in
place of one held, with SQ_JUMP_STATUS 1, or 2 with EV050 when the next boundary is known not to take it; they answer STATE on a stopped
one (SQ_JUMP on an armed one too), BUSY while a request is taken. A jump to an entry not committed answers RANGE, of another owner
OWNER, of another generation STALE with SQ_STALE counted and EV051. SQ_START of a mask that may start arms each of its sequencers for
START, or for the earliest frame where START is 0, and SQ_START_FN tells it; of one that may not it answers why, for HORIZON with the
earliest frame; a stack start is one of the master alone and lies 2,560 frames or more ahead. A time of no second answers MALFORMED,
another's lock LOCKED. (R54, R62, R173, R190, R191, R192, R193, R194, R196, R198, R200) What the rules leave open in it is the model's
choice: log entries 61, 62, 63, 92, 95, 96, 105. -/
def Obligations.SequencerRequests : Prop :=
  ∀ (s : State) (w : Who) (q arg : Nat), q < 8 → s.admits w 1 →
  (s.lockedOut w q = false → bits arg 43 0 < qSecond → 2 ≤ s.g (K.SQ_STATE q) → bits arg 127 126 < 3 →
    Seg.live (s.seg (bits arg 125 112)) = true → (bits arg 127 126 = 2 → s.beyondReach (time92 (bits arg 91 0)) = false) →
    Seg.owner (s.seg (bits arg 125 112)) = q → Seg.gen (s.seg (bits arg 125 112)) = bits arg 111 104 → s.g (K.SQ_JUMP_STATUS q) ≠ 3 →
    Gives (.sqJump w q arg) s (fun t => t.out = [.result RC.accepted 0] ∧
    WritesBut s t (fun j => j == K.SQ_JUMP_STATUS q) (recordOf s w (K.SQ_JUMP q) arg RC.accepted 0 ++ [(K.SQ_JUMP_FN q, 0)]) ∧
    (1 < (s.sq q).line.length → t.g (K.SQ_JUMP_STATUS q) = 2) ∧ (t.g (K.SQ_JUMP_STATUS q) = 1 ∧
    t.raised = s.raised ∨ t.g (K.SQ_JUMP_STATUS q) = 2 ∧ t.raised = (s.raiseBits 50 (2 ^ q)).raised) ∧
    t.sq q = { s.sq q with req := some { stop := false, whn := bits arg 127 126, target := bits arg 125 112, gen := bits arg 111 104, time := time92 (bits arg 91 0), fn := s.fn }, renewed := if s.g (K.SQ_LOCK_OWNER q) = identityOf w then s.tick else (s.sq q).renewed } ∧
    ButAt t.sq s.sq q ∧ t = { s with od := t.od, out := t.out, sqHid := t.sqHid, raised := t.raised })) ∧
  (s.lockedOut w q = false → bits arg 43 0 < qSecond → s.g (K.SQ_STATE q) ≤ 1 →
    Gives (.sqJump w q arg) s (fun t => Answers s t w (K.SQ_JUMP q) arg RC.state 0 [] ∧
    t = { s with od := t.od, out := t.out, sqHid := t.sqHid } ∧ ButAt t.sq s.sq q)) ∧
  (s.lockedOut w q = false → bits arg 43 0 < qSecond → 2 ≤ s.g (K.SQ_STATE q) →
    (bits arg 127 126 = 3 ∨ Seg.live (s.seg (bits arg 125 112)) = false) →
    Gives (.sqJump w q arg) s (fun t => Answers s t w (K.SQ_JUMP q) arg RC.range 0 [] ∧
    t = { s with od := t.od, out := t.out, sqHid := t.sqHid } ∧ ButAt t.sq s.sq q)) ∧
  (s.lockedOut w q = false → bits arg 43 0 < qSecond → 2 ≤ s.g (K.SQ_STATE q) → bits arg 127 126 < 2 →
    Seg.live (s.seg (bits arg 125 112)) = true → Seg.owner (s.seg (bits arg 125 112)) ≠ q →
    Gives (.sqJump w q arg) s (fun t => Answers s t w (K.SQ_JUMP q) arg RC.owner 0 [] ∧
    t = { s with od := t.od, out := t.out, sqHid := t.sqHid } ∧ ButAt t.sq s.sq q)) ∧
  (s.lockedOut w q = false → bits arg 43 0 < qSecond → 2 ≤ s.g (K.SQ_STATE q) → bits arg 127 126 < 2 →
    Seg.live (s.seg (bits arg 125 112)) = true → Seg.owner (s.seg (bits arg 125 112)) = q →
    Seg.gen (s.seg (bits arg 125 112)) ≠ bits arg 111 104 →
    Gives (.sqJump w q arg) s (fun t => Answers s t w (K.SQ_JUMP q) arg RC.stale 0 [(K.SQ_STALE q, s.g (K.SQ_STALE q) + 1)] ∧
    t = { s.raiseBits 51 (2 ^ q) with od := t.od, out := t.out, sqHid := t.sqHid } ∧ ButAt t.sq s.sq q)) ∧
  (qSecond ≤ bits arg 43 0 → Gives (.sqJump w q arg) s (fun t => Answers s t w (K.SQ_JUMP q) arg RC.malformed 0 [] ∧
    t = { s with od := t.od, out := t.out })) ∧
  (s.lockedOut w q = true → bits arg 43 0 < qSecond →
    Gives (.sqJump w q arg) s (fun t => Answers s t w (K.SQ_JUMP q) arg RC.locked 0 [] ∧ t = { s with od := t.od, out := t.out })) ∧
  (s.lockedOut w q = false → bits arg 43 0 < qSecond → 2 ≤ s.g (K.SQ_STATE q) → bits arg 127 126 < 2 →
    Seg.live (s.seg (bits arg 125 112)) = true → Seg.owner (s.seg (bits arg 125 112)) = q →
    Seg.gen (s.seg (bits arg 125 112)) = bits arg 111 104 → s.g (K.SQ_JUMP_STATUS q) = 3 →
    Gives (.sqJump w q arg) s (fun t => Answers s t w (K.SQ_JUMP q) arg RC.busy 0 [] ∧
    t = { s with od := t.od, out := t.out, sqHid := t.sqHid } ∧ ButAt t.sq s.sq q)) ∧
  (s.lockedOut w q = false → 1 ≤ s.g (K.SQ_STATE q) → s.g (K.SQ_JUMP_STATUS q) ≠ 3 →
    Gives (.sqStop w q arg) s (fun t => t.out = [.result RC.accepted 0] ∧
    WritesBut s t (fun j => j == K.SQ_JUMP_STATUS q) (recordOf s w (K.SQ_STOP q) arg RC.accepted 0 ++ [(K.SQ_JUMP_FN q, 0)]) ∧
    (1 < (s.sq q).line.length → t.g (K.SQ_JUMP_STATUS q) = 2) ∧ (t.g (K.SQ_JUMP_STATUS q) = 1 ∧
    t.raised = s.raised ∨ t.g (K.SQ_JUMP_STATUS q) = 2 ∧ t.raised = (s.raiseBits 50 (2 ^ q)).raised) ∧
    t.sq q = { s.sq q with req := some { stop := true, park := bit arg 0, fn := s.fn }, renewed := if s.g (K.SQ_LOCK_OWNER q) = identityOf w then s.tick else (s.sq q).renewed } ∧
    ButAt t.sq s.sq q ∧ t = { s with od := t.od, out := t.out, sqHid := t.sqHid, raised := t.raised })) ∧
  (s.lockedOut w q = false → 1 ≤ s.g (K.SQ_STATE q) → s.g (K.SQ_JUMP_STATUS q) = 3 →
    Gives (.sqStop w q arg) s (fun t => Answers s t w (K.SQ_STOP q) arg RC.busy 0 [] ∧
    t = { s with od := t.od, out := t.out, sqHid := t.sqHid } ∧ ButAt t.sq s.sq q)) ∧
  (s.lockedOut w q = false → s.g (K.SQ_STATE q) = 0 → Gives (.sqStop w q arg) s (fun t => Answers s t w (K.SQ_STOP q) arg RC.state 0 [] ∧
    t = { s with od := t.od, out := t.out, sqHid := t.sqHid } ∧ ButAt t.sq s.sq q)) ∧
  (s.lockedOut w q = true → Gives (.sqStop w q arg) s (fun t => Answers s t w (K.SQ_STOP q) arg RC.locked 0 [] ∧
    t = { s with od := t.od, out := t.out })) ∧
  ((∀ k ∈ bitList 8 (bits arg 127 120), s.lockedOut w k = false) → bits arg 43 0 < qSecond → bit arg 119 = false →
    s.startRefusal (bitList 8 (bits arg 127 120)) (time92 (bits arg 91 0)) = 0 →
    Gives (.sqStart w arg) s (fun t => t.out = [.result RC.accepted 0] ∧
    WritesBut s t (fun j => (bitList 8 (bits arg 127 120)).any (fun k => j == K.SQ_LEAD k || j == K.SQ_STATE k || j == K.SQ_JUMP_STATUS k || j == K.SQ_JUMP_FN k || j == K.SQ_ITER k)) (recordOf s w K.SQ_START arg RC.accepted 0 ++ [(K.SQ_START_FN, if time92 (bits arg 91 0) = 0 then s.earliestStart (bitList 8 (bits arg 127 120)) else frameOf (time92 (bits arg 91 0)))]) ∧
    (∀ k ∈ bitList 8 (bits arg 127 120), t.g (K.SQ_STATE k) = 1 ∧ t.g (K.SQ_LEAD k) = s.largestLead k ∧ t.g (K.SQ_JUMP_STATUS k) = 0 ∧
    t.g (K.SQ_JUMP_FN k) = 0 ∧ t.g (K.SQ_ITER k) = 0 ∧
    t.sq k = { nextId := (s.sq k).nextId, levels := (s.sq k).levels, cmp := (s.sq k).cmp, renewed := if s.g (K.SQ_LOCK_OWNER k) = identityOf w then s.tick else (s.sq k).renewed, startAt := some (if time92 (bits arg 91 0) = 0 then s.earliestStart (bitList 8 (bits arg 127 120)) * qFrame else time92 (bits arg 91 0)) }) ∧
    ButThese t.sq s.sq (bitList 8 (bits arg 127 120)) ∧ t = { s with od := t.od, out := t.out, sqHid := t.sqHid })) ∧
  ((∀ k ∈ bitList 8 (bits arg 127 120), s.lockedOut w k = false) → bits arg 43 0 < qSecond → bit arg 119 = false →
    s.startRefusal (bitList 8 (bits arg 127 120)) (time92 (bits arg 91 0)) ≠ 0 →
    Gives (.sqStart w arg) s (fun t => Answers s t w K.SQ_START arg (s.startRefusal (bitList 8 (bits arg 127 120)) (time92 (bits arg 91 0))) (if s.startRefusal (bitList 8 (bits arg 127 120)) (time92 (bits arg 91 0)) = RC.horizon then s.earliestStart (bitList 8 (bits arg 127 120)) else 0) [] ∧
    t = { s with od := t.od, out := t.out, sqHid := t.sqHid } ∧ ButThese t.sq s.sq (bitList 8 (bits arg 127 120)))) ∧
  (bits arg 43 0 < qSecond → (∃ k ∈ bitList 8 (bits arg 127 120), s.lockedOut w k = true) →
    Gives (.sqStart w arg) s (fun t => Answers s t w K.SQ_START arg RC.locked 0 [] ∧ t = { s with od := t.od, out := t.out })) ∧
  (qSecond ≤ bits arg 43 0 → Gives (.sqStart w arg) s (fun t => Answers s t w K.SQ_START arg RC.malformed 0 [] ∧
    t = { s with od := t.od, out := t.out })) ∧
  ((∀ k ∈ bitList 8 (bits arg 127 120), s.lockedOut w k = false) → bits arg 43 0 < qSecond → bit arg 119 = true → s.g K.STK_STATE ≠ 1 →
    Gives (.sqStart w arg) s (fun t => Answers s t w K.SQ_START arg RC.state 0 [] ∧
    t = { s with od := t.od, out := t.out, sqHid := t.sqHid } ∧ ButThese t.sq s.sq (bitList 8 (bits arg 127 120)))) ∧
  ((∀ k ∈ bitList 8 (bits arg 127 120), s.lockedOut w k = false) → bits arg 43 0 < qSecond → bit arg 119 = true → s.g K.STK_STATE = 1 →
    s.stkStart.isSome = true → Gives (.sqStart w arg) s (fun t => Answers s t w K.SQ_START arg RC.busy 0 [] ∧
    t = { s with od := t.od, out := t.out, sqHid := t.sqHid } ∧ ButThese t.sq s.sq (bitList 8 (bits arg 127 120)))) ∧
  ((∀ k ∈ bitList 8 (bits arg 127 120), s.lockedOut w k = false) → bits arg 43 0 < qSecond → bit arg 119 = true → s.g K.STK_STATE = 1 →
    s.stkStart = none → s.startRefusal (bitList 8 (bits arg 127 120)) (time92 (bits arg 91 0)) = 0 →
    s.fn + 2560 ≤ (if time92 (bits arg 91 0) = 0 then max (s.earliestStart (bitList 8 (bits arg 127 120))) (s.fn + 2560) else frameOf (time92 (bits arg 91 0))) →
    s.earliestStart (bitList 8 (bits arg 127 120)) ≤ (if time92 (bits arg 91 0) = 0 then max (s.earliestStart (bitList 8 (bits arg 127 120))) (s.fn + 2560) else frameOf (time92 (bits arg 91 0))) →
    Gives (.sqStart w arg) s (fun t => t.out = [.result RC.accepted 0] ∧
    WritesBut s t (fun j => (bitList 8 (bits arg 127 120)).any (fun k => j == K.SQ_LEAD k || j == K.SQ_STATE k || j == K.SQ_JUMP_STATUS k || j == K.SQ_JUMP_FN k || j == K.SQ_ITER k)) (recordOf s w K.SQ_START arg RC.accepted 0 ++ [(K.SQ_STACK_RESULT, 0), (K.SQ_START_FN, (if time92 (bits arg 91 0) = 0 then max (s.earliestStart (bitList 8 (bits arg 127 120))) (s.fn + 2560) else frameOf (time92 (bits arg 91 0))))]) ∧
    (∀ k ∈ bitList 8 (bits arg 127 120), t.g (K.SQ_STATE k) = 1 ∧
    (t.sq k).startAt = some (if time92 (bits arg 91 0) = 0 then max (s.earliestStart (bitList 8 (bits arg 127 120))) (s.fn + 2560) * qFrame else time92 (bits arg 91 0))) ∧
    ButThese t.sq s.sq (bitList 8 (bits arg 127 120)) ∧
    t = { s with od := t.od, out := t.out, sqHid := t.sqHid, stkStart := some ((if time92 (bits arg 91 0) = 0 then max (s.earliestStart (bitList 8 (bits arg 127 120))) (s.fn + 2560) * qFrame else time92 (bits arg 91 0)), 0, 0) }))

/-- A sequencer starts, goes on, compares and stops. SEQ_START_REACHED, and ITERATION_BOUNDARY once the item playing has played out, begin
the next item at its frame: an iteration sets SQ_STATE, SQ_ENTRY and SQ_ITER, a replayed one counts in SQ_REPLAYS, an idle vector shows
no entry; one that begins an underrun counts it with its frame and EV048, one that ends it raises EV049, one that a host request chose
sets SQ_JUMP_STATUS 4; a stop ends the sequencer with EV054. VECTOR_START counts each vector, idle or played; a played one marks its
timing set in use and leaves its windows to be compared. PREFETCH_DEADLINE makes one further item final, beginning where the line ends:
after a stop request that qualifies the stop, with SQ_JUMP_STATUS 3 and the frame in SQ_JUMP_FN; else what the program or the start
entry chooses, the iteration where it is ready and an underrun where it is not; in an underrun the missing iteration once it is ready,
else the policy goes on. COMPARE_OUTCOME decides every vector whose last window closed long enough ago: a closed window counts PASS,
FAIL or INVALID, with EV060 or EV061. PLAYBACK_PARK_ON_RETIRE cuts an iteration off before the first vector it lost, parks the pins and
leaves the iteration missing. (R129, R143, R149, R151, R181, R182, R186, R194, R196, R199, R201, R252) What the rules leave open in it
is the model's choice: log entries 61, 62, 75, 88, 89, 90, 91. -/
def Obligations.Playback : Prop :=
  ∀ (s : State) (q i b n a c d : Nat) (it nx : Iter) (r : List Iter) (v : Vec) (fs : List Vec) (x : SqReq) (m : CmpVec) (ch : Choice), s.mode ≠ 0 →
    q < 8 →
  (s.g (K.SQ_STATE q) = 1 → (s.sq q).line = it :: r → frameOf (it.start.getD 0) ≤ s.fn → it.kind ≠ 2 →
    Gives (.seqStartReached q) s (fun t => Writes s t (s.begun q it) ∧ BegunEvents s t q it ∧
    t.sq q = { s.sq q with startAt := none, req := if it.jump then none else (s.sq q).req } ∧ ButAt t.sq s.sq q ∧
    t = { s with od := t.od, out := [], sqHid := t.sqHid, raised := t.raised })) ∧
  (s.g (K.SQ_STATE q) = 1 → (s.sq q).line = it :: r → frameOf (it.start.getD 0) ≤ s.fn → it.kind = 2 →
    Gives (.seqStartReached q) s (fun t => Writes s t ([(K.SQ_ENTRY q, 0xFFFF), (K.SQ_STATE q, 0)] ++ if it.jump then [(K.SQ_JUMP_STATUS q, 4)] else []) ∧
    t.sq q = { nextId := (s.sq q).nextId, levels := (t.sq q).levels, cmp := (s.sq q).cmp, renewed := (s.sq q).renewed } ∧
    ButAt t.sq s.sq q ∧ t = { s.raiseBits 54 (2 ^ q) with od := t.od, out := [], sqHid := t.sqHid, chHid := t.chHid })) ∧
  (2 ≤ s.g (K.SQ_STATE q) → (s.sq q).line = it :: nx :: r → (s.sq q).fifo.any (fun y => y.id == it.id) = false →
    ((s.sq q).fIter ≠ it.id ∨ it.len ≤ (s.sq q).fIdx) → frameOf (nx.start.getD 0) ≤ s.fn → nx.kind ≠ 2 →
    Gives (.iterationBoundary q) s (fun t => Writes s t (s.begun q nx) ∧ BegunEvents s t q nx ∧
    t.sq q = { s.sq q with line := nx :: r, req := if nx.jump then none else (s.sq q).req, done := if it.kind = 0 ∧ it.bad = none then some (it.entry, it.gen, it.page) else (s.sq q).done, fIter := if (s.sq q).fIter = it.id then nx.id else (s.sq q).fIter, fIdx := if (s.sq q).fIter = it.id then 0 else (s.sq q).fIdx } ∧
    ButAt t.sq s.sq q ∧ t = { s with od := t.od, out := [], sqHid := t.sqHid, raised := t.raised })) ∧
  (2 ≤ s.g (K.SQ_STATE q) → (s.sq q).line = it :: nx :: r → (s.sq q).fifo.any (fun y => y.id == it.id) = false →
    ((s.sq q).fIter ≠ it.id ∨ it.len ≤ (s.sq q).fIdx) → frameOf (nx.start.getD 0) ≤ s.fn → nx.kind = 2 →
    Gives (.iterationBoundary q) s (fun t => Writes s t ([(K.SQ_ENTRY q, 0xFFFF), (K.SQ_STATE q, 0)] ++ if nx.jump then [(K.SQ_JUMP_STATUS q, 4)] else []) ∧
    t.sq q = { nextId := (s.sq q).nextId, levels := (t.sq q).levels, cmp := (s.sq q).cmp, renewed := (s.sq q).renewed } ∧
    ButAt t.sq s.sq q ∧ t = { s.raiseBits 54 (2 ^ q) with od := t.od, out := [], sqHid := t.sqHid, chHid := t.chHid })) ∧
  (2 ≤ s.g (K.SQ_STATE q) → (s.sq q).fifo = v :: fs → (s.sq q).line = it :: r → v.id = it.id → frameOf v.start ≤ s.fn → v.kind = 1 →
    Gives (.vectorStart q) s (fun t => Writes s t [(K.SQ_IDLE_VECTORS q, s.g (K.SQ_IDLE_VECTORS q) + 1)] ∧
    t.sq q = { s.sq q with fifo := fs.map (fun y => if y.start < v.start + 1 then { y with handed := true } else y), levels := (t.sq q).levels, now := none } ∧
    ButAt t.sq s.sq q ∧ t = { s with od := t.od, out := [], sqHid := t.sqHid, chHid := t.chHid })) ∧
  (2 ≤ s.g (K.SQ_STATE q) → (s.sq q).fifo = v :: fs → (s.sq q).line = it :: r → v.id = it.id → frameOf v.start ≤ s.fn → v.kind = 0 →
    (s.atTime v.start).timingSet q v.tssel = n → n < 256 →
    Gives (.vectorStart q) s (fun t => Writes s t [(K.TS_IN_USE n, setBit (s.g (K.TS_IN_USE n)) q true), (K.SQ_VECTORS q, s.g (K.SQ_VECTORS q) + 1)] ∧
    t.sq q = { s.sq q with fifo := fs.map (fun y => if y.start < v.start + 1 then { y with handed := true } else y), levels := (t.sq q).levels, now := some (n, v.start + v.period), cmp := (t.sq q).cmp } ∧
    (t.sq q).cmp = (s.sq q).cmp ++ [{ id := v.id, entry := v.entry, gen := v.gen, seg := Seg.id (s.seg v.entry), idx := v.idx, n := v.n, tag := v.tag, clog := v.clog, wins := if s.windows q v = [] then [(16, 0, v.start, v.start)] else s.windows q v }] ∧
    ButAt t.sq s.sq q ∧
    t = { (if v.evt then s.raiseBits 55 (2 ^ q) else s) with od := t.od, out := [], sqHid := t.sqHid, chHid := t.chHid })) ∧
  (s.g (K.SQ_STATE q) ≠ 0 → s.lineEnd q (s.sqLimit q) = some b → (s.sq q).left = [] → (s.sq q).req = none →
    (s.sq q).line.getLast? = some it → it.kind = 0 → (s.sq q).missing = none → s.programNext q it = ch →
    Gives (.prefetchDeadline q) s (fun t => (∃ z ∈ (t.sq q).line.getLast?, Joins s t q b z ∧ (if ch.stop then z.kind = 2 ∧
    z.park = false ∧ (t.sq q).missing = none else if (∃ y ∈ [s.readyAt q (s.iterOf ch.entry ch.n ch.loops) b], y ≠ .no ∧
    y ≠ .unfilled) then z.kind = 0 ∧ z.state = 2 ∧ z.entry = ch.entry ∧ z.n = ch.n ∧ z.gen = Seg.gen (s.seg ch.entry) ∧
    (t.sq q).missing = none else 3 ≤ z.state ∧ z.under = true ∧
    (t.sq q).missing.any (fun y => y.entry == ch.entry && y.n == ch.n) = true)) ∧ (t.sq q).loops = ch.loops ∧ ButAt t.sq s.sq q ∧
    t.tick = s.tick ∧ t.pending = s.pending ∧ t.vmem = s.vmem ∧ t.chHid = s.chHid ∧ t.coreHid = s.coreHid ∧ t.out = [] ∧
    EventsBut s t [53, 63, 76])) ∧
  (s.g (K.SQ_STATE q) ≠ 0 → s.lineEnd q (s.sqLimit q) = some b → (s.sq q).left = [] → (s.sq q).req = none → (s.sq q).line = [] →
    (s.sq q).missing = none → s.enter [] (s.g (K.SQ_START_ENTRY q)) = ch →
    Gives (.prefetchDeadline q) s (fun t => (∃ z ∈ (t.sq q).line.getLast?, Joins s t q b z ∧ (if ch.stop then z.kind = 2 ∧
    z.park = false ∧ (t.sq q).missing = none else if (∃ y ∈ [s.readyAt q (s.iterOf ch.entry ch.n ch.loops) b], y ≠ .no ∧
    y ≠ .unfilled) then z.kind = 0 ∧ z.state = 2 ∧ z.entry = ch.entry ∧ z.n = ch.n ∧ z.gen = Seg.gen (s.seg ch.entry) ∧
    (t.sq q).missing = none else 3 ≤ z.state ∧ z.under = true ∧
    (t.sq q).missing.any (fun y => y.entry == ch.entry && y.n == ch.n) = true)) ∧ (t.sq q).loops = ch.loops ∧ ButAt t.sq s.sq q ∧
    t.tick = s.tick ∧ t.pending = s.pending ∧ t.vmem = s.vmem ∧ t.chHid = s.chHid ∧ t.coreHid = s.coreHid ∧ t.out = [] ∧
    EventsBut s t [53, 63, 76])) ∧
  (s.g (K.SQ_STATE q) ≠ 0 → s.lineEnd q (s.sqLimit q) = some b → (s.sq q).left = [] → (s.sq q).req = none →
    (s.sq q).line.getLast? = some it → it.kind = 1 → s.missingNow q = some nx →
    Gives (.prefetchDeadline q) s (fun t => (∃ z ∈ (t.sq q).line.getLast?, Joins s t q b z ∧ (if s.ringHolds q nx = true ∧
    (∃ y ∈ [s.readyAt q nx b], y ≠ .no ∧ y ≠ .unfilled) then z.kind = 0 ∧ z.state = 2 ∧ z.entry = nx.entry ∧ z.n = nx.n ∧
    z.resume = true ∧ (t.sq q).missing = none else z.resume = false ∧ z.under = false ∧ (z.state = it.state ∧ z.kind = 1 ∨ it.state = 4 ∧
    z.state = 4) ∧ (t.sq q).missing.any (fun y => y.entry == nx.entry && y.n == nx.n) = true)) ∧ ButAt t.sq s.sq q ∧ t.tick = s.tick ∧
    t.pending = s.pending ∧ t.vmem = s.vmem ∧ t.chHid = s.chHid ∧ t.coreHid = s.coreHid ∧ t.out = [] ∧ EventsBut s t [53, 63, 76])) ∧
  (s.g (K.SQ_STATE q) ≠ 0 → (s.sq q).line.getLast? = some it → it.kind ≠ 2 → s.lineEnd q (s.sqLimit q) = some b → (s.sq q).left = [] →
    (s.sq q).req = some x → x.stop = true → s.g (K.SQ_JUMP_STATUS q) ≠ 3 → s.qualifies q x b (some it) = true → (s.ring q).pages = [] →
    Gives (.prefetchDeadline q) s (fun t => Writes s t [(K.SQ_JUMP_FN q, frameOf b), (K.SQ_JUMP_STATUS q, 3)] ∧
    t.sq q = { s.sq q with line := (s.sq q).line ++ [{ id := (s.sq q).nextId, kind := 2, state := 0, jump := true, park := x.park, start := some b, final := s.tick, held := (s.sq q).held ++ (s.sq q).source }], nextId := (s.sq q).nextId + 1, missing := none, held := [], source := [], left := [], loops := [] } ∧
    ButAt t.sq s.sq q ∧ t = { s with od := t.od, out := [], sqHid := t.sqHid })) ∧
  (s.lineEnd q (s.sqLimit q) = none → Gives (.prefetchDeadline q) s (fun t => t = { s with out := [] })) ∧
  ((s.sq q).cmp = [m] → m.wins = [(n, c, a, d)] → n < 16 → d + trigLatency ≤ s.frameStart →
    (s.inp n).history.any (fun e => e.1 < a) = true → s.gb (K.CMP_LOG_HALTED q) = true →
    Gives (.compareOutcome q) s (fun t => Writes s t ((if (s.windowOutcome (n, c, a, d) false).1 = 1 then [(K.CMP_PASS q, s.g (K.CMP_PASS q) + 1)] else if (s.windowOutcome (n, c, a, d) false).1 = 2 then [(K.CMP_FAIL q, s.g (K.CMP_FAIL q) + 1)] else [(K.CMP_INVALID q, s.g (K.CMP_INVALID q) + 1)]) ++ [(K.CMP_VECTORS q, s.g (K.CMP_VECTORS q) + 1), (K.CMP_LAST q, (s.windowOutcome (n, c, a, d) false).1)]) ∧
    (t.sq q).cmp = [] ∧ (t.sq q).line = (s.sq q).line ∧ ButAt t.sq s.sq q ∧
    t = { (if (s.windowOutcome (n, c, a, d) false).1 = 1 then s else s.raiseBits (if (s.windowOutcome (n, c, a, d) false).1 = 2 then 60 else 61) (2 ^ q)) with od := t.od, out := [], sqHid := t.sqHid })) ∧
  (Gives (.compareOutcome q) s (fun t => (t.sq q).cmp = (s.sq q).cmp.filter (fun y => !y.wins.all (fun z => z.2.2.2 + trigLatency ≤ s.frameStart)) ∧
    t.sq q = { s.sq q with cmp := (t.sq q).cmp, outcome := (t.sq q).outcome } ∧ ButAt t.sq s.sq q ∧
    t.g (K.CMP_VECTORS q) + (s.g (K.CMP_PASS q) + s.g (K.CMP_FAIL q) + s.g (K.CMP_INVALID q)) = s.g (K.CMP_VECTORS q) + (t.g (K.CMP_PASS q) + t.g (K.CMP_FAIL q) + t.g (K.CMP_INVALID q)) ∧
    EventsBut s t [60, 61, 62] ∧ t = { s with od := t.od, out := [], raised := t.raised, sqHid := t.sqHid, free := t.free })) ∧
  (s.g (K.SQ_STATE q) ≠ 0 → (s.sq q).line = [it] → (s.sq q).fIter = it.id → (s.sq q).fIdx = i → i < it.len → i ≠ 0 → it.bad = some i →
    it.state = 2 → s.streamed it.entry = false →
    Gives (.playbackParkOnRetire q) s (fun t => t.sq q = { s.sq q with line := [{ it with len := i }, { idleIter 5 true true with id := (s.sq q).nextId, start := some (s.sq q).tNext, final := s.tick }], nextId := (s.sq q).nextId + 1, missing := some { it with fill := [], bad := none, resume := false, under := false, jump := false }, loops := it.loops, left := [] } ∧
    ButAt t.sq s.sq q ∧ t = { s with out := [], sqHid := t.sqHid })) ∧
  (s.g (K.SQ_STATE q) ≠ 0 → (s.sq q).ahead = it :: r → (s.sq q).fIdx < it.len → it.bad = some (s.sq q).fIdx →
    Gives (.playbackParkOnRetire q) s (fun t => (∃ z ∈ (t.sq q).line.getLast?, z.kind = 1 ∧ z.state = 5 ∧ z.park = true ∧
    z.under = true ∧ z.start = some (s.sq q).tNext ∧ z.id = (s.sq q).nextId) ∧
    (∀ z ∈ (t.sq q).line, z.bad = none ∨ z.id ≠ it.id ∨ z.len = (s.sq q).fIdx) ∧ (t.sq q).left = [] ∧ (it.state ≠ 4 →
    (t.sq q).missing.any (fun y => y.entry == it.entry && y.n == it.n && y.gen == it.gen) = true) ∧
    (t.sq q).nextId = (s.sq q).nextId + 1 ∧ ButAt t.sq s.sq q ∧ t.tick = s.tick ∧ t.pending = s.pending ∧ t.vmem = s.vmem ∧
    t.chHid = s.chHid ∧ t.coreHid = s.coreHid ∧ t.out = [] ∧ EventsBut s t [48, 76]))

/-- Entries are freed, quarantined and given pages. SEG_FREE of a committed entry that is not active answers ACCEPTED and is held for the
third next boundary; of an active one ACTIVE, of one not committed RANGE, of one asked for already BUSY. Its effect retires the entry:
its pages are FREE, its SEG_ID and generation in quarantine, and SEG_FREE_LAST tells it; an entry active by then is left, counted and
told. After the retire interval the entry is FREE with its generation kept, and quarantines that have passed end. PAGE_ALLOCATE_DEFERRED
gives a segment page that has none the first FREE page of the next bank of its sequencer's set, with an ALLOC entry in the placement
log. A write of SEG_PRODUCED takes its value. (R179, R180, R218, R228, R232, R247, R248, R251) What the rules leave open in it is the
model's choice: log entries 62, 98, 99, 100, 103. -/
def Obligations.SegmentEntries : Prop :=
  ∀ (s : State) (w : Who) (e j v p b : Nat) (l : List Nat), 
  (s.admits w 1 → e < 16384 → Seg.live (s.seg e) = true → s.segFrees.any (fun x => x.1 == e) = false → s.active e = false →
    Gives (.segFree w e) s (fun t => Answers s t w K.SEG_FREE e RC.accepted 0 [] ∧
    t = { s with od := t.od, out := t.out, segFrees := s.segFrees ++ [(e, s.tick + 3)] })) ∧
  (s.admits w 1 → e < 16384 → Seg.live (s.seg e) = true → s.segFrees.any (fun x => x.1 == e) = false → s.active e = true →
    Gives (.segFree w e) s (fun t => Answers s t w K.SEG_FREE e RC.active 0 [] ∧ t = { s with od := t.od, out := t.out })) ∧
  (s.admits w 1 → (16384 ≤ e ∨ Seg.live (s.seg e) = false) → Gives (.segFree w e) s (fun t => Answers s t w K.SEG_FREE e RC.range 0 [] ∧
    t = { s with od := t.od, out := t.out })) ∧
  (s.admits w 1 → e < 16384 → Seg.live (s.seg e) = true → s.segFrees.any (fun x => x.1 == e) = true →
    Gives (.segFree w e) s (fun t => Answers s t w K.SEG_FREE e RC.busy 0 [] ∧ t = { s with od := t.od, out := t.out })) ∧
  (s.mode ≠ 0 → e < 16384 → s.segFrees.any (fun x => x.1 == e && x.2 ≤ s.tick) = true → s.active e = false →
    Gives (.segFreeEffect e) s (fun t => t.seg e = setBits (s.seg e) 2 0 7 ∧ t.g (atRow K.SEG_PLACE e) = 0 ∧
    t.g K.SEG_FREE_LAST = e * 2 ^ 50 ∧
    (∀ n ∈ List.range 1024, t.page n = if (s.entryPages e).any (fun x => x.1 == n) then 0 else s.page n) ∧
    WritesBut s t (fun k => k == atRow K.SEG_TABLE e || k == atRow K.SEG_PLACE e || k == K.SEG_FREE_LAST || plLogObj k || decide (K.PAGE_MAP ≤ k ∧
    k < K.PAGE_MAP + 1024) || (List.range 8).any (fun q => k == K.SQ_BANKS q)) [] ∧
    t = { s with od := t.od, out := [], segFrees := s.segFrees.filter (fun x => x.1 != e), quarIds := s.quarIds ++ [(Seg.id (s.seg e), s.tick + s.retireFrames)], genLog := s.genLog ++ [(e, Seg.gen (s.seg e), s.tick + s.retireFrames)], segRetire := s.segRetire ++ [(e, s.tick + s.retireFrames)] })) ∧
  (s.mode ≠ 0 → e < 16384 → s.segFrees.any (fun x => x.1 == e && x.2 ≤ s.tick) = true → s.active e = true →
    Gives (.segFreeEffect e) s (fun t => Writes s t [(K.SEG_FREE_LAST, e * 2 ^ 50 + 12), (K.SEG_REFUSED_ACTIVE, s.g K.SEG_REFUSED_ACTIVE + 1)] ∧
    t = { s with od := t.od, out := [], segFrees := s.segFrees.filter (fun x => x.1 != e) })) ∧
  (s.mode ≠ 0 → e < 16384 → s.segRetire.any (fun x => x.1 == e && x.2 ≤ s.tick) = true → Seg.base (s.seg e) = 7 →
    Gives (.retireIntervalExpiry e) s (fun t => Writes s t [(atRow K.SEG_TABLE e, Seg.gen (s.seg e) * 2 ^ 40)] ∧
    t = { s with od := t.od, out := [], quarIds := s.quarIds.filter (fun x => s.tick < x.2), genLog := s.genLog.filter (fun x => s.tick < x.2.2), segRetire := s.segRetire.filter (fun x => !(x.1 == e && x.2 ≤ s.tick)) })) ∧
  (s.mode ≠ 0 → e < 16384 → Seg.live (s.seg e) = true → s.residency e = 1 → j < Seg.pages (s.seg e) → s.ppnOf e j = none →
    ((List.range 16).map (fun i => (Sp.get (fun _ => 15) s.lastBank (Seg.owner (s.seg e)) + 1 + i) % 16)).find? (fun x => s.inSet (Seg.owner (s.seg e)) x && !(s.freePages x).isEmpty) = some b →
    s.freePages b = p :: l →
    Gives (.pageAllocateDeferred e j) s (fun t => Writes s t [(K.PL_LOG_HEAD, s.g K.PL_LOG_HEAD + 1), (atRow K.PL_LOG (s.g K.PL_LOG_HEAD % 512), 2 ^ 60 + 3 * 2 ^ 56 + e * 2 ^ 42 + p * 2 ^ 22 + Seg.owner (s.seg e) * 2 ^ 19 + 2 ^ 17 + s.fn % 2 ^ 64 * 2 ^ 64), (atRow K.PAGE_MAP p, Pg.mk Pg.empty e (Seg.gen (s.seg e)) false (Seg.owner (s.seg e)) j)] ∧
    t = { s with od := t.od, out := [], lastBank := Sp.set (fun _ => 15) s.lastBank (Seg.owner (s.seg e)) b })) ∧
  (s.mode ≠ 0 → (∀ x ∈ List.range 16, s.freePages x = []) → Gives (.pageAllocateDeferred e j) s (fun t => t = { s with out := [] })) ∧
  (s.admits w 1 → e < 16384 → Gives (.segProducedWrite w e v) s (fun t => Writes s t [(atRow K.SEG_PRODUCED e, v % 2 ^ 64)] ∧
    t = { s with od := t.od, out := [.result RC.ok 0] }))

/-- Pages are posted, written and read. PAGE_POST of a free post slot to a page of a committed entry, at its generation, answers ACCEPTED,
makes the slot busy and hands the write to the page's bank, where it waits behind an active one; an earlier write of that page ends with
EV076. Not so: slot busy BUSY, of another generation STALE with PAGE_STALE counted, of an entry not committed or a page it lacks RANGE,
of a page an active entry has ACTIVE, of a page without a place PLACEMENT_CAPACITY. PAGE_WRITE_COMPLETE writes the words left of the
image, from the slot or from the host, makes the page VALID and frees slot or transfer; of a generation gone by the write ends.
POST_SLOT_WRITE writes its bytes into the post slots but the two reserved bytes of each word; while a page is written from that slot
each of its words is the old or the new one. PAGE_READ by page or by entry makes the read slot busy and hands the copy over; complete,
the slot holds the page's words, 24 bytes each with the last two zero and a lost word all ones, VALUE counts the lost ones, and the slot
is free. Nothing else changes. (R136, R209, R211, R212, R213, R214, R215, R611) What the rules leave open in it is the model's choice:
log entries 62, 72, 73, 97, 101, 137. -/
def Obligations.PageWrites : Prop :=
  ∀ (s : State) (w : Who) (a e p n off k f : Nat) (l : List Byte) (bad : List Nat) (o : XOp) (x : Xfer) (y : RingPage), 
  (s.admits w 1 → bits a 124 111 = e → bits a 63 0 = n → bit (s.g K.PAGE_SLOTS_BUSY) (bits a 127 125) = false →
    Seg.live (s.seg e) = true → s.streamed e = false → n < Seg.pages (s.seg e) → bits a 110 103 = Seg.gen (s.seg e) →
    s.ppnOf e n = some p → (s.active e = false ∨ Pg.state (s.page p) = Pg.empty) → (∀ x ∈ (s.unit (p / 64) 8).ops, x.ppn ≠ p) →
    (∀ x ∈ (s.unit (p / 64) 9).ops, x.peer ≠ some p) →
    Gives (.pagePost w a) s (fun t => Answers s t w K.PAGE_POST a RC.accepted 0 [(K.PAGE_SLOTS_BUSY, setBit (s.g K.PAGE_SLOTS_BUSY) (bits a 127 125) true)] ∧
    t = { s.setUnit (p / 64) 8 ((s.unit (p / 64) 8).taking { code := 3, entry := e, gen := Seg.gen (s.seg e), ppn := p, src := bits a 127 125 } s.tick) with od := t.od, out := t.out })) ∧
  (s.admits w 1 → bits a 124 111 = e → bits a 63 0 = n → bit (s.g K.PAGE_SLOTS_BUSY) (bits a 127 125) = false →
    Seg.live (s.seg e) = true → s.streamed e = true → bits a 110 103 = Seg.gen (s.seg e) →
    s.streamPage (Seg.owner (s.seg e)) e (Seg.gen (s.seg e)) n = some (y, p) →
    Sp.get (fun _ => 0) s.streamIt e * Seg.pages (s.seg e) ≤ n → (∀ x ∈ (s.unit (p / 64) 8).ops, x.ppn ≠ p) →
    (∀ x ∈ (s.unit (p / 64) 9).ops, x.peer ≠ some p) →
    Gives (.pagePost w a) s (fun t => Answers s t w K.PAGE_POST a RC.accepted 0 [(K.PAGE_SLOTS_BUSY, setBit (s.g K.PAGE_SLOTS_BUSY) (bits a 127 125) true)] ∧
    t = { s.setUnit (p / 64) 8 ((s.unit (p / 64) 8).taking { code := 3, entry := e, gen := Seg.gen (s.seg e), ppn := p, src := bits a 127 125 } s.tick) with od := t.od, out := t.out })) ∧
  (s.admits w 1 → bits a 124 111 = e → bits a 63 0 = n → bit (s.g K.PAGE_SLOTS_BUSY) (bits a 127 125) = false →
    Seg.live (s.seg e) = true → s.streamed e = false → n < Seg.pages (s.seg e) → bits a 110 103 = Seg.gen (s.seg e) →
    s.ppnOf e n = some p → s.active e = false → (s.unit (p / 64) 8) = { active := some o } → o.code = 3 → o.ppn = p →
    Pg.state (s.page p) = Pg.filling → (∀ x ∈ (s.unit (p / 64) 9).ops, x.peer ≠ some p) →
    Gives (.pagePost w a) s (fun t => Answers s t w K.PAGE_POST a RC.accepted 0 [(K.PAGE_SLOTS_BUSY, setBit (setBit (s.g K.PAGE_SLOTS_BUSY) (o.src % 8) false) (bits a 127 125) true), (atRow K.PAGE_MAP p, setBits (s.page p) 63 61 Pg.empty), (K.XS_ABANDONS (p / 64) 0, s.g (K.XS_ABANDONS (p / 64) 0) + 1)] ∧
    t.unit (p / 64) 8 = { active := some { code := 3, entry := e, gen := Seg.gen (s.seg e), ppn := p, src := bits a 127 125, since := s.tick } } ∧
    ButAt (fun k => Sp.get (fun _ => {}) t.xunits k) (fun k => Sp.get (fun _ => {}) s.xunits k) (unitKey (p / 64) 8) ∧
    t = { s.raiseBits 76 (2 ^ (p / 64)) with od := t.od, out := t.out, xunits := t.xunits })) ∧
  (s.admits w 1 → bit (s.g K.PAGE_SLOTS_BUSY) (bits a 127 125) = true →
    Gives (.pagePost w a) s (fun t => Answers s t w K.PAGE_POST a RC.busy 0 [] ∧ t = { s with od := t.od, out := t.out })) ∧
  (s.admits w 1 → bits a 124 111 = e → bits a 63 0 = n → bit (s.g K.PAGE_SLOTS_BUSY) (bits a 127 125) = false →
    Seg.live (s.seg e) = true → s.streamed e = false → n < Seg.pages (s.seg e) → bits a 110 103 ≠ Seg.gen (s.seg e) →
    Gives (.pagePost w a) s (fun t => Answers s t w K.PAGE_POST a RC.stale 0 [(K.PAGE_STALE, s.g K.PAGE_STALE + 1)] ∧
    t = { s with od := t.od, out := t.out })) ∧
  (s.admits w 1 → bit (s.g K.PAGE_SLOTS_BUSY) (bits a 127 125) = false → Seg.live (s.seg (bits a 124 111)) = false →
    Gives (.pagePost w a) s (fun t => Answers s t w K.PAGE_POST a RC.range 0 [] ∧ t = { s with od := t.od, out := t.out })) ∧
  (s.admits w 1 → bits a 124 111 = e → bits a 63 0 = n → bit (s.g K.PAGE_SLOTS_BUSY) (bits a 127 125) = false →
    Seg.live (s.seg e) = true → s.streamed e = false → Seg.pages (s.seg e) ≤ n →
    Gives (.pagePost w a) s (fun t => Answers s t w K.PAGE_POST a RC.range 0 [] ∧ t = { s with od := t.od, out := t.out })) ∧
  (s.admits w 1 → bits a 124 111 = e → bits a 63 0 = n → bit (s.g K.PAGE_SLOTS_BUSY) (bits a 127 125) = false →
    Seg.live (s.seg e) = true → s.streamed e = false → n < Seg.pages (s.seg e) → bits a 110 103 = Seg.gen (s.seg e) →
    s.ppnOf e n = some p → s.active e = true → Pg.state (s.page p) ≠ Pg.empty →
    Gives (.pagePost w a) s (fun t => Answers s t w K.PAGE_POST a RC.active 0 [] ∧ t = { s with od := t.od, out := t.out })) ∧
  (s.admits w 1 → bits a 124 111 = e → bits a 63 0 = n → bit (s.g K.PAGE_SLOTS_BUSY) (bits a 127 125) = false →
    Seg.live (s.seg e) = true → s.streamed e = false → n < Seg.pages (s.seg e) → bits a 110 103 = Seg.gen (s.seg e) →
    s.ppnOf e n = none → Gives (.pagePost w a) s (fun t => Answers s t w K.PAGE_POST a RC.placementCapacity 0 [] ∧
    t = { s with od := t.od, out := t.out })) ∧
  (s.mode ≠ 0 → p < 1024 → (s.unit (p / 64) 8) = { active := some o, held := none, wait := [] } → o.ppn = p → o.code = 3 → o.src < 8 →
    s.xferOf p = none → Pg.state (s.page p) = Pg.filling → Seg.gen (s.seg o.entry) = o.gen → Seg.live (s.seg o.entry) = true →
    Gives (.pageWriteComplete p) s (fun t => Writes s t [(K.PAGE_SLOTS_BUSY, setBit (s.g K.PAGE_SLOTS_BUSY) o.src false), (atRow K.PAGE_MAP p, setBits (s.page p) 63 61 Pg.valid)] ∧
    (∀ i ∈ (List.range 1024).drop o.prog, Sp.find t.vmem (1024 * p + i) = some (s.slotWord o.src i)) ∧
    ButThese (Sp.find t.vmem) (Sp.find s.vmem) (((List.range 1024).drop o.prog).map (1024 * p + ·)) ∧
    t = { s.setUnit (p / 64) 8 {} with od := t.od, out := [], vmem := t.vmem })) ∧
  (s.mode ≠ 0 → p < 1024 → (s.unit (p / 64) 8) = { active := some o, held := none, wait := [] } → o.ppn = p → o.code = 3 → o.src < 8 →
    s.xferOf p = none → Pg.state (s.page p) ≠ Pg.filling → Seg.gen (s.seg o.entry) = o.gen → Seg.live (s.seg o.entry) = true →
    Gives (.pageWriteComplete p) s (fun t => Writes s t ([(K.PAGE_SLOTS_BUSY, setBit (s.g K.PAGE_SLOTS_BUSY) o.src false), (atRow K.PAGE_MAP p, setBits (setBits (setBits (s.page p) 63 61 Pg.valid) 60 47 o.entry) 46 39 o.gen)] ++ if Pg.ring (s.page p) = false ∧
    Seg.base (s.seg o.entry) = 2 ∧
    s.streamed o.entry = false then [(atRow K.SEG_TABLE o.entry, setBits (s.seg o.entry) 2 0 1)] else []) ∧
    (∀ i ∈ (List.range 1024).drop o.prog, Sp.find t.vmem (1024 * p + i) = some (s.slotWord o.src i)) ∧
    ButThese (Sp.find t.vmem) (Sp.find s.vmem) (((List.range 1024).drop o.prog).map (1024 * p + ·)) ∧
    t = { s.setUnit (p / 64) 8 {} with od := t.od, out := [], vmem := t.vmem })) ∧
  (s.mode ≠ 0 → p < 1024 → (s.unit (p / 64) 8) = { active := some o, held := none, wait := [] } → o.ppn = p → o.code = 2 →
    s.xferOf p = some x → x.full = true → x.data.length = 24576 → x.load = none → Pg.state (s.page p) = Pg.filling →
    Seg.gen (s.seg o.entry) = o.gen → Seg.live (s.seg o.entry) = true →
    Gives (.pageWriteComplete p) s (fun t => Writes s t [(K.DMA_PAGES, s.g K.DMA_PAGES + 1), (atRow K.PAGE_MAP p, setBits (s.page p) 63 61 Pg.valid)] ∧
    (∀ i ∈ (List.range 1024).drop o.prog, Sp.find t.vmem (1024 * p + i) = imageWord x.data i) ∧
    ButThese (Sp.find t.vmem) (Sp.find s.vmem) (((List.range 1024).drop o.prog).map (1024 * p + ·)) ∧
    t = { s.setUnit (p / 64) 8 {} with od := t.od, out := [], vmem := t.vmem, xfers := s.xfers.filter (fun z => z.ppn != p) })) ∧
  (s.mode ≠ 0 → p < 1024 → (s.unit (p / 64) 8) = { active := some o, held := none, wait := [] } → o.ppn = p → o.code = 3 → o.src < 8 →
    s.xferOf p = none → (s.unit (p / 64) 9).active = none → (s.unit (p / 64) 10).active = none → Seg.gen (s.seg o.entry) ≠ o.gen →
    Pg.state (s.page p) = Pg.filling →
    Gives (.pageWriteComplete p) s (fun t => Writes s t [(K.PAGE_SLOTS_BUSY, setBit (s.g K.PAGE_SLOTS_BUSY) o.src false), (atRow K.PAGE_MAP p, setBits (s.page p) 63 61 Pg.empty), (K.XS_ABANDONS (p / 64) 0, s.g (K.XS_ABANDONS (p / 64) 0) + 1)] ∧
    t = { (s.raiseBits 76 (2 ^ (p / 64))).setUnit (p / 64) 8 {} with od := t.od, out := [] })) ∧
  (s.mode ≠ 0 → (∀ x ∈ (s.unit (p / 64) 8).active, x.ppn ≠ p) → Gives (.pageWriteComplete p) s (fun t => t = { s with out := [] })) ∧
  (s.mode ≠ 0 → Gives (.postSlotWrite off l) s (fun t => (∀ x ∈ l.zipIdx, off + x.2 < 196608 → (off + x.2) % 24 < 22 →
    t.slotByte (off + x.2) = x.1) ∧
    ButThese t.slotByte s.slotByte (((List.range l.length).map (off + ·)).filter (fun j => j < 196608 && j % 24 < 22)) ∧
    t = { s with out := [], slotBytes := t.slotBytes, vmem := t.vmem, xunits := t.xunits, free := t.free })) ∧
  (s.mode ≠ 0 → s.g K.PAGE_SLOTS_BUSY = 0 → Gives (.postSlotWrite off l) s (fun t => (∀ x ∈ l.zipIdx, off + x.2 < 196608 →
    (off + x.2) % 24 < 22 → t.slotByte (off + x.2) = x.1) ∧
    ButThese t.slotByte s.slotByte (((List.range l.length).map (off + ·)).filter (fun j => j < 196608 && j % 24 < 22)) ∧
    t = { s with out := [], slotBytes := t.slotBytes })) ∧
  (s.mode ≠ 0 → k < 8 → off / 24576 = k → (off + l.length - 1) / 24576 = k → off % 24 = 0 → l ≠ [] →
    (List.range 16).flatMap (fun b => (s.unit b 8).ops.filter (fun o => o.code == 3 && o.src % 8 == k)) = [o] → o.src = k →
    bit (s.g K.PAGE_SLOTS_BUSY) k = true →
    Gives (.postSlotWrite off l) s (fun t => (∀ i ∈ List.range 1024, t.word o.ppn i = t.slotWord k i ∨ t.word o.ppn i = s.slotWord k i) ∧
    ButThese (Sp.find t.vmem) (Sp.find s.vmem) ((List.range 1024).map (1024 * o.ppn + ·)) ∧
    t = { s with out := [], slotBytes := t.slotBytes, vmem := t.vmem, xunits := t.xunits, free := s.free + 1 })) ∧
  (s.admits w 1 → setBit (a % 2 ^ 64) 63 false = e → s.underTest (bits e 9 0) = false →
    bit (s.g K.PAGE_SLOTS_BUSY) (if bit e 62 then 9 else 8) = false → s.readsAsked (bits e 9 0 / 64) = true →
    Gives (.pageReadByPpn w a) s (fun t => Answers s t w K.PAGE_READ e RC.accepted 0 [(K.PAGE_SLOTS_BUSY, setBit (s.g K.PAGE_SLOTS_BUSY) (if bit e 62 then 9 else 8) true)] ∧
    t = { s.setUnit ((bits e 9 0) / 64) 11 ((s.unit ((bits e 9 0) / 64) 11).taking { code := 8, entry := Pg.entry (s.page (bits e 9 0)), gen := Pg.gen (s.page (bits e 9 0)), ppn := (bits e 9 0), src := (if bit e 62 then 9 else 8) } s.tick) with od := t.od, out := t.out })) ∧
  (s.admits w 1 → setBit (a % 2 ^ 64) 63 false = e →
    (s.underTest (bits e 9 0) = true ∨ bit (s.g K.PAGE_SLOTS_BUSY) (if bit e 62 then 9 else 8) = true) →
    Gives (.pageReadByPpn w a) s (fun t => Answers s t w K.PAGE_READ e RC.busy 0 [] ∧ t = { s with od := t.od, out := t.out })) ∧
  (s.admits w 1 → setBit (a % 2 ^ 64) 63 true = e → Seg.live (s.seg (bits e 61 48)) = true →
    bits e 13 0 < Seg.pages (s.seg (bits e 61 48)) → bits e 47 40 = Seg.gen (s.seg (bits e 61 48)) →
    s.ppnOf (bits e 61 48) (bits e 13 0) = some p → s.underTest p = false →
    bit (s.g K.PAGE_SLOTS_BUSY) (if bit e 62 then 9 else 8) = false → s.readsAsked (p / 64) = true →
    Gives (.pageReadByEntry w a) s (fun t => Answers s t w K.PAGE_READ e RC.accepted 0 [(K.PAGE_SLOTS_BUSY, setBit (s.g K.PAGE_SLOTS_BUSY) (if bit e 62 then 9 else 8) true)] ∧
    t = { s.setUnit (p / 64) 11 ((s.unit (p / 64) 11).taking { code := 8, entry := Pg.entry (s.page p), gen := Pg.gen (s.page p), ppn := p, src := (if bit e 62 then 9 else 8) } s.tick) with od := t.od, out := t.out })) ∧
  (s.admits w 1 → setBit (a % 2 ^ 64) 63 true = e → Seg.live (s.seg (bits e 61 48)) = true →
    bits e 13 0 < Seg.pages (s.seg (bits e 61 48)) → bits e 47 40 = Seg.gen (s.seg (bits e 61 48)) →
    s.ppnOf (bits e 61 48) (bits e 13 0) = some p →
    (s.underTest p = true ∨ bit (s.g K.PAGE_SLOTS_BUSY) (if bit e 62 then 9 else 8) = true) →
    Gives (.pageReadByEntry w a) s (fun t => Answers s t w K.PAGE_READ e RC.busy 0 [] ∧ t = { s with od := t.od, out := t.out })) ∧
  (s.admits w 1 → setBit (a % 2 ^ 64) 63 true = e → Seg.live (s.seg (bits e 61 48)) = true →
    bits e 13 0 < Seg.pages (s.seg (bits e 61 48)) → bits e 47 40 ≠ Seg.gen (s.seg (bits e 61 48)) →
    Gives (.pageReadByEntry w a) s (fun t => Answers s t w K.PAGE_READ e RC.stale 0 [] ∧ t = { s with od := t.od, out := t.out })) ∧
  (s.admits w 1 → setBit (a % 2 ^ 64) 63 true = e →
    (Seg.live (s.seg (bits e 61 48)) = false ∨ Seg.pages (s.seg (bits e 61 48)) ≤ bits e 13 0) →
    Gives (.pageReadByEntry w a) s (fun t => Answers s t w K.PAGE_READ e RC.range 0 [] ∧ t = { s with od := t.od, out := t.out })) ∧
  (s.admits w 1 → setBit (a % 2 ^ 64) 63 true = e → Seg.live (s.seg (bits e 61 48)) = true →
    bits e 13 0 < Seg.pages (s.seg (bits e 61 48)) → bits e 47 40 = Seg.gen (s.seg (bits e 61 48)) →
    s.ppnOf (bits e 61 48) (bits e 13 0) = none → Gives (.pageReadByEntry w a) s (fun t => Answers s t w K.PAGE_READ e RC.range 0 [] ∧
    t = { s with od := t.od, out := t.out })) ∧
  (s.mode ≠ 0 → n < 10 →
    ((List.range 16).flatMap (fun b => (s.unit b 11).active.toList)).find? (fun x => x.code == 8 && x.src == n) = some o →
    (s.unit (o.ppn / 64) 11) = { active := some o, held := none, wait := [] } → s.readsAsked (o.ppn / 64) = true → bad.Nodup →
    (∀ i ∈ bad, i < 1024 ∧ i < o.prog) →
    Gives (.pageReadComplete n bad) s (fun t => Writes s t ([(K.PAGE_READ + 3, bad.length), (K.PAGE_SLOTS_BUSY, setBit (s.g K.PAGE_SLOTS_BUSY) n false)]) ∧
    (∀ i ∈ List.range 1024, ∀ j ∈ List.range 24, t.slotByte (24576 * n + 24 * i + j) = BitVec.ofNat 8 ((if bad.contains i then 2 ^ 176 - 1 else (s.word o.ppn i).toNat) / 256 ^ j)) ∧
    ButThese t.slotByte s.slotByte ((List.range 24576).map (24576 * n + ·)) ∧
    t = { s.setUnit (o.ppn / 64) 11 {} with od := t.od, out := [], slotBytes := t.slotBytes })) ∧
  (s.mode ≠ 0 → n < 10 →
    ((List.range 16).flatMap (fun b => (s.unit b 11).active.toList)).find? (fun x => x.code == 8 && x.src == n) = some o → o.ppn < 1024 →
    (s.unit (o.ppn / 64) 11) = { active := some o, held := none, wait := [] } → s.readsAsked (o.ppn / 64) = true → bad = [f] → f < 1024 →
    o.prog ≤ f → Pg.state (s.page o.ppn) = Pg.retired →
    Gives (.pageReadComplete n bad) s (fun t => Writes s t ([(K.PAGE_READ + 3, bad.length), (K.PAGE_SLOTS_BUSY, setBit (s.g K.PAGE_SLOTS_BUSY) n false)] ++ [(K.BANK_UE (o.ppn / 64), s.g (K.BANK_UE (o.ppn / 64)) + 1)]) ∧
    (∀ i ∈ List.range 1024, ∀ j ∈ List.range 24, t.slotByte (24576 * n + 24 * i + j) = BitVec.ofNat 8 ((if bad.contains i then 2 ^ 176 - 1 else (s.word o.ppn i).toNat) / 256 ^ j)) ∧
    ButThese t.slotByte s.slotByte ((List.range 24576).map (24576 * n + ·)) ∧
    t = { (s.setUnit (o.ppn / 64) 11 {}).raiseVal 68 o.ppn with od := t.od, out := [], slotBytes := t.slotBytes })) ∧
  (s.mode ≠ 0 → ((List.range 16).flatMap (fun b => (s.unit b 11).active.toList)).find? (fun x => x.code == 8 && x.src == n) = none →
    Gives (.pageReadComplete n bad) s (fun t => t = { s with out := [] }))

/-- Pages are tested, moved and scrubbed. MEM_SELFTEST of banks takes their pages that may be tested in ascending order, the first one at
once, before a scrub there, which is held with EV075; with no page it ends at once; a second one answers BUSY. A page tested for its
1,024 words goes back, a FREE one with words that are free values, or is RETIRED, a FREE one with EV069 and a RETIRE entry; then comes
the next page, and with the last one VALUE counts those tested and failed. PAGE_MOVE_START of a move that the engine may make hands it
to the mover, before a move of a lower rank; complete after its 22 frames, the copy waits for the next boundary, or is dropped, counted
and told by EV076 when its source is gone or active. SCRUB_PAGE_DONE after the page's 128 frames marks it last scrubbed and counts the
sweep with the bank's last page. None of them does anything else, nor before its frames are over. (R222, R223, R253, R255, R275, R276,
R279) What the rules leave open in it is the model's choice: log entries 10, 62, 74, 102. -/
def Obligations.PageUpkeep : Prop :=
  ∀ (s : State) (w : Who) (m p d n f p' : Nat) (ok : Bool) (l : List Nat) (o : XOp) (why : MoveReason), 
  (s.admits w 1 → s.selftest = none → (List.range 1024).filter (fun x => bit (m % 2 ^ 16) (x / 64) && s.testable x) = p :: l →
    s.readsAsked (p / 64) = true → (∀ x ∈ (s.unit (p / 64) 10).active, x.code ≠ 7) →
    Gives (.memSelftest w m) s (fun t => Answers s t w K.MEM_SELFTEST m RC.accepted 0 [] ∧
    t = { s.setUnit (p / 64) 10 ((s.unit (p / 64) 10).taking { code := 6, entry := Pg.entry (s.page p), ppn := p } s.tick) with od := t.od, out := t.out, selftest := some (p :: l, 0, 0) })) ∧
  (s.admits w 1 → s.selftest = none → (List.range 1024).filter (fun x => bit (m % 2 ^ 16) (x / 64) && s.testable x) = p :: l →
    s.readsAsked (p / 64) = true → (s.unit (p / 64) 10).active = some o → (s.unit (p / 64) 10).held = none → o.code = 7 →
    o.ppn / 64 = p / 64 → o.peer = none →
    Gives (.memSelftest w m) s (fun t => Answers s t w K.MEM_SELFTEST m RC.accepted 0 [(K.XS_PREEMPTS (p / 64) 2, s.g (K.XS_PREEMPTS (p / 64) 2) + 1)] ∧
    t = { (s.raiseBits 75 (2 ^ (p / 64))).setUnit (p / 64) 10 { s.unit (p / 64) 10 with active := some { code := 6, entry := Pg.entry (s.page p), ppn := p, since := s.tick }, held := some { o with ran := o.ran + (s.tick - o.since) } } with od := t.od, out := t.out, selftest := some (p :: l, 0, 0) })) ∧
  (s.admits w 1 → s.selftest = none → (List.range 1024).filter (fun x => bit (m % 2 ^ 16) (x / 64) && s.testable x) = [] →
    Gives (.memSelftest w m) s (fun t => Answers s t w K.MEM_SELFTEST m RC.accepted 0 [] ∧ t = { s with od := t.od, out := t.out })) ∧
  (s.admits w 1 → s.selftest.isSome = true → Gives (.memSelftest w m) s (fun t => Answers s t w K.MEM_SELFTEST m RC.busy 0 [] ∧
    t = { s with od := t.od, out := t.out })) ∧
  (s.mode ≠ 0 → p < 1024 → s.selftest = some ([p], n, f) → (s.unit (p / 64) 10) = { active := some o, held := none, wait := [] } →
    o.code = 6 → o.ppn = p → 128 ≤ s.opFrames o → s.noneDead (p / 64) = true → s.readsAsked (p / 64) = true →
    Pg.state (s.page p) = Pg.free →
    Gives (.selftestPageDone p true) s (fun t => Writes s t [(K.MEM_SELFTEST + 3, (n + 1) * 2 ^ 32 + f)] ∧
    (∀ i ∈ List.range 1024, Sp.find t.vmem (1024 * p + i) = some (BitVec.ofNat 176 (Config.freeValue (s.free + i)))) ∧
    ButThese (Sp.find t.vmem) (Sp.find s.vmem) ((List.range 1024).map (1024 * p + ·)) ∧
    t = { s.setUnit (p / 64) 10 {} with od := t.od, out := [], free := s.free + 1024, vmem := t.vmem, selftest := none })) ∧
  (s.mode ≠ 0 → p < 1024 → s.selftest = some ([p], n, f) → (s.unit (p / 64) 10) = { active := some o, held := none, wait := [] } →
    o.code = 6 → o.ppn = p → 128 ≤ s.opFrames o → s.noneDead (p / 64) = true → s.readsAsked (p / 64) = true →
    Pg.state (s.page p) ≠ Pg.free →
    Gives (.selftestPageDone p true) s (fun t => Writes s t [(K.MEM_SELFTEST + 3, (n + 1) * 2 ^ 32 + f)] ∧
    t = { s.setUnit (p / 64) 10 {} with od := t.od, out := [], selftest := none })) ∧
  (s.mode ≠ 0 → p < 1024 → s.selftest = some (p :: p' :: l, n, f) →
    (s.unit (p / 64) 10) = { active := some o, held := none, wait := [] } → o.code = 6 → o.ppn = p → 128 ≤ s.opFrames o →
    s.noneDead (p / 64) = true → s.readsAsked (p / 64) = true → p' ≠ p → p' / 64 = p / 64 → s.testable p' = true →
    Pg.state (s.page p) = Pg.free → Gives (.selftestPageDone p true) s (fun t => Writes s t [] ∧
    (∀ i ∈ List.range 1024, Sp.find t.vmem (1024 * p + i) = some (BitVec.ofNat 176 (Config.freeValue (s.free + i)))) ∧
    ButThese (Sp.find t.vmem) (Sp.find s.vmem) ((List.range 1024).map (1024 * p + ·)) ∧
    t.unit (p / 64) 10 = { active := some { code := 6, entry := Pg.entry (s.page p'), ppn := p', since := s.tick } } ∧
    ButAt (fun k => Sp.get (fun _ => {}) t.xunits k) (fun k => Sp.get (fun _ => {}) s.xunits k) (unitKey (p / 64) 10) ∧
    t = { s with od := t.od, out := [], free := s.free + 1024, vmem := t.vmem, xunits := t.xunits, selftest := some (p' :: l, n + 1, f) })) ∧
  (s.mode ≠ 0 → p < 1024 → s.selftest = some ([p], n, f) → (s.unit (p / 64) 10) = { active := some o, held := none, wait := [] } →
    o.code = 6 → o.ppn = p → 128 ≤ s.opFrames o → s.noneDead (p / 64) = true → s.readsAsked (p / 64) = true →
    Pg.state (s.page p) = Pg.free →
    Gives (.selftestPageDone p false) s (fun t => WritesBut s t plLogObj [(K.MEM_SELFTEST + 3, (n + 1) * 2 ^ 32 + f + 1), (atRow K.PAGE_MAP p, 5 * 2 ^ 61)] ∧
    t.g K.PL_LOG_HEAD = s.g K.PL_LOG_HEAD + 1 ∧ bits (t.g (atRow K.PL_LOG (s.g K.PL_LOG_HEAD % 512))) 63 56 = 0x46 ∧
    t = { (s.raiseVal 69 p).setUnit (p / 64) 10 {} with od := t.od, out := [], free := s.free + 1024, vmem := t.vmem, selftest := none })) ∧
  (s.mode ≠ 0 → p < 1024 → s.selftest = some ([p], n, f) → (s.unit (p / 64) 10) = { active := some o, held := none, wait := [] } →
    o.code = 6 → o.ppn = p → 128 ≤ s.opFrames o → s.noneDead (p / 64) = true → s.readsAsked (p / 64) = true →
    Pg.state (s.page p) ≠ Pg.free → Pg.state (s.page p) ≠ Pg.retired →
    Gives (.selftestPageDone p false) s (fun t => Pg.state (t.page p) = Pg.retired ∧
    t.g (K.BANK_UE (p / 64)) = s.g (K.BANK_UE (p / 64)) + 1 ∧ t.g (K.MEM_SELFTEST + 3) = (n + 1) * 2 ^ 32 + f + 1 ∧ t.selftest = none ∧
    t.ev 68 ≠ none ∧ t.ev 69 ≠ none ∧ t.mode = s.mode ∧ t.tick = s.tick ∧ t.slotBytes = s.slotBytes ∧ t.nvm = s.nvm)) ∧
  (s.mode ≠ 0 → (∀ x ∈ (s.unit (p / 64) 10).active, x.code ≠ 6 ∨ x.ppn ≠ p ∨ s.opFrames x < 128) →
    Gives (.selftestPageDone p ok) s (fun t => t = { s with out := [] })) ∧
  (s.mode ≠ 0 → s.mayMove p d why = true → s.readsAsked 0 = true → (∀ x ∈ (s.unit 0 9).active, x.code = 4 ∨ why ≠ .errors) →
    (∀ x ∈ (s.unit 0 9).active, x.code = 4 ∨ x.code = 5) →
    Gives (.pageMoveStart p d why) s (fun t => t = { s.setUnit 0 9 ((s.unit 0 9).taking { code := if why = .errors then 4 else 5, entry := Pg.entry (s.page p), gen := Pg.gen (s.page p), ppn := d, peer := some p, src := (match why with | .errors => 3 | .pin => 4 | .balance => 2) } s.tick) with out := [] })) ∧
  (s.mode ≠ 0 → s.mayMove p d .errors = true → s.readsAsked 0 = true → (s.unit 0 9).active = some o → (s.unit 0 9).held = none →
    o.code = 5 → s.moveDone = false → d / 64 = p / 64 → o.peer = some p' → o.ppn / 64 = p / 64 → p' / 64 = p / 64 →
    Gives (.pageMoveStart p d .errors) s (fun t => Writes s t [(K.XS_PREEMPTS (p / 64) 1, s.g (K.XS_PREEMPTS (p / 64) 1) + 1)] ∧
    t = { (s.raiseBits 75 (2 ^ (p / 64))).setUnit 0 9 { s.unit 0 9 with active := some { code := 4, entry := Pg.entry (s.page p), gen := Pg.gen (s.page p), ppn := d, peer := some p, src := 3, since := s.tick }, held := some { o with ran := o.ran + (s.tick - o.since) } } with od := t.od, out := [] })) ∧
  (s.mode ≠ 0 → s.mayMove p d why = false → Gives (.pageMoveStart p d why) s (fun t => t = { s with out := [] })) ∧
  (s.mode ≠ 0 → (s.unit 0 9).active = some o → (o.code = 4 ∨ o.code = 5) → o.peer = some p → Pg.state (s.page p) ≠ Pg.free →
    Pg.state (s.page p) ≠ Pg.retired → s.active (Pg.entry (s.page p)) = false → 22 ≤ s.opFrames o →
    Gives .pageMoveComplete s (fun t => t = { s.setUnit 0 9 { s.unit 0 9 with active := some { o with prog := 1023 } } with out := [], moveDone := true })) ∧
  (s.mode ≠ 0 → (s.unit 0 9).active = some o → (o.code = 4 ∨ o.code = 5) → o.peer = some p → Pg.state (s.page p) ≠ Pg.free →
    Pg.state (s.page p) ≠ Pg.retired → s.active (Pg.entry (s.page p)) = false → s.opFrames o < 22 →
    Gives .pageMoveComplete s (fun t => t = { s with out := [] })) ∧
  (s.mode ≠ 0 → (s.unit 0 9) = { active := some o, held := none, wait := [] } → (o.code = 4 ∨ o.code = 5) → o.peer = some p → p < 1024 →
    o.ppn < 1024 → (Pg.state (s.page p) = Pg.free ∨ Pg.state (s.page p) = Pg.retired ∨ s.active (Pg.entry (s.page p)) = true) →
    s.readsAsked 0 = true → o.ppn / 64 = p / 64 →
    Gives .pageMoveComplete s (fun t => Writes s t [(K.XS_ABANDONS (p / 64) 1, s.g (K.XS_ABANDONS (p / 64) 1) + 1)] ∧
    t = { (s.setUnit 0 9 {}).raiseBits 76 (2 ^ (p / 64)) with od := t.od, out := [], moveDone := false })) ∧
  (s.mode ≠ 0 → (s.unit 0 9) = { active := some o, held := none, wait := [] } → (o.code = 4 ∨ o.code = 5) → o.peer = some p → p < 1024 →
    o.ppn < 1024 → (Pg.state (s.page p) = Pg.free ∨ Pg.state (s.page p) = Pg.retired ∨ s.active (Pg.entry (s.page p)) = true) →
    s.readsAsked 0 = true → o.ppn / 64 ≠ p / 64 →
    Gives .pageMoveComplete s (fun t => Writes s t [(K.XS_ABANDONS (p / 64) 1, s.g (K.XS_ABANDONS (p / 64) 1) + 1), (K.XS_ABANDONS (o.ppn / 64) 1, s.g (K.XS_ABANDONS (o.ppn / 64) 1) + 1)] ∧
    t = { (s.setUnit 0 9 {}).raiseBits 76 (2 ^ (p / 64) + 2 ^ (o.ppn / 64)) with od := t.od, out := [], moveDone := false })) ∧
  (s.mode ≠ 0 → (s.unit 0 9).active = none → Gives .pageMoveComplete s (fun t => t = { s with out := [] })) ∧
  (s.mode ≠ 0 → p < 1024 → s.scrubNext (p / 64) = some p → Sp.get (fun _ => 0) s.scrubTick (p / 64) + 128 ≤ s.tick →
    (Pg.ring (s.page p) = true → ∀ x ∈ s.ringPages (Pg.sq (s.page p)), Pg.ce x.2 < s.g K.PAGE_CE_LIMIT) →
    (∀ x ∈ (s.unit (p / 64) 10).ops, x.code ≠ 7 ∨ x.ppn ≠ p) →
    Gives (.scrubPageDone p) s (fun t => Writes s t [(K.SCRUB_SWEEPS (p / 64), if (List.range 64).any (fun i => p % 64 < i && Pg.state (s.page (p / 64 * 64 + i)) != Pg.free && Pg.state (s.page (p / 64 * 64 + i)) != Pg.retired) then s.g (K.SCRUB_SWEEPS (p / 64)) else s.g (K.SCRUB_SWEEPS (p / 64)) + 1)] ∧
    t = { s with od := t.od, out := [], scrubAt := Sp.set (fun _ => 63) s.scrubAt (p / 64) (p % 64), scrubTick := Sp.set (fun _ => 0) s.scrubTick (p / 64) s.tick })) ∧
  (s.mode ≠ 0 → p < 1024 → s.scrubNext (p / 64) = some p → Sp.get (fun _ => 0) s.scrubTick (p / 64) + 128 ≤ s.tick →
    (Pg.ring (s.page p) = true → ∀ x ∈ s.ringPages (Pg.sq (s.page p)), Pg.ce x.2 < s.g K.PAGE_CE_LIMIT) →
    (s.unit (p / 64) 10) = { active := some o, held := none, wait := [] } → o.code = 7 → o.ppn = p → s.readsAsked (p / 64) = true →
    Gives (.scrubPageDone p) s (fun t => Writes s t [(K.SCRUB_SWEEPS (p / 64), if (List.range 64).any (fun i => p % 64 < i && Pg.state (s.page (p / 64 * 64 + i)) != Pg.free && Pg.state (s.page (p / 64 * 64 + i)) != Pg.retired) then s.g (K.SCRUB_SWEEPS (p / 64)) else s.g (K.SCRUB_SWEEPS (p / 64)) + 1)] ∧
    t = { s.setUnit (p / 64) 10 {} with od := t.od, out := [], scrubAt := Sp.set (fun _ => 63) s.scrubAt (p / 64) (p % 64), scrubTick := Sp.set (fun _ => 0) s.scrubTick (p / 64) s.tick })) ∧
  (s.mode ≠ 0 → (s.scrubNext (p / 64) ≠ some p ∨ s.tick < Sp.get (fun _ => 0) s.scrubTick (p / 64) + 128) →
    Gives (.scrubPageDone p) s (fun t => t = { s with out := [] }))

/-- Stream pages are fetched from the host. REFILL_START of a sequencer fetches the next stream page to fill that stands in no slot, was
produced and has a slot free: it takes the slot and, once the bank's page write turn is its own (before a POST, which is held with
EV075; behind an earlier REFILL it waits), reads the page image from its window, split by Max_Read_Request_Size; a window that does not
reach fails the page with EV066. REFILL_RETRY_EXPIRY reads a FAILED page again at its time. DMA_COMPLETION with a good status adds its
bytes to the transfer's image, whole at 24,576 bytes with the last one; of no transfer it counts DMA_LATE; a bad one, and a timeout, is
counted and, while attempts are left, the image is read again with EV064, else the page is FAILED with EV065 until its next retry.
Nothing else changes. (R231, R234, R239, R240, R243, R244, R245, R246) What the rules leave open in it is the model's choice: log
entries 74, 106, 107. -/
def Obligations.Refill : Prop :=
  ∀ (s : State) (q p g a n e k sl v : Nat) (pre rest : List (Nat × Nat × Nat × Nat)) (ds : List Byte) (last : Bool) (x : Xfer) (y : RingPage) (o : XOp) (st : CplStatus), s.mode ≠ 0 →
  (q < 8 → s.g (K.SQ_STATE q) ≠ 0 → (∀ z ∈ s.ringPages q, Pg.ce z.2 < s.g K.PAGE_CE_LIMIT) → s.toFill q = pre ++ (e, g, n, k) :: rest →
    (∀ z ∈ pre, (s.streamPage q z.1 z.2.1 z.2.2.1).any (fun m => Pg.state (s.page m.2) == Pg.valid || (s.unit (m.2 / 64) 8).ops.any (fun o => o.ppn == m.2)) = true) →
    s.streamPage q e g n = none → s.produced e n = true → (s.ring q).next = sl → s.ringPpn q sl = some p → sl < s.g (K.RING_PAGES q) →
    s.slotFree q sl = true → (∀ z ∈ (s.unit (p / 64) 8).ops, z.ppn ≠ p) → (∀ z ∈ (s.unit (p / 64) 9).ops, z.peer ≠ some p) →
    s.xferOf p = none → s.translate (s.streamSource e n k).1 (s.streamSource e n k).2 = some a → (s.unit (p / 64) 8).active = none →
    s.freeTag = some v →
    Gives (.refillStart q) s (fun t => Writes s t [(atRow K.PAGE_MAP p, setBits (setBits (setBits (s.page p) 63 61 Pg.empty) 60 47 e) 46 39 g)] ∧
    t = { (s.setRing q { pages := (s.ring q).pages.filter (fun z => z.slot != sl) ++ [{ slot := sl, entry := e, gen := g, n := n, j := k }], next := (sl + 1) % max 1 (s.g (K.RING_PAGES q)) }).setUnit (p / 64) 8 { s.unit (p / 64) 8 with active := some { code := 1, entry := e, gen := g, ppn := p, since := s.tick } } with od := t.od, out := (List.range (ceilDiv 24576 (128 * 2 ^ min 5 s.devCtl.2.1))).map (fun i => .dmaRead v (a + 128 * 2 ^ min 5 s.devCtl.2.1 * i) (min (128 * 2 ^ min 5 s.devCtl.2.1) (24576 - 128 * 2 ^ min 5 s.devCtl.2.1 * i))), xfers := s.xfers ++ [{ tag := v, entry := e, gen := g, page := n, ppn := p, addr := a, start := s.fn, asked := true }] })) ∧
  (q < 8 → s.g (K.SQ_STATE q) ≠ 0 → (∀ z ∈ s.ringPages q, Pg.ce z.2 < s.g K.PAGE_CE_LIMIT) → s.toFill q = pre ++ (e, g, n, k) :: rest →
    (∀ z ∈ pre, (s.streamPage q z.1 z.2.1 z.2.2.1).any (fun m => Pg.state (s.page m.2) == Pg.valid || (s.unit (m.2 / 64) 8).ops.any (fun o => o.ppn == m.2)) = true) →
    s.streamPage q e g n = none → s.produced e n = true → (s.ring q).next = sl → s.ringPpn q sl = some p → sl < s.g (K.RING_PAGES q) →
    s.slotFree q sl = true → (∀ z ∈ (s.unit (p / 64) 8).ops, z.ppn ≠ p) → (∀ z ∈ (s.unit (p / 64) 9).ops, z.peer ≠ some p) →
    s.xferOf p = none → s.translate (s.streamSource e n k).1 (s.streamSource e n k).2 = some a → (s.unit (p / 64) 8).active = some o →
    o.code = 1 →
    Gives (.refillStart q) s (fun t => Writes s t [(atRow K.PAGE_MAP p, setBits (setBits (setBits (s.page p) 63 61 Pg.empty) 60 47 e) 46 39 g)] ∧
    t = { (s.setRing q { pages := (s.ring q).pages.filter (fun z => z.slot != sl) ++ [{ slot := sl, entry := e, gen := g, n := n, j := k }], next := (sl + 1) % max 1 (s.g (K.RING_PAGES q)) }).setUnit (p / 64) 8 { s.unit (p / 64) 8 with wait := (s.unit (p / 64) 8).wait ++ [{ code := 1, entry := e, gen := g, ppn := p }] } with od := t.od, out := [], xfers := s.xfers ++ [{ tag := 0, entry := e, gen := g, page := n, ppn := p, addr := a, start := s.fn }] })) ∧
  (q < 8 → s.g (K.SQ_STATE q) ≠ 0 → (∀ z ∈ s.ringPages q, Pg.ce z.2 < s.g K.PAGE_CE_LIMIT) → s.toFill q = pre ++ (e, g, n, k) :: rest →
    (∀ z ∈ pre, (s.streamPage q z.1 z.2.1 z.2.2.1).any (fun m => Pg.state (s.page m.2) == Pg.valid || (s.unit (m.2 / 64) 8).ops.any (fun o => o.ppn == m.2)) = true) →
    s.streamPage q e g n = none → s.produced e n = true → (s.ring q).next = sl → s.ringPpn q sl = some p → sl < s.g (K.RING_PAGES q) →
    s.slotFree q sl = true → (∀ z ∈ (s.unit (p / 64) 8).ops, z.ppn ≠ p) → (∀ z ∈ (s.unit (p / 64) 9).ops, z.peer ≠ some p) →
    s.xferOf p = none → s.translate (s.streamSource e n k).1 (s.streamSource e n k).2 = some a → (s.unit (p / 64) 8).active = some o →
    (s.unit (p / 64) 8).held = none → (o.code = 2 ∨ o.code = 3) → s.freeTag = some v →
    Gives (.refillStart q) s (fun t => Writes s t [(atRow K.PAGE_MAP p, setBits (setBits (setBits (s.page p) 63 61 Pg.empty) 60 47 e) 46 39 g), (K.XS_PREEMPTS (p / 64) 0, s.g (K.XS_PREEMPTS (p / 64) 0) + 1)] ∧
    t = { ((s.setRing q { pages := (s.ring q).pages.filter (fun z => z.slot != sl) ++ [{ slot := sl, entry := e, gen := g, n := n, j := k }], next := (sl + 1) % max 1 (s.g (K.RING_PAGES q)) }).raiseBits 75 (2 ^ (p / 64))).setUnit (p / 64) 8 { s.unit (p / 64) 8 with active := some { code := 1, entry := e, gen := g, ppn := p, since := s.tick }, held := some { o with ran := o.ran + (s.tick - o.since) } } with od := t.od, out := (List.range (ceilDiv 24576 (128 * 2 ^ min 5 s.devCtl.2.1))).map (fun i => .dmaRead v (a + 128 * 2 ^ min 5 s.devCtl.2.1 * i) (min (128 * 2 ^ min 5 s.devCtl.2.1) (24576 - 128 * 2 ^ min 5 s.devCtl.2.1 * i))), xfers := s.xfers ++ [{ tag := v, entry := e, gen := g, page := n, ppn := p, addr := a, start := s.fn, asked := true }] })) ∧
  (q < 8 → s.g (K.SQ_STATE q) ≠ 0 → (∀ z ∈ s.ringPages q, Pg.ce z.2 < s.g K.PAGE_CE_LIMIT) → s.toFill q = pre ++ (e, g, n, k) :: rest →
    (∀ z ∈ pre, (s.streamPage q z.1 z.2.1 z.2.2.1).any (fun m => Pg.state (s.page m.2) == Pg.valid || (s.unit (m.2 / 64) 8).ops.any (fun o => o.ppn == m.2)) = true) →
    s.streamPage q e g n = none → s.produced e n = true → (s.ring q).next = sl → s.ringPpn q sl = some p → sl < s.g (K.RING_PAGES q) →
    s.slotFree q sl = true → (∀ z ∈ (s.unit (p / 64) 8).ops, z.ppn ≠ p) → (∀ z ∈ (s.unit (p / 64) 9).ops, z.peer ≠ some p) →
    s.xferOf p = none → s.translate (s.streamSource e n k).1 (s.streamSource e n k).2 = none → p < 1024 → Pg.ring (s.page p) = true →
    Pg.sq (s.page p) = q → Pg.index (s.page p) = sl →
    Gives (.refillStart q) s (fun t => Writes s t [(atRow K.PAGE_MAP p, setBits (setBits (setBits (s.page p) 63 61 Pg.failed) 60 47 e) 46 39 g), (K.DMA_XLATE_MISS, s.g K.DMA_XLATE_MISS + 1), (K.DMA_FAILED, s.g K.DMA_FAILED + 1)] ∧
    t.ring q = { pages := (s.ring q).pages.filter (fun z => z.slot != sl) ++ [{ slot := sl, entry := e, gen := g, n := n, j := k, retry := some (s.tick + 1250) }], next := (sl + 1) % max 1 (s.g (K.RING_PAGES q)) } ∧
    ButAt t.ring s.ring q ∧ t = { s.raiseVal 66 p with od := t.od, out := [], rings := t.rings })) ∧
  (q < 8 → s.g (K.SQ_STATE q) ≠ 0 → (∀ z ∈ s.ringPages q, Pg.ce z.2 < s.g K.PAGE_CE_LIMIT) → s.toFill q = pre ++ (e, g, n, k) :: rest →
    (∀ z ∈ pre, (s.streamPage q z.1 z.2.1 z.2.2.1).any (fun m => Pg.state (s.page m.2) == Pg.valid || (s.unit (m.2 / 64) 8).ops.any (fun o => o.ppn == m.2)) = true) →
    s.streamPage q e g n = none → s.produced e n = false → Gives (.refillStart q) s (fun t => t = { s with out := [] })) ∧
  (q < 8 → s.g (K.SQ_STATE q) ≠ 0 → (∀ z ∈ s.ringPages q, Pg.ce z.2 < s.g K.PAGE_CE_LIMIT) → s.toFill q = pre ++ (e, g, n, k) :: rest →
    (∀ z ∈ pre, (s.streamPage q z.1 z.2.1 z.2.2.1).any (fun m => Pg.state (s.page m.2) == Pg.valid || (s.unit (m.2 / 64) 8).ops.any (fun o => o.ppn == m.2)) = true) →
    s.streamPage q e g n = none → s.ringPpn q (s.ring q).next = some p →
    (s.slotFree q (s.ring q).next = false ∨ s.g (K.RING_PAGES q) ≤ (s.ring q).next) →
    Gives (.refillStart q) s (fun t => t = { s with out := [] })) ∧
  (q < 8 → s.g (K.SQ_STATE q) ≠ 0 → (∀ z ∈ s.ringPages q, Pg.ce z.2 < s.g K.PAGE_CE_LIMIT) → s.toFill q = pre →
    (∀ z ∈ pre, (s.streamPage q z.1 z.2.1 z.2.2.1).any (fun m => Pg.state (s.page m.2) == Pg.valid || (s.unit (m.2 / 64) 8).ops.any (fun o => o.ppn == m.2)) = true) →
    Gives (.refillStart q) s (fun t => t = { s with out := [] })) ∧
  ((8 ≤ q ∨ s.g (K.SQ_STATE q) = 0) → Gives (.refillStart q) s (fun t => t = { s with out := [] })) ∧
  (p < 1024 → s.ringAt p = some (q, y) → Pg.state (s.page p) = Pg.failed → y.retry = some n → n ≤ s.tick →
    (s.toFill q).any (fun w => w.1 == y.entry && w.2.1 == y.gen && w.2.2.1 == y.n) = true →
    s.translate (s.streamSource y.entry y.n y.j).1 (s.streamSource y.entry y.n y.j).2 = some a → (s.unit (p / 64) 8).active = none →
    s.xferOf p = none → s.freeTag = some v →
    Gives (.refillRetryExpiry p) s (fun t => Writes s t [(atRow K.PAGE_MAP p, setBits (s.page p) 63 61 Pg.empty)] ∧
    t = { (s.setRing q { s.ring q with pages := (s.ring q).pages.map (fun z => if z.slot = y.slot then { z with retry := none } else z) }).setUnit (p / 64) 8 { s.unit (p / 64) 8 with active := some { code := 1, entry := y.entry, gen := y.gen, ppn := p, since := s.tick } } with od := t.od, out := (List.range (ceilDiv 24576 (128 * 2 ^ min 5 s.devCtl.2.1))).map (fun i => .dmaRead v (a + 128 * 2 ^ min 5 s.devCtl.2.1 * i) (min (128 * 2 ^ min 5 s.devCtl.2.1) (24576 - 128 * 2 ^ min 5 s.devCtl.2.1 * i))), xfers := s.xfers ++ [{ tag := v, entry := y.entry, gen := y.gen, page := y.n, ppn := p, addr := a, start := s.fn, asked := true }] })) ∧
  (p < 1024 → s.ringAt p = some (q, y) → Pg.state (s.page p) = Pg.failed → y.retry = some n → n ≤ s.tick →
    (s.toFill q).any (fun w => w.1 == y.entry && w.2.1 == y.gen && w.2.2.1 == y.n) = true →
    s.translate (s.streamSource y.entry y.n y.j).1 (s.streamSource y.entry y.n y.j).2 = some a → (s.unit (p / 64) 8).active = some o →
    o.code = 1 → Gives (.refillRetryExpiry p) s (fun t => Writes s t [(atRow K.PAGE_MAP p, setBits (s.page p) 63 61 Pg.empty)] ∧
    t = { (s.setRing q { s.ring q with pages := (s.ring q).pages.map (fun z => if z.slot = y.slot then { z with retry := none } else z) }).setUnit (p / 64) 8 { s.unit (p / 64) 8 with wait := (s.unit (p / 64) 8).wait ++ [{ code := 1, entry := y.entry, gen := y.gen, ppn := p }] } with od := t.od, out := [], xfers := s.xfers ++ [{ tag := 0, entry := y.entry, gen := y.gen, page := y.n, ppn := p, addr := a, start := s.fn }] })) ∧
  (p < 1024 → s.ringAt p = some (q, y) → Pg.state (s.page p) = Pg.failed → y.retry = some n → n ≤ s.tick →
    (s.toFill q).any (fun w => w.1 == y.entry && w.2.1 == y.gen && w.2.2.1 == y.n) = true →
    s.translate (s.streamSource y.entry y.n y.j).1 (s.streamSource y.entry y.n y.j).2 = none →
    Gives (.refillRetryExpiry p) s (fun t => Writes s t [(K.DMA_XLATE_MISS, s.g K.DMA_XLATE_MISS + 1), (K.DMA_FAILED, s.g K.DMA_FAILED + 1)] ∧
    t.ring q = { s.ring q with pages := (s.ring q).pages.map (fun z => if z.slot = y.slot then { z with retry := some (s.tick + 1250) } else z) } ∧
    ButAt t.ring s.ring q ∧ t = { s.raiseVal 66 p with od := t.od, out := [], rings := t.rings })) ∧
  ((∀ z ∈ s.ringAt p, Pg.state (s.page p) ≠ Pg.failed ∨ (∀ m ∈ z.2.retry, s.tick < m) ∨ (s.toFill z.1).any (fun w => w.1 == z.2.entry && w.2.1 == z.2.gen && w.2.2.1 == z.2.n) = false) →
    Gives (.refillRetryExpiry p) s (fun t => t = { s with out := [] })) ∧
  (s.xfers.find? (fun z => z.asked && z.tag == g && !z.full) = some x →
    Gives (.dmaCompletion g .good ds last) s (fun t => t = { s with out := [], xfers := s.xfers.map (fun z => if z.ppn = x.ppn then { x with data := (x.data ++ ds).take 24576, full := last && ((x.data ++ ds).take 24576).length == 24576 } else z) })) ∧
  (s.xfers.find? (fun z => z.asked && z.tag == g && !z.full) = none →
    Gives (.dmaCompletion g st ds last) s (fun t => Writes s t [(K.DMA_LATE, s.g K.DMA_LATE + 1)] ∧
    t = { s with od := t.od, out := [] })) ∧
  (s.xfers.find? (fun z => z.asked && z.tag == g && !z.full) = some x → x.ppn < 1024 → x.fails < s.g K.DMA_RETRY_LIMIT →
    (s.unit (x.ppn / 64) 8).ops = [o] → o.ppn = x.ppn → o.code ≠ 3 → (s.unit (x.ppn / 64) 8).active = some o →
    Pg.ring (s.page x.ppn) = true → s.freeTag = some v →
    Gives (.dmaCompletion g .poisoned ds last) s (fun t => Writes s t [(K.DMA_RETRIES, s.g K.DMA_RETRIES + 1), (K.DMA_POISONED, s.g K.DMA_POISONED + 1), (atRow K.PAGE_MAP x.ppn, setBits (s.page x.ppn) 63 61 Pg.empty)] ∧
    t = { (s.raiseVal 64 x.ppn).setUnit (x.ppn / 64) 8 { active := some { o with prog := 0 } } with od := t.od, out := (List.range (ceilDiv 24576 (128 * 2 ^ min 5 s.devCtl.2.1))).map (fun i => .dmaRead v (x.addr + 128 * 2 ^ min 5 s.devCtl.2.1 * i) (min (128 * 2 ^ min 5 s.devCtl.2.1) (24576 - 128 * 2 ^ min 5 s.devCtl.2.1 * i))), xfers := s.xfers.map (fun z => if z.ppn = x.ppn then { x with fails := x.fails + 1, tag := v, data := [], full := false } else z) })) ∧
  (s.xfers.find? (fun z => z.asked && z.tag == g && !z.full) = some x → x.ppn < 1024 → x.fails < s.g K.DMA_RETRY_LIMIT →
    (s.unit (x.ppn / 64) 8).ops = [o] → o.ppn = x.ppn → o.code ≠ 3 → (s.unit (x.ppn / 64) 8).active = some o →
    Pg.ring (s.page x.ppn) = true → s.freeTag = some v → st ≠ .good → st ≠ .poisoned →
    Gives (.dmaCompletion g st ds last) s (fun t => Writes s t [(K.DMA_RETRIES, s.g K.DMA_RETRIES + 1), (K.DMA_BAD_STATUS, s.g K.DMA_BAD_STATUS + 1), (atRow K.PAGE_MAP x.ppn, setBits (s.page x.ppn) 63 61 Pg.empty)] ∧
    t = { (s.raiseVal 64 x.ppn).setUnit (x.ppn / 64) 8 { active := some { o with prog := 0 } } with od := t.od, out := (List.range (ceilDiv 24576 (128 * 2 ^ min 5 s.devCtl.2.1))).map (fun i => .dmaRead v (x.addr + 128 * 2 ^ min 5 s.devCtl.2.1 * i) (min (128 * 2 ^ min 5 s.devCtl.2.1) (24576 - 128 * 2 ^ min 5 s.devCtl.2.1 * i))), xfers := s.xfers.map (fun z => if z.ppn = x.ppn then { x with fails := x.fails + 1, tag := v, data := [], full := false } else z) })) ∧
  (s.xfers.find? (fun z => z.asked && z.tag == g && !z.full) = some x → x.ppn < 1024 → x.fails < s.g K.DMA_RETRY_LIMIT →
    (s.unit (x.ppn / 64) 8).ops = [o] → o.ppn = x.ppn → o.code ≠ 3 → (s.unit (x.ppn / 64) 8).active = some o →
    Pg.ring (s.page x.ppn) = true → ({ s with lateTags := s.lateTags ++ [(x.tag, s.tick + s.retireFrames)] } : State).freeTag = some v →
    Gives (.dmaCompletionTimeout g) s (fun t => Writes s t [(K.DMA_RETRIES, s.g K.DMA_RETRIES + 1), (K.DMA_TIMEOUTS, s.g K.DMA_TIMEOUTS + 1), (atRow K.PAGE_MAP x.ppn, setBits (s.page x.ppn) 63 61 Pg.empty)] ∧
    t = { (s.raiseVal 64 x.ppn).setUnit (x.ppn / 64) 8 { active := some { o with prog := 0 } } with od := t.od, out := (List.range (ceilDiv 24576 (128 * 2 ^ min 5 s.devCtl.2.1))).map (fun i => .dmaRead v (x.addr + 128 * 2 ^ min 5 s.devCtl.2.1 * i) (min (128 * 2 ^ min 5 s.devCtl.2.1) (24576 - 128 * 2 ^ min 5 s.devCtl.2.1 * i))), xfers := s.xfers.map (fun z => if z.ppn = x.ppn then { x with fails := x.fails + 1, tag := v, data := [], full := false } else z), lateTags := s.lateTags ++ [(x.tag, s.tick + s.retireFrames)] })) ∧
  (s.xfers.find? (fun z => z.asked && z.tag == g && !z.full) = some x → s.g K.DMA_RETRY_LIMIT ≤ x.fails →
    (s.unit (x.ppn / 64) 8).ops.filter (fun o => o.ppn == x.ppn && o.code != 3) = [o] →
    (s.unit (x.ppn / 64) 8) = { active := some o, held := none, wait := [] } → x.ppn < 1024 → x.load = none →
    Gives (.dmaCompletion g .poisoned ds last) s (fun t => Writes s t ([(K.DMA_FAILED, s.g K.DMA_FAILED + 1), (atRow K.PAGE_MAP x.ppn, setBits (s.page x.ppn) 63 61 Pg.failed), (K.DMA_POISONED, s.g K.DMA_POISONED + 1)] ++ (if Pg.ring (s.page x.ppn) = false ∧
    Seg.base (s.seg (Pg.entry (s.page x.ppn))) = 2 ∧
    s.streamed (Pg.entry (s.page x.ppn)) = false then [(atRow K.SEG_TABLE (Pg.entry (s.page x.ppn)), setBits (s.seg (Pg.entry (s.page x.ppn))) 2 0 1)] else [])) ∧
    t = { (s.raiseVal 65 x.ppn).setUnit (x.ppn / 64) 8 {} with od := t.od, out := [], rings := t.rings, xfers := s.xfers.filter (fun z => z.ppn != x.ppn) } ∧
    (∀ z ∈ s.ringAt x.ppn, t.ring z.1 = { s.ring z.1 with pages := (s.ring z.1).pages.map (fun r => if r.slot = z.2.slot then { r with retry := some (s.tick + 1250) } else r) } ∧
    ButAt t.ring s.ring z.1) ∧ (s.ringAt x.ppn = none → t.rings = s.rings))) ∧
  (s.xfers.find? (fun z => z.asked && z.tag == g && !z.full) = some x → s.g K.DMA_RETRY_LIMIT ≤ x.fails →
    (s.unit (x.ppn / 64) 8).ops.filter (fun o => o.ppn == x.ppn && o.code != 3) = [o] →
    (s.unit (x.ppn / 64) 8) = { active := some o, held := none, wait := [] } → x.ppn < 1024 → x.load = none → st ≠ .good →
    st ≠ .poisoned →
    Gives (.dmaCompletion g st ds last) s (fun t => Writes s t ([(K.DMA_FAILED, s.g K.DMA_FAILED + 1), (atRow K.PAGE_MAP x.ppn, setBits (s.page x.ppn) 63 61 Pg.failed), (K.DMA_BAD_STATUS, s.g K.DMA_BAD_STATUS + 1)] ++ (if Pg.ring (s.page x.ppn) = false ∧
    Seg.base (s.seg (Pg.entry (s.page x.ppn))) = 2 ∧
    s.streamed (Pg.entry (s.page x.ppn)) = false then [(atRow K.SEG_TABLE (Pg.entry (s.page x.ppn)), setBits (s.seg (Pg.entry (s.page x.ppn))) 2 0 1)] else [])) ∧
    t = { (s.raiseVal 65 x.ppn).setUnit (x.ppn / 64) 8 {} with od := t.od, out := [], rings := t.rings, xfers := s.xfers.filter (fun z => z.ppn != x.ppn) } ∧
    (∀ z ∈ s.ringAt x.ppn, t.ring z.1 = { s.ring z.1 with pages := (s.ring z.1).pages.map (fun r => if r.slot = z.2.slot then { r with retry := some (s.tick + 1250) } else r) } ∧
    ButAt t.ring s.ring z.1) ∧ (s.ringAt x.ppn = none → t.rings = s.rings))) ∧
  (s.xfers.find? (fun z => z.asked && z.tag == g && !z.full) = some x → s.g K.DMA_RETRY_LIMIT ≤ x.fails →
    (s.unit (x.ppn / 64) 8).ops.filter (fun o => o.ppn == x.ppn && o.code != 3) = [o] →
    (s.unit (x.ppn / 64) 8) = { active := some o, held := none, wait := [] } → x.ppn < 1024 → x.load = none →
    Gives (.dmaCompletionTimeout g) s (fun t => Writes s t ([(K.DMA_FAILED, s.g K.DMA_FAILED + 1), (atRow K.PAGE_MAP x.ppn, setBits (s.page x.ppn) 63 61 Pg.failed), (K.DMA_TIMEOUTS, s.g K.DMA_TIMEOUTS + 1)] ++ (if Pg.ring (s.page x.ppn) = false ∧
    Seg.base (s.seg (Pg.entry (s.page x.ppn))) = 2 ∧
    s.streamed (Pg.entry (s.page x.ppn)) = false then [(atRow K.SEG_TABLE (Pg.entry (s.page x.ppn)), setBits (s.seg (Pg.entry (s.page x.ppn))) 2 0 1)] else [])) ∧
    t = { (s.raiseVal 65 x.ppn).setUnit (x.ppn / 64) 8 {} with od := t.od, out := [], rings := t.rings, xfers := s.xfers.filter (fun z => z.ppn != x.ppn), lateTags := s.lateTags ++ [(x.tag, s.tick + s.retireFrames)] } ∧
    (∀ z ∈ s.ringAt x.ppn, t.ring z.1 = { s.ring z.1 with pages := (s.ring z.1).pages.map (fun r => if r.slot = z.2.slot then { r with retry := some (s.tick + 1250) } else r) } ∧
    ButAt t.ring s.ring z.1) ∧ (s.ringAt x.ppn = none → t.rings = s.rings))) ∧
  (s.xfers.find? (fun z => z.asked && z.tag == g && !z.full) = none → Gives (.dmaCompletionTimeout g) s (fun t => t = { s with out := [] }))

/-- A bank decides each core cycle. In every cycle of a frame a bank makes one decision. At the end of a slot without a refresh the refresh
takes it from any request, counted with EV074; else the entitled request that has waited its limit, longest first, counted with EV072;
else the first entitled one; else the first surplus one; else a refresh while a row is owed; else the cycle is idle. The winner's wait
is 0 and its grants one more; every other request that was admitted waits one cycle more, to 1,023, and a loser's forecast gives its
bound. A granted operation moves on by its one word: a page write stores it, a move reads it and then writes it, the scrubber and a page
read pass it, a prefetch keeps it; a request withdrawn leaves a dead cycle, counted, with EV073. After 512 cycles a frame takes no more.
ARB_COMMIT brings the shadow priorities and limits into use, with the number of commits as VALUE; ARB_URG takes 0 or 1. ARB_STATE_ERROR
clears the waits of the bank and its counts of the frame, ends its operations, is counted, and raises EV078. (R14, R257, R259, R262,
R263, R264, R266, R267, R270, R282) What the rules leave open in it is the model's choice: log entries 14, 75, 101, 104. -/
def Obligations.Arbitration : Prop :=
  ∀ (s : State) (w : Who) (b r v p id' w' n' m' : Nat) (rs : List BankReq) (E S : List Nat) (x : BankReq) (o : XOp) (vw : VWord), 
  (s.mode ≠ 0 → b < 16 → (s.arbOf b).cycle < 512 → rs.all (fun x => x.requester < 12) = true → s.arbE b (s.present b rs) = E →
    s.arbS b (s.present b rs) = S → Gives (.bankArbitration b rs) s (fun t => ∃ d ∈ List.range 14, t.out.contains (.grant b d) = true ∧
    s.decides b d E S ∧ Counted s t b d ∧ (t.g (K.ARB_STEALS b) = s.g (K.ARB_STEALS b) + if s.stealsAt b = true ∧
    E ++ S ≠ [] then 1 else 0) ∧ (d < 12 → t.g (K.ARB_FORCED b d) = s.g (K.ARB_FORCED b d) + if E.contains d ∧
    s.g (K.ARB_LIMIT d) ≤ s.cnt b d then 1 else 0) ∧
    (∀ r ∈ List.range 12, t.g (K.ARB_WAIT b r) = if (E ++ S).contains r then (if d = r then 0 else min (s.cnt b r + 1) 1023) else s.cnt b r) ∧
    (∀ q ∈ (s.present b rs).map (·.requester), q ≠ d →
    t.g (K.ARB_FORECAST b q) / 64 = if E.contains q then min 63 (s.g (K.ARB_LIMIT q) - t.cnt b q + 11 + ceilDiv (s.g (K.ARB_LIMIT q) - t.cnt b q + 11) 31) else 63) ∧
    t.mode = s.mode ∧ t.tick = s.tick ∧ t.clock = s.clock ∧ t.host = s.host ∧ t.nvm = s.nvm ∧ t.chHid = s.chHid)) ∧
  (s.mode ≠ 0 → b < 16 → (s.arbOf b).cycle < 512 → (s.arbOf b).row = false →
    Gives (.bankArbitration b []) s (fun t => t = { s.setArb b { s.arbOf b with cycle := (s.arbOf b).cycle + 1, row := decide ((s.arbOf b).cycle % s.refreshSlot b + 1 ≠ s.refreshSlot b), refresh := (s.arbOf b).refresh + 1 } with out := [.grant b 12] })) ∧
  (s.mode ≠ 0 → b < 16 → (s.arbOf b).cycle < 512 → (s.arbOf b).row = true →
    Gives (.bankArbitration b []) s (fun t => t = { s.setArb b { s.arbOf b with cycle := (s.arbOf b).cycle + 1, row := decide ((s.arbOf b).cycle % s.refreshSlot b + 1 ≠ s.refreshSlot b), idle := (s.arbOf b).idle + 1 } with out := [.grant b 13] })) ∧
  (s.mode ≠ 0 → 512 ≤ (s.arbOf b).cycle → Gives (.bankArbitration b rs) s (fun t => t = { s with out := [] })) ∧
  (s.mode ≠ 0 → b < 16 → (s.arbOf b).cycle < 512 → ((s.arbOf b).row = true ∨ (s.arbOf b).cycle % s.refreshSlot b + 1 ≠ s.refreshSlot b) →
    x.requester = 11 → x.withdrawn = false → x.ecc = .clean → (s.arbOf b).granted 11 < arbShare 11 → s.cnt b 11 < s.g (K.ARB_LIMIT 11) →
    s.noneDead b = true → (s.unit b 11).active = some o → Gives (.bankArbitration b [x]) s (fun t => Writes s t [(K.ARB_WAIT b 11, 0)] ∧
    t.arbOf b = { s.arbOf b with cycle := (s.arbOf b).cycle + 1, row := decide ((s.arbOf b).cycle % s.refreshSlot b + 1 ≠ s.refreshSlot b) && (s.arbOf b).row, grants := Sp.set (fun _ => 0) (s.arbOf b).grants 11 ((s.arbOf b).granted 11 + 1) } ∧
    ButAt t.arbOf s.arbOf b ∧
    t = { s.setUnit b 11 { s.unit b 11 with active := some { o with prog := min 1023 (o.prog + 1) } } with od := t.od, out := [.grant b 11], arb := t.arb })) ∧
  (s.mode ≠ 0 → b < 16 → (s.arbOf b).cycle < 512 → ((s.arbOf b).row = true ∨ (s.arbOf b).cycle % s.refreshSlot b + 1 ≠ s.refreshSlot b) →
    x.requester = 11 → x.withdrawn = false → x.ecc = .corrected → (s.arbOf b).granted 11 < arbShare 11 →
    s.cnt b 11 < s.g (K.ARB_LIMIT 11) → s.noneDead b = true → (s.unit b 11).active = some o → o.ppn / 64 = b →
    Gives (.bankArbitration b [x]) s (fun t => Writes s t [(atRow K.PAGE_MAP o.ppn, setBits (s.page o.ppn) 20 16 (min 31 (Pg.ce (s.page o.ppn) + 1))), (K.BANK_CE b, s.g (K.BANK_CE b) + 1), (K.ARB_WAIT b 11, 0)] ∧
    t.arbOf b = { s.arbOf b with cycle := (s.arbOf b).cycle + 1, row := decide ((s.arbOf b).cycle % s.refreshSlot b + 1 ≠ s.refreshSlot b) && (s.arbOf b).row, grants := Sp.set (fun _ => 0) (s.arbOf b).grants 11 ((s.arbOf b).granted 11 + 1) } ∧
    ButAt t.arbOf s.arbOf b ∧
    t = { (s.setUnit b 11 { s.unit b 11 with active := some { o with prog := min 1023 (o.prog + 1) } }).raiseVal 67 o.ppn with od := t.od, out := [.grant b 11], arb := t.arb })) ∧
  (s.mode ≠ 0 → b < 16 → (s.arbOf b).cycle < 512 → ((s.arbOf b).row = true ∨ (s.arbOf b).cycle % s.refreshSlot b + 1 ≠ s.refreshSlot b) →
    x.requester = 8 → x.withdrawn = false → x.ecc = .clean → (s.arbOf b).granted 8 < arbShare 8 → s.cnt b 8 < s.g (K.ARB_LIMIT 8) →
    s.noneDead b = true → (s.unit b 8).active = some o → o.ppn / 64 = b → s.opWord o o.prog = some vw → (o.code ≠ 3 ∨ o.src < 8) →
    o.prog ≠ 0 → o.prog < 1023 → Pg.state (s.page o.ppn) = Pg.filling →
    Gives (.bankArbitration b [x]) s (fun t => Writes s t [(K.ARB_WAIT b 8, 0)] ∧
    t.arbOf b = { s.arbOf b with cycle := (s.arbOf b).cycle + 1, row := decide ((s.arbOf b).cycle % s.refreshSlot b + 1 ≠ s.refreshSlot b) && (s.arbOf b).row, grants := Sp.set (fun _ => 0) (s.arbOf b).grants 8 ((s.arbOf b).granted 8 + 1) } ∧
    ButAt t.arbOf s.arbOf b ∧ Sp.find t.vmem (1024 * o.ppn + o.prog) = some vw ∧
    ButAt (Sp.find t.vmem) (Sp.find s.vmem) (1024 * o.ppn + o.prog) ∧
    t = { s.setUnit b 8 { s.unit b 8 with active := some { o with prog := o.prog + 1 } } with od := t.od, out := [.grant b 8], arb := t.arb, vmem := t.vmem })) ∧
  (s.mode ≠ 0 → b < 16 → (s.arbOf b).cycle < 512 → ((s.arbOf b).row = true ∨ (s.arbOf b).cycle % s.refreshSlot b + 1 ≠ s.refreshSlot b) →
    x.requester = 9 → x.withdrawn = false → x.ecc = .clean → (s.arbOf b).granted 9 < arbShare 9 → s.cnt b 9 < s.g (K.ARB_LIMIT 9) →
    s.noneDead b = true → (s.unit b 9).active = some o → o.half = false → o.peer = some p → p / 64 = b →
    Gives (.bankArbitration b [x]) s (fun t => Writes s t [(K.ARB_WAIT b 9, 0)] ∧
    t.arbOf b = { s.arbOf b with cycle := (s.arbOf b).cycle + 1, row := decide ((s.arbOf b).cycle % s.refreshSlot b + 1 ≠ s.refreshSlot b) && (s.arbOf b).row, grants := Sp.set (fun _ => 0) (s.arbOf b).grants 9 ((s.arbOf b).granted 9 + 1) } ∧
    ButAt t.arbOf s.arbOf b ∧
    t = { s.setUnit b 9 { s.unit b 9 with active := some { o with half := true } } with od := t.od, out := [.grant b 9], arb := t.arb })) ∧
  (s.mode ≠ 0 → b < 16 → (s.arbOf b).cycle < 512 → ((s.arbOf b).row = true ∨ (s.arbOf b).cycle % s.refreshSlot b + 1 ≠ s.refreshSlot b) →
    x.requester = 9 → x.withdrawn = false → x.ecc = .clean → (s.arbOf b).granted 9 < arbShare 9 → s.cnt b 9 < s.g (K.ARB_LIMIT 9) →
    s.noneDead b = true → (s.unit b 9).active = some o → o.half = true → o.peer = some p → o.ppn / 64 = b → o.prog < 1023 →
    Gives (.bankArbitration b [x]) s (fun t => Writes s t [(K.ARB_WAIT b 9, 0)] ∧
    t.arbOf b = { s.arbOf b with cycle := (s.arbOf b).cycle + 1, row := decide ((s.arbOf b).cycle % s.refreshSlot b + 1 ≠ s.refreshSlot b) && (s.arbOf b).row, grants := Sp.set (fun _ => 0) (s.arbOf b).grants 9 ((s.arbOf b).granted 9 + 1) } ∧
    ButAt t.arbOf s.arbOf b ∧ Sp.find t.vmem (1024 * o.ppn + o.prog) = some (s.word p o.prog) ∧
    ButAt (Sp.find t.vmem) (Sp.find s.vmem) (1024 * o.ppn + o.prog) ∧
    t = { s.setUnit b 9 { s.unit b 9 with active := some { o with half := false, prog := o.prog + 1 } } with od := t.od, out := [.grant b 9], arb := t.arb, vmem := t.vmem })) ∧
  (s.mode ≠ 0 → b < 16 → (s.arbOf b).cycle < 512 → ((s.arbOf b).row = true ∨ (s.arbOf b).cycle % s.refreshSlot b + 1 ≠ s.refreshSlot b) →
    x.requester = 10 → x.withdrawn = false → x.ecc = .clean → (s.arbOf b).granted 10 < arbShare 10 → s.cnt b 10 < s.g (K.ARB_LIMIT 10) →
    s.noneDead b = true → (s.unit b 10).active = some o → Gives (.bankArbitration b [x]) s (fun t => Writes s t [(K.ARB_WAIT b 10, 0)] ∧
    t.arbOf b = { s.arbOf b with cycle := (s.arbOf b).cycle + 1, row := decide ((s.arbOf b).cycle % s.refreshSlot b + 1 ≠ s.refreshSlot b) && (s.arbOf b).row, grants := Sp.set (fun _ => 0) (s.arbOf b).grants 10 ((s.arbOf b).granted 10 + 1) } ∧
    ButAt t.arbOf s.arbOf b ∧
    t = { s.setUnit b 10 { s.unit b 10 with active := some { o with half := false, prog := min 1023 (o.prog + 1) } } with od := t.od, out := [.grant b 10], arb := t.arb })) ∧
  (s.mode ≠ 0 → b < 16 → (s.arbOf b).cycle < 512 → ((s.arbOf b).row = true ∨ (s.arbOf b).cycle % s.refreshSlot b + 1 ≠ s.refreshSlot b) →
    x.requester = 10 → x.withdrawn = false → x.ecc = .corrected → (s.arbOf b).granted 10 < arbShare 10 →
    s.cnt b 10 < s.g (K.ARB_LIMIT 10) → s.noneDead b = true → (s.unit b 10).active = some o → o.code = 7 → o.half = false →
    o.ppn / 64 = b →
    Gives (.bankArbitration b [x]) s (fun t => Writes s t [(atRow K.PAGE_MAP o.ppn, setBits (s.page o.ppn) 20 16 (min 31 (Pg.ce (s.page o.ppn) + 1))), (K.BANK_CE b, s.g (K.BANK_CE b) + 1), (K.ARB_WAIT b 10, 0)] ∧
    t.arbOf b = { s.arbOf b with cycle := (s.arbOf b).cycle + 1, row := decide ((s.arbOf b).cycle % s.refreshSlot b + 1 ≠ s.refreshSlot b) && (s.arbOf b).row, grants := Sp.set (fun _ => 0) (s.arbOf b).grants 10 ((s.arbOf b).granted 10 + 1) } ∧
    ButAt t.arbOf s.arbOf b ∧
    t = { (s.setUnit b 10 { s.unit b 10 with active := some { o with half := true } }).raiseVal 67 o.ppn with od := t.od, out := [.grant b 10], arb := t.arb })) ∧
  (s.mode ≠ 0 → b < 16 → (s.arbOf b).cycle < 512 → ((s.arbOf b).row = true ∨ (s.arbOf b).cycle % s.refreshSlot b + 1 ≠ s.refreshSlot b) →
    x.requester = r → r < 8 → x.withdrawn = false → x.ecc = .clean → s.wordAt r b = some (id', w', n', m') → m' < s.sqLimit r →
    s.cnt b r < s.g (K.ARB_LIMIT r) → s.noneDead b = true → (s.nextWord r).all (fun y => (y.1, y.2.1) != (id', w')) = true →
    ((s.sq r).keepGot (fun z => Seg.perWord (Seg.fmt (s.seg z)))).contains (id', w') = false →
    (s.nextWord r).all (fun y => !(((s.sq r).keepGot (fun z => Seg.perWord (Seg.fmt (s.seg z)))).contains (y.1, y.2.1))) = true →
    Gives (.bankArbitration b [x]) s (fun t => Writes s t [(K.ARB_WAIT b r, 0)] ∧
    t = { s.setSq r { s.sq r with got := (s.sq r).keepGot (fun z => Seg.perWord (Seg.fmt (s.seg z))) ++ [(id', w')] } with od := t.od, out := [.grant b r], arb := t.arb })) ∧
  (s.mode ≠ 0 → b < 16 → (s.arbOf b).cycle < 512 → ((s.arbOf b).row = true ∨ (s.arbOf b).cycle % s.refreshSlot b + 1 ≠ s.refreshSlot b) →
    x.requester = r → 8 ≤ r → r < 12 → x.withdrawn = true → (s.arbOf b).granted r < arbShare r → s.cnt b r < s.g (K.ARB_LIMIT r) →
    s.noneDead b = true →
    Gives (.bankArbitration b [x]) s (fun t => Writes s t [(K.ARB_DEAD b, s.g (K.ARB_DEAD b) + 1), (K.ARB_WAIT b r, 0)] ∧
    t = { s.raiseBits 73 (2 ^ b) with od := t.od, out := [.grant b r], arb := t.arb })) ∧
  (s.mode ≠ 0 → b < 16 → (s.arbOf b).cycle < 512 → (s.arbOf b).row = false → (s.arbOf b).cycle % s.refreshSlot b + 1 = s.refreshSlot b →
    x.requester = r → 8 ≤ r → r < 12 → (s.arbOf b).granted r < arbShare r →
    Gives (.bankArbitration b [x]) s (fun t => t.g (K.ARB_STEALS b) = s.g (K.ARB_STEALS b) + 1 ∧
    t.g (K.ARB_WAIT b r) = min (s.cnt b r + 1) 1023 ∧
    WritesBut s t (fun j => j == K.ARB_STEALS b || j == K.ARB_WAIT b r || j == K.ARB_PEAK_WAIT b r || j == K.ARB_FORECAST b r) [] ∧
    t.arbOf b = { s.arbOf b with cycle := (s.arbOf b).cycle + 1, refresh := (s.arbOf b).refresh + 1 } ∧
    t.out.getLast? = some (.grant b 12) ∧ t = { s.raiseBits 74 (2 ^ b) with od := t.od, out := t.out, arb := t.arb })) ∧
  (s.admits w 1 →
    Gives (.arbCommit w) s (fun t => Answers s t w K.ARB_COMMIT 0 RC.ok (s.g K.ARB_COMMITS + 1) ([(K.ARB_SHADOW_DIRTY, 0), (K.ARB_COMMITS, s.g K.ARB_COMMITS + 1)] ++ (List.range 12).flatMap (fun r => [(K.ARB_PRIO r, s.g (K.ARB_PRIO_SH r)), (K.ARB_LIMIT r, s.g (K.ARB_LIMIT_SH r))])) ∧
    t = { s with od := t.od, out := t.out })) ∧
  (s.admits w 1 → r < 12 → v ≤ 1 → Gives (.arbUrgWrite w r v) s (fun t => Writes s t [(K.ARB_URG r, v)] ∧
    t = { s with od := t.od, out := [.result RC.ok 0] })) ∧
  (s.admits w 1 → 12 ≤ r → Gives (.arbUrgWrite w r v) s (fun t => t = { s with out := [.result RC.noObject 0] })) ∧
  (s.admits w 1 → r < 12 → 1 < v → Gives (.arbUrgWrite w r v) s (fun t => t = { s with out := [.result RC.range 0] })) ∧
  (s.mode ≠ 0 → b < 16 →
    (∀ k ∈ [8, 9, 10, 11], ∀ o ∈ (s.unit b k).active.toList ++ (s.unit b k).held.toList, o.banks.contains b = false) →
    (s.arbOf b).cycle < 512 →
    Gives (.arbStateError b) s (fun t => Writes s t ([(K.ARB_RESETS b, s.g (K.ARB_RESETS b) + 1)] ++ (List.range 12).map (fun r => (K.ARB_WAIT b r, 0))) ∧
    t = { (s.setArb b { s.arbOf b with cycle := (s.arbOf b).cycle + 1, idle := (s.arbOf b).idle + 1, grants := [], surplus := [], row := decide ((s.arbOf b).cycle % s.refreshSlot b + 1 ≠ s.refreshSlot b) && (s.arbOf b).row }).raiseBits 78 (2 ^ b) with od := t.od, out := [] })) ∧
  (s.mode ≠ 0 → b < 16 →
    (∀ k ∈ [8, 9, 10, 11], ∀ o ∈ (s.unit b k).active.toList ++ (s.unit b k).held.toList, o.banks.contains b = false) →
    512 ≤ (s.arbOf b).cycle →
    Gives (.arbStateError b) s (fun t => Writes s t ([(K.ARB_RESETS b, s.g (K.ARB_RESETS b) + 1)] ++ (List.range 12).map (fun r => (K.ARB_WAIT b r, 0))) ∧
    t = { s.raiseBits 78 (2 ^ b) with od := t.od, out := [] })) ∧
  (s.mode ≠ 0 → b < 16 → (∀ k ∈ [8, 9, 10], ∀ o ∈ (s.unit b k).active.toList ++ (s.unit b k).held.toList, o.banks.contains b = false) →
    (s.arbOf b).cycle < 512 → s.unit b 11 = { active := some o, held := none, wait := [] } → o.code = 8 → o.ppn / 64 = b →
    o.peer = none → s.readsAsked b = true →
    Gives (.arbStateError b) s (fun t => Writes s t ([(K.ARB_RESETS b, s.g (K.ARB_RESETS b) + 1), (K.XS_ABANDONS b 3, s.g (K.XS_ABANDONS b 3) + 1), (K.PAGE_SLOTS_BUSY, setBit (s.g K.PAGE_SLOTS_BUSY) o.src false)] ++ (List.range 12).map (fun r => (K.ARB_WAIT b r, 0))) ∧
    t = { (((s.setArb b { s.arbOf b with cycle := (s.arbOf b).cycle + 1, idle := (s.arbOf b).idle + 1, grants := [], surplus := [], row := decide ((s.arbOf b).cycle % s.refreshSlot b + 1 ≠ s.refreshSlot b) && (s.arbOf b).row }).setUnit b 11 {}).raiseBits 76 (2 ^ b)).raiseBits 78 (2 ^ b) with od := t.od, out := [] })) ∧
  (s.mode ≠ 0 → b < 16 → (∀ k ∈ [9, 10, 11], ∀ o ∈ (s.unit b k).active.toList ++ (s.unit b k).held.toList, o.banks.contains b = false) →
    (s.arbOf b).cycle < 512 → s.unit b 8 = { active := some o, held := none, wait := [] } → o.code = 3 → o.ppn / 64 = b → o.peer = none →
    Pg.state (s.page o.ppn) = Pg.filling →
    Gives (.arbStateError b) s (fun t => Writes s t ([(K.ARB_RESETS b, s.g (K.ARB_RESETS b) + 1), (K.XS_ABANDONS b 0, s.g (K.XS_ABANDONS b 0) + 1), (K.PAGE_SLOTS_BUSY, setBit (s.g K.PAGE_SLOTS_BUSY) (o.src % 8) false), (K.PAGE_POST + 2, RC.state), (K.PAGE_POST + 3, 4), (atRow K.PAGE_MAP o.ppn, setBits (s.page o.ppn) 63 61 Pg.empty)] ++ (List.range 12).map (fun r => (K.ARB_WAIT b r, 0))) ∧
    t = { (((s.setArb b { s.arbOf b with cycle := (s.arbOf b).cycle + 1, idle := (s.arbOf b).idle + 1, grants := [], surplus := [], row := decide ((s.arbOf b).cycle % s.refreshSlot b + 1 ≠ s.refreshSlot b) && (s.arbOf b).row }).setUnit b 8 {}).raiseBits 76 (2 ^ b)).raiseBits 78 (2 ^ b) with od := t.od, out := [] }))

/-- Edges are placed, triggered and emitted. PLACEMENT_PASS, once a frame outside M0 and M1, takes the lanes that fail their check out of
service with EV039, keeps every edge queued and places edges of the next frame only, none in SAFE; a nominal time due is queued on the
core its channel will have, at its rounded sum, or withheld and counted as late, for its lane or by a check; a pulse of a rule gives its
two edges, and RULE_NEXT_J and RULE_DONE count it. INPUT_EDGE counts an edge of an enabled input and keeps it in the input's history,
each division-th one of a prescaled input, or counts it as dropped under the rate limit; it starts the burst of each TRIGGER channel of
that input and direction, or counts it as ignored within one. TRIGGER_EDGE_ISSUE queues the next edge of the burst in time order on the
channel's core with the vernier next in turn once its frame is in the window, or withholds it. EDGE_EMIT drives the next edge of the
frame with its flag and makes the pad's level the edge's; one at the level the pad has, or of a pad gated or shut down, is withheld and
counted with its reason; a DISABLED pad drives nothing. Nothing else changes. (R79, R80, R82, R85, R88, R90, R94, R95, R98, R99, R104,
R107) What the rules leave open in it is the model's choice: log entries 64, 65, 66, 111. -/
def Obligations.Edges : Prop :=
  ∀ (s : State) (f c k n u u2 y d : Nat) (a a2 : Int) (l raw past : Bool) (b : Burst) (x : QEdge) (r : List QEdge) (v : State), 
  (2 ≤ s.mode → s.passed = false → Gives (.placementPass f) s (fun t => t.passed = true ∧
    t.lanesOut = (s.lanesOut ||| (f % 2 ^ 12 &&& (2 ^ 12 - 1 - s.lanesOut))) ∧
    (∀ k ∈ List.range 72, (∀ e ∈ (s.core k).queue, e ∈ (t.core k).queue) ∧
    (∀ e ∈ (t.core k).queue, e ∈ (s.core k).queue ∨ (frameOf e.t = s.fn + 1 ∧ s.mode ≠ 10))) ∧
    (∀ c ∈ List.range 64, (t.ch c).bound.isSome = true ∧ t.g (K.PAD_LEVEL c) = s.g (K.PAD_LEVEL c)) ∧
    ((f % 2 ^ 12 &&& (2 ^ 12 - 1 - s.lanesOut)) ≠ 0 → t.ev 39 ≠ none) ∧ t.mode = s.mode ∧ t.tick = s.tick ∧ t.vmem = s.vmem ∧
    t.slotBytes = s.slotBytes ∧ t.nvm = s.nvm ∧ t.clock = s.clock ∧ t.host = s.host)) ∧
  (2 ≤ s.mode → s.passed = true → Gives (.placementPass f) s (fun t => t = { s with out := [] })) ∧
  (2 ≤ s.mode → s.passed = false → s.mode ≠ 10 → c < 64 → (∀ q ∈ List.range 8, s.g (K.SQ_STATE q) = 0) → s.ahead = v →
    (∀ z ∈ List.range 64, z ≠ c → v.src z ≠ 1 ∧ v.src z ≠ 3) → v.src c = 3 → (s.ch c).src = 3 → (s.ch c).wait = [(a, l)] →
    s.coreAt c (s.tick + 1) = k → k < 72 → (v.lanes s.lanesOut).find? (fun z => z.1 == c) = some (c, some y, past) →
    bit (f % 2 ^ 12 &&& (2 ^ 12 - 1 - s.lanesOut)) y = false → v.edgeTime c k (s.nextVern k) a (v.gi (K.CH_DELAY c)) = (u : Int) →
    (s.fn + 1) * qFrame ≤ u → u < (s.fn + 2) * qFrame → a + v.gi (K.CH_DELAY c) < ((s.fn + 2) * qFrame : Nat) →
    s.placeReason c k u = none → s.guarded c u = false →
    Gives (.placementPass f) s (fun t => WritesBut s t passObj [(K.CH_QUEUE_PEAK k, max (s.g (K.CH_QUEUE_PEAK k)) ((s.core k).queue.length + 1)), (K.CH_NEXT_VERNIER k, 1 - s.nextVern k)] ∧
    (t.core k).queue = insEdge { t := u, ch := c, level := l, vern := s.nextVern k, trig := false } (s.core k).queue ∧
    (t.ch c).wait = [] ∧ (t.ch c).hist = u :: (s.ch c).hist.take 1 ∧ (∀ z ∈ List.range 72, z ≠ k → (t.core z).queue = (s.core z).queue) ∧
    (∀ z ∈ List.range 64, z ≠ c → (t.ch z).hist = (s.ch z).hist) ∧ t.mode = s.mode ∧ t.tick = s.tick ∧ t.vmem = s.vmem ∧
    t.slotBytes = s.slotBytes ∧ t.nvm = s.nvm ∧ t.clock = s.clock ∧ t.host = s.host)) ∧
  (2 ≤ s.mode → s.passed = false → s.mode ≠ 10 → c < 64 → (∀ q ∈ List.range 8, s.g (K.SQ_STATE q) = 0) → s.ahead = v →
    (∀ z ∈ List.range 64, z ≠ c → v.src z ≠ 1 ∧ v.src z ≠ 3) → v.src c = 3 → (s.ch c).src = 3 → (s.ch c).wait = [(a, l)] →
    s.coreAt c (s.tick + 1) = k → k < 72 → (v.lanes s.lanesOut).find? (fun z => z.1 == c) = some (c, some y, past) →
    a + v.gi (K.CH_DELAY c) < ((s.fn + 2) * qFrame : Nat) → bit (f % 2 ^ 12 &&& (2 ^ 12 - 1 - s.lanesOut)) y = false →
    v.edgeTime c k (s.nextVern k) a (v.gi (K.CH_DELAY c)) = (u : Int) → u < (s.fn + 1) * qFrame →
    Gives (.placementPass f) s (fun t => WritesBut s t passObj (s.withheldObj c k 1 u) ∧ t.evMask 37 = s.evMask 37 ||| 2 ^ c ∧
    (t.ch c).wait = [] ∧ (∀ z ∈ List.range 72, (t.core z).queue = (s.core z).queue) ∧ t.mode = s.mode ∧ t.tick = s.tick ∧
    t.vmem = s.vmem ∧ t.slotBytes = s.slotBytes ∧ t.nvm = s.nvm ∧ t.clock = s.clock ∧ t.host = s.host)) ∧
  (2 ≤ s.mode → s.passed = false → s.mode ≠ 10 → c < 64 → (∀ q ∈ List.range 8, s.g (K.SQ_STATE q) = 0) → s.ahead = v →
    (∀ z ∈ List.range 64, z ≠ c → v.src z ≠ 1 ∧ v.src z ≠ 3) → v.src c = 3 → (s.ch c).src = 3 → (s.ch c).wait = [(a, l)] →
    s.coreAt c (s.tick + 1) = k → k < 72 → (v.lanes s.lanesOut).find? (fun z => z.1 == c) = some (c, some y, past) →
    a + v.gi (K.CH_DELAY c) < ((s.fn + 2) * qFrame : Nat) → bit (f % 2 ^ 12 &&& (2 ^ 12 - 1 - s.lanesOut)) y = true →
    v.edgeTime c k (s.nextVern k) a (v.gi (K.CH_DELAY c)) = (u : Int) →
    Gives (.placementPass f) s (fun t => WritesBut s t passObj (s.withheldObj c k 5 u) ∧ bit (t.evMask 39) c = true ∧
    (t.ch c).wait = [] ∧ (∀ z ∈ List.range 72, (t.core z).queue = (s.core z).queue) ∧ t.mode = s.mode ∧ t.tick = s.tick ∧
    t.vmem = s.vmem ∧ t.slotBytes = s.slotBytes ∧ t.nvm = s.nvm ∧ t.clock = s.clock ∧ t.host = s.host)) ∧
  (2 ≤ s.mode → s.passed = false → s.mode ≠ 10 → c < 64 → (∀ q ∈ List.range 8, s.g (K.SQ_STATE q) = 0) → s.ahead = v →
    (∀ z ∈ List.range 64, z ≠ c → v.src z ≠ 1 ∧ v.src z ≠ 3) → v.src c = 3 → (s.ch c).src = 3 → (s.ch c).wait = [(a, l)] →
    s.coreAt c (s.tick + 1) = k → k < 72 → (v.lanes s.lanesOut).find? (fun z => z.1 == c) = some (c, some y, past) →
    a + v.gi (K.CH_DELAY c) < ((s.fn + 2) * qFrame : Nat) → bit (f % 2 ^ 12 &&& (2 ^ 12 - 1 - s.lanesOut)) y = false →
    v.edgeTime c k (s.nextVern k) a (v.gi (K.CH_DELAY c)) = (u : Int) → (s.fn + 1) * qFrame ≤ u → u < (s.fn + 2) * qFrame →
    s.placeReason c k u = some d → Gives (.placementPass f) s (fun t => WritesBut s t passObj (s.withheldObj c k d u) ∧ (d = 2 →
    bit (t.evMask 35) c = true) ∧ (d = 3 → bit (t.evMask 34) c = true) ∧ (d = 4 → bit (t.evMask 36) c = true) ∧ (t.ch c).wait = [] ∧
    (∀ z ∈ List.range 72, (t.core z).queue = (s.core z).queue) ∧ t.mode = s.mode ∧ t.tick = s.tick ∧ t.vmem = s.vmem ∧
    t.slotBytes = s.slotBytes ∧ t.nvm = s.nvm ∧ t.clock = s.clock ∧ t.host = s.host)) ∧
  (2 ≤ s.mode → s.passed = false → s.mode ≠ 10 → c < 64 → (∀ q ∈ List.range 8, s.g (K.SQ_STATE q) = 0) → s.ahead = v →
    (∀ z ∈ List.range 64, z ≠ c → v.src z ≠ 1 ∧ v.src z ≠ 3) → v.src c = 3 → (s.ch c).src = 3 → (s.ch c).wait = [(a, l)] →
    s.coreAt c (s.tick + 1) = k → k < 72 → (v.lanes s.lanesOut).find? (fun z => z.1 == c) = some (c, some y, past) →
    ((s.fn + 2) * qFrame : Nat) ≤ a + v.gi (K.CH_DELAY c) → Gives (.placementPass f) s (fun t => WritesBut s t passObj [] ∧
    (t.ch c).wait = [(a, l)] ∧ (∀ z ∈ List.range 72, (t.core z).queue = (s.core z).queue) ∧ t.mode = s.mode ∧ t.tick = s.tick ∧
    t.vmem = s.vmem ∧ t.slotBytes = s.slotBytes ∧ t.nvm = s.nvm ∧ t.clock = s.clock ∧ t.host = s.host)) ∧
  (2 ≤ s.mode → s.passed = false → s.mode ≠ 10 → c < 64 → (∀ q ∈ List.range 8, s.g (K.SQ_STATE q) = 0) → s.ahead = v →
    (∀ z ∈ List.range 64, z ≠ c → v.src z ≠ 1 ∧ v.src z ≠ 3) → v.src c = 1 → (s.ch c).src = 1 → (s.ch c).wait = [] →
    (s.ch c).begun = [] → (s.ch c).hist = [] → (s.ch c).rules = (List.range 4).map (v.ruleVal c) →
    (∀ z ∈ [1, 2, 3], v.g (K.RULE_ENABLE c z) = 0) → v.g (K.RULE_ENABLE c 0) = 1 → v.g (K.RULE_COUNT c 0) = 1 →
    s.g (K.RULE_NEXT_J c 0) = 0 → (time92 (v.g (K.RULE_EPOCH c 0)) : Int) = a → a + v.gi (K.RULE_WIDTH c 0) = a2 →
    0 < v.gi (K.RULE_WIDTH c 0) → 0 < v.gi (K.RULE_PERIOD c 0) → s.coreAt c (s.tick + 1) = k → k < 72 →
    (v.lanes s.lanesOut).find? (fun z => z.1 == c) = some (c, some y, past) → bit (f % 2 ^ 12 &&& (2 ^ 12 - 1 - s.lanesOut)) y = false →
    v.edgeTime c k (s.nextVern k) a (v.gi (K.CH_DELAY c)) = (u : Int) →
    v.edgeTime c k (1 - s.nextVern k) a2 (v.gi (K.CH_DELAY c)) = (u2 : Int) → s.nextVern k ≤ 1 → (s.fn + 1) * qFrame ≤ u →
    u + 1573 ≤ u2 → u2 < (s.fn + 2) * qFrame → a2 + v.gi (K.CH_DELAY c) < ((s.fn + 2) * qFrame : Nat) → s.edgesFor k (s.fn + 1) < 255 →
    (s.core k).queue.length < 511 → (s.bank (bankOf c)).change = none → (s.bank (bankOf c)).moved.contains c = false →
    Gives (.placementPass f) s (fun t => t.g (K.RULE_NEXT_J c 0) = 1 ∧ t.g (K.RULE_DONE c 0) = 1 ∧
    (t.core k).queue = insEdge { t := u2, ch := c, level := false, vern := 1 - s.nextVern k, trig := false } (insEdge { t := u, ch := c, level := true, vern := s.nextVern k, trig := false } (s.core k).queue) ∧
    t.g (K.CH_NEXT_VERNIER k) = s.nextVern k ∧ (t.ch c).hist = [u2, u] ∧ (∀ z ∈ List.range 72, z ≠ k →
    (t.core z).queue = (s.core z).queue) ∧ (∀ z ∈ List.range 64, z ≠ c → (t.ch z).hist = (s.ch z).hist) ∧ t.mode = s.mode ∧
    t.tick = s.tick ∧ t.vmem = s.vmem ∧ t.slotBytes = s.slotBytes ∧ t.nvm = s.nvm ∧ t.clock = s.clock ∧ t.host = s.host)) ∧
  (2 ≤ s.mode → n < 16 → s.g (K.IN_FMT n) ≠ 0 → s.mode ≠ 10 → s.division n = 1 → s.stamp f = u → (raw != s.inInvert n) = l →
    (if l then (s.inp n).lastRise else (s.inp n).lastFall).any (fun z => u < z + 524288) = false → (l = true →
    s.slotType n = 0 ∨ 4 < s.slotType n) →
    Gives (.inputEdge n f raw) s (fun t => Writes s t ((K.IN_EDGES n, s.g (K.IN_EDGES n) + 1) :: s.triggerObj n u l) ∧
    Triggered s t n u l ∧ LoopedBack s t n ∧
    t = { s.setInp n (if l then { s.inp n with lastRise := some u, level := true, history := (u, true) :: (s.inp n).history } else { s.inp n with lastFall := some u, level := false, history := (u, false) :: (s.inp n).history }) with od := t.od, out := [], chHid := t.chHid, padHid := t.padHid, raised := t.raised })) ∧
  (2 ≤ s.mode → n < 16 → s.g (K.IN_FMT n) ≠ 0 → s.division n = 1 → s.stamp f = u → (raw != s.inInvert n) = l →
    (if l then (s.inp n).lastRise else (s.inp n).lastFall).any (fun z => u < z + 524288) = true →
    Gives (.inputEdge n f raw) s (fun t => Writes s t [(K.IN_DROPPED n, s.g (K.IN_DROPPED n) + 1)] ∧ LoopedBack s t n ∧
    t = { s.setInp n { s.inp n with level := l, drops := u :: (s.inp n).drops } with od := t.od, out := [], padHid := t.padHid })) ∧
  (2 ≤ s.mode → n < 16 → s.g (K.IN_FMT n) ≠ 0 → 1 < s.division n → s.stamp f = u → s.mode ≠ 10 →
    ((s.inp n).presc + 1) % s.division n = 0 → (!(s.inp n).level) = l → l = false →
    (if l then (s.inp n).lastRise else (s.inp n).lastFall).any (fun z => u < z + 524288) = false →
    Gives (.inputEdge n f raw) s (fun t => Writes s t ((K.IN_EDGES n, s.g (K.IN_EDGES n) + 1) :: s.triggerObj n u l) ∧
    Triggered s t n u l ∧ LoopedBack s t n ∧
    t = { s.setInp n (if l then { s.inp n with presc := 0, lastRise := some u, level := true, history := (u, true) :: (s.inp n).history } else { s.inp n with presc := 0, lastFall := some u, level := false, history := (u, false) :: (s.inp n).history }) with od := t.od, out := [], chHid := t.chHid, padHid := t.padHid, raised := t.raised })) ∧
  (2 ≤ s.mode → n < 16 → s.g (K.IN_FMT n) ≠ 0 → 1 < s.division n → s.stamp f = u → ((s.inp n).presc + 1) % s.division n ≠ 0 →
    Gives (.inputEdge n f raw) s (fun t => LoopedBack s t n ∧
    t = { s.setInp n { s.inp n with presc := ((s.inp n).presc + 1) % s.division n } with out := [], padHid := t.padHid })) ∧
  (2 ≤ s.mode → n < 16 → s.g (K.IN_FMT n) ≠ 0 → s.stamp f = u → s.division n = 1 → (raw != s.inInvert n) = true →
    (s.inp n).lastRise.any (fun z => u < z + 524288) = false →
    Gives (.inputEdge n f raw) s (fun t => t.g (K.IN_EDGES n) = s.g (K.IN_EDGES n) + 1 ∧
    t.inp n = { s.inp n with lastRise := some u, level := true, history := (u, true) :: (s.inp n).history } ∧ ButAt t.inp s.inp n ∧
    LoopedBack s t n ∧ t.mode = s.mode ∧ t.tick = s.tick ∧ t.vmem = s.vmem ∧ t.slotBytes = s.slotBytes ∧ t.nvm = s.nvm ∧
    t.clock = s.clock ∧ t.host = s.host ∧ t.coreHid = s.coreHid ∧ t.sqHid = s.sqHid)) ∧
  (2 ≤ s.mode → n < 16 → s.g (K.IN_FMT n) = 0 → Gives (.inputEdge n f raw) s (fun t => LoopedBack s t n ∧
    t = { s with out := [], padHid := t.padHid })) ∧
  ((s.mode = 1 ∨ 16 ≤ n) → s.mode ≠ 0 → Gives (.inputEdge n f raw) s (fun t => t = { s with out := [] })) ∧
  (2 ≤ s.mode → s.mode ≠ 10 → c < 64 → (s.ch c).burst = some b → b.edge = some (a, l) →
    s.coreAt c (if (a + b.delay) / (qFrame : Int) ≤ (s.fn : Int) then s.tick else s.tick + 1) = k → k < 72 →
    (if (a + b.delay) / (qFrame : Int) ≤ (s.fn : Int) then s else s.ahead).edgeTime c k (s.nextVern k) a b.delay = (u : Int) →
    u < (s.fn + 2) * qFrame → (s.atTime u).src c = 2 → b.ts + trigLatency ≤ u → s.frameStart ≤ u → s.placeReason c k u = none →
    s.guarded c u = false →
    Gives (.triggerEdgeIssue c) s (fun t => Writes s t [(K.CH_QUEUE_PEAK k, max (s.g (K.CH_QUEUE_PEAK k)) ((s.core k).queue.length + 1)), (K.CH_NEXT_VERNIER k, 1 - s.nextVern k)] ∧
    (t.core k).queue = insEdge { t := u, ch := c, level := l, vern := s.nextVern k, trig := true } (s.core k).queue ∧
    (t.core k).sentN = (s.core k).sentN ∧ ButAt t.core s.core k ∧
    t.ch c = { s.ch c with burst := some { b with next := b.next + 1 }, hist := u :: (s.ch c).hist.take 1 } ∧ ButAt t.ch s.ch c ∧
    t = { s.setPad c { s.pad c with srcLevel := some l } with od := t.od, out := [], coreHid := t.coreHid, chHid := t.chHid })) ∧
  (2 ≤ s.mode → s.mode ≠ 10 → c < 64 → (s.ch c).burst = some b → b.edge = some (a, l) →
    s.coreAt c (if (a + b.delay) / (qFrame : Int) ≤ (s.fn : Int) then s.tick else s.tick + 1) = k → k < 72 →
    (if (a + b.delay) / (qFrame : Int) ≤ (s.fn : Int) then s else s.ahead).edgeTime c k (s.nextVern k) a b.delay = (u : Int) →
    u < (s.fn + 2) * qFrame → (s.atTime u).src c = 2 → b.ts + trigLatency ≤ u → s.frameStart ≤ u → s.placeReason c k u = none →
    Gives (.triggerEdgeIssue c) s (fun t => (t.core k).queue = insEdge { t := u, ch := c, level := l, vern := s.nextVern k, trig := true } (s.core k).queue ∧
    (∀ z ∈ List.range 72, z ≠ k → t.core z = s.core z) ∧ t.g (K.CH_NEXT_VERNIER k) = 1 - s.nextVern k ∧
    (t.ch c).burst = some { b with next := b.next + 1 } ∧ ButAt t.ch s.ch c ∧
    t = { s with od := t.od, out := [], coreHid := t.coreHid, chHid := t.chHid, padHid := t.padHid, raised := t.raised })) ∧
  (2 ≤ s.mode → s.mode ≠ 10 → c < 64 → (s.ch c).burst = some b → b.edge = some (a, l) →
    s.coreAt c (if (a + b.delay) / (qFrame : Int) ≤ (s.fn : Int) then s.tick else s.tick + 1) = k → k < 72 →
    (if (a + b.delay) / (qFrame : Int) ≤ (s.fn : Int) then s else s.ahead).edgeTime c k (s.nextVern k) a b.delay = (u : Int) →
    u < (s.fn + 2) * qFrame → (s.atTime u).src c = 2 → (u < b.ts + trigLatency ∨ u < s.frameStart) →
    Gives (.triggerEdgeIssue c) s (fun t => Writes s t (s.withheldObj c k 1 u) ∧
    t.ch c = { s.ch c with burst := some { b with next := b.next + 1 } } ∧ ButAt t.ch s.ch c ∧
    t = { (s.setPad c { s.pad c with srcLevel := some l }).raiseBits 37 (2 ^ c) with od := t.od, out := [], chHid := t.chHid })) ∧
  (2 ≤ s.mode → s.mode ≠ 10 → c < 64 → (s.ch c).burst = some b → b.edge = some (a, l) →
    s.coreAt c (if (a + b.delay) / (qFrame : Int) ≤ (s.fn : Int) then s.tick else s.tick + 1) = k → k < 72 →
    (if (a + b.delay) / (qFrame : Int) ≤ (s.fn : Int) then s else s.ahead).edgeTime c k (s.nextVern k) a b.delay = (u : Int) →
    u < (s.fn + 2) * qFrame → (s.atTime u).src c = 2 → b.ts + trigLatency ≤ u → s.frameStart ≤ u → s.placeReason c k u = some 2 →
    Gives (.triggerEdgeIssue c) s (fun t => Writes s t (s.withheldObj c k 2 u) ∧
    t.ch c = { s.ch c with burst := some { b with next := b.next + 1 } } ∧ ButAt t.ch s.ch c ∧
    t = { (s.setPad c { s.pad c with srcLevel := some l }).raiseBits 35 (2 ^ c) with od := t.od, out := [], chHid := t.chHid })) ∧
  (2 ≤ s.mode → s.mode ≠ 10 → c < 64 → (s.ch c).burst = some b → b.edge = some (a, l) →
    s.coreAt c (if (a + b.delay) / (qFrame : Int) ≤ (s.fn : Int) then s.tick else s.tick + 1) = k → k < 72 →
    (if (a + b.delay) / (qFrame : Int) ≤ (s.fn : Int) then s else s.ahead).edgeTime c k (s.nextVern k) a b.delay = (u : Int) →
    u < (s.fn + 2) * qFrame → (s.atTime u).src c = 2 → b.ts + trigLatency ≤ u → s.frameStart ≤ u → s.placeReason c k u = some 3 →
    Gives (.triggerEdgeIssue c) s (fun t => Writes s t (s.withheldObj c k 3 u) ∧
    t.ch c = { s.ch c with burst := some { b with next := b.next + 1 } } ∧ ButAt t.ch s.ch c ∧
    t = { (s.setPad c { s.pad c with srcLevel := some l }).raiseBits 34 (2 ^ c) with od := t.od, out := [], chHid := t.chHid })) ∧
  (2 ≤ s.mode → s.mode ≠ 10 → c < 64 → (s.ch c).burst = some b → b.edge = some (a, l) →
    s.coreAt c (if (a + b.delay) / (qFrame : Int) ≤ (s.fn : Int) then s.tick else s.tick + 1) = k → k < 72 →
    (if (a + b.delay) / (qFrame : Int) ≤ (s.fn : Int) then s else s.ahead).edgeTime c k (s.nextVern k) a b.delay = (u : Int) →
    u < (s.fn + 2) * qFrame → (s.atTime u).src c = 2 → b.ts + trigLatency ≤ u → s.frameStart ≤ u → s.placeReason c k u = some 4 →
    Gives (.triggerEdgeIssue c) s (fun t => Writes s t (s.withheldObj c k 4 u) ∧
    t.ch c = { s.ch c with burst := some { b with next := b.next + 1 } } ∧ ButAt t.ch s.ch c ∧
    t = { (s.setPad c { s.pad c with srcLevel := some l }).raiseBits 36 (2 ^ c) with od := t.od, out := [], chHid := t.chHid })) ∧
  (2 ≤ s.mode → s.mode ≠ 10 → c < 64 → (s.ch c).burst = some b → b.edge = some (a, l) →
    s.coreAt c (if (a + b.delay) / (qFrame : Int) ≤ (s.fn : Int) then s.tick else s.tick + 1) = k → k < 72 →
    (if (a + b.delay) / (qFrame : Int) ≤ (s.fn : Int) then s else s.ahead).edgeTime c k (s.nextVern k) a b.delay = (u : Int) →
    (s.fn + 2) * qFrame ≤ u → Gives (.triggerEdgeIssue c) s (fun t => t = { s with out := [] })) ∧
  (2 ≤ s.mode → s.mode ≠ 10 → c < 64 → (s.ch c).burst = some b → b.edge = some (a, l) →
    s.coreAt c (if (a + b.delay) / (qFrame : Int) ≤ (s.fn : Int) then s.tick else s.tick + 1) = k → k < 72 →
    (if (a + b.delay) / (qFrame : Int) ≤ (s.fn : Int) then s else s.ahead).edgeTime c k (s.nextVern k) a b.delay = (u : Int) →
    u < (s.fn + 2) * qFrame → (s.atTime u).src c ≠ 2 → Gives (.triggerEdgeIssue c) s (fun t => t.ch c = { s.ch c with burst := none } ∧
    ButAt t.ch s.ch c ∧ t = { s with out := [], chHid := t.chHid })) ∧
  (2 ≤ s.mode → (64 ≤ c ∨ s.mode = 10 ∨ (s.ch c).burst = none ∨ (s.ch c).burst.bind (·.edge) = none) →
    Gives (.triggerEdgeIssue c) s (fun t => t = { s with out := [] })) ∧
  (s.mode ≠ 0 → k < 72 → (s.core k).queue = x :: r → frameOf x.t = s.fn → x.ch = c → c < 64 → s.gb (K.PAD_SHUTDOWN c) = false →
    s.overLimit c = false → (s.g (K.PAD_LEVEL c) == 1) ≠ x.level → s.g (K.PAD_FMT c) ≠ 0 →
    Gives (.edgeEmit k) s (fun t => Writes s t ([(K.CH_EDGES c, s.g (K.CH_EDGES c) + 1), (K.PAD_LEVEL c, b2n x.level)] ++ (if 64 ≤ k then [(K.CH_EDGES k, s.g (K.CH_EDGES k) + 1)] else [])) ∧
    t = { (s.setCore k { s.core k with queue := r, sentN := (s.core k).sentN + 1 }).setPad c { s.pad c with carried := true, lastEdge := some s.tick } with od := t.od, out := [.edge k c (if s.coarse then x.t - x.t % qCoarse else x.t) (x.level != (s.gb (K.PAD_INVERT c) != s.gb (K.PAD_AUTO_INVERTED c))) (if s.g (K.PAD_FMT c) = 7 then s.g (K.PAD_N_STATIC c) else if s.g (K.PAD_FMT c) = 8 then 2 else b2n (!(x.level != (s.gb (K.PAD_INVERT c) != s.gb (K.PAD_AUTO_INVERTED c))))) false] })) ∧
  (s.mode ≠ 0 → k < 72 → (s.core k).queue = x :: r → frameOf x.t = s.fn → x.ch = c → c < 64 → s.gb (K.PAD_SHUTDOWN c) = false →
    s.overLimit c = true → s.g (K.CH_POLICY c) ≠ 0 → (s.g (K.PAD_LEVEL c) == 1) ≠ x.level → s.g (K.PAD_FMT c) ≠ 0 →
    Gives (.edgeEmit k) s (fun t => Writes s t ([(K.CH_LAST_FLAG_BOUND c, s.g (K.CH_BOUND c)), (K.CH_LAST_FLAG c, ofTime92 x.t), (K.CH_FLAGGED c, s.g (K.CH_FLAGGED c) + 1), (K.CH_EDGES c, s.g (K.CH_EDGES c) + 1), (K.PAD_LEVEL c, b2n x.level)] ++ (if 64 ≤ k then [(K.CH_LAST_FLAG_BOUND k, s.g (K.CH_BOUND c)), (K.CH_LAST_FLAG k, ofTime92 x.t), (K.CH_FLAGGED k, s.g (K.CH_FLAGGED k) + 1)] else []) ++ (if 64 ≤ k then [(K.CH_EDGES k, s.g (K.CH_EDGES k) + 1)] else [])) ∧
    t = { ((s.setCore k { s.core k with queue := r, sentN := (s.core k).sentN + 1 }).setPad c { s.pad c with carried := true, lastEdge := some s.tick }).raiseBits 33 (2 ^ c) with od := t.od, out := [.edge k c (if s.coarse then x.t - x.t % qCoarse else x.t) (x.level != (s.gb (K.PAD_INVERT c) != s.gb (K.PAD_AUTO_INVERTED c))) (if s.g (K.PAD_FMT c) = 7 then s.g (K.PAD_N_STATIC c) else if s.g (K.PAD_FMT c) = 8 then 2 else b2n (!(x.level != (s.gb (K.PAD_INVERT c) != s.gb (K.PAD_AUTO_INVERTED c))))) true] })) ∧
  (s.mode ≠ 0 → k < 72 → (s.core k).queue = x :: r → frameOf x.t = s.fn → x.ch = c → c < 64 → s.gb (K.PAD_SHUTDOWN c) = false →
    s.overLimit c = false → (s.g (K.PAD_LEVEL c) == 1) ≠ x.level → s.g (K.PAD_FMT c) = 0 →
    Gives (.edgeEmit k) s (fun t => Writes s t ((K.CH_EDGES c, s.g (K.CH_EDGES c) + 1) :: (if 64 ≤ k then [(K.CH_EDGES k, s.g (K.CH_EDGES k) + 1)] else [])) ∧
    t = { (s.setCore k { s.core k with queue := r, sentN := (s.core k).sentN + 1 }).setPad c { s.pad c with carried := true, lastEdge := some s.tick } with od := t.od, out := [] })) ∧
  (s.mode ≠ 0 → k < 72 → (s.core k).queue = x :: r → frameOf x.t = s.fn → x.ch = c → c < 64 → s.gb (K.PAD_SHUTDOWN c) = false →
    (s.overLimit c = false ∨ s.g (K.CH_POLICY c) ≠ 0) → (s.g (K.PAD_LEVEL c) == 1) = x.level →
    Gives (.edgeEmit k) s (fun t => Writes s t (s.withheldObj c k 7 x.t) ∧
    t = { s.setCore k { s.core k with queue := r, sentN := (s.core k).sentN + 1 } with od := t.od, out := [] })) ∧
  (s.mode ≠ 0 → k < 72 → (s.core k).queue = x :: r → frameOf x.t = s.fn → x.ch = c → c < 64 →
    (s.gb (K.PAD_SHUTDOWN c) = true ∨ (s.overLimit c = true ∧ s.g (K.CH_POLICY c) = 0)) →
    Gives (.edgeEmit k) s (fun t => Writes s t (s.withheldObj c k 6 x.t) ∧
    t = { (s.setCore k { s.core k with queue := r, sentN := (s.core k).sentN + 1 }).raiseBits 32 (2 ^ c) with od := t.od, out := [] })) ∧
  (s.mode ≠ 0 → (72 ≤ k ∨ (∀ z ∈ (s.core k).queue.head?, frameOf z.t ≠ s.fn)) → Gives (.edgeEmit k) s (fun t => t = { s with out := [] }))

/-- Sessions open, live and end. OPEN by a requester with OPERATE that holds no session opens the first CLOSED one with the next SESS_GEN,
its owner and lease, nothing staged and its transaction slots at 0; with the nonce of one it holds it answers that one and renews it;
with none CLOSED it answers BUSY. CLOSE and SESS_CLOSE retire the caller's session with nothing staged and free the locks of its owner;
a lease that runs out does so with EV106. RENEW renews, DISCARD and SESS_DISCARD drop what is staged, BUSY while a commit is pending.
After RETIRE_INTERVAL the session is CLOSED. (R522, R525, R526, R527, R528, R529, R543, R544, R554) What the rules leave open in it is
the model's choice: log entries 14, 18, 26, 30. -/
def Obligations.SessionLife : Prop :=
  ∀ (s : State) (w : Who) (k n l : Nat), s.mode ≠ 0 →
  (1 ≤ s.privOf w → (l = 0 ∨ 1000 ≤ l ∧ l ≤ 1000000) → (∀ j ∈ List.range 8, s.sessLive j = true →
    identityParty (s.g (K.SESS_OWNER j)) ≠ identityParty (identityOf w)) →
    (∀ q ∈ List.range 8, s.g (K.SQ_LOCK_OWNER q) = 0 ∨ identityParty (s.g (K.SQ_LOCK_OWNER q)) ≠ identityParty (identityOf w)) →
    (List.range 8).find? (fun j => s.g (K.SESS_STATE j) == 0) = some k →
    Gives (.wopOpen w n l) s (fun t => t.out = [.result RC.ok (k * 256 + (s.g (K.SESS_GEN k) + 1) % 256)] ∧
    Writes s t [(K.SESS_COMMIT_OBJ k, 0), (K.SESS_COMMIT_RESULT k, 0), (K.SESS_COMMIT_FN k, 0), (K.SESS_COMMIT_STATE k, 0), (K.SESS_LEASE k, if l = 0 then 10000 else l), (K.SESS_OWNER k, identityOf w), (K.SESS_GEN k, (s.g (K.SESS_GEN k) + 1) % 256), (K.SESS_STATE k, 1)] ∧
    (∀ j ∈ List.range 64, t.txnOf k j = {}) ∧
    ButThese (fun x => Sp.get (fun _ => ({} : Txn)) t.txns x) (fun x => Sp.get (fun _ => ({} : Txn)) s.txns x) ((List.range 64).map (k * 64 + ·)) ∧
    t = { s.setSess k { nonce := some n, renewed := s.tick } with od := t.od, out := t.out, txns := t.txns })) ∧
  (1 ≤ s.privOf w →
    (List.range 8).find? (fun j => s.sessLive j && s.g (K.SESS_OWNER j) == identityOf w && (s.sessOf j).nonce == some n) = some k →
    Gives (.wopOpen w n l) s (fun t => t = { s.setSess k { s.sessOf k with renewed := s.tick } with out := [.result RC.ok (k * 256 + s.g (K.SESS_GEN k))] })) ∧
  (1 ≤ s.privOf w → (l = 0 ∨ 1000 ≤ l ∧ l ≤ 1000000) → (∀ j ∈ List.range 8, s.sessLive j = true →
    identityParty (s.g (K.SESS_OWNER j)) ≠ identityParty (identityOf w)) →
    (∀ q ∈ List.range 8, s.g (K.SQ_LOCK_OWNER q) = 0 ∨ identityParty (s.g (K.SQ_LOCK_OWNER q)) ≠ identityParty (identityOf w)) →
    (∀ j ∈ List.range 8, s.g (K.SESS_STATE j) ≠ 0) → Gives (.wopOpen w n l) s (fun t => t = { s with out := [.result RC.busy 0] })) ∧
  (s.bootRom = false → 1 ≤ s.privOf w → s.sessRefusal w k = 0 → Gives (.sessClose w k) s (fun t => t.out = [.result RC.ok 0] ∧
    WritesBut s t (fun j => (List.range 8).any (fun q => j == K.SQ_LOCK_OWNER q)) (recordOf s w (K.SESS_CLOSE k) 0 RC.ok 0 ++ [(K.SESS_LAST_BREAK k, 4), (K.SESS_STATE k, 3)]) ∧
    (∀ q ∈ List.range 8, t.g (K.SQ_LOCK_OWNER q) = if s.g (K.SQ_LOCK_OWNER q) = identityOf w then 0 else s.g (K.SQ_LOCK_OWNER q)) ∧
    EventsBut s t [52] ∧
    t = { s.setSess k { s.sessOf k with staged := [], nonce := none, retire := s.tick + s.retireFrames } with od := t.od, out := t.out, raised := t.raised, barHold := if s.g K.BAR0_SESSION = k then none else s.barHold })) ∧
  (s.sessRefusal w k = 0 → Gives (.wopClose w k) s (fun t => t.out = [.result RC.ok 0] ∧
    WritesBut s t (fun j => (List.range 8).any (fun q => j == K.SQ_LOCK_OWNER q)) [(K.SESS_LAST_BREAK k, 4), (K.SESS_STATE k, 3)] ∧
    (∀ q ∈ List.range 8, t.g (K.SQ_LOCK_OWNER q) = if s.g (K.SQ_LOCK_OWNER q) = identityOf w then 0 else s.g (K.SQ_LOCK_OWNER q)) ∧
    EventsBut s t [52] ∧
    t.sessOf k = { s.sessOf k with staged := [], nonce := none, retire := s.tick + s.retireFrames, renewed := s.tick } ∧
    ButAt t.sessOf s.sessOf k ∧
    t = { s with od := t.od, out := t.out, raised := t.raised, sess := t.sess, barHold := if s.g K.BAR0_SESSION = k then none else s.barHold })) ∧
  (s.sessRefusal w k ≠ 0 → k ≠ 255 → Gives (.wopClose w k) s (fun t => t = { s with out := [.result (s.sessRefusal w k) 0] })) ∧
  (s.leaseOver k = true → (∀ q ∈ List.range 8, s.g (K.SQ_LOCK_OWNER q) = 0 ∨ s.g (K.SQ_LOCK_OWNER q) ≠ s.g (K.SESS_OWNER k)) →
    Gives (.sessionLeaseExpiry k) s (fun t => Writes s t [(K.SESS_LAST_BREAK k, 1), (K.SESS_STATE k, 3)] ∧
    t = { (s.setSess k { s.sessOf k with staged := [], nonce := none, retire := s.tick + s.retireFrames }).raiseVal 106 (Config.causeWord 106 k 1) with od := t.od, out := [], barHold := if s.g K.BAR0_SESSION = k then none else s.barHold })) ∧
  (s.leaseOver k = false → Gives (.sessionLeaseExpiry k) s (fun t => t = { s with out := [] })) ∧
  (k < 8 → s.g (K.SESS_STATE k) = 3 → (s.sessOf k).retire ≤ s.tick →
    Gives (.sessionRetireExpiry k) s (fun t => Writes s t [(K.SESS_STATE k, 0)] ∧ t = { s with od := t.od, out := [] })) ∧
  (s.sessRefusal w k = 0 → Gives (.wopRenew w k) s (fun t => t.sessOf k = { s.sessOf k with renewed := s.tick } ∧
    ButAt t.sessOf s.sessOf k ∧ t = { s with out := [.result RC.ok 0], sess := t.sess })) ∧
  (s.sessRefusal w k = 0 →
    Gives (.wopDiscard w k) s (fun t => t.sessOf k = { s.sessOf k with renewed := s.tick, staged := if s.g (K.SESS_STATE k) = 2 then (s.sessOf k).staged else [] } ∧
    ButAt t.sessOf s.sessOf k ∧
    t = { s with out := [.result (if s.g (K.SESS_STATE k) = 2 then RC.busy else RC.ok) 0], sess := t.sess })) ∧
  (s.bootRom = false → 1 ≤ s.privOf w → k < 8 → s.sessRefusal w k = 0 →
    Gives (.sessDiscard w k) s (fun t => Answers s t w (K.SESS_DISCARD k) 0 (if s.g (K.SESS_STATE k) = 2 then RC.busy else RC.ok) 0 [] ∧
    t.sessOf k = { s.sessOf k with renewed := s.tick, staged := if s.g (K.SESS_STATE k) = 2 then (s.sessOf k).staged else [] } ∧
    ButAt t.sessOf s.sessOf k ∧ t = { s with od := t.od, out := t.out, sess := t.sess })) ∧
  (s.bootRom = false → 1 ≤ s.privOf w → k < 8 → s.sessRefusal w k ≠ 0 →
    Gives (.sessDiscard w k) s (fun t => Answers s t w (K.SESS_DISCARD k) 0 (s.sessRefusal w k) 0 [] ∧
    t = { s with od := t.od, out := t.out }))

/-- A session's values are committed. SESS_COMMIT or COMMIT of the caller's OPEN session, whose checks find nothing, for a frame from the
first possible to the reach, answers ACCEPTED with the frame as VALUE; the session is PENDING and the commit waits. Checks that find an
object refuse it with the code and the object and EV107; a frame too early answers HORIZON with the first possible. The check of a
commit that finds nothing makes it final with its values; one that finds something refuses the commit, with EV107, and the session is
OPEN again. Applied, a final commit of any values answers OK in the session's objects, counts, and leaves the session OPEN with nothing
staged; values of the Steady Rest are then what its objects read, and nothing else changes. A session without a commit that is due is
left as it is. (R146, R530, R531, R532) What the rules leave open in it is the model's choice: log entries 14, 31, 32, 87, 98, 103. -/
def Obligations.Commits : Prop :=
  ∀ (s u b : State) (w : Who) (k fn n due : Nat) (own vals : List (Nat × Nat)) (f : Nat × Nat) (c : Commit), s.mode ≠ 0 →
  (s.bootRom = false → 2 ≤ s.privOf w → k < 8 → s.sessRefusal w k = 0 → s.g (K.SESS_STATE k) = 1 → u = s.noOut.renewSess k →
    own = (s.sessOf k).staged →
    n = s.tick + 3 + (if timingCommit own then (List.range 8).foldl (fun m q => max m (s.largestLead q)) 0 else 0) →
    due = (if fn = 0 then n else s.tick + (fn - s.fn)) → b = u.under false due → vals = u.fullValues b own due →
    firstFail (u.commitFails b own vals due) = none → n ≤ due → due ≤ s.tick + 33554432 →
    Gives (.sessCommit w k fn) s (fun t => Answers s t w (K.SESS_COMMIT k) fn RC.accepted (s.fnAt due) [(K.SESS_COMMIT_FN k, s.fnAt due), (K.SESS_COMMIT_OBJ k, 0), (K.SESS_COMMIT_RESULT k, RC.accepted), (K.SESS_COMMIT_STATE k, 1), (K.SESS_STATE k, 2)] ∧
    t = { u with od := t.od, out := t.out, commits := s.commits ++ [{ sess := k, due := due, check := if timingCommit own then due - 2 - (n - (s.tick + 3)) else due - 1, final := false, vals := vals, own := own.length, gen := s.g (K.SESS_GEN k) }] })) ∧
  (s.sessRefusal w k = 0 → 2 ≤ s.privOf w → s.g (K.SESS_STATE k) = 1 → u = (s.noOut.renewSess k).renewSess k →
    own = (s.sessOf k).staged →
    n = s.tick + 3 + (if timingCommit own then (List.range 8).foldl (fun m q => max m (s.largestLead q)) 0 else 0) →
    due = (if fn = 0 then n else s.tick + (fn - s.fn)) → b = u.under false due → vals = u.fullValues b own due →
    firstFail (u.commitFails b own vals due) = none → n ≤ due → due ≤ s.tick + 33554432 →
    Gives (.wopCommit w k fn) s (fun t => Writes s t [(K.SESS_COMMIT_FN k, s.fnAt due), (K.SESS_COMMIT_OBJ k, 0), (K.SESS_COMMIT_RESULT k, RC.accepted), (K.SESS_COMMIT_STATE k, 1), (K.SESS_STATE k, 2)] ∧
    t = { u with od := t.od, out := [.result RC.accepted (s.fnAt due)], commits := s.commits ++ [{ sess := k, due := due, check := if timingCommit own then due - 2 - (n - (s.tick + 3)) else due - 1, final := false, vals := vals, own := own.length, gen := s.g (K.SESS_GEN k) }] })) ∧
  (s.bootRom = false → 2 ≤ s.privOf w → k < 8 → s.sessRefusal w k = 0 → s.g (K.SESS_STATE k) = 1 → u = s.noOut.renewSess k →
    own = (s.sessOf k).staged → timingCommit own = false → due = (if fn = 0 then s.tick + 3 else s.tick + (fn - s.fn)) →
    b = u.under false due → vals = u.fullValues b own due → firstFail (u.commitFails b own vals due) = some f →
    u.placeRefuses b vals due f = false → f.2 ≠ RC.active →
    Gives (.sessCommit w k fn) s (fun t => Answers s t w (K.SESS_COMMIT k) fn f.2 (s.fnAt (s.tick + 3)) [(K.SESS_COMMIT_FN k, s.fnAt (s.tick + 3)), (K.SESS_COMMIT_OBJ k, f.1 / 65536), (K.SESS_COMMIT_RESULT k, f.2), (K.SESS_COMMIT_STATE k, 3)] ∧
    t = { u.raiseVal 107 (Config.causeWord 107 k f.2) with od := t.od, out := t.out })) ∧
  (s.bootRom = false → 2 ≤ s.privOf w → k < 8 → s.sessRefusal w k = 0 → s.g (K.SESS_STATE k) = 1 → u = s.noOut.renewSess k →
    own = (s.sessOf k).staged → timingCommit own = false → fn ≠ 0 → fn < s.fn + 3 → due = s.tick + (fn - s.fn) → b = u.under false due →
    vals = u.fullValues b own due → firstFail (u.commitFails b own vals due) = none →
    Gives (.sessCommit w k fn) s (fun t => Answers s t w (K.SESS_COMMIT k) fn RC.horizon (s.fnAt (s.tick + 3)) [(K.SESS_COMMIT_FN k, s.fnAt (s.tick + 3)), (K.SESS_COMMIT_OBJ k, 0), (K.SESS_COMMIT_RESULT k, RC.horizon), (K.SESS_COMMIT_STATE k, 3)] ∧
    t = { u.raiseVal 107 (Config.causeWord 107 k RC.horizon) with od := t.od, out := t.out })) ∧
  (s.bootRom = false → 2 ≤ s.privOf w → k < 8 → s.sessRefusal w k = 0 → s.g (K.SESS_STATE k) = 2 →
    Gives (.sessCommit w k fn) s (fun t => Answers s t w (K.SESS_COMMIT k) fn RC.busy 0 [] ∧
    t = { s.setSess k { s.sessOf k with renewed := s.tick } with od := t.od, out := t.out })) ∧
  (u = s.noOut → u.checksDue.find? (fun x => x.sess == k) = some c → b = u.under true c.due →
    vals = u.fullValues b (c.vals.take c.own) c.due → firstFail (u.commitFails b (c.vals.take c.own) vals c.due) = none →
    Gives (.sessionCommitCheck k) s (fun t => t = { s with out := [], commits := s.commits.map (fun d => if d = c then { c with final := true, vals := vals } else d) })) ∧
  ((s.commits.filter (fun x => x.final && x.due ≤ s.tick)).find? (fun x => x.sess == k) = some c → k < 8 → c.gen = s.g (K.SESS_GEN k) →
    s.g (K.SESS_STATE k) = 2 → (∀ x ∈ c.vals, keyIndex x.1 = 0x3800) → (c.vals.map (·.1)).Nodup →
    Gives (.sessionCommitApply k) s (fun t => Writes s t ([(K.SESS_STATE k, 1), (K.SESS_COMMITS k, s.g (K.SESS_COMMITS k) + 1), (K.SESS_COMMIT_RESULT k, RC.ok), (K.SESS_COMMIT_STATE k, 2)] ++ c.vals) ∧
    t = { s.setSess k { s.sessOf k with staged := [] } with od := t.od, out := [], commits := s.commits.erase c })) ∧
  ((s.commits.filter (fun x => x.final && x.due ≤ s.tick)).find? (fun x => x.sess == k) = some c → k < 8 → c.gen = s.g (K.SESS_GEN k) →
    s.g (K.SESS_STATE k) = 2 → Gives (.sessionCommitApply k) s (fun t => t.g (K.SESS_COMMITS k) = s.g (K.SESS_COMMITS k) + 1 ∧
    t.g (K.SESS_COMMIT_RESULT k) = RC.ok ∧ t.g (K.SESS_COMMIT_STATE k) = 2 ∧ (t.g (K.SESS_STATE k) = 1 ∨ t.g (K.SESS_STATE k) = 3) ∧
    (t.sessOf k).staged = [] ∧ (∀ x ∈ t.commits, x ∈ s.commits.erase c) ∧ t.tick = s.tick ∧ t.mode = s.mode ∧ t.vmem = s.vmem ∧
    t.slotBytes = s.slotBytes)) ∧
  ((s.commits.filter (fun x => x.final && x.due ≤ s.tick)).find? (fun x => x.sess == k) = none →
    Gives (.sessionCommitApply k) s (fun t => t = { s with out := [] })) ∧
  (u = s.noOut → u.checksDue.find? (fun x => x.sess == k) = some c → k < 8 → b = u.under true c.due →
    vals = u.fullValues b (c.vals.take c.own) c.due → firstFail (u.commitFails b (c.vals.take c.own) vals c.due) = some f →
    u.placeRefuses b vals c.due f = false → f.2 ≠ RC.active → c.gen = s.g (K.SESS_GEN k) → s.g (K.SESS_STATE k) = 2 →
    Gives (.sessionCommitCheck k) s (fun t => Writes s t [(K.SESS_STATE k, 1), (K.SESS_COMMIT_OBJ k, f.1 / 65536), (K.SESS_COMMIT_RESULT k, f.2), (K.SESS_COMMIT_STATE k, 3)] ∧
    t = { s.raiseVal 107 (Config.causeWord 107 k f.2) with od := t.od, out := [], commits := s.commits.erase c })) ∧
  (s.checksDue.find? (fun x => x.sess == k) = none → Gives (.sessionCommitCheck k) s (fun t => t = { s with out := [] }))

/-- The dictionary over BAR0. OBJECT_WRITE of an RWS object stages its value in the BAR0 session, of a read-only one answers ACCESS, without
a session NO_SESSION; every write leaves its result, address and count in BAR0_RESULT. Of a wide object the upper word is held, and the
lower word writes both, MALFORMED without the upper one; a read of the lower word latches the upper. BAR0_SESSION takes a session;
BAR0_OPEN opens one and names it; TBL_SEL latches the row it names in TBL_WORD, and TBL_PUT stages TBL_WORD as that row. (R55, R517,
R522, R525, R527, R529, R536, R537, R538, R540) What the rules leave open in it is the model's choice: log entries 22, 24, 139. -/
def Obligations.Bar0 : Prop :=
  ∀ (s u : State) (idx sub off len v k j h x r y : Nat) (d : ObjDef), s.mode ≠ 0 →
  (s.bar0Live = true → off % 8 = 0 → len = 8 → opKey (off / 2048) (off / 8) = k → k ≠ K.BAR0_OPEN → k ≠ K.BAR0_SESSION →
    upperOf k = false → wideAt k = false → s.writeTarget k = .ok d →
    (d.ty = .u8 ∨ d.ty = .u32 ∨ d.ty = .u64 ∨ d.ty = .bool ∨ d.ty = .i64 ∨ d.ty = .dur64 ∨ d.ty = .u16) → d.acc = .rws →
    fitValue k d.ty (v % 2 ^ 64) = .ok x → j = s.g K.BAR0_SESSION → s.g (K.SESS_STATE j) = 1 → (s.sessOf j).staged.length < 8192 →
    Gives (.objectWrite off len v) s (fun t => Writes s t [(K.BAR0_RESULT, keyIndex k * 2 ^ 40 + keySub k * 2 ^ 32 + (s.g K.BAR0_RESULT + 1) % 2 ^ 32)] ∧
    t.sessOf j = { s.sessOf j with renewed := s.tick, staged := stageIn (s.sessOf j).staged (atRow k 0) x } ∧ ButAt t.sessOf s.sessOf j ∧
    t = { s with od := t.od, out := [.result RC.ok 0], sess := t.sess, barHold := none })) ∧
  (s.bar0Live = false → off % 8 = 0 → len = 8 → opKey (off / 2048) (off / 8) = k → k ≠ K.BAR0_OPEN → k ≠ K.BAR0_SESSION →
    Gives (.objectWrite off len v) s (fun t => Writes s t [(K.BAR0_RESULT, 24 * 2 ^ 56 + keyIndex k * 2 ^ 40 + keySub k * 2 ^ 32 + (s.g K.BAR0_RESULT + 1) % 2 ^ 32)] ∧
    t = { s with od := t.od, out := [.result RC.noSession 0], barHold := none })) ∧
  (s.bar0Live = true → off % 8 = 0 → len = 8 → opKey (off / 2048) (off / 8) = k → k ≠ K.BAR0_OPEN → k ≠ K.BAR0_SESSION →
    upperOf k = false → wideAt k = false → s.bootRom = false → keyIndex k < 0xF000 → keySub k ≠ 0 →
    objAt (keyIndex k) (keySub k) = some d → d.acc = .ro →
    Gives (.objectWrite off len v) s (fun t => Writes s t [(K.BAR0_RESULT, 4 * 2 ^ 56 + keyIndex k * 2 ^ 40 + keySub k * 2 ^ 32 + (s.g K.BAR0_RESULT + 1) % 2 ^ 32)] ∧
    t = { s.setSess (s.g K.BAR0_SESSION) { s.sessOf (s.g K.BAR0_SESSION) with renewed := s.tick } with od := t.od, out := [.result RC.access 0], barHold := none })) ∧
  ((len ≠ 8 ∨ off % 8 ≠ 0) → opKey (off / 2048) (off / 8) = k →
    Gives (.objectWrite off len v) s (fun t => Writes s t [(K.BAR0_RESULT, 3 * 2 ^ 56 + keyIndex k * 2 ^ 40 + keySub k * 2 ^ 32 + (s.g K.BAR0_RESULT + 1) % 2 ^ 32)] ∧
    t.out = [.result RC.malformed 0] ∧ t.barHold = none ∧ t = { s.noOut.bar0Renew with od := t.od, out := t.out, barHold := none })) ∧
  (s.bar0Live = true → off % 8 = 0 → len = 8 → opKey (off / 2048) (off / 8) = k → keyIndex k = 0x2001 → k ≠ K.TBL_SEL →
    upperOf k = false → wideAt k = false → s.writeTarget k = .ok d →
    (d.ty = .u8 ∨ d.ty = .u32 ∨ d.ty = .u64 ∨ d.ty = .bool ∨ d.ty = .u16) → d.acc = .rw → fitValue k d.ty (v % 2 ^ 64) = .ok x →
    writeNeed k d.acc ≤ s.privOf s.bar0Me →
    Gives (.objectWrite off len v) s (fun t => Writes s t [(K.BAR0_RESULT, keyIndex k * 2 ^ 40 + keySub k * 2 ^ 32 + (s.g K.BAR0_RESULT + 1) % 2 ^ 32), (k, x)] ∧
    t = { s.setSess (s.g K.BAR0_SESSION) { s.sessOf (s.g K.BAR0_SESSION) with renewed := s.tick } with od := t.od, out := [.result RC.ok 0], barHold := none })) ∧
  (u = s.noOut.bar0Renew → opKey idx sub = k → wideAt k = true → objAt (keyIndex k) (keySub k) = some d → d.ty = .time92 →
    u.readWord k = (RC.ok, x) →
    Gives (.bar0Time92ReadLow idx sub) s (fun t => t = { u with out := [.result RC.ok (x % 2 ^ 64)], barLatch := some (k, x / 2 ^ 64) })) ∧
  (u = s.noOut.bar0Renew → opKey idx sub = k + 65536 → upperOf (k + 65536) = true → u.readWide k = (RC.ok, x) →
    s.barLatch = some (k, h) → Gives (.bar0Time92ReadLow idx sub) s (fun t => t = { u with out := [.result RC.ok h] })) ∧
  (u = s.noOut.bar0Renew → opKey idx sub = k + 65536 → upperOf (k + 65536) = true → u.readWide k = (RC.ok, x) →
    (∀ z ∈ s.barLatch, z.1 ≠ k) → Gives (.bar0Time92ReadLow idx sub) s (fun t => t = { u with out := [.result RC.ok (x / 2 ^ 64)] })) ∧
  (u = s.noOut.bar0Renew → opKey idx sub = k → upperOf k = false → wideAt k = false →
    Gives (.bar0Time92ReadLow idx sub) s (fun t => t = { u with out := [.result (u.readWide k).1 ((u.readWide k).2 % 2 ^ 64)] })) ∧
  (s.bar0Live = true → opKey idx (sub + 1) = k + 65536 → k + 65536 ≠ K.BAR0_OPEN → k + 65536 ≠ K.BAR0_SESSION →
    upperOf (k + 65536) = true → s.writeTarget k = .ok d →
    Gives (.bar0Time92WriteHigh idx sub v) s (fun t => Writes s t [(K.BAR0_RESULT, keyIndex (k + 65536) * 2 ^ 40 + keySub (k + 65536) * 2 ^ 32 + (s.g K.BAR0_RESULT + 1) % 2 ^ 32)] ∧
    t = { s.setSess (s.g K.BAR0_SESSION) { s.sessOf (s.g K.BAR0_SESSION) with renewed := s.tick } with od := t.od, out := [.result RC.ok 0], barHold := some (k, v % 2 ^ 64) })) ∧
  (s.bar0Live = true → opKey idx sub = k → k ≠ K.BAR0_OPEN → k ≠ K.BAR0_SESSION → upperOf k = false → wideAt k = true →
    s.writeTarget k = .ok d → d.ty = .time92 → d.acc = .rws → s.barHold = some (k, h) →
    fitValue k .time92 (h * 2 ^ 64 + v % 2 ^ 64) = .ok x → j = s.g K.BAR0_SESSION → s.g (K.SESS_STATE j) = 1 →
    (s.sessOf j).staged.length < 8192 →
    Gives (.bar0Time92WriteLow idx sub v) s (fun t => Writes s t [(K.BAR0_RESULT, keyIndex k * 2 ^ 40 + keySub k * 2 ^ 32 + (s.g K.BAR0_RESULT + 1) % 2 ^ 32)] ∧
    t.sessOf j = { s.sessOf j with renewed := s.tick, staged := stageIn (s.sessOf j).staged (atRow k 0) x } ∧ ButAt t.sessOf s.sessOf j ∧
    t = { s with od := t.od, out := [.result RC.ok 0], sess := t.sess, barHold := none })) ∧
  (s.bar0Live = true → opKey idx sub = k → k ≠ K.BAR0_OPEN → k ≠ K.BAR0_SESSION → upperOf k = false → wideAt k = true →
    s.writeTarget k = .ok d → s.barHold = none →
    Gives (.bar0Time92WriteLow idx sub v) s (fun t => Writes s t [(K.BAR0_RESULT, 3 * 2 ^ 56 + keyIndex k * 2 ^ 40 + keySub k * 2 ^ 32 + (s.g K.BAR0_RESULT + 1) % 2 ^ 32)] ∧
    t = { s.setSess (s.g K.BAR0_SESSION) { s.sessOf (s.g K.BAR0_SESSION) with renewed := s.tick } with od := t.od, out := [.result RC.malformed 0] })) ∧
  (s.bootRom = false → u = s.noOut.bar0Renew → (v ≤ 7 ∨ v = 255) →
    Gives (.bar0SessionWrite v) s (fun t => Writes s t [(K.BAR0_RESULT, keyIndex K.BAR0_SESSION * 2 ^ 40 + keySub K.BAR0_SESSION * 2 ^ 32 + (s.g K.BAR0_RESULT + 1) % 2 ^ 32), (K.BAR0_SESSION, v)] ∧
    t = { u with od := t.od, out := [.result RC.ok 0], barHold := none })) ∧
  (s.bootRom = false → s.bar0Live = false → v < 2 ^ 64 → v % 2 ^ 32 = h → (h = 0 ∨ 1000 ≤ h ∧ h ≤ 1000000) →
    identityOf (bar0Who (v / 2 ^ 32)) = x → (∀ j ∈ List.range 8, s.sessLive j = true →
    identityParty (s.g (K.SESS_OWNER j)) ≠ identityParty x) →
    (∀ q ∈ List.range 8, s.g (K.SQ_LOCK_OWNER q) = 0 ∨ identityParty (s.g (K.SQ_LOCK_OWNER q)) ≠ identityParty x) →
    (List.range 8).find? (fun j => s.g (K.SESS_STATE j) == 0) = some k → Gives (.bar0Open v) s (fun t => t.out = [.result RC.ok k] ∧
    Writes s t ([(K.BAR0_RESULT, keyIndex K.BAR0_OPEN * 2 ^ 40 + keySub K.BAR0_OPEN * 2 ^ 32 + (s.g K.BAR0_RESULT + 1) % 2 ^ 32)] ++ recordOf s (bar0Who (v / 2 ^ 32)) K.BAR0_OPEN v RC.ok k ++ [(K.BAR0_SESSION, k), (K.SESS_COMMIT_OBJ k, 0), (K.SESS_COMMIT_RESULT k, 0), (K.SESS_COMMIT_FN k, 0), (K.SESS_COMMIT_STATE k, 0), (K.SESS_LEASE k, if h = 0 then 10000 else h), (K.SESS_OWNER k, x), (K.SESS_GEN k, (s.g (K.SESS_GEN k) + 1) % 256), (K.SESS_STATE k, 1)]) ∧
    (∀ j ∈ List.range 64, t.txnOf k j = {}) ∧
    t = { s.setSess k { renewed := s.tick } with od := t.od, out := t.out, txns := t.txns, barHold := none })) ∧
  (s.bootRom = false → s.bar0Live = true → u = { s.noOut.bar0Renew with barHold := none } → v < 2 ^ 64 → x = clearFields v [(63, 56)] →
    r = u.selected16 x →
    Gives (.tblSelWrite v) s (fun t => Writes s t ([(K.BAR0_RESULT, keyIndex K.TBL_SEL * 2 ^ 40 + keySub K.TBL_SEL * 2 ^ 32 + (s.g K.BAR0_RESULT + 1) % 2 ^ 32)] ++ (List.range 16).map (fun i => (K.TBL_WORD i, r / 2 ^ (64 * i) % 2 ^ 64)) ++ [(K.TBL_SEL, x)]) ∧
    t = { u with od := t.od, out := [.result RC.ok 0] })) ∧
  (s.bootRom = false → s.bar0Live = true → selObj (s.g K.TBL_SEL) = k → selRow (s.g K.TBL_SEL) = r → s.writeTarget k = .ok d →
    objAt (keyIndex k) (keySub k) = some d → d.ty = .tbl h y → d.acc = .rws → r < h → fitValue k d.ty (s.portRow % 2 ^ (8 * y)) = .ok x →
    j = s.g K.BAR0_SESSION → s.g (K.SESS_STATE j) = 1 → (s.sessOf j).staged.length < 8192 →
    Gives .tblPut s (fun t => t.out = [.result RC.ok 0] ∧
    Writes s t ([(K.BAR0_RESULT, keyIndex K.TBL_PUT * 2 ^ 40 + keySub K.TBL_PUT * 2 ^ 32 + (s.g K.BAR0_RESULT + 1) % 2 ^ 32)] ++ recordOf s s.bar0Me K.TBL_PUT 0 RC.ok 0) ∧
    t.sessOf j = { s.sessOf j with renewed := s.tick, staged := stageIn (s.sessOf j).staged (atRow k r) x } ∧ ButAt t.sessOf s.sessOf j ∧
    t = { s with od := t.od, out := t.out, sess := t.sess, barHold := none }))

/-- The dictionary over WOP and SMBus. A read of an object, row or bytes, in no session or in the caller's, which it renews, answers what
the dictionary holds there and changes nothing else; with STAGED, the caller's staged value. A write of an RWS object or row stages its
value in the caller's session. A message of the current generation of its transaction is answered with the response held; of the next,
its operations run in order and the response is held; of any other, or of another SESS_GEN, it is discarded and counted; another's
session answers OWNER, a closed one NO_SESSION, a slot sent from too recently QUARANTINE, one of no session with an operation that needs
one, or that cannot be read, MALFORMED. SMB_SELECT takes an address, SMB_READ answers what SMBus finds there, ACCESS with none selected.
(R517, R522, R529, R533, R541, R543, R544, R545, R547) What the rules leave open in it is the model's choice: log entries 23, 24, 25,
28, 87, 135, 136, 137. -/
def Obligations.WopOperations : Prop :=
  ∀ (s u b : State) (w : Who) (k idx sub row off cnt v a x : Nat) (y : Nat × Nat) (d : ObjDef) (m : WopMsg) (l : List OpResp) (bs : List Byte), s.mode ≠ 0 →
  ((k = 255 ∨ s.sessRefusal w k = 0) → u = (if k = 255 then s.noOut else s.noOut.renewSess k) →
    Gives (.wopRead w k idx sub false) s (fun t => t = { u with out := [.result (u.readWop (opKey idx sub)).1 (u.readWop (opKey idx sub)).2.2] })) ∧
  (s.sessRefusal w k = 0 → k ≠ 255 → opKey idx sub = a → (s.sessOf k).staged.find? (fun z => z.1 == a) = some y →
    objAt (keyIndex a) (keySub a) = some d →
    Gives (.wopRead w k idx sub true) s (fun t => t = { s.setSess k { s.sessOf k with renewed := s.tick } with out := [.result RC.ok y.2] })) ∧
  ((k = 255 ∨ s.sessRefusal w k = 0) → u = (if k = 255 then s.noOut else s.noOut.renewSess k) →
    Gives (.wopReadRow w k idx sub row) s (fun t => t = { u with out := [.result (u.readRow (opKey idx sub) row).1 (u.readRow (opKey idx sub) row).2.2] })) ∧
  ((k = 255 ∨ s.sessRefusal w k = 0) → u = (if k = 255 then s.noOut else s.noOut.renewSess k) →
    Gives (.wopReadBytes w k idx sub off cnt) s (fun t => t = { u with out := [.result (u.readBytes (opKey idx sub) off cnt).1 (u.readBytes (opKey idx sub) off cnt).2.2] })) ∧
  (s.sessRefusal w k ≠ 0 → k ≠ 255 →
    Gives (.wopRead w k idx sub false) s (fun t => t = { s with out := [.result (s.sessRefusal w k) 0] })) ∧
  (s.sessRefusal w k = 0 → s.g (K.SESS_STATE k) = 1 → opKey idx sub = a → s.writeTarget a = .ok d →
    (d.ty = .u8 ∨ d.ty = .u32 ∨ d.ty = .u64 ∨ d.ty = .bool ∨ d.ty = .i64 ∨ d.ty = .dur64 ∨ d.ty = .u16 ∨ d.ty = .time92) → d.acc = .rws →
    objAt (keyIndex a) (keySub a) = some d → writeNeed a .rws ≤ s.privOf w → fitValue a d.ty v = .ok x →
    (s.sessOf k).staged.length < 8192 →
    Gives (.wopWrite w k idx sub v) s (fun t => t.sessOf k = { s.sessOf k with renewed := s.tick, staged := stageIn (s.sessOf k).staged (atRow a 0) x } ∧
    ButAt t.sessOf s.sessOf k ∧ t = { s with out := [.result RC.ok 0], sess := t.sess })) ∧
  (s.sessRefusal w k = 0 → s.g (K.SESS_STATE k) = 1 → opKey idx sub = a → s.writeTarget a = .ok d → d.ty = .tbl off cnt → row < off →
    d.acc = .rws → writeNeed a .rws ≤ s.privOf w → fitValue a d.ty v = .ok x → (s.sessOf k).staged.length < 8192 →
    Gives (.wopWriteRow w k idx sub row v) s (fun t => t.sessOf k = { s.sessOf k with renewed := s.tick, staged := stageIn (s.sessOf k).staged (atRow a row) x } ∧
    ButAt t.sessOf s.sessOf k ∧ t = { s with out := [.result RC.ok 0], sess := t.sess })) ∧
  (16 ≤ bs.length → readMsg bs = some m → bootEpochOf bs = w.bootEpoch → k = m.session → k < 8 → s.g (K.SESS_OWNER k) = identityOf w →
    (m.sessGen ≠ s.g (K.SESS_GEN k) ∨ m.txnGen ≠ (s.txnOf k (m.txn % 64)).gen ∧ m.txnGen ≠ ((s.txnOf k (m.txn % 64)).gen + 1) % 256) →
    Gives (.wopMessage w bs) s (fun t => Writes s t [(K.SESS_STALE k, s.g (K.SESS_STALE k) + 1)] ∧
    t = { s with od := t.od, out := [] })) ∧
  (16 ≤ bs.length → readMsg bs = some m → bootEpochOf bs = w.bootEpoch → k = m.session → s.sessLive k = true →
    s.g (K.SESS_OWNER k) = identityOf w → m.sessGen = s.g (K.SESS_GEN k) → m.txnGen = (s.txnOf k (m.txn % 64)).gen →
    Gives (.wopMessage w bs) s (fun t => t = { (s.setSess k { s.sessOf k with renewed := s.tick }).setTxn k (m.txn % 64) { s.txnOf k (m.txn % 64) with sent := some s.tick } with out := [.wop w (s.txnOf k (m.txn % 64)).resp (respBytes m w.bootEpoch (s.txnOf k (m.txn % 64)).resp)] })) ∧
  (16 ≤ bs.length → readMsg bs = some m → bootEpochOf bs = w.bootEpoch → k = m.session → s.sessLive k = true →
    s.g (K.SESS_OWNER k) = identityOf w → m.sessGen = s.g (K.SESS_GEN k) → m.txnGen = ((s.txnOf k (m.txn % 64)).gen + 1) % 256 →
    m.txnGen ≠ (s.txnOf k (m.txn % 64)).gen → (s.txnOf k (m.txn % 64)).sent.any (fun z => decide (s.tick < z + s.retireFrames)) = false →
    u = s.noOut.renewSess k → runOps w k m.stopOnError m.ops false u = (l, b) →
    Gives (.wopMessage w bs) s (fun t => t = { b.setTxn k (m.txn % 64) { gen := m.txnGen, sent := some s.tick, resp := { answerTo m RC.ok with ops := l } } with pending := s.pending, out := b.out ++ [.wop w { answerTo m RC.ok with ops := l } (respBytes m w.bootEpoch { answerTo m RC.ok with ops := l })] })) ∧
  (16 ≤ bs.length → readMsg bs = some m → bootEpochOf bs = w.bootEpoch → k = m.session → k < 8 → s.g (K.SESS_OWNER k) ≠ identityOf w →
    Gives (.wopMessage w bs) s (fun t => t = { s with out := [.wop w (answerTo m RC.owner) (respBytes m w.bootEpoch (answerTo m RC.owner))] })) ∧
  (16 ≤ bs.length → readMsg bs = some m → bootEpochOf bs = w.bootEpoch → k = m.session → s.g (K.SESS_OWNER k) = identityOf w →
    m.sessGen = s.g (K.SESS_GEN k) → m.txnGen = ((s.txnOf k (m.txn % 64)).gen + 1) % 256 → m.txnGen ≠ (s.txnOf k (m.txn % 64)).gen →
    s.sessLive k = true → (s.txnOf k (m.txn % 64)).sent.any (fun z => decide (s.tick < z + s.retireFrames)) = true →
    Gives (.wopMessage w bs) s (fun t => t = { s.setSess k { s.sessOf k with renewed := s.tick } with out := [.wop w (answerTo m RC.quarantine) (respBytes m w.bootEpoch (answerTo m RC.quarantine))] })) ∧
  (16 ≤ bs.length → readMsg bs = some m → bootEpochOf bs = w.bootEpoch → k = m.session → s.g (K.SESS_OWNER k) = identityOf w →
    m.sessGen = s.g (K.SESS_GEN k) → m.txnGen = ((s.txnOf k (m.txn % 64)).gen + 1) % 256 → m.txnGen ≠ (s.txnOf k (m.txn % 64)).gen →
    k < 8 → s.sessLive k = false →
    Gives (.wopMessage w bs) s (fun t => t = { s with out := [.wop w (answerTo m RC.noSession) (respBytes m w.bootEpoch (answerTo m RC.noSession))] })) ∧
  (16 ≤ bs.length → readMsg bs = some m → bootEpochOf bs = w.bootEpoch → 8 ≤ m.session → m.session ≠ 255 →
    Gives (.wopMessage w bs) s (fun t => t = { s with out := [.wop w (answerTo m RC.noSession) (respBytes m w.bootEpoch (answerTo m RC.noSession))] })) ∧
  (16 ≤ bs.length → readMsg bs = some m → bootEpochOf bs = w.bootEpoch → m.session = 255 → m.ops.all opFree = true →
    runOps w 255 m.stopOnError m.ops false s.noOut = (l, b) →
    Gives (.wopMessage w bs) s (fun t => t = { b with pending := s.pending, out := b.out ++ [.wop w { answerTo m RC.ok with ops := l } (respBytes m w.bootEpoch { answerTo m RC.ok with ops := l })] })) ∧
  (16 ≤ bs.length → readMsg bs = some m → bootEpochOf bs = w.bootEpoch → m.session = 255 → m.ops.all opFree = false →
    Gives (.wopMessage w bs) s (fun t => t = { s with out := [.wop w (answerTo m RC.malformed) (respBytes m w.bootEpoch (answerTo m RC.malformed))] })) ∧
  (16 ≤ bs.length → readMsg bs = none → bootEpochOf bs = w.bootEpoch →
    Gives (.wopMessage w bs) s (fun t => t = { s with out := [.wop w (answerTo (readHeader bs) RC.malformed) (respBytes (readHeader bs) w.bootEpoch (answerTo (readHeader bs) RC.malformed))] })) ∧
  (bs.length < 16 → Gives (.wopMessage w bs) s (fun t => t = { s with out := [] })) ∧
  (Gives (.smbSelect idx sub true) s (fun t => t = { s with out := [], smb := some (idx % 65536 * 256 + sub % 256) })) ∧
  (u = s.noOut → Gives (.smbRead true) s (fun t => t = { s with out := [.result u.smbFound.1 u.smbFound.2] })) ∧
  (s.smb = none → Gives (.smbRead true) s (fun t => t = { s with out := [.result RC.access 0] })) ∧
  (Gives (.smbRead false) s (fun t => t = { s with out := [] }))

/-- WOP channels open and end. A HELLO long enough is answered with the device's reply and waits for its FINISH; a shorter one fails with
AUTH, WOP_AUTH_FAILS and EV108, as does a FINISH without a HELLO. A FINISH whose signature verifies, whose certificate is good and whose
key names a principal opens a channel for that row, at the log's head; any other fails. A channel idle for WOP_IDLE ends. (R548, R550)
What the rules leave open in it is the model's choice: log entries 12, 27. -/
def Obligations.Handshakes : Prop :=
  ∀ (s : State) (tr peer ch row : Nat) (body : List Byte) (h : Shake) (c : Chan), s.mode ≠ 0 →
  ((tr = 2 ∨ tr = 3) → 64 < body.length →
    Gives (.wopHandshakeHello tr peer body) s (fun t => t = { s with out := [.handshake tr peer RC.ok (Config.handshakeReply body)], shakes := s.shakes.filter (fun z => !(z.transport == tr && z.peer == peer)) ++ [{ transport := tr, peer := peer, hello := body, reply := Config.handshakeReply body }] })) ∧
  ((tr = 2 ∨ tr = 3) → body.length ≤ 64 →
    Gives (.wopHandshakeHello tr peer body) s (fun t => Writes s t [(K.WOP_AUTH_FAILS, s.g K.WOP_AUTH_FAILS + 1)] ∧
    t = { s.raiseVal 108 tr with od := t.od, out := [.handshake tr peer RC.auth []], shakes := s.shakes.filter (fun z => !(z.transport == tr && z.peer == peer)) })) ∧
  ((tr = 2 ∨ tr = 3) → s.shakes.find? (fun z => z.transport == tr && z.peer == peer) = none →
    Gives (.wopHandshakeFinish tr peer body) s (fun t => Writes s t [(K.WOP_AUTH_FAILS, s.g K.WOP_AUTH_FAILS + 1)] ∧
    t = { s.raiseVal 108 tr with od := t.od, out := [.handshake tr peer RC.auth []], shakes := s.shakes.filter (fun z => !(z.transport == tr && z.peer == peer)) })) ∧
  ((tr = 2 ∨ tr = 3) → s.shakes.find? (fun z => z.transport == tr && z.peer == peer) = some h →
    Gives (.wopHandshakeFinish tr peer body) s (fun t => (s.certGood (h.hello.drop 64) = true →
    Config.ed25519Verifies (Config.subjectKey (h.hello.drop 64)) (leBytes 32 (Config.sha256 (h.hello ++ h.reply))) (body.take 64) = true →
    s.principalOf (h.hello.drop 64) = some row →
    t = { s with out := [.handshake tr peer RC.ok []], shakes := s.shakes.filter (fun z => !(z.transport == tr && z.peer == peer)), chans := Sp.ins s.chans s.newChan { transport := tr, peer := peer, row := row, keyIn := Config.channelKey (h.hello ++ h.reply ++ body) false, keyOut := Config.channelKey (h.hello ++ h.reply ++ body) true, lastMsg := s.tick, logPos := s.g K.FC_LOG_HEAD } }) ∧
    ((s.certGood (h.hello.drop 64) = false ∨ Config.ed25519Verifies (Config.subjectKey (h.hello.drop 64)) (leBytes 32 (Config.sha256 (h.hello ++ h.reply))) (body.take 64) = false ∨ s.principalOf (h.hello.drop 64) = none) →
    Writes s t [(K.WOP_AUTH_FAILS, s.g K.WOP_AUTH_FAILS + 1)] ∧
    t = { s.raiseVal 108 tr with od := t.od, out := [.handshake tr peer RC.auth []], shakes := s.shakes.filter (fun z => !(z.transport == tr && z.peer == peer)) }))) ∧
  (Sp.find s.chans ch = some c → c.lastMsg + s.g K.WOP_IDLE * framesPerSecond ≤ s.tick →
    Gives (.wopChannelIdleExpiry ch) s (fun t => t = { s with out := [], chans := Sp.del s.chans ch })) ∧
  (Sp.find s.chans ch = some c → s.tick < c.lastMsg + s.g K.WOP_IDLE * framesPerSecond →
    Gives (.wopChannelIdleExpiry ch) s (fun t => t = { s with out := [] }))

/-- Queue pairs fetch, work and post. A host's write of an index is taken modulo its ring. A descriptor that may be fetched advances
QP_SQ_HEAD: a WOP descriptor runs its message and completes with the length of its response, MALFORMED where its length is not one or
the response does not fit; a LOAD of an EMPTY page of a resident entry begins its transfer, and one refused completes with the code.
COMPLETION_POST writes the first finished descriptor to the completion ring, advances QP_CQ_TAIL and sets the queue pair's MSI-X pending
bit. QP_ERROR puts an ON queue pair in ERROR, its completions lost, with EV110. (R517, R614, R616, R617, R618, R619) What the rules
leave open in it is the model's choice: log entries 14, 57, 82, 107, 135, 136. -/
def Obligations.QueuePairs : Prop :=
  ∀ (s u b : State) (w : Who) (q v tag pl rp len cap n ep wi off e g i p a y : Nat) (ds : List Nat) (req bs : List Byte) (r : WopResp) (o : XOp) (d : QpDone) (l : List QpDone), q < 4 →
  (s.admits w 1 → v < 2 ^ 32 → Gives (.qpSqTailWrite w q v) s (fun t => Writes s t [(K.QP_SQ_TAIL q, v % s.ringSize q 2)] ∧
    t = { s with od := t.od, out := [.result RC.ok 0] })) ∧
  (s.admits w 1 → v < 2 ^ 32 → Gives (.qpCqHeadWrite w q v) s (fun t => Writes s t [(K.QP_CQ_HEAD q, v % s.ringSize q 1)] ∧
    t = { s with od := t.od, out := [.result RC.ok 0] })) ∧
  (s.mode ≠ 0 → s.g (K.QP_STATE q) = 1 → s.gb (K.QP_ENABLE q) = true → Gives (.qpError q) s (fun t => Writes s t [(K.QP_STATE q, 2)] ∧
    t = { (s.setQp q { s.qpOf q with done := [] }).raiseVal 110 (Config.causeWord 110 1 q) with od := t.od, out := [] })) ∧
  (s.mode ≠ 0 → s.g (K.QP_STATE q) ≠ 1 → Gives (.qpError q) s (fun t => t = { s with out := [] })) ∧
  (s.mode ≠ 0 → s.mayFetch q = true → s.hostAddr (s.g (K.QP_SQ_BASE q)) (64 * s.g (K.QP_SQ_HEAD q)) 64 = some a →
    readDesc ds = .wop tag pl len rp cap → 16 ≤ len → len ≤ 1024 → s.hostAddr pl 0 len = some y → bootEpochOf (req.take len) = ep →
    w = { transport := 1, originGen := 0, originAddr := 0, principal := q, bootEpoch := ep } →
    u = s.noOut.p (K.QP_SQ_HEAD q) (nextIx (s.g (K.QP_SQ_HEAD q)) (s.ringSize q 2)) → u.request w (req.take len) = (some (r, bs), b) →
    bs.length ≤ cap → b.hostAddr rp 0 bs.length = some n →
    Gives (.descWop q ⟨ds, req⟩) s (fun t => t = { b.descDone q tag 1 RC.ok 0 bs.length with pending := s.pending, out := b.out ++ [.wop w r bs] })) ∧
  (s.mode ≠ 0 → s.mayFetch q = true → s.hostAddr (s.g (K.QP_SQ_BASE q)) (64 * s.g (K.QP_SQ_HEAD q)) 64 = some a →
    readDesc ds = .wop tag pl len rp cap → 16 ≤ len → len ≤ 1024 → s.hostAddr pl 0 len = some y → bootEpochOf (req.take len) = ep →
    w = { transport := 1, originGen := 0, originAddr := 0, principal := q, bootEpoch := ep } →
    u = s.noOut.p (K.QP_SQ_HEAD q) (nextIx (s.g (K.QP_SQ_HEAD q)) (s.ringSize q 2)) → u.request w (req.take len) = (some (r, bs), b) →
    cap < bs.length → Gives (.descWop q ⟨ds, req⟩) s (fun t => t = { b.descDone q tag 1 RC.malformed 0 0 with pending := s.pending })) ∧
  (s.mode ≠ 0 → s.mayFetch q = true → s.hostAddr (s.g (K.QP_SQ_BASE q)) (64 * s.g (K.QP_SQ_HEAD q)) 64 = some a →
    readDesc ds = .wop tag pl len rp cap → 16 ≤ len → len ≤ 1024 → s.hostAddr pl 0 len = some y → bootEpochOf (req.take len) = ep →
    w = { transport := 1, originGen := 0, originAddr := 0, principal := q, bootEpoch := ep } →
    u = s.noOut.p (K.QP_SQ_HEAD q) (nextIx (s.g (K.QP_SQ_HEAD q)) (s.ringSize q 2)) → u.request w (req.take len) = (some (r, bs), b) →
    bs.length ≤ cap → b.hostAddr rp 0 bs.length = none →
    Gives (.descWop q ⟨ds, req⟩) s (fun t => t = { b.descDone q tag 1 RC.source 1 0 with pending := s.pending })) ∧
  (s.mode ≠ 0 → s.mayFetch q = true → s.hostAddr (s.g (K.QP_SQ_BASE q)) (64 * s.g (K.QP_SQ_HEAD q)) 64 = some a →
    readDesc ds = .wop tag pl len rp cap → 16 ≤ len → len ≤ 1024 → s.hostAddr pl 0 len = some y → bootEpochOf (req.take len) = ep →
    w = { transport := 1, originGen := 0, originAddr := 0, principal := q, bootEpoch := ep } →
    u = s.noOut.p (K.QP_SQ_HEAD q) (nextIx (s.g (K.QP_SQ_HEAD q)) (s.ringSize q 2)) → u.request w (req.take len) = (none, b) →
    Gives (.descWop q ⟨ds, req⟩) s (fun t => t = { b.descDone q tag 1 RC.ok 0 0 with pending := s.pending })) ∧
  (s.mode ≠ 0 → s.mayFetch q = true → s.hostAddr (s.g (K.QP_SQ_BASE q)) (64 * s.g (K.QP_SQ_HEAD q)) 64 = some a →
    readDesc ds = .wop tag pl len rp cap → (len < 16 ∨ 1024 < len) →
    Gives (.descWop q ⟨ds, req⟩) s (fun t => Writes s t [(K.QP_SQ_HEAD q, nextIx (s.g (K.QP_SQ_HEAD q)) (s.ringSize q 2))] ∧
    t = { s.setQp q { s.qpOf q with done := (s.qpOf q).done ++ [{ tag := tag, kind := 1, result := RC.malformed, detail := 0, value := 0 }] } with od := t.od, out := [] })) ∧
  (s.mode ≠ 0 → s.mayFetch q = true → s.hostAddr (s.g (K.QP_SQ_BASE q)) (64 * s.g (K.QP_SQ_HEAD q)) 64 = some a →
    readDesc ds = .wop tag pl len rp cap → 16 ≤ len → len ≤ 1024 → s.hostAddr pl 0 len = none →
    Gives (.descWop q ⟨ds, req⟩) s (fun t => Writes s t [(K.QP_SQ_HEAD q, nextIx (s.g (K.QP_SQ_HEAD q)) (s.ringSize q 2))] ∧
    t = { s.setQp q { s.qpOf q with done := (s.qpOf q).done ++ [{ tag := tag, kind := 1, result := RC.source, detail := 1, value := 0 }] } with od := t.od, out := [] })) ∧
  (s.mode ≠ 0 → s.mayFetch q = true → s.hostAddr (s.g (K.QP_SQ_BASE q)) (64 * s.g (K.QP_SQ_HEAD q)) 64 = some a →
    readDesc ds = .other tag n →
    Gives (.descWop q ⟨ds, req⟩) s (fun t => Writes s t [(K.QP_SQ_HEAD q, nextIx (s.g (K.QP_SQ_HEAD q)) (s.ringSize q 2))] ∧
    t = { s.setQp q { s.qpOf q with done := (s.qpOf q).done ++ [{ tag := tag, kind := n, result := RC.malformed, detail := 0, value := 0 }] } with od := t.od, out := [] })) ∧
  (s.mode ≠ 0 → s.mayFetch q = false → Gives (.descWop q ⟨ds, req⟩) s (fun t => t = { s with out := [] })) ∧
  (s.mode ≠ 0 → s.mayFetch q = true → s.hostAddr (s.g (K.QP_SQ_BASE q)) (64 * s.g (K.QP_SQ_HEAD q)) 64 = none →
    readDesc ds = .wop tag pl len rp cap → Gives (.descWop q ⟨ds, req⟩) s (fun t => Writes s t [(K.QP_STATE q, 2)] ∧
    t = { (s.setQp q { s.qpOf q with done := [] }).raiseVal 110 (Config.causeWord 110 1 q) with od := t.od, out := [] })) ∧
  (s.mode ≠ 0 → s.mayFetch q = true → s.hostAddr (s.g (K.QP_SQ_BASE q)) (64 * s.g (K.QP_SQ_HEAD q)) 64 = none →
    readDesc ds = .load tag wi off e g i → Gives (.descLoad q ds) s (fun t => Writes s t [(K.QP_STATE q, 2)] ∧
    t = { (s.setQp q { s.qpOf q with done := [] }).raiseVal 110 (Config.causeWord 110 1 q) with od := t.od, out := [] })) ∧
  (s.mode ≠ 0 → s.mayFetch q = false → Gives (.descLoad q ds) s (fun t => t = { s with out := [] })) ∧
  (s.mode ≠ 0 → s.mayFetch q = true → s.hostAddr (s.g (K.QP_SQ_BASE q)) (64 * s.g (K.QP_SQ_HEAD q)) 64 = some a →
    readDesc ds = .load tag wi off e g i → Seg.live (s.seg e) = false →
    Gives (.descLoad q ds) s (fun t => Writes s t [(K.QP_SQ_HEAD q, nextIx (s.g (K.QP_SQ_HEAD q)) (s.ringSize q 2))] ∧
    t = { s.setQp q { s.qpOf q with done := (s.qpOf q).done ++ [{ tag := tag, kind := 2, result := RC.range, detail := 0, value := s.fn }] } with od := t.od, out := [] })) ∧
  (s.mode ≠ 0 → s.mayFetch q = true → s.hostAddr (s.g (K.QP_SQ_BASE q)) (64 * s.g (K.QP_SQ_HEAD q)) 64 = some a →
    readDesc ds = .load tag wi off e g i → Seg.live (s.seg e) = true → s.streamed e = false → i < Seg.pages (s.seg e) →
    g ≠ Seg.gen (s.seg e) →
    Gives (.descLoad q ds) s (fun t => Writes s t [(K.PAGE_STALE, s.g K.PAGE_STALE + 1), (K.QP_SQ_HEAD q, nextIx (s.g (K.QP_SQ_HEAD q)) (s.ringSize q 2))] ∧
    t = { s.setQp q { s.qpOf q with done := (s.qpOf q).done ++ [{ tag := tag, kind := 2, result := RC.stale, detail := 0, value := s.fn }] } with od := t.od, out := [] })) ∧
  (s.mode ≠ 0 → s.mayFetch q = true → s.hostAddr (s.g (K.QP_SQ_BASE q)) (64 * s.g (K.QP_SQ_HEAD q)) 64 = some a →
    readDesc ds = .load tag wi off e g i → Seg.live (s.seg e) = true → s.streamed e = false → i < Seg.pages (s.seg e) →
    g = Seg.gen (s.seg e) → s.ppnOf e i = none →
    Gives (.descLoad q ds) s (fun t => Writes s t [(K.QP_SQ_HEAD q, nextIx (s.g (K.QP_SQ_HEAD q)) (s.ringSize q 2))] ∧
    t = { s.setQp q { s.qpOf q with done := (s.qpOf q).done ++ [{ tag := tag, kind := 2, result := RC.placementCapacity, detail := 0, value := s.fn }] } with od := t.od, out := [] })) ∧
  (s.mode ≠ 0 → s.mayFetch q = true → s.hostAddr (s.g (K.QP_SQ_BASE q)) (64 * s.g (K.QP_SQ_HEAD q)) 64 = some a →
    readDesc ds = .load tag wi off e g i → Seg.live (s.seg e) = true → s.streamed e = false → i < Seg.pages (s.seg e) →
    g = Seg.gen (s.seg e) → s.ppnOf e i = some p → (s.active e = false ∨ Pg.state (s.page p) = Pg.empty) →
    (∀ x ∈ (s.unit (p / 64) 8).ops, x.ppn ≠ p) → (∀ x ∈ (s.unit (p / 64) 9).ops, x.peer ≠ some p) → s.translate wi off = some y →
    s.xferOf p = none → (s.unit (p / 64) 8).active = none → s.freeTag = some v →
    Gives (.descLoad q ds) s (fun t => Writes s t [(K.QP_SQ_HEAD q, nextIx (s.g (K.QP_SQ_HEAD q)) (s.ringSize q 2))] ∧
    t = { s.setUnit (p / 64) 8 { s.unit (p / 64) 8 with active := some { code := 2, entry := e, gen := g, ppn := p, since := s.tick } } with od := t.od, out := (List.range (ceilDiv 24576 (128 * 2 ^ min 5 s.devCtl.2.1))).map (fun i => .dmaRead v (y + 128 * 2 ^ min 5 s.devCtl.2.1 * i) (min (128 * 2 ^ min 5 s.devCtl.2.1) (24576 - 128 * 2 ^ min 5 s.devCtl.2.1 * i))), xfers := s.xfers ++ [{ load := some (q, tag), tag := v, entry := e, gen := g, page := i, ppn := p, addr := y, start := s.fn, asked := true }] })) ∧
  (s.mode ≠ 0 → s.mayFetch q = true → s.hostAddr (s.g (K.QP_SQ_BASE q)) (64 * s.g (K.QP_SQ_HEAD q)) 64 = some a →
    readDesc ds = .load tag wi off e g i → Seg.live (s.seg e) = true → s.streamed e = false → i < Seg.pages (s.seg e) →
    g = Seg.gen (s.seg e) → s.ppnOf e i = some p → (s.active e = false ∨ Pg.state (s.page p) = Pg.empty) →
    (∀ x ∈ (s.unit (p / 64) 8).ops, x.ppn ≠ p) → (∀ x ∈ (s.unit (p / 64) 9).ops, x.peer ≠ some p) → s.translate wi off = some y →
    s.xferOf p = none → (s.unit (p / 64) 8).active = some o → (o.code = 1 ∨ o.code = 2) →
    Gives (.descLoad q ds) s (fun t => Writes s t [(K.QP_SQ_HEAD q, nextIx (s.g (K.QP_SQ_HEAD q)) (s.ringSize q 2))] ∧
    t = { s.setUnit (p / 64) 8 { s.unit (p / 64) 8 with wait := (s.unit (p / 64) 8).wait ++ [{ code := 2, entry := e, gen := g, ppn := p }] } with od := t.od, out := [], xfers := s.xfers ++ [{ load := some (q, tag), tag := 0, entry := e, gen := g, page := i, ppn := p, addr := y, start := s.fn }] })) ∧
  (s.mode ≠ 0 → s.mayFetch q = true → s.hostAddr (s.g (K.QP_SQ_BASE q)) (64 * s.g (K.QP_SQ_HEAD q)) 64 = some a →
    readDesc ds = .load tag wi off e g i → Seg.live (s.seg e) = true → s.streamed e = false → i < Seg.pages (s.seg e) →
    g = Seg.gen (s.seg e) → s.ppnOf e i = some p → (s.active e = false ∨ Pg.state (s.page p) = Pg.empty) →
    (∀ x ∈ (s.unit (p / 64) 8).ops, x.ppn ≠ p) → (∀ x ∈ (s.unit (p / 64) 9).ops, x.peer ≠ some p) → s.translate wi off = none →
    p < 1024 → Pg.ring (s.page p) = false → Seg.base (s.seg (Pg.entry (s.page p))) ≠ 2 →
    Gives (.descLoad q ds) s (fun t => Writes s t [(atRow K.PAGE_MAP p, setBits (s.page p) 63 61 Pg.failed), (K.DMA_XLATE_MISS, s.g K.DMA_XLATE_MISS + 1), (K.DMA_FAILED, s.g K.DMA_FAILED + 1), (K.QP_SQ_HEAD q, nextIx (s.g (K.QP_SQ_HEAD q)) (s.ringSize q 2))] ∧
    t = { (s.setQp q { s.qpOf q with done := (s.qpOf q).done ++ [{ tag := tag, kind := 2, result := RC.source, detail := 1, value := s.fn }] }).raiseVal 66 p with od := t.od, out := [] })) ∧
  (s.mode ≠ 0 → (s.qpOf q).done = d :: l → s.g (K.QP_STATE q) = 1 → s.gb (K.QP_ENABLE q) = true → s.cqFull q = false →
    s.hostAddr (s.g (K.QP_CQ_BASE q)) (16 * s.g (K.QP_CQ_TAIL q)) 16 = some a →
    Gives (.completionPost q) s (fun t => Writes s t [(K.QP_CQ_TAIL q, nextIx (s.g (K.QP_CQ_TAIL q)) (s.ringSize q 1))] ∧
    t = { s.setQp q { done := l, flip := if nextIx (s.g (K.QP_CQ_TAIL q)) (s.ringSize q 1) = 0 then !(s.qpOf q).flip else (s.qpOf q).flip } with od := t.od, msixPend := s.msixPend ||| 2 ^ q, out := [.completion q (s.g (K.QP_CQ_TAIL q)) (d.tag % 2 ^ 32 * 2 ^ 32 + d.result * 2 ^ 24 + d.detail * 2 ^ 16 + d.kind * 2 ^ 8 + b2n !(s.qpOf q).flip) d.value] })) ∧
  (s.mode ≠ 0 → (s.qpOf q).done = [] → Gives (.completionPost q) s (fun t => t = { s with out := [] }))

/-- Links, telemetry and the firmware flash. PCI Express going down, and a reset of the interface in each of its kinds, break the sessions
and locks of TRANSPORT 1 with EV109; a reset also puts the configuration, the MSI-X bits and the half latches back. A configuration
write sets the timeout code, the read request code up to 5, or the power state; an AER error raises EV110. The management link goes up
and, with EV111, down. A telemetry record is counted at each period's boundary, with the counters since the last one. FL_ERASE and
FL_DATA begin their operation on the target slot unless it runs or the flash is busy, FL_VERIFY tells whether the image passes; done,
the bytes are erased or programmed and FL_SLOTS follows. (R526, R592, R598, R609, R612, R622, R627, R628, R631, R633) What the rules
leave open in it is the model's choice: log entries 4, 14, 44, 58, 59. -/
def Obligations.Interfaces : Prop :=
  ∀ (s : State) (w : Who) (r v : Nat) (f : Bool) (op : FlOp), s.mode ≠ 0 →
  (Gives .pcieLinkUp s (fun t => t = { s with out := [], host := { s.host with pcieUp := true } })) ∧
  (s.host.pcieUp = true → Gives .pcieLinkDown s (fun t => PcieBroken s t ∧
    t = { s with od := t.od, out := [], raised := t.raised, sess := t.sess, barHold := t.barHold, host := { s.host with pcieUp := false } })) ∧
  (s.host.pcieUp = false → Gives .pcieLinkDown s (fun t => t = { s with out := [] })) ∧
  (Gives (.pcieHotReset f) s (fun t => PcieBroken s t ∧
    t = { s with od := t.od, out := [], raised := t.raised, sess := t.sess, barHold := none, barLatch := none, devCtl := (0, 2, false), msixMask := 2 ^ 128 - 1, msixPend := 0, host := { s.host with pcieUp := false } })) ∧
  (Gives .functionLevelReset s (fun t => PcieBroken s t ∧
    t = { s with od := t.od, out := [], raised := t.raised, sess := t.sess, barHold := none, barLatch := none, devCtl := (0, 2, false), msixMask := 2 ^ 128 - 1, msixPend := 0 })) ∧
  (s.devCtl.2.2 = false → Gives .d3hotEntry s (fun t => PcieBroken s t ∧
    t = { s with od := t.od, out := [], raised := t.raised, sess := t.sess, barHold := none, barLatch := none, devCtl := (0, 2, true), msixMask := 2 ^ 128 - 1, msixPend := 0 })) ∧
  (s.devCtl.2.2 = true → Gives .d3hotEntry s (fun t => t = { s with out := [] })) ∧
  (r = 1 → v ≤ 5 → Gives (.pcieConfigWrite r v) s (fun t => t = { s with out := [], devCtl := (s.devCtl.1, v, s.devCtl.2.2) })) ∧
  (r = 0 → Gives (.pcieConfigWrite r v) s (fun t => t = { s with out := [], devCtl := (v % 16, s.devCtl.2) })) ∧
  (2 ≤ r → v = 0 → Gives (.pcieConfigWrite r v) s (fun t => t = { s with out := [], devCtl := (s.devCtl.1, s.devCtl.2.1, false) })) ∧
  (Gives (.pcieAerError v) s (fun t => t = { s.raiseVal 110 (Config.causeWord 110 0 v) with out := [] })) ∧
  (s.gb K.ETH_ENABLE = true → Gives .ethLinkUp s (fun t => Writes s t [(K.ETH_LINK, 1)] ∧ t = { s with od := t.od, out := [] })) ∧
  (s.gb K.ETH_ENABLE = true → s.g K.ETH_LINK = 1 → Gives .ethLinkDown s (fun t => Writes s t [(K.ETH_LINK, 0)] ∧
    t = { s.raiseVal 111 0 with od := t.od, out := [] })) ∧
  (2 ≤ s.mode → s.fn % (1250 * s.g K.TEL_PERIOD) = 0 → s.host.telAt ≠ s.tick + 1 → (∀ q ∈ List.range 4, s.g (K.QP_STATE q) = 0) →
    Gives .telemetryRecord s (fun t => Writes s t [(K.TEL_RECORDS, s.g K.TEL_RECORDS + 1)] ∧
    t = { s with od := t.od, out := [], host := { s.host with telBase := s.telTotals, telAt := s.tick + 1 } })) ∧
  (s.fn % (1250 * s.g K.TEL_PERIOD) ≠ 0 → Gives .telemetryRecord s (fun t => t = { s with out := [] })) ∧
  (s.bootRom = false → 1 ≤ s.privOf w → s.flRefusal = 0 →
    Gives (.flErase w) s (fun t => Answers s t w K.FL_ERASE 0 RC.accepted 0 [(K.FL_STATE, 1)] ∧
    t = { s with od := t.od, out := t.out, host := { s.host with flOp := some { kind := 1, slot := s.g K.FL_TARGET } } })) ∧
  (s.bootRom = false → 1 ≤ s.privOf w → s.flRefusal ≠ 0 → Gives (.flErase w) s (fun t => Answers s t w K.FL_ERASE 0 s.flRefusal 0 [] ∧
    t = { s with od := t.od, out := t.out })) ∧
  (1 ≤ s.privOf w → r < 8192 → s.flRefusal = 0 → (s.flashBytes (slotBase (s.g K.FL_TARGET) + 128 * r) 128).all (· == 0xFF) = true →
    Gives (.flDataWrite w r v) s (fun t => Writes s t [(K.FL_STATE, 2)] ∧
    t = { s with od := t.od, out := [.result RC.ok 0], host := { s.host with flOp := some { kind := 2, slot := s.g K.FL_TARGET, row := r, data := v } } })) ∧
  (1 ≤ s.privOf w → r < 8192 → s.flRefusal = 0 → (s.flashBytes (slotBase (s.g K.FL_TARGET) + 128 * r) 128).all (· == 0xFF) = false →
    Gives (.flDataWrite w r v) s (fun t => t = { s with out := [.result RC.state 0] })) ∧
  (s.bootRom = false → 1 ≤ s.privOf w → s.g K.FL_STATE = 0 →
    Gives (.flVerify w) s (fun t => Answers s t w K.FL_VERIFY 0 (if s.imagePasses (s.g K.FL_TARGET) then RC.ok else RC.auth) 0 [(K.FL_STATE, 3)] ∧
    t = { s with od := t.od, out := t.out, host := { s.host with flOp := some { kind := 3, slot := s.g K.FL_TARGET } } })) ∧
  (s.host.flOp = some op → op.kind = 1 → op.slot < 2 →
    Gives .flOperationComplete s (fun t => Writes s t [(atRow K.FL_SLOTS op.slot, t.imageVersion op.slot + b2n (s.host.fwSlot == some op.slot) * 2 ^ 62), (K.FL_STATE, 0)] ∧
    t = { s with od := t.od, out := [], host := { s.host with flOp := none, flash := s.host.flash.filter (fun p => p.1 < slotBase op.slot || slotBase op.slot + 0x100000 ≤ p.1) } })) ∧
  (s.host.flOp = some op → op.kind = 2 → op.slot < 2 →
    Gives .flOperationComplete s (fun t => Writes s t [(atRow K.FL_SLOTS op.slot, t.imageVersion op.slot + b2n (s.host.fwSlot == some op.slot) * 2 ^ 62), (K.FL_STATE, 0)] ∧
    (∀ i ∈ List.range 128, t.flashByte (slotBase op.slot + 128 * op.row + i) = BitVec.ofNat 8 (op.data / 256 ^ i)) ∧
    ButThese t.flashByte s.flashByte ((List.range 128).map (slotBase op.slot + 128 * op.row + ·)) ∧
    t = { s with od := t.od, out := [], host := { s.host with flOp := none, flash := t.host.flash } })) ∧
  (s.host.flOp = some op → op.kind = 3 → op.slot < 2 →
    Gives .flOperationComplete s (fun t => Writes s t [(atRow K.FL_SLOTS op.slot, s.imageVersion op.slot + b2n (s.host.fwSlot == some op.slot) * 2 ^ 62 + b2n (s.imagePasses op.slot) * 2 ^ 63), (K.FL_STATE, 0)] ∧
    t = { s with od := t.od, out := [], host := { s.host with flOp := none } }))

/-- A leap is applied at LEAP_EPOCH. LEAP_EPOCH_REACHED, with a leap pending and its frame come, writes the new offset into UTC_OFFSET and 0
into LEAP_PENDING; the timescale, the frame number and every channel stay as they are. Without a leap pending it changes nothing. (R46) -/
def Obligations.LeapApplied : Prop :=
  ∀ (s : State), s.mode ≠ 0 →
  (s.g K.LEAP_PENDING ≠ 0 → s.leapFrame ≤ s.fn →
    Gives .leapEpochReached s (fun t => Writes s t [(K.LEAP_PENDING, 0), (K.UTC_OFFSET, ofI64 (s.gi K.UTC_OFFSET + (if s.g K.LEAP_PENDING = 1 then 1 else if s.g K.LEAP_PENDING = 2 then -1 else 0)))] ∧
    t = { s with od := t.od, out := [] })) ∧
  (s.g K.LEAP_PENDING = 0 → Gives .leapEpochReached s (fun t => t = { s with out := [] }))

/-- SLOT_CLEAR_WTR outside WAIT_RESTORE is refused. SLOT_CLEAR_WTR of a slot that is not in WAIT_RESTORE answers STATE; but for the
command's own record nothing changes. (R377) -/
def Obligations.ClearWtrRefused : Prop :=
  ∀ (s : State) (w : Who) (n : Nat), s.admits w 1 → n < 28 →
  s.g (K.SLOT_STATE n) ≠ 3 → Gives (.slotClearWtr w n) s (fun t => Answers s t w (K.SLOT_CLEAR_WTR n) 0 RC.state 0 [] ∧
    t = { s with od := t.od, out := t.out })

/-- A command beyond its principal's privilege is refused. Each command of the dictionary, asked for by a requester whose privilege is below
the one it needs, answers PRIVILEGE: ADMIN for TS_STEP, ANC_RUN and FC_DEGRADE_CLEAR and for a request of M9, M10 or M11 or out of M10,
CONFIGURE for SESS_COMMIT, OPERATE for the rest. But for the command's own record nothing changes. (R522, R534, R554) What the rules
leave open in it is the model's choice: log entries 18, 21. -/
def Obligations.Privileges : Prop :=
  ∀ (s : State) (w : Who) (m n a : Nat), s.mode ≠ 0 → s.bootRom = false →
  (s.privOf w < modeNeed s.mode m → Gives (.modeRequest w m) s (fun t => Answers s t w K.MODE_REQUEST m RC.privilege 0 [] ∧
    t = { s with od := t.od, out := t.out })) ∧
  (s.privOf w < 1 → Gives (.fcClear w a) s (fun t => Answers s t w K.FC_CLEAR a RC.privilege 0 [] ∧
    t = { s with od := t.od, out := t.out })) ∧
  (s.privOf w < 3 → Gives (.fcDegradeClear w) s (fun t => Answers s t w K.FC_DEGRADE_CLEAR 0 RC.privilege 0 [] ∧
    t = { s with od := t.od, out := t.out })) ∧
  (n < 28 → s.privOf w < 1 → Gives (.slotLabel w n a) s (fun t => Answers s t w (K.SLOT_LABEL n) a RC.privilege 0 [] ∧
    t = { s with od := t.od, out := t.out })) ∧
  (n < 28 → s.privOf w < 1 → Gives (.slotClearWtr w n) s (fun t => Answers s t w (K.SLOT_CLEAR_WTR n) 0 RC.privilege 0 [] ∧
    t = { s with od := t.od, out := t.out })) ∧
  (n < 28 → s.privOf w < 1 → Gives (.htSample w n a) s (fun t => Answers s t w (K.HT_SAMPLE n) a RC.privilege 0 [] ∧
    t = { s with od := t.od, out := t.out })) ∧
  (s.privOf w < 1 → Gives (.srRejectClear w a) s (fun t => Answers s t w K.SR_REJECT_CLEAR a RC.privilege 0 [] ∧
    t = { s with od := t.od, out := t.out })) ∧
  (s.privOf w < 3 → Gives (.tsStep w a) s (fun t => Answers s t w K.TS_STEP a RC.privilege 0 [] ∧
    t = { s with od := t.od, out := t.out })) ∧
  (n < 8 → s.privOf w < 1 → Gives (.sqLockAcquire w n) s (fun t => Answers s t w (K.SQ_LOCK n) 1 RC.privilege 0 [] ∧
    t = { s with od := t.od, out := t.out })) ∧
  (n < 8 → s.privOf w < 1 → Gives (.sqLockRelease w n) s (fun t => Answers s t w (K.SQ_LOCK n) 0 RC.privilege 0 [] ∧
    t = { s with od := t.od, out := t.out })) ∧
  (n < 8 → s.privOf w < 1 → Gives (.sqJump w n a) s (fun t => Answers s t w (K.SQ_JUMP n) a RC.privilege 0 [] ∧
    t = { s with od := t.od, out := t.out })) ∧
  (n < 8 → s.privOf w < 1 → Gives (.sqStop w n a) s (fun t => Answers s t w (K.SQ_STOP n) a RC.privilege 0 [] ∧
    t = { s with od := t.od, out := t.out })) ∧
  (s.privOf w < 1 → Gives (.sqStart w a) s (fun t => Answers s t w K.SQ_START a RC.privilege 0 [] ∧
    t = { s with od := t.od, out := t.out })) ∧
  (s.privOf w < 1 → Gives (.segFree w a) s (fun t => Answers s t w K.SEG_FREE a RC.privilege 0 [] ∧
    t = { s with od := t.od, out := t.out })) ∧
  (n < 8 → s.privOf w < 1 → Gives (.cmpLogResume w n) s (fun t => Answers s t w (K.CMP_LOG_RESUME n) 0 RC.privilege 0 [] ∧
    t = { s with od := t.od, out := t.out })) ∧
  (s.privOf w < 1 → Gives (.arbCommit w) s (fun t => Answers s t w K.ARB_COMMIT 0 RC.privilege 0 [] ∧
    t = { s with od := t.od, out := t.out })) ∧
  (s.privOf w < 1 → Gives (.pagePost w a) s (fun t => Answers s t w K.PAGE_POST a RC.privilege 0 [] ∧
    t = { s with od := t.od, out := t.out })) ∧
  (s.privOf w < 1 → Gives (.memSelftest w a) s (fun t => Answers s t w K.MEM_SELFTEST a RC.privilege 0 [] ∧
    t = { s with od := t.od, out := t.out })) ∧
  (n < 8 → s.privOf w < 1 → Gives (.spSwap w n a) s (fun t => Answers s t w (K.SP_SWAP n) a RC.privilege 0 [] ∧
    t = { s with od := t.od, out := t.out })) ∧
  (n < 8 → s.privOf w < 1 → Gives (.spReturn w n) s (fun t => Answers s t w (K.SP_RETURN n) 0 RC.privilege 0 [] ∧
    t = { s with od := t.od, out := t.out })) ∧
  (n < 72 → s.privOf w < 1 → Gives (.coreCalRequest w n) s (fun t => Answers s t w (K.CORE_CAL_REQUEST n) 0 RC.privilege 0 [] ∧
    t = { s with od := t.od, out := t.out })) ∧
  (s.privOf w < 1 → Gives (.calAll w) s (fun t => Answers s t w K.CAL_ALL 0 RC.privilege 0 [] ∧ t = { s with od := t.od, out := t.out })) ∧
  (s.privOf w < 3 → Gives (.ancRun w a) s (fun t => Answers s t w K.ANC_RUN a RC.privilege 0 [] ∧
    t = { s with od := t.od, out := t.out })) ∧
  (s.privOf w < 1 → Gives (.calStore w) s (fun t => Answers s t w K.CAL_STORE 0 RC.privilege 0 [] ∧
    t = { s with od := t.od, out := t.out })) ∧
  (n < 8 → s.privOf w < 2 → Gives (.sessCommit w n a) s (fun t => Answers s t w (K.SESS_COMMIT n) a RC.privilege 0 [] ∧
    t = { s with od := t.od, out := t.out })) ∧
  (n < 8 → s.privOf w < 1 → Gives (.sessDiscard w n) s (fun t => Answers s t w (K.SESS_DISCARD n) 0 RC.privilege 0 [] ∧
    t = { s with od := t.od, out := t.out })) ∧
  (n < 8 → s.privOf w < 1 → Gives (.sessClose w n) s (fun t => Answers s t w (K.SESS_CLOSE n) 0 RC.privilege 0 [] ∧
    t = { s with od := t.od, out := t.out })) ∧
  (s.privOf w < 1 → Gives (.flErase w) s (fun t => Answers s t w K.FL_ERASE 0 RC.privilege 0 [] ∧
    t = { s with od := t.od, out := t.out })) ∧
  (s.privOf w < 1 → Gives (.flVerify w) s (fun t => Answers s t w K.FL_VERIFY 0 RC.privilege 0 [] ∧
    t = { s with od := t.od, out := t.out }))

/-- A step runs the oldest waiting command. With a command at the front of the queue, a step is that command run on the state that holds the
rest of the queue; with the queue empty, a step answers the same state (the model's choice, log entry 1). (R26, R534, R616) What the
rules leave open in it is the model's choice: log entry 1. -/
def Obligations.StepRunsFrontCommand : Prop :=
  (∀ (s : State) (c : Instr) (rest : List Instr), s.pending = c :: rest → step s = exec c { s with pending := rest }) ∧
    (∀ s : State, s.pending = [] → step s = .next s)

/-- Every command completes, and takes nothing else from the queue. From every state a step answers a next state, never a fault or a
refusal, and the queue is one command shorter, in the same order. (R37, R534) What the rules leave open in it is the model's choice: log
entry 8. -/
def Obligations.EveryStepAnswers : Prop :=
  ∀ s : State, ∃ t, step s = .next t ∧ t.pending = s.pending.tail

/-- Every step keeps the memories in canonical form. From every state whose dictionary, vector memory and post and read slots are in
canonical form (addresses strictly rising; no object listed at its default, no slot byte listed at zero), every step answers a state
whose memories are in that form, so that equal memories are equal data. (R207, R211, R518) What the rules leave open in it is the
model's choice: log entry 83. -/
def Obligations.MemoryFormKept : Prop :=
  ∀ s t : State, Memory.wf s = true → step s = .next t → Memory.wf t = true

/-- Reset leaves every object at its default. The state after reset has its memories in canonical form, M0 in force, every object at its
default, no vector memory written, and nothing waiting. (R207, R518, R593) What the rules leave open in it is the model's choice: log
entries 2, 3, 5. -/
def Obligations.ResetState : Prop :=
  Memory.wf State.reset = true ∧ State.reset.mode = 0 ∧ (∀ k, State.reset.g k = dflt k) ∧ State.reset.vmem = [] ∧ State.reset.pending = []

/-- In M0 only what can end or confirm the reset has an effect. In M0 every command but POWER_ON, SUPPLY_BELOW_THRESHOLD, RESET_N_LOW,
RESET_RELEASE, THERMAL_RECOVERY and the two of the test access port leaves the state as it is, with nothing driven out: the dictionary
is unreachable and no clock runs. (R592, R593, R594, R629, R654) What the rules leave open in it is the model's choice: log entry 9. -/
def Obligations.ResetIsDeaf : Prop :=
  ∀ (c : Instr) (s : State), s.mode = 0 → wakes c = false → exec c s = .next { s with out := [] }
end

