-- ==== Sys2Proof/Laws/Sparse.lean ====
section
/-! SUPPORT. What the operations of a sparse map do: reading back what was written, leaving every other place alone, and keeping the
canonical form. -/

namespace Sys2Proof.Machine

variable {α : Type}

@[simp] theorem Sp.get_nil (d : Nat → α) (k : Nat) : Sp.get d [] k = d k := rfl
@[simp] theorem Sp.find_nil (k : Nat) : Sp.find ([] : Sp α) k = none := rfl

@[simp] theorem Sp.get_ins_same (d : Nat → α) (m : Sp α) (k : Nat) (v : α) : Sp.get d (Sp.ins m k v) k = v := by
  induction m with
  | nil => simp [Sp.ins, Sp.get]
  | cons p m ih =>
    simp only [Sp.ins]
    split
    · simp [Sp.get]
    · split
      · simp [Sp.get]
      · simp [Sp.get, *]

@[simp] theorem Sp.get_ins_other (d : Nat → α) (m : Sp α) {j k : Nat} (v : α) (h : j ≠ k) : Sp.get d (Sp.ins m k v) j = Sp.get d m j := by
  induction m with
  | nil => simp [Sp.ins, Sp.get, h]
  | cons p m ih =>
    simp only [Sp.ins]
    split
    · simp [Sp.get, h]
    · split
      · rename_i h2; simp [Sp.get, ← h2, h]
      · simp [Sp.get, ih]

@[simp] theorem Sp.get_del_same (d : Nat → α) (m : Sp α) (k : Nat) : Sp.get d (Sp.del m k) k = d k := by
  induction m with
  | nil => rfl
  | cons p m ih =>
    simp only [Sp.del]
    split
    · exact ih
    · simp [Sp.get, *]

@[simp] theorem Sp.get_del_other (d : Nat → α) (m : Sp α) {j k : Nat} (h : j ≠ k) : Sp.get d (Sp.del m k) j = Sp.get d m j := by
  induction m with
  | nil => rfl
  | cons p m ih =>
    simp only [Sp.del]
    split
    · rename_i h2; simp [Sp.get, ← h2, h, ih]
    · simp [Sp.get, ih]

/-- A place reads what was last written to it. -/
@[simp] theorem Sp.get_set_same [DecidableEq α] (d : Nat → α) (m : Sp α) (k : Nat) (v : α) : Sp.get d (Sp.set d m k v) k = v := by
  unfold Sp.set
  split
  · simp [*]
  · simp

/-- A write leaves every other place alone. -/
@[simp] theorem Sp.get_set_other [DecidableEq α] (d : Nat → α) (m : Sp α) {j k : Nat} (v : α) (h : j ≠ k) :
    Sp.get d (Sp.set d m k v) j = Sp.get d m j := by
  unfold Sp.set
  split <;> simp [h]

/-- A write, at any place. -/
theorem Sp.get_set [DecidableEq α] (d : Nat → α) (m : Sp α) (j k : Nat) (v : α) :
    Sp.get d (Sp.set d m k v) j = if j = k then v else Sp.get d m j := by
  split
  · subst_vars; simp
  · simp [*]

@[simp] theorem Sp.find_ins_same (m : Sp α) (k : Nat) (v : α) : Sp.find (Sp.ins m k v) k = some v := by
  induction m with
  | nil => simp [Sp.ins, Sp.find]
  | cons p m ih =>
    simp only [Sp.ins]
    split
    · simp [Sp.find]
    · split
      · simp [Sp.find]
      · simp [Sp.find, *]

@[simp] theorem Sp.find_ins_other (m : Sp α) {j k : Nat} (v : α) (h : j ≠ k) : Sp.find (Sp.ins m k v) j = Sp.find m j := by
  induction m with
  | nil => simp [Sp.ins, Sp.find, h]
  | cons p m ih =>
    simp only [Sp.ins]
    split
    · simp [Sp.find, h]
    · split
      · rename_i h2; simp [Sp.find, ← h2, h]
      · simp [Sp.find, ih]

@[simp] theorem Sp.find_del_same (m : Sp α) (k : Nat) : Sp.find (Sp.del m k) k = none := by
  induction m with
  | nil => rfl
  | cons p m ih =>
    simp only [Sp.del]
    split
    · exact ih
    · simp [Sp.find, *]

@[simp] theorem Sp.find_del_other (m : Sp α) {j k : Nat} (h : j ≠ k) : Sp.find (Sp.del m k) j = Sp.find m j := by
  induction m with
  | nil => rfl
  | cons p m ih =>
    simp only [Sp.del]
    split
    · rename_i h2; simp [Sp.find, ← h2, h, ih]
    · simp [Sp.find, ih]

/-! ## The canonical form -/

theorem Sp.mem_ins {m : Sp α} {k : Nat} {v : α} {p : Nat × α} (h : p ∈ Sp.ins m k v) : p = (k, v) ∨ p ∈ m := by
  induction m with
  | nil => simp only [Sp.ins, List.mem_singleton] at h; exact .inl h
  | cons q m ih =>
    simp only [Sp.ins] at h
    split at h
    · simpa using h
    · split at h
      · rcases List.mem_cons.1 h with h | h
        · exact .inl h
        · exact .inr (List.mem_cons_of_mem _ h)
      · rcases List.mem_cons.1 h with h | h
        · exact .inr (by simp [h])
        · rcases ih h with h | h
          · exact .inl h
          · exact .inr (List.mem_cons_of_mem _ h)

theorem Sp.mem_del {m : Sp α} {k : Nat} {p : Nat × α} (h : p ∈ Sp.del m k) : p ∈ m := by
  induction m with
  | nil => exact h
  | cons q m ih =>
    simp only [Sp.del] at h
    split at h
    · exact List.mem_cons_of_mem _ (ih h)
    · rcases List.mem_cons.1 h with h | h
      · simp [h]
      · exact List.mem_cons_of_mem _ (ih h)

theorem Sp.wf_cons [DecidableEq α] {d : Nat → α} {p : Nat × α} {m : Sp α} :
    Sp.wf d (p :: m) = true ↔ p.2 ≠ d p.1 ∧ (∀ q ∈ m, p.1 < q.1) ∧ Sp.wf d m = true := by
  simp [Sp.wf, and_assoc]

theorem Sp.wf_ins [DecidableEq α] {d : Nat → α} {m : Sp α} {k : Nat} {v : α} (hv : v ≠ d k) (h : Sp.wf d m = true) :
    Sp.wf d (Sp.ins m k v) = true := by
  induction m with
  | nil => simp [Sp.ins, Sp.wf, hv]
  | cons p m ih =>
    obtain ⟨h1, h2, h3⟩ := Sp.wf_cons.1 h
    simp only [Sp.ins]
    split
    · rename_i hk
      refine Sp.wf_cons.2 ⟨hv, ?_, h⟩
      intro q hq
      rcases List.mem_cons.1 hq with rfl | hq
      · exact hk
      · exact Nat.lt_trans hk (h2 q hq)
    · split
      · rename_i hk; subst hk
        exact Sp.wf_cons.2 ⟨hv, h2, h3⟩
      · refine Sp.wf_cons.2 ⟨h1, ?_, ih h3⟩
        intro q hq
        rcases Sp.mem_ins hq with rfl | hq
        · simp only; omega
        · exact h2 q hq

theorem Sp.wf_del [DecidableEq α] {d : Nat → α} {m : Sp α} {k : Nat} (h : Sp.wf d m = true) : Sp.wf d (Sp.del m k) = true := by
  induction m with
  | nil => rfl
  | cons p m ih =>
    obtain ⟨h1, h2, h3⟩ := Sp.wf_cons.1 h
    simp only [Sp.del]
    split
    · exact ih h3
    · exact Sp.wf_cons.2 ⟨h1, fun q hq => h2 q (Sp.mem_del hq), ih h3⟩

/-- A write keeps the canonical form. -/
theorem Sp.wf_set [DecidableEq α] {d : Nat → α} {m : Sp α} (k : Nat) (v : α) (h : Sp.wf d m = true) : Sp.wf d (Sp.set d m k v) = true := by
  unfold Sp.set
  split
  · exact Sp.wf_del h
  · exact Sp.wf_ins ‹_› h

/-- Two maps in canonical form that read alike everywhere are the same data. -/
theorem Sp.wf_get_above [DecidableEq α] {d : Nat → α} {m : Sp α} {k : Nat} (h : ∀ q ∈ m, k < q.1) : Sp.get d m k = d k := by
  induction m with
  | nil => rfl
  | cons p m ih =>
    have : k < p.1 := h p (by simp)
    simp [Sp.get, Nat.ne_of_lt this, ih (fun q hq => h q (List.mem_cons_of_mem _ hq))]

end Sys2Proof.Machine
end

