-- ==== Sys2Proof/Laws/State.lean ====
section
/-! SUPPORT. One lemma for each field under each of the updates that every meaning is built from, and what an object reads after a write. -/

namespace Sys2Proof.Machine

variable (s : State)

/-! ## Objects -/

@[simp] theorem State.g_p_same (k v : Nat) : (s.p k v).g k = v := Sp.get_set_same dflt s.od k v
@[simp] theorem State.g_p_other {j k : Nat} (v : Nat) (h : j ≠ k) : (s.p k v).g j = s.g j := Sp.get_set_other dflt s.od v h
/-- A write of one object, as any object reads after it. -/
theorem State.g_p (j k v : Nat) : (s.p k v).g j = if j = k then v else s.g j := Sp.get_set dflt s.od j k v
@[simp] theorem State.inc_eq (k : Nat) : s.inc k = s.p k (s.g k + 1) := rfl
@[simp] theorem State.add_eq (k n : Nat) : s.add k n = s.p k (s.g k + n) := rfl
@[simp] theorem State.pi_eq (k : Nat) (v : Int) : s.pi k v = s.p k (ofI64 (satI64 v)) := rfl
@[simp] theorem State.pbit_eq (k i : Nat) (b : Bool) : s.pbit k i b = s.p k (setBit (s.g k) i b) := rfl
/-- Objects stand at different places when their indices, subindices or rows differ. -/
theorem key_inj {i j sub sub' row row' : Nat} (h1 : sub < 256) (h2 : sub' < 256) (h3 : row < 65536) (h4 : row' < 65536) :
    key i sub row = key j sub' row' ↔ i = j ∧ sub = sub' ∧ row = row' := by
  unfold key; omega
/-- Writing an object keeps the dictionary canonical. -/
theorem State.p_odWf (k v : Nat) (h : Sp.wf dflt s.od = true) : Sp.wf dflt (s.p k v).od = true := Sp.wf_set k v h
/-- Writing several objects keeps the dictionary canonical. -/
theorem State.pAll_odWf (l : List (Nat × Nat)) : ∀ s : State, Sp.wf dflt s.od = true → Sp.wf dflt (s.pAll l).od = true := by
  induction l with
  | nil => exact fun _ h => h
  | cons a l ih => exact fun s h => ih _ (s.p_odWf a.1 a.2 h)

/-! ## Updates, field by field -/

@[simp] theorem State.p_pending (k v : Nat) : (s.p k v).pending = s.pending := rfl
@[simp] theorem State.p_out (k v : Nat) : (s.p k v).out = s.out := rfl
@[simp] theorem State.p_free (k v : Nat) : (s.p k v).free = s.free := rfl
@[simp] theorem State.p_tick (k v : Nat) : (s.p k v).tick = s.tick := rfl
@[simp] theorem State.p_clock (k v : Nat) : (s.p k v).clock = s.clock := rfl
@[simp] theorem State.p_barLatch (k v : Nat) : (s.p k v).barLatch = s.barLatch := rfl
@[simp] theorem State.p_barHold (k v : Nat) : (s.p k v).barHold = s.barHold := rfl
@[simp] theorem State.p_modePend (k v : Nat) : (s.p k v).modePend = s.modePend := rfl
@[simp] theorem State.p_m2Left (k v : Nat) : (s.p k v).m2Left = s.m2Left := rfl
@[simp] theorem State.p_bootRom (k v : Nat) : (s.p k v).bootRom = s.bootRom := rfl
@[simp] theorem State.p_req3 (k v : Nat) : (s.p k v).req3 = s.req3 := rfl
@[simp] theorem State.p_spnFrames (k v : Nat) : (s.p k v).spnFrames = s.spnFrames := rfl
@[simp] theorem State.p_m0Causes (k v : Nat) : (s.p k v).m0Causes = s.m0Causes := rfl
@[simp] theorem State.p_sess (k v : Nat) : (s.p k v).sess = s.sess := rfl
@[simp] theorem State.p_txns (k v : Nat) : (s.p k v).txns = s.txns := rfl
@[simp] theorem State.p_commits (k v : Nat) : (s.p k v).commits = s.commits := rfl
@[simp] theorem State.p_chans (k v : Nat) : (s.p k v).chans = s.chans := rfl
@[simp] theorem State.p_shakes (k v : Nat) : (s.p k v).shakes = s.shakes := rfl
@[simp] theorem State.p_smb (k v : Nat) : (s.p k v).smb = s.smb := rfl
@[simp] theorem State.p_raised (k v : Nat) : (s.p k v).raised = s.raised := rfl
@[simp] theorem State.p_evLast (k v : Nat) : (s.p k v).evLast = s.evLast := rfl
@[simp] theorem State.p_fcSubs (k v : Nat) : (s.p k v).fcSubs = s.fcSubs := rfl
@[simp] theorem State.p_escSubs (k v : Nat) : (s.p k v).escSubs = s.escSubs := rfl
@[simp] theorem State.p_recOrd (k v : Nat) : (s.p k v).recOrd = s.recOrd := rfl
@[simp] theorem State.p_recNext (k v : Nat) : (s.p k v).recNext = s.recNext := rfl
@[simp] theorem State.p_handling (k v : Nat) : (s.p k v).handling = s.handling := rfl
@[simp] theorem State.p_shadows (k v : Nat) : (s.p k v).shadows = s.shadows := rfl
@[simp] theorem State.p_reacts (k v : Nat) : (s.p k v).reacts = s.reacts := rfl
@[simp] theorem State.p_resets (k v : Nat) : (s.p k v).resets = s.resets := rfl
@[simp] theorem State.p_forced (k v : Nat) : (s.p k v).forced = s.forced := rfl
@[simp] theorem State.p_msixMask (k v : Nat) : (s.p k v).msixMask = s.msixMask := rfl
@[simp] theorem State.p_msixPend (k v : Nat) : (s.p k v).msixPend = s.msixPend := rfl
@[simp] theorem State.p_meas (k v : Nat) : (s.p k v).meas = s.meas := rfl
@[simp] theorem State.p_utHid (k v : Nat) : (s.p k v).utHid = s.utHid := rfl
@[simp] theorem State.p_padHid (k v : Nat) : (s.p k v).padHid = s.padHid := rfl
@[simp] theorem State.p_inHid (k v : Nat) : (s.p k v).inHid = s.inHid := rfl
@[simp] theorem State.p_bankHid (k v : Nat) : (s.p k v).bankHid = s.bankHid := rfl
@[simp] theorem State.p_steerNext (k v : Nat) : (s.p k v).steerNext = s.steerNext := rfl
@[simp] theorem State.p_marginLow (k v : Nat) : (s.p k v).marginLow = s.marginLow := rfl
@[simp] theorem State.p_marginOk (k v : Nat) : (s.p k v).marginOk = s.marginOk := rfl
@[simp] theorem State.p_loscMiss (k v : Nat) : (s.p k v).loscMiss = s.loscMiss := rfl
@[simp] theorem State.p_unkLosc (k v : Nat) : (s.p k v).unkLosc = s.unkLosc := rfl
@[simp] theorem State.p_unkByp (k v : Nat) : (s.p k v).unkByp = s.unkByp := rfl
@[simp] theorem State.p_bypFrames (k v : Nat) : (s.p k v).bypFrames = s.bypFrames := rfl
@[simp] theorem State.p_bypSince (k v : Nat) : (s.p k v).bypSince = s.bypSince := rfl
@[simp] theorem State.p_bypResid (k v : Nat) : (s.p k v).bypResid = s.bypResid := rfl
@[simp] theorem State.p_lostLock (k v : Nat) : (s.p k v).lostLock = s.lostLock := rfl
@[simp] theorem State.p_slots (k v : Nat) : (s.p k v).slots = s.slots := rfl
@[simp] theorem State.p_selPend (k v : Nat) : (s.p k v).selPend = s.selPend := rfl
@[simp] theorem State.p_disag (k v : Nat) : (s.p k v).disag = s.disag := rfl
@[simp] theorem State.p_undisp (k v : Nat) : (s.p k v).undisp = s.undisp := rfl
@[simp] theorem State.p_predInt (k v : Nat) : (s.p k v).predInt = s.predInt := rfl
@[simp] theorem State.p_within (k v : Nat) : (s.p k v).within = s.within := rfl
@[simp] theorem State.p_servoErr (k v : Nat) : (s.p k v).servoErr = s.servoErr := rfl
@[simp] theorem State.p_newSmp (k v : Nat) : (s.p k v).newSmp = s.newSmp := rfl
@[simp] theorem State.p_target (k v : Nat) : (s.p k v).target = s.target := rfl
@[simp] theorem State.p_swOn (k v : Nat) : (s.p k v).swOn = s.swOn := rfl
@[simp] theorem State.p_learn (k v : Nat) : (s.p k v).learn = s.learn := rfl
@[simp] theorem State.p_learnN (k v : Nat) : (s.p k v).learnN = s.learnN := rfl
@[simp] theorem State.p_learnSum (k v : Nat) : (s.p k v).learnSum = s.learnSum := rfl
@[simp] theorem State.p_selfCal (k v : Nat) : (s.p k v).selfCal = s.selfCal := rfl
@[simp] theorem State.p_learnLast (k v : Nat) : (s.p k v).learnLast = s.learnLast := rfl
@[simp] theorem State.p_frozen (k v : Nat) : (s.p k v).frozen = s.frozen := rfl
@[simp] theorem State.p_coast (k v : Nat) : (s.p k v).coast = s.coast := rfl
@[simp] theorem State.p_coastTick (k v : Nat) : (s.p k v).coastTick = s.coastTick := rfl
@[simp] theorem State.p_timeTick (k v : Nat) : (s.p k v).timeTick = s.timeTick := rfl
@[simp] theorem State.p_erBuild (k v : Nat) : (s.p k v).erBuild = s.erBuild := rfl
@[simp] theorem State.p_stepped (k v : Nat) : (s.p k v).stepped = s.stepped := rfl
@[simp] theorem State.p_erCount (k v : Nat) : (s.p k v).erCount = s.erCount := rfl
@[simp] theorem State.p_tsStep (k v : Nat) : (s.p k v).tsStep = s.tsStep := rfl
@[simp] theorem State.p_stkBound (k v : Nat) : (s.p k v).stkBound = s.stkBound := rfl
@[simp] theorem State.p_stkCoarse (k v : Nat) : (s.p k v).stkCoarse = s.stkCoarse := rfl
@[simp] theorem State.p_stkLocal (k v : Nat) : (s.p k v).stkLocal = s.stkLocal := rfl
@[simp] theorem State.p_stkDepth (k v : Nat) : (s.p k v).stkDepth = s.stkDepth := rfl
@[simp] theorem State.p_stkAlert (k v : Nat) : (s.p k v).stkAlert = s.stkAlert := rfl
@[simp] theorem State.p_stkStart (k v : Nat) : (s.p k v).stkStart = s.stkStart := rfl
@[simp] theorem State.p_stk (k v : Nat) : (s.p k v).stk = s.stk := rfl
@[simp] theorem State.p_links (k v : Nat) : (s.p k v).links = s.links := rfl
@[simp] theorem State.p_fab (k v : Nat) : (s.p k v).fab = s.fab := rfl
@[simp] theorem State.p_vmem (k v : Nat) : (s.p k v).vmem = s.vmem := rfl
@[simp] theorem State.p_slotBytes (k v : Nat) : (s.p k v).slotBytes = s.slotBytes := rfl
@[simp] theorem State.p_xunits (k v : Nat) : (s.p k v).xunits = s.xunits := rfl
@[simp] theorem State.p_arb (k v : Nat) : (s.p k v).arb = s.arb := rfl
@[simp] theorem State.p_xfers (k v : Nat) : (s.p k v).xfers = s.xfers := rfl
@[simp] theorem State.p_lateTags (k v : Nat) : (s.p k v).lateTags = s.lateTags := rfl
@[simp] theorem State.p_rings (k v : Nat) : (s.p k v).rings = s.rings := rfl
@[simp] theorem State.p_lastBank (k v : Nat) : (s.p k v).lastBank = s.lastBank := rfl
@[simp] theorem State.p_quarIds (k v : Nat) : (s.p k v).quarIds = s.quarIds := rfl
@[simp] theorem State.p_genLog (k v : Nat) : (s.p k v).genLog = s.genLog := rfl
@[simp] theorem State.p_segFrees (k v : Nat) : (s.p k v).segFrees = s.segFrees := rfl
@[simp] theorem State.p_segRetire (k v : Nat) : (s.p k v).segRetire = s.segRetire := rfl
@[simp] theorem State.p_streamIt (k v : Nat) : (s.p k v).streamIt = s.streamIt := rfl
@[simp] theorem State.p_moveDone (k v : Nat) : (s.p k v).moveDone = s.moveDone := rfl
@[simp] theorem State.p_selftest (k v : Nat) : (s.p k v).selftest = s.selftest := rfl
@[simp] theorem State.p_qp (k v : Nat) : (s.p k v).qp = s.qp := rfl
@[simp] theorem State.p_scrubAt (k v : Nat) : (s.p k v).scrubAt = s.scrubAt := rfl
@[simp] theorem State.p_scrubTick (k v : Nat) : (s.p k v).scrubTick = s.scrubTick := rfl
@[simp] theorem State.p_lostBank (k v : Nat) : (s.p k v).lostBank = s.lostBank := rfl
@[simp] theorem State.p_resDue (k v : Nat) : (s.p k v).resDue = s.resDue := rfl
@[simp] theorem State.p_devCtl (k v : Nat) : (s.p k v).devCtl = s.devCtl := rfl
@[simp] theorem State.p_sqHid (k v : Nat) : (s.p k v).sqHid = s.sqHid := rfl
@[simp] theorem State.p_chHid (k v : Nat) : (s.p k v).chHid = s.chHid := rfl
@[simp] theorem State.p_coreHid (k v : Nat) : (s.p k v).coreHid = s.coreHid := rfl
@[simp] theorem State.p_passed (k v : Nat) : (s.p k v).passed = s.passed := rfl
@[simp] theorem State.p_lanesOut (k v : Nat) : (s.p k v).lanesOut = s.lanesOut := rfl
@[simp] theorem State.p_corr (k v : Nat) : (s.p k v).corr = s.corr := rfl
@[simp] theorem State.p_supOut (k v : Nat) : (s.p k v).supOut = s.supOut := rfl
@[simp] theorem State.p_hotFrames (k v : Nat) : (s.p k v).hotFrames = s.hotFrames := rfl
@[simp] theorem State.p_cal (k v : Nat) : (s.p k v).cal = s.cal := rfl
@[simp] theorem State.p_ancRun (k v : Nat) : (s.p k v).ancRun = s.ancRun := rfl
@[simp] theorem State.p_baseline (k v : Nat) : (s.p k v).baseline = s.baseline := rfl
@[simp] theorem State.p_auditBlk (k v : Nat) : (s.p k v).auditBlk = s.auditBlk := rfl
@[simp] theorem State.p_calRetry (k v : Nat) : (s.p k v).calRetry = s.calRetry := rfl
@[simp] theorem State.p_calSince (k v : Nat) : (s.p k v).calSince = s.calSince := rfl
@[simp] theorem State.p_nvm (k v : Nat) : (s.p k v).nvm = s.nvm := rfl
@[simp] theorem State.p_nvmBoot (k v : Nat) : (s.p k v).nvmBoot = s.nvmBoot := rfl
@[simp] theorem State.p_store (k v : Nat) : (s.p k v).store = s.store := rfl
@[simp] theorem State.p_storeDue (k v : Nat) : (s.p k v).storeDue = s.storeDue := rfl
@[simp] theorem State.p_storeLast (k v : Nat) : (s.p k v).storeLast = s.storeLast := rfl
@[simp] theorem State.p_host (k v : Nat) : (s.p k v).host = s.host := rfl

@[simp] theorem State.emit_pending (o : Out) : (s.emit o).pending = s.pending := rfl
@[simp] theorem State.emit_out (o : Out) : (s.emit o).out = s.out ++ [o] := rfl
@[simp] theorem State.emit_free (o : Out) : (s.emit o).free = s.free := rfl
@[simp] theorem State.emit_od (o : Out) : (s.emit o).od = s.od := rfl
@[simp] theorem State.emit_tick (o : Out) : (s.emit o).tick = s.tick := rfl
@[simp] theorem State.emit_clock (o : Out) : (s.emit o).clock = s.clock := rfl
@[simp] theorem State.emit_raised (o : Out) : (s.emit o).raised = s.raised := rfl
@[simp] theorem State.emit_modePend (o : Out) : (s.emit o).modePend = s.modePend := rfl
@[simp] theorem State.emit_sess (o : Out) : (s.emit o).sess = s.sess := rfl
@[simp] theorem State.emit_commits (o : Out) : (s.emit o).commits = s.commits := rfl
@[simp] theorem State.emit_shadows (o : Out) : (s.emit o).shadows = s.shadows := rfl
@[simp] theorem State.emit_resets (o : Out) : (s.emit o).resets = s.resets := rfl
@[simp] theorem State.emit_slots (o : Out) : (s.emit o).slots = s.slots := rfl
@[simp] theorem State.emit_selPend (o : Out) : (s.emit o).selPend = s.selPend := rfl
@[simp] theorem State.emit_sqHid (o : Out) : (s.emit o).sqHid = s.sqHid := rfl
@[simp] theorem State.emit_chHid (o : Out) : (s.emit o).chHid = s.chHid := rfl
@[simp] theorem State.emit_padHid (o : Out) : (s.emit o).padHid = s.padHid := rfl
@[simp] theorem State.emit_vmem (o : Out) : (s.emit o).vmem = s.vmem := rfl
@[simp] theorem State.emit_slotBytes (o : Out) : (s.emit o).slotBytes = s.slotBytes := rfl
@[simp] theorem State.emit_meas (o : Out) : (s.emit o).meas = s.meas := rfl
@[simp] theorem State.emit_host (o : Out) : (s.emit o).host = s.host := rfl
@[simp] theorem State.emit_qp (o : Out) : (s.emit o).qp = s.qp := rfl
@[simp] theorem State.emit_fab (o : Out) : (s.emit o).fab = s.fab := rfl
@[simp] theorem State.emit_stk (o : Out) : (s.emit o).stk = s.stk := rfl
@[simp] theorem State.emit_links (o : Out) : (s.emit o).links = s.links := rfl
@[simp] theorem State.emit_loscMiss (o : Out) : (s.emit o).loscMiss = s.loscMiss := rfl
@[simp] theorem State.emit_bootRom (o : Out) : (s.emit o).bootRom = s.bootRom := rfl
@[simp] theorem State.g_emit (o : Out) (k : Nat) : (s.emit o).g k = s.g k := rfl

@[simp] theorem State.putEv_pending (src : Nat) (e : Ev) : (s.putEv src e).pending = s.pending := rfl
@[simp] theorem State.putEv_out (src : Nat) (e : Ev) : (s.putEv src e).out = s.out := rfl
@[simp] theorem State.putEv_free (src : Nat) (e : Ev) : (s.putEv src e).free = s.free := rfl
@[simp] theorem State.putEv_od (src : Nat) (e : Ev) : (s.putEv src e).od = s.od := rfl
@[simp] theorem State.putEv_tick (src : Nat) (e : Ev) : (s.putEv src e).tick = s.tick := rfl
@[simp] theorem State.putEv_clock (src : Nat) (e : Ev) : (s.putEv src e).clock = s.clock := rfl
@[simp] theorem State.putEv_raised (src : Nat) (e : Ev) : (s.putEv src e).raised = Sp.ins s.raised src e := rfl
@[simp] theorem State.putEv_modePend (src : Nat) (e : Ev) : (s.putEv src e).modePend = s.modePend := rfl
@[simp] theorem State.putEv_sess (src : Nat) (e : Ev) : (s.putEv src e).sess = s.sess := rfl
@[simp] theorem State.putEv_commits (src : Nat) (e : Ev) : (s.putEv src e).commits = s.commits := rfl
@[simp] theorem State.putEv_shadows (src : Nat) (e : Ev) : (s.putEv src e).shadows = s.shadows := rfl
@[simp] theorem State.putEv_resets (src : Nat) (e : Ev) : (s.putEv src e).resets = s.resets := rfl
@[simp] theorem State.putEv_slots (src : Nat) (e : Ev) : (s.putEv src e).slots = s.slots := rfl
@[simp] theorem State.putEv_selPend (src : Nat) (e : Ev) : (s.putEv src e).selPend = s.selPend := rfl
@[simp] theorem State.putEv_sqHid (src : Nat) (e : Ev) : (s.putEv src e).sqHid = s.sqHid := rfl
@[simp] theorem State.putEv_chHid (src : Nat) (e : Ev) : (s.putEv src e).chHid = s.chHid := rfl
@[simp] theorem State.putEv_padHid (src : Nat) (e : Ev) : (s.putEv src e).padHid = s.padHid := rfl
@[simp] theorem State.putEv_vmem (src : Nat) (e : Ev) : (s.putEv src e).vmem = s.vmem := rfl
@[simp] theorem State.putEv_slotBytes (src : Nat) (e : Ev) : (s.putEv src e).slotBytes = s.slotBytes := rfl
@[simp] theorem State.putEv_meas (src : Nat) (e : Ev) : (s.putEv src e).meas = s.meas := rfl
@[simp] theorem State.putEv_host (src : Nat) (e : Ev) : (s.putEv src e).host = s.host := rfl
@[simp] theorem State.putEv_qp (src : Nat) (e : Ev) : (s.putEv src e).qp = s.qp := rfl
@[simp] theorem State.putEv_fab (src : Nat) (e : Ev) : (s.putEv src e).fab = s.fab := rfl
@[simp] theorem State.putEv_stk (src : Nat) (e : Ev) : (s.putEv src e).stk = s.stk := rfl
@[simp] theorem State.putEv_links (src : Nat) (e : Ev) : (s.putEv src e).links = s.links := rfl
@[simp] theorem State.putEv_loscMiss (src : Nat) (e : Ev) : (s.putEv src e).loscMiss = s.loscMiss := rfl
@[simp] theorem State.putEv_bootRom (src : Nat) (e : Ev) : (s.putEv src e).bootRom = s.bootRom := rfl
@[simp] theorem State.g_putEv (src : Nat) (e : Ev) (k : Nat) : (s.putEv src e).g k = s.g k := rfl
@[simp] theorem State.ev_putEv (src : Nat) (e : Ev) : (s.putEv src e).ev src = some e := Sp.find_ins_same s.raised src e

/-! ## Events -/

@[simp] theorem State.raiseBits_pending (src m : Nat) : (s.raiseBits src m).pending = s.pending := by unfold State.raiseBits; split <;> rfl
@[simp] theorem State.raiseBits_out (src m : Nat) : (s.raiseBits src m).out = s.out := by unfold State.raiseBits; split <;> rfl
@[simp] theorem State.raiseBits_free (src m : Nat) : (s.raiseBits src m).free = s.free := by unfold State.raiseBits; split <;> rfl
@[simp] theorem State.raiseBits_od (src m : Nat) : (s.raiseBits src m).od = s.od := by unfold State.raiseBits; split <;> rfl
@[simp] theorem State.raiseBits_tick (src m : Nat) : (s.raiseBits src m).tick = s.tick := by unfold State.raiseBits; split <;> rfl
@[simp] theorem State.raiseBits_clock (src m : Nat) : (s.raiseBits src m).clock = s.clock := by unfold State.raiseBits; split <;> rfl
@[simp] theorem State.raiseBits_modePend (src m : Nat) : (s.raiseBits src m).modePend = s.modePend := by unfold State.raiseBits; split <;> rfl
@[simp] theorem State.raiseBits_sess (src m : Nat) : (s.raiseBits src m).sess = s.sess := by unfold State.raiseBits; split <;> rfl
@[simp] theorem State.raiseBits_commits (src m : Nat) : (s.raiseBits src m).commits = s.commits := by unfold State.raiseBits; split <;> rfl
@[simp] theorem State.raiseBits_shadows (src m : Nat) : (s.raiseBits src m).shadows = s.shadows := by unfold State.raiseBits; split <;> rfl
@[simp] theorem State.raiseBits_resets (src m : Nat) : (s.raiseBits src m).resets = s.resets := by unfold State.raiseBits; split <;> rfl
@[simp] theorem State.raiseBits_slots (src m : Nat) : (s.raiseBits src m).slots = s.slots := by unfold State.raiseBits; split <;> rfl
@[simp] theorem State.raiseBits_selPend (src m : Nat) : (s.raiseBits src m).selPend = s.selPend := by unfold State.raiseBits; split <;> rfl
@[simp] theorem State.raiseBits_sqHid (src m : Nat) : (s.raiseBits src m).sqHid = s.sqHid := by unfold State.raiseBits; split <;> rfl
@[simp] theorem State.raiseBits_chHid (src m : Nat) : (s.raiseBits src m).chHid = s.chHid := by unfold State.raiseBits; split <;> rfl
@[simp] theorem State.raiseBits_padHid (src m : Nat) : (s.raiseBits src m).padHid = s.padHid := by unfold State.raiseBits; split <;> rfl
@[simp] theorem State.raiseBits_vmem (src m : Nat) : (s.raiseBits src m).vmem = s.vmem := by unfold State.raiseBits; split <;> rfl
@[simp] theorem State.raiseBits_slotBytes (src m : Nat) : (s.raiseBits src m).slotBytes = s.slotBytes := by unfold State.raiseBits; split <;> rfl
@[simp] theorem State.raiseBits_meas (src m : Nat) : (s.raiseBits src m).meas = s.meas := by unfold State.raiseBits; split <;> rfl
@[simp] theorem State.raiseBits_host (src m : Nat) : (s.raiseBits src m).host = s.host := by unfold State.raiseBits; split <;> rfl
@[simp] theorem State.raiseBits_qp (src m : Nat) : (s.raiseBits src m).qp = s.qp := by unfold State.raiseBits; split <;> rfl
@[simp] theorem State.raiseBits_fab (src m : Nat) : (s.raiseBits src m).fab = s.fab := by unfold State.raiseBits; split <;> rfl
@[simp] theorem State.raiseBits_stk (src m : Nat) : (s.raiseBits src m).stk = s.stk := by unfold State.raiseBits; split <;> rfl
@[simp] theorem State.raiseBits_links (src m : Nat) : (s.raiseBits src m).links = s.links := by unfold State.raiseBits; split <;> rfl
@[simp] theorem State.raiseBits_loscMiss (src m : Nat) : (s.raiseBits src m).loscMiss = s.loscMiss := by unfold State.raiseBits; split <;> rfl
@[simp] theorem State.raiseBits_bootRom (src m : Nat) : (s.raiseBits src m).bootRom = s.bootRom := by unfold State.raiseBits; split <;> rfl
@[simp] theorem State.g_raiseBits (src m : Nat) (k : Nat) : (s.raiseBits src m).g k = s.g k := by unfold State.raiseBits; split <;> rfl
@[simp] theorem State.raiseVal_pending (src d : Nat) : (s.raiseVal src d).pending = s.pending := by unfold State.raiseVal; split <;> rfl
@[simp] theorem State.raiseVal_out (src d : Nat) : (s.raiseVal src d).out = s.out := by unfold State.raiseVal; split <;> rfl
@[simp] theorem State.raiseVal_free (src d : Nat) : (s.raiseVal src d).free = s.free := by unfold State.raiseVal; split <;> rfl
@[simp] theorem State.raiseVal_od (src d : Nat) : (s.raiseVal src d).od = s.od := by unfold State.raiseVal; split <;> rfl
@[simp] theorem State.raiseVal_tick (src d : Nat) : (s.raiseVal src d).tick = s.tick := by unfold State.raiseVal; split <;> rfl
@[simp] theorem State.raiseVal_clock (src d : Nat) : (s.raiseVal src d).clock = s.clock := by unfold State.raiseVal; split <;> rfl
@[simp] theorem State.raiseVal_modePend (src d : Nat) : (s.raiseVal src d).modePend = s.modePend := by unfold State.raiseVal; split <;> rfl
@[simp] theorem State.raiseVal_sess (src d : Nat) : (s.raiseVal src d).sess = s.sess := by unfold State.raiseVal; split <;> rfl
@[simp] theorem State.raiseVal_commits (src d : Nat) : (s.raiseVal src d).commits = s.commits := by unfold State.raiseVal; split <;> rfl
@[simp] theorem State.raiseVal_shadows (src d : Nat) : (s.raiseVal src d).shadows = s.shadows := by unfold State.raiseVal; split <;> rfl
@[simp] theorem State.raiseVal_resets (src d : Nat) : (s.raiseVal src d).resets = s.resets := by unfold State.raiseVal; split <;> rfl
@[simp] theorem State.raiseVal_slots (src d : Nat) : (s.raiseVal src d).slots = s.slots := by unfold State.raiseVal; split <;> rfl
@[simp] theorem State.raiseVal_selPend (src d : Nat) : (s.raiseVal src d).selPend = s.selPend := by unfold State.raiseVal; split <;> rfl
@[simp] theorem State.raiseVal_sqHid (src d : Nat) : (s.raiseVal src d).sqHid = s.sqHid := by unfold State.raiseVal; split <;> rfl
@[simp] theorem State.raiseVal_chHid (src d : Nat) : (s.raiseVal src d).chHid = s.chHid := by unfold State.raiseVal; split <;> rfl
@[simp] theorem State.raiseVal_padHid (src d : Nat) : (s.raiseVal src d).padHid = s.padHid := by unfold State.raiseVal; split <;> rfl
@[simp] theorem State.raiseVal_vmem (src d : Nat) : (s.raiseVal src d).vmem = s.vmem := by unfold State.raiseVal; split <;> rfl
@[simp] theorem State.raiseVal_slotBytes (src d : Nat) : (s.raiseVal src d).slotBytes = s.slotBytes := by unfold State.raiseVal; split <;> rfl
@[simp] theorem State.raiseVal_meas (src d : Nat) : (s.raiseVal src d).meas = s.meas := by unfold State.raiseVal; split <;> rfl
@[simp] theorem State.raiseVal_host (src d : Nat) : (s.raiseVal src d).host = s.host := by unfold State.raiseVal; split <;> rfl
@[simp] theorem State.raiseVal_qp (src d : Nat) : (s.raiseVal src d).qp = s.qp := by unfold State.raiseVal; split <;> rfl
@[simp] theorem State.raiseVal_fab (src d : Nat) : (s.raiseVal src d).fab = s.fab := by unfold State.raiseVal; split <;> rfl
@[simp] theorem State.raiseVal_stk (src d : Nat) : (s.raiseVal src d).stk = s.stk := by unfold State.raiseVal; split <;> rfl
@[simp] theorem State.raiseVal_links (src d : Nat) : (s.raiseVal src d).links = s.links := by unfold State.raiseVal; split <;> rfl
@[simp] theorem State.raiseVal_loscMiss (src d : Nat) : (s.raiseVal src d).loscMiss = s.loscMiss := by unfold State.raiseVal; split <;> rfl
@[simp] theorem State.raiseVal_bootRom (src d : Nat) : (s.raiseVal src d).bootRom = s.bootRom := by unfold State.raiseVal; split <;> rfl
@[simp] theorem State.g_raiseVal (src d : Nat) (k : Nat) : (s.raiseVal src d).g k = s.g k := by unfold State.raiseVal; split <;> rfl
@[simp] theorem State.raiseDet_pending (src d m : Nat) : (s.raiseDet src d m).pending = s.pending := by unfold State.raiseDet; split <;> rfl
@[simp] theorem State.raiseDet_out (src d m : Nat) : (s.raiseDet src d m).out = s.out := by unfold State.raiseDet; split <;> rfl
@[simp] theorem State.raiseDet_free (src d m : Nat) : (s.raiseDet src d m).free = s.free := by unfold State.raiseDet; split <;> rfl
@[simp] theorem State.raiseDet_od (src d m : Nat) : (s.raiseDet src d m).od = s.od := by unfold State.raiseDet; split <;> rfl
@[simp] theorem State.raiseDet_tick (src d m : Nat) : (s.raiseDet src d m).tick = s.tick := by unfold State.raiseDet; split <;> rfl
@[simp] theorem State.raiseDet_clock (src d m : Nat) : (s.raiseDet src d m).clock = s.clock := by unfold State.raiseDet; split <;> rfl
@[simp] theorem State.raiseDet_modePend (src d m : Nat) : (s.raiseDet src d m).modePend = s.modePend := by unfold State.raiseDet; split <;> rfl
@[simp] theorem State.raiseDet_sess (src d m : Nat) : (s.raiseDet src d m).sess = s.sess := by unfold State.raiseDet; split <;> rfl
@[simp] theorem State.raiseDet_commits (src d m : Nat) : (s.raiseDet src d m).commits = s.commits := by unfold State.raiseDet; split <;> rfl
@[simp] theorem State.raiseDet_shadows (src d m : Nat) : (s.raiseDet src d m).shadows = s.shadows := by unfold State.raiseDet; split <;> rfl
@[simp] theorem State.raiseDet_resets (src d m : Nat) : (s.raiseDet src d m).resets = s.resets := by unfold State.raiseDet; split <;> rfl
@[simp] theorem State.raiseDet_slots (src d m : Nat) : (s.raiseDet src d m).slots = s.slots := by unfold State.raiseDet; split <;> rfl
@[simp] theorem State.raiseDet_selPend (src d m : Nat) : (s.raiseDet src d m).selPend = s.selPend := by unfold State.raiseDet; split <;> rfl
@[simp] theorem State.raiseDet_sqHid (src d m : Nat) : (s.raiseDet src d m).sqHid = s.sqHid := by unfold State.raiseDet; split <;> rfl
@[simp] theorem State.raiseDet_chHid (src d m : Nat) : (s.raiseDet src d m).chHid = s.chHid := by unfold State.raiseDet; split <;> rfl
@[simp] theorem State.raiseDet_padHid (src d m : Nat) : (s.raiseDet src d m).padHid = s.padHid := by unfold State.raiseDet; split <;> rfl
@[simp] theorem State.raiseDet_vmem (src d m : Nat) : (s.raiseDet src d m).vmem = s.vmem := by unfold State.raiseDet; split <;> rfl
@[simp] theorem State.raiseDet_slotBytes (src d m : Nat) : (s.raiseDet src d m).slotBytes = s.slotBytes := by unfold State.raiseDet; split <;> rfl
@[simp] theorem State.raiseDet_meas (src d m : Nat) : (s.raiseDet src d m).meas = s.meas := by unfold State.raiseDet; split <;> rfl
@[simp] theorem State.raiseDet_host (src d m : Nat) : (s.raiseDet src d m).host = s.host := by unfold State.raiseDet; split <;> rfl
@[simp] theorem State.raiseDet_qp (src d m : Nat) : (s.raiseDet src d m).qp = s.qp := by unfold State.raiseDet; split <;> rfl
@[simp] theorem State.raiseDet_fab (src d m : Nat) : (s.raiseDet src d m).fab = s.fab := by unfold State.raiseDet; split <;> rfl
@[simp] theorem State.raiseDet_stk (src d m : Nat) : (s.raiseDet src d m).stk = s.stk := by unfold State.raiseDet; split <;> rfl
@[simp] theorem State.raiseDet_links (src d m : Nat) : (s.raiseDet src d m).links = s.links := by unfold State.raiseDet; split <;> rfl
@[simp] theorem State.raiseDet_loscMiss (src d m : Nat) : (s.raiseDet src d m).loscMiss = s.loscMiss := by unfold State.raiseDet; split <;> rfl
@[simp] theorem State.raiseDet_bootRom (src d m : Nat) : (s.raiseDet src d m).bootRom = s.bootRom := by unfold State.raiseDet; split <;> rfl
@[simp] theorem State.g_raiseDet (src d m : Nat) (k : Nat) : (s.raiseDet src d m).g k = s.g k := by unfold State.raiseDet; split <;> rfl
/-- A raised source has its event in the frame. -/
@[simp] theorem State.raiseBits_isSome (src m : Nat) : ((s.raiseBits src m).ev src).isSome = true := by
  unfold State.raiseBits; split <;> simp
@[simp] theorem State.raiseVal_isSome (src d : Nat) : ((s.raiseVal src d).ev src).isSome = true := by
  unfold State.raiseVal; split <;> simp_all
@[simp] theorem State.raiseDet_isSome (src d m : Nat) : ((s.raiseDet src d m).ev src).isSome = true := by
  unfold State.raiseDet; split <;> simp
theorem State.ev_of_raised {s t : State} (h : t.raised = s.raised) (src : Nat) : t.ev src = s.ev src := by unfold State.ev; rw [h]

/-! ## Hidden records -/

@[simp] theorem State.setSess_pending (k : Nat) (h : SessHid) : (s.setSess k h).pending = s.pending := rfl
@[simp] theorem State.setSess_out (k : Nat) (h : SessHid) : (s.setSess k h).out = s.out := rfl
@[simp] theorem State.setSess_od (k : Nat) (h : SessHid) : (s.setSess k h).od = s.od := rfl
@[simp] theorem State.setSess_tick (k : Nat) (h : SessHid) : (s.setSess k h).tick = s.tick := rfl
@[simp] theorem State.setSess_raised (k : Nat) (h : SessHid) : (s.setSess k h).raised = s.raised := rfl
@[simp] theorem State.setSess_vmem (k : Nat) (h : SessHid) : (s.setSess k h).vmem = s.vmem := rfl
@[simp] theorem State.g_setSess (k : Nat) (h : SessHid) (k' : Nat) : (s.setSess k h).g k' = s.g k' := rfl
@[simp] theorem State.sessOf_setSess_same (k : Nat) (h : SessHid) : (s.setSess k h).sessOf k = h := Sp.get_set_same _ _ _ _
@[simp] theorem State.sessOf_setSess_other {j k : Nat} (h : SessHid) (hj : j ≠ k) : (s.setSess k h).sessOf j = s.sessOf j := Sp.get_set_other _ _ _ hj
@[simp] theorem State.setUt_pending (u : Nat) (h : UtHid) : (s.setUt u h).pending = s.pending := rfl
@[simp] theorem State.setUt_out (u : Nat) (h : UtHid) : (s.setUt u h).out = s.out := rfl
@[simp] theorem State.setUt_od (u : Nat) (h : UtHid) : (s.setUt u h).od = s.od := rfl
@[simp] theorem State.setUt_tick (u : Nat) (h : UtHid) : (s.setUt u h).tick = s.tick := rfl
@[simp] theorem State.setUt_raised (u : Nat) (h : UtHid) : (s.setUt u h).raised = s.raised := rfl
@[simp] theorem State.setUt_vmem (u : Nat) (h : UtHid) : (s.setUt u h).vmem = s.vmem := rfl
@[simp] theorem State.g_setUt (u : Nat) (h : UtHid) (k' : Nat) : (s.setUt u h).g k' = s.g k' := rfl
@[simp] theorem State.ut_setUt_same (u : Nat) (h : UtHid) : (s.setUt u h).ut u = h := Sp.get_set_same _ _ _ _
@[simp] theorem State.ut_setUt_other {j u : Nat} (h : UtHid) (hj : j ≠ u) : (s.setUt u h).ut j = s.ut j := Sp.get_set_other _ _ _ hj
@[simp] theorem State.setPad_pending (c : Nat) (h : PadHid) : (s.setPad c h).pending = s.pending := rfl
@[simp] theorem State.setPad_out (c : Nat) (h : PadHid) : (s.setPad c h).out = s.out := rfl
@[simp] theorem State.setPad_od (c : Nat) (h : PadHid) : (s.setPad c h).od = s.od := rfl
@[simp] theorem State.setPad_tick (c : Nat) (h : PadHid) : (s.setPad c h).tick = s.tick := rfl
@[simp] theorem State.setPad_raised (c : Nat) (h : PadHid) : (s.setPad c h).raised = s.raised := rfl
@[simp] theorem State.setPad_vmem (c : Nat) (h : PadHid) : (s.setPad c h).vmem = s.vmem := rfl
@[simp] theorem State.g_setPad (c : Nat) (h : PadHid) (k' : Nat) : (s.setPad c h).g k' = s.g k' := rfl
@[simp] theorem State.pad_setPad_same (c : Nat) (h : PadHid) : (s.setPad c h).pad c = h := Sp.get_set_same _ _ _ _
@[simp] theorem State.pad_setPad_other {j c : Nat} (h : PadHid) (hj : j ≠ c) : (s.setPad c h).pad j = s.pad j := Sp.get_set_other _ _ _ hj
@[simp] theorem State.setInp_pending (n : Nat) (h : InHid) : (s.setInp n h).pending = s.pending := rfl
@[simp] theorem State.setInp_out (n : Nat) (h : InHid) : (s.setInp n h).out = s.out := rfl
@[simp] theorem State.setInp_od (n : Nat) (h : InHid) : (s.setInp n h).od = s.od := rfl
@[simp] theorem State.setInp_tick (n : Nat) (h : InHid) : (s.setInp n h).tick = s.tick := rfl
@[simp] theorem State.setInp_raised (n : Nat) (h : InHid) : (s.setInp n h).raised = s.raised := rfl
@[simp] theorem State.setInp_vmem (n : Nat) (h : InHid) : (s.setInp n h).vmem = s.vmem := rfl
@[simp] theorem State.g_setInp (n : Nat) (h : InHid) (k' : Nat) : (s.setInp n h).g k' = s.g k' := rfl
@[simp] theorem State.inp_setInp_same (n : Nat) (h : InHid) : (s.setInp n h).inp n = h := Sp.get_set_same _ _ _ _
@[simp] theorem State.inp_setInp_other {j n : Nat} (h : InHid) (hj : j ≠ n) : (s.setInp n h).inp j = s.inp j := Sp.get_set_other _ _ _ hj
@[simp] theorem State.setBank_pending (k : Nat) (h : BankHid) : (s.setBank k h).pending = s.pending := rfl
@[simp] theorem State.setBank_out (k : Nat) (h : BankHid) : (s.setBank k h).out = s.out := rfl
@[simp] theorem State.setBank_od (k : Nat) (h : BankHid) : (s.setBank k h).od = s.od := rfl
@[simp] theorem State.setBank_tick (k : Nat) (h : BankHid) : (s.setBank k h).tick = s.tick := rfl
@[simp] theorem State.setBank_raised (k : Nat) (h : BankHid) : (s.setBank k h).raised = s.raised := rfl
@[simp] theorem State.setBank_vmem (k : Nat) (h : BankHid) : (s.setBank k h).vmem = s.vmem := rfl
@[simp] theorem State.g_setBank (k : Nat) (h : BankHid) (k' : Nat) : (s.setBank k h).g k' = s.g k' := rfl
@[simp] theorem State.bank_setBank_same (k : Nat) (h : BankHid) : (s.setBank k h).bank k = h := Sp.get_set_same _ _ _ _
@[simp] theorem State.bank_setBank_other {j k : Nat} (h : BankHid) (hj : j ≠ k) : (s.setBank k h).bank j = s.bank j := Sp.get_set_other _ _ _ hj
@[simp] theorem State.setSlot_pending (n : Nat) (h : SlotHid) : (s.setSlot n h).pending = s.pending := rfl
@[simp] theorem State.setSlot_out (n : Nat) (h : SlotHid) : (s.setSlot n h).out = s.out := rfl
@[simp] theorem State.setSlot_od (n : Nat) (h : SlotHid) : (s.setSlot n h).od = s.od := rfl
@[simp] theorem State.setSlot_tick (n : Nat) (h : SlotHid) : (s.setSlot n h).tick = s.tick := rfl
@[simp] theorem State.setSlot_raised (n : Nat) (h : SlotHid) : (s.setSlot n h).raised = s.raised := rfl
@[simp] theorem State.setSlot_vmem (n : Nat) (h : SlotHid) : (s.setSlot n h).vmem = s.vmem := rfl
@[simp] theorem State.g_setSlot (n : Nat) (h : SlotHid) (k' : Nat) : (s.setSlot n h).g k' = s.g k' := rfl
@[simp] theorem State.slot_setSlot_same (n : Nat) (h : SlotHid) : (s.setSlot n h).slot n = h := Sp.get_set_same _ _ _ _
@[simp] theorem State.slot_setSlot_other {j n : Nat} (h : SlotHid) (hj : j ≠ n) : (s.setSlot n h).slot j = s.slot j := Sp.get_set_other _ _ _ hj
@[simp] theorem State.setSq_pending (q : Nat) (h : SqHid) : (s.setSq q h).pending = s.pending := rfl
@[simp] theorem State.setSq_out (q : Nat) (h : SqHid) : (s.setSq q h).out = s.out := rfl
@[simp] theorem State.setSq_od (q : Nat) (h : SqHid) : (s.setSq q h).od = s.od := rfl
@[simp] theorem State.setSq_tick (q : Nat) (h : SqHid) : (s.setSq q h).tick = s.tick := rfl
@[simp] theorem State.setSq_raised (q : Nat) (h : SqHid) : (s.setSq q h).raised = s.raised := rfl
@[simp] theorem State.setSq_vmem (q : Nat) (h : SqHid) : (s.setSq q h).vmem = s.vmem := rfl
@[simp] theorem State.g_setSq (q : Nat) (h : SqHid) (k' : Nat) : (s.setSq q h).g k' = s.g k' := rfl
@[simp] theorem State.sq_setSq_same (q : Nat) (h : SqHid) : (s.setSq q h).sq q = h := Sp.get_set_same _ _ _ _
@[simp] theorem State.sq_setSq_other {j q : Nat} (h : SqHid) (hj : j ≠ q) : (s.setSq q h).sq j = s.sq j := Sp.get_set_other _ _ _ hj
@[simp] theorem State.setCh_pending (c : Nat) (h : ChHid) : (s.setCh c h).pending = s.pending := rfl
@[simp] theorem State.setCh_out (c : Nat) (h : ChHid) : (s.setCh c h).out = s.out := rfl
@[simp] theorem State.setCh_od (c : Nat) (h : ChHid) : (s.setCh c h).od = s.od := rfl
@[simp] theorem State.setCh_tick (c : Nat) (h : ChHid) : (s.setCh c h).tick = s.tick := rfl
@[simp] theorem State.setCh_raised (c : Nat) (h : ChHid) : (s.setCh c h).raised = s.raised := rfl
@[simp] theorem State.setCh_vmem (c : Nat) (h : ChHid) : (s.setCh c h).vmem = s.vmem := rfl
@[simp] theorem State.g_setCh (c : Nat) (h : ChHid) (k' : Nat) : (s.setCh c h).g k' = s.g k' := rfl
@[simp] theorem State.ch_setCh_same (c : Nat) (h : ChHid) : (s.setCh c h).ch c = h := Sp.get_set_same _ _ _ _
@[simp] theorem State.ch_setCh_other {j c : Nat} (h : ChHid) (hj : j ≠ c) : (s.setCh c h).ch j = s.ch j := Sp.get_set_other _ _ _ hj
@[simp] theorem State.setCore_pending (k : Nat) (h : CoreHid) : (s.setCore k h).pending = s.pending := rfl
@[simp] theorem State.setCore_out (k : Nat) (h : CoreHid) : (s.setCore k h).out = s.out := rfl
@[simp] theorem State.setCore_od (k : Nat) (h : CoreHid) : (s.setCore k h).od = s.od := rfl
@[simp] theorem State.setCore_tick (k : Nat) (h : CoreHid) : (s.setCore k h).tick = s.tick := rfl
@[simp] theorem State.setCore_raised (k : Nat) (h : CoreHid) : (s.setCore k h).raised = s.raised := rfl
@[simp] theorem State.setCore_vmem (k : Nat) (h : CoreHid) : (s.setCore k h).vmem = s.vmem := rfl
@[simp] theorem State.g_setCore (k : Nat) (h : CoreHid) (k' : Nat) : (s.setCore k h).g k' = s.g k' := rfl
@[simp] theorem State.core_setCore_same (k : Nat) (h : CoreHid) : (s.setCore k h).core k = h := Sp.get_set_same _ _ _ _
@[simp] theorem State.core_setCore_other {j k : Nat} (h : CoreHid) (hj : j ≠ k) : (s.setCore k h).core j = s.core j := Sp.get_set_other _ _ _ hj
@[simp] theorem State.setLink_pending (k : Nat) (h : LinkHid) : (s.setLink k h).pending = s.pending := rfl
@[simp] theorem State.setLink_out (k : Nat) (h : LinkHid) : (s.setLink k h).out = s.out := rfl
@[simp] theorem State.setLink_od (k : Nat) (h : LinkHid) : (s.setLink k h).od = s.od := rfl
@[simp] theorem State.setLink_tick (k : Nat) (h : LinkHid) : (s.setLink k h).tick = s.tick := rfl
@[simp] theorem State.setLink_raised (k : Nat) (h : LinkHid) : (s.setLink k h).raised = s.raised := rfl
@[simp] theorem State.setLink_vmem (k : Nat) (h : LinkHid) : (s.setLink k h).vmem = s.vmem := rfl
@[simp] theorem State.g_setLink (k : Nat) (h : LinkHid) (k' : Nat) : (s.setLink k h).g k' = s.g k' := rfl
@[simp] theorem State.link_setLink_same (k : Nat) (h : LinkHid) : (s.setLink k h).link k = h := Sp.get_set_same _ _ _ _
@[simp] theorem State.link_setLink_other {j k : Nat} (h : LinkHid) (hj : j ≠ k) : (s.setLink k h).link j = s.link j := Sp.get_set_other _ _ _ hj
@[simp] theorem State.setRing_pending (q : Nat) (h : RingHid) : (s.setRing q h).pending = s.pending := rfl
@[simp] theorem State.setRing_out (q : Nat) (h : RingHid) : (s.setRing q h).out = s.out := rfl
@[simp] theorem State.setRing_od (q : Nat) (h : RingHid) : (s.setRing q h).od = s.od := rfl
@[simp] theorem State.setRing_tick (q : Nat) (h : RingHid) : (s.setRing q h).tick = s.tick := rfl
@[simp] theorem State.setRing_raised (q : Nat) (h : RingHid) : (s.setRing q h).raised = s.raised := rfl
@[simp] theorem State.setRing_vmem (q : Nat) (h : RingHid) : (s.setRing q h).vmem = s.vmem := rfl
@[simp] theorem State.g_setRing (q : Nat) (h : RingHid) (k' : Nat) : (s.setRing q h).g k' = s.g k' := rfl
@[simp] theorem State.ring_setRing_same (q : Nat) (h : RingHid) : (s.setRing q h).ring q = h := Sp.get_set_same _ _ _ _
@[simp] theorem State.ring_setRing_other {j q : Nat} (h : RingHid) (hj : j ≠ q) : (s.setRing q h).ring j = s.ring j := Sp.get_set_other _ _ _ hj
@[simp] theorem State.setCal_pending (k : Nat) (h : CalHid) : (s.setCal k h).pending = s.pending := rfl
@[simp] theorem State.setCal_out (k : Nat) (h : CalHid) : (s.setCal k h).out = s.out := rfl
@[simp] theorem State.setCal_od (k : Nat) (h : CalHid) : (s.setCal k h).od = s.od := rfl
@[simp] theorem State.setCal_tick (k : Nat) (h : CalHid) : (s.setCal k h).tick = s.tick := rfl
@[simp] theorem State.setCal_raised (k : Nat) (h : CalHid) : (s.setCal k h).raised = s.raised := rfl
@[simp] theorem State.setCal_vmem (k : Nat) (h : CalHid) : (s.setCal k h).vmem = s.vmem := rfl
@[simp] theorem State.g_setCal (k : Nat) (h : CalHid) (k' : Nat) : (s.setCal k h).g k' = s.g k' := rfl
@[simp] theorem State.calOf_setCal_same (k : Nat) (h : CalHid) : (s.setCal k h).calOf k = h := Sp.get_set_same _ _ _ _
@[simp] theorem State.calOf_setCal_other {j k : Nat} (h : CalHid) (hj : j ≠ k) : (s.setCal k h).calOf j = s.calOf j := Sp.get_set_other _ _ _ hj
@[simp] theorem State.setArb_pending (b : Nat) (h : ArbHid) : (s.setArb b h).pending = s.pending := rfl
@[simp] theorem State.setArb_out (b : Nat) (h : ArbHid) : (s.setArb b h).out = s.out := rfl
@[simp] theorem State.setArb_od (b : Nat) (h : ArbHid) : (s.setArb b h).od = s.od := rfl
@[simp] theorem State.setArb_tick (b : Nat) (h : ArbHid) : (s.setArb b h).tick = s.tick := rfl
@[simp] theorem State.setArb_raised (b : Nat) (h : ArbHid) : (s.setArb b h).raised = s.raised := rfl
@[simp] theorem State.setArb_vmem (b : Nat) (h : ArbHid) : (s.setArb b h).vmem = s.vmem := rfl
@[simp] theorem State.g_setArb (b : Nat) (h : ArbHid) (k' : Nat) : (s.setArb b h).g k' = s.g k' := rfl
@[simp] theorem State.arbOf_setArb_same (b : Nat) (h : ArbHid) : (s.setArb b h).arbOf b = h := Sp.get_set_same _ _ _ _
@[simp] theorem State.arbOf_setArb_other {j b : Nat} (h : ArbHid) (hj : j ≠ b) : (s.setArb b h).arbOf j = s.arbOf j := Sp.get_set_other _ _ _ hj
@[simp] theorem State.setQp_pending (q : Nat) (h : QpHid) : (s.setQp q h).pending = s.pending := rfl
@[simp] theorem State.setQp_out (q : Nat) (h : QpHid) : (s.setQp q h).out = s.out := rfl
@[simp] theorem State.setQp_od (q : Nat) (h : QpHid) : (s.setQp q h).od = s.od := rfl
@[simp] theorem State.setQp_tick (q : Nat) (h : QpHid) : (s.setQp q h).tick = s.tick := rfl
@[simp] theorem State.setQp_raised (q : Nat) (h : QpHid) : (s.setQp q h).raised = s.raised := rfl
@[simp] theorem State.setQp_vmem (q : Nat) (h : QpHid) : (s.setQp q h).vmem = s.vmem := rfl
@[simp] theorem State.g_setQp (q : Nat) (h : QpHid) (k' : Nat) : (s.setQp q h).g k' = s.g k' := rfl
@[simp] theorem State.qpOf_setQp_same (q : Nat) (h : QpHid) : (s.setQp q h).qpOf q = h := Sp.get_set_same _ _ _ _
@[simp] theorem State.qpOf_setQp_other {j q : Nat} (h : QpHid) (hj : j ≠ q) : (s.setQp q h).qpOf j = s.qpOf j := Sp.get_set_other _ _ _ hj

/-! ## Meanings -/

/-- A meaning answers its effect, with nothing driven out before it and the queue as it was. -/
theorem runAny_eq (f : State → State) : runAny f s = .next { f { s with out := [] } with pending := s.pending } := rfl
/-- In M0 a command has no effect (R593). -/
theorem run_reset (f : State → State) (h : s.mode = 0) : run f s = .next { s with out := [] } := by
  have h2 : State.mode { s with out := [] } = 0 := h
  simp [run, runAny, h2]
/-- Outside M0 a meaning is its effect. -/
theorem run_live (f : State → State) (h : s.mode ≠ 0) : run f s = .next { f { s with out := [] } with pending := s.pending } := by
  have h2 : State.mode { s with out := [] } ≠ 0 := h
  simp [run, runAny, h2]

end Sys2Proof.Machine
end

