-- ==== Sys2Proof/Laws/Forms.lean ====
section
/-! SUPPORT. What the shared operations can do, said once: raising an event changes the events of the frame alone, a command that runs
answers what its body makes of the state, and an update made for each of a list changes what some member of it changes. -/

namespace Sys2Proof.Machine

/-- Raising an event with a bitmap changes the events of the frame alone. -/
theorem raiseBits_form (s : State) (a m : Nat) : s.raiseBits a m = { s with raised := (s.raiseBits a m).raised } := by
  unfold State.raiseBits; cases s.ev a <;> rfl

/-- Raising an event with a value changes the events of the frame alone. -/
theorem raiseVal_form (s : State) (a v : Nat) : s.raiseVal a v = { s with raised := (s.raiseVal a v).raised } := by
  unfold State.raiseVal; cases s.ev a <;> rfl

/-- Raising an event with a cause and a bitmap changes the events of the frame alone. -/
theorem raiseDet_form (s : State) (a d m : Nat) : s.raiseDet a d m = { s with raised := (s.raiseDet a d m).raised } := by
  unfold State.raiseDet; cases s.ev a <;> rfl

/-- What is raised depends on the events of the frame alone. -/
theorem raiseBits_raised {s t : State} (a m : Nat) (h : t.raised = s.raised) : (t.raiseBits a m).raised = (s.raiseBits a m).raised := by
  unfold State.raiseBits State.ev; rw [h]; cases Sp.find s.raised a <;> simp [State.putEv, h]

theorem raiseVal_raised {s t : State} (a v : Nat) (h : t.raised = s.raised) : (t.raiseVal a v).raised = (s.raiseVal a v).raised := by
  unfold State.raiseVal State.ev; rw [h]; cases Sp.find s.raised a <;> simp [State.putEv, h]

theorem raiseDet_raised {s t : State} (a d m : Nat) (h : t.raised = s.raised) :
    (t.raiseDet a d m).raised = (s.raiseDet a d m).raised := by
  unfold State.raiseDet State.ev; rw [h]; cases Sp.find s.raised a <;> simp [State.putEv, h]

/-- A command whose meaning is a body that runs outside M0 answers what the body makes of the state without its last output. -/
theorem gives_of_run {f : State → State} {s : State} {P : State → Prop} (hm : s.mode ≠ 0) (c : Instr) (hc : exec c s = run f s)
    (h : P { f { s with out := [] } with pending := s.pending }) : Gives c s P :=
  ⟨_, hc.trans (run_live s f hm), h⟩

/-- An update done for each of a list leaves alone every object that no member names. -/
theorem foldl_g {α : Type} {f : State → α → State} (T : α → Nat → Prop) (hf : ∀ s x j, ¬T x j → (f s x).g j = s.g j) :
    ∀ (l : List α) (s : State) (j : Nat), (∀ x ∈ l, ¬T x j) → (l.foldl f s).g j = s.g j
  | [], _, _, _ => rfl
  | x :: l, s, j, h => (foldl_g T hf l (f s x) j (fun y hy => h y (List.mem_cons_of_mem _ hy))).trans (hf s x j (h x List.mem_cons_self))

/-- What one update leaves as it is, an update for each of a list leaves as it is. -/
theorem foldl_same {α β : Type} {f : State → α → State} (p : State → β) (hf : ∀ s x, p (f s x) = p s) :
    ∀ (l : List α) (s : State), p (l.foldl f s) = p s
  | [], _ => rfl
  | x :: l, s => (foldl_same p hf l (f s x)).trans (hf s x)

/-- What holds between the states before and after one update, and composes, holds of an update for each of a list. -/
theorem foldl_rel {α : Type} {f : State → α → State} (R : State → State → Prop) (h0 : ∀ s, R s s) (ht : ∀ a b c, R a b → R b c → R a c)
    (hf : ∀ s x, R s (f s x)) : ∀ (l : List α) (s : State), R s (l.foldl f s)
  | [], s => h0 s
  | x :: l, s => ht _ _ _ (hf s x) (foldl_rel R h0 ht hf l (f s x))

end Sys2Proof.Machine
end

