-- ==== Sys2Proof/Laws/Memory.lean ====
section
/-! SUPPORT. The canonical form of the memories (Memory.wf) and the operations that the other files are built of: each keeps it. -/

set_option Elab.async false

namespace Sys2Proof.Machine

theorem wf_mk {pending : List Instr} {out : List Out} {free : Nat} {tick : Nat} {clock : Clock} {barLatch : Option (Nat × Nat)} {barHold : Option (Nat × Nat)} {modePend : Option ModePend} {m2Left : Bool} {bootRom : Bool} {req3 : Bool} {spnFrames : Nat} {m0Causes : Nat} {sess : Sp SessHid} {txns : Sp Txn} {commits : List Commit} {chans : Sp Chan} {shakes : List Shake} {smb : Option Nat} {raised : Sp Ev} {evLast : Sp (Nat × Nat)} {fcSubs : Sp (List Nat)} {escSubs : List Nat} {recOrd : Sp Nat} {recNext : Nat} {handling : List Handling} {shadows : List Shadow} {reacts : List React} {resets : List PendReset} {forced : List Nat} {msixMask : Nat} {msixPend : Nat} {meas : Latch} {utHid : Sp UtHid} {padHid : Sp PadHid} {inHid : Sp InHid} {bankHid : Sp BankHid} {steerNext : Int} {marginLow : Nat} {marginOk : Nat} {loscMiss : Bool} {unkLosc : Bool} {unkByp : Bool} {bypFrames : Nat} {bypSince : Nat} {bypResid : Bool} {lostLock : Bool} {slots : Sp SlotHid} {selPend : List (Nat × Nat)} {disag : List Disag} {undisp : Nat} {predInt : Int} {within : Nat} {servoErr : Int} {newSmp : Bool} {target : Int} {swOn : Bool} {learn : List Learn} {learnN : Nat × Int} {learnSum : Int × Nat} {selfCal : Option Nat} {learnLast : Int × Nat} {frozen : Bool} {coast : Nat} {coastTick : Nat} {timeTick : Option Nat} {erBuild : Option (List Byte × Nat)} {stepped : Bool} {erCount : Nat} {tsStep : Option (Int × Nat)} {stkBound : Nat} {stkCoarse : Bool} {stkLocal : Bool} {stkDepth : Nat} {stkAlert : Bool} {stkStart : Option (Nat × Nat × Nat)} {stk : StkHid} {links : Sp LinkHid} {fab : FabHid} {xunits : Sp XUnit} {arb : Sp ArbHid} {xfers : List Xfer} {lateTags : List (Nat × Nat)} {rings : Sp RingHid} {lastBank : Sp Nat} {quarIds : List (Nat × Nat)} {genLog : List (Nat × Nat × Nat)} {segFrees : List (Nat × Nat)} {segRetire : List (Nat × Nat)} {streamIt : Sp Nat} {moveDone : Bool} {selftest : Option (List Nat × Nat × Nat)} {qp : Sp QpHid} {scrubAt : Sp Nat} {scrubTick : Sp Nat} {lostBank : Sp Nat} {resDue : List Nat} {devCtl : Nat × Nat × Bool} {sqHid : Sp SqHid} {chHid : Sp ChHid} {coreHid : Sp CoreHid} {passed : Bool} {lanesOut : Nat} {corr : Sp Int} {supOut : List Nat} {hotFrames : Nat} {cal : Sp CalHid} {ancRun : Option AncRun} {baseline : Sp Int} {auditBlk : Sp (Nat × Nat)} {calRetry : Sp Nat} {calSince : Sp Nat} {nvm : Sp NvmSet} {nvmBoot : Nat} {store : Option (List Nat × NvmSet)} {storeDue : Bool} {storeLast : Nat} {host : HostHid} {s : State} (h : Memory.wf s = true) : Memory.wf (State.mk pending out free s.od tick clock barLatch barHold modePend m2Left bootRom req3 spnFrames m0Causes sess txns commits chans shakes smb raised evLast fcSubs escSubs recOrd recNext handling shadows reacts resets forced msixMask msixPend meas utHid padHid inHid bankHid steerNext marginLow marginOk loscMiss unkLosc unkByp bypFrames bypSince bypResid lostLock slots selPend disag undisp predInt within servoErr newSmp target swOn learn learnN learnSum selfCal learnLast frozen coast coastTick timeTick erBuild stepped erCount tsStep stkBound stkCoarse stkLocal stkDepth stkAlert stkStart stk links fab s.vmem s.slotBytes xunits arb xfers lateTags rings lastBank quarIds genLog segFrees segRetire streamIt moveDone selftest qp scrubAt scrubTick lostBank resDue devCtl sqHid chHid coreHid passed lanesOut corr supOut hotFrames cal ancRun baseline auditBlk calRetry calSince nvm nvmBoot store storeDue storeLast host) = true := by
  unfold Memory.wf at h ⊢; exact h

theorem wf_ite {c : Prop} [Decidable c] {a b : State} (ha : c → Memory.wf a = true) (hb : ¬c → Memory.wf b = true) : Memory.wf (if c then a else b) = true := by
  by_cases h : c <;> simp [h, ha, hb]

theorem wf_iteRes {c : Prop} [Decidable c] {a b : CmdRes} (ha : c → Memory.wf a.st = true) (hb : ¬c → Memory.wf b.st = true) : Memory.wf (if c then a else b).st = true := by
  by_cases h : c <;> simp [h, ha, hb]

theorem wf_iteSnd {α : Type} {c : Prop} [Decidable c] {a b : α × State} (ha : c → Memory.wf a.2 = true) (hb : ¬c → Memory.wf b.2 = true) : Memory.wf (if c then a else b).2 = true := by
  by_cases h : c <;> simp [h, ha, hb]

theorem wf_iteFst {α : Type} {c : Prop} [Decidable c] {a b : State × α} (ha : c → Memory.wf a.1 = true) (hb : ¬c → Memory.wf b.1 = true) : Memory.wf (if c then a else b).1 = true := by
  by_cases h : c <;> simp [h, ha, hb]

theorem wf_res {a b : Nat} {s : State} (h : Memory.wf s = true) : Memory.wf (CmdRes.mk a b s).st = true := h

theorem wf_some {s t : State} (h : Memory.wf s = true) : some s = some t → Memory.wf t = true := by rintro ⟨⟩; exact h

theorem wf_ok {s t : State} (h : Memory.wf s = true) : (Except.ok s : Except Nat State) = .ok t → Memory.wf t = true := by rintro ⟨⟩; exact h

theorem wf_pair {s t : State} {a b : Nat} (h : Memory.wf s = true) : some (a, s) = some (b, t) → Memory.wf t = true := by rintro ⟨⟩; exact h

theorem wf_none {α : Type} {a : α} {P : Prop} : none = some a → P := by rintro ⟨⟩

theorem wf_err {c : Nat} {t : State} {P : Prop} : (Except.error c : Except Nat State) = .ok t → P := by rintro ⟨⟩

theorem wf_foldl {α : Type} {f : State → α → State} {l : List α} {s : State} (hf : ∀ s x, Memory.wf s = true → Memory.wf (f s x) = true) (h : Memory.wf s = true) : Memory.wf (l.foldl f s) = true := by
  induction l generalizing s with
  | nil => exact h
  | cons a l ih => exact ih (hf s a h)

theorem State.each_wf {f : State → Nat → State} {l : List Nat} {s : State} (hf : ∀ s x, Memory.wf s = true → Memory.wf (f s x) = true) (h : Memory.wf s = true) : Memory.wf (s.each l f) = true := wf_foldl hf h

theorem State.p_wf {s : State} {k v : Nat} (h : Memory.wf s = true) : Memory.wf (s.p k v) = true := by
  unfold Memory.wf at *; simp only [Bool.and_eq_true] at *; exact ⟨⟨Sp.wf_set k v h.1.1, h.1.2⟩, h.2⟩

theorem Sp.rising_ins {α : Type} {m : Sp α} {k : Nat} {v : α} (h : Sp.rising m = true) : Sp.rising (Sp.ins m k v) = true := by
  induction m with
  | nil => rfl
  | cons p m ih =>
    obtain ⟨k', v'⟩ := p
    simp only [Sp.rising, Bool.and_eq_true, List.all_eq_true, decide_eq_true_eq] at h
    unfold Sp.ins
    split
    · simp only [Sp.rising, Bool.and_eq_true, List.all_eq_true, decide_eq_true_eq]
      refine ⟨fun p hp => ?_, h⟩
      rcases List.mem_cons.1 hp with rfl | hp
      · assumption
      · exact Nat.lt_trans ‹_› (h.1 p hp)
    · split
      · subst_vars; simp only [Sp.rising, Bool.and_eq_true, List.all_eq_true, decide_eq_true_eq]; exact h
      · simp only [Sp.rising, Bool.and_eq_true, List.all_eq_true, decide_eq_true_eq]
        refine ⟨fun p hp => ?_, ih h.2⟩
        rcases Sp.mem_ins hp with rfl | hp
        · simp only; omega
        · exact h.1 p hp

theorem State.putWord_wf {s : State} {a b : Nat} {v : VWord} (h : Memory.wf s = true) : Memory.wf (s.putWord a b v) = true := by
  unfold Memory.wf at *; simp only [Bool.and_eq_true] at *; exact ⟨⟨h.1.1, Sp.rising_ins h.1.2⟩, h.2⟩

theorem State.setSlotByte_wf {s : State} {a : Nat} {v : Byte} (h : Memory.wf s = true) : Memory.wf (s.setSlotByte a v) = true := by
  unfold Memory.wf at *; simp only [Bool.and_eq_true] at *; exact ⟨h.1, Sp.wf_set a v h.2⟩

theorem State.inc_wf {s : State} {k : Nat} (hw : Memory.wf s = true) : Memory.wf (State.inc s k) = true := by
  unfold State.inc
  exact State.p_wf hw

theorem State.add_wf {s : State} {k : Nat} {n : Nat} (hw : Memory.wf s = true) : Memory.wf (State.add s k n) = true := by
  unfold State.add
  exact State.p_wf hw

theorem State.pi_wf {s : State} {k : Nat} {v : Int} (hw : Memory.wf s = true) : Memory.wf (State.pi s k v) = true := by
  unfold State.pi
  exact State.p_wf hw

theorem State.pbit_wf {s : State} {k : Nat} {i : Nat} {b : Bool} (hw : Memory.wf s = true) : Memory.wf (State.pbit s k i b) = true := by
  unfold State.pbit
  with_reducible repeat' first | assumption | apply State.p_wf

theorem State.pAll_wf {s : State} {l : List (Nat × Nat)} (hw : Memory.wf s = true) : Memory.wf (State.pAll s l) = true := by
  unfold State.pAll
  with_reducible repeat' first | assumption | intro _ | apply wf_foldl | apply State.p_wf

theorem State.fresh_wf {s : State} (hw : Memory.wf s = true) : Memory.wf (State.fresh s).2 = true := by
  unfold State.fresh
  with_reducible repeat' first | (apply wf_mk; assumption)

theorem State.fresh_wf_eq {s : State} {aa : Nat} {tt : State} (ee : (State.fresh s) = (aa, tt)) (hw : Memory.wf s = true) : Memory.wf tt = true := by
  have h1 : Memory.wf (State.fresh s).2 = true := State.fresh_wf hw; rw [ee] at h1; exact h1

theorem State.est_wf {s : State} {num : Int} {den : Nat} (hw : Memory.wf s = true) : Memory.wf (State.est s num den).2 = true := by
  unfold State.est
  with_reducible repeat' first | split | (apply wf_mk; assumption)

theorem State.est_wf_eq {s : State} {num : Int} {den : Nat} {aa : Int} {tt : State} (ee : (State.est s num den) = (aa, tt)) (hw : Memory.wf s = true) : Memory.wf tt = true := by
  have h1 : Memory.wf (State.est s num den).2 = true := State.est_wf hw; rw [ee] at h1; exact h1

theorem State.emit_wf {s : State} {o : Out} (hw : Memory.wf s = true) : Memory.wf (State.emit s o) = true := by
  unfold State.emit
  with_reducible repeat' first | (apply wf_mk; assumption)

theorem State.putEv_wf {s : State} {src : Nat} {e : Ev} (hw : Memory.wf s = true) : Memory.wf (State.putEv s src e) = true := by
  unfold State.putEv
  with_reducible repeat' first | (apply wf_mk; assumption)

theorem State.raiseBits_wf {s : State} {src : Nat} {m : Nat} (hw : Memory.wf s = true) : Memory.wf (State.raiseBits s src m) = true := by
  unfold State.raiseBits
  with_reducible repeat' first | assumption | apply State.putEv_wf | split

theorem State.raiseVal_wf {s : State} {src : Nat} {d : Nat} (hw : Memory.wf s = true) : Memory.wf (State.raiseVal s src d) = true := by
  unfold State.raiseVal
  with_reducible repeat' first | assumption | apply State.putEv_wf | split

theorem State.raiseDet_wf {s : State} {src : Nat} {d : Nat} {m : Nat} (hw : Memory.wf s = true) : Memory.wf (State.raiseDet s src d m) = true := by
  unfold State.raiseDet
  with_reducible repeat' first | assumption | apply State.putEv_wf | split

theorem State.raiseOpen_wf {s : State} {outs : Nat} {ins : Nat} (hw : Memory.wf s = true) : Memory.wf (State.raiseOpen s outs ins) = true := by
  unfold State.raiseOpen
  with_reducible repeat' first | assumption | apply State.raiseBits_wf | apply State.putEv_wf | split | dsimp only

theorem State.setReplace_wf {s : State} {i : Nat} (hw : Memory.wf s = true) : Memory.wf (State.setReplace s i) = true := by
  unfold State.setReplace
  with_reducible repeat' first | assumption | apply State.raiseBits_wf | apply State.pbit_wf | apply State.raiseVal_wf | split

theorem State.clearReplace_wf {s : State} {i : Nat} (hw : Memory.wf s = true) : Memory.wf (State.clearReplace s i) = true := by
  unfold State.clearReplace
  with_reducible repeat' first | assumption | apply State.pbit_wf | split

theorem State.keepRecord_wf {s : State} {k : Nat} {arg : Nat} {code : Nat} {value : Nat} {w : Who} (hw : Memory.wf s = true) : Memory.wf (State.keepRecord s k arg code value w) = true := by
  unfold State.keepRecord
  with_reducible repeat' first | assumption | apply State.p_wf | apply State.inc_wf

theorem State.call_wf {s : State} {w : Who} {k a n : Nat} {b : State → CmdRes} (hb : ∀ s, Memory.wf s = true → Memory.wf (b s).st = true) (h : Memory.wf s = true) : Memory.wf (s.call w k a n b).st = true := by
  unfold State.call
  with_reducible repeat' first | assumption | intro _ | apply wf_iteRes | apply State.keepRecord_wf | apply hb

theorem State.command_wf {s : State} {r : State → CmdRes} (hb : ∀ s, Memory.wf s = true → Memory.wf (r s).st = true) (h : Memory.wf s = true) : Memory.wf (s.command r) = true := by
  unfold State.command
  with_reducible repeat' first | assumption | intro _ | apply wf_ite | apply State.emit_wf | apply hb

theorem State.deny_wf {s : State} {code : Nat} (hw : Memory.wf s = true) : Memory.wf (State.deny s code).st = true := by
  unfold State.deny
  with_reducible repeat' first | assumption

theorem State.done_wf {s : State} {value : Nat} (hw : Memory.wf s = true) : Memory.wf (State.done s value).st = true := by
  unfold State.done
  with_reducible repeat' first | assumption

theorem State.accept_wf {s : State} {value : Nat} (hw : Memory.wf s = true) : Memory.wf (State.accept s value).st = true := by
  unfold State.accept
  with_reducible repeat' first | assumption

theorem State.setSess_wf {s : State} {k : Nat} {h : SessHid} (hw : Memory.wf s = true) : Memory.wf (State.setSess s k h) = true := by
  unfold State.setSess
  with_reducible repeat' first | (apply wf_mk; assumption)

theorem State.setTxn_wf {s : State} {k : Nat} {slot : Nat} {t : Txn} (hw : Memory.wf s = true) : Memory.wf (State.setTxn s k slot t) = true := by
  unfold State.setTxn
  with_reducible repeat' first | (apply wf_mk; assumption)

theorem State.setUt_wf {s : State} {u : Nat} {h : UtHid} (hw : Memory.wf s = true) : Memory.wf (State.setUt s u h) = true := by
  unfold State.setUt
  with_reducible repeat' first | (apply wf_mk; assumption)

theorem State.setPad_wf {s : State} {c : Nat} {h : PadHid} (hw : Memory.wf s = true) : Memory.wf (State.setPad s c h) = true := by
  unfold State.setPad
  with_reducible repeat' first | (apply wf_mk; assumption)

theorem State.setInp_wf {s : State} {n : Nat} {h : InHid} (hw : Memory.wf s = true) : Memory.wf (State.setInp s n h) = true := by
  unfold State.setInp
  with_reducible repeat' first | (apply wf_mk; assumption)

theorem State.setBank_wf {s : State} {k : Nat} {h : BankHid} (hw : Memory.wf s = true) : Memory.wf (State.setBank s k h) = true := by
  unfold State.setBank
  with_reducible repeat' first | (apply wf_mk; assumption)

theorem State.setSlot_wf {s : State} {n : Nat} {h : SlotHid} (hw : Memory.wf s = true) : Memory.wf (State.setSlot s n h) = true := by
  unfold State.setSlot
  with_reducible repeat' first | (apply wf_mk; assumption)

theorem State.view_wf {s : State} {t : Nat} (hw : Memory.wf s = true) : Memory.wf (State.view s t) = true := by
  unfold State.view
  with_reducible repeat' first | assumption | intro _ | apply wf_foldl | apply State.pAll_wf | split

theorem State.projected_wf {s : State} {t : Nat} (hw : Memory.wf s = true) : Memory.wf (State.projected s t) = true := by
  unfold State.projected
  with_reducible repeat' first | assumption | intro _ | apply wf_foldl | apply State.pAll_wf | split

theorem State.setSeg_wf {s : State} {e : Nat} {r : Nat} (hw : Memory.wf s = true) : Memory.wf (State.setSeg s e r) = true := by
  unfold State.setSeg
  with_reducible repeat' first | assumption | apply State.p_wf

theorem State.setPage_wf {s : State} {ppn : Nat} {r : Nat} (hw : Memory.wf s = true) : Memory.wf (State.setPage s ppn r) = true := by
  unfold State.setPage
  with_reducible repeat' first | assumption | apply State.p_wf

theorem State.setPageState_wf {s : State} {ppn : Nat} {st : Nat} (hw : Memory.wf s = true) : Memory.wf (State.setPageState s ppn st) = true := by
  unfold State.setPageState
  with_reducible repeat' first | assumption | apply State.setPage_wf

theorem State.setPlace_wf {s : State} {e : Nat} {res : Nat} (hw : Memory.wf s = true) : Memory.wf (State.setPlace s e res) = true := by
  unfold State.setPlace
  with_reducible repeat' first | assumption | apply State.p_wf

theorem State.setLoading_wf {s : State} {e : Nat} (hw : Memory.wf s = true) : Memory.wf (State.setLoading s e) = true := by
  unfold State.setLoading
  with_reducible repeat' first | assumption | apply State.setSeg_wf | split

theorem State.readyFrame_wf {s : State} (hw : Memory.wf s = true) : Memory.wf (State.readyFrame s) = true := by
  unfold State.readyFrame
  with_reducible repeat' first | assumption | intro _ | apply State.each_wf | apply State.setSeg_wf | split

theorem State.plLog_wf {s : State} {kind : Nat} {reason : Nat} {entry : Nat} {frm : Option Nat} {dst : Option Nat} {q : Nat} (hw : Memory.wf s = true) : Memory.wf (State.plLog s kind reason entry frm dst q) = true := by
  unfold State.plLog
  with_reducible repeat' first | assumption | apply State.inc_wf | apply State.p_wf

theorem State.addBank_wf {s : State} {q : Nat} {b : Nat} {reason : Nat} (hw : Memory.wf s = true) : Memory.wf (State.addBank s q b reason) = true := by
  unfold State.addBank
  with_reducible repeat' first | assumption | apply State.plLog_wf | apply State.pbit_wf

theorem State.growSet_wf_eq {q need reason : Nat} : ∀ (n : Nat) {s tt : State}, State.growSet q need reason n s = .ok tt → Memory.wf s = true → Memory.wf tt = true
  | 0, s, tt, e, hw => wf_ok hw e
  | n + 1, s, tt, e, hw => by
    unfold State.growSet at e
    split at e
    · exact wf_ok hw e
    · split at e
      · exact State.growSet_wf_eq n e (State.addBank_wf hw)
      · split at e
        · exact wf_ok hw e
        · exact wf_err e

theorem State.placePage_wf_eq {s : State} {q row reason aa : Nat} {tt : State} (e : s.placePage q row reason = some (aa, tt)) (hw : Memory.wf s = true) : Memory.wf tt = true := by
  revert e; unfold State.placePage; dsimp only
  split
  · split
    · rintro ⟨⟩; exact wf_mk (h := State.plLog_wf (State.setPage_wf hw))
    · exact wf_none
  · exact wf_none

theorem State.placeRows_wf_eq {q reason : Nat} : ∀ (l : List Nat) {s tt : State}, State.placeRows q reason l s = .ok tt → Memory.wf s = true → Memory.wf tt = true
  | [], s, tt, e, hw => wf_ok hw e
  | r :: rs, s, tt, e, hw => by
    unfold State.placeRows at e
    split at e
    · exact State.placeRows_wf_eq rs e (State.placePage_wf_eq ‹_› hw)
    · exact wf_err e

theorem State.allocate_wf_eq {s : State} {q : Nat} {rows : List Nat} {reason : Nat} {tt : State} (e : s.allocate q rows reason = .ok tt) (hw : Memory.wf s = true) : Memory.wf tt = true := by
  unfold State.allocate at e
  split at e
  · exact wf_ok hw e
  · split at e
    · exact State.placeRows_wf_eq _ e (State.growSet_wf_eq _ ‹_› hw)
    · exact wf_err e

theorem State.dropBanks_wf {s : State} {q : Nat} {banks : List Nat} {reason : Nat} (hw : Memory.wf s = true) : Memory.wf (State.dropBanks s q banks reason) = true := by
  unfold State.dropBanks
  with_reducible repeat' first | assumption | intro _ | apply State.each_wf | apply State.plLog_wf | apply State.pbit_wf | split

theorem State.releasePages_wf {s : State} {l : List (Nat × Nat)} {reason : Nat} (hw : Memory.wf s = true) : Memory.wf (State.releasePages s l reason) = true := by
  unfold State.releasePages
  with_reducible repeat' first | assumption | intro _ | apply State.each_wf | apply State.plLog_wf | apply State.setPage_wf | apply State.dropBanks_wf

theorem State.setRing_wf {s : State} {q : Nat} {r : RingHid} (hw : Memory.wf s = true) : Memory.wf (State.setRing s q r) = true := by
  unfold State.setRing
  with_reducible repeat' first | (apply wf_mk; assumption)

theorem State.takeRow_wf {s : State} {e : Nat} {old : Nat} {new : Nat} {due : Nat} (hw : Memory.wf s = true) : Memory.wf (State.takeRow s e old new due) = true := by
  unfold State.takeRow
  with_reducible repeat' first | assumption | intro _ | apply wf_ite | apply State.setSeg_wf | apply State.p_wf | apply State.releasePages_wf | apply State.each_wf | apply State.setPage_wf | apply State.addBank_wf | apply State.dropBanks_wf | split | dsimp only | (apply wf_mk; apply State.setSeg_wf)

theorem State.settleEntry_wf {s : State} {e : Nat} {res : Nat} {reason : Nat} (hw : Memory.wf s = true) : Memory.wf (State.settleEntry s e res reason) = true := by
  unfold State.settleEntry
  with_reducible repeat' first | assumption | intro _ | apply wf_ite | apply State.plLog_wf | apply State.setPlace_wf | apply State.setSeg_wf

theorem State.placeRequired_wf_eq {es : List Nat} {q : Nat} {s tt : State} (e : State.placeRequired es q s = .ok tt) (hw : Memory.wf s = true) : Memory.wf tt = true := by
  unfold State.placeRequired at e
  dsimp only at e
  split at e
  · exact wf_ok hw e
  · split at e
    · exact State.placeRows_wf_eq _ e (State.growSet_wf_eq _ ‹_› hw)
    · exact wf_err e

theorem wf_foldOk {α : Type} {f : Except Nat State → α → Except Nat State} (hf : ∀ r x t, (∀ u, r = .ok u → Memory.wf u = true) → f r x = .ok t → Memory.wf t = true) :
    ∀ (l : List α) {r : Except Nat State} {t : State}, l.foldl f r = .ok t → (∀ u, r = .ok u → Memory.wf u = true) → Memory.wf t = true
  | [], _, _, e, h => h _ e
  | x :: l, _, _, e, h => wf_foldOk hf l e (fun _ hu => hf _ x _ h hu)

theorem State.eachSq_wf_eq {f : Nat → State → Except Nat State} {s tt : State} (hf : ∀ q s t, f q s = .ok t → Memory.wf s = true → Memory.wf t = true) (e : State.eachSq f s = .ok tt) (hw : Memory.wf s = true) :
    Memory.wf tt = true := by
  unfold State.eachSq at e
  refine wf_foldOk (fun r x t h e => ?_) _ e (fun u hu => wf_ok hw hu)
  split at e
  · exact hf _ _ _ e (h _ rfl)
  · exact wf_err e

theorem State.placeStream_wf {s : State} {e : Nat} {reason : Nat} (hw : Memory.wf s = true) : Memory.wf (State.placeStream s e reason) = true := by
  unfold State.placeStream
  with_reducible repeat' first | assumption | apply State.settleEntry_wf | apply State.releasePages_wf

theorem State.placePreferred_wf_eq {s : State} {e : Nat} {reason : Nat} {tt : State} (e : (State.placePreferred s e reason) = .ok tt) (hw : Memory.wf s = true) : Memory.wf tt = true := by
  revert e
  unfold State.placePreferred
  with_reducible repeat' first | assumption | refine wf_ok ?_ | exact wf_err | refine State.allocate_wf_eq (by assumption) ?_ | apply State.settleEntry_wf | apply State.placeStream_wf | split

theorem State.place_wf_eq {old s : State} {vals : List (Nat × Nat)} {due : Nat} {act : Nat → Bool} {tt : State} (e : old.place s vals due act = .ok tt) (hw : Memory.wf s = true) : Memory.wf tt = true := by
  unfold State.place at e
  extract_lets rowsIn s1 s2 es at e
  have h2 : Memory.wf s2 = true := State.each_wf (by
    with_reducible repeat' first | assumption | intro _ | apply wf_ite | apply State.setRing_wf | apply State.releasePages_wf) (wf_foldl (fun _ _ h => State.takeRow_wf h) hw)
  clear_value s2 es
  split at e
  · exact wf_err e
  split at e
  · exact wf_err e
  split at e
  · exact wf_err e
  split at e
  · exact wf_err e
  rename_i s3 h3
  split at e
  · exact wf_err e
  rename_i s4 h4
  have h5 := State.eachSq_wf_eq (fun _ _ _ e h => State.allocate_wf_eq e h) h4 (State.eachSq_wf_eq (fun _ _ _ e h => State.placeRequired_wf_eq e h) h3 h2)
  dsimp only at e
  split at e
  · exact wf_err e
  rename_i s6 h6
  have h7 := wf_foldOk (fun r x t h e => by
    split at e
    · exact State.placePreferred_wf_eq e (h _ rfl)
    · exact wf_err e) _ h6 (fun u hu => wf_ok (State.each_wf (fun _ _ h => State.settleEntry_wf h) h5) hu)
  split at e
  · exact wf_err e
  split at e
  · exact wf_err e
  split at e
  · exact wf_err e
  exact wf_ok (wf_mk (h := State.each_wf (fun _ _ h => State.placeStream_wf h) h7)) e

theorem wf_map {α : Type} {o : Option (α × State)} {t : State} (h : ∀ p, o = some p → Memory.wf p.2 = true) (e : o.map (·.2) = some t) : Memory.wf t = true := by
  cases o with
  | none => cases e
  | some p => cases e; exact h p rfl

theorem wf_getD {o : Option State} {s : State} (hw : Memory.wf s = true) (h : ∀ t, o = some t → Memory.wf t = true) : Memory.wf (o.getD s) = true := by
  cases o with
  | none => exact hw
  | some t => exact h t rfl

theorem State.replacement_wf_eq {s : State} {q row bank reason : Nat} {tt : State} (e : s.replacement q row bank reason = some tt) (hw : Memory.wf s = true) : Memory.wf tt = true := by
  unfold State.replacement at e
  split at e
  · refine wf_some (wf_mk (h := State.plLog_wf (State.setPage_wf ?_))) e
    split
    · exact hw
    · exact State.addBank_wf hw
  · split at e
    · exact wf_some (State.placePage_wf_eq (aa := _) ‹_› hw) e
    · split at e
      · exact wf_map (fun p h => State.placePage_wf_eq (aa := p.1) h (State.addBank_wf hw)) e
      · exact wf_none e

theorem State.setLost_wf {s : State} {row : Nat} {b : Nat} (hw : Memory.wf s = true) : Memory.wf (State.setLost s row b) = true := by
  unfold State.setLost
  with_reducible repeat' first | (apply wf_mk; assumption)

theorem State.retirePage_wf {s : State} {ppn : Nat} {reason : Nat} (hw : Memory.wf s = true) : Memory.wf (State.retirePage s ppn reason) = true := by
  unfold State.retirePage
  with_reducible repeat' first | assumption | intro _ | apply wf_ite | apply State.raiseVal_wf | apply State.plLog_wf | apply State.setPage_wf | apply State.setLoading_wf | refine State.replacement_wf_eq (by assumption) ?_ | apply State.setLost_wf | apply State.dropBanks_wf | split

theorem State.replaceLost_wf {s : State} {q : Nat} {row : Nat} (hw : Memory.wf s = true) : Memory.wf (State.replaceLost s q row) = true := by
  unfold State.replaceLost
  with_reducible repeat' first | assumption | refine State.replacement_wf_eq (by assumption) ?_ | apply State.setLost_wf | split

theorem State.allocDeferred_wf {s : State} {e j : Nat} (hw : Memory.wf s = true) : Memory.wf (s.allocDeferred e j) = true := by
  unfold State.allocDeferred
  exact wf_ite (fun _ => State.replaceLost_wf hw) (fun _ => hw)

theorem State.ringDeferred_wf {s : State} (hw : Memory.wf s = true) : Memory.wf s.ringDeferred = true :=
  State.each_wf (fun _ _ h => State.each_wf (fun _ _ h => State.replaceLost_wf h) h) hw

theorem State.retireEnds_wf {s : State} {e : Nat} (hw : Memory.wf s = true) : Memory.wf (State.retireEnds s e) = true := by
  unfold State.retireEnds
  with_reducible repeat' first | apply State.setSeg_wf | split | dsimp only | (apply wf_mk; assumption)

end Sys2Proof.Machine
end

