-- ==== Sys2Proof/Laws/MemoryPlay.lean ====
section
/-! SUPPORT. The sequencers, the page operations and the bank arbiters keep the memories in canonical form. -/

set_option Elab.async false

namespace Sys2Proof.Machine

theorem State.setSq_wf {s : State} {q : Nat} {h : SqHid} (hw : Memory.wf s = true) : Memory.wf (State.setSq s q h) = true := by
  unfold State.setSq
  with_reducible repeat' first | (apply wf_mk; assumption)

theorem State.atTime_wf {s : State} {t : Nat} (hw : Memory.wf s = true) : Memory.wf (State.atTime s t) = true := by
  unfold State.atTime
  with_reducible repeat' first | assumption | apply State.view_wf

theorem State.setCh_wf {s : State} {c : Nat} {h : ChHid} (hw : Memory.wf s = true) : Memory.wf (State.setCh s c h) = true := by
  unfold State.setCh
  with_reducible repeat' first | (apply wf_mk; assumption)

theorem State.setLevel_wf {s : State} {q : Nat} {c : Nat} {b : Bool} (hw : Memory.wf s = true) : Memory.wf (State.setLevel s q c b) = true := by
  unfold State.setLevel
  with_reducible repeat' first | assumption | apply State.setSq_wf

theorem State.act_wf {s : State} {q : Nat} {c : Nat} {t : Nat} {a : Act} (hw : Memory.wf s = true) : Memory.wf (State.act s q c t a) = true := by
  unfold State.act
  with_reducible repeat' first | assumption | apply State.setLevel_wf | apply State.setCh_wf | split | dsimp only

theorem State.parkPins_wf {s : State} {q : Nat} {t : Nat} (hw : Memory.wf s = true) : Memory.wf (State.parkPins s q t) = true := by
  unfold State.parkPins
  with_reducible repeat' first | assumption | intro _ | apply State.each_wf | apply State.act_wf

theorem State.vecActions_wf {s : State} {q : Nat} {v : Vec} (hw : Memory.wf s = true) : Memory.wf (State.vecActions s q v) = true := by
  unfold State.vecActions
  with_reducible repeat' first | assumption | intro _ | apply State.parkPins_wf | apply State.each_wf | apply State.act_wf | split | dsimp only

theorem State.handTo_wf {s : State} {q : Nat} {limit : Nat} (hw : Memory.wf s = true) : Memory.wf (State.handTo s q limit) = true := by
  unfold State.handTo
  with_reducible repeat' first | assumption | intro _ | apply wf_foldl | apply State.vecActions_wf | apply State.setSq_wf

theorem State.setUnit_wf {s : State} {b : Nat} {r : Nat} {u : XUnit} (hw : Memory.wf s = true) : Memory.wf (State.setUnit s b r u) = true := by
  unfold State.setUnit
  with_reducible repeat' first | (apply wf_mk; assumption)

theorem State.setActive_wf {s : State} {b : Nat} {r : Nat} {o : XOp} (hw : Memory.wf s = true) : Memory.wf (State.setActive s b r o) = true := by
  unfold State.setActive
  with_reducible repeat' first | assumption | apply State.setUnit_wf

theorem State.dropXfer_wf {s : State} {ppn : Nat} (hw : Memory.wf s = true) : Memory.wf (State.dropXfer s ppn) = true := by
  unfold State.dropXfer
  with_reducible repeat' first | (apply wf_mk; assumption)

theorem State.setXfer_wf {s : State} {x : Xfer} (hw : Memory.wf s = true) : Memory.wf (State.setXfer s x) = true := by
  unfold State.setXfer
  with_reducible repeat' first | (apply wf_mk; assumption)

theorem State.emitReads_wf {s : State} {tag : Nat} {addr : Nat} (hw : Memory.wf s = true) : Memory.wf (State.emitReads s tag addr) = true := by
  unfold State.emitReads
  with_reducible repeat' first | assumption | intro _ | apply State.each_wf | apply State.emit_wf

theorem State.startReads_wf {s : State} {b : Nat} (hw : Memory.wf s = true) : Memory.wf (State.startReads s b) = true := by
  unfold State.startReads
  with_reducible repeat' first | assumption | intro _ | apply wf_ite | apply State.emitReads_wf | apply State.setXfer_wf | split

theorem State.acceptOp_wf {s : State} {b : Nat} {r : Nat} {o : XOp} (hw : Memory.wf s = true) : Memory.wf (State.acceptOp s b r o) = true := by
  unfold State.acceptOp
  with_reducible repeat' first | assumption | intro _ | apply wf_ite | apply State.startReads_wf | apply State.setUnit_wf | apply State.raiseBits_wf | apply State.each_wf | apply State.inc_wf | split | dsimp only

theorem State.dropOp_wf {s : State} {b : Nat} {r : Nat} {o : XOp} (hw : Memory.wf s = true) : Memory.wf (State.dropOp s b r o) = true := by
  unfold State.dropOp
  with_reducible repeat' first | assumption | intro _ | apply wf_ite | apply State.startReads_wf | apply State.setUnit_wf | (apply wf_mk; assumption)

theorem State.setQp_wf {s : State} {q : Nat} {h : QpHid} (hw : Memory.wf s = true) : Memory.wf (State.setQp s q h) = true := by
  unfold State.setQp
  with_reducible repeat' first | (apply wf_mk; assumption)

theorem State.descDone_wf {s : State} {q : Nat} {tag : Nat} {kind : Nat} {result : Nat} {detail : Nat} {value : Nat} (hw : Memory.wf s = true) : Memory.wf (State.descDone s q tag kind result detail value) = true := by
  unfold State.descDone
  with_reducible repeat' first | assumption | apply State.setQp_wf

theorem State.setRetry_wf {s : State} {ppn : Nat} {t : Option Nat} (hw : Memory.wf s = true) : Memory.wf (State.setRetry s ppn t) = true := by
  unfold State.setRetry
  with_reducible repeat' first | assumption | apply State.setRing_wf | split

theorem State.beginFill_wf {s : State} {o : XOp} (hw : Memory.wf s = true) : Memory.wf (State.beginFill s o) = true := by
  unfold State.beginFill
  with_reducible repeat' first | assumption | apply State.setPage_wf | apply State.setLoading_wf | split | dsimp only

theorem State.slotFreed_wf {s : State} {k : Nat} (hw : Memory.wf s = true) : Memory.wf (State.slotFreed s k) = true := by
  unfold State.slotFreed
  with_reducible repeat' first | assumption | apply State.pbit_wf

theorem State.endOp_wf {s : State} {b : Nat} {r : Nat} {o : XOp} {detail : Nat} (hw : Memory.wf s = true) : Memory.wf (State.endOp s b r o detail) = true := by
  unfold State.endOp
  with_reducible repeat' first | assumption | intro _ | apply State.dropOp_wf | apply State.raiseBits_wf | apply State.each_wf | apply State.inc_wf | apply State.slotFreed_wf | apply State.setPageState_wf | apply State.dropXfer_wf | apply State.descDone_wf | split | dsimp only

theorem State.askMode_wf {s : State} {target : Nat} {cause : Nat} {rank : Nat} (hw : Memory.wf s = true) : Memory.wf (State.askMode s target cause rank) = true := by
  unfold State.askMode
  with_reducible repeat' first | apply State.p_wf | split | dsimp only | (apply wf_mk; assumption)

theorem State.askSteer_wf {s : State} {target : Nat} {cause : Nat} (hw : Memory.wf s = true) : Memory.wf (State.askSteer s target cause) = true := by
  unfold State.askSteer
  with_reducible repeat' first | assumption | apply State.askMode_wf | split

theorem State.askFollow_wf {s : State} (hw : Memory.wf s = true) : Memory.wf (State.askFollow s) = true := by
  unfold State.askFollow
  with_reducible repeat' first | assumption | apply State.askMode_wf | split

theorem State.withdrawMode_wf {s : State} (hw : Memory.wf s = true) : Memory.wf (State.withdrawMode s) = true := by
  unfold State.withdrawMode
  with_reducible repeat' first | apply State.p_wf | (apply wf_mk; assumption)

theorem State.leaveFollow_wf {s : State} {target : Nat} (hw : Memory.wf s = true) : Memory.wf (State.leaveFollow s target) = true := by
  unfold State.leaveFollow
  with_reducible repeat' first | assumption | apply State.withdrawMode_wf | apply State.askMode_wf | split | dsimp only

theorem State.modeRequestBody_wf {s : State} {target : Nat} (hw : Memory.wf s = true) : Memory.wf (State.modeRequestBody s target).st = true := by
  unfold State.modeRequestBody
  with_reducible repeat' first | intro _ | apply State.deny_wf | apply State.accept_wf | apply State.askMode_wf | split | dsimp only | (apply wf_mk; assumption)

theorem State.modeRequestCmd_wf {s : State} {w : Who} {target : Nat} (hw : Memory.wf s = true) : Memory.wf (State.modeRequestCmd s w target).st = true := by
  unfold State.modeRequestCmd
  with_reducible repeat' first | assumption | intro _ | apply State.call_wf | apply State.modeRequestBody_wf

theorem State.fetchVec_wf_eq {s : State} {q : Nat} {it : Iter} {i : Nat} {tt : State} (e : (State.fetchVec s q it i) = some tt) (hw : Memory.wf s = true) : Memory.wf tt = true := by
  revert e
  unfold State.fetchVec
  with_reducible repeat' first | assumption | refine wf_some ?_ | exact wf_none | apply State.setSq_wf | apply State.setRing_wf | split | dsimp only

theorem State.fetchOne_wf_eq {s : State} {q : Nat} {tt : State} (e : s.fetchOne q = some tt) (hw : Memory.wf s = true) : Memory.wf tt = true := by
  unfold State.fetchOne at e; dsimp only at e
  split at e
  · exact wf_none e
  · split at e
    · exact State.fetchVec_wf_eq e hw
    · split at e
      · exact State.fetchVec_wf_eq e hw
      · exact wf_none e

theorem State.fetchTo_wf {q limit : Nat} : ∀ {n : Nat} {s : State}, Memory.wf s = true → Memory.wf (State.fetchTo q limit n s) = true
  | 0, _, hw => hw
  | n + 1, s, hw => by
    unfold State.fetchTo
    split
    · split
      · exact State.fetchTo_wf (State.fetchOne_wf_eq ‹_› hw)
      · exact hw
    · exact hw

theorem State.fetchDue_wf {s : State} {q : Nat} (hw : Memory.wf s = true) : Memory.wf (State.fetchDue s q) = true := by
  unfold State.fetchDue
  with_reducible repeat' first | assumption | apply State.fetchTo_wf | split

theorem State.retime_wf {s : State} {q : Nat} (hw : Memory.wf s = true) : Memory.wf (State.retime s q) = true := by
  unfold State.retime
  with_reducible repeat' first | assumption | apply State.setSq_wf | split | dsimp only

theorem State.dropRing_wf {s : State} {q : Nat} {gone : List RingPage} (hw : Memory.wf s = true) : Memory.wf (State.dropRing s q gone) = true := by
  unfold State.dropRing
  with_reducible repeat' first | assumption | intro _ | apply wf_ite | apply wf_foldl | apply State.each_wf | apply State.endOp_wf | apply State.setPageState_wf | apply State.setRing_wf

theorem State.releasePath_wf {s : State} {q : Nat} (hw : Memory.wf s = true) : Memory.wf (State.releasePath s q) = true := by
  unfold State.releasePath
  with_reducible repeat' first | assumption | apply State.add_wf | apply State.dropRing_wf

theorem State.noteEpoch_wf {s : State} {q : Nat} {e : Option Nat} (hw : Memory.wf s = true) : Memory.wf (State.noteEpoch s q e) = true := by
  unfold State.noteEpoch
  with_reducible repeat' first | assumption | apply State.p_wf | split

theorem State.pushIter_wf {s : State} {q : Nat} {it : Iter} {b : Nat} (hw : Memory.wf s = true) : Memory.wf (State.pushIter s q it b) = true := by
  unfold State.pushIter
  with_reducible repeat' first | assumption | apply State.setSq_wf

theorem State.prefetch_wf {s : State} {q : Nat} {it : Iter} {b : Nat} (hw : Memory.wf s = true) : Memory.wf (State.prefetch s q it b) = true := by
  unfold State.prefetch
  with_reducible repeat' first | split | dsimp only | (apply wf_mk; first | assumption | apply wf_ite | apply wf_foldl | apply State.pushIter_wf | apply State.p_wf)

theorem State.fillFault_wf {s : State} {q : Nat} {counted : Bool} (hw : Memory.wf s = true) : Memory.wf (State.fillFault s q counted) = true := by
  unfold State.fillFault
  with_reducible repeat' first | assumption | apply State.raiseBits_wf | apply State.inc_wf | split

theorem State.replayNext_wf {s : State} {q : Nat} {b : Nat} {under : Bool} {jump : Bool} (hw : Memory.wf s = true) : Memory.wf (State.replayNext s q b under jump) = true := by
  unfold State.replayNext
  with_reducible repeat' first | assumption | apply State.pushIter_wf | apply State.noteEpoch_wf | apply State.setSq_wf | apply State.fillFault_wf | split | dsimp only

theorem State.replayAll_wf {s : State} {q : Nat} {b : Nat} {under : Bool} {jump : Bool} (hw : Memory.wf s = true) : Memory.wf (State.replayAll s q b under jump) = true := by
  unfold State.replayAll
  with_reducible repeat' first | assumption | apply State.replayNext_wf | apply State.setSq_wf | apply State.pushIter_wf | apply State.fillFault_wf | split | dsimp only

theorem State.beginUnderrun_wf {s : State} {q : Nat} {m : Iter} {ended : Option Iter} {b : Nat} {counted : Bool} (hw : Memory.wf s = true) : Memory.wf (State.beginUnderrun s q m ended b counted) = true := by
  unfold State.beginUnderrun
  with_reducible repeat' first | assumption | intro _ | apply wf_ite | apply State.setSq_wf | apply State.pushIter_wf | apply State.replayAll_wf

theorem State.continueUnderrun_wf {s : State} {q : Nat} {b : Nat} (hw : Memory.wf s = true) : Memory.wf (State.continueUnderrun s q b) = true := by
  unfold State.continueUnderrun
  with_reducible repeat' first | assumption | intro _ | apply wf_ite | apply State.replayAll_wf | apply State.pushIter_wf | split

theorem State.settle_wf {s : State} {q : Nat} {b : Nat} {c : Choice} {jump : Bool} (hw : Memory.wf s = true) : Memory.wf (State.settle s q b c jump) = true := by
  unfold State.settle
  with_reducible repeat' first | assumption | apply State.raiseBits_wf | apply State.inc_wf | apply State.setSq_wf | apply State.pushIter_wf | apply State.prefetch_wf | apply State.noteEpoch_wf | apply State.beginUnderrun_wf | apply State.fillFault_wf | split | dsimp only

theorem State.decideOwn_wf {s : State} {q : Nat} {b : Nat} (hw : Memory.wf s = true) : Memory.wf (State.decideOwn s q b) = true := by
  unfold State.decideOwn
  with_reducible repeat' first | assumption | apply State.continueUnderrun_wf | apply State.prefetch_wf | apply State.noteEpoch_wf | apply State.setSq_wf | apply State.fillFault_wf | apply State.settle_wf | split | dsimp only

theorem State.deferReq_wf {s : State} {q : Nat} (hw : Memory.wf s = true) : Memory.wf (State.deferReq s q) = true := by
  unfold State.deferReq
  with_reducible repeat' first | assumption | apply State.raiseBits_wf | apply State.p_wf | split

theorem State.decideNext_wf {s : State} {q : Nat} {b : Nat} (hw : Memory.wf s = true) : Memory.wf (State.decideNext s q b) = true := by
  unfold State.decideNext
  with_reducible repeat' first | assumption | apply State.replayNext_wf | apply State.deferReq_wf | apply State.decideOwn_wf | apply State.raiseBits_wf | apply State.inc_wf | apply State.p_wf | apply State.setSq_wf | apply State.pushIter_wf | apply State.settle_wf | split | dsimp only

theorem State.deadline_wf {s : State} {q : Nat} (hw : Memory.wf s = true) : Memory.wf (State.deadline s q) = true := by
  unfold State.deadline
  with_reducible repeat' first | assumption | apply State.releasePath_wf | apply State.decideNext_wf | split

theorem State.stopped_wf {s : State} {q : Nat} (hw : Memory.wf s = true) : Memory.wf (State.stopped s q) = true := by
  unfold State.stopped
  with_reducible repeat' first | assumption | apply State.setSq_wf | apply State.raiseBits_wf | apply State.pAll_wf

theorem State.beginIter_wf {s : State} {q : Nat} {it : Iter} (hw : Memory.wf s = true) : Memory.wf (State.beginIter s q it) = true := by
  unfold State.beginIter
  with_reducible repeat' first | assumption | apply State.p_wf | apply State.setSq_wf | apply State.stopped_wf | apply State.handTo_wf | apply State.raiseBits_wf | apply State.inc_wf | split

theorem State.boundary_wf {s : State} {q : Nat} (hw : Memory.wf s = true) : Memory.wf (State.boundary s q) = true := by
  unfold State.boundary
  with_reducible repeat' first | assumption | apply State.beginIter_wf | apply State.setSq_wf | split | dsimp only

theorem State.startReached_wf {s : State} {q : Nat} (hw : Memory.wf s = true) : Memory.wf (State.startReached s q) = true := by
  unfold State.startReached
  with_reducible repeat' first | assumption | apply State.beginIter_wf | apply State.setSq_wf | split | dsimp only

theorem State.vectorStart_wf {s : State} {q : Nat} (hw : Memory.wf s = true) : Memory.wf (State.vectorStart s q) = true := by
  unfold State.vectorStart
  with_reducible repeat' first | assumption | apply State.handTo_wf | apply State.setSq_wf | apply State.inc_wf | apply State.raiseBits_wf | apply State.pbit_wf | split | dsimp only

theorem State.setsInUse_wf {s : State} (hw : Memory.wf s = true) : Memory.wf (State.setsInUse s) = true := by
  unfold State.setsInUse
  with_reducible repeat' first | assumption | intro _ | apply wf_ite | apply State.each_wf | apply State.p_wf | apply State.pbit_wf | split

theorem State.spoil_wf {s : State} {q : Nat} {e : Nat} {j : Nat} {page : Option Nat} (hw : Memory.wf s = true) : Memory.wf (State.spoil s q e j page) = true := by
  unfold State.spoil
  with_reducible repeat' first | assumption | apply State.setSq_wf

theorem State.streamAgain_wf {s : State} {q : Nat} {it : Iter} (hw : Memory.wf s = true) : Memory.wf (State.streamAgain s q it) = true := by
  unfold State.streamAgain
  with_reducible repeat' first | assumption | intro _ | apply wf_ite | apply State.setRing_wf | apply State.dropRing_wf

theorem State.parkOnRetire_wf {s : State} {q : Nat} (hw : Memory.wf s = true) : Memory.wf (State.parkOnRetire s q) = true := by
  unfold State.parkOnRetire
  with_reducible repeat' first | assumption | intro _ | apply wf_ite | apply wf_foldl | apply State.p_wf | apply State.streamAgain_wf | apply State.pushIter_wf | apply State.setSq_wf | apply State.beginIter_wf | split | dsimp only | (apply wf_mk; assumption)

theorem State.cmpLog_wf {s : State} {q : Nat} {v : CmpVec} {o : Nat} {failMask : Nat} {invMask : Nat} {level : Nat} {compared : Nat} (hw : Memory.wf s = true) : Memory.wf (State.cmpLog s q v o failMask invMask level compared) = true := by
  unfold State.cmpLog
  with_reducible repeat' first | assumption | apply State.raiseBits_wf | apply State.inc_wf | apply State.p_wf | split | dsimp only

theorem State.outcome_wf {s : State} {q : Nat} {v : CmpVec} (hw : Memory.wf s = true) : Memory.wf (State.outcome s q v) = true := by
  unfold State.outcome
  with_reducible repeat' first | assumption | intro _ | apply wf_ite | apply State.fresh_wf | apply State.p_wf | apply State.inc_wf | apply State.raiseBits_wf | apply State.setSq_wf | apply State.cmpLog_wf | split

theorem State.compareOutcomes_wf {s : State} {q : Nat} (hw : Memory.wf s = true) : Memory.wf (State.compareOutcomes s q) = true := by
  unfold State.compareOutcomes
  with_reducible repeat' first | assumption | intro _ | apply wf_foldl | apply State.outcome_wf | apply State.setSq_wf

theorem State.cmpLogResumeCmd_wf {s : State} {w : Who} {q : Nat} {arg : Nat} (hw : Memory.wf s = true) : Memory.wf (State.cmpLogResumeCmd s w q arg).st = true := by
  unfold State.cmpLogResumeCmd
  with_reducible repeat' first | assumption | intro _ | apply State.call_wf | apply State.done_wf | apply State.p_wf

theorem State.cmpTailWrite_wf {s : State} {q : Nat} {v : Nat} (hw : Memory.wf s = true) : Memory.wf (State.cmpTailWrite s q v).st = true := by
  unfold State.cmpTailWrite
  with_reducible repeat' first | assumption | intro _ | apply State.deny_wf | apply State.done_wf | apply State.p_wf | split

theorem State.renewLock_wf {s : State} {w : Who} {q : Nat} (hw : Memory.wf s = true) : Memory.wf (State.renewLock s w q) = true := by
  unfold State.renewLock
  with_reducible repeat' first | assumption | apply State.setSq_wf | split

theorem State.sqLockCmd_wf {s : State} {w : Who} {q : Nat} {arg : Nat} (hw : Memory.wf s = true) : Memory.wf (State.sqLockCmd s w q arg).st = true := by
  unfold State.sqLockCmd
  with_reducible repeat' first | assumption | intro _ | apply State.call_wf | apply State.deny_wf | apply State.done_wf | apply State.renewLock_wf | apply State.p_wf | split

theorem State.breakLock_wf {s : State} {q : Nat} (hw : Memory.wf s = true) : Memory.wf (State.breakLock s q) = true := by
  unfold State.breakLock
  with_reducible repeat' first | assumption | apply State.raiseBits_wf | apply State.p_wf

theorem State.breakLocks_wf {s : State} {lost : Nat → Bool} (hw : Memory.wf s = true) : Memory.wf (State.breakLocks s lost) = true := by
  unfold State.breakLocks
  with_reducible repeat' first | assumption | apply State.each_wf | apply State.breakLock_wf

theorem State.holdReq_wf {s : State} {q : Nat} {r : SqReq} (hw : Memory.wf s = true) : Memory.wf (State.holdReq s q r).st = true := by
  unfold State.holdReq
  with_reducible repeat' first | assumption | intro _ | apply State.deny_wf | apply State.p_wf | apply State.setSq_wf | apply State.accept_wf | apply State.deferReq_wf | split

theorem State.sqJumpBody_wf {s : State} {q : Nat} {arg : Nat} (hw : Memory.wf s = true) : Memory.wf (State.sqJumpBody s q arg).st = true := by
  unfold State.sqJumpBody
  with_reducible repeat' first | assumption | intro _ | apply State.deny_wf | apply State.raiseBits_wf | apply State.inc_wf | apply State.holdReq_wf | split | dsimp only

theorem State.sqJumpCmd_wf {s : State} {w : Who} {q : Nat} {arg : Nat} (hw : Memory.wf s = true) : Memory.wf (State.sqJumpCmd s w q arg).st = true := by
  unfold State.sqJumpCmd
  with_reducible repeat' first | assumption | intro _ | apply State.call_wf | apply State.deny_wf | apply State.sqJumpBody_wf | apply State.renewLock_wf | split

theorem State.sqStopCmd_wf {s : State} {w : Who} {q : Nat} {arg : Nat} (hw : Memory.wf s = true) : Memory.wf (State.sqStopCmd s w q arg).st = true := by
  unfold State.sqStopCmd
  with_reducible repeat' first | assumption | intro _ | apply State.call_wf | apply State.deny_wf | apply State.renewLock_wf | apply State.holdReq_wf | split | dsimp only

theorem State.arm_wf {s : State} {q : Nat} {start : Nat} (hw : Memory.wf s = true) : Memory.wf (State.arm s q start) = true := by
  unfold State.arm
  with_reducible repeat' first | assumption | apply State.setSq_wf | apply State.pAll_wf

theorem State.sqStartBody_wf {s : State} {arg : Nat} (hw : Memory.wf s = true) : Memory.wf (State.sqStartBody s arg).st = true := by
  unfold State.sqStartBody
  with_reducible repeat' first | intro _ | apply State.p_wf | apply State.arm_wf | apply State.accept_wf | (apply wf_mk; first | assumption | apply wf_ite | apply wf_foldl | apply State.deny_wf | apply State.p_wf | apply State.each_wf | apply State.arm_wf | apply State.accept_wf | apply wf_iteRes)

theorem State.sqStartCmd_wf {s : State} {w : Who} {arg : Nat} (hw : Memory.wf s = true) : Memory.wf (State.sqStartCmd s w arg).st = true := by
  unfold State.sqStartCmd
  with_reducible repeat' first | assumption | intro _ | apply State.call_wf | apply State.deny_wf | apply State.sqStartBody_wf | apply State.each_wf | apply State.renewLock_wf | split | dsimp only

theorem State.segFreeCmd_wf {s : State} {w : Who} {e : Nat} (hw : Memory.wf s = true) : Memory.wf (State.segFreeCmd s w e).st = true := by
  unfold State.segFreeCmd
  with_reducible repeat' first | intro _ | apply State.call_wf | apply State.deny_wf | apply State.accept_wf | split | (apply wf_mk; assumption)

theorem State.freeEffect_wf {s : State} {e : Nat} (hw : Memory.wf s = true) : Memory.wf (State.freeEffect s e) = true := by
  unfold State.freeEffect
  with_reducible repeat' first | split | dsimp only | (apply wf_mk; first | assumption | apply wf_ite | apply wf_foldl | apply State.p_wf | apply State.inc_wf | apply State.releasePages_wf | apply State.setSeg_wf)

theorem State.endDead_wf {b r : Nat} : ∀ {n : Nat} {s : State}, Memory.wf s = true → Memory.wf (State.endDead b r n s) = true
  | 0, _, hw => hw
  | n + 1, s, hw => by
    unfold State.endDead
    split
    · exact wf_ite (fun _ => State.endDead_wf (State.endOp_wf hw)) (fun _ => hw)
    · exact hw

theorem State.checkEnds_wf {s : State} {b : Nat} (hw : Memory.wf s = true) : Memory.wf (State.checkEnds s b) = true := by
  unfold State.checkEnds
  with_reducible repeat' first | assumption | intro _ | apply State.each_wf | apply State.endDead_wf

theorem State.endEarlier_wf {s : State} {ppn : Nat} (hw : Memory.wf s = true) : Memory.wf (State.endEarlier s ppn) = true := by
  unfold State.endEarlier
  with_reducible repeat' first | assumption | intro _ | apply wf_foldl | apply State.endOp_wf

theorem State.pageRefused_wf {s : State} {code : Nat} (hw : Memory.wf s = true) : Memory.wf (State.pageRefused s code) = true := by
  unfold State.pageRefused
  with_reducible repeat' first | assumption | apply State.inc_wf | split

theorem State.pagePostBody_wf {s : State} {arg : Nat} (hw : Memory.wf s = true) : Memory.wf (State.pagePostBody s arg).st = true := by
  unfold State.pagePostBody
  with_reducible repeat' first | assumption | intro _ | apply State.deny_wf | apply State.pbit_wf | apply State.endEarlier_wf | apply State.accept_wf | apply State.acceptOp_wf | apply State.pageRefused_wf | split | dsimp only

theorem State.pagePostCmd_wf {s : State} {w : Who} {arg : Nat} (hw : Memory.wf s = true) : Memory.wf (State.pagePostCmd s w arg).st = true := by
  unfold State.pagePostCmd
  with_reducible repeat' first | assumption | intro _ | apply State.call_wf | apply State.pagePostBody_wf

theorem State.finishWrite_wf {s : State} {o : XOp} (hw : Memory.wf s = true) : Memory.wf (State.finishWrite s o) = true := by
  unfold State.finishWrite
  with_reducible repeat' first | assumption | intro _ | apply wf_ite | apply State.setPageState_wf | apply State.dropOp_wf | apply State.slotFreed_wf | apply State.inc_wf | apply State.dropXfer_wf | apply State.descDone_wf | apply State.checkEnds_wf | apply State.setRetry_wf | split

theorem State.writeRest_wf {s : State} {o : XOp} (hw : Memory.wf s = true) : Memory.wf (State.writeRest s o) = true := by
  unfold State.writeRest
  with_reducible repeat' first | assumption | intro _ | apply State.each_wf | apply State.putWord_wf | split

theorem State.pageWritten_wf {s : State} {ppn : Nat} (hw : Memory.wf s = true) : Memory.wf (State.pageWritten s ppn) = true := by
  unfold State.pageWritten
  with_reducible repeat' first | assumption | intro _ | apply wf_ite | apply State.checkEnds_wf | apply State.beginFill_wf | apply State.finishWrite_wf | apply State.writeRest_wf | split

theorem State.mixSlot_wf {s : State} {k : Nat} {old : State} (hw : Memory.wf s = true) (_hw2 : Memory.wf old = true) : Memory.wf (State.mixSlot s k old) = true := by
  unfold State.mixSlot
  with_reducible repeat' first | intro _ | (apply wf_mk; first | assumption | apply wf_ite | apply wf_foldl | apply State.each_wf | apply State.putWord_wf | apply State.setUnit_wf)

theorem State.slotWrite_wf {s : State} {off : Nat} {bytes : List Byte} (hw : Memory.wf s = true) : Memory.wf (State.slotWrite s off bytes) = true := by
  unfold State.slotWrite
  with_reducible repeat' first | assumption | intro _ | apply wf_foldl | apply State.setSlotByte_wf | apply State.mixSlot_wf

theorem State.acceptRead_wf {s : State} {slot : Nat} {ppn : Nat} (hw : Memory.wf s = true) : Memory.wf (State.acceptRead s slot ppn).st = true := by
  unfold State.acceptRead
  with_reducible repeat' first | assumption | intro _ | apply State.deny_wf | apply State.accept_wf | apply State.acceptOp_wf | apply State.pbit_wf | split

theorem State.pageReadBody_wf {s : State} {byEntry : Bool} {arg : Nat} (hw : Memory.wf s = true) : Memory.wf (State.pageReadBody s byEntry arg).st = true := by
  unfold State.pageReadBody
  with_reducible repeat' first | assumption | intro _ | apply State.deny_wf | apply State.acceptRead_wf | split | dsimp only

theorem State.pageReadCmd_wf {s : State} {w : Who} {arg : Nat} (hw : Memory.wf s = true) : Memory.wf (State.pageReadCmd s w arg).st = true := by
  unfold State.pageReadCmd
  with_reducible repeat' first | assumption | intro _ | apply State.call_wf | apply State.pageReadBody_wf

theorem State.wordCorrected_wf {s : State} {ppn : Nat} (hw : Memory.wf s = true) : Memory.wf (State.wordCorrected s ppn) = true := by
  unfold State.wordCorrected
  with_reducible repeat' first | assumption | apply State.raiseVal_wf | apply State.setPage_wf | apply State.inc_wf

theorem State.endOnPage_wf {s : State} {ppn : Nat} (hw : Memory.wf s = true) : Memory.wf (State.endOnPage s ppn) = true := by
  unfold State.endOnPage
  with_reducible repeat' first | assumption | intro _ | apply wf_foldl | apply State.endOp_wf

theorem State.wordLost_wf {s : State} {ppn : Nat} (hw : Memory.wf s = true) : Memory.wf (State.wordLost s ppn) = true := by
  unfold State.wordLost
  with_reducible repeat' first | assumption | intro _ | apply wf_ite | apply State.raiseVal_wf | apply State.inc_wf | apply State.endOnPage_wf | apply State.spoil_wf | apply State.each_wf | apply State.retirePage_wf | split

theorem State.pageReadDone_wf {s : State} {slot : Nat} {bad : List Nat} (hw : Memory.wf s = true) : Memory.wf (State.pageReadDone s slot bad) = true := by
  unfold State.pageReadDone
  with_reducible repeat' first | assumption | intro _ | apply State.each_wf | apply State.setSlotByte_wf | apply State.p_wf | apply State.slotFreed_wf | apply State.dropOp_wf | apply State.wordLost_wf | split

theorem State.testNext_wf : ∀ {n : Nat} {s : State}, Memory.wf s = true → Memory.wf (State.testNext n s) = true
  | 0, _, hw => hw
  | n + 1, s, hw => by
    unfold State.testNext
    split
    · split
      · exact State.acceptOp_wf hw
      · exact State.testNext_wf (wf_mk (h := hw))
    · exact State.p_wf (wf_mk (h := hw))
    · exact hw

theorem State.selftestCmd_wf {s : State} {w : Who} {mask : Nat} (hw : Memory.wf s = true) : Memory.wf (State.selftestCmd s w mask).st = true := by
  unfold State.selftestCmd
  with_reducible repeat' first | assumption | intro _ | apply State.call_wf | apply State.deny_wf | apply State.accept_wf | apply State.testNext_wf | apply wf_iteRes | (apply wf_mk; assumption)

theorem State.scramble_wf {s : State} {ppn : Nat} (hw : Memory.wf s = true) : Memory.wf (State.scramble s ppn) = true := by
  unfold State.scramble
  with_reducible repeat' first | assumption | intro _ | apply State.putWord_wf | dsimp only | (apply wf_mk; apply State.each_wf)

theorem State.selftestDone_wf {s : State} {ppn : Nat} {pass : Bool} (hw : Memory.wf s = true) : Memory.wf (State.selftestDone s ppn pass) = true := by
  unfold State.selftestDone
  with_reducible repeat' first | assumption | intro _ | apply wf_ite | apply State.dropOp_wf | apply State.scramble_wf | apply State.retirePage_wf | apply State.wordLost_wf | apply State.testNext_wf | apply State.checkEnds_wf | split | (apply wf_mk; apply wf_foldl)

theorem State.moveStart_wf {s : State} {src : Nat} {dst : Nat} {why : MoveReason} (hw : Memory.wf s = true) : Memory.wf (State.moveStart s src dst why) = true := by
  unfold State.moveStart
  with_reducible repeat' first | assumption | intro _ | apply wf_ite | apply State.acceptOp_wf

theorem State.moveEnds_wf {s : State} (hw : Memory.wf s = true) : Memory.wf (State.moveEnds s) = true := by
  unfold State.moveEnds
  with_reducible repeat' first | assumption | apply State.endDead_wf

theorem State.moveWhole_wf {s : State} {o : XOp} (hw : Memory.wf s = true) : Memory.wf (State.moveWhole s o) = true := by
  unfold State.moveWhole
  with_reducible repeat' first | apply State.setActive_wf | (apply wf_mk; assumption)

theorem State.moveComplete_wf {s : State} (hw : Memory.wf s = true) : Memory.wf (State.moveComplete s) = true := by
  unfold State.moveComplete
  with_reducible repeat' first | assumption | intro _ | apply wf_ite | apply State.moveEnds_wf | apply State.moveWhole_wf | split

theorem State.moveEffect_wf {s : State} (hw : Memory.wf s = true) : Memory.wf (State.moveEffect s) = true := by
  unfold State.moveEffect
  with_reducible repeat' first | assumption | intro _ | apply wf_ite | apply State.moveEnds_wf | apply State.each_wf | apply State.putWord_wf | apply State.dropOp_wf | apply State.setPage_wf | apply State.inc_wf | apply State.plLog_wf | apply State.raiseVal_wf | apply State.addBank_wf | apply State.dropBanks_wf | split | dsimp only | (apply wf_mk; assumption)

theorem State.retireWorn_wf {s : State} {q : Nat} (hw : Memory.wf s = true) : Memory.wf (State.retireWorn s q) = true := by
  unfold State.retireWorn
  with_reducible repeat' first | assumption | intro _ | apply State.each_wf | apply State.retirePage_wf

theorem State.scrubDone_wf {s : State} {ppn : Nat} (hw : Memory.wf s = true) : Memory.wf (State.scrubDone s ppn) = true := by
  unfold State.scrubDone
  with_reducible repeat' first | assumption | intro _ | apply wf_ite | apply State.dropOp_wf | apply State.inc_wf | apply State.retireWorn_wf | (apply wf_mk; apply wf_foldl)

theorem State.scrubFrame_wf {s : State} (hw : Memory.wf s = true) : Memory.wf (State.scrubFrame s) = true := by
  unfold State.scrubFrame
  with_reducible repeat' first | assumption | intro _ | apply wf_ite | apply State.each_wf | (apply wf_mk; assumption)

theorem State.pageGone_wf {s : State} {ppn : Nat} {st : Nat} (hw : Memory.wf s = true) : Memory.wf (State.pageGone s ppn st) = true := by
  unfold State.pageGone
  with_reducible repeat' first | assumption | intro _ | apply wf_ite | apply State.setPageState_wf | apply State.setLoading_wf

theorem State.pageFails_wf {s : State} {ppn : Nat} {src : Nat} (hw : Memory.wf s = true) : Memory.wf (State.pageFails s ppn src) = true := by
  unfold State.pageFails
  with_reducible repeat' first | assumption | apply State.setRetry_wf | apply State.raiseVal_wf | apply State.inc_wf | apply State.pageGone_wf

theorem State.beginXfer_wf {s : State} {load : Option (Nat × Nat)} {e : Nat} {gen : Nat} {n : Nat} {ppn : Nat} {w : Nat} {o : Nat} (hw : Memory.wf s = true) : Memory.wf (State.beginXfer s load e gen n ppn w o) = true := by
  unfold State.beginXfer
  with_reducible repeat' first | apply State.pageFails_wf | apply State.inc_wf | apply State.descDone_wf | apply State.acceptOp_wf | apply State.emitReads_wf | split | (apply wf_mk; assumption)

theorem State.refillPage_wf {s : State} {f : Refill} (hw : Memory.wf s = true) : Memory.wf (State.refillPage s f) = true := by
  unfold State.refillPage
  with_reducible repeat' first | assumption | apply State.beginXfer_wf | apply State.setRetry_wf | apply State.endEarlier_wf | apply State.setRing_wf | apply State.setPage_wf | split

theorem State.refillRetry_wf {s : State} {ppn : Nat} (hw : Memory.wf s = true) : Memory.wf (State.refillRetry s ppn) = true := by
  unfold State.refillRetry
  with_reducible repeat' first | assumption | intro _ | apply wf_ite | apply State.refillPage_wf | apply State.setPageState_wf | split

theorem State.retrySoon_wf {s : State} {all : Bool} {es : List Nat} (hw : Memory.wf s = true) : Memory.wf (State.retrySoon s all es) = true := by
  unfold State.retrySoon
  with_reducible repeat' first | assumption | intro _ | apply wf_ite | apply State.each_wf | apply State.setRetry_wf | split

theorem State.attemptFails_wf {s : State} {x : Xfer} {timedOut : Bool} (hw : Memory.wf s = true) : Memory.wf (State.attemptFails s x timedOut) = true := by
  unfold State.attemptFails
  with_reducible repeat' first | assumption | intro _ | apply wf_ite | apply wf_foldl | apply State.dropOp_wf | apply State.pageFails_wf | apply State.dropXfer_wf | apply State.descDone_wf | apply State.raiseVal_wf | apply State.inc_wf | apply State.pageGone_wf | apply State.setUnit_wf | apply State.emitReads_wf | apply State.setXfer_wf | split | dsimp only | (apply wf_mk; assumption)

theorem State.dmaArrives_wf {s : State} {tag : Nat} {st : CplStatus} {data : List Byte} {last : Bool} (hw : Memory.wf s = true) : Memory.wf (State.dmaArrives s tag st data last) = true := by
  unfold State.dmaArrives
  with_reducible repeat' first | assumption | apply State.inc_wf | apply State.setXfer_wf | apply State.attemptFails_wf | split

theorem State.loadPage_wf {s : State} {q : Nat} {tag : Nat} {w : Nat} {o : Nat} {e : Nat} {gen : Nat} {n : Nat} (hw : Memory.wf s = true) : Memory.wf (State.loadPage s q tag w o e gen n) = true := by
  unfold State.loadPage
  with_reducible repeat' first | assumption | apply State.beginXfer_wf | apply State.endEarlier_wf | apply State.descDone_wf | apply State.pageRefused_wf | split

theorem State.residencyFrame_wf {s : State} (hw : Memory.wf s = true) : Memory.wf (State.residencyFrame s) = true := by
  unfold State.residencyFrame
  with_reducible repeat' first | assumption | intro _ | apply wf_ite | apply State.each_wf | apply State.placeStream_wf | refine State.placePreferred_wf_eq (by assumption) ?_ | split | (apply wf_mk; assumption)

theorem State.starved_wf {s : State} (hw : Memory.wf s = true) : Memory.wf (State.starved s) = true := by
  unfold State.starved
  with_reducible repeat' first | assumption | intro _ | apply wf_ite | apply State.each_wf | apply State.raiseVal_wf | apply State.inc_wf | split

theorem State.setArb_wf {s : State} {b : Nat} {h : ArbHid} (hw : Memory.wf s = true) : Memory.wf (State.setArb s b h) = true := by
  unfold State.setArb
  with_reducible repeat' first | (apply wf_mk; assumption)

theorem State.readFinds_wf {s : State} {ppn : Nat} {e : ReadEcc} (hw : Memory.wf s = true) : Memory.wf (State.readFinds s ppn e) = true := by
  unfold State.readFinds
  with_reducible repeat' first | assumption | apply State.wordCorrected_wf | apply State.wordLost_wf | split

theorem State.takeWords_wf {q : Nat} : ∀ {n : Nat} {s : State}, Memory.wf s = true → Memory.wf (State.takeWords q n s) = true
  | 0, _, hw => hw
  | n + 1, s, hw => by
    unfold State.takeWords
    split
    · exact wf_ite (fun _ => State.takeWords_wf (State.each_wf (fun _ _ h => wf_getD h (fun t e => State.fetchOne_wf_eq e h)) (State.setSq_wf hw))) (fun _ => hw)
    · exact hw

theorem State.grantPrefetch_wf {s : State} {b q : Nat} {e : ReadEcc} (hw : Memory.wf s = true) : Memory.wf (s.grantPrefetch b q e) = true := by
  unfold State.grantPrefetch
  split
  · exact wf_ite (fun _ => State.wordLost_wf hw) (fun _ => State.takeWords_wf (State.setSq_wf (State.readFinds_wf hw)))
  · exact hw

theorem State.grantMove_wf {s : State} {b : Nat} {o : XOp} {e : ReadEcc} (hw : Memory.wf s = true) : Memory.wf (State.grantMove s b o e) = true := by
  unfold State.grantMove
  with_reducible repeat' first | assumption | intro _ | apply wf_ite | apply State.readFinds_wf | apply State.setActive_wf | apply State.putWord_wf | apply State.moveWhole_wf

theorem State.grantScrub_wf {s : State} {b : Nat} {o : XOp} {e : ReadEcc} (hw : Memory.wf s = true) : Memory.wf (State.grantScrub s b o e) = true := by
  unfold State.grantScrub
  with_reducible repeat' first | assumption | intro _ | apply wf_ite | apply State.setActive_wf | apply State.readFinds_wf

theorem State.grantOp_wf {s : State} {b : Nat} {r : Nat} {e : ReadEcc} (hw : Memory.wf s = true) : Memory.wf (State.grantOp s b r e) = true := by
  unfold State.grantOp
  with_reducible repeat' first | assumption | intro _ | apply wf_ite | apply State.grantScrub_wf | apply State.beginFill_wf | apply State.putWord_wf | apply State.finishWrite_wf | apply State.setActive_wf | apply State.grantMove_wf | apply State.readFinds_wf | split

theorem State.arbCycle_wf {s : State} {b : Nat} {reqs : List BankReq} (hw : Memory.wf s = true) : Memory.wf (State.arbCycle s b reqs) = true := by
  unfold State.arbCycle
  with_reducible repeat' first | assumption | intro _ | apply wf_ite | apply State.setArb_wf | apply State.each_wf | apply State.p_wf | apply State.raiseBits_wf | apply State.inc_wf | apply State.emit_wf | apply State.checkEnds_wf | apply State.grantPrefetch_wf | apply State.grantOp_wf | split | dsimp only

theorem State.shadowDirty_wf {s : State} (hw : Memory.wf s = true) : Memory.wf (State.shadowDirty s) = true := by
  unfold State.shadowDirty
  with_reducible repeat' first | assumption | apply State.p_wf

theorem State.arbCommitCmd_wf {s : State} {w : Who} {arg : Nat} (hw : Memory.wf s = true) : Memory.wf (State.arbCommitCmd s w arg).st = true := by
  unfold State.arbCommitCmd
  with_reducible repeat' first | assumption | intro _ | apply State.call_wf | apply State.each_wf | apply State.p_wf | apply State.inc_wf | apply State.done_wf

theorem State.urgWrite_wf {s : State} {r : Nat} {v : Nat} (hw : Memory.wf s = true) : Memory.wf (State.urgWrite s r v).st = true := by
  unfold State.urgWrite
  with_reducible repeat' first | assumption | intro _ | apply State.deny_wf | apply State.done_wf | apply State.p_wf | apply wf_iteRes

theorem State.opReset_wf {s : State} {o : XOp} (hw : Memory.wf s = true) : Memory.wf (State.opReset s o) = true := by
  unfold State.opReset
  with_reducible repeat' first | assumption | intro _ | apply wf_ite | apply State.p_wf | apply State.setRetry_wf | apply State.slotFreed_wf

theorem State.arbError_wf {s : State} {b : Nat} (hw : Memory.wf s = true) : Memory.wf (State.arbError s b) = true := by
  unfold State.arbError
  with_reducible repeat' first | assumption | intro _ | apply wf_ite | apply wf_foldl | apply State.each_wf | apply State.p_wf | apply State.setArb_wf | apply State.opReset_wf | apply State.endOp_wf | apply State.raiseBits_wf | apply State.inc_wf

theorem State.arbLatch_wf {s : State} (hw : Memory.wf s = true) : Memory.wf (State.arbLatch s) = true := by
  unfold State.arbLatch
  with_reducible repeat' first | assumption | intro _ | apply wf_ite | apply State.each_wf | apply State.add_wf | apply State.pAll_wf | apply State.p_wf | apply State.raiseBits_wf | apply State.setArb_wf

theorem State.refreshRows_wf {s : State} (hw : Memory.wf s = true) : Memory.wf (State.refreshRows s) = true := by
  unfold State.refreshRows
  with_reducible repeat' first | assumption | intro _ | apply State.each_wf | apply State.p_wf

end Sys2Proof.Machine
end

