-- ==== Sys2Proof/Laws/MemoryClock.lean ====
section
/-! SUPPORT. The synthesizers, the Headstock, the Steady Rest and the steps toward a target keep the memories in canonical form. -/

set_option Elab.async false

namespace Sys2Proof.Machine

theorem State.judge_wf {s : State} {c : Nat} (hw : Memory.wf s = true) : Memory.wf (State.judge s c) = true := by
  unfold State.judge
  with_reducible repeat' first | assumption | apply State.p_wf

theorem State.gatePad_wf {s : State} {c : Nat} {openFrom : Nat} {off : Nat} (hw : Memory.wf s = true) : Memory.wf (State.gatePad s c openFrom off) = true := by
  unfold State.gatePad
  with_reducible repeat' first | assumption | apply State.setPad_wf

theorem State.gatePads_wf {s : State} {l : List Nat} {openFrom : Nat} (hw : Memory.wf s = true) : Memory.wf (State.gatePads s l openFrom) = true := by
  unfold State.gatePads
  with_reducible repeat' first | assumption | intro _ | apply State.each_wf | apply State.gatePad_wf

theorem State.takeSubst_wf {s : State} {off : Nat} {c : Nat} (hw : Memory.wf s = true) : Memory.wf (State.takeSubst s off c) = true := by
  unfold State.takeSubst
  with_reducible repeat' first | assumption | apply State.raiseBits_wf | apply State.p_wf | apply State.gatePad_wf

theorem State.toSubst_wf {s : State} {off : Nat} {c : Nat} (hw : Memory.wf s = true) : Memory.wf (State.toSubst s off c) = true := by
  unfold State.toSubst
  with_reducible repeat' first | assumption | intro _ | apply wf_ite | apply State.takeSubst_wf | apply State.setPad_wf

theorem State.someOffset_wf {s : State} (hw : Memory.wf s = true) : Memory.wf (State.someOffset s).2 = true := by
  unfold State.someOffset
  with_reducible repeat' first | assumption | apply State.fresh_wf

theorem State.someOffset_wf_eq {s : State} {aa : Nat} {tt : State} (ee : (State.someOffset s) = (aa, tt)) (hw : Memory.wf s = true) : Memory.wf tt = true := by
  have h1 : Memory.wf (State.someOffset s).2 = true := State.someOffset_wf hw; rw [ee] at h1; exact h1

theorem State.fromSubst_wf {s : State} {c : Nat} {openFrom : Nat} (hw : Memory.wf s = true) : Memory.wf (State.fromSubst s c openFrom) = true := by
  unfold State.fromSubst
  with_reducible repeat' first | assumption | intro _ | apply wf_ite | apply State.p_wf | apply State.gatePad_wf

theorem State.openPad_wf {s : State} {c : Nat} (hw : Memory.wf s = true) : Memory.wf (State.openPad s c) = true := by
  unfold State.openPad
  with_reducible repeat' first | assumption | intro _ | apply wf_ite | apply State.emit_wf | apply State.setPad_wf | apply State.p_wf | split | (apply wf_mk; first | assumption | apply State.emit_wf)

theorem State.setClkFreq_wf {s : State} {c : Nat} (hw : Memory.wf s = true) : Memory.wf (State.setClkFreq s c) = true := by
  unfold State.setClkFreq
  with_reducible repeat' first | assumption | apply State.est_wf | apply State.p_wf

theorem State.setPhi_wf {s : State} {u : Nat} (hw : Memory.wf s = true) : Memory.wf (State.setPhi s u) = true := by
  unfold State.setPhi
  with_reducible repeat' first | assumption | intro _ | apply wf_ite | apply State.p_wf

theorem State.utStep2_wf {s : State} {u : Nat} (hw : Memory.wf s = true) : Memory.wf (State.utStep2 s u) = true := by
  unfold State.utStep2
  with_reducible repeat' first | assumption | intro _ | apply wf_ite | apply wf_foldl | apply State.p_wf | apply State.est_wf | apply State.setUt_wf | apply State.toSubst_wf | apply State.raiseBits_wf | split | dsimp only

theorem State.gatedRelock_wf {s : State} {u : Nat} {num : Nat} (hw : Memory.wf s = true) : Memory.wf (State.gatedRelock s u num) = true := by
  unfold State.gatedRelock
  with_reducible repeat' first | assumption | intro _ | apply wf_ite | apply wf_foldl | apply State.setUt_wf | apply State.p_wf | apply State.each_wf | apply State.gatePad_wf | apply State.setClkFreq_wf | apply State.setPhi_wf | apply State.utStep2_wf

theorem State.retarget_wf {s : State} {u : Nat} {num : Nat} (hw : Memory.wf s = true) : Memory.wf (State.retarget s u num) = true := by
  unfold State.retarget
  with_reducible repeat' first | assumption | intro _ | apply wf_ite | apply State.setPhi_wf | apply State.setUt_wf | apply State.utStep2_wf | apply State.p_wf

theorem State.stopWave_wf {s : State} {c : Nat} {t : Nat} (hw : Memory.wf s = true) : Memory.wf (State.stopWave s c t) = true := by
  unfold State.stopWave
  with_reducible repeat' first | assumption | intro _ | apply wf_ite | apply State.p_wf | apply State.setPad_wf

theorem State.closePad_wf {s : State} {c : Nat} (hw : Memory.wf s = true) : Memory.wf (State.closePad s c) = true := by
  unfold State.closePad
  with_reducible repeat' first | assumption | intro _ | apply wf_ite | apply State.emit_wf | apply State.stopWave_wf | apply State.utStep2_wf

theorem State.closeDue_wf {s : State} (hw : Memory.wf s = true) : Memory.wf (State.closeDue s) = true := by
  unfold State.closeDue
  with_reducible repeat' first | assumption | intro _ | apply State.each_wf | apply State.closePad_wf

theorem State.parkRise_wf {s : State} {c : Nat} (hw : Memory.wf s = true) : Memory.wf (State.parkRise s c) = true := by
  unfold State.parkRise
  with_reducible repeat' first | assumption | intro _ | apply wf_ite | apply State.emit_wf | apply State.setPad_wf | apply State.p_wf

theorem State.frameRate_wf {s : State} {u : Nat} (hw : Memory.wf s = true) : Memory.wf (State.frameRate s u).2 = true := by
  unfold State.frameRate
  with_reducible repeat' first | assumption | apply State.fresh_wf | split

theorem State.frameRate_wf_eq {s : State} {u : Nat} {aa : Nat} {tt : State} (ee : (State.frameRate s u) = (aa, tt)) (hw : Memory.wf s = true) : Memory.wf tt = true := by
  have h1 : Memory.wf (State.frameRate s u).2 = true := State.frameRate_wf hw; rw [ee] at h1; exact h1

theorem State.waveFrame_wf {s : State} (hw : Memory.wf s = true) : Memory.wf (State.waveFrame s) = true := by
  unfold State.waveFrame
  with_reducible repeat' first | assumption | intro _ | apply State.each_wf | apply State.frameRate_wf | apply State.emit_wf | apply State.setPad_wf | apply State.parkRise_wf | split

theorem State.stepWaves_wf {s : State} (hw : Memory.wf s = true) : Memory.wf (State.stepWaves s) = true := by
  unfold State.stepWaves
  with_reducible repeat' first | assumption | intro _ | apply State.each_wf | apply State.setPad_wf

theorem State.utLocked_wf {s : State} {u : Nat} (hw : Memory.wf s = true) : Memory.wf (State.utLocked s u) = true := by
  unfold State.utLocked
  with_reducible repeat' first | assumption | apply State.setUt_wf | apply State.p_wf

theorem State.utLost_wf {s : State} {u : Nat} (hw : Memory.wf s = true) : Memory.wf (State.utLost s u) = true := by
  unfold State.utLost
  with_reducible repeat' first | assumption | intro _ | apply wf_foldl | apply State.inc_wf | apply State.raiseBits_wf | apply State.someOffset_wf | apply State.toSubst_wf | apply State.setUt_wf | apply State.p_wf | apply State.utStep2_wf

theorem State.leaveSubst_wf {s : State} {u : Nat} (hw : Memory.wf s = true) : Memory.wf (State.leaveSubst s u) = true := by
  unfold State.leaveSubst
  with_reducible repeat' first | assumption | intro _ | apply wf_ite | apply State.each_wf | apply State.fromSubst_wf

theorem State.hitless_wf {s : State} {u : Nat} {num : Nat} (hw : Memory.wf s = true) : Memory.wf (State.hitless s u num) = true := by
  unfold State.hitless
  with_reducible repeat' first | assumption | apply State.setUt_wf | apply State.p_wf

theorem State.utCount_wf {s : State} {u : Nat} (hw : Memory.wf s = true) : Memory.wf (State.utCount s u) = true := by
  unfold State.utCount
  with_reducible repeat' first | assumption | intro _ | apply wf_ite | apply State.setUt_wf

theorem State.utSteerStep_wf {s : State} {u : Nat} (hw : Memory.wf s = true) : Memory.wf (State.utSteerStep s u) = true := by
  unfold State.utSteerStep
  with_reducible repeat' first | assumption | intro _ | apply wf_ite | apply State.utCount_wf | apply State.est_wf | apply State.p_wf | apply State.raiseBits_wf | apply State.setUt_wf | split | dsimp only

theorem State.utMargin_wf {s : State} {u : Nat} (hw : Memory.wf s = true) : Memory.wf (State.utMargin s u) = true := by
  unfold State.utMargin
  with_reducible repeat' first | assumption | intro _ | apply wf_ite | apply State.utStep2_wf | apply State.est_wf | apply State.p_wf | apply State.gatedRelock_wf | apply State.inc_wf | apply State.raiseBits_wf | apply State.setUt_wf | split

theorem State.utBandMeasureBody_wf {s : State} {u : Nat} {fLo : Nat} {fHi : Nat} (hw : Memory.wf s = true) : Memory.wf (State.utBandMeasureBody s u fLo fHi).st = true := by
  unfold State.utBandMeasureBody
  with_reducible repeat' first | assumption | intro _ | apply State.deny_wf | apply State.done_wf | apply State.pi_wf | apply wf_iteRes

theorem State.utBandMeasureCmd_wf {s : State} {w : Who} {u : Nat} {code : Nat} {fLo : Nat} {fHi : Nat} (hw : Memory.wf s = true) : Memory.wf (State.utBandMeasureCmd s w u code fLo fHi).st = true := by
  unfold State.utBandMeasureCmd
  with_reducible repeat' first | assumption | intro _ | apply State.call_wf | apply State.utBandMeasureBody_wf

theorem State.spnLocked_wf {s : State} (hw : Memory.wf s = true) : Memory.wf (State.spnLocked s) = true := by
  unfold State.spnLocked
  with_reducible repeat' first | assumption | intro _ | apply wf_ite | apply State.p_wf | apply State.askFollow_wf | dsimp only | (apply wf_mk; apply State.p_wf)

theorem State.bypSwitch_wf {s : State} {off : Nat} (hw : Memory.wf s = true) : Memory.wf (State.bypSwitch s off) = true := by
  unfold State.bypSwitch
  with_reducible repeat' first | assumption | intro _ | apply wf_foldl | apply State.toSubst_wf | dsimp only | (apply wf_mk; apply State.p_wf)

theorem State.spnLost_wf {s : State} {off : Nat} (hw : Memory.wf s = true) : Memory.wf (State.spnLost s off) = true := by
  unfold State.spnLost
  with_reducible repeat' first | assumption | intro _ | apply wf_ite | apply State.p_wf | apply State.inc_wf | apply State.bypSwitch_wf | dsimp only | (apply wf_mk; apply State.raiseBits_wf)

theorem State.switchBack_wf {s : State} (hw : Memory.wf s = true) : Memory.wf (State.switchBack s) = true := by
  unfold State.switchBack
  with_reducible repeat' first | assumption | intro _ | apply wf_foldl | apply State.raiseBits_wf | apply State.p_wf | apply State.fromSubst_wf | split | dsimp only | (apply wf_mk; apply State.p_wf)

theorem State.substGone_wf {s : State} (hw : Memory.wf s = true) : Memory.wf (State.substGone s) = true := by
  unfold State.substGone
  with_reducible repeat' first | assumption | intro _ | apply wf_ite | apply State.someOffset_wf | apply State.each_wf | apply State.p_wf | apply State.gatePad_wf

theorem State.boundsGone_wf {s : State} {l : List Nat} (hw : Memory.wf s = true) : Memory.wf (State.boundsGone s l) = true := by
  unfold State.boundsGone
  with_reducible repeat' first | assumption | intro _ | apply State.each_wf | apply State.judge_wf | apply State.p_wf

theorem State.allUnknown_wf {s : State} (hw : Memory.wf s = true) : Memory.wf (State.allUnknown s) = true := by
  unfold State.allUnknown
  with_reducible repeat' first | assumption | apply State.boundsGone_wf | apply State.p_wf

theorem State.bypLost_wf {s : State} (hw : Memory.wf s = true) : Memory.wf (State.bypLost s) = true := by
  unfold State.bypLost
  with_reducible repeat' first | split | dsimp only | (apply wf_mk; first | assumption | apply wf_ite | apply wf_foldl | apply State.inc_wf | apply State.p_wf | apply State.substGone_wf | apply State.raiseBits_wf | apply State.allUnknown_wf)

theorem State.substBack_wf {s : State} (hw : Memory.wf s = true) : Memory.wf (State.substBack s) = true := by
  unfold State.substBack
  with_reducible repeat' first | assumption | intro _ | apply State.each_wf | apply State.takeSubst_wf

theorem State.loadOnByp_wf {s : State} (hw : Memory.wf s = true) : Memory.wf (State.loadOnByp s) = true := by
  unfold State.loadOnByp
  with_reducible repeat' first | (apply wf_mk; first | assumption | apply wf_ite | apply wf_foldl | apply State.p_wf)

theorem State.bypLocked_wf {s : State} (hw : Memory.wf s = true) : Memory.wf (State.bypLocked s) = true := by
  unfold State.bypLocked
  with_reducible repeat' first | split | (apply wf_mk; first | assumption | apply wf_ite | apply wf_foldl | apply State.p_wf | apply State.loadOnByp_wf | apply State.substBack_wf)

theorem State.loscGone_wf {s : State} (hw : Memory.wf s = true) : Memory.wf (State.loscGone s) = true := by
  unfold State.loscGone
  with_reducible repeat' first | split | dsimp only | (apply wf_mk; first | assumption | apply wf_ite | apply wf_foldl | apply State.raiseBits_wf | apply State.p_wf | apply State.allUnknown_wf | apply State.bypLost_wf)

theorem State.loscBack_wf {s : State} (hw : Memory.wf s = true) : Memory.wf (State.loscBack s) = true := by
  unfold State.loscBack
  with_reducible repeat' first | apply State.p_wf | (apply wf_mk; assumption)

theorem State.loscMeasured_wf {s : State} {code : Nat} (hw : Memory.wf s = true) : Memory.wf (State.loscMeasured s code) = true := by
  unfold State.loscMeasured
  with_reducible repeat' first | assumption | apply State.pAll_wf

theorem State.fitSlot_wf {s : State} {n : Nat} (hw : Memory.wf s = true) : Memory.wf (State.fitSlot s n) = true := by
  unfold State.fitSlot
  with_reducible repeat' first | assumption | intro _ | apply wf_ite | apply State.p_wf | apply State.est_wf | apply State.pi_wf

theorem State.predicted_wf {s : State} {n : Nat} {t : Int} (hw : Memory.wf s = true) : Memory.wf (State.predicted s n t).2 = true := by
  unfold State.predicted
  with_reducible repeat' first | assumption | apply State.est_wf | split

theorem State.predicted_wf_eq {s : State} {n : Nat} {t : Int} {aa : Int} {tt : State} (ee : (State.predicted s n t) = (aa, tt)) (hw : Memory.wf s = true) : Memory.wf tt = true := by
  have h1 : Memory.wf (State.predicted s n t).2 = true := State.predicted_wf hw; rw [ee] at h1; exact h1

theorem State.setServo_wf {s : State} {e : Int} (hw : Memory.wf s = true) : Memory.wf (State.setServo s e) = true := by
  unfold State.setServo
  with_reducible repeat' first | assumption | dsimp only | (apply wf_mk; apply State.pi_wf)

theorem State.setPhase_wf {s : State} {n : Nat} {ph : Int} (hw : Memory.wf s = true) : Memory.wf (State.setPhase s n ph) = true := by
  unfold State.setPhase
  with_reducible repeat' first | assumption | apply State.pi_wf | apply State.setSlot_wf

theorem State.servoSample_wf {s : State} {n : Nat} {ph : Int} (hw : Memory.wf s = true) : Memory.wf (State.servoSample s n ph) = true := by
  unfold State.servoSample
  with_reducible repeat' first | assumption | intro _ | apply wf_ite | split | dsimp only | (apply wf_mk; apply State.setServo_wf)

theorem State.takeSample_wf {s : State} {n : Nat} {t : Int} {ph : Int} (hw : Memory.wf s = true) : Memory.wf (State.takeSample s n t ph) = true := by
  unfold State.takeSample
  with_reducible repeat' first | assumption | intro _ | apply wf_ite | apply State.predicted_wf | apply State.setSlot_wf | apply State.raiseBits_wf | apply State.pi_wf | apply State.inc_wf | apply State.setPhase_wf | apply State.servoSample_wf | apply State.fitSlot_wf

theorem State.ppsAccepts_wf {s : State} {n : Nat} {t : Int} (hw : Memory.wf s = true) : Memory.wf (State.ppsAccepts s n t).2 = true := by
  unfold State.ppsAccepts
  with_reducible repeat' first | assumption | apply State.predicted_wf | split

theorem State.ppsAccepts_wf_eq {s : State} {n : Nat} {t : Int} {aa : Bool} {tt : State} (ee : (State.ppsAccepts s n t) = (aa, tt)) (hw : Memory.wf s = true) : Memory.wf tt = true := by
  have h1 : Memory.wf (State.ppsAccepts s n t).2 = true := State.ppsAccepts_wf hw; rw [ee] at h1; exact h1

theorem State.keepEdge_wf {s : State} {n : Nat} {t : Int} {sec : Int} {given : Bool} (hw : Memory.wf s = true) : Memory.wf (State.keepEdge s n t sec given) = true := by
  unfold State.keepEdge
  with_reducible repeat' first | assumption | apply State.p_wf | apply State.inc_wf | apply State.setSlot_wf

theorem State.gridPhase_wf {s : State} {n : Nat} {t : Int} (hw : Memory.wf s = true) : Memory.wf (State.gridPhase s n t).2 = true := by
  unfold State.gridPhase
  with_reducible repeat' first | assumption | apply State.est_wf | apply State.setSlot_wf | split | dsimp only

theorem State.gridPhase_wf_eq {s : State} {n : Nat} {t : Int} {aa : Int} {tt : State} (ee : (State.gridPhase s n t) = (aa, tt)) (hw : Memory.wf s = true) : Memory.wf tt = true := by
  have h1 : Memory.wf (State.gridPhase s n t).2 = true := State.gridPhase_wf hw; rw [ee] at h1; exact h1

theorem State.slotEdge_wf {s : State} {n : Nat} {t : Nat} (hw : Memory.wf s = true) : Memory.wf (State.slotEdge s n t) = true := by
  unfold State.slotEdge
  with_reducible repeat' first | assumption | apply State.ppsAccepts_wf | apply State.keepEdge_wf | apply State.takeSample_wf | apply State.gridPhase_wf | split | dsimp only

theorem State.losePrediction_wf {s : State} {n : Nat} (hw : Memory.wf s = true) : Memory.wf (State.losePrediction s n) = true := by
  unfold State.losePrediction
  with_reducible repeat' first | assumption | apply State.p_wf | apply State.setSlot_wf

theorem State.setNoSignal_wf {s : State} {n : Nat} (hw : Memory.wf s = true) : Memory.wf (State.setNoSignal s n) = true := by
  unfold State.setNoSignal
  with_reducible repeat' first | assumption | apply State.setSlot_wf | apply State.losePrediction_wf | apply State.raiseBits_wf | apply State.pbit_wf

theorem State.setTimedOut_wf {s : State} {n : Nat} (hw : Memory.wf s = true) : Memory.wf (State.setTimedOut s n) = true := by
  unfold State.setTimedOut
  with_reducible repeat' first | assumption | apply State.pbit_wf | apply State.setSlot_wf

theorem State.shiftPhases_wf {s : State} {n : Nat} {d : Int} (hw : Memory.wf s = true) : Memory.wf (State.shiftPhases s n d) = true := by
  unfold State.shiftPhases
  with_reducible repeat' first | assumption | apply State.setPhase_wf | apply State.setSlot_wf

theorem State.slotLabelBody_wf {s : State} {n : Nat} {arg : Nat} (hw : Memory.wf s = true) : Memory.wf (State.slotLabelBody s n arg).st = true := by
  unfold State.slotLabelBody
  with_reducible repeat' first | assumption | intro _ | apply State.deny_wf | apply State.p_wf | apply State.setSlot_wf | apply State.shiftPhases_wf | apply State.done_wf | apply State.raiseBits_wf | split

theorem State.slotLabelCmd_wf {s : State} {w : Who} {n : Nat} {arg : Nat} (hw : Memory.wf s = true) : Memory.wf (State.slotLabelCmd s w n arg).st = true := by
  unfold State.slotLabelCmd
  with_reducible repeat' first | assumption | intro _ | apply State.call_wf | apply State.slotLabelBody_wf

theorem State.makeAvailable_wf {s : State} {n : Nat} (hw : Memory.wf s = true) : Memory.wf (State.makeAvailable s n) = true := by
  unfold State.makeAvailable
  with_reducible repeat' first | assumption | apply State.raiseBits_wf | apply State.p_wf | apply State.setSlot_wf

theorem State.slotClearWtrBody_wf {s : State} {n : Nat} (hw : Memory.wf s = true) : Memory.wf (State.slotClearWtrBody s n).st = true := by
  unfold State.slotClearWtrBody
  with_reducible repeat' first | assumption | intro _ | apply State.deny_wf | apply State.done_wf | apply State.makeAvailable_wf | apply State.p_wf | split

theorem State.slotClearWtrCmd_wf {s : State} {w : Who} {n : Nat} {arg : Nat} (hw : Memory.wf s = true) : Memory.wf (State.slotClearWtrCmd s w n arg).st = true := by
  unfold State.slotClearWtrCmd
  with_reducible repeat' first | assumption | intro _ | apply State.call_wf | apply State.slotClearWtrBody_wf

theorem State.offsetSample_wf {s : State} {n : Nat} {t : Int} {ph : Int} {bound : Nat} (hw : Memory.wf s = true) : Memory.wf (State.offsetSample s n t ph bound) = true := by
  unfold State.offsetSample
  with_reducible repeat' first | assumption | apply State.setSlot_wf | apply State.takeSample_wf | apply State.p_wf | split

theorem State.htSampleBody_wf {s : State} {n : Nat} {arg : Nat} (hw : Memory.wf s = true) : Memory.wf (State.htSampleBody s n arg).st = true := by
  unfold State.htSampleBody
  with_reducible repeat' first | assumption | intro _ | apply State.deny_wf | apply State.done_wf | apply State.offsetSample_wf | split

theorem State.htSampleCmd_wf {s : State} {w : Who} {n : Nat} {arg : Nat} (hw : Memory.wf s = true) : Memory.wf (State.htSampleCmd s w n arg).st = true := by
  unfold State.htSampleCmd
  with_reducible repeat' first | assumption | intro _ | apply State.call_wf | apply State.htSampleBody_wf

theorem State.slotFails_wf {s : State} {n : Nat} {d : Nat} (hw : Memory.wf s = true) : Memory.wf (State.slotFails s n d) = true := by
  unfold State.slotFails
  with_reducible repeat' first | assumption | apply State.pbit_wf | apply State.inc_wf | apply State.p_wf | apply State.raiseBits_wf | split

theorem State.slotQualifies_wf {s : State} {n : Nat} (hw : Memory.wf s = true) : Memory.wf (State.slotQualifies s n) = true := by
  unfold State.slotQualifies
  with_reducible repeat' first | assumption | apply State.p_wf | apply State.setSlot_wf

theorem State.qualifySlot_wf {s : State} {n : Nat} (hw : Memory.wf s = true) : Memory.wf (State.qualifySlot s n) = true := by
  unfold State.qualifySlot
  with_reducible repeat' first | assumption | intro _ | apply wf_ite | apply State.p_wf | apply State.raiseBits_wf | apply State.setSlot_wf | apply State.slotFails_wf | apply State.slotQualifies_wf

theorem State.qualExpires_wf {s : State} {n : Nat} (hw : Memory.wf s = true) : Memory.wf (State.qualExpires s n) = true := by
  unfold State.qualExpires
  with_reducible repeat' first | assumption | apply State.p_wf | apply State.setSlot_wf | apply State.makeAvailable_wf | split

theorem State.trackDisag_wf {s : State} (hw : Memory.wf s = true) : Memory.wf (State.trackDisag s) = true := by
  unfold State.trackDisag
  with_reducible repeat' first | (apply wf_mk; assumption)

theorem State.exclude_wf {s : State} {n : Nat} (hw : Memory.wf s = true) : Memory.wf (State.exclude s n) = true := by
  unfold State.exclude
  with_reducible repeat' first | assumption | apply State.setSlot_wf

theorem wf_fold {α β : Type} {p : β → State} {f : β → α → β} (hf : ∀ b x, Memory.wf (p b) = true → Memory.wf (p (f b x)) = true) :
    ∀ {l : List α} {b : β}, Memory.wf (p b) = true → Memory.wf (p (l.foldl f b)) = true
  | [], _, h => h
  | _ :: l, _, h => wf_fold (l := l) hf (hf _ _ h)

theorem State.applyDisag_wf {s : State} {cur : Nat} {g : List Nat} (hw : Memory.wf s = true) : Memory.wf (s.applyDisag cur g).2 = true := by
  unfold State.applyDisag
  refine wf_fold (p := Prod.snd) (fun b x h => ?_) hw
  dsimp only
  split
  · exact State.raiseBits_wf (wf_foldl (fun _ _ h => State.exclude_wf h) h)
  · split
    · exact wf_foldl (fun _ _ h => State.exclude_wf h) (wf_mk (h := h))
    · exact wf_foldl (fun _ _ h => State.exclude_wf h) (wf_mk (h := h))

theorem State.chooseRank_wf {cur : Nat} : ∀ {n r : Nat} {c : List Nat} {s : State}, Memory.wf s = true → Memory.wf (State.chooseRank cur n r c s).2 = true
  | 0, _, _, _, hw => hw
  | n + 1, r, c, s, hw => by
    unfold State.chooseRank; dsimp only
    split
    · exact State.applyDisag_wf hw
    · split
      · exact State.applyDisag_wf hw
      · exact State.chooseRank_wf (State.applyDisag_wf hw)

theorem State.choose_wf {s : State} (hw : Memory.wf s = true) : Memory.wf (State.choose s).2 = true := by
  unfold State.choose
  with_reducible repeat' first | assumption | apply State.chooseRank_wf | split | dsimp only

theorem State.choose_wf_eq {s : State} {aa : Nat} {tt : State} (ee : (State.choose s) = (aa, tt)) (hw : Memory.wf s = true) : Memory.wf tt = true := by
  have h1 : Memory.wf (State.choose s).2 = true := State.choose_wf hw; rw [ee] at h1; exact h1

theorem State.disagTerm_wf {s : State} (hw : Memory.wf s = true) : Memory.wf (State.disagTerm s) = true := by
  unfold State.disagTerm
  with_reducible repeat' first | assumption | apply State.p_wf | apply State.raiseBits_wf | split | dsimp only

theorem State.endDisag_wf {s : State} {a : Nat} {b : Nat} (hw : Memory.wf s = true) : Memory.wf (State.endDisag s a b) = true := by
  unfold State.endDisag
  with_reducible repeat' first | intro _ | apply State.each_wf | apply State.p_wf | apply State.setSlot_wf | apply State.disagTerm_wf | split | dsimp only | (apply wf_mk; assumption)

theorem State.selectFrame_wf {s : State} (hw : Memory.wf s = true) : Memory.wf (State.selectFrame s) = true := by
  unfold State.selectFrame
  with_reducible repeat' first | intro _ | (apply wf_mk; first | assumption | apply wf_ite | apply wf_foldl | apply State.trackDisag_wf | apply State.choose_wf | refine State.choose_wf_eq (by assumption) ?_ | apply State.each_wf | apply State.p_wf | apply State.disagTerm_wf)

theorem State.askCoast_wf {s : State} (hw : Memory.wf s = true) : Memory.wf (State.askCoast s) = true := by
  unfold State.askCoast
  with_reducible repeat' first | assumption | apply State.askSteer_wf | split

theorem State.servo_wf {s : State} (hw : Memory.wf s = true) : Memory.wf (State.servo s) = true := by
  unfold State.servo
  with_reducible repeat' first | apply State.pi_wf | split | dsimp only | (apply wf_mk; assumption)

theorem State.trackRequests_wf {s : State} (hw : Memory.wf s = true) : Memory.wf (State.trackRequests s) = true := by
  unfold State.trackRequests
  with_reducible repeat' first | split | dsimp only | (apply wf_mk; first | assumption | apply wf_ite | apply wf_foldl | apply State.askSteer_wf | apply State.pi_wf | apply State.raiseBits_wf)

theorem State.applySteer_wf {s : State} (hw : Memory.wf s = true) : Memory.wf (State.applySteer s) = true := by
  unfold State.applySteer
  with_reducible repeat' first | assumption | apply State.p_wf | apply State.pi_wf | apply State.raiseBits_wf | split | dsimp only

theorem State.slotMoves_wf {s : State} {d : Int} {n : Nat} (hw : Memory.wf s = true) : Memory.wf (State.slotMoves s d n) = true := by
  unfold State.slotMoves
  with_reducible repeat' first | assumption | intro _ | apply wf_ite | apply State.setPhase_wf | apply State.setSlot_wf

theorem State.moveTimescale_wf {s : State} {frames : Int} {d : Int} (hw : Memory.wf s = true) : Memory.wf (State.moveTimescale s frames d) = true := by
  unfold State.moveTimescale
  with_reducible repeat' first | assumption | intro _ | apply State.p_wf | apply State.each_wf | apply State.slotMoves_wf | apply State.setServo_wf

theorem State.fitModel_wf {s : State} (hw : Memory.wf s = true) : Memory.wf (State.fitModel s) = true := by
  unfold State.fitModel
  with_reducible repeat' first | apply State.p_wf | apply State.fresh_wf | apply State.pi_wf | apply State.est_wf | split | dsimp only | (apply wf_mk; assumption)

theorem State.learnAdd_wf {s : State} (hw : Memory.wf s = true) : Memory.wf (State.learnAdd s) = true := by
  unfold State.learnAdd
  with_reducible repeat' first | assumption | split | (apply wf_mk; assumption)

theorem State.learnSecond_wf {s : State} (hw : Memory.wf s = true) : Memory.wf (State.learnSecond s) = true := by
  unfold State.learnSecond
  with_reducible repeat' first | assumption | intro _ | apply wf_ite | (apply wf_mk; assumption)

theorem State.learnMean_wf {s : State} {given : Int} (hw : Memory.wf s = true) : Memory.wf (State.learnMean s given).2 = true := by
  unfold State.learnMean
  with_reducible repeat' first | assumption | apply State.est_wf | split

theorem State.learnMean_wf_eq {s : State} {given : Int} {aa : Int} {tt : State} (ee : (State.learnMean s given) = (aa, tt)) (hw : Memory.wf s = true) : Memory.wf tt = true := by
  have h1 : Memory.wf (State.learnMean s given).2 = true := State.learnMean_wf hw; rw [ee] at h1; exact h1

theorem State.learnSample_wf {s : State} {mean : Int} (hw : Memory.wf s = true) : Memory.wf (State.learnSample s mean) = true := by
  unfold State.learnSample
  with_reducible repeat' first | apply State.fitModel_wf | (apply wf_mk; assumption)

theorem State.predFrame_wf {s : State} (hw : Memory.wf s = true) : Memory.wf (State.predFrame s) = true := by
  unfold State.predFrame
  with_reducible repeat' first | intro _ | apply wf_foldl | apply State.setSlot_wf | apply State.p_wf | split | (apply wf_mk; assumption)

theorem State.srFrame_wf {s : State} (hw : Memory.wf s = true) : Memory.wf (State.srFrame s) = true := by
  unfold State.srFrame
  with_reducible repeat' first | split | (apply wf_mk; first | assumption | apply wf_ite | apply wf_foldl | apply State.raiseVal_wf | apply State.p_wf | split | (apply wf_mk; first | assumption | apply wf_ite | apply wf_foldl | apply State.raiseVal_wf | apply State.p_wf))

theorem State.holdAgeFrame_wf {s : State} (hw : Memory.wf s = true) : Memory.wf (State.holdAgeFrame s) = true := by
  unfold State.holdAgeFrame
  with_reducible repeat' first | split | (apply wf_mk; first | assumption | apply wf_ite | apply wf_foldl | apply State.p_wf)

theorem State.holdoverSteer_wf {s : State} (hw : Memory.wf s = true) : Memory.wf (State.holdoverSteer s) = true := by
  unfold State.holdoverSteer
  with_reducible repeat' first | (apply wf_mk; first | assumption | apply wf_ite | apply wf_foldl | apply State.est_wf)

theorem State.holdMax_wf {s : State} (hw : Memory.wf s = true) : Memory.wf (State.holdMax s) = true := by
  unfold State.holdMax
  with_reducible repeat' first | apply State.askSteer_wf | split | (apply wf_mk; assumption)

theorem State.leaveSelected_wf {s : State} (hw : Memory.wf s = true) : Memory.wf (State.leaveSelected s) = true := by
  unfold State.leaveSelected
  with_reducible repeat' first | split | (apply wf_mk; first | assumption | apply wf_ite | apply wf_foldl | apply State.p_wf)

theorem State.becomeSelected_wf {s : State} {n : Nat} {target : Int} (hw : Memory.wf s = true) : Memory.wf (State.becomeSelected s n target) = true := by
  unfold State.becomeSelected
  with_reducible repeat' first | assumption | intro _ | apply wf_ite | apply State.leaveSelected_wf | apply State.p_wf | apply State.inc_wf | apply State.raiseBits_wf | apply State.setServo_wf | split | (apply wf_mk; first | apply State.p_wf | apply State.raiseBits_wf)

theorem State.afterSelect_wf {s : State} {n : Nat} (hw : Memory.wf s = true) : Memory.wf (State.afterSelect s n) = true := by
  unfold State.afterSelect
  with_reducible repeat' first | split | dsimp only | (apply wf_mk; first | assumption | apply wf_ite | apply wf_foldl | apply State.askCoast_wf | apply State.askSteer_wf | apply State.raiseBits_wf)

theorem State.selectionEffect_wf {s : State} {n : Nat} (hw : Memory.wf s = true) : Memory.wf (State.selectionEffect s n) = true := by
  unfold State.selectionEffect
  with_reducible repeat' first | assumption | apply State.raiseVal_wf | apply State.pi_wf | apply State.p_wf | apply State.pbit_wf | apply State.afterSelect_wf | apply State.becomeSelected_wf | split | dsimp only

theorem State.srRejectClearBody_wf {s : State} {n : Nat} (hw : Memory.wf s = true) : Memory.wf (State.srRejectClearBody s n).st = true := by
  unfold State.srRejectClearBody
  with_reducible repeat' first | assumption | intro _ | apply State.done_wf | apply State.pbit_wf | apply State.deny_wf | split

theorem State.srRejectClearCmd_wf {s : State} {w : Who} {n : Nat} (hw : Memory.wf s = true) : Memory.wf (State.srRejectClearCmd s w n).st = true := by
  unfold State.srRejectClearCmd
  with_reducible repeat' first | assumption | intro _ | apply State.call_wf | apply State.srRejectClearBody_wf

theorem State.deviceBound_wf {s : State} (hw : Memory.wf s = true) : Memory.wf (State.deviceBound s) = true := by
  unfold State.deviceBound
  with_reducible repeat' first | assumption | intro _ | apply wf_foldl | apply State.p_wf | apply State.raiseVal_wf | split | dsimp only

theorem State.boundsFrame_wf {s : State} (hw : Memory.wf s = true) : Memory.wf (State.boundsFrame s) = true := by
  unfold State.boundsFrame
  with_reducible repeat' first | split | dsimp only | (apply wf_mk; first | assumption | apply wf_ite | apply wf_foldl | apply State.p_wf)

theorem State.erBuildNow_wf {s : State} (hw : Memory.wf s = true) : Memory.wf (State.erBuildNow s) = true := by
  unfold State.erBuildNow
  with_reducible repeat' first | (apply wf_mk; assumption)

theorem State.tsStepBody_wf {s : State} {idle : Bool} {arg : Nat} (hw : Memory.wf s = true) : Memory.wf (State.tsStepBody s idle arg).st = true := by
  unfold State.tsStepBody
  with_reducible repeat' first | intro _ | apply State.deny_wf | apply State.accept_wf | split | dsimp only | (apply wf_mk; assumption)

theorem State.setAnchor_wf {s : State} {c : Nat} {k : Nat} {v : Int} (hw : Memory.wf s = true) : Memory.wf (State.setAnchor s c k v) = true := by
  unfold State.setAnchor
  with_reducible repeat' first | assumption | apply State.pi_wf | split

theorem State.setEntries_wf {s : State} {core : Nat} {l : List Int} (hw : Memory.wf s = true) : Memory.wf (State.setEntries s core l) = true := by
  unfold State.setEntries
  with_reducible repeat' first | (apply wf_mk; assumption)

theorem State.setCal_wf {s : State} {k : Nat} {h : CalHid} (hw : Memory.wf s = true) : Memory.wf (State.setCal s k h) = true := by
  unfold State.setCal
  with_reducible repeat' first | (apply wf_mk; assumption)

theorem State.calSteps_wf {s : State} {k : Nat} (hw : Memory.wf s = true) : Memory.wf (State.calSteps s k) = true := by
  unfold State.calSteps
  with_reducible repeat' first | assumption | intro _ | apply wf_ite | apply State.setCal_wf | apply State.setEntries_wf

theorem State.takeGoal_wf {s : State} {c : Nat} (hw : Memory.wf s = true) : Memory.wf (State.takeGoal s c) = true := by
  unfold State.takeGoal
  with_reducible repeat' first | assumption | intro _ | apply wf_ite | apply State.setPad_wf | split | dsimp only

theorem State.trimStep_wf {s : State} {c : Nat} (hw : Memory.wf s = true) : Memory.wf (State.trimStep s c) = true := by
  unfold State.trimStep
  with_reducible repeat' first | assumption | intro _ | apply wf_ite | apply State.takeGoal_wf | apply State.pi_wf

theorem State.ancStep_wf {s : State} (hw : Memory.wf s = true) : Memory.wf (State.ancStep s) = true := by
  unfold State.ancStep
  with_reducible repeat' first | assumption | intro _ | apply wf_ite | apply wf_foldl | apply State.setAnchor_wf | split

theorem State.ahead_wf {s : State} (hw : Memory.wf s = true) : Memory.wf (State.ahead s) = true := by
  unfold State.ahead
  with_reducible repeat' first | assumption | intro _ | apply wf_foldl | apply State.ancStep_wf | apply State.trimStep_wf | apply State.calSteps_wf | dsimp only | (apply wf_mk; apply State.view_wf)

end Sys2Proof.Machine
end

