-- ==== Sys2Proof/Laws/MemoryPads.lean ====
section
/-! SUPPORT. The edge engine, the pads and the timescale keep the memories in canonical form. -/

set_option Elab.async false

namespace Sys2Proof.Machine

theorem State.setCore_wf {s : State} {k : Nat} {h : CoreHid} (hw : Memory.wf s = true) : Memory.wf (State.setCore s k h) = true := by
  unfold State.setCore
  with_reducible repeat' first | (apply wf_mk; assumption)

theorem State.computeBounds_wf {s : State} (hw : Memory.wf s = true) : Memory.wf (State.computeBounds s) = true := by
  unfold State.computeBounds
  with_reducible repeat' first | assumption | intro _ | apply State.each_wf | apply State.setCh_wf | apply State.setCore_wf | apply State.inc_wf | split | dsimp only

theorem State.countWh_wf {s : State} {c : Nat} {r : Nat} {t : Int} (hw : Memory.wf s = true) : Memory.wf (State.countWh s c r t) = true := by
  unfold State.countWh
  with_reducible repeat' first | assumption | apply State.p_wf | apply State.inc_wf

theorem State.withhold_wf {s : State} {c : Nat} {k : Nat} {r : Nat} {t : Int} (hw : Memory.wf s = true) : Memory.wf (State.withhold s c k r t) = true := by
  unfold State.withhold
  with_reducible repeat' first | assumption | apply State.countWh_wf | apply State.raiseBits_wf | split

theorem State.lateTerm_wf {s : State} {c : Nat} {k : Nat} {f : Nat} (hw : Memory.wf s = true) : Memory.wf (State.lateTerm s c k f) = true := by
  unfold State.lateTerm
  with_reducible repeat' first | assumption | intro _ | apply wf_ite | apply State.judge_wf | apply State.p_wf | apply State.inc_wf | apply State.setCore_wf | apply State.setCh_wf

theorem State.queueEdge_wf {s : State} {c : Nat} {k : Nat} {v : Nat} {t : Nat} {level : Bool} {trig : Bool} (hw : Memory.wf s = true) : Memory.wf (State.queueEdge s c k v t level trig) = true := by
  unfold State.queueEdge
  with_reducible repeat' first | assumption | intro _ | apply wf_ite | apply State.lateTerm_wf | apply State.setCh_wf | apply State.p_wf | apply State.setCore_wf

theorem State.setSrcLevel_wf {s : State} {c : Nat} {b : Bool} (hw : Memory.wf s = true) : Memory.wf (State.setSrcLevel s c b) = true := by
  unfold State.setSrcLevel
  with_reducible repeat' first | assumption | apply State.setPad_wf

theorem State.placeOne_wf {s : State} {w : State} {c : Nat} {k : Nat} {delay : Int} {lane : Bool} {n : Int × Bool} (hw : Memory.wf s = true) (_hw1 : Memory.wf w = true) : Memory.wf (State.placeOne s w c k delay lane n) = true := by
  unfold State.placeOne
  with_reducible repeat' first | assumption | intro _ | apply wf_ite | apply State.withhold_wf | apply State.setSrcLevel_wf | apply State.setCh_wf | apply State.queueEdge_wf | split | dsimp only

theorem State.expand_wf {s : State} {v : State} {c : Nat} (hw : Memory.wf s = true) (_hw1 : Memory.wf v = true) : Memory.wf (State.expand s v c) = true := by
  unfold State.expand
  with_reducible repeat' first | assumption | intro _ | apply State.each_wf | apply State.p_wf | apply State.setCh_wf

theorem State.assignLanes_wf {s : State} {v : State} (hw : Memory.wf s = true) (_hw1 : Memory.wf v = true) : Memory.wf (State.assignLanes s v) = true := by
  unfold State.assignLanes
  with_reducible repeat' first | assumption | intro _ | apply State.each_wf | apply State.pbit_wf | apply State.p_wf | apply State.plLog_wf | split | dsimp only

theorem State.turnSource_wf {s : State} {v : State} {c : Nat} (hw : Memory.wf s = true) (_hw1 : Memory.wf v = true) : Memory.wf (State.turnSource s v c) = true := by
  unfold State.turnSource
  with_reducible repeat' first | assumption | apply State.setCh_wf | split | dsimp only

theorem State.passChannel_wf {s : State} {v : State} {failing : Nat} {c : Nat} (hw : Memory.wf s = true) (hw1 : Memory.wf v = true) : Memory.wf (State.passChannel s v failing c) = true := by
  unfold State.passChannel
  with_reducible repeat' first | assumption | intro _ | apply wf_foldl | apply State.turnSource_wf | apply State.expand_wf | apply State.setCh_wf | apply State.placeOne_wf | split

theorem State.pass_wf {s : State} {failing : Nat} (hw : Memory.wf s = true) : Memory.wf (State.pass s failing) = true := by
  unfold State.pass
  with_reducible repeat' first | assumption | intro _ | apply wf_ite | apply State.ahead_wf | apply State.each_wf | apply State.handTo_wf | apply State.assignLanes_wf | apply State.passChannel_wf | split | dsimp only | (apply wf_mk; first | apply State.each_wf | apply State.assignLanes_wf | apply State.raiseBits_wf | apply State.computeBounds_wf)

theorem State.trigger_wf {s : State} {ref : Nat} {t : Nat} {rising : Bool} (hw : Memory.wf s = true) : Memory.wf (State.trigger s ref t rising) = true := by
  unfold State.trigger
  with_reducible repeat' first | assumption | intro _ | apply State.each_wf | apply State.raiseBits_wf | apply State.inc_wf | apply State.setCh_wf | apply State.p_wf | split

theorem State.issue_wf {s : State} {c : Nat} (hw : Memory.wf s = true) : Memory.wf (State.issue s c) = true := by
  unfold State.issue
  with_reducible repeat' first | assumption | apply State.setCh_wf | apply State.setSrcLevel_wf | apply State.withhold_wf | apply State.queueEdge_wf | split | dsimp only

theorem State.timestamp_wf {s : State} {n : Nat} {t : Nat} {rising : Bool} (hw : Memory.wf s = true) : Memory.wf (State.timestamp s n t rising) = true := by
  unfold State.timestamp
  with_reducible repeat' first | assumption | apply State.setInp_wf | apply State.inc_wf | apply State.trigger_wf | apply State.slotEdge_wf | split | dsimp only

theorem State.inputEdge_wf {s : State} {n : Nat} {t : Nat} {raw : Bool} (hw : Memory.wf s = true) : Memory.wf (State.inputEdge s n t raw) = true := by
  unfold State.inputEdge
  with_reducible repeat' first | assumption | apply State.timestamp_wf | apply State.setInp_wf | split | dsimp only

theorem State.emitEdge_wf {s : State} {k : Nat} {e : QEdge} (hw : Memory.wf s = true) : Memory.wf (State.emitEdge s k e) = true := by
  unfold State.emitEdge
  with_reducible repeat' first | assumption | apply State.withhold_wf | apply State.p_wf | apply State.setPad_wf | apply State.inc_wf | apply State.emit_wf | apply State.raiseBits_wf | split | dsimp only

theorem State.emitNext_wf {s : State} {k : Nat} (hw : Memory.wf s = true) : Memory.wf (State.emitNext s k) = true := by
  unfold State.emitNext
  with_reducible repeat' first | assumption | apply State.emitEdge_wf | apply State.setCore_wf | split | dsimp only

theorem State.discardOld_wf {s : State} (hw : Memory.wf s = true) : Memory.wf (State.discardOld s) = true := by
  unfold State.discardOld
  with_reducible repeat' first | assumption | intro _ | apply wf_foldl | apply State.each_wf | apply State.setCore_wf | apply State.withhold_wf

theorem State.boundCheck_wf {s : State} (hw : Memory.wf s = true) : Memory.wf (State.boundCheck s) = true := by
  unfold State.boundCheck
  with_reducible repeat' first | assumption | intro _ | apply wf_foldl | apply State.each_wf | apply State.setCh_wf | apply State.p_wf | apply State.judge_wf | apply State.raiseBits_wf | apply State.inc_wf | apply State.gatePad_wf | apply State.setCore_wf | apply State.withhold_wf | split | dsimp only

theorem State.presetVerniers_wf {s : State} (hw : Memory.wf s = true) : Memory.wf (State.presetVerniers s) = true := by
  unfold State.presetVerniers
  with_reducible repeat' first | assumption | intro _ | apply State.each_wf | apply State.p_wf | split

theorem State.bypBounds_wf {s : State} {q : Nat} (hw : Memory.wf s = true) : Memory.wf (State.bypBounds s q) = true := by
  unfold State.bypBounds
  with_reducible repeat' first | assumption | intro _ | apply State.p_wf | apply State.each_wf | apply State.judge_wf | split

theorem State.settlePad_wf {s : State} {c : Nat} (hw : Memory.wf s = true) : Memory.wf (State.settlePad s c) = true := by
  unfold State.settlePad
  with_reducible repeat' first | assumption | intro _ | apply wf_ite | apply State.setPad_wf | apply State.p_wf | apply State.judge_wf | apply State.setCh_wf

theorem State.parkClock_wf {s : State} {c : Nat} (hw : Memory.wf s = true) : Memory.wf (State.parkClock s c) = true := by
  unfold State.parkClock
  with_reducible repeat' first | assumption | apply State.p_wf | apply State.stopWave_wf | apply State.setPad_wf

theorem State.driverOn_wf {s : State} {c : Nat} (hw : Memory.wf s = true) : Memory.wf (State.driverOn s c) = true := by
  unfold State.driverOn
  with_reducible repeat' first | assumption | intro _ | apply wf_ite | apply State.settlePad_wf | apply State.parkClock_wf | apply State.p_wf

theorem State.driverOff_wf {s : State} {c : Nat} (hw : Memory.wf s = true) : Memory.wf (State.driverOff s c) = true := by
  unfold State.driverOff
  with_reducible repeat' first | assumption | apply State.stopWave_wf | apply State.p_wf

theorem State.padClass_wf {s : State} {c : Nat} (hw : Memory.wf s = true) : Memory.wf (State.padClass s c) = true := by
  unfold State.padClass
  with_reducible repeat' first | assumption | apply State.setPad_wf | apply State.driverOff_wf | split

theorem State.raiseCal_wf {s : State} {src : Nat} {k : Nat} {core : Nat} (hw : Memory.wf s = true) : Memory.wf (State.raiseCal s src k core) = true := by
  unfold State.raiseCal
  with_reducible repeat' first | assumption | apply State.raiseDet_wf

theorem State.wantCal_wf {s : State} {core : Nat} {i : Nat} (hw : Memory.wf s = true) : Memory.wf (State.wantCal s core i) = true := by
  unfold State.wantCal
  with_reducible repeat' first | (apply wf_mk; first | assumption | apply wf_ite | apply wf_foldl | apply State.pbit_wf | split)

theorem State.phase_wf {s : State} {k : Nat} {ph : Nat} (hw : Memory.wf s = true) : Memory.wf (State.phase s k ph) = true := by
  unfold State.phase
  with_reducible repeat' first | assumption | apply State.setCal_wf | apply State.p_wf

theorem State.calIdle_wf {s : State} {k : Nat} (hw : Memory.wf s = true) : Memory.wf (State.calIdle s k) = true := by
  unfold State.calIdle
  with_reducible repeat' first | assumption | apply State.setCore_wf | apply State.p_wf | apply State.setCal_wf | apply State.phase_wf | split

theorem State.setSp_wf {s : State} {k : Nat} {st : Nat} (hw : Memory.wf s = true) : Memory.wf (State.setSp s k st) = true := by
  unfold State.setSp
  with_reducible repeat' first | assumption | apply State.p_wf

theorem State.acceptFault_wf {s : State} {k : Nat} {c : Nat} {back : Option Nat} (hw : Memory.wf s = true) : Memory.wf (State.acceptFault s k c back) = true := by
  unfold State.acceptFault
  with_reducible repeat' first | assumption | apply State.setBank_wf | apply State.pbit_wf | apply State.p_wf | apply State.setSp_wf

theorem State.spareFreed_wf {s : State} {k : Nat} (hw : Memory.wf s = true) : Memory.wf (State.spareFreed s k) = true := by
  unfold State.spareFreed
  with_reducible repeat' first | assumption | apply State.p_wf | apply State.setSp_wf | apply State.acceptFault_wf | split | dsimp only

theorem State.searchFrame_wf {s : State} {k : Nat} (hw : Memory.wf s = true) : Memory.wf (State.searchFrame s k) = true := by
  unfold State.searchFrame
  with_reducible repeat' first | assumption | apply State.setBank_wf | split | dsimp only

theorem State.beginSearch_wf {s : State} {k : Nat} {c : Nat} {why : Purpose} (hw : Memory.wf s = true) : Memory.wf (State.beginSearch s k c why) = true := by
  unfold State.beginSearch
  with_reducible repeat' first | assumption | apply State.setSp_wf | apply State.setBank_wf | apply State.searchFrame_wf

theorem State.calReturn_wf {s : State} {k : Nat} (hw : Memory.wf s = true) : Memory.wf (State.calReturn s k) = true := by
  unfold State.calReturn
  with_reducible repeat' first | assumption | apply State.beginSearch_wf | apply State.phase_wf

theorem State.calExit_wf {s : State} {core : Nat} (hw : Memory.wf s = true) : Memory.wf (State.calExit s core) = true := by
  unfold State.calExit
  with_reducible repeat' first | (apply wf_mk; first | assumption | apply wf_ite | apply wf_foldl | apply State.inc_wf | apply State.wantCal_wf)

theorem State.calLeave_wf {s : State} {k : Nat} (hw : Memory.wf s = true) : Memory.wf (State.calLeave s k) = true := by
  unfold State.calLeave
  with_reducible repeat' first | assumption | apply State.calExit_wf | apply State.spareFreed_wf | apply State.calIdle_wf | apply State.setBank_wf | apply State.setCore_wf | apply State.p_wf | apply State.phase_wf | apply State.calReturn_wf | split | dsimp only

theorem State.calAbandon_wf {s : State} {k : Nat} (hw : Memory.wf s = true) : Memory.wf (State.calAbandon s k) = true := by
  unfold State.calAbandon
  with_reducible repeat' first | assumption | apply State.calLeave_wf | apply State.raiseCal_wf | split

theorem State.calTaken_wf {s : State} {k : Nat} (hw : Memory.wf s = true) : Memory.wf (State.calTaken s k) = true := by
  unfold State.calTaken
  with_reducible repeat' first | assumption | apply State.setCal_wf | apply State.calIdle_wf | apply State.p_wf | apply State.raiseCal_wf | apply State.calAbandon_wf | split

theorem State.spareFor_wf {s : State} {c : Nat} (hw : Memory.wf s = true) : Memory.wf (State.spareFor s c) = true := by
  unfold State.spareFor
  with_reducible repeat' first | assumption | apply State.raiseBits_wf | apply State.acceptFault_wf | apply State.calIdle_wf | apply State.calExit_wf | apply State.raiseCal_wf | apply State.setBank_wf | apply State.calTaken_wf | apply State.pbit_wf | split | dsimp only

theorem State.comeBack_wf {s : State} {k : Nat} {c : Nat} (hw : Memory.wf s = true) : Memory.wf (State.comeBack s k c) = true := by
  unfold State.comeBack
  with_reducible repeat' first | assumption | intro _ | apply wf_ite | apply State.inc_wf | apply State.p_wf | apply State.plLog_wf | apply State.setBank_wf | apply State.calIdle_wf

theorem State.goOffline_wf {s : State} {core : Nat} (hw : Memory.wf s = true) : Memory.wf (State.goOffline s core) = true := by
  unfold State.goOffline
  with_reducible repeat' first | assumption | intro _ | apply wf_ite | apply State.p_wf

theorem State.goSpare_wf {s : State} {k : Nat} {c : Nat} {after : Nat} (hw : Memory.wf s = true) : Memory.wf (State.goSpare s k c after) = true := by
  unfold State.goSpare
  with_reducible repeat' first | assumption | intro _ | apply wf_ite | apply State.setSp_wf | apply State.inc_wf | apply State.p_wf | apply State.plLog_wf | apply State.phase_wf | apply State.goOffline_wf | apply State.setCal_wf

theorem State.swapEffect_wf {s : State} {k : Nat} (hw : Memory.wf s = true) : Memory.wf (State.swapEffect s k) = true := by
  unfold State.swapEffect
  with_reducible repeat' first | assumption | apply State.setBank_wf | apply State.p_wf | apply State.raiseBits_wf | apply State.comeBack_wf | apply State.goSpare_wf | apply State.spareFreed_wf | split

theorem State.parkedFree_wf {s : State} {k : Nat} (hw : Memory.wf s = true) : Memory.wf (State.parkedFree s k) = true := by
  unfold State.parkedFree
  with_reducible repeat' first | assumption | intro _ | apply wf_ite | apply State.setSp_wf | apply State.p_wf | apply State.setBank_wf | apply State.spareFreed_wf | apply State.raiseBits_wf | apply State.comeBack_wf | split

theorem State.spSwapBody_wf {s : State} {k : Nat} {c : Nat} (hw : Memory.wf s = true) : Memory.wf (State.spSwapBody s k c).st = true := by
  unfold State.spSwapBody
  with_reducible repeat' first | assumption | intro _ | apply State.deny_wf | apply State.accept_wf | apply State.beginSearch_wf | split

theorem State.spSwapCmd_wf {s : State} {w : Who} {k : Nat} {c : Nat} (hw : Memory.wf s = true) : Memory.wf (State.spSwapCmd s w k c).st = true := by
  unfold State.spSwapCmd
  with_reducible repeat' first | assumption | intro _ | apply State.call_wf | apply State.spSwapBody_wf

theorem State.spReturnBody_wf {s : State} {k : Nat} (hw : Memory.wf s = true) : Memory.wf (State.spReturnBody s k).st = true := by
  unfold State.spReturnBody
  with_reducible repeat' first | assumption | intro _ | apply State.deny_wf | apply State.accept_wf | apply State.beginSearch_wf | split | dsimp only

theorem State.spReturnCmd_wf {s : State} {w : Who} {k : Nat} {arg : Nat} (hw : Memory.wf s = true) : Memory.wf (State.spReturnCmd s w k arg).st = true := by
  unfold State.spReturnCmd
  with_reducible repeat' first | assumption | intro _ | apply State.call_wf | apply State.spReturnBody_wf

theorem State.searchFails_wf {s : State} {k : Nat} {c : Nat} (hw : Memory.wf s = true) : Memory.wf (State.searchFails s k c) = true := by
  unfold State.searchFails
  with_reducible repeat' first | assumption | apply State.setBank_wf | apply State.inc_wf | apply State.calIdle_wf | apply State.calExit_wf | apply State.raiseCal_wf | apply State.spareFreed_wf | split

theorem State.faultReturn_wf {s : State} {k : Nat} (hw : Memory.wf s = true) : Memory.wf (State.faultReturn s k) = true := by
  unfold State.faultReturn
  with_reducible repeat' first | assumption | intro _ | apply wf_ite | apply State.setBank_wf | split

theorem State.spareFaulted_wf {s : State} {k : Nat} (hw : Memory.wf s = true) : Memory.wf (State.spareFaulted s k) = true := by
  unfold State.spareFaulted
  with_reducible repeat' first | assumption | intro _ | apply wf_ite | apply State.setBank_wf | apply State.p_wf | apply State.spareFor_wf | apply State.faultReturn_wf | apply State.raiseBits_wf | split | dsimp only

theorem State.raisePlate_wf {s : State} {core : Nat} {faultBits : Nat} {mask : Nat} (hw : Memory.wf s = true) : Memory.wf (State.raisePlate s core faultBits mask) = true := by
  unfold State.raisePlate
  with_reducible repeat' first | assumption | apply State.putEv_wf

theorem State.joinPlate_wf {s : State} {core : Nat} {faultBits : Nat} {mask : Nat} (hw : Memory.wf s = true) : Memory.wf (State.joinPlate s core faultBits mask) = true := by
  unfold State.joinPlate
  with_reducible repeat' first | assumption | intro _ | apply wf_ite | apply State.putEv_wf | split

theorem State.phaseShadow_wf {s : State} {core : Nat} (hw : Memory.wf s = true) : Memory.wf (State.phaseShadow s core) = true := by
  unfold State.phaseShadow
  with_reducible repeat' first | split | dsimp only | (apply wf_mk; assumption)

theorem State.plateFault_wf {s : State} {core : Nat} {faultBits : Nat} (hw : Memory.wf s = true) : Memory.wf (State.plateFault s core faultBits) = true := by
  unfold State.plateFault
  with_reducible repeat' first | assumption | intro _ | apply wf_ite | apply State.p_wf | apply State.joinPlate_wf | apply State.wantCal_wf | apply State.raisePlate_wf | apply State.boundsGone_wf | apply State.calAbandon_wf | apply State.setCal_wf | apply State.phaseShadow_wf | apply State.spareFaulted_wf

theorem State.waitFrame_wf {s : State} {k : Nat} (hw : Memory.wf s = true) : Memory.wf (State.waitFrame s k) = true := by
  unfold State.waitFrame
  with_reducible repeat' first | assumption | apply State.p_wf | apply State.setBank_wf | split | dsimp only

theorem State.detectFrame_wf {s : State} {mons : List (Nat × PadMon)} {c : Nat} (hw : Memory.wf s = true) : Memory.wf (State.detectFrame s mons c) = true := by
  unfold State.detectFrame
  with_reducible repeat' first | assumption | intro _ | apply wf_ite | apply State.setPad_wf

theorem State.returned_wf {s : State} {n : Nat} {rising : Bool} (hw : Memory.wf s = true) : Memory.wf (State.returned s n rising) = true := by
  unfold State.returned
  with_reducible repeat' first | assumption | intro _ | apply State.each_wf | apply State.setPad_wf

theorem State.padDeclare_wf {s : State} {c : Nat} {det : Nat} (hw : Memory.wf s = true) : Memory.wf (State.padDeclare s c det) = true := by
  unfold State.padDeclare
  with_reducible repeat' first | assumption | apply State.inc_wf | apply State.pbit_wf | apply State.p_wf | apply State.driverOff_wf | apply State.raiseBits_wf | apply State.setPad_wf | apply State.raiseOpen_wf | split

theorem State.probe_wf {s : State} {c : Nat} {clean : Bool} (hw : Memory.wf s = true) : Memory.wf (State.probe s c clean) = true := by
  unfold State.probe
  with_reducible repeat' first | assumption | apply State.setPad_wf | apply State.inc_wf | apply State.p_wf | split | dsimp only

theorem State.vddoFrame_wf {s : State} {k : Nat} {mv : Nat} (hw : Memory.wf s = true) : Memory.wf (State.vddoFrame s k mv) = true := by
  unfold State.vddoFrame
  with_reducible repeat' first | assumption | intro _ | apply wf_ite | apply State.setBank_wf | apply State.p_wf | apply State.each_wf | apply State.judge_wf | apply State.setPad_wf | apply State.raiseBits_wf

theorem State.supplyFrame_wf {s : State} (hw : Memory.wf s = true) : Memory.wf (State.supplyFrame s) = true := by
  unfold State.supplyFrame
  with_reducible repeat' first | intro _ | apply State.each_wf | apply State.pi_wf | apply State.vddoFrame_wf | apply State.raiseBits_wf | split | dsimp only | (apply wf_mk; assumption)

theorem State.dropEdges_wf {s : State} {p : Nat → Bool} (hw : Memory.wf s = true) : Memory.wf (State.dropEdges s p) = true := by
  unfold State.dropEdges
  with_reducible repeat' first | assumption | intro _ | apply State.each_wf | apply State.setCore_wf

theorem State.haltSeq_wf {s : State} {q : Nat} (hw : Memory.wf s = true) : Memory.wf (State.haltSeq s q) = true := by
  unfold State.haltSeq
  with_reducible repeat' first | assumption | intro _ | apply State.each_wf | apply State.setLevel_wf | apply State.stopped_wf | apply State.p_wf | split

theorem State.haltSeqs_wf {s : State} (hw : Memory.wf s = true) : Memory.wf (State.haltSeqs s) = true := by
  unfold State.haltSeqs
  with_reducible repeat' first | assumption | intro _ | apply State.each_wf | apply State.setCh_wf | apply State.p_wf | apply State.dropEdges_wf | apply State.haltSeq_wf | split | dsimp only

theorem State.rulesAfresh_wf {s : State} (hw : Memory.wf s = true) : Memory.wf (State.rulesAfresh s) = true := by
  unfold State.rulesAfresh
  with_reducible repeat' first | assumption | intro _ | apply State.each_wf | apply State.setCh_wf

theorem State.gateSpindle_wf {s : State} (hw : Memory.wf s = true) : Memory.wf (State.gateSpindle s) = true := by
  unfold State.gateSpindle
  with_reducible repeat' first | assumption | apply State.gatePads_wf

theorem State.moveAll_wf {s : State} {frames : Int} {d : Int} (hw : Memory.wf s = true) : Memory.wf (State.moveAll s frames d) = true := by
  unfold State.moveAll
  with_reducible repeat' first | assumption | intro _ | apply State.moveTimescale_wf | apply State.each_wf | apply State.setCore_wf | apply State.setCh_wf | apply State.setInp_wf | apply State.setSq_wf

theorem State.placeHere_wf {s : State} (hw : Memory.wf s = true) : Memory.wf (State.placeHere s) = true := by
  unfold State.placeHere
  with_reducible repeat' first | assumption | intro _ | apply State.each_wf | apply State.passChannel_wf | dsimp only | (apply wf_mk; apply State.p_wf)

theorem State.alignNow_wf {s : State} {frames : Int} {d : Int} (hw : Memory.wf s = true) : Memory.wf (State.alignNow s frames d) = true := by
  unfold State.alignNow
  with_reducible repeat' first | assumption | apply State.rulesAfresh_wf | apply State.haltSeqs_wf | apply State.p_wf | apply State.moveAll_wf | apply State.gateSpindle_wf | apply State.raiseBits_wf

theorem State.stepNow_wf {s : State} {frames : Int} (hw : Memory.wf s = true) : Memory.wf (State.stepNow s frames) = true := by
  unfold State.stepNow
  with_reducible repeat' first | assumption | intro _ | apply State.inc_wf | apply State.moveAll_wf | apply State.each_wf | apply State.setCh_wf | apply State.placeHere_wf | apply State.rulesAfresh_wf | apply State.dropEdges_wf | dsimp only | (apply wf_mk; apply State.gateSpindle_wf)

theorem State.hostStep_wf {s : State} {frames : Int} (hw : Memory.wf s = true) : Memory.wf (State.hostStep s frames) = true := by
  unfold State.hostStep
  with_reducible repeat' first | apply State.stepNow_wf | split | dsimp only | (apply wf_mk; first | assumption | apply wf_ite | apply wf_foldl | apply State.stepNow_wf | apply State.p_wf)

theorem State.tsStepCmd_wf {s : State} {w : Who} {arg : Nat} (hw : Memory.wf s = true) : Memory.wf (State.tsStepCmd s w arg).st = true := by
  unfold State.tsStepCmd
  with_reducible repeat' first | assumption | intro _ | apply State.call_wf | apply State.tsStepBody_wf

end Sys2Proof.Machine
end

