-- ==== Sys2Proof/Laws/MemoryLinks.lean ====
section
/-! SUPPORT. The stack, the fabric and the calibration keep the memories in canonical form. -/

set_option Elab.async false

namespace Sys2Proof.Machine

theorem State.setMember_wf {s : State} {k : Nat} {p : Nat} {b : Bool} (hw : Memory.wf s = true) : Memory.wf (State.setMember s k p b) = true := by
  unfold State.setMember
  with_reducible repeat' first | assumption | intro _ | apply wf_ite | apply State.raiseVal_wf | apply State.pbit_wf

theorem State.echoMissing_wf {s : State} {p : Nat} (hw : Memory.wf s = true) : Memory.wf (State.echoMissing s p) = true := by
  unfold State.echoMissing
  with_reducible repeat' first | apply State.setMember_wf | apply State.p_wf | dsimp only | (apply wf_mk; assumption)

theorem State.markSend_wf {s : State} (hw : Memory.wf s = true) : Memory.wf (State.markSend s) = true := by
  unfold State.markSend
  with_reducible repeat' first | assumption | intro _ | apply State.echoMissing_wf | apply State.emit_wf | split | dsimp only | (apply wf_mk; apply State.each_wf)

theorem State.alertFrame_wf {s : State} (hw : Memory.wf s = true) : Memory.wf (State.alertFrame s) = true := by
  unfold State.alertFrame
  with_reducible repeat' first | (apply wf_mk; assumption)

theorem State.alertSend_wf {s : State} (hw : Memory.wf s = true) : Memory.wf (State.alertSend s) = true := by
  unfold State.alertSend
  with_reducible repeat' first | (apply wf_mk; first | assumption | apply wf_ite | apply wf_foldl | apply State.raiseVal_wf | apply State.inc_wf | apply State.emit_wf)

theorem State.echoReceive_wf {s : State} {p : Nat} {tEcho : Nat} {width : Nat} (hw : Memory.wf s = true) : Memory.wf (State.echoReceive s p tEcho width) = true := by
  unfold State.echoReceive
  with_reducible repeat' first | apply State.p_wf | apply State.setMember_wf | apply State.pbit_wf | split | dsimp only | (apply wf_mk; assumption)

theorem State.refToLosc_wf {s : State} (hw : Memory.wf s = true) : Memory.wf (State.refToLosc s) = true := by
  unfold State.refToLosc
  with_reducible repeat' first | split | (apply wf_mk; first | assumption)

theorem State.stackLost_wf {s : State} {st : Nat} (hw : Memory.wf s = true) : Memory.wf (State.stackLost s st) = true := by
  unfold State.stackLost
  with_reducible repeat' first | (apply wf_mk; first | assumption | apply wf_ite | apply wf_foldl | apply State.raiseVal_wf | apply State.inc_wf | apply State.p_wf | apply State.refToLosc_wf | apply State.leaveFollow_wf)

theorem State.shifterFrame_wf {s : State} (hw : Memory.wf s = true) : Memory.wf (State.shifterFrame s) = true := by
  unfold State.shifterFrame
  with_reducible repeat' first | split | (apply wf_mk; assumption)

theorem State.setOffset_wf {s : State} (hw : Memory.wf s = true) : Memory.wf (State.setOffset s) = true := by
  unfold State.setOffset
  with_reducible repeat' first | split | dsimp only | (apply wf_mk; first | assumption | apply wf_ite | apply wf_foldl | apply State.est_wf | refine State.est_wf_eq (by assumption) ?_ | apply State.pi_wf | apply State.raiseVal_wf | apply State.p_wf)

theorem State.keepOffset_wf {s : State} {e : Int} (hw : Memory.wf s = true) : Memory.wf (State.keepOffset s e) = true := by
  unfold State.keepOffset
  with_reducible repeat' first | apply State.setOffset_wf | (apply wf_mk; assumption)

theorem State.joinStack_wf {s : State} {m : MarkMsg} {tIn : Nat} (hw : Memory.wf s = true) : Memory.wf (State.joinStack s m tIn) = true := by
  unfold State.joinStack
  with_reducible repeat' first | assumption | intro _ | apply wf_ite | apply State.stackLost_wf | apply State.keepOffset_wf | apply State.alignNow_wf | apply State.moveAll_wf

theorem State.laterPulse_wf {s : State} {m : MarkMsg} {tIn : Nat} (hw : Memory.wf s = true) : Memory.wf (State.laterPulse s m tIn) = true := by
  unfold State.laterPulse
  with_reducible repeat' first | split | dsimp only | (apply wf_mk; first | assumption | apply wf_ite | apply wf_foldl | apply State.keepOffset_wf | apply State.stackLost_wf)

theorem State.startAct_wf {s : State} {m : MarkMsg} (hw : Memory.wf s = true) : Memory.wf (State.startAct s m) = true := by
  unfold State.startAct
  with_reducible repeat' first | assumption | intro _ | apply wf_ite | apply State.p_wf | apply State.each_wf | apply State.arm_wf | dsimp only | (apply wf_mk; first | assumption | apply State.raiseBits_wf)

theorem State.followUtc_wf {s : State} {m : MarkMsg} (hw : Memory.wf s = true) : Memory.wf (State.followUtc s m) = true := by
  unfold State.followUtc
  with_reducible repeat' first | assumption | intro _ | apply wf_ite | apply State.p_wf | dsimp only | (apply wf_mk; assumption)

theorem State.validMsg_wf {s : State} {m : MarkMsg} {tIn : Nat} (hw : Memory.wf s = true) : Memory.wf (State.validMsg s m tIn) = true := by
  unfold State.validMsg
  with_reducible repeat' first | split | dsimp only | (apply wf_mk; first | assumption | apply wf_ite | apply wf_foldl | apply State.inc_wf | apply State.laterPulse_wf | apply State.joinStack_wf | apply State.startAct_wf | apply State.followUtc_wf | apply State.p_wf)

theorem State.messageReceive_wf {s : State} {m : MarkMsg} {tIn : Nat} (hw : Memory.wf s = true) : Memory.wf (State.messageReceive s m tIn) = true := by
  unfold State.messageReceive
  with_reducible repeat' first | assumption | intro _ | apply wf_ite | apply State.validMsg_wf | apply State.raiseVal_wf | apply State.inc_wf | split | dsimp only | (apply wf_mk; assumption)

theorem State.takePulse_wf {s : State} (hw : Memory.wf s = true) : Memory.wf (State.takePulse s) = true := by
  unfold State.takePulse
  with_reducible repeat' first | assumption | intro _ | apply wf_ite | apply State.alignNow_wf | apply State.stepNow_wf | apply State.p_wf | apply State.pi_wf | split | dsimp only | (apply wf_mk; assumption)

theorem State.stackFrame_wf {s : State} (hw : Memory.wf s = true) : Memory.wf (State.stackFrame s) = true := by
  unfold State.stackFrame
  with_reducible repeat' first | assumption | intro _ | apply wf_ite | apply State.shifterFrame_wf | apply State.takePulse_wf | apply State.fresh_wf | apply State.p_wf | apply State.emit_wf | apply State.alertFrame_wf | split | dsimp only | (apply wf_mk; assumption)

theorem State.stackRole_wf {s : State} (hw : Memory.wf s = true) : Memory.wf (State.stackRole s) = true := by
  unfold State.stackRole
  with_reducible repeat' first | assumption | intro _ | apply wf_foldl | apply State.leaveFollow_wf | apply State.refToLosc_wf | apply State.setMember_wf | apply State.p_wf | split | dsimp only | (apply wf_mk; apply State.p_wf)

theorem State.setLink_wf {s : State} {k : Nat} {h : LinkHid} (hw : Memory.wf s = true) : Memory.wf (State.setLink s k h) = true := by
  unfold State.setLink
  with_reducible repeat' first | (apply wf_mk; assumption)

theorem State.discardFrame_wf {s : State} {k : Nat} {counter : Nat} (hw : Memory.wf s = true) : Memory.wf (State.discardFrame s k counter) = true := by
  unfold State.discardFrame
  with_reducible repeat' first | assumption | apply State.raiseVal_wf | apply State.inc_wf

theorem State.depart_wf {s : State} {k : Nat} {since : Nat} {o : Out} (hw : Memory.wf s = true) : Memory.wf (State.depart s k since o) = true := by
  unfold State.depart
  with_reducible repeat' first | assumption | apply State.emit_wf | apply State.setLink_wf | apply State.discardFrame_wf | split

theorem State.handOver_wf {s : State} {k : Nat} {o : Out} (hw : Memory.wf s = true) : Memory.wf (State.handOver s k o) = true := by
  unfold State.handOver
  with_reducible repeat' first | assumption | intro _ | apply wf_ite | apply State.depart_wf | apply State.setLink_wf

theorem State.drainSends_wf {k : Nat} : ∀ {n : Nat} {s : State}, Memory.wf s = true → Memory.wf (s.drainSends k n) = true
  | 0, _, hw => hw
  | n + 1, s, hw => by
    unfold State.drainSends
    split
    · exact wf_ite (fun _ => State.drainSends_wf (State.depart_wf (State.setLink_wf hw))) (fun _ => hw)
    · exact hw

theorem State.sendFrame_wf {s : State} {k : Nat} (hw : Memory.wf s = true) : Memory.wf (State.sendFrame s k) = true := by
  unfold State.sendFrame
  with_reducible repeat' first | assumption | intro _ | apply wf_ite | apply State.drainSends_wf | apply State.setLink_wf

theorem State.dropSends_wf {s : State} {k : Nat} (hw : Memory.wf s = true) : Memory.wf (State.dropSends s k) = true := by
  unfold State.dropSends
  with_reducible repeat' first | assumption | intro _ | apply wf_foldl | apply State.discardFrame_wf | apply State.setLink_wf

theorem State.received_wf {s : State} {k : Nat} {crcOk : Bool} {take : State → State} (ht : ∀ s, Memory.wf s = true → Memory.wf (take s) = true) (hw : Memory.wf s = true) : Memory.wf (s.received k crcOk take) = true := by
  unfold State.received
  exact wf_ite (fun _ => hw) (fun _ => wf_ite (fun _ => ht s hw) (fun _ => State.inc_wf hw))

theorem State.setRoute_wf {s : State} {a : Nat} {row : Nat} (hw : Memory.wf s = true) : Memory.wf (State.setRoute s a row) = true := by
  unfold State.setRoute
  with_reducible repeat' first | assumption | intro _ | apply wf_ite | dsimp only | (apply wf_mk; apply State.p_wf)

theorem State.dropRoute_wf {s : State} {a : Nat} (hw : Memory.wf s = true) : Memory.wf (State.dropRoute s a) = true := by
  unfold State.dropRoute
  with_reducible repeat' first | assumption | apply State.setRoute_wf

theorem State.dropLinkRoutes_wf {s : State} {k : Nat} (hw : Memory.wf s = true) : Memory.wf (State.dropLinkRoutes s k) = true := by
  unfold State.dropLinkRoutes
  with_reducible repeat' first | assumption | intro _ | apply State.each_wf | apply State.dropRoute_wf

theorem State.takeRoute_wf {s : State} {k : Nat} {r : RouteRow} (hw : Memory.wf s = true) : Memory.wf (State.takeRoute s k r) = true := by
  unfold State.takeRoute
  with_reducible repeat' first | assumption | intro _ | apply wf_ite | apply State.setRoute_wf | apply State.dropRoute_wf

theorem State.addrEvent_wf {s : State} {a : Nat} (hw : Memory.wf s = true) : Memory.wf (State.addrEvent s a) = true := by
  unfold State.addrEvent
  with_reducible repeat' first | assumption | apply State.raiseVal_wf

theorem State.setAddr_wf {s : State} {a : Nat} {gen : Nat} (hw : Memory.wf s = true) : Memory.wf (State.setAddr s a gen) = true := by
  unfold State.setAddr
  with_reducible repeat' first | assumption | intro _ | apply wf_ite | apply State.dropRoute_wf | apply State.addrEvent_wf | apply State.p_wf | apply State.setRoute_wf

theorem State.clearLeases_wf {s : State} (hw : Memory.wf s = true) : Memory.wf (State.clearLeases s) = true := by
  unfold State.clearLeases
  with_reducible repeat' first | assumption | intro _ | apply State.p_wf | dsimp only | (apply wf_mk; apply wf_foldl)

theorem State.elect_wf {s : State} (hw : Memory.wf s = true) : Memory.wf (State.elect s) = true := by
  unfold State.elect
  with_reducible repeat' first | assumption | intro _ | apply wf_ite | apply State.raiseVal_wf | apply State.p_wf | apply State.setAddr_wf | apply State.clearLeases_wf | split | dsimp only | (apply wf_mk; first | apply State.p_wf | apply State.setAddr_wf)

theorem State.fabEnable_wf {s : State} (hw : Memory.wf s = true) : Memory.wf (State.fabEnable s) = true := by
  unfold State.fabEnable
  with_reducible repeat' first | split | (apply wf_mk; first | assumption | apply wf_ite | apply wf_foldl | apply State.elect_wf | apply State.setAddr_wf | apply State.clearLeases_wf | apply State.raiseVal_wf | apply State.p_wf)

theorem State.reElect_wf {s : State} (hw : Memory.wf s = true) : Memory.wf (State.reElect s) = true := by
  unfold State.reElect
  with_reducible repeat' first | assumption | intro _ | apply wf_ite | apply State.elect_wf

theorem State.rootTimeout_wf {s : State} (hw : Memory.wf s = true) : Memory.wf (State.rootTimeout s) = true := by
  unfold State.rootTimeout
  with_reducible repeat' first | assumption | intro _ | apply wf_ite | apply State.setLink_wf | apply State.elect_wf | split | dsimp only | (apply wf_mk; apply State.each_wf)

theorem State.linkTo_wf {s : State} {k : Nat} {st : Nat} (hw : Memory.wf s = true) : Memory.wf (State.linkTo s k st) = true := by
  unfold State.linkTo
  with_reducible repeat' first | assumption | intro _ | apply wf_ite | apply State.p_wf | apply State.raiseVal_wf | apply State.inc_wf | apply State.reElect_wf | apply State.dropLinkRoutes_wf

theorem State.retrain_wf {s : State} {k : Nat} (hw : Memory.wf s = true) : Memory.wf (State.retrain s k) = true := by
  unfold State.retrain
  with_reducible repeat' first | assumption | apply State.dropSends_wf | apply State.linkTo_wf | apply State.setLink_wf

theorem State.linkEnable_wf {s : State} {k : Nat} (hw : Memory.wf s = true) : Memory.wf (State.linkEnable s k) = true := by
  unfold State.linkEnable
  with_reducible repeat' first | assumption | intro _ | apply wf_ite | apply State.p_wf | apply State.retrain_wf

theorem State.linkSeen_wf {s : State} {k : Nat} {h : Hello} (hw : Memory.wf s = true) : Memory.wf (State.linkSeen s k h) = true := by
  unfold State.linkSeen
  with_reducible repeat' first | assumption | intro _ | apply wf_ite | apply State.setLink_wf | apply State.raiseVal_wf | apply State.p_wf | apply State.linkTo_wf

theorem State.helloReceive_wf {s : State} {k : Nat} {h : Hello} (hw : Memory.wf s = true) : Memory.wf (State.helloReceive s k h) = true := by
  unfold State.helloReceive
  with_reducible repeat' first | assumption | intro _ | apply wf_ite | apply State.setLink_wf | apply State.p_wf | apply State.raiseVal_wf | apply State.linkTo_wf | apply State.linkSeen_wf | apply State.reElect_wf

theorem State.putLease_wf {s : State} {a : Nat} {uid : Nat} {gen : Nat} (hw : Memory.wf s = true) : Memory.wf (State.putLease s a uid gen) = true := by
  unfold State.putLease
  with_reducible repeat' first | (apply wf_mk; first | assumption | apply wf_ite | apply wf_foldl | apply State.p_wf)

theorem State.endLease_wf {s : State} {a : Nat} (hw : Memory.wf s = true) : Memory.wf (State.endLease s a) = true := by
  unfold State.endLease
  with_reducible repeat' first | (apply wf_mk; first | assumption | apply wf_ite | apply wf_foldl | apply State.p_wf | apply State.addrEvent_wf)

theorem State.grantLease_wf {s : State} {f : LeaseFrame} (hw : Memory.wf s = true) : Memory.wf (State.grantLease s f).2 = true := by
  unfold State.grantLease
  with_reducible repeat' first | assumption | apply State.putLease_wf | apply State.endLease_wf | apply State.addrEvent_wf | split | dsimp only

theorem State.grantLease_wf_eq {s : State} {f : LeaseFrame} {aa : LeaseFrame} {tt : State} (ee : (State.grantLease s f) = (aa, tt)) (hw : Memory.wf s = true) : Memory.wf tt = true := by
  have h1 : Memory.wf (State.grantLease s f).2 = true := State.grantLease_wf hw; rw [ee] at h1; exact h1

theorem State.takeLease_wf {s : State} {f : LeaseFrame} (hw : Memory.wf s = true) : Memory.wf (State.takeLease s f) = true := by
  unfold State.takeLease
  with_reducible repeat' first | assumption | intro _ | apply wf_ite | apply State.addrEvent_wf | apply State.setAddr_wf | dsimp only | (apply wf_mk; apply State.setAddr_wf)

theorem State.leaseReceive_wf {s : State} {k : Nat} {f : LeaseFrame} (hw : Memory.wf s = true) : Memory.wf (State.leaseReceive s k f) = true := by
  unfold State.leaseReceive
  with_reducible repeat' first | assumption | intro _ | apply wf_ite | apply State.handOver_wf | apply State.grantLease_wf | split | dsimp only | (apply wf_mk; first | assumption | apply State.takeLease_wf)

theorem State.timeSend_wf {s : State} {k : Nat} {t : Nat} (hw : Memory.wf s = true) : Memory.wf (State.timeSend s k t) = true := by
  unfold State.timeSend
  with_reducible repeat' first | assumption | apply State.handOver_wf | apply State.setLink_wf

theorem State.asymResult_wf {s : State} {k : Nat} {mean : Int} {unc : Nat} (hw : Memory.wf s = true) : Memory.wf (State.asymResult s k mean unc) = true := by
  unfold State.asymResult
  exact State.p_wf (State.pi_wf hw)

theorem State.asymExchange_wf {s : State} {k : Nat} {f : TimeFrame} {num : Int} (hw : Memory.wf s = true) : Memory.wf (State.asymExchange s k f num) = true := by
  unfold State.asymExchange
  with_reducible repeat' first | assumption | intro _ | apply wf_ite | apply State.est_wf | apply State.setLink_wf | apply State.asymResult_wf | split

theorem State.exchange_wf {s : State} {k : Nat} {f : TimeFrame} {t1 : Nat} {t4 : Nat} (hw : Memory.wf s = true) : Memory.wf (State.exchange s k f t1 t4) = true := by
  unfold State.exchange
  with_reducible repeat' first | assumption | intro _ | apply wf_ite | apply State.est_wf | apply State.pi_wf | apply State.setLink_wf | apply State.asymExchange_wf | apply State.p_wf | apply State.offsetSample_wf

theorem State.timeReceive_wf {s : State} {k : Nat} {f : TimeFrame} (hw : Memory.wf s = true) : Memory.wf (State.timeReceive s k f) = true := by
  unfold State.timeReceive
  with_reducible repeat' first | assumption | intro _ | apply wf_ite | apply State.setLink_wf | apply State.inc_wf | apply State.exchange_wf | apply State.raiseVal_wf | apply State.linkTo_wf | split | dsimp only

theorem State.asymCalBody_wf {s : State} {k : Nat} {arg : Nat} {mean : Int} {rms : Nat} (hw : Memory.wf s = true) : Memory.wf (State.asymCalBody s k arg mean rms).st = true := by
  unfold State.asymCalBody
  with_reducible repeat' first | assumption | intro _ | apply State.deny_wf | apply State.done_wf | apply State.setLink_wf | apply State.asymResult_wf | apply wf_iteRes

theorem State.asymCalCmd_wf {s : State} {w : Who} {k : Nat} {arg : Nat} {mean : Int} {rms : Nat} (hw : Memory.wf s = true) : Memory.wf (State.asymCalCmd s w k arg mean rms).st = true := by
  unfold State.asymCalCmd
  with_reducible repeat' first | assumption | intro _ | apply State.call_wf | apply State.asymCalBody_wf

theorem State.blockFails_wf {s : State} {k : Nat} {code : Nat} {kind : Nat} {ident : Nat} (hw : Memory.wf s = true) : Memory.wf (State.blockFails s k code kind ident) = true := by
  unfold State.blockFails
  with_reducible repeat' first | assumption | apply State.raiseCal_wf | apply State.p_wf

theorem State.calSettled_wf {s : State} {core : Nat} (hw : Memory.wf s = true) : Memory.wf (State.calSettled s core) = true := by
  unfold State.calSettled
  with_reducible repeat' first | assumption | intro _ | apply wf_ite | apply State.p_wf | (apply wf_mk; assumption)

theorem State.overdueBanks_wf {s : State} (hw : Memory.wf s = true) : Memory.wf (State.overdueBanks s) = true := by
  unfold State.overdueBanks
  with_reducible repeat' first | assumption | intro _ | apply wf_ite | apply State.p_wf | apply State.clearReplace_wf

theorem State.calQueue_wf {s : State} {k : Nat} (hw : Memory.wf s = true) : Memory.wf (State.calQueue s k) = true := by
  unfold State.calQueue
  with_reducible repeat' first | assumption | intro _ | apply wf_ite | apply State.each_wf | apply State.raiseCal_wf | apply State.p_wf

theorem State.calStart_wf {s : State} {k : Nat} {core : Nat} (hw : Memory.wf s = true) : Memory.wf (State.calStart s k core) = true := by
  unfold State.calStart
  with_reducible repeat' first | assumption | intro _ | apply wf_ite | apply State.p_wf | apply State.setCal_wf | apply State.phase_wf | apply State.goOffline_wf | apply State.beginSearch_wf

theorem State.calFails_wf {s : State} {k : Nat} (hw : Memory.wf s = true) : Memory.wf (State.calFails s k) = true := by
  unfold State.calFails
  with_reducible repeat' first | assumption | apply State.calLeave_wf | apply State.p_wf | apply State.raiseCal_wf

theorem State.measured_wf {s : State} {k : Nat} {res : List Int} {b : CalBlock} (hw : Memory.wf s = true) : Memory.wf (State.measured s k res b) = true := by
  unfold State.measured
  with_reducible repeat' first | assumption | intro _ | apply wf_ite | apply State.calAbandon_wf | apply State.blockFails_wf | apply State.calFails_wf | apply State.phase_wf | apply State.setCal_wf

theorem State.calPasses_wf {s : State} {k : Nat} {inlA : Nat} {inlB : Nat} (hw : Memory.wf s = true) : Memory.wf (State.calPasses s k inlA inlB) = true := by
  unfold State.calPasses
  with_reducible repeat' first | assumption | intro _ | apply wf_ite | apply State.raiseCal_wf | apply State.pAll_wf | apply State.calSettled_wf | apply State.inc_wf | apply State.pi_wf | apply State.overdueBanks_wf | apply State.setCal_wf | apply State.calReturn_wf | apply State.calIdle_wf | apply State.p_wf | apply State.spareFreed_wf

theorem State.goesOverdue_wf {s : State} {core : Nat} (hw : Memory.wf s = true) : Memory.wf (State.goesOverdue s core) = true := by
  unfold State.goesOverdue
  with_reducible repeat' first | assumption | intro _ | apply wf_ite | apply State.overdueBanks_wf | apply State.p_wf | apply State.raiseCal_wf | apply State.setReplace_wf

theorem State.coreCalBody_wf {s : State} {core : Nat} (hw : Memory.wf s = true) : Memory.wf (State.coreCalBody s core).st = true := by
  unfold State.coreCalBody
  with_reducible repeat' first | assumption | intro _ | apply State.deny_wf | apply State.done_wf | apply State.wantCal_wf | split

theorem State.coreCalCmd_wf {s : State} {w : Who} {core : Nat} {arg : Nat} (hw : Memory.wf s = true) : Memory.wf (State.coreCalCmd s w core arg).st = true := by
  unfold State.coreCalCmd
  with_reducible repeat' first | assumption | intro _ | apply State.call_wf | apply State.coreCalBody_wf

theorem State.calAllCmd_wf {s : State} {w : Who} {arg : Nat} (hw : Memory.wf s = true) : Memory.wf (State.calAllCmd s w arg).st = true := by
  unfold State.calAllCmd
  with_reducible repeat' first | assumption | intro _ | apply State.call_wf | apply State.done_wf | apply State.each_wf | apply State.wantCal_wf

theorem State.auditAnew_wf {s : State} {k : Nat} (hw : Memory.wf s = true) : Memory.wf (State.auditAnew s k) = true := by
  unfold State.auditAnew
  with_reducible repeat' first | assumption | intro _ | apply State.each_wf | apply State.setBank_wf | apply State.setPad_wf

theorem State.headFrameOf_wf {s : State} {k : Nat} (hw : Memory.wf s = true) : Memory.wf (State.headFrameOf s k) = true := by
  unfold State.headFrameOf
  with_reducible repeat' first | assumption | apply State.setBank_wf

theorem State.auditState_wf {s : State} {c : Nat} (hw : Memory.wf s = true) : Memory.wf (State.auditState s c) = true := by
  unfold State.auditState
  with_reducible repeat' first | assumption | apply State.p_wf | apply State.setPad_wf | split | dsimp only

theorem State.trimFrame_wf {s : State} {c : Nat} (hw : Memory.wf s = true) : Memory.wf (State.trimFrame s c) = true := by
  unfold State.trimFrame
  with_reducible repeat' first | assumption | intro _ | apply wf_ite | apply State.trimStep_wf | apply State.auditState_wf | apply State.p_wf

theorem State.auditClose_wf {s : State} {c : Nat} {b : CalBlock} (hw : Memory.wf s = true) : Memory.wf (State.auditClose s c b) = true := by
  unfold State.auditClose
  with_reducible repeat' first | assumption | intro _ | apply wf_ite | apply State.setBank_wf | apply State.setPad_wf | apply State.inc_wf | apply State.blockFails_wf | apply State.pi_wf | apply State.raiseCal_wf | apply State.auditState_wf | apply State.p_wf | dsimp only | (apply wf_mk; apply State.inc_wf)

theorem State.ancNext_wf {s : State} {a : AncRun} {core : Nat} {rest : List Nat} (hw : Memory.wf s = true) : Memory.wf (State.ancNext s a core rest) = true := by
  unfold State.ancNext
  with_reducible repeat' first | split | (apply wf_mk; first | assumption | apply wf_ite | apply wf_foldl | apply State.setSp_wf | apply State.setBank_wf)

theorem State.ancRunBody_wf {s : State} {arg : Nat} (hw : Memory.wf s = true) : Memory.wf (State.ancRunBody s arg).st = true := by
  unfold State.ancRunBody
  with_reducible repeat' first | assumption | intro _ | apply State.deny_wf | apply State.accept_wf | apply State.ancNext_wf | apply State.p_wf | split | dsimp only

theorem State.ancRunCmd_wf {s : State} {w : Who} {arg : Nat} (hw : Memory.wf s = true) : Memory.wf (State.ancRunCmd s w arg).st = true := by
  unfold State.ancRunCmd
  with_reducible repeat' first | assumption | intro _ | apply State.call_wf | apply State.ancRunBody_wf

theorem State.ancBack_wf {s : State} {c : Nat} (hw : Memory.wf s = true) : Memory.wf (State.ancBack s c) = true := by
  unfold State.ancBack
  with_reducible repeat' first | assumption | intro _ | apply wf_ite | apply State.beginSearch_wf | apply State.setBank_wf

theorem State.ancFails_wf {s : State} {a : AncRun} {code : Nat} (hw : Memory.wf s = true) : Memory.wf (State.ancFails s a code) = true := by
  unfold State.ancFails
  with_reducible repeat' first | (apply wf_mk; first | assumption | apply wf_ite | apply wf_foldl | apply State.ancBack_wf | apply State.p_wf | apply State.raiseCal_wf | apply State.blockFails_wf)

theorem State.ancDone_wf {s : State} {a : AncRun} {b : CalBlock} {base : Int} (hw : Memory.wf s = true) : Memory.wf (State.ancDone s a b base) = true := by
  unfold State.ancDone
  with_reducible repeat' first | apply State.ancFails_wf | apply State.ancNext_wf | apply State.ancBack_wf | split | dsimp only | (apply wf_mk; assumption)

theorem State.setAnchorUnc_wf {s : State} {c : Nat} {k : Nat} {u : Nat} (hw : Memory.wf s = true) : Memory.wf (State.setAnchorUnc s c k u) = true := by
  unfold State.setAnchorUnc
  with_reducible repeat' first | assumption | apply State.p_wf | split

theorem State.ancUncs_wf {s : State} {a : AncRun} (hw : Memory.wf s = true) : Memory.wf (State.ancUncs s a) = true := by
  unfold State.ancUncs
  with_reducible repeat' first | assumption | intro _ | apply wf_foldl | apply State.setAnchorUnc_wf

theorem State.ancApply_wf {s : State} {a : AncRun} (hw : Memory.wf s = true) : Memory.wf (State.ancApply s a) = true := by
  unfold State.ancApply
  refine wf_mk (h := State.ancUncs_wf (State.raiseCal_wf (State.pAll_wf ?_)))
  exact wf_mk (h := State.setPad_wf (State.pi_wf (State.pi_wf (State.pi_wf (State.pi_wf hw)))))

theorem State.ancFrame_wf {s : State} (hw : Memory.wf s = true) : Memory.wf (State.ancFrame s) = true := by
  unfold State.ancFrame
  with_reducible repeat' first | assumption | intro _ | apply wf_ite | apply State.setAnchorUnc_wf | apply State.p_wf | apply State.ancUncs_wf | apply State.ancStep_wf | split | dsimp only | (apply wf_mk; first | assumption | apply wf_foldl)

theorem State.refFrame_wf {s : State} (hw : Memory.wf s = true) : Memory.wf (State.refFrame s) = true := by
  unfold State.refFrame
  with_reducible repeat' first | assumption | apply State.p_wf | apply State.pi_wf | apply State.raiseDet_wf | split | dsimp only

theorem State.calFrame_wf {s : State} (hw : Memory.wf s = true) : Memory.wf (State.calFrame s) = true := by
  unfold State.calFrame
  with_reducible repeat' first | assumption | intro _ | apply wf_ite | apply State.refFrame_wf | apply State.each_wf | apply State.wantCal_wf | apply State.p_wf | apply State.setCal_wf | apply State.calQueue_wf | apply State.headFrameOf_wf

theorem State.stepFrame_wf {s : State} (hw : Memory.wf s = true) : Memory.wf (State.stepFrame s) = true := by
  unfold State.stepFrame
  with_reducible repeat' first | assumption | apply State.each_wf | apply State.calSteps_wf | apply State.trimFrame_wf | apply State.ancFrame_wf

theorem State.calByp_wf {s : State} (hw : Memory.wf s = true) : Memory.wf (State.calByp s) = true := by
  unfold State.calByp
  with_reducible repeat' first | assumption | intro _ | apply wf_ite | apply State.each_wf | apply State.auditAnew_wf | apply State.calAbandon_wf | (apply wf_mk; apply State.each_wf)

theorem State.lifeFrame_wf {s : State} (hw : Memory.wf s = true) : Memory.wf (State.lifeFrame s) = true := by
  unfold State.lifeFrame
  with_reducible repeat' first | assumption | apply State.p_wf | apply State.setReplace_wf | apply State.raiseDet_wf | split | dsimp only

theorem State.writeSlot_wf {s : State} {slot : Nat} {tried : List Nat} {set : NvmSet} (hw : Memory.wf s = true) : Memory.wf (State.writeSlot s slot tried set) = true := by
  unfold State.writeSlot
  with_reducible repeat' first | apply State.lifeFrame_wf | apply State.p_wf | apply State.inc_wf | (apply wf_mk; assumption)

theorem State.stored_wf {s : State} {slot : Nat} {set : NvmSet} (hw : Memory.wf s = true) : Memory.wf (State.stored s slot set) = true := by
  unfold State.stored
  with_reducible repeat' first | apply State.pAll_wf | apply State.raiseDet_wf | apply State.inc_wf | (apply wf_mk; assumption)

theorem State.slotFailsCheck_wf {s : State} {tried : List Nat} {set : NvmSet} (hw : Memory.wf s = true) : Memory.wf (State.slotFailsCheck s tried set) = true := by
  unfold State.slotFailsCheck
  with_reducible repeat' first | (apply wf_mk; first | assumption | apply wf_ite | apply wf_foldl | apply State.inc_wf | apply State.writeSlot_wf | apply State.raiseDet_wf | apply State.p_wf | split | (apply wf_mk; first | assumption | apply wf_ite | apply wf_foldl | apply State.inc_wf))

theorem State.calStoreCmd_wf {s : State} {w : Who} {arg : Nat} (hw : Memory.wf s = true) : Memory.wf (State.calStoreCmd s w arg).st = true := by
  unfold State.calStoreCmd
  with_reducible repeat' first | intro _ | apply State.call_wf | apply State.done_wf | (apply wf_mk; assumption)

end Sys2Proof.Machine
end

