-- ==== Sys2Proof/Laws/MemoryHost.lean ====
section
/-! SUPPORT. The collector, the dictionary and its transports keep the memories in canonical form. -/

set_option Elab.async false

namespace Sys2Proof.Machine

theorem State.lay_wf {b : State} {vals : List (Nat × Nat)} {due : Nat} {act : Nat → Bool} (hw : Memory.wf b = true) : Memory.wf (b.lay vals due act).2 = true := by
  unfold State.lay; dsimp only
  split
  · split
    · exact State.place_wf_eq ‹_› (State.pAll_wf hw)
    · exact State.each_wf (fun _ _ h => State.setSeg_wf h) (State.pAll_wf hw)
  · exact State.pAll_wf hw

theorem State.renewSess_wf {s : State} {k : Nat} (hw : Memory.wf s = true) : Memory.wf (State.renewSess s k) = true := by
  unfold State.renewSess
  with_reducible repeat' first | assumption | apply State.setSess_wf

theorem State.breakSess_wf {s : State} {reason : Nat} {k : Nat} (hw : Memory.wf s = true) : Memory.wf (State.breakSess s reason k) = true := by
  unfold State.breakSess
  with_reducible repeat' first | split | dsimp only | (apply wf_mk; first | assumption | apply wf_ite | apply wf_foldl | apply State.setSess_wf | apply State.p_wf | apply State.breakLocks_wf | apply State.raiseVal_wf)

theorem State.breakParty_wf {s : State} {reason : Nat} {p : Nat → Bool} (hw : Memory.wf s = true) : Memory.wf (State.breakParty s reason p) = true := by
  unfold State.breakParty
  with_reducible repeat' first | assumption | intro _ | apply State.breakLocks_wf | apply State.each_wf | apply State.breakSess_wf

theorem State.openSess_wf {s : State} {w : Who} {nonce : Option Nat} {lease : Nat} (hw : Memory.wf s = true) : Memory.wf (State.openSess s w nonce lease).st = true := by
  unfold State.openSess
  with_reducible repeat' first | assumption | intro _ | apply wf_foldl | apply State.done_wf | apply State.renewSess_wf | apply State.deny_wf | apply State.breakParty_wf | apply State.pAll_wf | apply State.setSess_wf | apply State.setTxn_wf | split | dsimp only

theorem State.sessRetired_wf {s : State} {k : Nat} (hw : Memory.wf s = true) : Memory.wf (State.sessRetired s k) = true := by
  unfold State.sessRetired
  with_reducible repeat' first | assumption | apply State.p_wf | split

theorem State.stage_wf {s : State} {j : Nat} {k : Nat} {v : Nat} (hw : Memory.wf s = true) : Memory.wf (State.stage s j k v).st = true := by
  unfold State.stage
  with_reducible repeat' first | assumption | intro _ | apply State.deny_wf | apply State.done_wf | apply State.setSess_wf | split | dsimp only

theorem State.under_wf {s : State} {onlyFinal : Bool} {due : Nat} (hw : Memory.wf s = true) : Memory.wf (State.under s onlyFinal due) = true := by
  unfold State.under
  with_reducible repeat' first | assumption | intro _ | apply wf_foldl | apply State.lay_wf

theorem State.noteRefusal_wf {s : State} {k : Nat} {code : Nat} {placed : Bool} {rows : List Nat} (hw : Memory.wf s = true) : Memory.wf (State.noteRefusal s k code placed rows) = true := by
  unfold State.noteRefusal
  with_reducible repeat' first | assumption | apply State.raiseVal_wf | apply State.inc_wf | apply State.fresh_wf | apply State.plLog_wf | split

theorem State.showRefusal_wf {s : State} {k : Nat} {code : Nat} {obj : Nat} (hw : Memory.wf s = true) : Memory.wf (State.showRefusal s k code obj) = true := by
  unfold State.showRefusal
  with_reducible repeat' first | assumption | apply State.pAll_wf

theorem State.calYields_wf {s : State} {p : State} (hw : Memory.wf s = true) (_hw1 : Memory.wf p = true) : Memory.wf (State.calYields s p) = true := by
  unfold State.calYields
  with_reducible repeat' first | assumption | intro _ | apply State.each_wf | apply State.calAbandon_wf

theorem State.commitBody_wf {s : State} {k : Nat} {fn : Nat} (hw : Memory.wf s = true) : Memory.wf (State.commitBody s k fn).st = true := by
  unfold State.commitBody
  with_reducible repeat' first | assumption | intro _ | apply State.under_wf | apply State.noteRefusal_wf | apply State.p_wf | apply State.showRefusal_wf | apply State.accept_wf | apply State.calYields_wf | apply State.lay_wf | apply wf_iteRes | split | dsimp only | (apply wf_mk; apply State.pAll_wf)

theorem State.commitIn_wf {s : State} {w : Who} {k : Nat} {fn : Nat} (hw : Memory.wf s = true) : Memory.wf (State.commitIn s w k fn).st = true := by
  unfold State.commitIn
  with_reducible repeat' first | assumption | intro _ | apply State.deny_wf | apply State.renewSess_wf | apply State.commitBody_wf | split | dsimp only

theorem State.dropCommit_wf {s : State} {c : Commit} (hw : Memory.wf s = true) : Memory.wf (State.dropCommit s c) = true := by
  unfold State.dropCommit
  with_reducible repeat' first | apply State.p_wf | split | dsimp only | (apply wf_mk; assumption)

theorem State.refuseCommit_wf {s : State} {c : Commit} {code : Nat} {obj : Nat} (hw : Memory.wf s = true) : Memory.wf (State.refuseCommit s c code obj) = true := by
  unfold State.refuseCommit
  with_reducible repeat' first | assumption | apply State.showRefusal_wf | apply State.dropCommit_wf | split

theorem State.checkCommit_wf {s : State} {c : Commit} (hw : Memory.wf s = true) : Memory.wf (State.checkCommit s c) = true := by
  unfold State.checkCommit
  with_reducible repeat' first | apply State.noteRefusal_wf | apply State.refuseCommit_wf | split | dsimp only | (apply wf_mk; assumption)

theorem State.refuseAll_wf {s : State} (hw : Memory.wf s = true) : Memory.wf (State.refuseAll s) = true := by
  unfold State.refuseAll
  with_reducible repeat' first | assumption | intro _ | apply wf_foldl | apply State.refuseCommit_wf

theorem State.parkApplied_wf {s : State} {old : State} {c : Nat} (hw : Memory.wf s = true) (_hw1 : Memory.wf old = true) : Memory.wf (State.parkApplied s old c) = true := by
  unfold State.parkApplied
  with_reducible repeat' first | assumption | intro _ | apply wf_ite | apply State.parkClock_wf | apply State.p_wf | apply State.settlePad_wf

theorem State.padApplied_wf {s : State} {old : State} {c : Nat} (hw : Memory.wf s = true) (hw1 : Memory.wf old = true) : Memory.wf (State.padApplied s old c) = true := by
  unfold State.padApplied
  with_reducible repeat' first | assumption | intro _ | apply wf_ite | apply State.setPad_wf | apply State.settlePad_wf | apply State.driverOff_wf | apply State.padClass_wf | apply State.driverOn_wf | apply State.parkApplied_wf

theorem State.clockApplied_wf {s : State} {old : State} {c : Nat} (hw : Memory.wf s = true) (_hw1 : Memory.wf old = true) : Memory.wf (State.clockApplied s old c) = true := by
  unfold State.clockApplied
  with_reducible repeat' first | assumption | intro _ | apply wf_ite | apply State.setClkFreq_wf | apply State.gatePad_wf | apply State.toSubst_wf | apply State.p_wf

theorem State.sourceApplied_wf {s : State} {old : State} {c : Nat} (hw : Memory.wf s = true) (_hw1 : Memory.wf old = true) : Memory.wf (State.sourceApplied s old c) = true := by
  unfold State.sourceApplied
  with_reducible repeat' first | assumption | intro _ | apply wf_ite | apply State.setCh_wf | apply State.stopWave_wf | apply State.p_wf | apply State.parkClock_wf | apply State.setClkFreq_wf | apply State.setPad_wf | apply State.toSubst_wf

theorem State.slotApplied_wf {s : State} {old : State} {n : Nat} (hw : Memory.wf s = true) (_hw1 : Memory.wf old = true) : Memory.wf (State.slotApplied s old n) = true := by
  unfold State.slotApplied
  with_reducible repeat' first | assumption | apply State.slotFails_wf | apply State.setSlot_wf | apply State.pbit_wf | apply State.pAll_wf | split

theorem State.utApplied_wf {s : State} {old : State} {u : Nat} (hw : Memory.wf s = true) (_hw1 : Memory.wf old = true) : Memory.wf (State.utApplied s old u) = true := by
  unfold State.utApplied
  with_reducible repeat' first | assumption | intro _ | apply wf_ite | apply State.gatedRelock_wf | apply State.each_wf | apply State.p_wf | apply State.gatePad_wf | apply State.pAll_wf | apply State.setUt_wf | apply State.retarget_wf | apply State.hitless_wf | apply State.gatePads_wf | apply State.setPhi_wf | apply State.setClkFreq_wf

theorem State.ownApplied_wf {s : State} {old : State} {q : Nat} (hw : Memory.wf s = true) (_hw1 : Memory.wf old = true) : Memory.wf (State.ownApplied s old q) = true := by
  unfold State.ownApplied
  with_reducible repeat' first | assumption | intro _ | apply State.each_wf | apply State.setLevel_wf

theorem State.qpApplied_wf {s : State} {old : State} {q : Nat} (hw : Memory.wf s = true) (_hw1 : Memory.wf old = true) : Memory.wf (State.qpApplied s old q) = true := by
  unfold State.qpApplied
  with_reducible repeat' first | assumption | apply State.setQp_wf | apply State.pAll_wf | apply State.p_wf | split

theorem State.endChans_wf {s : State} {p : Chan → Bool} (hw : Memory.wf s = true) : Memory.wf (State.endChans s p) = true := by
  unfold State.endChans
  with_reducible repeat' first | (apply wf_mk; assumption)

theorem State.ethApplied_wf {s : State} {old : State} (hw : Memory.wf s = true) (_hw1 : Memory.wf old = true) : Memory.wf (State.ethApplied s old) = true := by
  unfold State.ethApplied
  with_reducible repeat' first | assumption | apply State.endChans_wf | apply State.p_wf | split | dsimp only

theorem State.fcApplied_wf {s : State} {old : State} {e : Nat} (hw : Memory.wf s = true) (_hw1 : Memory.wf old = true) : Memory.wf (State.fcApplied s old e) = true := by
  unfold State.fcApplied
  with_reducible repeat' first | apply State.pbit_wf | apply State.p_wf | split | (apply wf_mk; assumption)

theorem State.applied_wf {s : State} {old : State} {vals : List (Nat × Nat)} (hw : Memory.wf s = true) (hw1 : Memory.wf old = true) : Memory.wf (State.applied s old vals) = true := by
  unfold State.applied
  with_reducible repeat' first | assumption | intro _ | apply wf_ite | apply wf_foldl | apply State.each_wf | apply State.clockApplied_wf | apply State.padApplied_wf | apply State.sourceApplied_wf | apply State.setPhi_wf | apply State.utApplied_wf | apply State.slotApplied_wf | apply State.ownApplied_wf | apply State.retime_wf | apply State.retrySoon_wf | apply State.stackRole_wf | apply State.fabEnable_wf | apply State.linkEnable_wf | apply State.qpApplied_wf | apply State.ethApplied_wf | apply State.endChans_wf | apply State.fcApplied_wf | (apply wf_mk; first | assumption | apply wf_ite)

theorem State.applyCommit_wf {s : State} {c : Commit} (hw : Memory.wf s = true) : Memory.wf (State.applyCommit s c) = true := by
  unfold State.applyCommit
  with_reducible repeat' first | assumption | apply State.applied_wf | apply State.lay_wf | apply State.inc_wf | apply State.p_wf | apply State.setSess_wf | apply State.dropCommit_wf | split

theorem State.commitFrame_wf {s : State} (hw : Memory.wf s = true) : Memory.wf (State.commitFrame s) = true := by
  unfold State.commitFrame
  with_reducible repeat' first | assumption | apply wf_foldl | apply State.applyCommit_wf | apply State.checkCommit_wf

theorem State.sessionFrame_wf {s : State} (hw : Memory.wf s = true) : Memory.wf (State.sessionFrame s) = true := by
  unfold State.sessionFrame
  with_reducible repeat' first | assumption | intro _ | apply State.each_wf | apply State.breakSess_wf | apply State.sessRetired_wf | split

theorem State.sessCommitCmd_wf {s : State} {w : Who} {k : Nat} {fn : Nat} (hw : Memory.wf s = true) : Memory.wf (State.sessCommitCmd s w k fn).st = true := by
  unfold State.sessCommitCmd
  with_reducible repeat' first | assumption | intro _ | apply State.call_wf | apply State.commitIn_wf

theorem State.discardIn_wf {s : State} {w : Who} {k : Nat} (hw : Memory.wf s = true) : Memory.wf (State.discardIn s w k).st = true := by
  unfold State.discardIn
  with_reducible repeat' first | assumption | intro _ | apply State.deny_wf | apply State.renewSess_wf | apply State.done_wf | apply State.setSess_wf | split | dsimp only

theorem State.sessDiscardCmd_wf {s : State} {w : Who} {k : Nat} {arg : Nat} (hw : Memory.wf s = true) : Memory.wf (State.sessDiscardCmd s w k arg).st = true := by
  unfold State.sessDiscardCmd
  with_reducible repeat' first | assumption | intro _ | apply State.call_wf | apply State.discardIn_wf

theorem State.closeIn_wf {s : State} {w : Who} {k : Nat} (hw : Memory.wf s = true) : Memory.wf (State.closeIn s w k).st = true := by
  unfold State.closeIn
  with_reducible repeat' first | assumption | intro _ | apply State.deny_wf | apply State.done_wf | apply State.breakSess_wf | split | dsimp only

theorem State.sessCloseCmd_wf {s : State} {w : Who} {k : Nat} {arg : Nat} (hw : Memory.wf s = true) : Memory.wf (State.sessCloseCmd s w k arg).st = true := by
  unfold State.sessCloseCmd
  with_reducible repeat' first | assumption | intro _ | apply State.call_wf | apply State.closeIn_wf

theorem State.setRec_wf {s : State} {src : Nat} {r : Nat} (hw : Memory.wf s = true) : Memory.wf (State.setRec s src r) = true := by
  unfold State.setRec
  with_reducible repeat' first | assumption | apply State.p_wf

theorem State.setSrcBit_wf {s : State} {lo : Nat} {src : Nat} {b : Bool} (hw : Memory.wf s = true) : Memory.wf (State.setSrcBit s lo src b) = true := by
  unfold State.setSrcBit
  with_reducible repeat' first | assumption | apply State.pbit_wf

theorem State.fcLog_wf {s : State} {kind : Nat} {src : Nat} {seq : Nat} {fn : Nat} {detail : Nat} {cause : Option (Nat × Nat)} {count : Nat} (hw : Memory.wf s = true) : Memory.wf (State.fcLog s kind src seq fn detail cause count) = true := by
  unfold State.fcLog
  with_reducible repeat' first | assumption | apply State.p_wf

theorem State.deliver_wf {s : State} {src : Nat} (hw : Memory.wf s = true) : Memory.wf (State.deliver s src) = true := by
  unfold State.deliver
  with_reducible repeat' first | (apply wf_mk; assumption)

theorem State.passShadows_wf {s : State} {src fn at_ : Nat} {e : Ev} (hw : Memory.wf s = true) : Memory.wf (s.passShadows src fn at_ e).1 = true := by
  unfold State.passShadows
  split
  · exact hw
  · refine wf_fold (p := Prod.fst) (fun b x h => ?_) hw
    with_reducible repeat' first | assumption | intro _ | apply wf_ite | apply wf_iteFst | apply State.fcLog_wf | split | (apply wf_mk; assumption)

theorem State.mergeMark_wf {s : State} {into : Nat} {seq : Nat} {src : Nat} {fn : Nat} {detail : Nat} (hw : Memory.wf s = true) : Memory.wf (State.mergeMark s into seq src fn detail) = true := by
  unfold State.mergeMark
  with_reducible repeat' first | assumption | apply State.setRec_wf | apply State.inc_wf | apply State.fcLog_wf | split

theorem State.showWindow_wf {s : State} {src : Nat} (hw : Memory.wf s = true) : Memory.wf (State.showWindow s src) = true := by
  unfold State.showWindow
  with_reducible repeat' first | assumption | apply State.p_wf

theorem State.latch_wf {s : State} {src : Nat} {fn : Nat} {e : Ev} (hw : Memory.wf s = true) : Memory.wf (State.latch s src fn e) = true := by
  unfold State.latch
  with_reducible repeat' first | apply State.setSrcBit_wf | apply State.p_wf | apply State.setRec_wf | (apply wf_mk; assumption)

theorem State.updateRec_wf {s : State} {src : Nat} {fn : Nat} {e : Ev} (hw : Memory.wf s = true) : Memory.wf (State.updateRec s src fn e) = true := by
  unfold State.updateRec
  with_reducible repeat' first | assumption | apply State.setRec_wf

theorem State.countEvent_wf {s : State} {src : Nat} {fn : Nat} {e : Ev} (hw : Memory.wf s = true) : Memory.wf (State.countEvent s src fn e).1 = true := by
  unfold State.countEvent
  with_reducible repeat' first | intro _ | apply State.setRec_wf | apply State.setSrcBit_wf | apply State.fcLog_wf | (apply wf_mk; first | assumption | apply wf_ite | apply wf_foldl | apply State.showWindow_wf | apply State.latch_wf | apply State.updateRec_wf | apply State.setRec_wf | apply State.setSrcBit_wf | apply State.inc_wf)

theorem State.countEvent_wf_eq {s : State} {src : Nat} {fn : Nat} {e : Ev} {aa : Option FcAct} {tt : State} (ee : (State.countEvent s src fn e) = (tt, aa)) (hw : Memory.wf s = true) : Memory.wf tt = true := by
  have h1 : Memory.wf (State.countEvent s src fn e).1 = true := State.countEvent_wf hw; rw [ee] at h1; exact h1

theorem State.takeEvent_wf {s : State} {src : Nat} {fn : Nat} {at_ : Nat} {e : Ev} (hw : Memory.wf s = true) : Memory.wf (State.takeEvent s src fn at_ e).1 = true := by
  unfold State.takeEvent
  with_reducible repeat' first | assumption | apply State.inc_wf | apply State.passShadows_wf | apply State.mergeMark_wf | apply State.deliver_wf | apply State.countEvent_wf | split | dsimp only

theorem State.takeEvent_wf_eq {s : State} {src : Nat} {fn : Nat} {at_ : Nat} {e : Ev} {aa : Option FcAct} {tt : State} (ee : (State.takeEvent s src fn at_ e) = (tt, aa)) (hw : Memory.wf s = true) : Memory.wf tt = true := by
  have h1 : Memory.wf (State.takeEvent s src fn at_ e).1 = true := State.takeEvent_wf hw; rw [ee] at h1; exact h1

theorem State.handle_wf {s : State} {a : FcAct} {till : Option Nat} (hw : Memory.wf s = true) : Memory.wf (State.handle s a till) = true := by
  unfold State.handle
  with_reducible repeat' first | split | (apply wf_mk; assumption)

theorem State.direct_wf {s : State} {a : FcAct} {mask : Nat} {till : Nat} (hw : Memory.wf s = true) : Memory.wf (State.direct s a mask till) = true := by
  unfold State.direct
  with_reducible repeat' first | (apply wf_mk; assumption)

theorem State.askSafe_wf {s : State} (hw : Memory.wf s = true) : Memory.wf (State.askSafe s) = true := by
  unfold State.askSafe
  with_reducible repeat' first | assumption | apply State.askMode_wf | split

theorem State.actSpare_wf {s : State} {a : FcAct} (hw : Memory.wf s = true) : Memory.wf (State.actSpare s a) = true := by
  unfold State.actSpare
  with_reducible repeat' first | assumption | apply State.direct_wf | apply State.each_wf | apply State.spareFor_wf | apply State.handle_wf

theorem State.actReset_wf {s : State} {a : FcAct} {b : Blk} (hw : Memory.wf s = true) : Memory.wf (State.actReset s a b) = true := by
  unfold State.actReset
  with_reducible repeat' first | intro _ | apply wf_foldl | apply State.mergeMark_wf | apply State.handle_wf | split | (apply wf_mk; assumption)

theorem State.actHold_wf {s : State} {a : FcAct} (hw : Memory.wf s = true) : Memory.wf (State.actHold s a) = true := by
  unfold State.actHold
  with_reducible repeat' first | apply State.handle_wf | apply State.direct_wf | (apply wf_mk; assumption)

theorem State.act1_wf {s : State} {safe : Bool} {a : FcAct} (hw : Memory.wf s = true) : Memory.wf (State.act1 s safe a) = true := by
  unfold State.act1
  with_reducible repeat' first | assumption | apply State.deliver_wf | apply State.handle_wf | apply State.setReplace_wf | apply State.direct_wf | apply State.askSafe_wf | apply State.actSpare_wf | apply State.actReset_wf | apply State.actHold_wf | split

theorem State.beginReset_wf {s : State} {b : Blk} {inst : Nat} (hw : Memory.wf s = true) : Memory.wf (State.beginReset s b inst) = true := by
  unfold State.beginReset
  with_reducible repeat' first | assumption | intro _ | apply wf_ite | apply State.setInp_wf | apply State.setNoSignal_wf | apply State.slotFails_wf | apply State.gatedRelock_wf | apply State.holdReq_wf | apply State.auditAnew_wf | apply State.calAbandon_wf | apply State.retrain_wf | apply State.stackLost_wf | apply State.each_wf | apply State.p_wf | apply State.setMember_wf | split | dsimp only | (apply wf_mk; assumption)

theorem State.startReset_wf {s : State} {r : PendReset} (hw : Memory.wf s = true) : Memory.wf (State.startReset s r) = true := by
  unfold State.startReset
  with_reducible repeat' first | apply State.beginReset_wf | dsimp only | (apply wf_mk; assumption)

theorem State.resetsDue_wf {s : State} (hw : Memory.wf s = true) : Memory.wf (State.resetsDue s) = true := by
  unfold State.resetsDue
  with_reducible repeat' first | assumption | apply wf_foldl | apply State.startReset_wf

theorem State.endSettle_wf {s : State} {x : Shadow} (hw : Memory.wf s = true) : Memory.wf (State.endSettle s x) = true := by
  unfold State.endSettle
  with_reducible repeat' first | split | dsimp only | (apply wf_mk; first | assumption | apply wf_ite | apply wf_foldl | apply State.raiseVal_wf)

theorem State.watchShadows_wf {s : State} (hw : Memory.wf s = true) : Memory.wf (State.watchShadows s) = true := by
  unfold State.watchShadows
  with_reducible repeat' first | intro _ | (apply wf_mk; first | assumption | apply wf_ite | apply wf_foldl | apply State.endSettle_wf | split)

theorem State.endSevere_wf {s : State} {src : Nat} (hw : Memory.wf s = true) : Memory.wf (State.endSevere s src) = true := by
  unfold State.endSevere
  with_reducible repeat' first | assumption | apply State.fcLog_wf | apply State.setSrcBit_wf

theorem State.endForce_wf {s : State} {src : Nat} (hw : Memory.wf s = true) : Memory.wf (State.endForce s src) = true := by
  unfold State.endForce
  with_reducible repeat' first | (apply wf_mk; assumption)

theorem State.subWindow_wf {s : State} {src : Nat} (hw : Memory.wf s = true) : Memory.wf (State.subWindow s src) = true := by
  unfold State.subWindow
  with_reducible repeat' first | apply State.showWindow_wf | apply State.endSevere_wf | apply State.endForce_wf | split | dsimp only | (apply wf_mk; assumption)

theorem State.escalations_wf {s : State} (hw : Memory.wf s = true) : Memory.wf (State.escalations s) = true := by
  unfold State.escalations
  with_reducible repeat' first | apply State.setReplace_wf | apply State.clearReplace_wf | split | dsimp only | (apply wf_mk; assumption)

theorem State.transients_wf {s : State} {raised : Sp Ev} (hw : Memory.wf s = true) : Memory.wf (State.transients s raised) = true := by
  unfold State.transients
  with_reducible repeat' first | assumption | intro _ | apply State.each_wf | apply State.setRec_wf

theorem State.namePhase_wf {s : State} (hw : Memory.wf s = true) : Memory.wf (State.namePhase s) = true := by
  unfold State.namePhase
  with_reducible repeat' first | (apply wf_mk; assumption)

theorem State.collect_wf {s : State} {raised : Sp Ev} (hw : Memory.wf s = true) : Memory.wf (s.collect raised) = true := by
  unfold State.collect; dsimp only
  refine State.watchShadows_wf (State.transients_wf (State.escalations_wf (State.each_wf (fun _ _ h => State.subWindow_wf h) (wf_foldl (fun _ _ h => State.act1_wf h) (State.namePhase_wf ?_)))))
  refine wf_fold (p := Prod.fst) (fun b x h => (by dsimp only; exact State.takeEvent_wf h)) ?_
  dsimp only
  exact wf_mk (h := hw)

theorem State.reactsDue_wf {s : State} (hw : Memory.wf s = true) : Memory.wf (State.reactsDue s) = true := by
  unfold State.reactsDue
  with_reducible repeat' first | intro _ | apply wf_foldl | apply State.raiseVal_wf | (apply wf_mk; assumption)

theorem State.fcRestart_wf {s : State} {src : Nat} (hw : Memory.wf s = true) : Memory.wf (State.fcRestart s src) = true := by
  unfold State.fcRestart
  with_reducible repeat' first | apply State.pAll_wf | apply State.setSrcBit_wf | (apply wf_mk; assumption)

theorem State.eccError_wf {s : State} {src : Nat} {e : EccError} (hw : Memory.wf s = true) : Memory.wf (State.eccError s src e) = true := by
  unfold State.eccError
  with_reducible repeat' first | assumption | apply State.raiseVal_wf | apply State.inc_wf | apply State.askSafe_wf | apply State.fcRestart_wf | split

theorem State.fcClearBody_wf {s : State} {arg : Nat} (hw : Memory.wf s = true) : Memory.wf (State.fcClearBody s arg).st = true := by
  unfold State.fcClearBody
  with_reducible repeat' first | intro _ | apply State.done_wf | apply State.fcLog_wf | apply State.setSrcBit_wf | apply State.setRec_wf | apply State.deny_wf | apply State.inc_wf | split | dsimp only | (apply wf_mk; assumption)

theorem State.fcClearCmd_wf {s : State} {w : Who} {arg : Nat} (hw : Memory.wf s = true) : Memory.wf (State.fcClearCmd s w arg).st = true := by
  unfold State.fcClearCmd
  with_reducible repeat' first | assumption | intro _ | apply State.call_wf | apply State.fcClearBody_wf

theorem State.fcDegradeClearCmd_wf {s : State} {w : Who} {arg : Nat} (hw : Memory.wf s = true) : Memory.wf (State.fcDegradeClearCmd s w arg).st = true := by
  unfold State.fcDegradeClearCmd
  with_reducible repeat' first | assumption | intro _ | apply State.call_wf | apply State.done_wf | apply State.clearReplace_wf

theorem State.wopEvents_wf {s : State} (hw : Memory.wf s = true) : Memory.wf (State.wopEvents s) = true := by
  unfold State.wopEvents
  with_reducible repeat' first | intro _ | apply wf_foldl | apply State.emit_wf | split | dsimp only | (apply wf_mk; assumption)

theorem State.fabricEvents_wf {s : State} (hw : Memory.wf s = true) : Memory.wf (State.fabricEvents s) = true := by
  unfold State.fabricEvents
  with_reducible repeat' first | assumption | intro _ | apply wf_ite | apply State.each_wf | apply State.handOver_wf | apply State.inc_wf | dsimp only | (apply wf_mk; assumption)

theorem State.msixSend_wf {s : State} (hw : Memory.wf s = true) : Memory.wf (State.msixSend s) = true := by
  unfold State.msixSend
  with_reducible repeat' first | intro _ | apply wf_foldl | apply State.emit_wf | (apply wf_mk; assumption)

theorem State.qpSettle_wf {s : State} {q : Nat} (hw : Memory.wf s = true) : Memory.wf (State.qpSettle s q) = true := by
  unfold State.qpSettle
  with_reducible repeat' first | assumption | apply State.setQp_wf | apply State.p_wf | split | dsimp only

theorem State.qpFails_wf {s : State} {q : Nat} (hw : Memory.wf s = true) : Memory.wf (State.qpFails s q) = true := by
  unfold State.qpFails
  with_reducible repeat' first | assumption | apply State.qpSettle_wf | apply State.raiseVal_wf | apply State.p_wf | split

theorem State.ringWrite_wf {s : State} {k : Nat} {n : Nat} {v : Nat} (hw : Memory.wf s = true) : Memory.wf (State.ringWrite s k n v).st = true := by
  unfold State.ringWrite
  with_reducible repeat' first | assumption | intro _ | apply State.done_wf | apply State.p_wf | apply State.deny_wf | split

theorem State.postCompletion_wf {s : State} {q : Nat} (hw : Memory.wf s = true) : Memory.wf (State.postCompletion s q) = true := by
  unfold State.postCompletion
  with_reducible repeat' first | split | (apply wf_mk; first | assumption | apply wf_ite | apply wf_foldl | apply State.qpFails_wf | apply State.p_wf | apply State.setQp_wf | apply State.qpSettle_wf | apply State.emit_wf | split)

theorem State.putRecord_wf {s : State} {kind : Nat} {rec : List Byte} {q : Nat} (hw : Memory.wf s = true) : Memory.wf (State.putRecord s kind rec q) = true := by
  unfold State.putRecord
  with_reducible repeat' first | split | dsimp only | (apply wf_mk; first | assumption | apply wf_ite | apply wf_foldl | apply State.inc_wf | apply State.emit_wf | apply State.p_wf)

theorem State.erEmit_wf {s : State} {body : List Byte} {seq : Nat} (hw : Memory.wf s = true) : Memory.wf (State.erEmit s body seq) = true := by
  unfold State.erEmit
  with_reducible repeat' first | intro _ | apply wf_foldl | apply State.pAll_wf | apply State.each_wf | apply State.putRecord_wf | apply State.emit_wf | split | (apply wf_mk; assumption)

theorem State.pcieBreak_wf {s : State} {kind : Nat} (hw : Memory.wf s = true) : Memory.wf (State.pcieBreak s kind) = true := by
  unfold State.pcieBreak
  with_reducible repeat' first | assumption | apply State.raiseVal_wf | apply State.breakParty_wf

theorem State.pcieReset_wf {s : State} {kind : Nat} {d3 : Bool} (hw : Memory.wf s = true) : Memory.wf (State.pcieReset s kind d3) = true := by
  unfold State.pcieReset
  with_reducible repeat' first | (apply wf_mk; first | assumption | apply wf_ite | apply wf_foldl | apply State.pcieBreak_wf)

theorem State.toD3_wf {s : State} (hw : Memory.wf s = true) : Memory.wf (State.toD3 s) = true := by
  unfold State.toD3
  with_reducible repeat' first | assumption | apply State.pcieReset_wf | split

theorem State.flBegin_wf {s : State} {op : FlOp} (hw : Memory.wf s = true) : Memory.wf (State.flBegin s op) = true := by
  unfold State.flBegin
  with_reducible repeat' first | apply State.p_wf | (apply wf_mk; assumption)

theorem State.flEraseCmd_wf {s : State} {w : Who} {arg : Nat} (hw : Memory.wf s = true) : Memory.wf (State.flEraseCmd s w arg).st = true := by
  unfold State.flEraseCmd
  with_reducible repeat' first | assumption | intro _ | apply State.call_wf | apply State.deny_wf | apply State.accept_wf | apply State.flBegin_wf | split

theorem State.flData_wf {s : State} {row : Nat} {v : Nat} (hw : Memory.wf s = true) : Memory.wf (State.flData s row v).st = true := by
  unfold State.flData
  with_reducible repeat' first | assumption | intro _ | apply State.deny_wf | apply State.done_wf | apply State.flBegin_wf | split | dsimp only

theorem State.flVerifyCmd_wf {s : State} {w : Who} {arg : Nat} (hw : Memory.wf s = true) : Memory.wf (State.flVerifyCmd s w arg).st = true := by
  unfold State.flVerifyCmd
  with_reducible repeat' first | assumption | intro _ | apply State.call_wf | apply State.deny_wf | apply State.flBegin_wf | apply State.done_wf | split

theorem State.showSlot_wf {s : State} {slot : Nat} {good : Bool} (hw : Memory.wf s = true) : Memory.wf (State.showSlot s slot good) = true := by
  unfold State.showSlot
  with_reducible repeat' first | assumption | apply State.p_wf

theorem State.flDone_wf {s : State} {op : FlOp} (hw : Memory.wf s = true) : Memory.wf (State.flDone s op) = true := by
  unfold State.flDone
  with_reducible repeat' first | apply State.showSlot_wf | split | (apply wf_mk; first | assumption | apply wf_ite | apply wf_foldl | apply State.p_wf)

theorem State.bar0OpenCmd_wf {s : State} {w : Who} {arg : Nat} (hw : Memory.wf s = true) : Memory.wf (State.bar0OpenCmd s w arg).st = true := by
  unfold State.bar0OpenCmd
  with_reducible repeat' first | intro _ | (apply wf_mk; first | assumption | apply wf_ite | apply wf_foldl | apply State.call_wf | apply State.openSess_wf | apply State.p_wf | apply wf_iteRes)

theorem State.runLow_wf {s : State} {w : Who} {k : Nat} {arg : Nat} (hw : Memory.wf s = true) : Memory.wf (State.runLow s w k arg).st = true := by
  unfold State.runLow
  with_reducible repeat' first | assumption | intro _ | apply State.modeRequestCmd_wf | apply State.bar0OpenCmd_wf | apply State.tsStepCmd_wf | apply State.sessCommitCmd_wf | apply State.sessDiscardCmd_wf | apply State.sessCloseCmd_wf | apply State.slotClearWtrCmd_wf | apply State.slotLabelCmd_wf | apply State.htSampleCmd_wf | apply State.srRejectClearCmd_wf | apply State.utBandMeasureCmd_wf | apply State.deny_wf | split | dsimp only

theorem State.runHigh_wf {s : State} {w : Who} {k : Nat} {arg : Nat} (hw : Memory.wf s = true) : Memory.wf (State.runHigh s w k arg).st = true := by
  unfold State.runHigh; extract_lets i sub; clear_value i sub
  with_reducible repeat' first | assumption | intro _ | apply State.coreCalCmd_wf | apply State.spSwapCmd_wf | apply State.spReturnCmd_wf | apply State.sqStartCmd_wf | apply State.cmpLogResumeCmd_wf | apply State.sqLockCmd_wf | apply State.sqJumpCmd_wf | apply State.sqStopCmd_wf | apply State.segFreeCmd_wf | apply State.pagePostCmd_wf | apply State.pageReadCmd_wf | apply State.selftestCmd_wf | apply State.arbCommitCmd_wf | apply State.calAllCmd_wf | apply State.calStoreCmd_wf | apply State.ancRunCmd_wf | apply State.fcClearCmd_wf | apply State.fcDegradeClearCmd_wf | apply State.asymCalCmd_wf | apply State.flEraseCmd_wf | apply State.flVerifyCmd_wf | apply State.deny_wf | apply wf_iteRes

theorem State.runCmd_wf {s : State} {w : Who} {k : Nat} {arg : Nat} (hw : Memory.wf s = true) : Memory.wf (State.runCmd s w k arg).st = true := by
  unfold State.runCmd
  with_reducible repeat' first | assumption | intro _ | apply State.runLow_wf | apply State.runHigh_wf | split

theorem State.selWrite_wf {s : State} {v : Nat} (hw : Memory.wf s = true) : Memory.wf (State.selWrite s v).st = true := by
  unfold State.selWrite
  with_reducible repeat' first | assumption | intro _ | apply wf_foldl | apply State.done_wf | apply State.p_wf

theorem State.writeNow_wf {s : State} {w : Who} {k : Nat} {v : Nat} (hw : Memory.wf s = true) : Memory.wf (State.writeNow s w k v).st = true := by
  unfold State.writeNow; extract_lets i sub; clear_value i sub
  with_reducible repeat' first | assumption | intro _ | apply State.cmpTailWrite_wf | apply State.urgWrite_wf | apply State.deny_wf | apply State.done_wf | apply State.shadowDirty_wf | apply State.p_wf | apply State.selWrite_wf | apply State.ringWrite_wf | apply wf_iteRes | exact wf_mk (h := State.p_wf hw)

theorem State.writeRowNow_wf {s : State} {k : Nat} {row : Nat} {v : Nat} (hw : Memory.wf s = true) : Memory.wf (State.writeRowNow s k row v).st = true := by
  unfold State.writeRowNow
  with_reducible repeat' first | assumption | intro _ | apply State.flData_wf | apply State.done_wf | apply State.p_wf | split

theorem State.writeFit_wf {s : State} {w : Who} {sess : Nat} {d : ObjDef} {k : Nat} {row : Option Nat} {v : Nat} (hw : Memory.wf s = true) : Memory.wf (State.writeFit s w sess d k row v).st = true := by
  unfold State.writeFit
  with_reducible repeat' first | assumption | intro _ | apply State.deny_wf | apply State.stage_wf | apply State.writeRowNow_wf | apply State.writeNow_wf | split | dsimp only

theorem State.writeRow_wf {s : State} {w : Who} {sess : Nat} {k : Nat} {row : Nat} {v : Nat} (hw : Memory.wf s = true) : Memory.wf (State.writeRow s w sess k row v).st = true := by
  unfold State.writeRow
  with_reducible repeat' first | assumption | intro _ | apply State.deny_wf | apply State.writeFit_wf | split

theorem State.tblPutCmd_wf {s : State} {w : Who} {arg : Nat} (hw : Memory.wf s = true) : Memory.wf (State.tblPutCmd s w arg).st = true := by
  unfold State.tblPutCmd
  with_reducible repeat' first | assumption | intro _ | apply State.call_wf | apply State.deny_wf | apply State.writeRow_wf | split

theorem State.execute_wf {s : State} {w : Who} {k : Nat} {arg : Nat} (hw : Memory.wf s = true) : Memory.wf (State.execute s w k arg).st = true := by
  unfold State.execute
  with_reducible repeat' first | assumption | intro _ | apply State.tblPutCmd_wf | apply State.runCmd_wf | split

theorem State.writeObj_wf {s : State} {w : Who} {sess : Nat} {k : Nat} {v : Nat} (hw : Memory.wf s = true) : Memory.wf (State.writeObj s w sess k v).st = true := by
  unfold State.writeObj
  with_reducible repeat' first | assumption | intro _ | apply State.deny_wf | apply State.execute_wf | apply State.writeFit_wf | split

theorem State.opRead_wf {s : State} {r : Found} (hw : Memory.wf s = true) : Memory.wf (State.opRead s r).st = true := by
  unfold State.opRead
  with_reducible repeat' first | assumption

theorem CmdRes.op_wf {r : CmdRes} {n : Nat} (h : Memory.wf r.st = true) : Memory.wf (r.op n).st = true := h

theorem State.opWrite_wf {s : State} {w : Who} {k : Nat} {idx : Nat} {sub : Nat} {v : Nat} (hw : Memory.wf s = true) : Memory.wf (State.opWrite s w k idx sub v).st = true := by
  unfold State.opWrite
  with_reducible repeat' first | assumption | apply CmdRes.op_wf | apply State.writeObj_wf

theorem State.opOpen_wf {s : State} {w : Who} {nonce : Nat} {lease : Nat} (hw : Memory.wf s = true) : Memory.wf (State.opOpen s w nonce lease).st = true := by
  unfold State.opOpen
  with_reducible repeat' first | assumption | apply CmdRes.op_wf | apply State.deny_wf | apply State.openSess_wf | split | dsimp only

theorem State.renewIn_wf {s : State} {w : Who} {k : Nat} (hw : Memory.wf s = true) : Memory.wf (State.renewIn s w k).st = true := by
  unfold State.renewIn
  with_reducible repeat' first | assumption | intro _ | apply State.deny_wf | apply State.done_wf | apply State.renewSess_wf | split | dsimp only

theorem State.runOp_wf {s : State} {w : Who} {k : Nat} {o : WopOp} (hw : Memory.wf s = true) : Memory.wf (State.runOp s w k o).st = true := by
  unfold State.runOp
  with_reducible repeat' first | assumption | apply State.opRead_wf | apply State.opWrite_wf | apply CmdRes.op_wf | apply State.writeRow_wf | apply State.opOpen_wf | apply State.closeIn_wf | apply State.commitIn_wf | apply State.discardIn_wf | apply State.renewIn_wf | split

theorem runOps_wf {w : Who} {k : Nat} {stop : Bool} : ∀ {l : List WopOp} {b : Bool} {s : State}, Memory.wf s = true → Memory.wf (runOps w k stop l b s).2 = true
  | [], _, _, hw => hw
  | o :: l, b, s, hw => by
    unfold runOps; dsimp only
    split
    · exact runOps_wf hw
    · exact runOps_wf (State.runOp_wf hw)

theorem State.message_wf {s : State} {w : Who} {m : WopMsg} (hw : Memory.wf s = true) : Memory.wf (State.message s w m).2 = true := by
  unfold State.message
  with_reducible repeat' first | intro _ | apply wf_ite | apply wf_foldl | apply runOps_wf | apply State.inc_wf | apply State.setTxn_wf | apply State.renewSess_wf | dsimp only | (apply wf_mk; first | assumption | apply wf_ite | apply wf_foldl | apply runOps_wf | apply State.inc_wf | apply State.setTxn_wf | apply State.renewSess_wf | split)

theorem State.message_wf_eq {s : State} {w : Who} {m : WopMsg} {aa : Option WopResp} {tt : State} (ee : (State.message s w m) = (aa, tt)) (hw : Memory.wf s = true) : Memory.wf tt = true := by
  have h1 : Memory.wf (State.message s w m).2 = true := State.message_wf hw; rw [ee] at h1; exact h1

theorem State.request_wf {s : State} {w : Who} {l : List Byte} (hw : Memory.wf s = true) : Memory.wf (s.request w l).2 = true := by
  unfold State.request
  refine wf_iteSnd (fun _ => hw) (fun _ => ?_)
  dsimp only
  split
  · exact State.message_wf hw
  · exact hw

theorem State.takeMessage_wf {s : State} {w : Who} {l : List Byte} (hw : Memory.wf s = true) : Memory.wf (s.takeMessage w l) = true := by
  unfold State.takeMessage
  dsimp only
  split
  · exact State.emit_wf (State.request_wf hw)
  · exact State.request_wf hw

theorem State.single_wf {s : State} {w : Who} {k : Nat} {o : WopOp} (hw : Memory.wf s = true) : Memory.wf (State.single s w k o) = true := by
  unfold State.single
  with_reducible repeat' first | assumption | apply State.runOp_wf | apply CmdRes.op_wf | apply State.deny_wf | apply State.renewSess_wf | apply State.emit_wf | split | dsimp only

theorem State.shakeFails_wf {s : State} {transport : Nat} {peer : Nat} (hw : Memory.wf s = true) : Memory.wf (State.shakeFails s transport peer) = true := by
  unfold State.shakeFails
  with_reducible repeat' first | apply State.emit_wf | apply State.raiseVal_wf | apply State.inc_wf | (apply wf_mk; assumption)

theorem State.shakeHello_wf {s : State} {transport : Nat} {peer : Nat} {body : List Byte} (hw : Memory.wf s = true) : Memory.wf (State.shakeHello s transport peer body) = true := by
  unfold State.shakeHello
  with_reducible repeat' first | apply State.shakeFails_wf | apply State.emit_wf | split | (apply wf_mk; assumption)

theorem State.shakeFinish_wf {s : State} {transport : Nat} {peer : Nat} {body : List Byte} (hw : Memory.wf s = true) : Memory.wf (State.shakeFinish s transport peer body) = true := by
  unfold State.shakeFinish
  with_reducible repeat' first | assumption | apply State.shakeFails_wf | apply State.emit_wf | split | dsimp only | (apply wf_mk; assumption)

theorem State.idleChans_wf {s : State} (hw : Memory.wf s = true) : Memory.wf (State.idleChans s) = true := by
  unfold State.idleChans
  with_reducible repeat' first | (apply wf_mk; assumption)

theorem State.keepChan_wf {s : State} {ch : Nat} {c : Chan} (hw : Memory.wf s = true) : Memory.wf (State.keepChan s ch c) = true := by
  unfold State.keepChan
  with_reducible repeat' first | split | (apply wf_mk; assumption)

theorem State.sealedMessage_wf {s : State} {transport ch counter : Nat} {isSealed : Bool} {bytes : List Byte} {who : Nat → Who} {m : WopMsg} {reply : State → Who → WopResp → State}
    (hr : ∀ s w a, Memory.wf s = true → Memory.wf (reply s w a) = true) (hw : Memory.wf s = true) : Memory.wf (s.sealedMessage transport ch counter isSealed bytes who m reply) = true := by
  unfold State.sealedMessage
  split
  · exact State.inc_wf hw
  · refine wf_ite (fun _ => State.inc_wf hw) (fun _ => ?_)
    dsimp only
    split
    · exact State.message_wf (State.keepChan_wf hw)
    · refine hr _ _ _ ?_
      split
      · exact State.keepChan_wf (State.message_wf (State.keepChan_wf hw))
      · exact State.message_wf (State.keepChan_wf hw)

theorem State.bar0Renew_wf {s : State} (hw : Memory.wf s = true) : Memory.wf (State.bar0Renew s) = true := by
  unfold State.bar0Renew
  with_reducible repeat' first | assumption | intro _ | apply wf_ite | apply State.renewSess_wf

theorem State.bar0Put_wf {s : State} {k : Nat} {v : Nat} (hw : Memory.wf s = true) : Memory.wf (State.bar0Put s k v).st = true := by
  unfold State.bar0Put
  with_reducible repeat' first | intro _ | apply State.writeObj_wf | apply State.deny_wf | apply State.done_wf | apply wf_iteRes | split | dsimp only | (apply wf_mk; assumption)

theorem State.bar0Write_wf {s : State} {k : Nat} {v : Nat} (hw : Memory.wf s = true) : Memory.wf (State.bar0Write s k v) = true := by
  unfold State.bar0Write
  with_reducible repeat' first | assumption | apply State.bar0Put_wf | apply State.bar0Renew_wf | apply State.p_wf | apply State.emit_wf

theorem State.bar0Narrow_wf {s : State} {k : Nat} (hw : Memory.wf s = true) : Memory.wf (State.bar0Narrow s k) = true := by
  unfold State.bar0Narrow
  with_reducible repeat' first | assumption | apply State.p_wf | apply State.emit_wf | dsimp only | (apply wf_mk; apply State.bar0Renew_wf)

theorem State.bar0Read_wf {s : State} {k : Nat} (hw : Memory.wf s = true) : Memory.wf (State.bar0Read s k) = true := by
  unfold State.bar0Read
  with_reducible repeat' first | assumption | intro _ | apply wf_ite | apply State.emit_wf | split | (apply wf_mk; assumption)

end Sys2Proof.Machine
end

