-- ==== Sys2Proof/Laws/MemoryFrame.lean ====
section
/-! SUPPORT. Mode transitions, LOAD and the frame boundary keep the memories in canonical form. -/

set_option Elab.async false

namespace Sys2Proof.Machine

theorem State.modeAsks_wf {s : State} (hw : Memory.wf s = true) : Memory.wf (State.modeAsks s) = true := by
  unfold State.modeAsks
  with_reducible repeat' first | assumption | intro _ | apply wf_ite | apply State.askMode_wf | apply State.askSteer_wf | (apply wf_mk; assumption)

theorem State.takeMode_wf {s : State} {target : Nat} {cause : Nat} (hw : Memory.wf s = true) : Memory.wf (State.takeMode s target cause) = true := by
  unfold State.takeMode
  with_reducible repeat' first | apply State.inc_wf | apply State.pAll_wf | (apply wf_mk; assumption)

theorem State.safeEntry_wf {s : State} {old : Nat} (hw : Memory.wf s = true) : Memory.wf (State.safeEntry s old) = true := by
  unfold State.safeEntry
  with_reducible repeat' first | assumption | intro _ | apply wf_ite | apply State.raiseVal_wf | apply State.refuseAll_wf | apply State.haltSeqs_wf | apply State.each_wf | apply State.setCh_wf | apply State.gatePad_wf | apply State.p_wf | apply State.dropEdges_wf | (apply wf_mk; assumption)

theorem State.safeExit_wf {s : State} (hw : Memory.wf s = true) : Memory.wf (State.safeExit s) = true := by
  unfold State.safeExit
  with_reducible repeat' first | assumption | apply State.placeHere_wf | apply State.rulesAfresh_wf

theorem State.compatEntry_wf {s : State} (hw : Memory.wf s = true) : Memory.wf (State.compatEntry s) = true := by
  unfold State.compatEntry
  with_reducible repeat' first | assumption | apply State.p_wf | apply State.haltSeqs_wf | apply State.pAll_wf | apply State.applied_wf

theorem State.modeEffects_wf {s : State} {old : Nat} (hw : Memory.wf s = true) : Memory.wf (State.modeEffects s old) = true := by
  unfold State.modeEffects
  with_reducible repeat' first | assumption | intro _ | apply wf_ite | apply State.safeExit_wf | apply State.p_wf | apply State.safeEntry_wf | apply State.compatEntry_wf | apply State.switchBack_wf | split | (apply wf_mk; first | assumption | apply State.safeExit_wf | apply State.p_wf)

theorem State.transition_wf {s : State} (hw : Memory.wf s = true) : Memory.wf (State.transition s) = true := by
  unfold State.transition
  with_reducible repeat' first | assumption | intro _ | apply wf_ite | apply State.withdrawMode_wf | apply State.modeEffects_wf | apply State.takeMode_wf | split

theorem State.toLoad_wf {s : State} {losc : Nat} (hw : Memory.wf s = true) : Memory.wf (State.toLoad s losc) = true := by
  unfold State.toLoad
  with_reducible repeat' first | intro _ | apply wf_ite | apply State.p_wf | apply State.takeMode_wf | apply State.lifeFrame_wf | apply State.showSlot_wf | apply State.loscMeasured_wf | apply State.loscGone_wf | (apply wf_mk; assumption)

theorem State.selectSet_wf {s : State} (hw : Memory.wf s = true) : Memory.wf (State.selectSet s) = true := by
  unfold State.selectSet
  with_reducible repeat' first | assumption | apply State.p_wf | apply State.pAll_wf | split | dsimp only | (apply wf_mk; first | apply State.p_wf | apply State.raiseDet_wf)

theorem State.loadCore_wf {s : State} {set : NvmSet} {c : Nat} (hw : Memory.wf s = true) : Memory.wf (State.loadCore s set c) = true := by
  unfold State.loadCore
  with_reducible repeat' first | intro _ | apply wf_ite | apply State.p_wf | apply State.pAll_wf | apply State.setEntries_wf | dsimp only | (apply wf_mk; assumption)

theorem State.imageRuns_wf {s : State} {slot : Nat} (hw : Memory.wf s = true) : Memory.wf (State.imageRuns s slot) = true := by
  unfold State.imageRuns
  with_reducible repeat' first | apply State.selectSet_wf | apply State.pAll_wf | apply State.showSlot_wf | dsimp only | (apply wf_mk; assumption)

theorem State.imageRejected_wf {s : State} {slot : Nat} (hw : Memory.wf s = true) : Memory.wf (State.imageRejected s slot) = true := by
  unfold State.imageRejected
  with_reducible repeat' first | intro _ | apply wf_ite | apply State.raiseVal_wf | apply State.showSlot_wf | apply State.askMode_wf | dsimp only | (apply wf_mk; assumption)

theorem State.loadFrame_wf {s : State} (hw : Memory.wf s = true) : Memory.wf (State.loadFrame s) = true := by
  unfold State.loadFrame
  with_reducible repeat' first | assumption | intro _ | apply wf_ite | split | dsimp only | (apply wf_mk; first | assumption | apply State.p_wf)

theorem State.loadEnds_wf {s : State} (hw : Memory.wf s = true) : Memory.wf (State.loadEnds s) = true := by
  unfold State.loadEnds
  with_reducible repeat' first | assumption | intro _ | apply wf_ite | apply State.each_wf | apply State.wantCal_wf | apply State.loadOnByp_wf | dsimp only | (apply wf_mk; assumption)

theorem State.deviates_wf {s : State} {c : Nat} (hw : Memory.wf s = true) : Memory.wf (State.deviates s c) = true := by
  unfold State.deviates
  with_reducible repeat' first | assumption | apply State.raiseCal_wf | apply State.wantCal_wf

theorem State.swept1_wf {s : State} {d : Nat × Nat × Bool} (hw : Memory.wf s = true) : Memory.wf (State.swept1 s d) = true := by
  unfold State.swept1
  with_reducible repeat' first | assumption | intro _ | apply wf_ite | apply State.deviates_wf | apply State.blockFails_wf | apply State.fresh_wf | apply State.p_wf

theorem State.wopDesc_wf {s : State} {q tag place length rspPlace capacity : Nat} {req : List Byte} (hw : Memory.wf s = true) : Memory.wf (s.wopDesc q tag place length rspPlace capacity req) = true := by
  unfold State.wopDesc
  refine wf_ite (fun _ => State.descDone_wf hw) (fun _ => wf_ite (fun _ => State.descDone_wf hw) (fun _ => ?_))
  dsimp only
  split
  · exact State.descDone_wf (State.request_wf hw)
  · exact wf_ite (fun _ => State.descDone_wf (State.request_wf hw)) (fun _ => wf_ite (fun _ => State.descDone_wf (State.request_wf hw)) (fun _ => State.descDone_wf (State.emit_wf (State.request_wf hw))))

theorem State.datagram_wf {s : State} {ch : Nat} {counter : Nat} {isSealed : Bool} {handshake : Bool} {bytes : List Byte} {epoch : Nat} {m : WopMsg} (hw : Memory.wf s = true) : Memory.wf (State.datagram s ch counter isSealed handshake bytes epoch m) = true := by
  unfold State.datagram
  with_reducible repeat' first | assumption | intro _ | apply wf_ite | apply State.inc_wf | apply State.sealedMessage_wf | apply State.emit_wf | dsimp only | (apply wf_mk; assumption)

theorem State.forward_wf {s : State} {k : Nat} {f : MgmtFrame} (hw : Memory.wf s = true) : Memory.wf (State.forward s k f) = true := by
  unfold State.forward
  with_reducible repeat' first | assumption | intro _ | apply wf_ite | apply State.discardFrame_wf | apply State.handOver_wf

theorem State.answerMgmt_wf {s : State} {k : Nat} {f : MgmtFrame} {r : WopResp} (hw : Memory.wf s = true) : Memory.wf (State.answerMgmt s k f r) = true := by
  unfold State.answerMgmt
  with_reducible repeat' first | assumption | intro _ | apply wf_ite | apply State.discardFrame_wf | apply State.handOver_wf

theorem State.endXid_wf {s : State} {x : Nat} (hw : Memory.wf s = true) : Memory.wf (State.endXid s x) = true := by
  unfold State.endXid
  with_reducible repeat' first | (apply wf_mk; assumption)

theorem State.mgmtHere_wf {s : State} {k : Nat} {f : MgmtFrame} (hw : Memory.wf s = true) : Memory.wf (State.mgmtHere s k f) = true := by
  unfold State.mgmtHere
  with_reducible repeat' first | assumption | intro _ | apply wf_ite | apply State.endXid_wf | apply State.inc_wf | apply State.sealedMessage_wf | apply State.answerMgmt_wf

theorem State.mgmtReceive_wf {s : State} {k : Nat} {f : MgmtFrame} (hw : Memory.wf s = true) : Memory.wf (State.mgmtReceive s k f) = true := by
  unfold State.mgmtReceive
  with_reducible repeat' first | assumption | intro _ | apply wf_ite | apply State.discardFrame_wf | apply State.mgmtHere_wf | apply State.forward_wf

theorem State.restartBound_wf {s : State} {c : Nat} (hw : Memory.wf s = true) : Memory.wf (State.restartBound s c) = true := by
  unfold State.restartBound
  with_reducible repeat' first | assumption | apply State.judge_wf | apply State.p_wf

theorem State.utRestart_wf {s : State} {u : Nat} (hw : Memory.wf s = true) : Memory.wf (State.utRestart s u) = true := by
  unfold State.utRestart
  with_reducible repeat' first | assumption | intro _ | apply wf_ite | apply State.p_wf | apply State.setUt_wf | apply State.each_wf | apply State.restartBound_wf | apply State.fromSubst_wf | apply State.openPad_wf | apply State.raiseBits_wf

theorem State.frameEnds_wf {s : State} (hw : Memory.wf s = true) : Memory.wf (State.frameEnds s) = true := by
  unfold State.frameEnds
  with_reducible repeat' first | assumption | intro _ | apply State.learnAdd_wf | apply State.closeDue_wf | apply State.starved_wf | apply State.each_wf | apply State.fetchDue_wf

theorem State.nextFrame_wf {s : State} (hw : Memory.wf s = true) : Memory.wf (State.nextFrame s) = true := by
  unfold State.nextFrame
  with_reducible repeat' first | (apply wf_mk; first | assumption | apply wf_ite | apply wf_foldl | apply State.p_wf)

theorem State.step1_wf {s : State} (hw : Memory.wf s = true) : Memory.wf (State.step1 s) = true := by
  unfold State.step1
  with_reducible repeat' first | assumption | intro _ | apply wf_ite | apply State.applySteer_wf | (apply wf_mk; assumption)

theorem State.selections_wf {s : State} (hw : Memory.wf s = true) : Memory.wf (State.selections s) = true := by
  unfold State.selections
  with_reducible repeat' first | assumption | intro _ | apply wf_foldl | apply State.selectionEffect_wf | (apply wf_mk; assumption)

theorem State.step2_wf {s : State} (hw : Memory.wf s = true) : Memory.wf (State.step2 s) = true := by
  unfold State.step2
  with_reducible repeat' first | assumption | apply State.reactsDue_wf | apply State.selections_wf | apply State.transition_wf

theorem State.step5_wf {s : State} (hw : Memory.wf s = true) : Memory.wf (State.step5 s) = true := by
  unfold State.step5
  with_reducible repeat' first | assumption | intro _ | apply State.each_wf | apply State.swapEffect_wf | apply State.parkedFree_wf

theorem State.lockFrames_wf {s : State} (hw : Memory.wf s = true) : Memory.wf (State.lockFrames s) = true := by
  unfold State.lockFrames
  with_reducible repeat' first | (apply wf_mk; assumption)

theorem State.step6_wf {s : State} {m : Latch} {ended : Sp Ev} (hw : Memory.wf s = true) : Memory.wf (State.step6 s m ended) = true := by
  unfold State.step6
  with_reducible repeat' first | (apply wf_mk; first | assumption | apply wf_ite | apply wf_foldl | apply State.collect_wf | apply State.refreshRows_wf | apply State.arbLatch_wf)

theorem State.bankReasons_wf {s : State} (hw : Memory.wf s = true) : Memory.wf (State.bankReasons s) = true := by
  unfold State.bankReasons
  with_reducible repeat' first | assumption | intro _ | apply wf_ite | apply State.each_wf | apply State.setReplace_wf | apply State.clearReplace_wf

theorem State.spareFrame_wf {s : State} (hw : Memory.wf s = true) : Memory.wf (State.spareFrame s) = true := by
  unfold State.spareFrame
  with_reducible repeat' first | assumption | intro _ | apply State.each_wf | apply State.searchFrame_wf | apply State.faultReturn_wf | apply State.waitFrame_wf | apply State.presetVerniers_wf | apply State.bankReasons_wf

theorem State.headFrame_wf {s : State} (hw : Memory.wf s = true) : Memory.wf (State.headFrame s) = true := by
  unfold State.headFrame
  with_reducible repeat' first | assumption | intro _ | apply State.each_wf | apply State.learnSecond_wf | apply State.qualifySlot_wf | apply State.selectFrame_wf | apply State.boundsFrame_wf | apply State.modeAsks_wf | apply State.askCoast_wf | apply State.trackRequests_wf | apply State.predFrame_wf | apply State.holdAgeFrame_wf | apply State.srFrame_wf | split | (apply wf_mk; apply State.servo_wf)

theorem State.hostFrame_wf {s : State} (hw : Memory.wf s = true) : Memory.wf (State.hostFrame s) = true := by
  unfold State.hostFrame
  with_reducible repeat' first | assumption | intro _ | apply wf_ite | apply State.idleChans_wf | apply State.each_wf | apply State.sendFrame_wf | apply State.qpSettle_wf | apply State.fabricEvents_wf | apply State.wopEvents_wf | apply State.msixSend_wf | dsimp only | (apply wf_mk; apply State.idleChans_wf)

theorem State.units_wf {s : State} (hw : Memory.wf s = true) : Memory.wf (State.units s) = true := by
  unfold State.units
  with_reducible repeat' first | assumption | intro _ | apply State.setsInUse_wf | apply State.supplyFrame_wf | apply State.moveEffect_wf | apply State.ringDeferred_wf | apply State.residencyFrame_wf | apply State.readyFrame_wf | apply State.each_wf | apply State.scrubFrame_wf | apply State.retireWorn_wf | apply State.startReads_wf | apply State.deviceBound_wf | apply State.stackFrame_wf | apply State.headFrame_wf | apply State.boundCheck_wf | apply State.discardOld_wf | apply State.spareFrame_wf | apply State.detectFrame_wf | apply State.leaveSubst_wf | apply State.utMargin_wf | apply State.utSteerStep_wf | apply State.calFrame_wf | apply State.waveFrame_wf

theorem State.boundaryOf_wf {s : State} {m : Latch} (hw : Memory.wf s = true) : Memory.wf (State.boundaryOf s m) = true := by
  unfold State.boundaryOf
  with_reducible repeat' first | assumption | intro _ | apply wf_ite | apply State.frameEnds_wf | apply State.commitFrame_wf | apply State.step2_wf | apply State.step1_wf | apply State.stepWaves_wf | apply State.nextFrame_wf | apply State.stepFrame_wf | apply State.sessionFrame_wf | apply State.step6_wf | apply State.resetsDue_wf | apply State.step5_wf | apply State.lockFrames_wf | apply State.units_wf | apply State.supplyFrame_wf | apply State.modeAsks_wf | apply State.loadFrame_wf | apply State.hostFrame_wf

theorem runAny_wf {f : State → State} {s t : State} (hf : ∀ s, Memory.wf s = true → Memory.wf (f s) = true) (hw : Memory.wf s = true)
    (h : runAny f s = .next t) : Memory.wf t = true := by
  unfold runAny at h
  injection h with h; subst h
  apply wf_mk; exact hf _ (by apply wf_mk; exact hw)

theorem run_wf {f : State → State} {s t : State} (hf : ∀ s, Memory.wf s = true → Memory.wf (f s) = true) (hw : Memory.wf s = true)
    (h : run f s = .next t) : Memory.wf t = true := by
  refine runAny_wf (fun u hu => ?_) hw h
  exact wf_ite (fun _ => hu) (fun _ => hf u hu)

theorem Sp.wf_filter {α : Type} [DecidableEq α] {d : Nat → α} {m : Sp α} (p : Nat × α → Bool) (h : Sp.wf d m = true) :
    Sp.wf d (m.filter p) = true := by
  induction m with
  | nil => rfl
  | cons a m ih =>
    obtain ⟨hv, hq, ht⟩ := Sp.wf_cons.1 h
    rw [List.filter_cons]
    split
    · exact Sp.wf_cons.2 ⟨hv, fun q h' => hq q (List.mem_filter.1 h').1, ih ht⟩
    · exact ih ht

theorem State.toReset_wf {s : State} {causes : Nat} (hw : Memory.wf s = true) : Memory.wf (s.toReset causes) = true := by
  unfold Memory.wf at hw ⊢
  simp only [Bool.and_eq_true] at hw ⊢
  exact ⟨⟨Sp.wf_filter _ hw.1.1, rfl⟩, rfl⟩

end Sys2Proof.Machine
end

