-- ==== Sys2Proof/Tests/Slice0.lean ====
section
/-! SUPPORT. Tests. Which commands WellFormed refuses; single steps whose outcome the manual states; and for each statement, that the
hypotheses of each of its clauses hold together somewhere. -/

set_option Elab.async false

open Sys2Proof Sys2Proof.Machine

namespace Sys2Proof.Tests

/-- A running device on BYP, with some objects off their defaults. -/
def st (l : List (Nat × Nat)) : State :=
  { State.reset with od := l.foldl (fun m p => Sp.set dflt m p.1 p.2) [], m0Causes := 0, clock := .byp, tick := 100000 }

/-- The same in M3. -/
def lv (l : List (Nat × Nat)) : State := st ((K.MODE, 3) :: (K.TS_FN, 100000) :: l)

/-- Queue pair 0. -/
def w0 : Who := { transport := 1, originGen := 0, originAddr := 0, principal := 0, bootEpoch := 5 }

/-- What an object reads after a command. -/
def reads (c : Instr) (s : State) (k : Nat) : Option Nat := match exec c s with | .next t => some (t.g k) | _ => none

/-- What a command drives out. -/
def answers (c : Instr) (s : State) : Option (List Out) := match exec c s with | .next t => some t.out | _ => none

/-! ## WellFormed -/

def anyone : Who := { transport := 0, originGen := 0, originAddr := 0, principal := 0, bootEpoch := 0 }

def latched : Latch :=
  { (default : Latch) with temps := List.replicate 8 0, vddo := List.replicate 8 0, power := List.replicate 12 0 }

theorem test_wf_accepts_1 :
    ([.frameBoundary latched, .blockReset .link 0 0, .blockResetSettleEnd .link 0, .severeEnd 0, .forceHoldoverEnd 0,
     .collectorEccError 0 .singleBit, .fcClear anyone 0, .fcDegradeClear anyone, .sessionCommitCheck 0, .sessionCommitApply 0,
     .modeRequest anyone 0, .placementPass 0, .edgeEmit 0, .inputEdge 0 0 false, .triggerEdgeIssue 0, .indexPlateFault 0 1,
     .spindleLossOfLock 0, .utLock 0, .utLockTimeout 0, .utSettleEnd 0, .utRestart 0, .utLossOfLock 0, .clockGateClose 0,
     .clockGateOpen 0, .utBandMeasure anyone 0 0 0 0, .slotQualExpiry 0, .slotWtrExpiry 0, .slotNoSignal 0, .slotSampleTimeout 0,
     .disagreementEnd 0 0, .slotLabel anyone 0 0, .slotClearWtr anyone 0, .htSample anyone 0 0, .srRejectClear anyone 0,
     .tsStep anyone 0, .prefetchDeadline 0, .iterationBoundary 0, .vectorStart 0, .seqStartReached 0, .compareOutcome 0,
     .sqLockAcquire anyone 0, .sqLockRelease anyone 0, .sqLockLeaseExpiry 0, .sqJump anyone 0 0, .sqStop anyone 0 0, .sqStart anyone 0,
     .segFree anyone 0, .segFreeEffect 0, .retireIntervalExpiry 0, .cmpLogResume anyone 0, .cmpLogTailWrite anyone 0 0,
     .bankArbitration 0 [], .playbackParkOnRetire 0, .pageAllocateDeferred 0 0, .arbCommit anyone, .arbUrgWrite anyone 0 0,
     .arbStateError 0, .pagePost anyone 0, .pageWriteComplete 0, .pageReadByEntry anyone 0] : List Instr).all Instr.wf = true := by decide +kernel

theorem test_wf_accepts_2 :
    ([.pageReadByPpn anyone 0, .pageReadComplete 8 [], .memSelftest anyone 0, .selftestPageDone 0 false, .pageMoveStart 0 0 .pin,
     .scrubPageDone 0, .refillStart 0, .dmaCompletion 0 .good [] false, .refillRetryExpiry 0, .segProducedWrite anyone 0 0,
     .padFaultDeclare 0 0, .padProbe 0 false, .padDriverResume 0, .padAutoInvert 0, .padSettleTimeout 0, .padDriverTurnOn 0,
     .vddoClassChange 0, .inputDiagDeclare 0 1 false, .inputReversed 0, .inputAutoInvert 0, .supplyOutOfRange 0, .spareSwapEffect 0,
     .spSwap anyone 0 0, .spReturn anyone 0, .spareSearchFail 0, .returnForced 0, .coreCalStart 0, .calSettleEnd 0,
     .calMeasureComplete 0 (List.replicate 512 0) default, .calStepsDone 0, .calVerifyComplete 0 0 0 default, .calRestoreComplete 0,
     .calRetryExpiry 0, .calPeriodExpiry 0, .calOverdue 0, .coreCalRequest anyone 0, .calAll anyone,
     .calliperSelfCal (List.replicate 9 0), .auditBlockClose 0 default, .ancRun anyone 0, .anchorRunComplete 0 default 0,
     .anchorApply 0, .calStore anyone, .tableLoadComplete 0, .verifySweep [], .markingMessageReceive default 0, .markEchoReceive 0 0 0,
     .tnBlockLock 0, .tnBlockLockLoss 0, .tnHelloSend 0, .tnHelloReceive 0 default, .tnHelloMiss 0, .tnTimeSend 0 0,
     .tnTimeReceive 0 ⟨true, List.replicate 48 0, 0, 0⟩, .tnAsymCal anyone 0 0 0 0, .tnRouteReceive 0 default,
     .tnLeaseReceive 0 default, .fabLeaseExpiry 0, .tnMgmtReceive 0 default, .objectWrite 0 1 0] : List Instr).all Instr.wf = true := by decide +kernel

theorem test_wf_accepts_3 :
    ([.bar0Time92ReadLow 0 0, .bar0Time92WriteHigh 0 0 0, .bar0Time92WriteLow 0 0 0, .sessCommit anyone 0 0, .sessDiscard anyone 0,
     .sessClose anyone 0, .sessionLeaseExpiry 0, .sessionRetireExpiry 0, .wopMessage anyone [], .wopRead anyone 0 0 0 false,
     .wopWrite anyone 0 0 0 0, .wopReadRow anyone 0 0 0 0, .wopWriteRow anyone 0 0 0 0 0, .wopReadBytes anyone 0 0 0 0 0,
     .wopOpen anyone 0 0, .wopClose anyone 0, .wopCommit anyone 0 0, .wopDiscard anyone 0, .wopRenew anyone 0,
     .wopHandshakeHello 0 0 [], .wopHandshakeFinish 0 0 [], .wopChannelIdleExpiry 0, .ethDatagramReceive 0 0 false false [] 0 default,
     .smbSelect 0 0 false, .qpSqTailWrite anyone 0 0, .descWop 0 ⟨List.replicate 8 0, []⟩, .descLoad 0 (List.replicate 8 0),
     .completionPost 0, .qpCqHeadWrite anyone 0 0, .qpError 0, .flErase anyone, .flDataWrite anyone 0 0, .flVerify anyone,
     .jtagInstructionLoad 0, .supplyBelowThreshold 0, .padFaultClear 0 0, .firmwareCheckComplete 0 false, .msixUnmask 0,
     .postSlotWrite 0 [], .pcieConfigWrite 0 0] : List Instr).all Instr.wf = true := by decide +kernel

theorem test_wf_refuses_1 :
    ([.frameBoundary { latched with temps := [] }, .frameBoundary { latched with vddo := [] },
     .frameBoundary { latched with power := [] }, .blockReset .link 72 0, .blockReset .link 0 128, .blockResetSettleEnd .link 72,
     .severeEnd 128, .forceHoldoverEnd 128, .collectorEccError 128 .singleBit, .fcClear { anyone with transport := 16 } 0,
     .fcClear anyone (2 ^ 128), .fcDegradeClear { anyone with transport := 16 }, .fcDegradeClear { anyone with originGen := 256 },
     .fcDegradeClear { anyone with originAddr := 4096 }, .fcDegradeClear { anyone with principal := 256 },
     .fcDegradeClear { anyone with bootEpoch := 2 ^ 32 }, .sessionCommitCheck 8, .sessionCommitApply 8,
     .modeRequest { anyone with transport := 16 } 0, .placementPass (2 ^ 12), .edgeEmit 72, .inputEdge 16 0 false, .triggerEdgeIssue 64,
     .indexPlateFault 0 0, .indexPlateFault 0 32, .indexPlateFault 72 1, .spindleLossOfLock qFrame, .utLock 4, .utLockTimeout 4,
     .utSettleEnd 4, .utRestart 4, .utLossOfLock 4, .clockGateClose 64, .clockGateOpen 64,
     .utBandMeasure { anyone with transport := 16 } 0 0 0 0, .utBandMeasure anyone 4 0 0 0, .utBandMeasure anyone 0 (2 ^ 64) 0 0,
     .utBandMeasure anyone 0 0 (2 ^ 32) 0, .utBandMeasure anyone 0 0 0 (2 ^ 32), .slotQualExpiry 28, .slotWtrExpiry 28,
     .slotNoSignal 28, .slotSampleTimeout 28, .disagreementEnd 28 0, .disagreementEnd 0 28,
     .slotLabel { anyone with transport := 16 } 0 0, .slotLabel anyone 28 0, .slotLabel anyone 0 (2 ^ 128),
     .slotClearWtr { anyone with transport := 16 } 0, .slotClearWtr anyone 28, .htSample { anyone with transport := 16 } 0 0,
     .htSample anyone 28 0, .htSample anyone 0 (2 ^ 128), .srRejectClear { anyone with transport := 16 } 0,
     .tsStep { anyone with transport := 16 } 0, .prefetchDeadline 8, .iterationBoundary 8, .vectorStart 8, .seqStartReached 8,
     .compareOutcome 8] : List Instr).any Instr.wf = false := by decide +kernel

theorem test_wf_refuses_2 :
    ([.sqLockAcquire { anyone with transport := 16 } 0, .sqLockAcquire anyone 8, .sqLockRelease { anyone with transport := 16 } 0,
     .sqLockRelease anyone 8, .sqLockLeaseExpiry 8, .sqJump { anyone with transport := 16 } 0 0, .sqJump anyone 8 0,
     .sqStop { anyone with transport := 16 } 0 0, .sqStop anyone 8 0, .sqStart { anyone with transport := 16 } 0,
     .segFree { anyone with transport := 16 } 0, .segFreeEffect 16384, .retireIntervalExpiry 16384,
     .cmpLogResume { anyone with transport := 16 } 0, .cmpLogResume anyone 8, .cmpLogTailWrite { anyone with transport := 16 } 0 0,
     .cmpLogTailWrite anyone 8 0, .bankArbitration 0 [{ requester := 12, due := false, withdrawn := false, ecc := .clean }],
     .bankArbitration 16 [], .playbackParkOnRetire 8, .pageAllocateDeferred 16384 0, .pageAllocateDeferred 0 16384,
     .arbCommit { anyone with transport := 16 }, .arbUrgWrite { anyone with transport := 16 } 0 0, .arbUrgWrite anyone 12 0,
     .arbStateError 16, .pagePost { anyone with transport := 16 } 0, .pageWriteComplete 1024,
     .pageReadByEntry { anyone with transport := 16 } 0, .pageReadByPpn { anyone with transport := 16 } 0, .pageReadComplete 7 [],
     .pageReadComplete 8 [1024], .memSelftest { anyone with transport := 16 } 0, .selftestPageDone 1024 false,
     .pageMoveStart 1024 0 .pin, .pageMoveStart 0 1024 .pin, .scrubPageDone 1024, .refillStart 8,
     .dmaCompletion 0 .good (List.replicate 513 0) false, .refillRetryExpiry 1024,
     .segProducedWrite { anyone with transport := 16 } 0 0, .segProducedWrite anyone 16384 0, .segProducedWrite anyone 0 (2 ^ 64),
     .padFaultDeclare 64 0, .padFaultDeclare 0 5, .padProbe 64 false, .padDriverResume 64, .padAutoInvert 64, .padSettleTimeout 64,
     .padDriverTurnOn 64, .vddoClassChange 8, .inputDiagDeclare 0 3 false, .inputDiagDeclare 16 1 false, .inputReversed 16,
     .inputAutoInvert 16, .supplyOutOfRange 4, .spareSwapEffect 8, .spSwap { anyone with transport := 16 } 0 0, .spSwap anyone 8 0,
     .spReturn { anyone with transport := 16 } 0] : List Instr).any Instr.wf = false := by decide +kernel

theorem test_wf_refuses_3 :
    ([.spReturn anyone 8, .spareSearchFail 8, .returnForced 8, .coreCalStart 8, .calSettleEnd 8, .calMeasureComplete 0 [] default,
     .calMeasureComplete 8 (List.replicate 512 0) default, .calStepsDone 8, .calVerifyComplete 8 0 0 default, .calRestoreComplete 8,
     .calRetryExpiry 72, .calPeriodExpiry 72, .calOverdue 72, .coreCalRequest { anyone with transport := 16 } 0,
     .coreCalRequest anyone 72, .calAll { anyone with transport := 16 }, .calliperSelfCal [], .auditBlockClose 64 default,
     .ancRun { anyone with transport := 16 } 0, .anchorRunComplete 8 default 0, .anchorApply 8,
     .calStore { anyone with transport := 16 }, .tableLoadComplete 72, .verifySweep [(72, 0, false)],
     .markingMessageReceive ⟨2 ^ 256, true⟩ 0, .markEchoReceive 16 0 0, .tnBlockLock 8, .tnBlockLockLoss 8, .tnHelloSend 8,
     .tnHelloReceive 8 default, .tnHelloMiss 8, .tnTimeSend 8 0, .tnTimeReceive 0 ⟨true, [], 0, 0⟩,
     .tnTimeReceive 8 ⟨true, List.replicate 48 0, 0, 0⟩, .tnAsymCal { anyone with transport := 16 } 0 0 0 0, .tnAsymCal anyone 8 0 0 0,
     .tnRouteReceive 8 default, .tnLeaseReceive 8 default, .fabLeaseExpiry 4096, .tnMgmtReceive 8 default, .objectWrite 0 0 0,
     .objectWrite 0 9 0, .objectWrite (2 ^ 27) 1 0, .objectWrite 0 1 (2 ^ 64), .bar0Time92ReadLow 65536 0, .bar0Time92ReadLow 0 256,
     .bar0Time92WriteHigh 65536 0 0, .bar0Time92WriteHigh 0 256 0, .bar0Time92WriteHigh 0 0 (2 ^ 64), .bar0Time92WriteLow 65536 0 0,
     .bar0Time92WriteLow 0 256 0, .bar0Time92WriteLow 0 0 (2 ^ 64), .sessCommit { anyone with transport := 16 } 0 0,
     .sessCommit anyone 8 0, .sessDiscard { anyone with transport := 16 } 0, .sessDiscard anyone 8,
     .sessClose { anyone with transport := 16 } 0, .sessClose anyone 8, .sessionLeaseExpiry 8, .sessionRetireExpiry 8] : List Instr).any Instr.wf = false := by decide +kernel

theorem test_wf_refuses_4 :
    ([.wopMessage { anyone with transport := 16 } [], .wopRead { anyone with transport := 16 } 0 0 0 false,
     .wopRead anyone 0 65536 0 false, .wopRead anyone 0 0 256 false, .wopWrite { anyone with transport := 16 } 0 0 0 0,
     .wopWrite anyone 0 65536 0 0, .wopWrite anyone 0 0 256 0, .wopWrite anyone 0 0 0 (2 ^ 128),
     .wopReadRow { anyone with transport := 16 } 0 0 0 0, .wopReadRow anyone 0 65536 0 0, .wopReadRow anyone 0 0 256 0,
     .wopReadRow anyone 0 0 0 65536, .wopWriteRow { anyone with transport := 16 } 0 0 0 0 0, .wopWriteRow anyone 0 65536 0 0 0,
     .wopWriteRow anyone 0 0 256 0 0, .wopWriteRow anyone 0 0 0 65536 0, .wopReadBytes { anyone with transport := 16 } 0 0 0 0 0,
     .wopReadBytes anyone 0 65536 0 0 0, .wopReadBytes anyone 0 0 256 0 0, .wopOpen { anyone with transport := 16 } 0 0,
     .wopClose { anyone with transport := 16 } 0, .wopCommit { anyone with transport := 16 } 0 0,
     .wopDiscard { anyone with transport := 16 } 0, .wopRenew { anyone with transport := 16 } 0, .wopHandshakeHello 16 0 [],
     .wopHandshakeFinish 16 0 [], .wopChannelIdleExpiry 16, .ethDatagramReceive 16 0 false false [] 0 default, .smbSelect 65536 0 false,
     .smbSelect 0 256 false, .qpSqTailWrite { anyone with transport := 16 } 0 0, .qpSqTailWrite anyone 4 0, .descWop 0 ⟨[], []⟩,
     .descWop 0 ⟨List.replicate 8 (2 ^ 64), []⟩, .descWop 4 ⟨List.replicate 8 0, []⟩, .descLoad 0 [],
     .descLoad 0 (List.replicate 8 (2 ^ 64)), .descLoad 4 (List.replicate 8 0), .completionPost 4,
     .qpCqHeadWrite { anyone with transport := 16 } 0 0, .qpCqHeadWrite anyone 4 0, .qpError 4,
     .flErase { anyone with transport := 16 }, .flDataWrite { anyone with transport := 16 } 0 0,
     .flVerify { anyone with transport := 16 }, .jtagInstructionLoad 8, .supplyBelowThreshold 4, .padFaultClear 64 0,
     .padFaultClear 0 5, .firmwareCheckComplete 2 false, .msixUnmask 128, .postSlotWrite 196609 [], .pcieConfigWrite 3 0] : List Instr).any Instr.wf = false := by decide +kernel

/-! ## Single steps -/

/-- R629: a test instruction that holds M0 keeps a release from acting. -/
theorem test_release_waits_for_the_test_port :
    (match exec (.resetRelease 2) { State.reset with m0Causes := 8 } with | .next t => t.clock == Clock.none | _ => false) = true := by
  decide +kernel

/-- R593: nothing acts in M0. -/
theorem test_reset_takes_no_command : answers (.calStore w0) State.reset = some [] := by decide +kernel

/-- R629: an instruction past SAMPLE/PRELOAD puts the device in M0. -/
theorem test_extest_resets : reads (.jtagInstructionLoad 3) (lv []) K.MODE = some 0 := by decide +kernel

/-- R46: a positive leap makes 37 s 38 s. -/
theorem test_leap_adds_a_second :
    reads .leapEpochReached (lv [(K.LEAP_PENDING, 1)]) K.UTC_OFFSET = some 38 := by decide +kernel

/-- R46: the leap is no longer pending. -/
theorem test_leap_is_done : reads .leapEpochReached (lv [(K.LEAP_PENDING, 1)]) K.LEAP_PENDING = some 0 := by decide +kernel

/-- R493: the third hello missed takes a link back to TRAINING, the second does not. -/
theorem test_second_hello_missed :
    reads (.tnHelloMiss 7) ({ lv [(K.TN_ENABLE 7, 1), (K.TN_STATE 7, 3)] with links := [(7, { lock := true, missed := 1 })] }) (K.TN_STATE 7) = some 3 := by
  decide +kernel

/-- R566: a clear with another SEQ is answered STALE. -/
theorem test_clear_of_another_record : answers (.fcClear w0 (22 + 5 * 2 ^ 32)) (lv []) = some [.result RC.stale 0] := by decide +kernel

/-- R377: only a slot in WAIT_RESTORE has its wait cleared. -/
theorem test_clear_wtr_of_a_failed_slot : answers (.slotClearWtr w0 3) (lv []) = some [.result RC.state 0] := by decide +kernel

/-- R330: a loss of lock is counted. -/
theorem test_spindle_unlock_counts :
    reads (.spindleLossOfLock 5) (lv [(K.SPN_STATE, 2), (K.SPN_UNLOCKS, 6)]) K.SPN_UNLOCKS = some 7 := by decide +kernel

/-- R267: ARB_URG takes 1. -/
theorem test_urgency_is_set : reads (.arbUrgWrite w0 11 1) (lv []) (K.ARB_URG 11) = some 1 := by decide +kernel

/-- R267: and nothing above it. -/
theorem test_urgency_is_a_bool : answers (.arbUrgWrite w0 11 2) (lv []) = some [.result RC.range 0] := by decide +kernel

/-- R588, R590: a request of M9 in M3 is for the third next boundary. -/
theorem test_mode_request_is_pending : reads (.modeRequest w0 9) (lv []) K.MODE_PENDING = some 9 := by decide +kernel

/-- R517: a read-only object takes no write. -/
theorem test_read_only_write :
    answers (.objectWrite 0x4800028 8 1) ({ lv [(K.BAR0_SESSION, 0xFF)] with barHold := none }) = some [.result RC.noSession 0] := by decide +kernel

/-- R622: the management link comes up. -/
theorem test_link_up : reads .ethLinkUp (lv [(K.ETH_ENABLE, 1)]) K.ETH_LINK = some 1 := by decide +kernel

/-- R558: the signer's fault raises EV119. -/
theorem test_signer_fault : (match exec .signerFault (lv []) with | .next t => (t.ev 119).isSome | _ => false) = true := by decide +kernel

/-- No word of the table spells a command. -/
theorem test_no_word_decodes : decodeTableWord 32 0xFFFFFFFF = none := rfl

/-- A running device whose pages are all RETIRED. -/
def pagesGone : State :=
  { lv [] with od := (K.MODE, 3) :: (List.range 1024).map (fun p => (atRow K.PAGE_MAP p, 5 * 2 ^ 61)) }

/-- A map that holds one value wherever a key stands holds it at the key. -/
theorem get_of_all_eq {d : Nat → Nat} {k v : Nat} : ∀ {m : Sp Nat}, (∀ x ∈ m, x.1 = k → x.2 = v) → (∃ x ∈ m, x.1 = k) → Sp.get d m k = v
  | [], _, h => by obtain ⟨_, h, _⟩ := h; exact absurd h (List.not_mem_nil)
  | (k', v') :: m, h, hk => by
    by_cases e : k = k'
    · simpa [Sp.get, e] using h (k', v') (List.mem_cons_self) e.symm
    · obtain ⟨x, hx, rfl⟩ := hk
      rcases List.mem_cons.1 hx with rfl | hx
      · exact absurd rfl e
      · rw [Sp.get, if_neg e]; exact get_of_all_eq (fun y hy => h y (List.mem_cons_of_mem _ hy)) ⟨x, hx, rfl⟩

theorem pagesGone_page {p : Nat} (h : p < 1024) : pagesGone.page p = 5 * 2 ^ 61 := by
  refine get_of_all_eq (fun x hx e => ?_) ⟨_, List.mem_cons_of_mem _ (List.mem_map.2 ⟨p, List.mem_range.2 h, rfl⟩), rfl⟩
  rcases List.mem_cons.1 hx with rfl | hx
  · simp only [K.MODE, K.PAGE_MAP, atRow, key] at e; omega
  · obtain ⟨q, _, rfl⟩ := List.mem_map.1 hx; rfl

theorem pagesGone_freePages : ∀ x ∈ List.range 16, pagesGone.freePages x = [] := fun x hx =>
  List.filter_eq_nil_iff.2 (fun p hp => by
    obtain ⟨i, hi, rfl⟩ := List.mem_map.1 hp
    rw [pagesGone_page (by have := List.mem_range.1 hi; have := List.mem_range.1 hx; omega)]
    exact Bool.false_ne_true)

/-! ## Where the hypotheses of the statements hold -/

/-- A band row without a temperature coefficient is the same at every temperature. -/
theorem bandMargins_flat (row num : Nat) (dT : Int) (h : bits row 95 80 = 0) : bandMargins row num dT = bandMargins row num 0 := by
  simp [bandMargins, h, signed, scaledEnd]

theorem pickBand_flat (s : State) (u num : Nat) (h : ∀ r ∈ List.range 128, bits (s.bandRow u r) 95 80 = 0) :
    s.pickBand u num = ((List.range 128).foldl (fun (best : Option (Nat × Int)) r =>
      match bandMargins (s.bandRow u r) num 0 with
      | some m =>
        if lesser m < 0 then best
        else (match best with
          | some b => if b.2 < lesser m then some (r, lesser m) else best
          | none => some (r, lesser m))
      | none => best) none).map (·.1) := by
  unfold State.pickBand
  congr 1
  refine List.foldl_ext _ _ _ (fun a r hr => ?_)
  rw [bandMargins_flat _ _ _ (h r hr)]
  all_goals rfl

/-- A slot written less often than every other one of its bank is the least-written one. -/
theorem leastWritten_single (s : State) (b i : Nat)
    (h : ((List.range 16).filter (fun j => s.g (atRow K.NVM_SLOT_WRITES (16 * b + j)) ==
      (List.range 16).foldl (fun m j => min m (s.g (atRow K.NVM_SLOT_WRITES (16 * b + j)))) (s.g (atRow K.NVM_SLOT_WRITES (16 * b))))) = [i]) :
    s.leastWritten b [] = some (16 * b + i) := by
  have e : (List.range 16).filter (fun j => !([] : List Nat).contains (16 * b + j)) = 0 :: [1, 2, 3, 4, 5, 6, 7, 8, 9, 10, 11, 12, 13, 14, 15] := by
    simp [List.range, List.range.loop]
  have e2 : List.range 16 = 0 :: [1, 2, 3, 4, 5, 6, 7, 8, 9, 10, 11, 12, 13, 14, 15] := by decide
  unfold State.leastWritten
  rw [e]
  rw [e2] at h
  simp only [Nat.add_zero] at *
  rw [h]
  simp [Nat.mod_one]

/-- Some command is at the front of a queue, and some queue is empty. -/
theorem witness_StepRunsFrontCommand :
    (∃ (s : State) (c : Instr) (rest : List Instr), s.pending = c :: rest) ∧ (∃ s : State, s.pending = []) :=
  ⟨⟨{ State.reset with pending := [.powerOn] }, .powerOn, [], rfl⟩, ⟨State.reset, rfl⟩⟩

/-- A state in canonical form steps to a next state. -/
theorem witness_MemoryFormKept : ∃ s t : State, Memory.wf s = true ∧ step s = .next t :=
  ⟨{ lv [(K.MODE_PREV, 2)] with pending := [.signerFault] }, _, by decide +kernel, rfl⟩

/-- In M0 a frame boundary is one of the commands without effect. -/
theorem witness_ResetIsDeaf : ∃ (c : Instr) (s : State), s.mode = 0 ∧ wakes c = false :=
  ⟨.frameBoundary latched, State.reset, by decide +kernel, rfl⟩

/-- The hypotheses of each clause of `Obligations.SpindleStates` hold together somewhere. -/
theorem witness_SpindleStates :
    (∃ (s : State), s.mode ≠ 0 ∧ (s.g K.SPN_STATE = 1 ∨ s.g K.SPN_STATE = 3) ∧ (¬(s.g K.STK_STATE = 3 ∧ s.stk.onStack = true))) ∧
    (∃ (s : State), s.mode ≠ 0 ∧ s.g K.SPN_STATE = 2 ∧ s.clock ≠ .spindle) ∧
    (∃ (s : State), s.mode ≠ 0 ∧ s.g K.SPN_STATE = 2 ∧ s.clock = .spindle ∧ (∀ k ∈ List.range 8, s.g (K.CALB_STATE k) ≠ 3 ∧ s.g (K.CALB_STATE k) ≠ 5)) ∧
    (∃ (s : State), s.mode ≠ 0 ∧ 1250000 ≤ s.marginLow ∧ bit (s.g K.REPLACE_REASON) 9 = false) ∧
    (∃ (s : State), s.mode ≠ 0 ∧ 1250000 ≤ s.marginOk) ∧
    (∃ (s : State), 3 ≤ s.mode ∧ s.clock = .byp ∧ s.g K.SPN_ON_BYP ≠ 0 ∧ s.m2Left = true ∧ s.g K.SPN_STATE = 2 ∧ 2500 < s.spnFrames) :=
  ⟨⟨lv [(K.SPN_STATE, 3)], by decide +kernel⟩,
    ⟨lv [(K.SPN_STATE, 2)], by decide +kernel⟩,
    ⟨{ lv [(K.SPN_STATE, 2), (K.CH_SOURCE 5, 4)] with clock := .spindle }, by decide +kernel⟩,
    ⟨{ lv [] with marginLow := 1250000 }, by decide +kernel⟩,
    ⟨{ lv [(K.REPLACE_REASON, 512)] with marginOk := 1250000 }, by decide +kernel⟩,
    ⟨{ lv [(K.SPN_ON_BYP, 1), (K.SPN_STATE, 2), (K.CH_SOURCE 5, 4), (K.CLK_SUBST 5, 1)] with m2Left := true, spnFrames := 2501, lostLock := true }, by decide +kernel⟩⟩

/-- The hypotheses of each clause of `Obligations.BypAndLosc` hold together somewhere. -/
theorem witness_BypAndLosc :
    (∃ (s : State), s.mode ≠ 0 ∧ (s.g K.BYP_STATE = 1 ∨ s.g K.BYP_STATE = 3) ∧ s.clock ≠ .onDie ∧ (¬(s.mode = 1 ∧ s.host.swept = true))) ∧
    (∃ (s : State), s.mode ≠ 0 ∧ (s.g K.BYP_STATE = 1 ∨ s.g K.BYP_STATE = 3) ∧ s.clock = .onDie) ∧
    (∃ (s : State), s.mode ≠ 0 ∧ s.g K.BYP_STATE = 2 ∧ s.clock ≠ .byp) ∧
    (∃ (s : State), s.mode ≠ 0 ∧ s.g K.BYP_STATE = 2 ∧ s.clock = .byp) ∧
    (∃ (s : State), s.mode ≠ 0 ∧ 2 ≤ s.mode ∧ s.loscMiss = false) ∧
    (∃ (s : State), s.mode ≠ 0 ∧ s.loscMiss = true ∧ s.g K.LOSC_FREQ ≠ 0) ∧
    (∃ (s : State), s.mode ≠ 0 ∧ s.loscMiss = true ∧ s.g K.LOSC_FREQ = 0) :=
  ⟨⟨{ lv [(K.BYP_STATE, 3), (K.CH_SOURCE 5, 4), (K.CLK_FREQ 5, 10)] with bypFrames := 4 }, by decide +kernel⟩,
    ⟨{ st [(K.MODE, 1), (K.BYP_STATE, 1)] with clock := .onDie }, by decide +kernel⟩,
    ⟨{ lv [(K.BYP_STATE, 2), (K.CH_SOURCE 5, 4), (K.CLK_SUBST 5, 1)] with clock := .spindle }, by decide +kernel⟩,
    ⟨lv [(K.BYP_STATE, 2), (K.CH_BOUND 3, 77)], by decide +kernel⟩,
    ⟨lv [(K.BYP_STATE, 2), (K.SPN_STATE, 2)], by decide +kernel⟩,
    ⟨{ lv [(K.LOSC_FREQ, 2), (K.SPN_STATE, 4)] with loscMiss := true }, by decide +kernel⟩,
    ⟨{ lv [] with loscMiss := true }, by decide +kernel⟩⟩

/-- The hypotheses of each clause of `Obligations.UtStates` hold together somewhere. -/
theorem witness_UtStates :
    (∃ (s : State) (u : Nat), s.mode ≠ 0 ∧ u < 4 ∧ (s.ut u).step = 3) ∧
    (∃ (s : State) (u : Nat) (r : Nat), s.mode ≠ 0 ∧ u < 4 ∧ (s.ut u).step = 3 ∧ (s.ut u).lockBy ≤ s.tick ∧ s.pickBand u (s.ut u).num = some r) ∧
    (∃ (s : State) (u : Nat), s.mode ≠ 0 ∧ u < 4 ∧ (s.ut u).step = 3 ∧ (s.ut u).lockBy ≤ s.tick ∧ s.pickBand u (s.ut u).num = none) ∧
    (∃ (s : State) (u : Nat), s.mode ≠ 0 ∧ u < 4 ∧ (s.ut u).step = 4 ∧ (s.ut u).settle ≤ s.tick) ∧
    (∃ (s : State) (u : Nat), s.mode ≠ 0 ∧ u < 4 ∧ (s.ut u).step = 5 ∧ s.phiHere u = true) ∧
    (∃ (s : State) (u : Nat), s.mode ≠ 0 ∧ u < 4 ∧ s.g (K.UT_ENABLE u) ≠ 0 ∧ 2 ≤ s.g (K.UT_STATE u) ∧ s.g (K.UT_STATE u) ≤ 4) :=
  ⟨⟨(lv []).setUt 3 { step := 3 }, 3, by decide +kernel⟩,
    ⟨(lv [(atRow (K.UT_BAND_TABLE 3) 7, 2 ^ 127 + 5000000 * 2 ^ 32 + 5900000)]).setUt 3 { step := 3, num := 35 * 2 ^ 32 }, 3, 7, by
      exact ⟨by decide +kernel, by decide +kernel, by decide +kernel, by decide +kernel, (pickBand_flat _ _ _ (by decide +kernel)).trans (by decide +kernel)⟩⟩,
    ⟨(lv []).setUt 3 { step := 3, num := 35 * 2 ^ 32 }, 3, by decide +kernel⟩,
    ⟨(lv []).setUt 3 { step := 4 }, 3, by decide +kernel⟩,
    ⟨(lv [(K.CH_SOURCE 9, 4), (K.CLK_SRC 9, 4), (K.CLK_SUBST 9, 1), (K.PAD_FMT 9, 2), (K.CH_SOURCE 5, 4), (K.CLK_SRC 5, 4), (K.CLK_GATED 5, 1), (K.PAD_FMT 5, 2), (K.CLK_DIV 5, 4)]).setUt 3 { step := 5, fromSub := true, num := 35 * 2 ^ 32 }, 3, by decide +kernel⟩,
    ⟨lv [(K.UT_ENABLE 3, 1), (K.UT_STATE 3, 3), (K.CH_SOURCE 9, 4), (K.CLK_SRC 9, 4)], 3, by decide +kernel⟩⟩

/-- The hypotheses of each clause of `Obligations.ClockGatesAndBands` hold together somewhere. -/
theorem witness_ClockGatesAndBands :
    (∃ (s : State) (c : Nat), s.mode ≠ 0 ∧ c < 64 ∧ s.fallsNow c = true ∧ (s.g (K.CLK_SRC c) = 0 ∨ (s.ut (s.g (K.CLK_SRC c) - 1)).step ≠ 1)) ∧
    (∃ (s : State) (c : Nat), s.mode ≠ 0 ∧ c < 64 ∧ s.fallsNow c = true) ∧
    (∃ (s : State) (c : Nat), s.mode ≠ 0 ∧ c < 64 ∧ s.mayOpen c = true) ∧
    (∃ (s : State) (w : Who) (u : Nat), s.admits w 1 ∧ u < 4 ∧ s.g (K.UT_ENABLE u) = 0) ∧
    (∃ (s : State) (w : Who) (u : Nat), s.admits w 1 ∧ u < 4 ∧ s.g (K.UT_ENABLE u) ≠ 0) :=
  ⟨⟨(lv [(K.CLK_SRC 9, 2), (K.PAD_PARK 9, 1), (K.PAD_LEVEL 9, 1)]).setPad 9 { closing := true, wave := some { rate := 2 ^ 38, pos := 5, div := 3 }, gateAt := 100000 * 8388608 + 7 }, 9, by decide +kernel⟩,
    ⟨((lv [(K.CLK_SRC 9, 2), (K.PAD_PARK 9, 1), (K.CH_SOURCE 9, 4)]).setPad 9 { closing := true, wave := some { rate := 2 ^ 38, pos := 5, div := 3 }, gateAt := 100000 * 8388608 + 7 }).setUt 1 { step := 1, num := 35 * 2 ^ 32 }, 9, by decide +kernel⟩,
    ⟨{ lv [(K.CLK_GATED 9, 1), (K.CH_SOURCE 9, 4), (K.PAD_FMT 9, 2), (K.CLK_DIV 9, 1), (K.CH_BOUND_LIMIT 9, 90), (K.CH_BOUND 9, 7)] with clock := .spindle }, 9, by decide +kernel⟩,
    ⟨lv [], w0, 3, by unfold State.admits; decide +kernel⟩,
    ⟨lv [(K.UT_ENABLE 3, 1)], w0, 3, by unfold State.admits; decide +kernel⟩⟩

/-- The hypotheses of each clause of `Obligations.SlotSignals` hold together somewhere. -/
theorem witness_SlotSignals :
    (∃ (s : State) (n : Nat), s.mode ≠ 0 ∧ 1 ≤ s.slotType n ∧ s.slotType n ≤ 4 ∧ (s.slot n).noSig = false ∧ s.signalGone n = true) ∧
    (∃ (s : State) (n : Nat), s.mode ≠ 0 ∧ (s.slotType n = 5 ∨ s.slotType n = 6) ∧ s.sampleLate n = true) :=
  ⟨⟨{ (lv [(K.SLOT_TYPE 3, 2), (K.SLOT_DISQ 3, 512)]).setSlot 3 { samples := [(1, 2)] } with tick := 9000000 }, 3, by decide +kernel⟩,
    ⟨{ lv [(K.SLOT_TYPE 27, 6)] with tick := 900000000 }, 27, by decide +kernel⟩⟩

/-- The hypotheses of each clause of `Obligations.SlotQualifies` hold together somewhere. -/
theorem witness_SlotQualifies :
    (∃ (s : State) (n : Nat), s.mode ≠ 0 ∧ s.g (K.SLOT_STATE n) = 2 ∧ (s.slot n).qual = 0 ∧ (s.slot n).everAvail = true) ∧
    (∃ (s : State) (n : Nat), s.mode ≠ 0 ∧ s.g (K.SLOT_STATE n) = 2 ∧ (s.slot n).qual = 0 ∧ (s.slot n).everAvail = false) ∧
    (∃ (s : State) (n : Nat), s.mode ≠ 0 ∧ s.g (K.SLOT_STATE n) = 3 ∧ (s.slot n).wtr = 0) ∧
    (∃ (s : State) (w : Who) (n : Nat), s.mode ≠ 0 ∧ s.admits w 1 ∧ s.g (K.SLOT_STATE n) = 3) ∧
    (∃ (s : State) (w : Who) (n : Nat), s.mode ≠ 0 ∧ s.admits w 1 ∧ s.g (K.SLOT_STATE n) ≠ 3) :=
  ⟨⟨(lv [(K.SLOT_STATE 3, 2)]).setSlot 3 { everAvail := true }, 3, by decide +kernel⟩,
    ⟨lv [(K.SLOT_STATE 3, 2)], 3, by decide +kernel⟩,
    ⟨lv [(K.SLOT_STATE 0, 3)], 0, by decide +kernel⟩,
    ⟨(lv [(K.SLOT_STATE 27, 3), (K.SLOT_WTR_LEFT 27, 9)]).setSlot 27 { wtr := 11000000 }, w0, 27, by unfold State.admits; decide +kernel⟩,
    ⟨lv [], w0, 27, by unfold State.admits; decide +kernel⟩⟩

/-- The hypotheses of each clause of `Obligations.SlotLabelsAndSamples` hold together somewhere. -/
theorem witness_SlotLabelsAndSamples :
    (∃ (s : State) (w : Who) (n : Nat), s.admits w 1 ∧ s.slotType n ≠ 1) ∧
    (∃ (s : State) (w : Who) (n : Nat) (arg : Nat), s.admits w 1 ∧ s.slotType n = 1 ∧ (s.slot n).edges.find? (fun x => decide (x.seq = arg % 2 ^ 64)) = none) ∧
    (∃ (s : State) (w : Who) (n : Nat) (arg : Nat) (e : SlotEdge), s.admits w 1 ∧ s.slotType n = 1 ∧ (s.slot n).edges.find? (fun x => decide (x.seq = arg % 2 ^ 64)) = some e ∧ 2 ^ 43 ≤ bits arg 127 80) ∧
    (∃ (s : State) (w : Who) (n : Nat) (arg : Nat) (e : SlotEdge), s.admits w 1 ∧ s.slotType n = 1 ∧ (s.slot n).edges.find? (fun x => decide (x.seq = arg % 2 ^ 64)) = some e ∧ bits arg 127 80 < 2 ^ 43) ∧
    (∃ (s : State) (w : Who) (n : Nat), s.admits w 1 ∧ s.slotType n ≠ 6) ∧
    (∃ (s : State) (w : Who) (n : Nat) (arg : Nat) (f : Nat), s.admits w 1 ∧ s.slotType n = 6 ∧ frameOfLow s.fn (bits arg 31 0) = some f ∧ f + 1250000 < s.fn) ∧
    (∃ (s : State) (w : Who) (n : Nat) (arg : Nat) (f : Nat), s.admits w 1 ∧ s.slotType n = 6 ∧ frameOfLow s.fn (bits arg 31 0) = some f ∧ s.fn ≤ f + 1250000) :=
  ⟨⟨lv [(K.SLOT_TYPE 3, 2)], w0, 3, by unfold State.admits; decide +kernel⟩,
    ⟨lv [(K.SLOT_TYPE 3, 1)], w0, 3, 7, by unfold State.admits; decide +kernel⟩,
    ⟨(lv [(K.SLOT_TYPE 3, 1)]).setSlot 3 { edges := [{ seq := 7, t := 3, sec := 2, given := true }] }, w0, 3, 2 ^ 123 + 7, { seq := 7, t := 3, sec := 2, given := true }, by unfold State.admits; decide +kernel⟩,
    ⟨(lv [(K.SLOT_TYPE 3, 1)]).setSlot 3 { edges := [{ seq := 8, t := 5, sec := 1, given := true }, { seq := 7, t := 3, sec := 2, given := true }] }, w0, 3, 9 * 2 ^ 80 + 7, { seq := 7, t := 3, sec := 2, given := true }, by unfold State.admits; decide +kernel⟩,
    ⟨lv [(K.SLOT_TYPE 3, 1)], w0, 3, by unfold State.admits; decide +kernel⟩,
    ⟨lv [(K.SLOT_TYPE 26, 6), (K.TS_FN, 9000000)], w0, 26, 7, 7, by unfold State.admits; decide +kernel⟩,
    ⟨(lv [(K.SLOT_TYPE 26, 6), (K.HS_SELECTED, 26)]).setSlot 26 { samples := [(99000 * 8388608, 5), (98000 * 8388608, 9)] }, w0, 26, (2 ^ 64 - 55) * 2 ^ 64 + 2 ^ 32 * 12 + 99990, 99990, by unfold State.admits; decide +kernel⟩⟩

/-- The hypotheses of each clause of `Obligations.Selection` hold together somewhere. -/
theorem witness_Selection :
    (∃ (s : State) (a : Nat) (d : Nat) (rest : List (Nat × Nat)), s.mode ≠ 0 ∧ s.selPend = (a, d) :: rest ∧ d ≤ s.tick ∧ a < 28 ∧ a ≠ s.g K.HS_SELECTED ∧ s.isReturn a = false ∧ s.mode = 3 ∧ s.g (K.SLOT_STATE a) = 4) ∧
    (∃ (s : State) (a : Nat) (d : Nat) (rest : List (Nat × Nat)), s.mode ≠ 0 ∧ s.selPend = (a, d) :: rest ∧ d ≤ s.tick ∧ a < 28 ∧ a ≠ s.g K.HS_SELECTED ∧ s.isReturn a = false ∧ s.g (K.SLOT_STATE a) = 4) ∧
    (∃ (s : State) (a : Nat) (d : Nat) (rest : List (Nat × Nat)), s.mode ≠ 0 ∧ s.selPend = (a, d) :: rest ∧ d ≤ s.tick ∧ a ≠ s.g K.HS_SELECTED ∧ s.isReturn a = true ∧ s.g (K.SLOT_JUMP_THRESH a) * 16 < (s.slot a).phase.natAbs ∧ s.g (K.SLOT_JUMP_POLICY a) = 2) ∧
    (∃ (s : State) (w : Who) (a : Nat), s.mode ≠ 0 ∧ s.admits w 1 ∧ a < 28) ∧
    (∃ (s : State) (w : Who) (a : Nat), s.mode ≠ 0 ∧ s.admits w 1 ∧ 28 ≤ a) ∧
    (∃ (s : State) (a : Nat) (b : Nat), s.mode ≠ 0 ∧ a ≠ b) :=
  ⟨⟨{ lv [(K.HS_SELECTED, 2), (K.SLOT_STATE 2, 5), (K.SLOT_STATE 5, 4), (K.SLOT_TYPE 5, 3), (K.SLOT_TYPE 2, 3)] with slots := [(5, { phase := 77 })], selPend := [(5, 100000), (2, 100001)] }, 5, 100000, [(2, 100001)], by decide +kernel⟩,
    ⟨{ st [(K.MODE, 5), (K.TS_STATE, 1), (K.HS_SELECTED, 2), (K.SLOT_STATE 2, 5), (K.SLOT_STATE 5, 4), (K.SLOT_TYPE 5, 1), (K.SLOT_TYPE 2, 3)] with slots := [(5, { phase := 7 })], selPend := [(5, 100000), (2, 100001)] }, 5, 100000, [(2, 100001)], by decide +kernel⟩,
    ⟨{ st [(K.MODE, 7), (K.TS_STATE, 1), (K.SLOT_STATE 5, 4), (K.SLOT_TYPE 5, 1), (K.SLOT_JUMP_POLICY 5, 2)] with slots := [(5, { phase := 2 ^ 70 })], selPend := [(5, 100000)] }, 5, 100000, [], by decide +kernel⟩,
    ⟨lv [(K.SR_REJECTED, 0x30)], w0, 5, by unfold State.admits; decide +kernel⟩,
    ⟨lv [], w0, 28, by unfold State.admits; decide +kernel⟩,
    ⟨{ (lv [(K.SLOT_DISAGREE_WITH 2, 64 + 8)]).setSlot 6 { dis := true } with disag := [{ a := 2, b := 6, phase := true, start := 5, below := 12500000, noArb := true }, { a := 2, b := 3, phase := true, start := 5, below := 2, noArb := true }] }, 6, 2, by decide +kernel⟩⟩

/-- The hypotheses of each clause of `Obligations.Coasting` hold together somewhere. -/
theorem witness_Coasting :
    (∃ (s : State), s.mode ≠ 0 ∧ s.learnDue = true) ∧
    (∃ (s : State), s.mode ≠ 0 ∧ s.steerDue = true) ∧
    (∃ (s : State), s.mode ≠ 0 ∧ s.mode = 6 ∧ s.modePend = none ∧ s.g K.SR_HOLD_MAX * 1000 < s.g K.SR_HOLD_AGE) ∧
    (∃ (s : State), s.mode ≠ 0 ∧ 9 ≤ s.mode ∧ s.calledFor = 6 ∧ s.g K.SR_HOLD_MAX * 1000 < s.g K.SR_HOLD_AGE) :=
  ⟨⟨{ lv [(K.HS_SELECTED, 2), (K.SLOT_STATE 2, 5), (K.SLOT_TYPE 2, 3), (K.SLOT_TIE_RMS 2, 7), (K.TS_FN, 2500000)] with clock := .spindle, learn := [{ tick := 1, m := 5, th := 6 }, { tick := 99999, m := 5, th := 6 }], learnLast := (2500, 1250) }, by decide +kernel⟩,
    ⟨{ st [(K.MODE, 6), (K.SR_F0, 12345), (K.SR_DRIFT, 7)] with coastTick := 100000 - 1250, learnN := (5, 9) }, by decide +kernel⟩,
    ⟨st [(K.MODE, 6), (K.SR_HOLD_MAX, 5), (K.SR_HOLD_AGE, 5001)], by decide +kernel⟩,
    ⟨{ st [(K.MODE, 9), (K.TS_STATE, 1), (K.SR_HOLD_MAX, 5), (K.SR_HOLD_AGE, 5001)] with m2Left := true, frozen := true }, by decide +kernel⟩⟩

/-- The hypotheses of each clause of `Obligations.EpochRecords` hold together somewhere. -/
theorem witness_EpochRecords :
    (∃ (s : State), s.mode ≠ 0 ∧ 2 ≤ s.mode ∧ s.fn % 1250000 = 0 ∧ s.erBuild = none) ∧
    (∃ (s : State) (rec_ : List Byte) (q : Nat), s.mode ≠ 0 ∧ s.erBuild = some (rec_, q) ∧ s.fn % 1250000 = 0) ∧
    (∃ (s : State) (rec_ : List Byte) (q : Nat), s.mode ≠ 0 ∧ s.erBuild = some (rec_, q) ∧ (∀ p ∈ [0, 1, 2, 3], s.g (K.QP_STATE p) = 0) ∧ s.chans = []) :=
  ⟨⟨lv [(K.ER_BOOT, 3), (K.TS_FN, 1250000)], by decide +kernel⟩,
    ⟨{ lv [(K.TS_FN, 1250000)] with erBuild := some ([5], 9) }, [5], 9, by decide +kernel⟩,
    ⟨{ lv [] with erBuild := some (List.replicate 64 5, 9) }, List.replicate 64 5, 9, by decide +kernel⟩⟩

/-- The hypotheses of each clause of `Obligations.TimescaleMoves` hold together somewhere. -/
theorem witness_TimescaleMoves :
    (∃ (s : State) (w : Who) (arg : Nat) (k : Int), s.mode ≠ 0 ∧ s.admits w 3 ∧ s.mode = 9 ∧ (∀ q ∈ List.range 8, s.g (K.SQ_STATE q) = 0) ∧ s.tsStep = none ∧ toI64 arg = k * (qFrame : Int) ∧ 0 ≤ (s.fn : Int) + 3 + k ∧ (s.fn : Int) + 3 + k < 2 ^ 43 * 1250000) ∧
    (∃ (s : State) (w : Who), s.mode ≠ 0 ∧ s.admits w 3 ∧ (s.mode ≠ 9 ∨ s.tsStep.isSome = true)) ∧
    (∃ (s : State) (w : Who) (arg : Nat), s.mode ≠ 0 ∧ s.admits w 3 ∧ s.mode = 9 ∧ (∀ q ∈ List.range 8, s.g (K.SQ_STATE q) = 0) ∧ s.tsStep = none ∧ toI64 arg % (qFrame : Int) ≠ 0) ∧
    (∃ (s : State) (w : Who) (arg : Nat) (k : Int), s.mode ≠ 0 ∧ s.admits w 3 ∧ s.mode = 9 ∧ (∀ q ∈ List.range 8, s.g (K.SQ_STATE q) = 0) ∧ s.tsStep = none ∧ toI64 arg = k * (qFrame : Int) ∧ ((s.fn : Int) + 3 + k < 0 ∨ 2 ^ 43 * 1250000 ≤ (s.fn : Int) + 3 + k)) ∧
    (∃ (s : State) (d : Nat) (k : Int), s.mode ≠ 0 ∧ s.tsStep = some (k, d) ∧ d ≤ s.tick) ∧
    (∃ (s : State), s.mode ≠ 0 ∧ s.alignDue = true) :=
  ⟨⟨st [(K.MODE, 9), (K.TS_FN, 500)], w0, 2 ^ 64 - 8388608 * 500, -500, by unfold State.admits; decide +kernel⟩,
    ⟨lv [], w0, by unfold State.admits; decide +kernel⟩,
    ⟨st [(K.MODE, 9)], w0, 1048576, by unfold State.admits; decide +kernel⟩,
    ⟨st [(K.MODE, 9), (K.TS_FN, 500)], w0, 2 ^ 64 - 8388608 * 504, -504, by unfold State.admits; decide +kernel⟩,
    ⟨{ st [(K.MODE, 9), (K.TS_FN, 500), (K.CH_SOURCE 5, 4), (K.STK_STATE, 7), (K.CH_SOURCE 8, 1), (K.HS_SELECTED, 3), (K.SLOT_TYPE 3, 1)] with tsStep := some (-3, 100000) }, 100000, -3, by decide +kernel⟩,
    ⟨{ lv [(K.HS_SELECTED, 3), (K.SLOT_TYPE 3, 1), (K.SQ_STATE 2, 3), (K.CH_SOURCE 5, 4)] with servoErr := 8388608 * 16 * 7 + 5 }, by decide +kernel⟩⟩

/-- The hypotheses of each clause of `Obligations.StackMaster` hold together somewhere. -/
theorem witness_StackMaster :
    (∃ (s : State), s.mode ≠ 0 ∧ s.role = 1 ∧ 2 ≤ s.mode ∧ s.fn % 1280 = 0 ∧ s.stk.pulse.all (fun x => x.1 != s.tick) = true ∧ s.stkStart = none ∧ s.silent = []) ∧
    (∃ (s : State) (p : Nat), s.mode ≠ 0 ∧ s.role = 1 ∧ 2 ≤ s.mode ∧ s.fn % 1280 = 0 ∧ s.stk.pulse.all (fun x => x.1 != s.tick) = true ∧ s.stkStart = none ∧ p ∈ s.silent) ∧
    (∃ (s : State), s.mode ≠ 0 ∧ s.role = 1 ∧ 2 ≤ s.mode ∧ s.alertDue = true) ∧
    (∃ (s : State) (p : Nat) (wd : Nat) (t0 : Nat) (b0 : Nat), s.mode ≠ 0 ∧ s.role = 1 ∧ 1 ≤ p ∧ p < 16 ∧ s.stk.pulse = some (b0, t0) ∧ 1 ≤ wd ∧ wd ≤ 3 ∧ s.stkStart = none) ∧
    (∃ (s : State) (p : Nat) (wd : Nat) (t0 : Nat) (b0 : Nat), s.mode ≠ 0 ∧ s.role = 1 ∧ 1 ≤ p ∧ p < 16 ∧ s.stk.pulse = some (b0, t0) ∧ wd = 0 ∧ s.stkStart = none) :=
  ⟨⟨{ lv [(K.STK_ROLE, 1), (K.TS_FN, 1280 * 50), (K.LEAP_PENDING, 1)] with stk := { turn := 15, steps := 2 } }, by decide +kernel⟩,
    ⟨{ lv [(K.STK_ROLE, 1), (K.TS_FN, 1280 * 50), (K.STK_MEMBERS, 0xFFFF), (atRow K.STK_DELAY 15, 7)] with stk := { turn := 15, steps := 2, run := [(4, 9), (15, 2)], echoed := 16 } }, 15, by decide +kernel⟩,
    ⟨{ lv [(K.STK_ROLE, 1), (K.SPN_STATE, 3)] with stk := { pulse := some (99990, 5), seen := 7 } }, by decide +kernel⟩,
    ⟨{ lv [(K.STK_ROLE, 1)] with stk := { pulse := some (99990, 5000), run := [(4, 3)] } }, 4, 1, 5000, 99990, by decide +kernel⟩,
    ⟨{ lv [(K.STK_ROLE, 1), (K.STK_MEMBERS, 0xFFFF)] with stk := { pulse := some (99990, 5000), run := [(4, 3)] } }, 15, 0, 5000, 99990, by decide +kernel⟩⟩

/-- The hypotheses of each clause of `Obligations.StackFollower` hold together somewhere. -/
theorem witness_StackFollower :
    (∃ (s : State), s.mode ≠ 0 ∧ s.role = 2) ∧
    (∃ (s : State), s.mode ≠ 0 ∧ s.role = 2 ∧ s.g K.STK_STATE ≠ 4 ∧ s.g K.STK_STATE ≠ 5) ∧
    (∃ (s : State), s.mode ≠ 0 ∧ s.role = 2 ∧ (s.g K.STK_STATE = 4 ∨ s.g K.STK_STATE = 5)) ∧
    (∃ (s : State), s.mode ≠ 0 ∧ s.g K.STK_STATE = 3 ∧ s.stk.onStack = false ∧ s.g K.SPN_STATE ≠ 2) ∧
    (∃ (s : State), s.mode ≠ 0 ∧ s.g K.STK_STATE = 3 ∧ s.stk.onStack = false ∧ s.g K.SPN_STATE = 2 ∧ 2 ≤ s.mode ∧ s.mode ≤ 7 ∧ s.modePend = none) ∧
    (∃ (s : State), s.mode ≠ 0 ∧ s.role = 2 ∧ s.joining = false) ∧
    (∃ (s : State), s.mode ≠ 0 ∧ s.role = 2 ∧ s.joining = true ∧ s.mode ≠ 8 ∧ s.modePend = none) ∧
    (∃ (s : State), s.mode ≠ 0 ∧ s.role = 2 ∧ s.joining = true ∧ s.mode = 8 ∧ s.modePend = none ∧ s.stk.last.all (fun x => x + 3840 ≤ s.tick) = true) :=
  ⟨⟨lv [(K.STK_ROLE, 2), (K.STK_STATE, 5)], by decide +kernel⟩,
    ⟨lv [(K.STK_ROLE, 2), (K.STK_STATE, 3), (K.STK_POSITION, 7)], by decide +kernel⟩,
    ⟨st [(K.MODE, 8), (K.STK_ROLE, 2), (K.STK_STATE, 5), (K.STK_POSITION, 7)], by decide +kernel⟩,
    ⟨lv [(K.STK_ROLE, 2), (K.STK_STATE, 3), (K.SPN_STATE, 3)], by decide +kernel⟩,
    ⟨lv [(K.STK_ROLE, 2), (K.STK_STATE, 3), (K.SPN_STATE, 2)], by decide +kernel⟩,
    ⟨lv [(K.STK_ROLE, 2), (K.STK_STATE, 2)], by decide +kernel⟩,
    ⟨{ lv [(K.STK_ROLE, 2), (K.STK_STATE, 4), (K.STK_FOLLOW_STEER, 2 ^ 64 - 9)] with stk := { onStack := true, left := 4, offs := [5] } }, by decide +kernel⟩,
    ⟨{ st [(K.MODE, 8), (K.STK_ROLE, 2), (K.STK_STATE, 5), (K.STK_FOLLOW_STEER, 2 ^ 64 - 9)] with stk := { onStack := true, left := 4, offs := [5], last := some 96160 } }, by decide +kernel⟩⟩

/-- The hypotheses of each clause of `Obligations.MarkingMessages` hold together somewhere. -/
theorem witness_MarkingMessages :
    (∃ (s : State) (w : Nat) (clean : Bool) (m : MarkMsg), s.mode ≠ 0 ∧ s.role = 2 ∧ readMark w clean = m ∧ m.good = false) ∧
    (∃ (s : State) (w : Nat) (clean : Bool) (m : MarkMsg), s.mode ≠ 0 ∧ s.role = 2 ∧ readMark w clean = m ∧ m.good = true ∧ m.turn ≠ s.g K.STK_POSITION ∧ s.stk.own = 0xFFFFFF) ∧
    (∃ (s : State) (w : Nat) (clean : Bool) (m : MarkMsg), s.mode ≠ 0 ∧ s.role = 2 ∧ readMark w clean = m ∧ m.good = true ∧ m.turn = s.g K.STK_POSITION ∧ m.delay ≠ 0xFFFFFF ∧ (s.g K.STK_STATE = 2 ∨ s.g K.STK_STATE = 6) ∧ s.effMode ≠ 8) ∧
    (∃ (s : State) (w : Nat) (clean : Bool) (m : MarkMsg) (x : MarkMsg), s.mode ≠ 0 ∧ s.role = 2 ∧ readMark w clean = m ∧ x.good = true ∧ x.turn < 16 ∧ x.mmode < 16 ∧ x.fn < 2 ^ 64 ∧ x.bound < 2 ^ 32 ∧ x.delay < 2 ^ 24 ∧ -(2 : Int) ^ 15 ≤ x.utcOffset ∧ x.utcOffset < 2 ^ 15 ∧ x.leap < 4 ∧ x.pkind < 4 ∧ x.tdepth < 16 ∧ x.payload < 2 ^ 64) :=
  ⟨⟨lv [(K.STK_ROLE, 2)], markWord { good := true, turn := 0, mmode := 0, aligned := false, coarse := false, isLocal := false, stepped := false, fn := 0, bound := 0, delay := 0, utcOffset := 0, leap := 0, pkind := 0, tdepth := 0, payload := 0 }, false, readMark (markWord { good := true, turn := 0, mmode := 0, aligned := false, coarse := false, isLocal := false, stepped := false, fn := 0, bound := 0, delay := 0, utcOffset := 0, leap := 0, pkind := 0, tdepth := 0, payload := 0 }) false, by decide +kernel⟩,
    ⟨lv [(K.STK_ROLE, 2), (K.STK_POSITION, 3)], markWord { good := true, turn := 0, mmode := 0, aligned := false, coarse := false, isLocal := false, stepped := false, fn := 0, bound := 0, delay := 0, utcOffset := 0, leap := 0, pkind := 0, tdepth := 0, payload := 0 }, true, readMark (markWord { good := true, turn := 0, mmode := 0, aligned := false, coarse := false, isLocal := false, stepped := false, fn := 0, bound := 0, delay := 0, utcOffset := 0, leap := 0, pkind := 0, tdepth := 0, payload := 0 }) true, by decide +kernel⟩,
    ⟨{ lv [(K.STK_ROLE, 2), (K.STK_POSITION, 3), (K.STK_STATE, 6)] with stk := { okRun := 1 } }, markWord { good := true, turn := 3, mmode := 0, aligned := false, coarse := false, isLocal := false, stepped := false, fn := 99999, bound := 5, delay := 70, utcOffset := 0, leap := 0, pkind := 1, tdepth := 4, payload := 0 }, true, readMark (markWord { good := true, turn := 3, mmode := 0, aligned := false, coarse := false, isLocal := false, stepped := false, fn := 99999, bound := 5, delay := 70, utcOffset := 0, leap := 0, pkind := 1, tdepth := 4, payload := 0 }) true, by decide +kernel⟩,
    ⟨lv [(K.STK_ROLE, 2)], 0, true, readMark 0 true, { good := true, turn := 15, mmode := 9, aligned := true, coarse := false, isLocal := true, stepped := false, fn := 2 ^ 64 - 1, bound := 2 ^ 32 - 2, delay := 2 ^ 24 - 3, utcOffset := -32768, leap := 2, pkind := 1, tdepth := 14, payload := 2 ^ 64 - 5 }, by decide +kernel⟩⟩

/-- The hypotheses of each clause of `Obligations.LinksAndRoutes` hold together somewhere: part 1 of 2. -/
theorem witness_LinksAndRoutes :
    (∃ (s : State) (k : Nat), s.mode ≠ 0 ∧ k < 8 ∧ s.g (K.TN_ENABLE k) ≠ 0 ∧ (s.link k).lock = false) ∧
    (∃ (s : State) (k : Nat), s.mode ≠ 0 ∧ k < 8 ∧ (s.link k).lock = true ∧ s.g (K.TN_STATE k) ≠ 3) ∧
    (∃ (s : State) (k : Nat), s.mode ≠ 0 ∧ k < 8 ∧ (s.link k).lock = true ∧ s.g (K.TN_STATE k) = 3 ∧ s.g K.FAB_ENABLE = 0) ∧
    (∃ (s : State) (k : Nat), s.mode ≠ 0 ∧ k < 8 ∧ (s.link k).lock = true ∧ (s.link k).rxTick + 12500 * ((s.link k).missed + 1) ≤ s.tick ∧ (s.link k).missed < 2) ∧
    (∃ (s : State) (k : Nat), s.mode ≠ 0 ∧ k < 8 ∧ (s.link k).lock = true ∧ (s.link k).rxTick + 12500 * ((s.link k).missed + 1) ≤ s.tick ∧ 2 ≤ (s.link k).missed ∧ s.g (K.TN_STATE k) ≠ 3) ∧
    (∃ (s : State) (k : Nat), s.mode ≠ 0 ∧ k < 8 ∧ (s.link k).lock = true ∧ (s.link k).txTick.all (fun x => x + 12500 ≤ s.tick) = true ∧ s.isRoot = false ∧ s.lineFree k = true) ∧
    (∃ (s : State) (k : Nat), s.mode ≠ 0 ∧ k < 8 ∧ (s.link k).lock = true ∧ (s.link k).txTick.all (fun x => x + 12500 ≤ s.tick) = true ∧ s.isRoot = true ∧ s.lineFree k = true) ∧
    (∃ (s : State) (k : Nat), s.mode ≠ 0 ∧ k < 8 ∧ (s.link k).lock = true ∧ (s.link k).txTick.all (fun x => x + 12500 ≤ s.tick) = true ∧ s.isRoot = false ∧ s.lineFree k = false) ∧
    (∃ (s : State) (k : Nat), s.mode ≠ 0 ∧ k < 8 ∧ (s.link k).lock = true) ∧
    (∃ (s : State) (k : Nat) (h : Hello), s.mode ≠ 0 ∧ k < 8 ∧ (s.link k).lock = true ∧ s.g K.FAB_ENABLE = 0 ∧ h.uid ≠ Config.deviceUid ∧ s.farLink k = false ∧ s.g (K.TN_STATE k) = 2 ∧ h.seesUid = Config.deviceUid ∧ h.seesLink = k) :=
  ⟨⟨lv [(K.TN_ENABLE 7, 1), (K.TN_STATE 7, 1)], 7, by decide +kernel⟩,
    ⟨(lv [(K.TN_STATE 7, 2)]).setLink 7 { lock := true, clean := 2, sends := [(5, .mgmt 7 default), (6, .route 7 [])] }, 7, by decide +kernel⟩,
    ⟨(lv [(K.TN_STATE 7, 3), (atRow K.FAB_ROUTES 9, routeRow 3 7 4), (atRow K.FAB_ROUTES 8, routeRow 3 6 4)]).setLink 7 { lock := true, clean := 2 }, 7, by decide +kernel⟩,
    ⟨(lv [(K.TN_STATE 7, 3)]).setLink 7 { lock := true, missed := 1 }, 7, by decide +kernel⟩,
    ⟨(lv [(K.TN_STATE 0, 2)]).setLink 0 { lock := true, missed := 2 }, 0, by decide +kernel⟩,
    ⟨(lv [(K.TN_STATE 0, 2)]).setLink 0 { lock := true, missed := 2 }, 0, by decide +kernel⟩,
    ⟨{ (lv [(K.TN_STATE 0, 2), (K.FAB_ENABLE, 1)]).setLink 0 { lock := true, missed := 2 } with fab := { root := some (5, 6) } }, 0, by decide +kernel⟩,
    ⟨(lv [(K.TN_STATE 0, 2)]).setLink 0 { lock := true, missed := 2, busy := 625 }, 0, by decide +kernel⟩,
    ⟨(lv []).setLink 7 { lock := true }, 7, by decide +kernel⟩,
    ⟨(lv [(K.TN_STATE 7, 2)]).setLink 7 { lock := true, missed := 2, exch := 5, asym := some (1, 2, 3, 4) }, 7, { uid := Config.deviceUid + 1, link := 4, priority := 3, addr := 5, addrGen := 6, rootPri := 7, rootUid := 8, rootDist := 2, rootSeq := 5, seesUid := Config.deviceUid, seesLink := 7 }, ⟨by decide +kernel, by decide +kernel, by decide +kernel, by decide +kernel, Nat.succ_ne_self _, by decide +kernel, by decide +kernel, rfl, rfl⟩⟩⟩

/-- The hypotheses of each clause of `Obligations.LinksAndRoutes` hold together somewhere: part 2 of 2. -/
theorem witness_LinksAndRoutes_2 :
    (∃ (s : State) (k : Nat) (h : Hello), s.mode ≠ 0 ∧ k < 8 ∧ (s.link k).lock = true ∧ s.g K.FAB_ENABLE = 0 ∧ h.uid ≠ Config.deviceUid ∧ s.farLink k = false ∧ s.g (K.TN_STATE k) = 2 ∧ (h.seesUid ≠ Config.deviceUid ∨ h.seesLink ≠ k)) ∧
    (∃ (s : State) (k : Nat) (h : Hello), s.mode ≠ 0 ∧ k < 8 ∧ (s.link k).lock = true ∧ s.g K.FAB_ENABLE = 0 ∧ h.uid = Config.deviceUid ∧ s.g (K.TN_STATE k) ≠ 3 ∧ s.g (K.TN_STATE k) ≠ 4) ∧
    (∃ (s : State) (k : Nat), s.mode ≠ 0 ∧ s.g K.FAB_ENABLE ≠ 0 ∧ k < 8 ∧ (s.link k).lock = true ∧ s.g (K.TN_STATE k) = 3) ∧
    (∃ (s : State) (k : Nat) (r : RouteRow), s.mode ≠ 0 ∧ s.g K.FAB_ENABLE ≠ 0 ∧ k < 8 ∧ (s.link k).lock = true ∧ s.g (K.TN_STATE k) = 3 ∧ r.addr < 4096 ∧ r.addr ≠ s.g K.FAB_ADDR ∧ r.hops < 15 ∧ (r.hops + 1 < s.hopsTo r.addr ∨ (bit (s.route r.addr) 63 = true ∧ s.routeLink r.addr = k) ∨ (1 ≤ (r.gen + 256 - s.routeGen r.addr) % 256 ∧ (r.gen + 256 - s.routeGen r.addr) % 256 < 128))) ∧
    (∃ (s : State) (k : Nat) (r : RouteRow), s.mode ≠ 0 ∧ s.g K.FAB_ENABLE ≠ 0 ∧ k < 8 ∧ (s.link k).lock = true ∧ s.g (K.TN_STATE k) = 3 ∧ r.addr < 4096 ∧ r.addr ≠ s.g K.FAB_ADDR ∧ 15 ≤ r.hops ∧ bit (s.route r.addr) 63 = true ∧ s.routeLink r.addr = k) ∧
    (∃ (s : State) (k : Nat), s.mode ≠ 0 ∧ s.g K.FAB_ENABLE ≠ 0 ∧ k < 8 ∧ (s.link k).lock = true) ∧
    (∃ (s : State), s.mode ≠ 0 ∧ s.g K.FAB_ENABLE ≠ 0 ∧ (s.fab.changed = true ∨ s.fab.routeAt.all (fun x => x + 12500 ≤ s.tick) = true) ∧ (∀ i ∈ List.range 8, s.linkUp i = true → s.lineFree i = true)) :=
  ⟨⟨(lv [(K.TN_STATE 7, 2)]).setLink 7 { lock := true, missed := 2, exch := 5 }, 7, { uid := Config.deviceUid + 1, link := 4, priority := 3, addr := 5, addrGen := 6, rootPri := 7, rootUid := 8, rootDist := 2, rootSeq := 5, seesUid := Config.deviceUid, seesLink := 6 }, ⟨by decide +kernel, by decide +kernel, by decide +kernel, by decide +kernel, Nat.succ_ne_self _, by decide +kernel, by decide +kernel, Or.inr (by decide)⟩⟩,
    ⟨(lv [(K.TN_STATE 7, 2)]).setLink 7 { lock := true, missed := 2, exch := 5 }, 7, { uid := Config.deviceUid, link := 4, priority := 3, addr := 5, addrGen := 6, rootPri := 7, rootUid := 8, rootDist := 2, rootSeq := 5, seesUid := Config.deviceUid, seesLink := 6 }, ⟨by decide +kernel, by decide +kernel, by decide +kernel, by decide +kernel, rfl, by decide +kernel, by decide +kernel⟩⟩,
    ⟨(lv [(K.TN_STATE 7, 3), (K.FAB_ENABLE, 1), (K.FAB_ADDR, 6)]).setLink 7 { lock := true }, 7, by decide +kernel⟩,
    ⟨(lv [(K.TN_STATE 7, 3), (K.FAB_ENABLE, 1), (atRow K.FAB_ROUTES 4095, routeRow 3 6 4)]).setLink 7 { lock := true }, 7, { addr := 4095, hops := 14, gen := 5 }, by decide +kernel⟩,
    ⟨(lv [(K.TN_STATE 7, 3), (K.FAB_ENABLE, 1), (atRow K.FAB_ROUTES 0, routeRow 3 7 4)]).setLink 7 { lock := true }, 7, { addr := 0, hops := 15, gen := 5 }, by decide +kernel⟩,
    ⟨(lv [(K.FAB_ENABLE, 1)]).setLink 7 { lock := true }, 7, by decide +kernel⟩,
    ⟨lv [(K.TN_STATE 7, 3), (K.TN_STATE 0, 3), (K.FAB_ENABLE, 1), (atRow K.FAB_ROUTES 0, routeRow 3 7 4)], by decide +kernel⟩⟩

/-- The hypotheses of each clause of `Obligations.RootAndAddresses` hold together somewhere. -/
theorem witness_RootAndAddresses :
    (∃ (s : State) (u : Nat) (pr : Nat), s.mode ≠ 0 ∧ s.g K.FAB_ENABLE ≠ 0 ∧ s.isRoot = false ∧ s.fab.seqTick + 125000 ≤ s.tick ∧ s.fab.root = some (pr, u) ∧ (∀ i ∈ List.range 8, (s.link i).view.all (fun v => v.2.1 == u && decide (v.2.2.2 ≤ s.fab.seq)) = true) ∧ 4096 ≤ s.g K.FAB_ADDR) ∧
    (∃ (s : State) (j : Nat) (f : LeaseFrame), s.mode ≠ 0 ∧ s.g K.FAB_ENABLE ≠ 0 ∧ s.fab.link = some j ∧ s.renewDue = true ∧ s.lineFree j = true ∧ f = { isGrant := false, uid := Config.deviceUid, pin := s.g K.FAB_ADDR_PIN, addr := s.g K.FAB_ADDR, gen := s.g K.FAB_ADDR_GEN, refused := false, lease := 0 }) ∧
    (∃ (s : State) (k : Nat) (f : LeaseFrame), s.mode ≠ 0 ∧ s.g K.FAB_ENABLE ≠ 0 ∧ k < 8 ∧ (s.link k).lock = true ∧ s.g (K.TN_STATE k) = 3 ∧ f.isGrant = true ∧ f.uid = Config.deviceUid ∧ f.refused = false ∧ s.isRoot = false ∧ f.addr < 4096 ∧ 4096 ≤ s.g K.FAB_ADDR) ∧
    (∃ (s : State) (k : Nat) (j : Nat) (f : LeaseFrame), s.mode ≠ 0 ∧ s.g K.FAB_ENABLE ≠ 0 ∧ k < 8 ∧ (s.link k).lock = true ∧ s.g (K.TN_STATE k) = 3 ∧ f.isGrant = false ∧ s.isRoot = false ∧ s.fab.link = some j ∧ s.lineFree j = true) ∧
    (∃ (s : State) (k : Nat) (f : LeaseFrame), s.mode ≠ 0 ∧ s.g K.FAB_ENABLE ≠ 0 ∧ k < 8 ∧ (s.link k).lock = true ∧ s.g (K.TN_STATE k) = 3 ∧ f.isGrant = false ∧ s.isRoot = true ∧ (∀ p ∈ s.fab.ends, s.leaseUid p.1 ≠ f.uid) ∧ 4096 ≤ f.addr ∧ s.addrFree f.pin = true ∧ s.lineFree k = true) ∧
    (∃ (s : State) (k : Nat), s.mode ≠ 0 ∧ s.g K.FAB_ENABLE ≠ 0 ∧ k < 8 ∧ (s.link k).lock = true) ∧
    (∃ (s : State) (q : Nat) (a : Nat), s.mode ≠ 0 ∧ s.g K.FAB_ENABLE ≠ 0 ∧ s.isRoot = true ∧ Sp.find s.fab.ends a = some q ∧ q ≤ s.tick) ∧
    (∃ (s : State) (j : Nat) (q : Nat) (a : Nat), s.mode ≠ 0 ∧ s.g K.FAB_ENABLE ≠ 0 ∧ s.isRoot = false ∧ s.g K.FAB_ADDR = a ∧ a < 4096 ∧ s.fab.lease = some (q, j) ∧ q + j * 1250000 ≤ s.tick) :=
  ⟨⟨{ (lv [(K.TN_STATE 7, 3), (K.FAB_ENABLE, 1), (K.FAB_ROOT_UID, 55), (K.FAB_ADDR, 0xFFFF), (K.FAB_ADDR_GEN, 255)]).setLink 7 { view := some (3, 55, 2, 9) } with fab := { root := some (3, 55), link := some 7, seq := 9 }, tick := 125000 }, 55, 3, by decide +kernel⟩,
    ⟨{ lv [(K.FAB_ENABLE, 1)] with fab := { root := some (3, 55), link := some 7, lease := some (100000, 0) } }, 7, { isGrant := false, uid := Config.deviceUid, pin := 0xFFFF, addr := 0xFFFF, gen := 0, refused := false, lease := 0 }, ⟨by decide +kernel, by decide +kernel, rfl, by decide +kernel, by decide +kernel, (LeaseFrame.mk.injEq ..).mpr ⟨rfl, rfl, by decide +kernel, by decide +kernel, by decide +kernel, rfl, rfl⟩⟩⟩,
    ⟨{ (lv [(K.FAB_ENABLE, 1), (K.TN_STATE 7, 3), (K.FAB_ADDR, 0xFFFF)]).setLink 7 { lock := true } with fab := { root := some (3, 55), link := some 7 } }, 7, { isGrant := true, uid := Config.deviceUid, pin := 3, addr := 77, gen := 200, refused := false, lease := 60 }, ⟨by decide +kernel, by decide +kernel, by decide +kernel, by decide +kernel, by decide +kernel, rfl, rfl, rfl, by decide +kernel, by decide, by decide +kernel⟩⟩,
    ⟨{ (lv [(K.FAB_ENABLE, 1), (K.TN_STATE 7, 3)]).setLink 7 { lock := true } with fab := { root := some (3, 55), link := some 6 } }, 7, 6, { isGrant := false, uid := 9, pin := 3, addr := 77, gen := 200, refused := false, lease := 60 }, by decide +kernel⟩,
    ⟨{ (lv [(K.FAB_ENABLE, 1), (K.TN_STATE 7, 3)]).setLink 7 { lock := true } with fab := { root := some (3, 55), ends := [(8, 9)] } }, 7, { isGrant := false, uid := 9, pin := 3, addr := 0xFFFF, gen := 200, refused := false, lease := 60 }, by decide +kernel⟩,
    ⟨(lv [(K.FAB_ENABLE, 1)]).setLink 7 { lock := true }, 7, by decide +kernel⟩,
    ⟨{ lv [(K.FAB_ENABLE, 1), (atRow K.FAB_LEASES 4095, 2 ^ 127 + 5)] with fab := { root := some (3, 55), ends := [(4095, 9)] } }, 9, 4095, by decide +kernel⟩,
    ⟨{ lv [(K.FAB_ENABLE, 1), (K.FAB_ADDR, 4095), (atRow K.FAB_ROUTES 4095, routeRow 0 0 5)] with fab := { root := some (3, 55), link := some 4, lease := some (5, 1) }, tick := 1250005 }, 1, 5, 4095, by decide +kernel⟩⟩

/-- The hypotheses of each clause of `Obligations.TimeTransfer` hold together somewhere. -/
theorem witness_TimeTransfer :
    (∃ (s : State) (k : Nat) (f : TimeFrame), s.mode ≠ 0 ∧ k < 8 ∧ s.g (K.TN_STATE k) = 3 ∧ s.g (K.TN_TIME_EN k) ≠ 0 ∧ (s.link k).timeAt.all (fun y => y + 1250 ≤ s.tick) = true ∧ s.lineFree k = true ∧ f = { seq := ((s.link k).txSeq + 1) % 2 ^ 32, rxSeq := ((s.link k).rxSeq.getD (0, 0)).1, rxTime := ((s.link k).rxSeq.getD (0, 0)).2, txPrev := ((s.link k).departs.headD (0, 0)).2, bound := s.g K.DEV_BOUND, tdepth := s.tdepth, viaYou := s.g K.HS_SELECTED == 16 + k && s.slotType (16 + k) == 5, aligned := s.aligned, calValid := s.g K.CAL_REF_STATE == 1, calRefPhase := s.gi K.CAL_REF_PHASE, arrival := 0, ratio := 0 }) ∧
    (∃ (s : State) (k : Nat) (u : Nat) (f : TimeFrame) (bs : List Byte) (ratio : Int), s.mode ≠ 0 ∧ k < 8 ∧ (s.link k).lock = true ∧ readTime ⟨bs, u, ratio⟩ = f ∧ s.g (K.TN_STATE k) = 3 ∧ (s.link k).rxSeq = none) ∧
    (∃ (s : State) (k : Nat) (t1 : Nat) (t4 : Nat) (q : Nat) (u : Nat) (f : TimeFrame) (bs : List Byte) (ratio : Int), s.mode ≠ 0 ∧ k < 8 ∧ (s.link k).lock = true ∧ readTime ⟨bs, u, ratio⟩ = f ∧ s.g (K.TN_STATE k) = 3 ∧ (s.link k).rxSeq = some (q, t4) ∧ f.seq = (q + 1) % 2 ^ 32 ∧ (s.link k).departs.find? (fun p => p.1 == f.rxSeq) = some (f.rxSeq, t1) ∧ s.slotType (16 + k) ≠ 5 ∧ ratio = 0 ∧ (s.link k).asym = none ∧ 0 ≤ (f.rxTime : Int) - t1 + (t4 - f.txPrev) ∧ (f.rxTime : Int) - t1 + (t4 - f.txPrev) < 62914560) ∧
    (∃ (s : State) (k : Nat) (x : Nat) (t1 : Nat) (t4 : Nat) (q : Nat) (pr : Nat) (u : Nat) (f : TimeFrame) (bs : List Byte) (ratio : Int) (y : Int) (sum : Int), s.mode ≠ 0 ∧ k < 8 ∧ (s.link k).lock = true ∧ readTime ⟨bs, u, ratio⟩ = f ∧ s.g (K.TN_STATE k) = 3 ∧ (s.link k).rxSeq = some (pr, t4) ∧ f.seq = (pr + 1) % 2 ^ 32 ∧ (s.link k).departs.find? (fun p => p.1 == f.rxSeq) = some (f.rxSeq, t1) ∧ s.slotType (16 + k) ≠ 5 ∧ ratio = 0 ∧ (s.link k).asym = some (x, 1023, sum, q) ∧ 0 ≤ (f.rxTime : Int) - t1 + (t4 - f.txPrev) ∧ (f.rxTime : Int) - t1 + (t4 - f.txPrev) < 62914560 ∧ s.g K.CAL_REF_STATE = 1 ∧ f.calValid = true ∧ y = 16 * ((f.rxTime : Int) - t1 - (t4 - f.txPrev)) - 2 * (s.gi K.CAL_REF_PHASE - f.calRefPhase)) ∧
    (∃ (s : State) (k : Nat), s.mode ≠ 0 ∧ k < 8 ∧ (s.link k).lock = true) ∧
    (∃ (s : State) (w : Who) (k : Nat), s.mode ≠ 0 ∧ k < 8 ∧ s.admits w 1 ∧ s.g (K.TN_STATE k) = 3 ∧ s.g K.CAL_REF_STATE = 1 ∧ (s.link k).calOk = true ∧ s.g (K.TN_TIME_EN k) ≠ 0) ∧
    (∃ (s : State) (w : Who) (k : Nat), s.mode ≠ 0 ∧ k < 8 ∧ s.admits w 1 ∧ s.g (K.TN_STATE k) = 3 ∧ s.g K.CAL_REF_STATE = 1 ∧ (s.link k).calOk = true ∧ s.g (K.TN_TIME_EN k) = 0) ∧
    (∃ (s : State) (w : Who) (k : Nat), s.mode ≠ 0 ∧ k < 8 ∧ s.admits w 1 ∧ (s.g (K.TN_STATE k) ≠ 3 ∨ s.g K.CAL_REF_STATE ≠ 1 ∨ (s.link k).calOk = false)) ∧
    (∃ (s : State) (k : Nat) (f : TimeFrame), s.mode ≠ 0 ∧ k < 8 ∧ f.seq < 2 ^ 32 ∧ f.rxSeq < 2 ^ 32 ∧ f.txPrev < 2 ^ 43 * qSecond ∧ f.rxTime < 2 ^ 43 * qSecond ∧ f.bound < 2 ^ 32 ∧ f.tdepth < 16 ∧ -(2 : Int) ^ 63 ≤ f.calRefPhase ∧ f.calRefPhase < 2 ^ 63) :=
  ⟨⟨(lv [(K.TN_STATE 7, 3), (K.TN_TIME_EN 7, 1)]).setLink 7 { txSeq := 2 ^ 32 - 1, rxSeq := some (4, 5), departs := [(6, 7)] }, 7, { seq := 0, rxSeq := 4, rxTime := 5, txPrev := 7, bound := 0xFFFFFFFF, tdepth := 15, viaYou := false, aligned := false, calValid := false, calRefPhase := 0, arrival := 0, ratio := 0 }, by decide +kernel⟩,
    ⟨(lv [(K.TN_STATE 7, 3)]).setLink 7 { lock := true }, 7, 9, readTime ⟨timeBytes default, 9, 5⟩, timeBytes default, 5, by decide +kernel⟩,
    ⟨(lv [(K.TN_STATE 7, 3), (K.TN_ASYM 7, 3)]).setLink 7 { lock := true, txSeq := 8, rxSeq := some (4, 5000), departs := [(6, 7), (5, 3000)] }, 7, 3000, 5000, 4, 8000, readTime ⟨timeBytes { seq := 5, rxSeq := 5, txPrev := 4900, rxTime := 3300, bound := 0, tdepth := 0, viaYou := false, aligned := true, calValid := true, calRefPhase := 0, arrival := 0, ratio := 0 }, 8000, 0⟩, timeBytes { seq := 5, rxSeq := 5, txPrev := 4900, rxTime := 3300, bound := 0, tdepth := 0, viaYou := false, aligned := true, calValid := true, calRefPhase := 0, arrival := 0, ratio := 0 }, 0, by decide +kernel⟩,
    ⟨(lv [(K.TN_STATE 7, 3), (K.TN_ASYM 7, 3), (K.CAL_REF_STATE, 1)]).setLink 7 { lock := true, asym := some (50, 1023, 900000, 10 ^ 9), txSeq := 8, rxSeq := some (4, 5000), departs := [(6, 7), (5, 3000)] }, 7, 50, 3000, 5000, 10 ^ 9, 4, 8000, readTime ⟨timeBytes { seq := 5, rxSeq := 5, txPrev := 4900, rxTime := 3300, bound := 0, tdepth := 0, viaYou := false, aligned := true, calValid := true, calRefPhase := 0, arrival := 0, ratio := 0 }, 8000, 0⟩, timeBytes { seq := 5, rxSeq := 5, txPrev := 4900, rxTime := 3300, bound := 0, tdepth := 0, viaYou := false, aligned := true, calValid := true, calRefPhase := 0, arrival := 0, ratio := 0 }, 0, 3200, 900000, by decide +kernel⟩,
    ⟨(lv []).setLink 7 { lock := true }, 7, by decide +kernel⟩,
    ⟨(lv [(K.TN_STATE 7, 3), (K.CAL_REF_STATE, 1)]).setLink 7 { calOk := true }, w0, 7, by unfold State.admits; decide +kernel⟩,
    ⟨(lv [(K.TN_STATE 7, 3), (K.CAL_REF_STATE, 1), (K.TN_TIME_EN 7, 0)]).setLink 7 { calOk := true }, w0, 7, by unfold State.admits; decide +kernel⟩,
    ⟨lv [], w0, 7, by unfold State.admits; decide +kernel⟩,
    ⟨lv [], 7, { seq := 2 ^ 32 - 1, rxSeq := 7, txPrev := 2 ^ 43 * qSecond - 1, rxTime := 3300, bound := 2 ^ 32 - 3, tdepth := 11, viaYou := true, aligned := false, calValid := true, calRefPhase := -(2 ^ 63), arrival := 5, ratio := 6 }, by decide +kernel⟩⟩

/-- The hypotheses of each clause of `Obligations.FabricFrames` hold together somewhere. -/
theorem witness_FabricFrames :
    (∃ (s : State) (k : Nat) (f : MgmtFrame), s.mode ≠ 0 ∧ k < 8 ∧ (s.link k).lock = true ∧ s.g (K.TN_STATE k) = 3 ∧ 8000 < f.age) ∧
    (∃ (s : State) (k : Nat) (f : MgmtFrame), s.mode ≠ 0 ∧ k < 8 ∧ (s.link k).lock = true ∧ s.g (K.TN_STATE k) = 3 ∧ f.age ≤ 8000 ∧ s.g K.FAB_ADDR = f.dst ∧ s.g K.FAB_ADDR_GEN ≠ f.dstGen) ∧
    (∃ (s : State) (k : Nat) (f : MgmtFrame), s.mode ≠ 0 ∧ k < 8 ∧ (s.link k).lock = true ∧ s.g (K.TN_STATE k) = 3 ∧ f.age ≤ 8000 ∧ s.g K.FAB_ADDR ≠ f.dst ∧ s.hopsTo f.dst < 16 ∧ f.hops < 15 ∧ s.routeGen f.dst = f.dstGen ∧ f.stay ≤ 524288000 ∧ f.age + ceilDiv (16 * f.stay + (s.gi (K.TN_DELAY (s.routeLink f.dst))).toNat) 16777216 ≤ 8000 ∧ s.linkUp (s.routeLink f.dst) = true ∧ s.lineFree (s.routeLink f.dst) = true) ∧
    (∃ (s : State) (k : Nat) (f : MgmtFrame), s.mode ≠ 0 ∧ k < 8 ∧ (s.link k).lock = true ∧ s.g (K.TN_STATE k) = 3 ∧ f.age ≤ 8000 ∧ s.g K.FAB_ADDR ≠ f.dst ∧ (16 ≤ s.hopsTo f.dst ∨ 15 ≤ f.hops)) ∧
    (∃ (s : State) (k : Nat) (f : MgmtFrame), s.mode ≠ 0 ∧ k < 8 ∧ (s.link k).lock = true ∧ s.g (K.TN_STATE k) = 3 ∧ f.age ≤ 8000 ∧ s.g K.FAB_ADDR = f.dst ∧ s.g K.FAB_ADDR_GEN = f.dstGen ∧ f.event = false ∧ f.response = true ∧ s.xidGenOf f.xid = f.xidGen ∧ s.xidHeld f.xid = false) ∧
    (∃ (s : State) (k : Nat), s.mode ≠ 0 ∧ k < 8 ∧ (s.link k).lock = true) ∧
    (∃ (s : State) (x : Nat), s.mode ≠ 0 ∧ s.xidHeld x = false) ∧
    (∃ (s : State), s.mode ≠ 0 ∧ s.g K.ETH_ENABLE ≠ 0 ∧ 100 ≤ s.host.ethCount) ∧
    (∃ (s : State), s.mode ≠ 0 ∧ s.g K.ETH_ENABLE ≠ 0 ∧ s.host.ethCount < 100) ∧
    (∃ (s : State) (k : Nat), s.mode ≠ 0 ∧ s.g K.ETH_ENABLE ≠ 0 ∧ s.host.ethCount < 100 ∧ Sp.find s.chans k = none) :=
  ⟨⟨(lv [(K.TN_STATE 7, 3)]).setLink 7 { lock := true }, 7, { (default : MgmtFrame) with age := 8001 }, by decide +kernel⟩,
    ⟨(lv [(K.TN_STATE 7, 3), (K.FAB_ADDR, 9), (K.FAB_ADDR_GEN, 4)]).setLink 7 { lock := true }, 7, { (default : MgmtFrame) with age := 8000, dst := 9, dstGen := 3 }, by decide +kernel⟩,
    ⟨(lv [(K.TN_STATE 7, 3), (K.FAB_ADDR, 9), (atRow K.FAB_ROUTES 12, routeRow 3 6 4), (K.TN_STATE 6, 3)]).setLink 7 { lock := true }, 7, { (default : MgmtFrame) with age := 7000, dst := 12, dstGen := 4, hops := 14, stay := 1048577 }, by decide +kernel⟩,
    ⟨(lv [(K.TN_STATE 7, 3), (K.FAB_ADDR, 9)]).setLink 7 { lock := true }, 7, { (default : MgmtFrame) with dst := 12, hops := 15 }, by decide +kernel⟩,
    ⟨{ (lv [(K.TN_STATE 7, 3), (K.FAB_ADDR, 9), (K.FAB_ADDR_GEN, 4)]).setLink 7 { lock := true } with fab := { xidGen := [(5, 255)] } }, 7, { (default : MgmtFrame) with response := true, dst := 9, dstGen := 4, xid := 5, xidGen := 255 }, by decide +kernel⟩,
    ⟨(lv []).setLink 7 { lock := true }, 7, by decide +kernel⟩,
    ⟨{ lv [] with fab := { xidGen := [(5, 254)], xidQuar := [(5, 99999)] } }, 5, by decide +kernel⟩,
    ⟨{ lv [(K.ETH_ENABLE, 1)] with host := { ethCount := 100 } }, by decide +kernel⟩,
    ⟨{ lv [(K.ETH_ENABLE, 1)] with host := { ethCount := 99 } }, by decide +kernel⟩,
    ⟨{ lv [(K.ETH_ENABLE, 1)] with host := { ethCount := 99 } }, 0, by decide +kernel⟩⟩

/-- The hypotheses of each clause of `Obligations.PadFaults` hold together somewhere. -/
theorem witness_PadFaults :
    (∃ (s : State) (c : Nat) (d : Nat), s.mode ≠ 0 ∧ c < 64 ∧ d < 3 ∧ s.detects c d = true ∧ s.detected c d = true ∧ bit (s.g (K.PAD_DIAG c)) d = false) ∧
    (∃ (s : State) (c : Nat), s.mode ≠ 0 ∧ c < 64 ∧ s.detects c 3 = true ∧ s.detected c 3 = true ∧ bit (s.g (K.PAD_DIAG c)) 3 = false) ∧
    (∃ (s : State) (c : Nat), s.mode ≠ 0 ∧ c < 64 ∧ s.detects c 4 = true ∧ s.detected c 4 = true ∧ bit (s.g (K.PAD_DIAG c)) 4 = false) ∧
    (∃ (s : State) (c : Nat) (d : Nat), s.mode ≠ 0 ∧ c < 64 ∧ (d = 3 ∨ d = 4) ∧ s.detectOver c d = true ∧ bit (s.g (K.PAD_DIAG c)) d = true) ∧
    (∃ (s : State) (c : Nat), s.mode ≠ 0 ∧ c < 64 ∧ s.g (K.PAD_SHUTDOWN c) ≠ 0 ∧ (s.pad c).probed + 125000 ≤ s.tick) ∧
    (∃ (s : State) (c : Nat), s.mode ≠ 0 ∧ c < 64 ∧ s.g (K.PAD_SHUTDOWN c) ≠ 0 ∧ (s.pad c).resume = true ∧ (s.pad c).probed < s.tick ∧ (s.pad c).waits = false ∧ s.g (K.PAD_FMT c) ≠ 0 ∧ s.src c ≠ 4) ∧
    (∃ (s : State) (c : Nat), s.mode ≠ 0 ∧ c < 64 ∧ s.g (K.PAD_SHUTDOWN c) ≠ 0 ∧ (s.pad c).resume = true ∧ (s.pad c).probed < s.tick ∧ (s.pad c).waits = false ∧ s.g (K.PAD_FMT c) ≠ 0 ∧ s.src c = 4 ∧ s.aux c = false) ∧
    (∃ (s : State) (c : Nat), s.mode ≠ 0 ∧ c < 64 ∧ s.g (K.PAD_SHUTDOWN c) ≠ 0 ∧ (s.pad c).resume = true ∧ (s.pad c).probed < s.tick ∧ ((s.pad c).waits = true ∨ s.g (K.PAD_FMT c) = 0)) :=
  ⟨⟨(lv [(K.PAD_FMT 9, 2), (K.PAD_DIAG_MASK 9, 31)]).setPad 9 { runs := [(0, 1), (0, 1), (4, 0), (0, 1)], wave := some {} }, 9, 2, by decide +kernel⟩,
    ⟨(lv [(K.PAD_FMT 9, 2), (K.PAD_DIAG_MASK 9, 31)]).setPad 9 { runs := [(0, 1), (0, 1), (0, 0), (16, 0)] }, 9, by decide +kernel⟩,
    ⟨(lv [(K.PAD_FMT 9, 2), (K.PAD_DIAG_MASK 9, 31), (K.PAD_LOOP_REF 9, 3), (K.PAD_AUTO_INV 9, 1)]).setPad 9 { back := (16, 0) }, 9, by decide +kernel⟩,
    ⟨(lv [(K.PAD_DIAG 63, 16)]).setPad 63 { back := (0, 16) }, 63, 4, by decide +kernel⟩,
    ⟨{ (lv [(K.PAD_SHUTDOWN 9, 1), (K.PAD_DIAG 9, 27)]).setPad 9 { clean := 2 } with tick := 125000 }, 9, by decide +kernel⟩,
    ⟨(lv [(K.PAD_SHUTDOWN 9, 1), (K.PAD_FMT 9, 2), (K.CH_SOURCE 9, 1)]).setPad 9 { clean := 3, resume := true, srcLevel := some true }, 9, by decide +kernel⟩,
    ⟨(lv [(K.PAD_SHUTDOWN 9, 1), (K.PAD_FMT 9, 2), (K.CH_SOURCE 9, 4), (K.PAD_PARK 9, 2), (K.PAD_LEVEL 9, 2)]).setPad 9 { clean := 3, resume := true, srcLevel := some true, prev := some {} }, 9, by decide +kernel⟩,
    ⟨(lv [(K.PAD_SHUTDOWN 9, 1)]).setPad 9 { clean := 3, resume := true, srcLevel := some true }, 9, by decide +kernel⟩⟩

/-- The hypotheses of each clause of `Obligations.PadSettings` hold together somewhere. -/
theorem witness_PadSettings :
    (∃ (s : State) (c : Nat) (x : Nat), s.mode ≠ 0 ∧ c < 64 ∧ (s.pad c).invert = some x ∧ x < s.tick ∧ s.aux c = false) ∧
    (∃ (s : State) (c : Nat) (x : Nat), s.mode ≠ 0 ∧ c < 64 ∧ s.g (K.IP_SETTLING c) ≠ 0 ∧ (s.pad c).settle = some x ∧ x + 4096 ≤ s.tick) ∧
    (∃ (s : State) (c : Nat), s.mode ≠ 0 ∧ c < 64 ∧ (s.pad c).waits = true ∧ fmtAccepts (s.g (K.PAD_FMT c)) (s.g (K.BANK_VDDO_CLASS (c / 8))) = true ∧ s.g (K.PAD_FMT c) ≠ 0 ∧ s.g (K.PAD_SHUTDOWN c) = 0 ∧ s.src c ≠ 4) ∧
    (∃ (s : State) (c : Nat), s.mode ≠ 0 ∧ c < 64 ∧ (s.pad c).waits = true ∧ fmtAccepts (s.g (K.PAD_FMT c)) (s.g (K.BANK_VDDO_CLASS (c / 8))) = true ∧ s.g (K.PAD_FMT c) ≠ 0 ∧ s.g (K.PAD_SHUTDOWN c) = 0 ∧ s.src c = 4 ∧ s.aux c = false) ∧
    (∃ (s : State) (c : Nat), s.mode ≠ 0 ∧ c < 64 ∧ (s.pad c).waits = true ∧ fmtAccepts (s.g (K.PAD_FMT c)) (s.g (K.BANK_VDDO_CLASS (c / 8))) = true ∧ (s.g (K.PAD_FMT c) = 0 ∨ s.g (K.PAD_SHUTDOWN c) ≠ 0)) ∧
    (∃ (s : State) (k : Nat) (x : Nat), s.mode ≠ 0 ∧ k < 8 ∧ s.vddoNext k = some x ∧ (∀ i ∈ List.range 8, fmtAccepts (s.g (K.PAD_FMT (8 * k + i))) x = true)) ∧
    (∃ (s : State) (c : Nat) (k : Nat) (x : Nat), s.mode ≠ 0 ∧ k < 8 ∧ s.vddoNext k = some x ∧ c / 8 = k ∧ fmtAccepts (s.g (K.PAD_FMT c)) x = false ∧ (s.pad c).waits = false) :=
  ⟨⟨(lv [(K.PAD_DIAG 9, 16), (K.PAD_AUTO_INVERTED 9, 1)]).setPad 9 { invert := some 0, back := (16, 0) }, 9, 0, by decide +kernel⟩,
    ⟨{ (lv [(K.IP_SETTLING 9, 1)]).setPad 9 { settle := some 7 } with tick := 4103 }, 9, 7, by decide +kernel⟩,
    ⟨(lv [(K.PAD_FMT 9, 5), (K.CH_SOURCE 9, 2), (K.BANK_VDDO_CLASS 1, 4)]).setPad 9 { waits := true }, 9, by decide +kernel⟩,
    ⟨(lv [(K.PAD_FMT 9, 5), (K.CH_SOURCE 9, 4), (K.PAD_PARK 9, 1), (K.BANK_VDDO_CLASS 1, 4)]).setPad 9 { waits := true }, 9, by decide +kernel⟩,
    ⟨(lv [(K.PAD_FMT 9, 0), (K.CH_SOURCE 9, 2), (K.BANK_VDDO_CLASS 1, 4)]).setPad 9 { waits := true }, 9, by decide +kernel⟩,
    ⟨(lv [(K.PAD_FMT 57, 5)]).setBank 7 { vIn := (4, 16) }, 7, 4, by decide +kernel⟩,
    ⟨(lv [(K.PAD_FMT 57, 5), (K.BANK_VDDO_CLASS 7, 4)]).setBank 7 { vOut := 16 }, 57, 7, 0, by decide +kernel⟩⟩

/-- The hypotheses of each clause of `Obligations.InputsAndFaults` hold together somewhere. -/
theorem witness_InputsAndFaults :
    (∃ (s : State) (n : Nat) (d : Nat), s.mode ≠ 0 ∧ n < 16 ∧ (d = 1 ∨ d = 2) ∧ s.g (K.IN_FMT n) = 1 ∧ bit (s.g (K.IN_DIAG n)) d = false) ∧
    (∃ (s : State) (n : Nat) (d : Nat), s.mode ≠ 0 ∧ n < 16 ∧ (d = 1 ∨ d = 2) ∧ s.g (K.IN_FMT n) = 1 ∧ bit (s.g (K.IN_DIAG n)) d = true) ∧
    (∃ (s : State) (n : Nat), s.mode ≠ 0 ∧ n < 16 ∧ s.g (K.IN_FMT n) = 1 ∧ s.slotType n = 1 ∧ bit (s.g (K.IN_DIAG n)) 3 = false) ∧
    (∃ (s : State) (n : Nat) (x : Nat), s.mode ≠ 0 ∧ n < 16 ∧ (s.inp n).invert = some x ∧ x < s.tick) ∧
    (∃ (s : State) (n : Nat), s.mode ≠ 0 ∧ n < 4 ∧ 16 ≤ s.supOut.getD n 0) ∧
    (∃ (s : State) (k : Nat) (f : Nat), s.mode ≠ 0 ∧ k < 72 ∧ f % 32 ≠ 0 ∧ s.g (K.IP_STATE k) = 2) ∧
    (∃ (s : State) (k : Nat) (f : Nat), s.mode ≠ 0 ∧ k < 64 ∧ f % 32 ≠ 0 ∧ s.g (K.IP_STATE k) ≠ 2 ∧ s.g (K.CALB_CORE (k / 8)) ≠ k ∧ bit (f % 32) 2 = false) ∧
    (∃ (s : State) (k : Nat) (f : Nat), s.mode ≠ 0 ∧ 64 ≤ k ∧ k < 72 ∧ f % 32 ≠ 0 ∧ s.g (K.IP_STATE k) ≠ 2 ∧ s.g (K.CALB_CORE (k - 64)) ≠ k ∧ bit (f % 32) 2 = false ∧ s.fedBy (k - 64) = none ∧ (s.bank (k - 64)).change = none) ∧
    (∃ (s : State) (n : Nat) (k : Nat) (f : Nat), s.mode ≠ 0 ∧ 64 ≤ k ∧ k < 72 ∧ f % 32 ≠ 0 ∧ s.g (K.IP_STATE k) ≠ 2 ∧ s.g (K.CALB_CORE (k - 64)) ≠ k ∧ bit (f % 32) 2 = false ∧ s.fedBy (k - 64) = some n ∧ n < 64 ∧ s.g (K.IP_STATE n) = 0 ∧ (s.bank (k - 64)).change = none) :=
  ⟨⟨lv [(K.IN_FMT 15, 1)], 15, 2, by decide +kernel⟩,
    ⟨lv [(K.IN_FMT 15, 1), (K.IN_DIAG 15, 2)], 15, 1, by decide +kernel⟩,
    ⟨lv [(K.IN_FMT 15, 1), (K.SLOT_TYPE 15, 1), (K.IN_AUTO_INV 15, 1)], 15, by decide +kernel⟩,
    ⟨(lv [(K.IN_DIAG 15, 8), (K.IN_INV_TOGGLES 15, 3)]).setInp 15 { invert := some 99999 }, 15, 99999, by decide +kernel⟩,
    ⟨{ lv [] with supOut := [0, 0, 0, 16] }, 3, by decide +kernel⟩,
    ⟨lv [(K.IP_STATE 71, 2), (K.IP_FAULT 71, 5)], 71, 31, by decide +kernel⟩,
    ⟨lv [(K.IP_STATE 63, 0), (K.CH_CORE 63, 63), (K.CH_SOURCE 63, 1)], 63, 33, by decide +kernel⟩,
    ⟨(lv [(K.IP_STATE 71, 0), (K.SP_STATE 7, 1), (K.SP_COVERS 7, 255)]).setBank 7 { search := some { why := .back, ch := 60, req := 1 } }, 71, 8, by decide +kernel⟩,
    ⟨(lv [(K.IP_STATE 71, 0), (K.IP_STATE 60, 0), (K.CH_CORE 60, 71), (K.CH_SOURCE 60, 1), (K.SP_STATE 7, 4), (K.SP_COVERS 7, 60)]).setBank 7 { search := some { why := .back, ch := 60, req := 1 } }, 60, 71, 8, by decide +kernel⟩⟩

/-- The hypotheses of each clause of `Obligations.Spares` hold together somewhere. -/
theorem witness_Spares :
    (∃ (s : State) (w : Who) (k : Nat) (c : Nat), s.mode ≠ 0 ∧ k < 8 ∧ s.admits w 1 ∧ c / 8 = k ∧ s.g (K.SP_STATE k) = 0) ∧
    (∃ (s : State) (w : Who) (k : Nat) (c : Nat), s.mode ≠ 0 ∧ k < 8 ∧ s.admits w 1 ∧ c / 8 ≠ k) ∧
    (∃ (s : State) (w : Who) (k : Nat) (c : Nat), s.mode ≠ 0 ∧ k < 8 ∧ s.admits w 1 ∧ c / 8 = k ∧ s.g (K.SP_STATE k) ≠ 0) ∧
    (∃ (s : State) (w : Who) (k : Nat) (c : Nat), s.mode ≠ 0 ∧ k < 8 ∧ s.admits w 1 ∧ (s.g (K.SP_STATE k) = 3 ∨ s.g (K.SP_STATE k) = 4) ∧ s.g (K.SP_COVERS k) = c ∧ c < 64 ∧ (s.bank k).change = none ∧ s.g (K.IP_STATE c) = 0) ∧
    (∃ (s : State) (w : Who) (k : Nat), s.mode ≠ 0 ∧ k < 8 ∧ s.admits w 1 ∧ s.g (K.SP_STATE k) ≠ 3 ∧ s.g (K.SP_STATE k) ≠ 4) ∧
    (∃ (s : State) (k : Nat) (c : Nat) (y : XChange), s.mode ≠ 0 ∧ k < 8 ∧ (s.bank k).change = some y ∧ y.due ≤ s.tick ∧ y.back = none ∧ y.cover = some c ∧ s.g (K.CALB_STATE k) = 0) ∧
    (∃ (s : State) (k : Nat) (c : Nat) (y : XChange), s.mode ≠ 0 ∧ k < 8 ∧ (s.bank k).change = some y ∧ y.due ≤ s.tick ∧ y.back = some c ∧ y.cover = none ∧ s.g (K.CALB_STATE k) = 0 ∧ (s.bank k).waiting = []) ∧
    (∃ (s : State) (k : Nat) (x : Search), s.mode ≠ 0 ∧ k < 8 ∧ (s.bank k).search = some x ∧ (s.bank k).change = none ∧ x.why ≠ .back ∧ x.req + 999 ≤ s.tick ∧ s.g (K.CALB_STATE k) ≠ 1 ∧ (s.bank k).waiting = []) ∧
    (∃ (s : State) (k : Nat) (x : Search), s.mode ≠ 0 ∧ k < 8 ∧ (s.bank k).search = some x ∧ (s.bank k).change = none ∧ x.why = .back ∧ x.req + 999 ≤ s.tick) :=
  ⟨⟨lv [], w0, 7, 63, by unfold State.admits; decide +kernel⟩,
    ⟨lv [], w0, 7, 55, by unfold State.admits; decide +kernel⟩,
    ⟨lv [(K.SP_STATE 7, 3)], w0, 7, 56, by unfold State.admits; decide +kernel⟩,
    ⟨lv [(K.SP_STATE 7, 4), (K.SP_COVERS 7, 60), (K.IP_STATE 60, 0), (K.CH_CORE 60, 71)], w0, 7, 60, by unfold State.admits; decide +kernel⟩,
    ⟨lv [], w0, 7, by unfold State.admits; decide +kernel⟩,
    ⟨(lv [(K.SP_STATE 7, 3)]).setBank 7 { change := some { back := none, cover := some 60, after := 3, due := 100000 } }, 7, 60, { back := none, cover := some 60, after := 3, due := 100000 }, by decide +kernel⟩,
    ⟨(lv [(K.SP_STATE 7, 5), (K.SP_COVERS 7, 60), (K.CH_CORE 60, 71)]).setBank 7 { change := some { back := some 60, cover := none, after := 0, due := 100000 } }, 7, 60, { back := some 60, cover := none, after := 0, due := 100000 }, by decide +kernel⟩,
    ⟨{ (lv [(K.SP_STATE 7, 1)]).setBank 7 { search := some { why := .host, ch := 60, req := 1 } } with tick := 1000 }, 7, { why := .host, ch := 60, req := 1 }, by decide +kernel⟩,
    ⟨{ (lv [(K.SP_STATE 7, 5)]).setBank 7 { search := some { why := .back, ch := 60, req := 1 } } with tick := 1000 }, 7, { why := .back, ch := 60, req := 1 }, by decide +kernel⟩⟩

/-- The hypotheses of each clause of `Obligations.CalPhases` hold together somewhere. -/
theorem witness_CalPhases :
    (∃ (s : State) (k : Nat) (c : Nat), s.mode ≠ 0 ∧ k < 8 ∧ 2 ≤ s.mode ∧ (s.calQueue k).g (K.CALB_STATE k) = 0 ∧ (s.calQueue k).calNext k = some c ∧ (s.calQueue k).directPath c = true) ∧
    (∃ (s : State) (k : Nat) (c : Nat), s.mode ≠ 0 ∧ k < 8 ∧ 2 ≤ s.mode ∧ (s.calQueue k).g (K.CALB_STATE k) = 0 ∧ (s.calQueue k).calNext k = some c ∧ (s.calQueue k).directPath c = false) ∧
    (∃ (s : State) (k : Nat), s.mode ≠ 0 ∧ k < 8 ∧ s.g (K.CALB_STATE k) = 2 ∧ (s.calOf k).began + 64 ≤ s.tick ∧ s.clock ≠ .byp) ∧
    (∃ (s : State) (k : Nat) (x : Nat), s.mode ≠ 0 ∧ k < 8 ∧ s.g (K.CALB_STATE k) = 4 ∧ (s.calOf k).stepAt ≤ s.tick ∧ s.entriesOf (s.g (K.CALB_CORE k)) = (s.calOf k).new ∧ (s.calOf k).last = some x ∧ x < s.tick) ∧
    (∃ (s : State) (k : Nat) (c : Nat) (x : Nat), s.mode ≠ 0 ∧ k < 8 ∧ s.g (K.CALB_STATE k) = 7 ∧ s.g (K.CALB_CORE k) = c ∧ c < 72 ∧ s.entriesOf c = (s.calOf k).old ∧ (s.calOf k).last = some x ∧ x < s.tick ∧ (s.calOf k).swap = false) ∧
    (∃ (s : State) (k : Nat) (c : Nat) (x : Nat), s.mode ≠ 0 ∧ k < 8 ∧ s.g (K.CALB_STATE k) = 7 ∧ s.g (K.CALB_CORE k) = c ∧ c < 72 ∧ s.entriesOf c = (s.calOf k).old ∧ (s.calOf k).last = some x ∧ x < s.tick ∧ (s.calOf k).swap = true ∧ (s.calOf k).home = false) ∧
    (∃ (s : State) (c : Nat) (x : Nat), s.mode ≠ 0 ∧ Sp.find s.calRetry c = some x ∧ x ≤ s.tick ∧ setBit (s.g (K.CORE_CAL_REASON c)) 6 false ≠ 0) ∧
    (∃ (s : State) (c : Nat) (x : Nat), s.mode ≠ 0 ∧ Sp.find s.calRetry c = some x ∧ x ≤ s.tick ∧ setBit (s.g (K.CORE_CAL_REASON c)) 6 false = 0) :=
  ⟨⟨{ lv [(K.CORE_CAL_REASON 60, 4), (K.IP_STATE 60, 3), (K.CALB_CORE 7, 255)] with clock := .spindle }, 7, 60, by decide +kernel⟩,
    ⟨{ lv [(K.CORE_CAL_REASON 60, 4), (K.CH_SOURCE 60, 1), (K.PAD_FMT 60, 2), (K.CALB_CORE 7, 255)] with clock := .spindle }, 7, 60, by decide +kernel⟩,
    ⟨{ (lv [(K.CALB_STATE 7, 2)]).setCal 7 { began := 100000 - 64, noRef := true } with clock := .spindle }, 7, by decide +kernel⟩,
    ⟨(lv [(K.CALB_STATE 7, 4), (K.CALB_CORE 7, 60)]).setCal 7 { new := List.replicate 512 0, last := some 99999 }, 7, 99999, by decide +kernel⟩,
    ⟨(lv [(K.CALB_STATE 7, 7), (K.CALB_CORE 7, 60), (K.IP_STATE 60, 1)]).setCal 7 { old := List.replicate 512 0, prior := 2, last := some 99999 }, 7, 60, 99999, by decide +kernel⟩,
    ⟨(lv [(K.CALB_STATE 7, 7), (K.CALB_CORE 7, 60), (K.SP_STATE 7, 2), (K.SP_COVERS 7, 60), (K.CH_CORE 60, 71), (K.CH_SOURCE 60, 1), (K.IP_STATE 60, 1)]).setCal 7 { swap := true, old := List.replicate 512 0, prior := 2, last := some 99999 }, 7, 60, 99999, by decide +kernel⟩,
    ⟨{ lv [(K.CORE_CAL_REASON 71, 65)] with calRetry := [(71, 100000)] }, 71, 100000, by decide +kernel⟩,
    ⟨{ lv [(K.CORE_CAL_REASON 71, 64), (K.CORE_CAL_AGE 71, 4)] with calRetry := [(71, 100000)], calSince := [(71, 5)] }, 71, 100000, by decide +kernel⟩⟩

/-- The hypotheses of each clause of `Obligations.CalResults` hold together somewhere. -/
theorem witness_CalResults :
    (∃ (s : State) (k : Nat) (c : Nat) (res : List Int) (b : CalBlock), s.mode ≠ 0 ∧ k < 8 ∧ s.g (K.CALB_CORE k) = c ∧ c < 72 ∧ s.clock ≠ .byp ∧ s.g (K.CALB_STATE k) = 3 ∧ (s.calOf k).began + 299594 ≤ s.tick ∧ res.length = 512 ∧ s.blockCode b none (s.calOf k).noRef = 0 ∧ (∀ p ∈ (s.entriesOf c).zip res, -32768 ≤ p.1 - p.2 ∧ p.1 - p.2 ≤ 32767)) ∧
    (∃ (s : State) (k : Nat) (c : Nat) (res : List Int) (b : CalBlock), s.mode ≠ 0 ∧ k < 8 ∧ s.g (K.CALB_CORE k) = c ∧ c < 72 ∧ s.clock ≠ .byp ∧ s.g (K.CALB_STATE k) = 3 ∧ (s.calOf k).began + 299594 ≤ s.tick ∧ res.length = 512 ∧ s.blockCode b none (s.calOf k).noRef ≠ 0 ∧ (s.calOf k).last = none ∧ (s.calOf k).swap = false) ∧
    (∃ (s : State) (k : Nat) (c : Nat) (ea : Int) (eb : Int) (b : CalBlock), s.mode ≠ 0 ∧ k < 8 ∧ s.g (K.CALB_CORE k) = c ∧ c < 72 ∧ s.clock ≠ .byp ∧ s.g (K.CALB_STATE k) = 5 ∧ (s.calOf k).began + 1171 ≤ s.tick ∧ s.blockCode b none (s.calOf k).noRef = 0 ∧ sixteenthsToBound ea ≤ 4 ∧ sixteenthsToBound eb ≤ 4 ∧ (s.calOf k).swap = false ∧ c < 64) ∧
    (∃ (s : State) (k : Nat) (c : Nat) (ea : Int) (eb : Int) (b : CalBlock), s.mode ≠ 0 ∧ k < 8 ∧ s.g (K.CALB_CORE k) = c ∧ c < 72 ∧ s.clock ≠ .byp ∧ s.g (K.CALB_STATE k) = 5 ∧ (s.calOf k).began + 1171 ≤ s.tick ∧ s.blockCode b none (s.calOf k).noRef = 0 ∧ (4 < sixteenthsToBound ea ∨ 4 < sixteenthsToBound eb) ∧ (s.calOf k).last = none ∧ (s.calOf k).swap = false) :=
  ⟨⟨{ (lv [(K.CALB_STATE 7, 3), (K.CALB_CORE 7, 60)]).setCal 7 { began := 0 } with tick := 299594, clock := .spindle }, 7, 60, List.replicate 512 (-7), { n := 9, mean := 0, sigma := 1, departure := 1, seen := 5, sent := 5, lowSwing := false }, by decide +kernel⟩,
    ⟨{ (lv [(K.CALB_STATE 7, 3), (K.CALB_CORE 7, 60)]).setCal 7 { began := 0, prior := 2 } with tick := 299594, clock := .spindle }, 7, 60, List.replicate 512 (-7), { n := 9, mean := 0, sigma := 1, departure := 1, seen := 4, sent := 5, lowSwing := false }, by decide +kernel⟩,
    ⟨{ (lv [(K.CALB_STATE 7, 5), (K.CALB_CORE 7, 60), (K.CORE_CAL_REASON 60, 7), (K.IP_STATE 60, 1)]).setCal 7 { began := 0, prior := 2, temp := -55 } with tick := 1171, clock := .spindle }, 7, 60, -4, 5, { n := 9, mean := 0, sigma := 1, departure := 1, seen := 5, sent := 5, lowSwing := false }, by decide +kernel⟩,
    ⟨{ (lv [(K.CALB_STATE 7, 5), (K.CALB_CORE 7, 60), (K.CORE_CAL_REASON 60, 7), (K.IP_STATE 60, 1)]).setCal 7 { began := 0, prior := 2, temp := -55 } with tick := 1171, clock := .spindle }, 7, 60, -4000000, 5, { n := 9, mean := 0, sigma := 1, departure := 1, seen := 5, sent := 5, lowSwing := false }, by decide +kernel⟩⟩

/-- The hypotheses of each clause of `Obligations.CalRequests` hold together somewhere. -/
theorem witness_CalRequests :
    (∃ (s : State) (w : Who) (c : Nat), s.mode ≠ 0 ∧ s.admits w 1 ∧ s.calRuns c = false) ∧
    (∃ (s : State) (w : Who) (c : Nat), s.mode ≠ 0 ∧ s.admits w 1 ∧ s.calRuns c = true) ∧
    (∃ (s : State) (w : Who), s.mode ≠ 0 ∧ s.admits w 1) ∧
    (∃ (s : State) (c : Nat), s.mode ≠ 0 ∧ c < 72 ∧ s.g K.CAL_AUTO ≠ 0 ∧ s.g K.CAL_PERIOD ≠ 0 ∧ s.g (K.CORE_CAL_FN c) + s.g K.CAL_PERIOD * 1250000 ≤ s.fn ∧ s.calRuns c = false) ∧
    (∃ (s : State) (c : Nat), s.mode ≠ 0 ∧ c < 72 ∧ s.g (K.CORE_CAL_OVERDUE c) = 0 ∧ s.g K.CAL_OVERDUE * 1250000 < s.calAge c ∧ s.g K.CAL_OVERDUE_BANKS = 0 ∧ bit (s.g K.REPLACE_REASON) 10 = false) ∧
    (∃ (s : State) (rs : List Nat), s.mode ≠ 0 ∧ 2 ≤ s.mode ∧ s.clock ≠ .byp ∧ rs.length = 9 ∧ s.selfCal.all (fun t => t + 1250000 ≤ s.tick) = true) :=
  ⟨⟨lv [(K.CALB_STATE 7, 3), (K.CALB_CORE 7, 60)], w0, 71, by unfold State.admits; decide +kernel⟩,
    ⟨lv [(K.CALB_STATE 7, 3), (K.CALB_CORE 7, 71)], w0, 71, by unfold State.admits; decide +kernel⟩,
    ⟨lv [(K.CALB_STATE 7, 3), (K.CALB_CORE 7, 60)], w0, by unfold State.admits; decide +kernel⟩,
    ⟨lv [(K.CAL_AUTO, 1), (K.CAL_PERIOD, 2), (K.TS_FN, 2500009), (K.CORE_CAL_FN 71, 9)], 71, by decide +kernel⟩,
    ⟨{ lv [(K.CAL_OVERDUE, 1), (K.CORE_CAL_REASON 71, 1)] with calSince := [(71, 1)], tick := 1250001 }, 71, by decide +kernel⟩,
    ⟨{ lv [] with clock := .spindle, tick := 1250003, selfCal := some 3 }, [3, 9, 4, 0, 0, 0, 0, 0, 0], by decide +kernel⟩⟩

/-- The hypotheses of each clause of `Obligations.AuditAndAnchors` hold together somewhere. -/
theorem witness_AuditAndAnchors :
    (∃ (s : State) (c : Nat) (b : CalBlock), s.mode ≠ 0 ∧ c < 64 ∧ s.clock = .spindle ∧ 2 ≤ s.mode ∧ s.sampled c b.n = true ∧ (b.n = 256 ∨ (16 ≤ b.n ∧ b.n < 256 ∧ (s.pad c).auditAt + 1024 ≤ s.tick)) ∧ s.blockCode b (some c) false = 0) ∧
    (∃ (s : State) (c : Nat) (b : CalBlock), s.mode ≠ 0 ∧ c < 64 ∧ s.clock = .spindle ∧ 2 ≤ s.mode ∧ s.sampled c b.n = true ∧ (b.n = 256 ∨ (16 ≤ b.n ∧ b.n < 256 ∧ (s.pad c).auditAt + 1024 ≤ s.tick)) ∧ s.blockCode b (some c) false ≠ 0) ∧
    (∃ (s : State) (w : Who) (c : Nat), s.mode ≠ 0 ∧ s.admits w 3 ∧ s.mode = 9 ∧ c < 64 ∧ s.src c = 0 ∧ s.g (K.PAD_FMT c) ≠ 0 ∧ s.g K.CAL_REF_STATE = 1 ∧ s.g K.ANC_FIXTURE_UNC ≠ unknownBound ∧ s.g (K.CALB_STATE (c / 8)) = 0 ∧ s.g K.ANC_STATE = 0) ∧
    (∃ (s : State) (w : Who) (c : Nat), s.mode ≠ 0 ∧ s.admits w 3 ∧ c < 64 ∧ (s.mode ≠ 9 ∨ s.src c ≠ 0 ∨ s.g (K.PAD_FMT c) = 0 ∨ s.g K.CAL_REF_STATE ≠ 1)) ∧
    (∃ (s : State) (k : Nat) (b : CalBlock) (a : AncRun), s.mode ≠ 0 ∧ s.ancRun = some a ∧ a.ch / 8 = k ∧ s.clock ≠ .byp ∧ a.due = none ∧ a.core = a.ch ∧ a.left = [] ∧ (a.began.any (fun x => x + s.g K.ANC_EDGES ≤ s.tick)) = true ∧ s.g (K.CH_CORE a.ch) = a.ch ∧ s.blockCode b (some a.ch) a.noRef = 0) ∧
    (∃ (s : State) (k : Nat) (b : CalBlock) (a : AncRun), s.mode ≠ 0 ∧ s.ancRun = some a ∧ a.ch / 8 = k ∧ s.clock ≠ .byp ∧ a.due = none ∧ (a.began.any (fun x => x + s.g K.ANC_EDGES ≤ s.tick)) = true ∧ s.g (K.CH_CORE a.ch) = a.ch ∧ s.blockCode b (some a.ch) a.noRef ≠ 0) ∧
    (∃ (s : State) (k : Nat) (a : AncRun), s.mode ≠ 0 ∧ s.ancRun = some a ∧ a.ch / 8 = k ∧ (a.due.any (fun x => x ≤ s.tick)) = true) :=
  ⟨⟨{ (lv [(K.PAD_FMT 63, 2), (K.PAD_AMP 63, 15), (K.IP_SETTLING 63, 1)]).setBank 7 { samples := 300, used := 40 } with clock := .spindle }, 63, { n := 256, mean := 16385, sigma := 1, departure := 1, seen := 5, sent := 5, lowSwing := false, swing := 750 }, by decide +kernel⟩,
    ⟨{ (lv [(K.PAD_FMT 63, 2), (K.PAD_AMP 63, 15), (K.PAD_DIAG 63, 8)]).setBank 7 { samples := 300, used := 40 } with clock := .spindle }, 63, { n := 256, mean := 16385, sigma := 1, departure := 1, seen := 5, sent := 5, lowSwing := false, swing := 750 }, by decide +kernel⟩,
    ⟨st [(K.MODE, 9), (K.PAD_FMT 63, 2), (K.CAL_REF_STATE, 1), (K.ANC_FIXTURE_UNC, 7)], w0, 63, by unfold State.admits; decide +kernel⟩,
    ⟨lv [], w0, 63, by unfold State.admits; decide +kernel⟩,
    ⟨{ st [(K.MODE, 9), (K.PAD_FMT 63, 2), (K.CAL_REF_STATE, 1), (K.ANC_FIXTURE_UNC, 7), (K.ANC_OWN 63, 70), (K.ANC_EDGES, 9), (K.PAD_AMP 63, 15), (K.CH_CORE 63, 63)] with clock := .spindle, ancRun := some { ch := 63, core := 63, began := some 99991 } }, 7, { n := 256, mean := 50, sigma := 1, departure := 1, seen := 5, sent := 5, lowSwing := false, swing := 750 }, { ch := 63, core := 63, began := some 99991 }, by decide +kernel⟩,
    ⟨{ st [(K.MODE, 9), (K.PAD_FMT 63, 2), (K.CAL_REF_STATE, 1), (K.ANC_STATE, 1), (K.ANC_EDGES, 9), (K.PAD_AMP 63, 15), (K.CH_CORE 63, 63)] with clock := .spindle, ancRun := some { ch := 63, core := 63, began := some 99991, noRef := true } }, 7, { n := 256, mean := 50, sigma := 1, departure := 1, seen := 5, sent := 4, lowSwing := false, swing := 750 }, { ch := 63, core := 63, began := some 99991, noRef := true }, by decide +kernel⟩,
    ⟨{ st [(K.MODE, 9), (K.ANC_STATE, 1), (K.ANC_OWN 63, 8), (K.CH_TRIM 63, 2 ^ 64 - 5)] with ancRun := some { ch := 63, core := 63, due := some 100000, done := [(63, 55, 4)], base := some 6 } }, 7, { ch := 63, core := 63, due := some 100000, done := [(63, 55, 4)], base := some 6 }, by decide +kernel⟩⟩

/-- The hypotheses of each clause of `Obligations.CalStores` hold together somewhere. -/
theorem witness_CalStores :
    (∃ (s : State) (w : Who), s.mode ≠ 0 ∧ s.admits w 1) ∧
    (∃ (s : State) (p : Nat), s.mode ≠ 0 ∧ s.storeIsDue = true ∧ 2 ≤ s.mode ∧ s.leastWritten (if s.g K.NVM_SET_BANK = 0 then 1 else 0) [] = some p) ∧
    (∃ (s : State) (p : Nat) (l : List Nat) (set : NvmSet), s.mode ≠ 0 ∧ s.store = some (p :: l, set) ∧ (∀ q ∈ set.objs, q.1 ≠ K.CAL_COUNT ∧ q.1 ≠ K.CAL_TIME)) ∧
    (∃ (s : State) (p : Nat) (l : List Nat) (set : NvmSet), s.mode ≠ 0 ∧ s.store = some (p :: l, set) ∧ 2 ≤ l.length) ∧
    (∃ (s : State) (p : Nat) (set : NvmSet), s.mode ≠ 0 ∧ s.store = some ([p], set) ∧ p < 32) :=
  ⟨⟨lv [], w0, by unfold State.admits; decide +kernel⟩,
    ⟨{ lv (((List.range 16).filter (· != 1)).map (fun i => (atRow K.NVM_SLOT_WRITES (16 + i), 4))) with storeDue := true }, 17, ⟨by decide +kernel, by decide +kernel, by decide +kernel, by rw [if_pos (by decide +kernel)]; exact leastWritten_single _ 1 1 (by decide +kernel)⟩⟩,
    ⟨{ lv [(K.NVM_STATE, 1)] with store := some ([17], { seq := 6, objs := [(5, 6)], corr := [], base := [] }) }, 17, [], { seq := 6, objs := [(5, 6)], corr := [], base := [] }, by decide +kernel⟩,
    ⟨{ lv [(K.NVM_STATE, 1)] with store := some ([17, 18, 19], { seq := 6, objs := [(5, 6)], corr := [], base := [] }) }, 17, [18, 19], { seq := 6, objs := [(5, 6)], corr := [], base := [] }, by decide +kernel⟩,
    ⟨{ lv [(K.NVM_STATE, 1)] with store := some ([17], { seq := 6, objs := [(5, 6)], corr := [], base := [] }) }, 17, { seq := 6, objs := [(5, 6)], corr := [], base := [] }, by decide +kernel⟩⟩

/-- The hypotheses of each clause of `Obligations.ModeRequests` hold together somewhere. -/
theorem witness_ModeRequests :
    (∃ (s : State) (w : Who) (m : Nat), s.admits w (modeNeed s.mode m) ∧ m ≤ 11 ∧ hostTransition s.mode m s.bootRom = true ∧ (s.mode = 2 → m ≠ 3) ∧ (¬(s.mode = 10 ∧ m = 3 ∧ s.safeSevere = true)) ∧ s.modePend.all (fun x => (if m = 10 then 0 else 2) < x.rank) = true) ∧
    (∃ (s : State) (w : Who) (m : Nat), s.admits w (modeNeed s.mode m) ∧ s.mode = 2 ∧ m = 3 ∧ s.bootRom = false ∧ s.modePend.all (fun x => 2 < x.rank) = true ∧ s.spnFrames ≤ 2500) ∧
    (∃ (s : State) (w : Who) (m : Nat), s.admits w (modeNeed s.mode m) ∧ s.mode = 2 ∧ m = 3 ∧ s.bootRom = false ∧ s.modePend.all (fun x => 2 < x.rank) = true ∧ 2500 < s.spnFrames) ∧
    (∃ (s : State) (w : Who) (m : Nat), s.admits w (modeNeed s.mode m) ∧ s.mode = 10 ∧ m = 3 ∧ s.safeSevere = true) ∧
    (∃ (s : State) (w : Who) (m : Nat), s.admits w (modeNeed s.mode m) ∧ m ≤ 11 ∧ hostTransition s.mode m s.bootRom = false) ∧
    (∃ (s : State) (w : Who) (m : Nat), s.admits w (modeNeed s.mode m) ∧ 11 < m) ∧
    (∃ (s : State) (w : Who) (m : Nat) (p : ModePend), s.admits w (modeNeed s.mode m) ∧ m ≤ 11 ∧ hostTransition s.mode m s.bootRom = true ∧ (¬(s.mode = 10 ∧ m = 3 ∧ s.safeSevere = true)) ∧ s.modePend = some p ∧ p.rank ≤ (if m = 10 then 0 else 2)) :=
  ⟨⟨{ st [(K.MODE, 9), (K.TS_FN, 5)] with modePend := some { target := 4, due := 7, cause := 2, rank := 3 } }, w0, 3, by unfold State.admits; decide +kernel⟩,
    ⟨st [(K.MODE, 2), (K.TS_FN, 5)], w0, 3, by unfold State.admits; decide +kernel⟩,
    ⟨{ st [(K.MODE, 2), (K.TS_FN, 5)] with spnFrames := 2501 }, w0, 3, by unfold State.admits; decide +kernel⟩,
    ⟨st [(K.MODE, 10), (atRow K.FC_CONFIG 5, 7 * 2 ^ 58), (K.FC_SEVERE_LO, 32)], w0, 3, by unfold State.admits; decide +kernel⟩,
    ⟨lv [], w0, 4, by unfold State.admits; decide +kernel⟩,
    ⟨lv [], w0, 12, by unfold State.admits; decide +kernel⟩,
    ⟨{ lv [] with modePend := some { target := 9, due := 0, cause := 0, rank := 2 } }, w0, 11, { target := 9, due := 0, cause := 0, rank := 2 }, by unfold State.admits; decide +kernel⟩⟩

/-- The hypotheses of each clause of `Obligations.ModeTransitions` hold together somewhere. -/
theorem witness_ModeTransitions :
    (∃ (s : State) (p : ModePend), s.mode ≠ 0 ∧ s.modePend = some p ∧ p.due ≤ s.tick ∧ 3 ≤ s.mode ∧ s.mode ≤ 8 ∧ s.triggerHolds p = true ∧ 3 ≤ s.finalTarget p ∧ s.finalTarget p ≤ 9) ∧
    (∃ (s : State) (p : ModePend), s.mode ≠ 0 ∧ s.modePend = some p ∧ p.due ≤ s.tick ∧ 2 ≤ s.mode ∧ s.mode ≠ 10 ∧ s.mode ≠ 11 ∧ p.target = 10 ∧ p.rank = 0) ∧
    (∃ (s : State) (p : ModePend), s.mode ≠ 0 ∧ s.modePend = some p ∧ p.due ≤ s.tick ∧ s.triggerHolds p = false) :=
  ⟨⟨{ st [(K.MODE, 6), (K.MODE_PENDING, 9)] with modePend := some { target := 9, due := 100000, cause := 1, rank := 2 } }, { target := 9, due := 100000, cause := 1, rank := 2 }, by decide +kernel⟩,
    ⟨{ lv [(K.SQ_STATE 3, 3), (K.PAD_FMT 9, 2), (K.CH_SOURCE 9, 1), (K.PAD_PARK 9, 1)] with modePend := some { target := 10, due := 100000, cause := 5, rank := 0 } }, { target := 10, due := 100000, cause := 5, rank := 0 }, by decide +kernel⟩,
    ⟨{ st [(K.MODE, 6), (K.MODE_PENDING, 4), (K.HS_SELECTED, 255)] with modePend := some { target := 4, due := 100000, cause := 1, rank := 3 } }, { target := 4, due := 100000, cause := 1, rank := 3 }, by decide +kernel⟩⟩

/-- The hypotheses of each clause of `Obligations.FrameBoundaries` hold together somewhere. -/
theorem witness_FrameBoundaries :
    (∃ (s : State), s.mode ≠ 0) ∧
    (∃ (s : State), s.mode ≠ 0) ∧
    (∃ (s : State), s.mode ≠ 0 ∧ (s.reacts.any (fun r => r.due ≤ s.tick)) = true ∧ s.modePend.any (fun x => x.target == 10) = false ∧ (∀ b ∈ List.range 8, (s.bank b).change = none ∧ s.g (K.SP_STATE b) ≠ 3) ∧ s.resets = []) ∧
    (∃ (s : State) (k : Nat) (c : Nat) (y : XChange), s.mode ≠ 0 ∧ k < 8 ∧ s.modePend.any (fun x => x.target == 10) = false ∧ (∀ b ∈ List.range 8, b ≠ k → (s.bank b).change = none ∧ s.g (K.SP_STATE b) ≠ 3) ∧ s.resets = [] ∧ (s.bank k).change = some y ∧ y.due ≤ s.tick ∧ y.back = none ∧ y.cover = some c ∧ s.src c ≠ 0 ∧ s.g (K.SP_COVERS k) = c ∧ s.g (K.CALB_STATE k) = 0) ∧
    (∃ (s : State) (p : ModePend), s.mode ≠ 0 ∧ 2 ≤ s.mode ∧ s.mode ≠ 10 ∧ s.modePend = some p ∧ p.due ≤ s.tick ∧ p.target = 10 ∧ p.rank = 0 ∧ (∀ b ∈ List.range 8, (s.bank b).change = none ∧ s.g (K.SP_STATE b) ≠ 3) ∧ s.resets = []) :=
  ⟨⟨{ (lv []).setBank 7 { change := some { back := none, cover := some 60, after := 3, due := 100001 } } with modePend := some { target := 9, due := 100001, cause := 1, rank := 2 }, selPend := [(3, 100001), (4, 100003)], reacts := [{ src := 5, seq := 6, code := 6, mask := 0, due := 100001 }], resets := [{ blk := .calibration, inst := 7, src := 83, seq := 5, due := 100001 }] }, by decide +kernel⟩,
    ⟨{ (lv []).setBank 7 { change := some { back := none, cover := some 60, after := 3, due := 100000 } } with reacts := [{ src := 5, seq := 6, code := 3, mask := 0, due := 100000 }], resets := [{ blk := .calibration, inst := 7, src := 83, seq := 5, due := 100000 }] }, by decide +kernel⟩,
    ⟨{ lv [] with reacts := [{ src := 5, seq := 6, code := 6, mask := 0, due := 100000 }, { src := 7, seq := 6, code := 6, mask := 0, due := 100001 }] }, by decide +kernel⟩,
    ⟨{ (lv [(K.SP_STATE 7, 3), (K.SP_COVERS 7, 60), (K.CH_SOURCE 60, 1)]).setBank 7 { change := some { back := none, cover := some 60, after := 3, due := 100000 } } with reacts := [{ src := 40, seq := 6, code := 3, mask := 0, due := 100000 }] }, 7, 60, { back := none, cover := some 60, after := 3, due := 100000 }, by decide +kernel⟩,
    ⟨{ lv [(K.SQ_STATE 3, 3), (K.PAD_FMT 9, 2), (K.CH_SOURCE 9, 1), (K.PAD_PARK 9, 1)] with modePend := some { target := 10, due := 100000, cause := 5, rank := 0 } }, { target := 10, due := 100000, cause := 5, rank := 0 }, by decide +kernel⟩⟩

/-- The hypotheses of each clause of `Obligations.RecordCleared` hold together somewhere. -/
theorem witness_RecordCleared :
    (∃ (s : State) (w : Who) (src : Nat) (q : Nat), s.admits w 1 ∧ src < 128 ∧ q < 2 ^ 32 ∧ Rec.held (s.causeRec src) = true ∧ Rec.seq (s.causeRec src) = q) ∧
    (∃ (s : State) (w : Who) (src : Nat) (q : Nat), s.admits w 1 ∧ src < 128 ∧ q < 2 ^ 32 ∧ (¬(Rec.held (s.causeRec src) = true ∧ Rec.seq (s.causeRec src) = q))) :=
  ⟨⟨{ lv [(atRow K.FC_RECORDS 127, 9 * 2 ^ 32 + 2 ^ 31 + 3 * 2 ^ 192), (K.FC_LOG_HEAD, 1024)] with recOrd := [(127, 4)] }, w0, 127, 9, by unfold State.admits; decide +kernel⟩,
    ⟨lv [(atRow K.FC_RECORDS 127, 9 * 2 ^ 32 + 2 ^ 31 + 3 * 2 ^ 192)], w0, 127, 8, by unfold State.admits; decide +kernel⟩⟩

/-- The hypotheses of each clause of `Obligations.CollectorCommands` hold together somewhere. -/
theorem witness_CollectorCommands :
    (∃ (s : State) (w : Who), s.mode ≠ 0 ∧ s.admits w 3) ∧
    (∃ (s : State) (r : Nat), s.mode ≠ 0 ∧ r < 128) ∧
    (∃ (s : State) (r : Nat), s.mode ≠ 0 ∧ r < 128 ∧ s.mode ≠ 11) ∧
    (∃ (s : State) (r : Nat), s.mode ≠ 0 ∧ r < 128 ∧ 2 ≤ s.mode ∧ s.mode ≤ 9 ∧ s.modePend = none) ∧
    (∃ (s : State) (r : Nat), s.mode ≠ 0 ∧ r < 128 ∧ s.msixPend = 2 ^ r) ∧
    (∃ (s : State), s.mode ≠ 0 ∧ s.msixPend = 0) :=
  ⟨⟨lv [(K.REPLACE_REASON, 4097)], w0, by unfold State.admits; decide +kernel⟩,
    ⟨lv [], 127, by decide +kernel⟩,
    ⟨lv [], 127, by decide +kernel⟩,
    ⟨lv [(atRow K.FC_COUNT 127, 5), (atRow K.FC_RECORDS 127, 9 * 2 ^ 32 + 2 ^ 31)], 127, by decide +kernel⟩,
    ⟨{ lv [] with msixPend := 2 ^ 127, msixMask := 2 ^ 128 - 1 }, 127, by decide +kernel⟩,
    ⟨lv [], by decide +kernel⟩⟩

/-- The hypotheses of each clause of `Obligations.ResetsAndWindows` hold together somewhere. -/
theorem witness_ResetsAndWindows :
    (∃ (s : State) (i : Nat) (src : Nat) (r : PendReset), s.mode ≠ 0 ∧ s.resets.find? (fun y => y.blk = .link && y.inst == i && y.src == src && y.due ≤ s.tick) = some r ∧ i < 8 ∧ r.inst = i ∧ r.blk = .link ∧ s.g (K.TN_STATE i) = 0) ∧
    (∃ (s : State) (i : Nat) (src : Nat) (r : PendReset), s.mode ≠ 0 ∧ s.resets.find? (fun y => y.blk = .calibration && y.inst == i && y.src == src && y.due ≤ s.tick) = some r ∧ i < 8 ∧ r.inst = i ∧ r.blk = .calibration ∧ s.g (K.CALB_STATE i) = 0) ∧
    (∃ (s : State) (i : Nat) (b : Blk) (x : Shadow), s.mode ≠ 0 ∧ s.shadows.find? (fun y => y.isBlock b i) = some x ∧ s.settled b i x = true ∧ s.resets = [] ∧ s.shadows = [x]) ∧
    (∃ (s : State) (src : Nat), s.mode ≠ 0 ∧ src < 128 ∧ s.subBoundary src = true ∧ s.isSevere src = true ∧ s.windowCount src < Fc.threshold (s.fcRow src)) ∧
    (∃ (s : State) (src : Nat), s.mode ≠ 0 ∧ src < 128 ∧ s.subBoundary src = true ∧ s.forced.contains src = true ∧ s.windowCount src = 0) :=
  ⟨⟨{ lv [] with resets := [{ blk := .link, inst := 7, src := 102, seq := 5, due := 100000 }] }, 7, 102, { blk := .link, inst := 7, src := 102, seq := 5, due := 100000 }, by decide +kernel⟩,
    ⟨{ lv [] with resets := [{ blk := .calibration, inst := 7, src := 83, seq := 5, due := 100000 }] }, 7, 83, { blk := .calibration, inst := 7, src := 83, seq := 5, due := 100000 }, by decide +kernel⟩,
    ⟨{ lv [] with shadows := [{ kind := .block .stackPort 0, src := 97, seq := 5, start := 97440, till := none, logged := [] }], handling := [{ src := 97, seq := 5, order := 1, till := none }] }, 0, .stackPort, { kind := .block .stackPort 0, src := 97, seq := 5, start := 97440, till := none, logged := [] }, by decide +kernel⟩,
    ⟨lv [(atSub K.FC_SEVERE_LO 1, 2 ^ 63), (atRow K.FC_CONFIG 127, 5 * 2 ^ 26 + 2 ^ 36), (K.TS_FN, 7900)], 127, by decide +kernel⟩,
    ⟨{ lv [(K.TS_FN, 79 * 5000), (atRow K.FC_CONFIG 127, 2 ^ 36)] with forced := [127, 3] }, 127, by decide +kernel⟩⟩

/-- The hypotheses of each clause of `Obligations.ResetEntry` hold together somewhere. -/
theorem witness_ResetEntry :
    (∃ (s : State), s.store = none) ∧
    (∃ (s : State) (r : Nat), s.store = none ∧ r < 4) ∧
    (∃ (s : State), s.store = none) ∧
    (∃ (s : State), s.store = none ∧ s.mode ≠ 0 ∧ 16 ≤ s.hotFrames) ∧
    (∃ (s : State) (r : Nat), s.store = none ∧ 2 < r) ∧
    (∃ (s : State) (r : Nat), s.store = none ∧ r ≤ 2) ∧
    (∃ (s : State), s.store = none) :=
  ⟨⟨lv [(K.WOP_IDLE, 5)], by decide +kernel⟩,
    ⟨lv [(K.WOP_IDLE, 5)], 3, by decide +kernel⟩,
    ⟨lv [(K.WOP_IDLE, 5)], by decide +kernel⟩,
    ⟨{ lv [(K.WOP_IDLE, 5)] with hotFrames := 16 }, by decide +kernel⟩,
    ⟨lv [(K.WOP_IDLE, 5)], 3, by decide +kernel⟩,
    ⟨lv [], 2, by decide +kernel⟩,
    ⟨{ lv [] with m0Causes := 8 }, by decide +kernel⟩⟩

/-- The hypotheses of each clause of `Obligations.ResetRelease` hold together somewhere. -/
theorem witness_ResetRelease :
    (∃ (s : State) (l : Nat), s.mode = 0 ∧ bit s.m0Causes 2 = false ∧ bit s.m0Causes 3 = false ∧ 1 ≤ l ∧ l ≤ 3) ∧
    (∃ (s : State) (l : Nat), s.mode = 0 ∧ bit s.m0Causes 2 = false ∧ bit s.m0Causes 3 = false ∧ (l = 0 ∨ 3 < l)) ∧
    (∃ (s : State), s.mode = 0 ∧ bit s.m0Causes 2 = true ∧ setBit s.m0Causes 2 false = 0) ∧
    (∃ (s : State), s.mode = 0 ∧ bit s.m0Causes 2 = true ∧ setBit s.m0Causes 2 false ≠ 0) :=
  ⟨⟨{ State.reset with m0Causes := 3 }, 3, by decide +kernel⟩,
    ⟨{ State.reset with m0Causes := 3 }, 0, by decide +kernel⟩,
    ⟨{ State.reset with m0Causes := 4 }, by decide +kernel⟩,
    ⟨{ State.reset with m0Causes := 6 }, by decide +kernel⟩⟩

/-- The hypotheses of each clause of `Obligations.LoadSteps` hold together somewhere. -/
theorem witness_LoadSteps :
    (∃ (s : State) (i : Nat), s.mode = 1 ∧ s.host.fwSlot = none ∧ s.nextImage = some i) ∧
    (∃ (s : State) (i : Nat), s.mode = 1 ∧ s.host.fwSlot = none ∧ s.nextImage = some i ∧ s.host.fwTried = []) ∧
    (∃ (s : State) (i : Nat), s.mode = 1 ∧ s.host.fwSlot = none ∧ s.nextImage = some i ∧ s.host.fwTried = [1 - i] ∧ s.modePend = none) ∧
    (∃ (s : State) (i : Nat) (v : Nat) (set : NvmSet), s.mode = 1 ∧ s.host.bootSet = some (v, set) ∧ i < 72 ∧ s.host.loaded.contains i = false ∧ set.objs.any (fun p => p.1 == K.IP_CAL_UNC i && decide (p.2 < 250)) = true ∧ (set.objs.map (·.1)).Nodup) ∧
    (∃ (s : State) (i : Nat) (v : Nat) (set : NvmSet), s.mode = 1 ∧ s.host.bootSet = some (v, set) ∧ i < 72 ∧ s.host.loaded.contains i = false ∧ set.objs.any (fun p => p.1 == K.IP_CAL_UNC i && decide (p.2 < 250)) = false) ∧
    (∃ (s : State) (i : Nat) (v : Nat), s.mode = 1 ∧ s.host.swept = false ∧ s.host.sweepAt = some v ∧ v + 9216 ≤ s.tick ∧ s.g K.BYP_STATE ≠ 2 ∧ i < 72 ∧ s.g (K.IP_STATE i) ≠ 3 ∧ (∀ c ∈ List.range 72, c ≠ i → s.g (K.IP_STATE c) = 3) ∧ (∀ c ∈ List.range 72, s.calSince.any (fun p => p.1 == c) = true)) ∧
    (∃ (s : State) (v : Nat) (ds : List (Nat × Nat × Bool)), s.mode = 1 ∧ s.host.swept = false ∧ s.host.sweepAt = some v ∧ v + 9216 ≤ s.tick ∧ s.g K.BYP_STATE ≠ 2 ∧ (∀ c ∈ List.range 72, s.g (K.IP_STATE c) = 3 ∨ ds.any (fun d => d.1 == c) = true) ∧ (ds.map (·.1)).Nodup) ∧
    (∃ (s : State), s.mode = 1 ∧ s.host.swept = false ∧ s.host.sweepAt = none ∧ s.tablesLoaded = true ∧ 43750 < s.tick ∧ s.g K.BYP_STATE ≠ 2) :=
  ⟨⟨st [(K.MODE, 1)], 0, by decide +kernel⟩,
    ⟨st [(K.MODE, 1)], 0, by decide +kernel⟩,
    ⟨{ st [(K.MODE, 1)] with host := { fwTried := [0] } }, 1, by decide +kernel⟩,
    ⟨{ st [(K.MODE, 1), (K.IP_STATE 71, 3)] with host := { bootSet := some (3, { seq := 8, objs := [(K.CORE_REF 71, 9), (K.IP_CAL_UNC 71, 5)], corr := [(71 * 512 + 511, -9)], base := [] }) } }, 71, 3, { seq := 8, objs := [(K.CORE_REF 71, 9), (K.IP_CAL_UNC 71, 5)], corr := [(71 * 512 + 511, -9)], base := [] }, by decide +kernel⟩,
    ⟨{ st [(K.MODE, 1), (K.IP_STATE 71, 3)] with host := { bootSet := some (3, { seq := 8, objs := [(K.IP_CAL_UNC 70, 5), (K.IP_CAL_UNC 71, 250)], corr := [], base := [] }) } }, 71, 3, { seq := 8, objs := [(K.IP_CAL_UNC 70, 5), (K.IP_CAL_UNC 71, 250)], corr := [], base := [] }, by decide +kernel⟩,
    ⟨{ st ((K.MODE, 1) :: (K.CAL_VERIFY_LIMIT, 6) :: (K.IP_STATE 71, 0) :: (List.range 71).map (fun c => (K.IP_STATE c, 3))) with host := { sweepAt := some 90784 }, calSince := (List.range 72).map (fun c => (c, 5)) }, 71, 90784, by decide +kernel⟩,
    ⟨{ st ((K.MODE, 1) :: (K.CAL_VERIFY_LIMIT, 6) :: (K.IP_STATE 71, 0) :: (List.range 70).map (fun c => (K.IP_STATE c, 3))) with host := { sweepAt := some 90784 } }, 90784, [(71, 7, false), (70, 3, true), (80, 9, false)], by decide +kernel⟩,
    ⟨{ st ((K.MODE, 1) :: (K.IP_STATE 71, 0) :: (List.range 71).map (fun c => (K.IP_STATE c, 3))) with host := { fwSlot := some 0, loaded := List.range 72 }, tick := 43751 }, by decide +kernel⟩⟩

/-- The hypotheses of each clause of `Obligations.SequencerLocks` hold together somewhere. -/
theorem witness_SequencerLocks :
    (∃ (s : State) (w : Who) (q : Nat), q < 8 ∧ s.admits w 1 ∧ s.lockedOut w q = false) ∧
    (∃ (s : State) (w : Who) (q : Nat), q < 8 ∧ s.admits w 1 ∧ s.lockedOut w q = true) ∧
    (∃ (s : State) (w : Who) (q : Nat), q < 8 ∧ s.admits w 1 ∧ s.lockedOut w q = false) ∧
    (∃ (s : State) (w : Who) (q : Nat), q < 8 ∧ s.admits w 1 ∧ s.lockedOut w q = true) ∧
    (∃ (s : State) (q : Nat), q < 8 ∧ s.mode ≠ 0 ∧ s.g (K.SQ_LOCK_OWNER q) ≠ 0 ∧ (s.sq q).renewed + framesOfUs (s.g (K.SQ_LOCK_LEASE q)) ≤ s.tick) ∧
    (∃ (s : State) (w : Who) (q : Nat), q < 8 ∧ s.admits w 1) ∧
    (∃ (s : State) (w : Who) (q : Nat) (v : Nat), q < 8 ∧ s.admits w 1 ∧ s.g (K.CMP_LOG_TAIL q) ≤ v ∧ v ≤ s.g (K.CMP_LOG_HEAD q)) ∧
    (∃ (s : State) (w : Who) (q : Nat) (v : Nat), q < 8 ∧ s.admits w 1 ∧ (v < s.g (K.CMP_LOG_TAIL q) ∨ s.g (K.CMP_LOG_HEAD q) < v)) :=
  ⟨⟨lv [(K.SQ_LOCK_OWNER 7, identityOf w0)], w0, 7, by unfold State.admits; decide +kernel⟩,
    ⟨lv [(K.SQ_LOCK_OWNER 7, 5)], w0, 7, by unfold State.admits; decide +kernel⟩,
    ⟨lv [(K.SQ_LOCK_OWNER 7, identityOf w0)], w0, 7, by unfold State.admits; decide +kernel⟩,
    ⟨lv [(K.SQ_LOCK_OWNER 7, 5)], w0, 7, by unfold State.admits; decide +kernel⟩,
    ⟨lv [(K.SQ_LOCK_OWNER 7, 5), (K.SQ_LOCK_LEASE 7, 1000)], 7, by decide +kernel⟩,
    ⟨lv [(K.CMP_LOG_HALTED 7, 1)], w0, 7, by unfold State.admits; decide +kernel⟩,
    ⟨lv [(K.CMP_LOG_HEAD 7, 9)], w0, 7, 9, by unfold State.admits; decide +kernel⟩,
    ⟨lv [(K.CMP_LOG_HEAD 7, 9)], w0, 7, 10, by unfold State.admits; decide +kernel⟩⟩

/-- The hypotheses of each clause of `Obligations.SequencerRequests` hold together somewhere: part 1 of 2. -/
theorem witness_SequencerRequests :
    (∃ (s : State) (w : Who) (q : Nat) (arg : Nat), q < 8 ∧ s.admits w 1 ∧ s.lockedOut w q = false ∧ bits arg 43 0 < qSecond ∧ 2 ≤ s.g (K.SQ_STATE q) ∧ bits arg 127 126 < 3 ∧ Seg.live (s.seg (bits arg 125 112)) = true ∧ (bits arg 127 126 = 2 → s.beyondReach (time92 (bits arg 91 0)) = false) ∧ Seg.owner (s.seg (bits arg 125 112)) = q ∧ Seg.gen (s.seg (bits arg 125 112)) = bits arg 111 104 ∧ s.g (K.SQ_JUMP_STATUS q) ≠ 3) ∧
    (∃ (s : State) (w : Who) (q : Nat) (arg : Nat), q < 8 ∧ s.admits w 1 ∧ s.lockedOut w q = false ∧ bits arg 43 0 < qSecond ∧ s.g (K.SQ_STATE q) ≤ 1) ∧
    (∃ (s : State) (w : Who) (q : Nat) (arg : Nat), q < 8 ∧ s.admits w 1 ∧ s.lockedOut w q = false ∧ bits arg 43 0 < qSecond ∧ 2 ≤ s.g (K.SQ_STATE q) ∧ (bits arg 127 126 = 3 ∨ Seg.live (s.seg (bits arg 125 112)) = false)) ∧
    (∃ (s : State) (w : Who) (q : Nat) (arg : Nat), q < 8 ∧ s.admits w 1 ∧ s.lockedOut w q = false ∧ bits arg 43 0 < qSecond ∧ 2 ≤ s.g (K.SQ_STATE q) ∧ bits arg 127 126 < 2 ∧ Seg.live (s.seg (bits arg 125 112)) = true ∧ Seg.owner (s.seg (bits arg 125 112)) ≠ q) ∧
    (∃ (s : State) (w : Who) (q : Nat) (arg : Nat), q < 8 ∧ s.admits w 1 ∧ s.lockedOut w q = false ∧ bits arg 43 0 < qSecond ∧ 2 ≤ s.g (K.SQ_STATE q) ∧ bits arg 127 126 < 2 ∧ Seg.live (s.seg (bits arg 125 112)) = true ∧ Seg.owner (s.seg (bits arg 125 112)) = q ∧ Seg.gen (s.seg (bits arg 125 112)) ≠ bits arg 111 104) ∧
    (∃ (s : State) (w : Who) (q : Nat) (arg : Nat), q < 8 ∧ s.admits w 1 ∧ qSecond ≤ bits arg 43 0) ∧
    (∃ (s : State) (w : Who) (q : Nat) (arg : Nat), q < 8 ∧ s.admits w 1 ∧ s.lockedOut w q = true ∧ bits arg 43 0 < qSecond) ∧
    (∃ (s : State) (w : Who) (q : Nat) (arg : Nat), q < 8 ∧ s.admits w 1 ∧ s.lockedOut w q = false ∧ bits arg 43 0 < qSecond ∧ 2 ≤ s.g (K.SQ_STATE q) ∧ bits arg 127 126 < 2 ∧ Seg.live (s.seg (bits arg 125 112)) = true ∧ Seg.owner (s.seg (bits arg 125 112)) = q ∧ Seg.gen (s.seg (bits arg 125 112)) = bits arg 111 104 ∧ s.g (K.SQ_JUMP_STATUS q) = 3) ∧
    (∃ (s : State) (w : Who) (q : Nat), q < 8 ∧ s.admits w 1 ∧ s.lockedOut w q = false ∧ 1 ≤ s.g (K.SQ_STATE q) ∧ s.g (K.SQ_JUMP_STATUS q) ≠ 3) ∧
    (∃ (s : State) (w : Who) (q : Nat), q < 8 ∧ s.admits w 1 ∧ s.lockedOut w q = false ∧ 1 ≤ s.g (K.SQ_STATE q) ∧ s.g (K.SQ_JUMP_STATUS q) = 3) :=
  ⟨⟨lv [(K.SQ_STATE 7, 2), (atRow K.SEG_TABLE 5, 2 * 2 ^ 40 + 4 * 2 ^ 16 + 2 + 7 * 2 ^ 76)], w0, 7, 5 * 2 ^ 112 + 2 * 2 ^ 104, by unfold State.admits; decide +kernel⟩,
    ⟨lv [(K.SQ_STATE 7, 1)], w0, 7, 5, by unfold State.admits; decide +kernel⟩,
    ⟨lv [(K.SQ_STATE 7, 5)], w0, 7, 5, by unfold State.admits; decide +kernel⟩,
    ⟨lv [(K.SQ_STATE 7, 2), (atRow K.SEG_TABLE 5, 2 * 2 ^ 40 + 4 * 2 ^ 16 + 2 + 6 * 2 ^ 76)], w0, 7, 5 * 2 ^ 112 + 2 * 2 ^ 104, by unfold State.admits; decide +kernel⟩,
    ⟨lv [(K.SQ_STATE 7, 2), (atRow K.SEG_TABLE 5, 2 * 2 ^ 40 + 4 * 2 ^ 16 + 2 + 7 * 2 ^ 76)], w0, 7, 5 * 2 ^ 112 + 3 * 2 ^ 104, by unfold State.admits; decide +kernel⟩,
    ⟨lv [(K.SQ_STATE 7, 2)], w0, 7, 2 ^ 44 - 1, by unfold State.admits; decide +kernel⟩,
    ⟨lv [(K.SQ_LOCK_OWNER 7, 5), (K.SQ_STATE 7, 2)], w0, 7, 1, by unfold State.admits; decide +kernel⟩,
    ⟨lv [(K.SQ_STATE 7, 2), (K.SQ_JUMP_STATUS 7, 3), (atRow K.SEG_TABLE 5, 2 * 2 ^ 40 + 4 * 2 ^ 16 + 2 + 7 * 2 ^ 76)], w0, 7, 5 * 2 ^ 112 + 2 * 2 ^ 104, by unfold State.admits; decide +kernel⟩,
    ⟨{ lv [(K.SQ_STATE 7, 2)] with sqHid := [(7, { line := [{ id := 3, kind := 1 }, { id := 4, kind := 1 }] })] }, w0, 7, by unfold State.admits; decide +kernel⟩,
    ⟨lv [(K.SQ_STATE 7, 2), (K.SQ_JUMP_STATUS 7, 3)], w0, 7, by unfold State.admits; decide +kernel⟩⟩

/-- The hypotheses of each clause of `Obligations.SequencerRequests` hold together somewhere: part 2 of 2. -/
theorem witness_SequencerRequests_2 :
    (∃ (s : State) (w : Who) (q : Nat), q < 8 ∧ s.admits w 1 ∧ s.lockedOut w q = false ∧ s.g (K.SQ_STATE q) = 0) ∧
    (∃ (s : State) (w : Who) (q : Nat), q < 8 ∧ s.admits w 1 ∧ s.lockedOut w q = true) ∧
    (∃ (s : State) (w : Who) (q : Nat) (arg : Nat), q < 8 ∧ s.admits w 1 ∧ (∀ k ∈ bitList 8 (bits arg 127 120), s.lockedOut w k = false) ∧ bits arg 43 0 < qSecond ∧ bit arg 119 = false ∧ s.startRefusal (bitList 8 (bits arg 127 120)) (time92 (bits arg 91 0)) = 0) ∧
    (∃ (s : State) (w : Who) (q : Nat) (arg : Nat), q < 8 ∧ s.admits w 1 ∧ (∀ k ∈ bitList 8 (bits arg 127 120), s.lockedOut w k = false) ∧ bits arg 43 0 < qSecond ∧ bit arg 119 = false ∧ s.startRefusal (bitList 8 (bits arg 127 120)) (time92 (bits arg 91 0)) ≠ 0) ∧
    (∃ (s : State) (w : Who) (q : Nat) (arg : Nat), q < 8 ∧ s.admits w 1 ∧ bits arg 43 0 < qSecond ∧ (∃ k ∈ bitList 8 (bits arg 127 120), s.lockedOut w k = true)) ∧
    (∃ (s : State) (w : Who) (q : Nat) (arg : Nat), q < 8 ∧ s.admits w 1 ∧ qSecond ≤ bits arg 43 0) ∧
    (∃ (s : State) (w : Who) (q : Nat) (arg : Nat), q < 8 ∧ s.admits w 1 ∧ (∀ k ∈ bitList 8 (bits arg 127 120), s.lockedOut w k = false) ∧ bits arg 43 0 < qSecond ∧ bit arg 119 = true ∧ s.g K.STK_STATE ≠ 1) ∧
    (∃ (s : State) (w : Who) (q : Nat) (arg : Nat), q < 8 ∧ s.admits w 1 ∧ (∀ k ∈ bitList 8 (bits arg 127 120), s.lockedOut w k = false) ∧ bits arg 43 0 < qSecond ∧ bit arg 119 = true ∧ s.g K.STK_STATE = 1 ∧ s.stkStart.isSome = true) ∧
    (∃ (s : State) (w : Who) (q : Nat) (arg : Nat), q < 8 ∧ s.admits w 1 ∧ (∀ k ∈ bitList 8 (bits arg 127 120), s.lockedOut w k = false) ∧ bits arg 43 0 < qSecond ∧ bit arg 119 = true ∧ s.g K.STK_STATE = 1 ∧ s.stkStart = none ∧ s.startRefusal (bitList 8 (bits arg 127 120)) (time92 (bits arg 91 0)) = 0 ∧ s.fn + 2560 ≤ (if time92 (bits arg 91 0) = 0 then max (s.earliestStart (bitList 8 (bits arg 127 120))) (s.fn + 2560) else frameOf (time92 (bits arg 91 0))) ∧ s.earliestStart (bitList 8 (bits arg 127 120)) ≤ (if time92 (bits arg 91 0) = 0 then max (s.earliestStart (bitList 8 (bits arg 127 120))) (s.fn + 2560) else frameOf (time92 (bits arg 91 0)))) :=
  ⟨⟨lv [], w0, 7, by unfold State.admits; decide +kernel⟩,
    ⟨lv [(K.SQ_LOCK_OWNER 7, 5)], w0, 7, by unfold State.admits; decide +kernel⟩,
    ⟨lv [(atRow K.SEG_TABLE 5, 2 * 2 ^ 40 + 4 * 2 ^ 16 + 2 + 7 * 2 ^ 76), (K.SQ_START_ENTRY 7, 5), (K.SQ_OWN 7, 2 ^ 63)], w0, 0, 2 ^ 127, by unfold State.admits; decide +kernel⟩,
    ⟨lv [(K.SQ_STATE 7, 2)], w0, 0, 2 ^ 127, by unfold State.admits; decide +kernel⟩,
    ⟨lv [(K.SQ_LOCK_OWNER 7, 5)], w0, 0, 3 * 2 ^ 126, by unfold State.admits; decide +kernel⟩,
    ⟨lv [], w0, 0, 2 ^ 127 + 2 ^ 44 - 1, by unfold State.admits; decide +kernel⟩,
    ⟨lv [], w0, 0, 2 ^ 127 + 2 ^ 119, by unfold State.admits; decide +kernel⟩,
    ⟨{ lv [(K.STK_STATE, 1)] with stkStart := some (4, 0, 0) }, w0, 0, 2 ^ 127 + 2 ^ 119, by unfold State.admits; decide +kernel⟩,
    ⟨lv [(K.STK_STATE, 1), (atRow K.SEG_TABLE 5, 2 * 2 ^ 40 + 4 * 2 ^ 16 + 2 + 7 * 2 ^ 76), (K.SQ_START_ENTRY 7, 5), (K.SQ_OWN 7, 2 ^ 63)], w0, 0, 2 ^ 127 + 2 ^ 119, by unfold State.admits; decide +kernel⟩⟩

/-- The hypotheses of each clause of `Obligations.Playback` hold together somewhere: part 1 of 2. -/
theorem witness_Playback :
    (∃ (s : State) (q : Nat) (it : Iter) (r : List Iter), s.mode ≠ 0 ∧ q < 8 ∧ s.g (K.SQ_STATE q) = 1 ∧ (s.sq q).line = it :: r ∧ frameOf (it.start.getD 0) ≤ s.fn ∧ it.kind ≠ 2) ∧
    (∃ (s : State) (q : Nat) (it : Iter) (r : List Iter), s.mode ≠ 0 ∧ q < 8 ∧ s.g (K.SQ_STATE q) = 1 ∧ (s.sq q).line = it :: r ∧ frameOf (it.start.getD 0) ≤ s.fn ∧ it.kind = 2) ∧
    (∃ (s : State) (q : Nat) (it : Iter) (nx : Iter) (r : List Iter), s.mode ≠ 0 ∧ q < 8 ∧ 2 ≤ s.g (K.SQ_STATE q) ∧ (s.sq q).line = it :: nx :: r ∧ (s.sq q).fifo.any (fun y => y.id == it.id) = false ∧ ((s.sq q).fIter ≠ it.id ∨ it.len ≤ (s.sq q).fIdx) ∧ frameOf (nx.start.getD 0) ≤ s.fn ∧ nx.kind ≠ 2) ∧
    (∃ (s : State) (q : Nat) (it : Iter) (nx : Iter) (r : List Iter), s.mode ≠ 0 ∧ q < 8 ∧ 2 ≤ s.g (K.SQ_STATE q) ∧ (s.sq q).line = it :: nx :: r ∧ (s.sq q).fifo.any (fun y => y.id == it.id) = false ∧ ((s.sq q).fIter ≠ it.id ∨ it.len ≤ (s.sq q).fIdx) ∧ frameOf (nx.start.getD 0) ≤ s.fn ∧ nx.kind = 2) ∧
    (∃ (s : State) (q : Nat) (it : Iter) (r : List Iter) (v : Vec) (fs : List Vec), s.mode ≠ 0 ∧ q < 8 ∧ 2 ≤ s.g (K.SQ_STATE q) ∧ (s.sq q).fifo = v :: fs ∧ (s.sq q).line = it :: r ∧ v.id = it.id ∧ frameOf v.start ≤ s.fn ∧ v.kind = 1) ∧
    (∃ (s : State) (q : Nat) (n : Nat) (it : Iter) (r : List Iter) (v : Vec) (fs : List Vec), s.mode ≠ 0 ∧ q < 8 ∧ 2 ≤ s.g (K.SQ_STATE q) ∧ (s.sq q).fifo = v :: fs ∧ (s.sq q).line = it :: r ∧ v.id = it.id ∧ frameOf v.start ≤ s.fn ∧ v.kind = 0 ∧ (s.atTime v.start).timingSet q v.tssel = n ∧ n < 256) ∧
    (∃ (s : State) (q : Nat) (b : Nat) (it : Iter) (ch : Choice), s.mode ≠ 0 ∧ q < 8 ∧ s.g (K.SQ_STATE q) ≠ 0 ∧ s.lineEnd q (s.sqLimit q) = some b ∧ (s.sq q).left = [] ∧ (s.sq q).req = none ∧ (s.sq q).line.getLast? = some it ∧ it.kind = 0 ∧ (s.sq q).missing = none ∧ s.programNext q it = ch) ∧
    (∃ (s : State) (q : Nat) (b : Nat) (ch : Choice), s.mode ≠ 0 ∧ q < 8 ∧ s.g (K.SQ_STATE q) ≠ 0 ∧ s.lineEnd q (s.sqLimit q) = some b ∧ (s.sq q).left = [] ∧ (s.sq q).req = none ∧ (s.sq q).line = [] ∧ (s.sq q).missing = none ∧ s.enter [] (s.g (K.SQ_START_ENTRY q)) = ch) ∧
    (∃ (s : State) (q : Nat) (b : Nat) (it : Iter) (nx : Iter), s.mode ≠ 0 ∧ q < 8 ∧ s.g (K.SQ_STATE q) ≠ 0 ∧ s.lineEnd q (s.sqLimit q) = some b ∧ (s.sq q).left = [] ∧ (s.sq q).req = none ∧ (s.sq q).line.getLast? = some it ∧ it.kind = 1 ∧ s.missingNow q = some nx) ∧
    (∃ (s : State) (q : Nat) (b : Nat) (it : Iter) (x : SqReq), s.mode ≠ 0 ∧ q < 8 ∧ s.g (K.SQ_STATE q) ≠ 0 ∧ (s.sq q).line.getLast? = some it ∧ it.kind ≠ 2 ∧ s.lineEnd q (s.sqLimit q) = some b ∧ (s.sq q).left = [] ∧ (s.sq q).req = some x ∧ x.stop = true ∧ s.g (K.SQ_JUMP_STATUS q) ≠ 3 ∧ s.qualifies q x b (some it) = true ∧ (s.ring q).pages = []) :=
  ⟨⟨{ lv [(K.SQ_STATE 7, 1)] with sqHid := [(7, { line := [{ id := 3, kind := 0, n := 1, entry := 9, start := some (100000 * qFrame + 1) }], startAt := some 5 })] }, 7, { id := 3, kind := 0, n := 1, entry := 9, start := some (100000 * qFrame + 1) }, [], by decide +kernel⟩,
    ⟨{ lv [(K.SQ_STATE 7, 1), (K.SQ_LEAD 7, 2)] with sqHid := [(7, { nextId := 4, line := [{ id := 3, kind := 2, jump := true, start := some (100000 * qFrame + 1) }], startAt := some 5 })] }, 7, { id := 3, kind := 2, jump := true, start := some (100000 * qFrame + 1) }, [], by decide +kernel⟩,
    ⟨{ lv [(K.SQ_STATE 7, 2)] with sqHid := [(7, { fIter := 3, fIdx := 1, line := [{ id := 3, kind := 0, n := 1, entry := 9 }, { id := 4, kind := 0, n := 2, entry := 9, start := some (100000 * qFrame) }] })] }, 7, { id := 3, kind := 0, n := 1, entry := 9 }, { id := 4, kind := 0, n := 2, entry := 9, start := some (100000 * qFrame) }, [], by decide +kernel⟩,
    ⟨{ lv [(K.SQ_STATE 7, 2)] with sqHid := [(7, { nextId := 5, req := some { stop := true, fn := 3 }, fIter := 3, fIdx := 1, line := [{ id := 3, kind := 0, n := 1, entry := 9 }, { id := 4, kind := 2, jump := true, start := some (100000 * qFrame) }] })] }, 7, { id := 3, kind := 0, n := 1, entry := 9 }, { id := 4, kind := 2, jump := true, start := some (100000 * qFrame) }, [], by decide +kernel⟩,
    ⟨{ lv [(K.SQ_STATE 7, 3)] with sqHid := [(7, { fIter := 3, fIdx := 1, line := [{ id := 3, kind := 1 }], fifo := [{ id := 3, kind := 1, start := 100000 * qFrame, period := 50, handed := true }] })] }, 7, { id := 3, kind := 1 }, [], { id := 3, kind := 1, start := 100000 * qFrame, period := 50, handed := true }, [], by decide +kernel⟩,
    ⟨{ lv [(K.SQ_STATE 7, 2), (K.SQ_TS_BASE 7, 192)] with sqHid := [(7, { fIter := 3, fIdx := 1, line := [{ id := 3, kind := 0 }], fifo := [{ id := 3, kind := 0, start := 100000 * qFrame, period := 50, handed := true, tssel := 63, evt := true }] })] }, 7, 255, { id := 3, kind := 0 }, [], { id := 3, kind := 0, start := 100000 * qFrame, period := 50, handed := true, tssel := 63, evt := true }, [], by decide +kernel⟩,
    ⟨{ lv [(K.SQ_STATE 7, 2), (atRow K.SEG_TABLE 9, 2 + 5 * 2 ^ 40 + 4 * 2 ^ 16 + 7 * 2 ^ 76), (atRow K.PAGE_MAP 1023, 3 * 2 ^ 61 + 9 * 2 ^ 47 + 5 * 2 ^ 39 + 7 * 2 ^ 35)] with sqHid := [(7, { nextId := 5, fIter := 3, fIdx := 1, tNext := 100002 * qFrame, line := [{ id := 3, kind := 0, n := 1, entry := 9 }] })] }, 7, 100002 * qFrame, { id := 3, kind := 0, n := 1, entry := 9 }, { entry := 9, n := 2, loops := [] }, by decide +kernel⟩,
    ⟨{ lv [(K.SQ_STATE 7, 1), (K.SQ_START_ENTRY 7, 9), (atRow K.SEG_TABLE 9, 2 + 5 * 2 ^ 40 + 4 * 2 ^ 16 + 7 * 2 ^ 76)] with sqHid := [(7, { nextId := 5, startAt := some (100002 * qFrame) })] }, 7, 100002 * qFrame, { entry := 9, n := 1, loops := [] }, by decide +kernel⟩,
    ⟨{ lv [(K.SQ_STATE 7, 3), (atRow K.SEG_TABLE 9, 2 + 5 * 2 ^ 40 + 4 * 2 ^ 16 + 7 * 2 ^ 76), (atRow K.PAGE_MAP 1023, 3 * 2 ^ 61 + 9 * 2 ^ 47 + 5 * 2 ^ 39 + 7 * 2 ^ 35)] with sqHid := [(7, { nextId := 5, fIter := 3, fIdx := 1, tNext := 100002 * qFrame, missing := some { id := 0, kind := 0, entry := 9, gen := 4, n := 2 }, line := [{ id := 3, kind := 1, state := 3 }] })] }, 7, 100002 * qFrame, { id := 3, kind := 1, state := 3 }, { id := 0, kind := 0, entry := 9, gen := 5, n := 2, len := 4 }, by decide +kernel⟩,
    ⟨{ lv [(K.SQ_STATE 7, 2), (K.SQ_JUMP_STATUS 7, 1)] with sqHid := [(7, { nextId := 5, req := some { stop := true, park := true, fn := 99999 }, fIter := 3, fIdx := 1, tNext := 100002 * qFrame, line := [{ id := 3, kind := 0, n := 1, entry := 9 }] })] }, 7, 100002 * qFrame, { id := 3, kind := 0, n := 1, entry := 9 }, { stop := true, park := true, fn := 99999 }, by decide +kernel⟩⟩

/-- The hypotheses of each clause of `Obligations.Playback` hold together somewhere: part 2 of 2. -/
theorem witness_Playback_2 :
    (∃ (s : State) (q : Nat), s.mode ≠ 0 ∧ q < 8 ∧ s.lineEnd q (s.sqLimit q) = none) ∧
    (∃ (s : State) (q : Nat) (n : Nat) (a : Nat) (c : Nat) (d : Nat) (m : CmpVec), s.mode ≠ 0 ∧ q < 8 ∧ (s.sq q).cmp = [m] ∧ m.wins = [(n, c, a, d)] ∧ n < 16 ∧ d + trigLatency ≤ s.frameStart ∧ (s.inp n).history.any (fun e => e.1 < a) = true ∧ s.gb (K.CMP_LOG_HALTED q) = true) ∧
    (∃ (s : State) (q : Nat), s.mode ≠ 0 ∧ q < 8) ∧
    (∃ (s : State) (q : Nat) (i : Nat) (it : Iter), s.mode ≠ 0 ∧ q < 8 ∧ s.g (K.SQ_STATE q) ≠ 0 ∧ (s.sq q).line = [it] ∧ (s.sq q).fIter = it.id ∧ (s.sq q).fIdx = i ∧ i < it.len ∧ i ≠ 0 ∧ it.bad = some i ∧ it.state = 2 ∧ s.streamed it.entry = false) ∧
    (∃ (s : State) (q : Nat) (it : Iter) (r : List Iter), s.mode ≠ 0 ∧ q < 8 ∧ s.g (K.SQ_STATE q) ≠ 0 ∧ (s.sq q).ahead = it :: r ∧ (s.sq q).fIdx < it.len ∧ it.bad = some (s.sq q).fIdx) :=
  ⟨⟨{ lv [(K.SQ_STATE 7, 2)] with sqHid := [(7, { fIter := 3, fIdx := 1, tNext := 100003 * qFrame, line := [{ id := 3, kind := 0, n := 1, entry := 9 }] })] }, 7, by decide +kernel⟩,
    ⟨{ lv [(K.CMP_LOG_HALTED 7, 1)] with inHid := [(15, { history := [(5, true)] })], sqHid := [(7, { cmp := [{ entry := 5, gen := 2, seg := 9, idx := 1, n := 1, tag := 0, clog := false, wins := [(15, 1, 100, 200)] }] })] }, 7, 15, 100, 1, 200, { entry := 5, gen := 2, seg := 9, idx := 1, n := 1, tag := 0, clog := false, wins := [(15, 1, 100, 200)] }, by decide +kernel⟩,
    ⟨{ lv [] with inHid := [(15, { history := [(5, true)] })], sqHid := [(7, { cmp := [{ entry := 5, gen := 2, seg := 9, idx := 1, n := 1, tag := 0, clog := false, wins := [(15, 1, 100, 200)] }, { entry := 5, gen := 2, seg := 9, idx := 2, n := 1, tag := 0, clog := false, wins := [(16, 0, 300, 300)] }, { entry := 5, gen := 2, seg := 9, idx := 3, n := 1, tag := 0, clog := true, wins := [(14, 2, 100, 200), (3, 1, 4, 2 ^ 60)] }] })] }, 7, by decide +kernel⟩,
    ⟨{ lv [(K.SQ_STATE 7, 2)] with sqHid := [(7, { nextId := 5, fIter := 3, fIdx := 1, tNext := 100002 * qFrame, line := [{ id := 3, kind := 0, n := 1, entry := 9, len := 2, bad := some 1 }] })] }, 7, 1, { id := 3, kind := 0, n := 1, entry := 9, len := 2, bad := some 1 }, by decide +kernel⟩,
    ⟨{ lv [(K.SQ_STATE 7, 2), (atRow K.SEG_TABLE 9, 2 + 5 * 2 ^ 40 + 4 * 2 ^ 16 + 7 * 2 ^ 76)] with sqHid := [(7, { nextId := 6, fIter := 4, fIdx := 0, tNext := 100002 * qFrame, line := [{ id := 3, kind := 0, n := 1, entry := 9 }, { id := 4, kind := 0, n := 2, entry := 9, len := 2, bad := some 0, jump := true }, { id := 5, kind := 0, n := 3, entry := 9 }] })] }, 7, { id := 4, kind := 0, n := 2, entry := 9, len := 2, bad := some 0, jump := true }, [{ id := 5, kind := 0, n := 3, entry := 9 }], by decide +kernel⟩⟩

/-- The hypotheses of each clause of `Obligations.SegmentEntries` hold together somewhere. -/
theorem witness_SegmentEntries :
    (∃ (s : State) (w : Who) (e : Nat), s.admits w 1 ∧ e < 16384 ∧ Seg.live (s.seg e) = true ∧ s.segFrees.any (fun x => x.1 == e) = false ∧ s.active e = false) ∧
    (∃ (s : State) (w : Who) (e : Nat), s.admits w 1 ∧ e < 16384 ∧ Seg.live (s.seg e) = true ∧ s.segFrees.any (fun x => x.1 == e) = false ∧ s.active e = true) ∧
    (∃ (s : State) (w : Who) (e : Nat), s.admits w 1 ∧ (16384 ≤ e ∨ Seg.live (s.seg e) = false)) ∧
    (∃ (s : State) (w : Who) (e : Nat), s.admits w 1 ∧ e < 16384 ∧ Seg.live (s.seg e) = true ∧ s.segFrees.any (fun x => x.1 == e) = true) ∧
    (∃ (s : State) (e : Nat), s.mode ≠ 0 ∧ e < 16384 ∧ s.segFrees.any (fun x => x.1 == e && x.2 ≤ s.tick) = true ∧ s.active e = false) ∧
    (∃ (s : State) (e : Nat), s.mode ≠ 0 ∧ e < 16384 ∧ s.segFrees.any (fun x => x.1 == e && x.2 ≤ s.tick) = true ∧ s.active e = true) ∧
    (∃ (s : State) (e : Nat), s.mode ≠ 0 ∧ e < 16384 ∧ s.segRetire.any (fun x => x.1 == e && x.2 ≤ s.tick) = true ∧ Seg.base (s.seg e) = 7) ∧
    (∃ (s : State) (e : Nat) (j : Nat) (p : Nat) (b : Nat) (l : List Nat), s.mode ≠ 0 ∧ e < 16384 ∧ Seg.live (s.seg e) = true ∧ s.residency e = 1 ∧ j < Seg.pages (s.seg e) ∧ s.ppnOf e j = none ∧ ((List.range 16).map (fun i => (Sp.get (fun _ => 15) s.lastBank (Seg.owner (s.seg e)) + 1 + i) % 16)).find? (fun x => s.inSet (Seg.owner (s.seg e)) x && !(s.freePages x).isEmpty) = some b ∧ s.freePages b = p :: l) ∧
    (∃ (s : State), s.mode ≠ 0 ∧ (∀ x ∈ List.range 16, s.freePages x = [])) ∧
    (∃ (s : State) (w : Who) (e : Nat), s.admits w 1 ∧ e < 16384) :=
  ⟨⟨lv [(atRow K.SEG_TABLE 16383, 2 + 7 * 2 ^ 76)], w0, 16383, by unfold State.admits; decide +kernel⟩,
    ⟨{ lv [(atRow K.SEG_TABLE 16383, 2 + 7 * 2 ^ 76), (K.SQ_STATE 7, 2)] with sqHid := [(7, { line := [{ id := 3, kind := 0, entry := 16383 }] })] }, w0, 16383, by unfold State.admits; decide +kernel⟩,
    ⟨lv [], w0, 16383, by unfold State.admits; decide +kernel⟩,
    ⟨{ lv [(atRow K.SEG_TABLE 16383, 2 + 7 * 2 ^ 76)] with segFrees := [(16383, 100001)] }, w0, 16383, by unfold State.admits; decide +kernel⟩,
    ⟨{ lv [(atRow K.SEG_TABLE 16383, 2 + 7 * 2 ^ 76), (atRow K.PAGE_MAP 1023, 3 * 2 ^ 61 + 16383 * 2 ^ 47 + 7 * 2 ^ 35), (K.SQ_BANKS 7, 2 ^ 15)] with segFrees := [(16383, 100000), (4, 100000)] }, 16383, by decide +kernel⟩,
    ⟨{ lv [(atRow K.SEG_TABLE 16383, 2 + 7 * 2 ^ 76), (K.SQ_STATE 7, 2)] with sqHid := [(7, { line := [{ id := 3, kind := 0, entry := 16383 }] })], segFrees := [(16383, 100000)] }, 16383, by decide +kernel⟩,
    ⟨{ lv [(atRow K.SEG_TABLE 16383, 7 + 9 * 2 ^ 40 + 4 * 2 ^ 48)] with segRetire := [(16383, 100000), (5, 100001)], quarIds := [(4, 100000), (5, 100001)] }, 16383, by decide +kernel⟩,
    ⟨{ lv [(atRow K.SEG_TABLE 16383, 1 + 4 * 2 ^ 16 + 7 * 2 ^ 76), (atRow K.SEG_PLACE 16383, 2 ^ 62), (K.SQ_BANKS 7, 2 ^ 15)] with lastBank := [(7, 3)] }, 16383, 0, 960, 15, (List.range 63).map (· + 961), by decide +kernel⟩,
    ⟨pagesGone, ⟨by decide +kernel, pagesGone_freePages⟩⟩,
    ⟨lv [], w0, 16383, by unfold State.admits; decide +kernel⟩⟩

/-- The hypotheses of each clause of `Obligations.PageWrites` hold together somewhere: part 1 of 3. -/
theorem witness_PageWrites :
    (∃ (s : State) (w : Who) (a : Nat) (e : Nat) (p : Nat) (n : Nat), s.admits w 1 ∧ bits a 124 111 = e ∧ bits a 63 0 = n ∧ bit (s.g K.PAGE_SLOTS_BUSY) (bits a 127 125) = false ∧ Seg.live (s.seg e) = true ∧ s.streamed e = false ∧ n < Seg.pages (s.seg e) ∧ bits a 110 103 = Seg.gen (s.seg e) ∧ s.ppnOf e n = some p ∧ (s.active e = false ∨ Pg.state (s.page p) = Pg.empty) ∧ (∀ x ∈ (s.unit (p / 64) 8).ops, x.ppn ≠ p) ∧ (∀ x ∈ (s.unit (p / 64) 9).ops, x.peer ≠ some p)) ∧
    (∃ (s : State) (w : Who) (a : Nat) (e : Nat) (p : Nat) (n : Nat) (y : RingPage), s.admits w 1 ∧ bits a 124 111 = e ∧ bits a 63 0 = n ∧ bit (s.g K.PAGE_SLOTS_BUSY) (bits a 127 125) = false ∧ Seg.live (s.seg e) = true ∧ s.streamed e = true ∧ bits a 110 103 = Seg.gen (s.seg e) ∧ s.streamPage (Seg.owner (s.seg e)) e (Seg.gen (s.seg e)) n = some (y, p) ∧ Sp.get (fun _ => 0) s.streamIt e * Seg.pages (s.seg e) ≤ n ∧ (∀ x ∈ (s.unit (p / 64) 8).ops, x.ppn ≠ p) ∧ (∀ x ∈ (s.unit (p / 64) 9).ops, x.peer ≠ some p)) ∧
    (∃ (s : State) (w : Who) (a : Nat) (e : Nat) (p : Nat) (n : Nat) (o : XOp), s.admits w 1 ∧ bits a 124 111 = e ∧ bits a 63 0 = n ∧ bit (s.g K.PAGE_SLOTS_BUSY) (bits a 127 125) = false ∧ Seg.live (s.seg e) = true ∧ s.streamed e = false ∧ n < Seg.pages (s.seg e) ∧ bits a 110 103 = Seg.gen (s.seg e) ∧ s.ppnOf e n = some p ∧ s.active e = false ∧ (s.unit (p / 64) 8) = { active := some o } ∧ o.code = 3 ∧ o.ppn = p ∧ Pg.state (s.page p) = Pg.filling ∧ (∀ x ∈ (s.unit (p / 64) 9).ops, x.peer ≠ some p)) ∧
    (∃ (s : State) (w : Who) (a : Nat), s.admits w 1 ∧ bit (s.g K.PAGE_SLOTS_BUSY) (bits a 127 125) = true) ∧
    (∃ (s : State) (w : Who) (a : Nat) (e : Nat) (n : Nat), s.admits w 1 ∧ bits a 124 111 = e ∧ bits a 63 0 = n ∧ bit (s.g K.PAGE_SLOTS_BUSY) (bits a 127 125) = false ∧ Seg.live (s.seg e) = true ∧ s.streamed e = false ∧ n < Seg.pages (s.seg e) ∧ bits a 110 103 ≠ Seg.gen (s.seg e)) ∧
    (∃ (s : State) (w : Who) (a : Nat), s.admits w 1 ∧ bit (s.g K.PAGE_SLOTS_BUSY) (bits a 127 125) = false ∧ Seg.live (s.seg (bits a 124 111)) = false) ∧
    (∃ (s : State) (w : Who) (a : Nat) (e : Nat) (n : Nat), s.admits w 1 ∧ bits a 124 111 = e ∧ bits a 63 0 = n ∧ bit (s.g K.PAGE_SLOTS_BUSY) (bits a 127 125) = false ∧ Seg.live (s.seg e) = true ∧ s.streamed e = false ∧ Seg.pages (s.seg e) ≤ n) ∧
    (∃ (s : State) (w : Who) (a : Nat) (e : Nat) (p : Nat) (n : Nat), s.admits w 1 ∧ bits a 124 111 = e ∧ bits a 63 0 = n ∧ bit (s.g K.PAGE_SLOTS_BUSY) (bits a 127 125) = false ∧ Seg.live (s.seg e) = true ∧ s.streamed e = false ∧ n < Seg.pages (s.seg e) ∧ bits a 110 103 = Seg.gen (s.seg e) ∧ s.ppnOf e n = some p ∧ s.active e = true ∧ Pg.state (s.page p) ≠ Pg.empty) ∧
    (∃ (s : State) (w : Who) (a : Nat) (e : Nat) (n : Nat), s.admits w 1 ∧ bits a 124 111 = e ∧ bits a 63 0 = n ∧ bit (s.g K.PAGE_SLOTS_BUSY) (bits a 127 125) = false ∧ Seg.live (s.seg e) = true ∧ s.streamed e = false ∧ n < Seg.pages (s.seg e) ∧ bits a 110 103 = Seg.gen (s.seg e) ∧ s.ppnOf e n = none) ∧
    (∃ (s : State) (p : Nat) (o : XOp), s.mode ≠ 0 ∧ p < 1024 ∧ (s.unit (p / 64) 8) = { active := some o, held := none, wait := [] } ∧ o.ppn = p ∧ o.code = 3 ∧ o.src < 8 ∧ s.xferOf p = none ∧ Pg.state (s.page p) = Pg.filling ∧ Seg.gen (s.seg o.entry) = o.gen ∧ Seg.live (s.seg o.entry) = true) :=
  ⟨⟨lv [(atRow K.SEG_TABLE 16383, 1 + 4 * 2 ^ 16 + 9 * 2 ^ 40), (atRow K.PAGE_MAP 1023, 2 ^ 61 + 16383 * 2 ^ 47 + 9 * 2 ^ 39)], w0, 7 * 2 ^ 125 + 16383 * 2 ^ 111 + 9 * 2 ^ 103, 16383, 1023, 0, by unfold State.admits; decide +kernel⟩,
    ⟨{ lv [(atRow K.SEG_TABLE 16383, 2 + 4 * 2 ^ 16 + 9 * 2 ^ 40 + 7 * 2 ^ 76), (atRow K.SEG_PLACE 16383, 2 * 2 ^ 62), (K.RING_PAGES 7, 2), (atRow K.PAGE_MAP 1023, 2 ^ 61 + 2 ^ 38 + 7 * 2 ^ 35 + 2 ^ 21)] with rings := [(7, { next := 0, pages := [{ slot := 1, entry := 16383, gen := 9, n := 6, j := 0 }] })], xunits := [(60, { active := some { code := 3, ppn := 1000 } })] }, w0, 7 * 2 ^ 125 + 16383 * 2 ^ 111 + 9 * 2 ^ 103 + 6, 16383, 1023, 6, { slot := 1, entry := 16383, gen := 9, n := 6, j := 0 }, by unfold State.admits; decide +kernel⟩,
    ⟨{ lv [(atRow K.SEG_TABLE 16383, 1 + 4 * 2 ^ 16 + 9 * 2 ^ 40), (atRow K.PAGE_MAP 1023, 2 * 2 ^ 61 + 16383 * 2 ^ 47 + 9 * 2 ^ 39), (K.PAGE_SLOTS_BUSY, 4)] with xunits := [(60, { active := some { code := 3, ppn := 1023, entry := 16383, gen := 9, src := 2, prog := 7 } })] }, w0, 7 * 2 ^ 125 + 16383 * 2 ^ 111 + 9 * 2 ^ 103, 16383, 1023, 0, { code := 3, ppn := 1023, entry := 16383, gen := 9, src := 2, prog := 7 }, by unfold State.admits; decide +kernel⟩,
    ⟨lv [(K.PAGE_SLOTS_BUSY, 128)], w0, 7 * 2 ^ 125, by unfold State.admits; decide +kernel⟩,
    ⟨lv [(atRow K.SEG_TABLE 16383, 1 + 4 * 2 ^ 16 + 9 * 2 ^ 40)], w0, 7 * 2 ^ 125 + 16383 * 2 ^ 111 + 8 * 2 ^ 103, 16383, 0, by unfold State.admits; decide +kernel⟩,
    ⟨lv [], w0, 7 * 2 ^ 125, by unfold State.admits; decide +kernel⟩,
    ⟨lv [(atRow K.SEG_TABLE 16383, 1 + 4 * 2 ^ 16 + 9 * 2 ^ 40)], w0, 7 * 2 ^ 125 + 16383 * 2 ^ 111 + 9 * 2 ^ 103 + 4, 16383, 4, by unfold State.admits; decide +kernel⟩,
    ⟨{ lv [(atRow K.SEG_TABLE 16383, 1 + 4 * 2 ^ 16 + 9 * 2 ^ 40), (atRow K.PAGE_MAP 1023, 3 * 2 ^ 61 + 16383 * 2 ^ 47 + 9 * 2 ^ 39), (K.SQ_STATE 0, 2)] with sqHid := [(0, { line := [{ id := 3, kind := 0, entry := 16383, gen := 9, len := 4, start := some 0 }] })] }, w0, 7 * 2 ^ 125 + 16383 * 2 ^ 111 + 9 * 2 ^ 103, 16383, 1023, 0, by unfold State.admits; decide +kernel⟩,
    ⟨lv [(atRow K.SEG_TABLE 16383, 1 + 4 * 2 ^ 16 + 9 * 2 ^ 40)], w0, 7 * 2 ^ 125 + 16383 * 2 ^ 111 + 9 * 2 ^ 103, 16383, 0, by unfold State.admits; decide +kernel⟩,
    ⟨{ lv [(atRow K.SEG_TABLE 16383, 1 + 4 * 2 ^ 16 + 9 * 2 ^ 40), (atRow K.PAGE_MAP 1023, 2 * 2 ^ 61 + 16383 * 2 ^ 47 + 9 * 2 ^ 39), (K.PAGE_SLOTS_BUSY, 128)] with xunits := [(60, { active := some { code := 3, entry := 16383, gen := 9, ppn := 1023, src := 7, prog := 1000 } })], slotBytes := [(7 * 24576 + 24 * 1023 + 21, 77)] }, 1023, { code := 3, entry := 16383, gen := 9, ppn := 1023, src := 7, prog := 1000 }, by decide +kernel⟩⟩

/-- The hypotheses of each clause of `Obligations.PageWrites` hold together somewhere: part 2 of 3. -/
theorem witness_PageWrites_2 :
    (∃ (s : State) (p : Nat) (o : XOp), s.mode ≠ 0 ∧ p < 1024 ∧ (s.unit (p / 64) 8) = { active := some o, held := none, wait := [] } ∧ o.ppn = p ∧ o.code = 3 ∧ o.src < 8 ∧ s.xferOf p = none ∧ Pg.state (s.page p) ≠ Pg.filling ∧ Seg.gen (s.seg o.entry) = o.gen ∧ Seg.live (s.seg o.entry) = true) ∧
    (∃ (s : State) (p : Nat) (o : XOp) (x : Xfer), s.mode ≠ 0 ∧ p < 1024 ∧ (s.unit (p / 64) 8) = { active := some o, held := none, wait := [] } ∧ o.ppn = p ∧ o.code = 2 ∧ s.xferOf p = some x ∧ x.full = true ∧ x.data.length = 24576 ∧ x.load = none ∧ Pg.state (s.page p) = Pg.filling ∧ Seg.gen (s.seg o.entry) = o.gen ∧ Seg.live (s.seg o.entry) = true) ∧
    (∃ (s : State) (p : Nat) (o : XOp), s.mode ≠ 0 ∧ p < 1024 ∧ (s.unit (p / 64) 8) = { active := some o, held := none, wait := [] } ∧ o.ppn = p ∧ o.code = 3 ∧ o.src < 8 ∧ s.xferOf p = none ∧ (s.unit (p / 64) 9).active = none ∧ (s.unit (p / 64) 10).active = none ∧ Seg.gen (s.seg o.entry) ≠ o.gen ∧ Pg.state (s.page p) = Pg.filling) ∧
    (∃ (s : State) (p : Nat), s.mode ≠ 0 ∧ (∀ x ∈ (s.unit (p / 64) 8).active, x.ppn ≠ p)) ∧
    (∃ (s : State), s.mode ≠ 0) ∧
    (∃ (s : State), s.mode ≠ 0 ∧ s.g K.PAGE_SLOTS_BUSY = 0) ∧
    (∃ (s : State) (off : Nat) (k : Nat) (l : List Byte) (o : XOp), s.mode ≠ 0 ∧ k < 8 ∧ off / 24576 = k ∧ (off + l.length - 1) / 24576 = k ∧ off % 24 = 0 ∧ l ≠ [] ∧ (List.range 16).flatMap (fun b => (s.unit b 8).ops.filter (fun o => o.code == 3 && o.src % 8 == k)) = [o] ∧ o.src = k ∧ bit (s.g K.PAGE_SLOTS_BUSY) k = true) ∧
    (∃ (s : State) (w : Who) (a : Nat) (e : Nat), s.admits w 1 ∧ setBit (a % 2 ^ 64) 63 false = e ∧ s.underTest (bits e 9 0) = false ∧ bit (s.g K.PAGE_SLOTS_BUSY) (if bit e 62 then 9 else 8) = false ∧ s.readsAsked (bits e 9 0 / 64) = true) ∧
    (∃ (s : State) (w : Who) (a : Nat) (e : Nat), s.admits w 1 ∧ setBit (a % 2 ^ 64) 63 false = e ∧ (s.underTest (bits e 9 0) = true ∨ bit (s.g K.PAGE_SLOTS_BUSY) (if bit e 62 then 9 else 8) = true)) ∧
    (∃ (s : State) (w : Who) (a : Nat) (e : Nat) (p : Nat), s.admits w 1 ∧ setBit (a % 2 ^ 64) 63 true = e ∧ Seg.live (s.seg (bits e 61 48)) = true ∧ bits e 13 0 < Seg.pages (s.seg (bits e 61 48)) ∧ bits e 47 40 = Seg.gen (s.seg (bits e 61 48)) ∧ s.ppnOf (bits e 61 48) (bits e 13 0) = some p ∧ s.underTest p = false ∧ bit (s.g K.PAGE_SLOTS_BUSY) (if bit e 62 then 9 else 8) = false ∧ s.readsAsked (p / 64) = true) :=
  ⟨⟨{ lv [(atRow K.SEG_TABLE 16383, 2 + 4 * 2 ^ 16 + 9 * 2 ^ 40), (atRow K.PAGE_MAP 1023, 2 ^ 61 + 16383 * 2 ^ 47 + 9 * 2 ^ 39), (K.PAGE_SLOTS_BUSY, 128)] with xunits := [(60, { active := some { code := 3, entry := 16383, gen := 9, ppn := 1023, src := 7, prog := 0 } })], slotBytes := [(7 * 24576 + 24 * 1023 + 21, 77)] }, 1023, { code := 3, entry := 16383, gen := 9, ppn := 1023, src := 7, prog := 0 }, by decide +kernel⟩,
    ⟨{ lv [(atRow K.SEG_TABLE 16383, 1 + 4 * 2 ^ 16 + 9 * 2 ^ 40), (atRow K.PAGE_MAP 1023, 2 * 2 ^ 61 + 16383 * 2 ^ 47 + 9 * 2 ^ 39)] with xunits := [(60, { active := some { code := 2, entry := 16383, gen := 9, ppn := 1023, prog := 1020 } })], xfers := [{ tag := 3, entry := 16383, gen := 9, page := 0, ppn := 1023, addr := 0, start := 5, asked := true, full := true, data := List.replicate 24576 1 }] }, 1023, { code := 2, entry := 16383, gen := 9, ppn := 1023, prog := 1020 }, { tag := 3, entry := 16383, gen := 9, page := 0, ppn := 1023, addr := 0, start := 5, asked := true, full := true, data := List.replicate 24576 1 }, ⟨by decide +kernel, by decide +kernel, by decide +kernel, rfl, rfl, rfl, rfl, List.length_replicate, rfl, by decide +kernel, by decide +kernel, by decide +kernel⟩⟩,
    ⟨{ lv [(atRow K.SEG_TABLE 16383, 1 + 4 * 2 ^ 16 + 9 * 2 ^ 40), (atRow K.PAGE_MAP 1023, 2 * 2 ^ 61 + 16383 * 2 ^ 47 + 9 * 2 ^ 39), (K.PAGE_SLOTS_BUSY, 128)] with xunits := [(60, { active := some { code := 3, entry := 16383, gen := 8, ppn := 1023, src := 7, prog := 1000 } })], slotBytes := [(7 * 24576 + 24 * 1023 + 21, 77)] }, 1023, { code := 3, entry := 16383, gen := 8, ppn := 1023, src := 7, prog := 1000 }, by decide +kernel⟩,
    ⟨{ lv [(atRow K.SEG_TABLE 16383, 1 + 4 * 2 ^ 16 + 9 * 2 ^ 40), (atRow K.PAGE_MAP 1023, 2 * 2 ^ 61 + 16383 * 2 ^ 47 + 9 * 2 ^ 39), (K.PAGE_SLOTS_BUSY, 128)] with xunits := [(60, { active := some { code := 3, entry := 16383, gen := 9, ppn := 1023, src := 7, prog := 1000 } })], slotBytes := [(7 * 24576 + 24 * 1023 + 21, 77)] }, 1022, by decide +kernel⟩,
    ⟨lv [(K.PAGE_SLOTS_BUSY, 255)], by decide +kernel⟩,
    ⟨lv [], by decide +kernel⟩,
    ⟨{ lv [(atRow K.SEG_TABLE 16383, 1 + 4 * 2 ^ 16 + 9 * 2 ^ 40), (atRow K.PAGE_MAP 1023, 2 * 2 ^ 61 + 16383 * 2 ^ 47 + 9 * 2 ^ 39), (K.PAGE_SLOTS_BUSY, 128)] with xunits := [(60, { active := some { code := 3, entry := 16383, gen := 9, ppn := 1023, src := 7, prog := 1000 } })], slotBytes := [(7 * 24576 + 24 * 1023 + 21, 77)] }, 7 * 24576, 7, [1, 0, 3], { code := 3, entry := 16383, gen := 9, ppn := 1023, src := 7, prog := 1000 }, by decide +kernel⟩,
    ⟨{ lv [] with xunits := [(63, { active := some { code := 8, ppn := 1000, src := 8 } })] }, w0, 2 ^ 62 + 1023, 2 ^ 62 + 1023, by unfold State.admits; decide +kernel⟩,
    ⟨{ lv [] with selftest := some ([1023], 0, 0) }, w0, 2 ^ 62 + 1023, 2 ^ 62 + 1023, by unfold State.admits; decide +kernel⟩,
    ⟨lv [(atRow K.SEG_TABLE 16383, 1 + 4 * 2 ^ 16 + 9 * 2 ^ 40), (atRow K.PAGE_MAP 1023, 2 ^ 61 + 16383 * 2 ^ 47 + 9 * 2 ^ 39)], w0, 16383 * 2 ^ 48 + 9 * 2 ^ 40, 2 ^ 63 + 16383 * 2 ^ 48 + 9 * 2 ^ 40, 1023, by unfold State.admits; decide +kernel⟩⟩

/-- The hypotheses of each clause of `Obligations.PageWrites` hold together somewhere: part 3 of 3. -/
theorem witness_PageWrites_3 :
    (∃ (s : State) (w : Who) (a : Nat) (e : Nat) (p : Nat), s.admits w 1 ∧ setBit (a % 2 ^ 64) 63 true = e ∧ Seg.live (s.seg (bits e 61 48)) = true ∧ bits e 13 0 < Seg.pages (s.seg (bits e 61 48)) ∧ bits e 47 40 = Seg.gen (s.seg (bits e 61 48)) ∧ s.ppnOf (bits e 61 48) (bits e 13 0) = some p ∧ (s.underTest p = true ∨ bit (s.g K.PAGE_SLOTS_BUSY) (if bit e 62 then 9 else 8) = true)) ∧
    (∃ (s : State) (w : Who) (a : Nat) (e : Nat), s.admits w 1 ∧ setBit (a % 2 ^ 64) 63 true = e ∧ Seg.live (s.seg (bits e 61 48)) = true ∧ bits e 13 0 < Seg.pages (s.seg (bits e 61 48)) ∧ bits e 47 40 ≠ Seg.gen (s.seg (bits e 61 48))) ∧
    (∃ (s : State) (w : Who) (a : Nat) (e : Nat), s.admits w 1 ∧ setBit (a % 2 ^ 64) 63 true = e ∧ (Seg.live (s.seg (bits e 61 48)) = false ∨ Seg.pages (s.seg (bits e 61 48)) ≤ bits e 13 0)) ∧
    (∃ (s : State) (w : Who) (a : Nat) (e : Nat), s.admits w 1 ∧ setBit (a % 2 ^ 64) 63 true = e ∧ Seg.live (s.seg (bits e 61 48)) = true ∧ bits e 13 0 < Seg.pages (s.seg (bits e 61 48)) ∧ bits e 47 40 = Seg.gen (s.seg (bits e 61 48)) ∧ s.ppnOf (bits e 61 48) (bits e 13 0) = none) ∧
    (∃ (s : State) (n : Nat) (bad : List Nat) (o : XOp), s.mode ≠ 0 ∧ n < 10 ∧ ((List.range 16).flatMap (fun b => (s.unit b 11).active.toList)).find? (fun x => x.code == 8 && x.src == n) = some o ∧ (s.unit (o.ppn / 64) 11) = { active := some o, held := none, wait := [] } ∧ s.readsAsked (o.ppn / 64) = true ∧ bad.Nodup ∧ (∀ i ∈ bad, i < 1024 ∧ i < o.prog)) ∧
    (∃ (s : State) (n : Nat) (f : Nat) (bad : List Nat) (o : XOp), s.mode ≠ 0 ∧ n < 10 ∧ ((List.range 16).flatMap (fun b => (s.unit b 11).active.toList)).find? (fun x => x.code == 8 && x.src == n) = some o ∧ o.ppn < 1024 ∧ (s.unit (o.ppn / 64) 11) = { active := some o, held := none, wait := [] } ∧ s.readsAsked (o.ppn / 64) = true ∧ bad = [f] ∧ f < 1024 ∧ o.prog ≤ f ∧ Pg.state (s.page o.ppn) = Pg.retired) ∧
    (∃ (s : State) (n : Nat), s.mode ≠ 0 ∧ ((List.range 16).flatMap (fun b => (s.unit b 11).active.toList)).find? (fun x => x.code == 8 && x.src == n) = none) :=
  ⟨⟨lv [(atRow K.SEG_TABLE 16383, 1 + 4 * 2 ^ 16 + 9 * 2 ^ 40), (atRow K.PAGE_MAP 1023, 2 ^ 61 + 16383 * 2 ^ 47 + 9 * 2 ^ 39), (K.PAGE_SLOTS_BUSY, 256)], w0, 16383 * 2 ^ 48 + 9 * 2 ^ 40, 2 ^ 63 + 16383 * 2 ^ 48 + 9 * 2 ^ 40, 1023, by unfold State.admits; decide +kernel⟩,
    ⟨lv [(atRow K.SEG_TABLE 16383, 1 + 4 * 2 ^ 16 + 9 * 2 ^ 40)], w0, 16383 * 2 ^ 48 + 8 * 2 ^ 40, 2 ^ 63 + 16383 * 2 ^ 48 + 8 * 2 ^ 40, by unfold State.admits; decide +kernel⟩,
    ⟨lv [], w0, 16383 * 2 ^ 48 + 9 * 2 ^ 40, 2 ^ 63 + 16383 * 2 ^ 48 + 9 * 2 ^ 40, by unfold State.admits; decide +kernel⟩,
    ⟨lv [(atRow K.SEG_TABLE 16383, 1 + 4 * 2 ^ 16 + 9 * 2 ^ 40)], w0, 16383 * 2 ^ 48 + 9 * 2 ^ 40, 2 ^ 63 + 16383 * 2 ^ 48 + 9 * 2 ^ 40, by unfold State.admits; decide +kernel⟩,
    ⟨{ lv [(K.PAGE_SLOTS_BUSY, 256)] with xunits := [(63, { active := some { code := 8, ppn := 1023, src := 8, prog := 5 } })], vmem := [(1024 * 1023 + 1023, 2 ^ 175 + 5)] }, 8, [4], { code := 8, ppn := 1023, src := 8, prog := 5 }, by decide +kernel⟩,
    ⟨{ lv [(K.PAGE_SLOTS_BUSY, 256), (atRow K.PAGE_MAP 1023, 5 * 2 ^ 61)] with xunits := [(63, { active := some { code := 8, ppn := 1023, src := 8, prog := 5 } })], vmem := [(1024 * 1023 + 1023, 2 ^ 175 + 5)] }, 8, 1023, [1023], { code := 8, ppn := 1023, src := 8, prog := 5 }, by decide +kernel⟩,
    ⟨lv [], 8, by decide +kernel⟩⟩

/-- The hypotheses of each clause of `Obligations.PageUpkeep` hold together somewhere: part 1 of 3. -/
theorem witness_PageUpkeep :
    (∃ (s : State) (w : Who) (m : Nat) (p : Nat) (l : List Nat), s.admits w 1 ∧ s.selftest = none ∧ (List.range 1024).filter (fun x => bit (m % 2 ^ 16) (x / 64) && s.testable x) = p :: l ∧ s.readsAsked (p / 64) = true ∧ (∀ x ∈ (s.unit (p / 64) 10).active, x.code ≠ 7)) ∧
    (∃ (s : State) (w : Who) (m : Nat) (p : Nat) (l : List Nat) (o : XOp), s.admits w 1 ∧ s.selftest = none ∧ (List.range 1024).filter (fun x => bit (m % 2 ^ 16) (x / 64) && s.testable x) = p :: l ∧ s.readsAsked (p / 64) = true ∧ (s.unit (p / 64) 10).active = some o ∧ (s.unit (p / 64) 10).held = none ∧ o.code = 7 ∧ o.ppn / 64 = p / 64 ∧ o.peer = none) ∧
    (∃ (s : State) (w : Who) (m : Nat), s.admits w 1 ∧ s.selftest = none ∧ (List.range 1024).filter (fun x => bit (m % 2 ^ 16) (x / 64) && s.testable x) = []) ∧
    (∃ (s : State) (w : Who), s.admits w 1 ∧ s.selftest.isSome = true) ∧
    (∃ (s : State) (p : Nat) (n : Nat) (f : Nat) (o : XOp), s.mode ≠ 0 ∧ p < 1024 ∧ s.selftest = some ([p], n, f) ∧ (s.unit (p / 64) 10) = { active := some o, held := none, wait := [] } ∧ o.code = 6 ∧ o.ppn = p ∧ 128 ≤ s.opFrames o ∧ s.noneDead (p / 64) = true ∧ s.readsAsked (p / 64) = true ∧ Pg.state (s.page p) = Pg.free) ∧
    (∃ (s : State) (p : Nat) (n : Nat) (f : Nat) (o : XOp), s.mode ≠ 0 ∧ p < 1024 ∧ s.selftest = some ([p], n, f) ∧ (s.unit (p / 64) 10) = { active := some o, held := none, wait := [] } ∧ o.code = 6 ∧ o.ppn = p ∧ 128 ≤ s.opFrames o ∧ s.noneDead (p / 64) = true ∧ s.readsAsked (p / 64) = true ∧ Pg.state (s.page p) ≠ Pg.free) ∧
    (∃ (s : State) (p : Nat) (n : Nat) (f : Nat) (p' : Nat) (l : List Nat) (o : XOp), s.mode ≠ 0 ∧ p < 1024 ∧ s.selftest = some (p :: p' :: l, n, f) ∧ (s.unit (p / 64) 10) = { active := some o, held := none, wait := [] } ∧ o.code = 6 ∧ o.ppn = p ∧ 128 ≤ s.opFrames o ∧ s.noneDead (p / 64) = true ∧ s.readsAsked (p / 64) = true ∧ p' ≠ p ∧ p' / 64 = p / 64 ∧ s.testable p' = true ∧ Pg.state (s.page p) = Pg.free) ∧
    (∃ (s : State) (p : Nat) (n : Nat) (f : Nat) (o : XOp), s.mode ≠ 0 ∧ p < 1024 ∧ s.selftest = some ([p], n, f) ∧ (s.unit (p / 64) 10) = { active := some o, held := none, wait := [] } ∧ o.code = 6 ∧ o.ppn = p ∧ 128 ≤ s.opFrames o ∧ s.noneDead (p / 64) = true ∧ s.readsAsked (p / 64) = true ∧ Pg.state (s.page p) = Pg.free) ∧
    (∃ (s : State) (p : Nat) (n : Nat) (f : Nat) (o : XOp), s.mode ≠ 0 ∧ p < 1024 ∧ s.selftest = some ([p], n, f) ∧ (s.unit (p / 64) 10) = { active := some o, held := none, wait := [] } ∧ o.code = 6 ∧ o.ppn = p ∧ 128 ≤ s.opFrames o ∧ s.noneDead (p / 64) = true ∧ s.readsAsked (p / 64) = true ∧ Pg.state (s.page p) ≠ Pg.free ∧ Pg.state (s.page p) ≠ Pg.retired) ∧
    (∃ (s : State) (p : Nat), s.mode ≠ 0 ∧ (∀ x ∈ (s.unit (p / 64) 10).active, x.code ≠ 6 ∨ x.ppn ≠ p ∨ s.opFrames x < 128)) :=
  ⟨⟨lv [], w0, 2 ^ 15, 960, (List.range 63).map (· + 961), by unfold State.admits; decide +kernel⟩,
    ⟨{ lv [(atRow K.PAGE_MAP 1023, 3 * 2 ^ 61)] with xunits := [(62, { active := some { code := 7, ppn := 1023, since := 99990 } })] }, w0, 2 ^ 15, 960, (List.range 63).map (· + 961), { code := 7, ppn := 1023, since := 99990 }, by unfold State.admits; decide +kernel⟩,
    ⟨lv [], w0, 0, by unfold State.admits; decide +kernel⟩,
    ⟨{ lv [] with selftest := some ([3], 0, 0) }, w0, by unfold State.admits; decide +kernel⟩,
    ⟨{ lv [] with selftest := some ([1023], 4, 1), xunits := [(62, { active := some { code := 6, ppn := 1023, since := 99000 } })] }, 1023, 4, 1, { code := 6, ppn := 1023, since := 99000 }, by decide +kernel⟩,
    ⟨{ lv [(atRow K.PAGE_MAP 1023, 3 * 2 ^ 61)] with selftest := some ([1023], 4, 1), xunits := [(62, { active := some { code := 6, ppn := 1023, since := 99000 } })] }, 1023, 4, 1, { code := 6, ppn := 1023, since := 99000 }, by decide +kernel⟩,
    ⟨{ lv [] with selftest := some ([1023, 1021], 4, 1), xunits := [(62, { active := some { code := 6, ppn := 1023, since := 99000 } })] }, 1023, 4, 1, 1021, [], { code := 6, ppn := 1023, since := 99000 }, by decide +kernel⟩,
    ⟨{ lv [] with selftest := some ([1023], 4, 1), xunits := [(62, { active := some { code := 6, ppn := 1023, since := 99000 } })] }, 1023, 4, 1, { code := 6, ppn := 1023, since := 99000 }, by decide +kernel⟩,
    ⟨{ lv [(atRow K.PAGE_MAP 1023, 3 * 2 ^ 61)] with selftest := some ([1023], 4, 1), xunits := [(62, { active := some { code := 6, ppn := 1023, since := 99000 } })] }, 1023, 4, 1, { code := 6, ppn := 1023, since := 99000 }, by decide +kernel⟩,
    ⟨{ lv [] with selftest := some ([1023], 4, 1), xunits := [(62, { active := some { code := 6, ppn := 1023, since := 99873 } })] }, 1023, by decide +kernel⟩⟩

/-- The hypotheses of each clause of `Obligations.PageUpkeep` hold together somewhere: part 2 of 3. -/
theorem witness_PageUpkeep_2 :
    (∃ (s : State) (p : Nat) (d : Nat) (why : MoveReason), s.mode ≠ 0 ∧ s.mayMove p d why = true ∧ s.readsAsked 0 = true ∧ (∀ x ∈ (s.unit 0 9).active, x.code = 4 ∨ why ≠ .errors) ∧ (∀ x ∈ (s.unit 0 9).active, x.code = 4 ∨ x.code = 5)) ∧
    (∃ (s : State) (p : Nat) (d : Nat) (p' : Nat) (o : XOp), s.mode ≠ 0 ∧ s.mayMove p d .errors = true ∧ s.readsAsked 0 = true ∧ (s.unit 0 9).active = some o ∧ (s.unit 0 9).held = none ∧ o.code = 5 ∧ s.moveDone = false ∧ d / 64 = p / 64 ∧ o.peer = some p' ∧ o.ppn / 64 = p / 64 ∧ p' / 64 = p / 64) ∧
    (∃ (s : State) (p : Nat) (d : Nat) (why : MoveReason), s.mode ≠ 0 ∧ s.mayMove p d why = false) ∧
    (∃ (s : State) (p : Nat) (o : XOp), s.mode ≠ 0 ∧ (s.unit 0 9).active = some o ∧ (o.code = 4 ∨ o.code = 5) ∧ o.peer = some p ∧ Pg.state (s.page p) ≠ Pg.free ∧ Pg.state (s.page p) ≠ Pg.retired ∧ s.active (Pg.entry (s.page p)) = false ∧ 22 ≤ s.opFrames o) ∧
    (∃ (s : State) (p : Nat) (o : XOp), s.mode ≠ 0 ∧ (s.unit 0 9).active = some o ∧ (o.code = 4 ∨ o.code = 5) ∧ o.peer = some p ∧ Pg.state (s.page p) ≠ Pg.free ∧ Pg.state (s.page p) ≠ Pg.retired ∧ s.active (Pg.entry (s.page p)) = false ∧ s.opFrames o < 22) ∧
    (∃ (s : State) (p : Nat) (o : XOp), s.mode ≠ 0 ∧ (s.unit 0 9) = { active := some o, held := none, wait := [] } ∧ (o.code = 4 ∨ o.code = 5) ∧ o.peer = some p ∧ p < 1024 ∧ o.ppn < 1024 ∧ (Pg.state (s.page p) = Pg.free ∨ Pg.state (s.page p) = Pg.retired ∨ s.active (Pg.entry (s.page p)) = true) ∧ s.readsAsked 0 = true ∧ o.ppn / 64 = p / 64) ∧
    (∃ (s : State) (p : Nat) (o : XOp), s.mode ≠ 0 ∧ (s.unit 0 9) = { active := some o, held := none, wait := [] } ∧ (o.code = 4 ∨ o.code = 5) ∧ o.peer = some p ∧ p < 1024 ∧ o.ppn < 1024 ∧ (Pg.state (s.page p) = Pg.free ∨ Pg.state (s.page p) = Pg.retired ∨ s.active (Pg.entry (s.page p)) = true) ∧ s.readsAsked 0 = true ∧ o.ppn / 64 ≠ p / 64) ∧
    (∃ (s : State), s.mode ≠ 0 ∧ (s.unit 0 9).active = none) ∧
    (∃ (s : State) (p : Nat), s.mode ≠ 0 ∧ p < 1024 ∧ s.scrubNext (p / 64) = some p ∧ Sp.get (fun _ => 0) s.scrubTick (p / 64) + 128 ≤ s.tick ∧ (Pg.ring (s.page p) = true → ∀ x ∈ s.ringPages (Pg.sq (s.page p)), Pg.ce x.2 < s.g K.PAGE_CE_LIMIT) ∧ (∀ x ∈ (s.unit (p / 64) 10).ops, x.code ≠ 7 ∨ x.ppn ≠ p)) ∧
    (∃ (s : State) (p : Nat) (o : XOp), s.mode ≠ 0 ∧ p < 1024 ∧ s.scrubNext (p / 64) = some p ∧ Sp.get (fun _ => 0) s.scrubTick (p / 64) + 128 ≤ s.tick ∧ (Pg.ring (s.page p) = true → ∀ x ∈ s.ringPages (Pg.sq (s.page p)), Pg.ce x.2 < s.g K.PAGE_CE_LIMIT) ∧ (s.unit (p / 64) 10) = { active := some o, held := none, wait := [] } ∧ o.code = 7 ∧ o.ppn = p ∧ s.readsAsked (p / 64) = true) :=
  ⟨⟨lv [(atRow K.SEG_TABLE 16383, 1 + 4 * 2 ^ 16 + 9 * 2 ^ 40 + 7 * 2 ^ 76), (atRow K.PAGE_MAP 1023, 3 * 2 ^ 61 + 16383 * 2 ^ 47 + 9 * 2 ^ 39 + 7 * 2 ^ 35 + 31 * 2 ^ 16), (K.SQ_BANKS 7, 2 ^ 15), (K.PAGE_CE_LIMIT, 31)], 1023, 960, .errors, by decide +kernel⟩,
    ⟨{ lv [(atRow K.SEG_TABLE 16383, 1 + 4 * 2 ^ 16 + 9 * 2 ^ 40 + 7 * 2 ^ 76), (atRow K.PAGE_MAP 1023, 3 * 2 ^ 61 + 16383 * 2 ^ 47 + 9 * 2 ^ 39 + 7 * 2 ^ 35 + 31 * 2 ^ 16), (K.SQ_BANKS 7, 2 ^ 15), (K.PAGE_CE_LIMIT, 31)] with xunits := [(64, { active := some { code := 5, ppn := 999, peer := some 1000, src := 4, since := 99990 } })] }, 1023, 960, 1000, { code := 5, ppn := 999, peer := some 1000, src := 4, since := 99990 }, by decide +kernel⟩,
    ⟨lv [], 1023, 960, .errors, by decide +kernel⟩,
    ⟨{ lv [(atRow K.PAGE_MAP 1023, 3 * 2 ^ 61)] with xunits := [(64, { active := some { code := 4, ppn := 960, peer := some 1023, src := 3, since := 99978 } })] }, 1023, { code := 4, ppn := 960, peer := some 1023, src := 3, since := 99978 }, by decide +kernel⟩,
    ⟨{ lv [(atRow K.PAGE_MAP 1023, 3 * 2 ^ 61)] with xunits := [(64, { active := some { code := 4, ppn := 960, peer := some 1023, src := 3, since := 99979 } })] }, 1023, { code := 4, ppn := 960, peer := some 1023, src := 3, since := 99979 }, by decide +kernel⟩,
    ⟨{ lv [] with xunits := [(64, { active := some { code := 4, ppn := 960, peer := some 1023, src := 3, since := 99978 } })] }, 1023, { code := 4, ppn := 960, peer := some 1023, src := 3, since := 99978 }, by decide +kernel⟩,
    ⟨{ lv [(atRow K.PAGE_MAP 1023, 5 * 2 ^ 61)] with xunits := [(64, { active := some { code := 4, ppn := 8, peer := some 1023, src := 3, since := 99978 } })] }, 1023, { code := 4, ppn := 8, peer := some 1023, src := 3, since := 99978 }, by decide +kernel⟩,
    ⟨lv [], by decide +kernel⟩,
    ⟨lv [(atRow K.PAGE_MAP 1023, 3 * 2 ^ 61)], 1023, by decide +kernel⟩,
    ⟨{ lv [(atRow K.PAGE_MAP 1023, 3 * 2 ^ 61), (atRow K.PAGE_MAP 980, 3 * 2 ^ 61)] with xunits := [(62, { active := some { code := 7, ppn := 980 } })] }, 980, { code := 7, ppn := 980 }, by decide +kernel⟩⟩

/-- The hypotheses of each clause of `Obligations.PageUpkeep` hold together somewhere: part 3 of 3. -/
theorem witness_PageUpkeep_3 :
    (∃ (s : State) (p : Nat), s.mode ≠ 0 ∧ (s.scrubNext (p / 64) ≠ some p ∨ s.tick < Sp.get (fun _ => 0) s.scrubTick (p / 64) + 128)) :=
  ⟨{ lv [(atRow K.PAGE_MAP 1023, 3 * 2 ^ 61)] with scrubTick := [(15, 99873)] }, 1023, by decide +kernel⟩

/-- The hypotheses of each clause of `Obligations.Refill` hold together somewhere: part 1 of 5. -/
theorem witness_Refill :
    (∃ (s : State) (q : Nat) (p : Nat) (g : Nat) (a : Nat) (n : Nat) (e : Nat) (k : Nat) (sl : Nat) (v : Nat) (pre : List (Nat × Nat × Nat × Nat)) (rest : List (Nat × Nat × Nat × Nat)), s.mode ≠ 0 ∧ q < 8 ∧ s.g (K.SQ_STATE q) ≠ 0 ∧ (∀ z ∈ s.ringPages q, Pg.ce z.2 < s.g K.PAGE_CE_LIMIT) ∧ s.toFill q = pre ++ (e, g, n, k) :: rest ∧ (∀ z ∈ pre, (s.streamPage q z.1 z.2.1 z.2.2.1).any (fun m => Pg.state (s.page m.2) == Pg.valid || (s.unit (m.2 / 64) 8).ops.any (fun o => o.ppn == m.2)) = true) ∧ s.streamPage q e g n = none ∧ s.produced e n = true ∧ (s.ring q).next = sl ∧ s.ringPpn q sl = some p ∧ sl < s.g (K.RING_PAGES q) ∧ s.slotFree q sl = true ∧ (∀ z ∈ (s.unit (p / 64) 8).ops, z.ppn ≠ p) ∧ (∀ z ∈ (s.unit (p / 64) 9).ops, z.peer ≠ some p) ∧ s.xferOf p = none ∧ s.translate (s.streamSource e n k).1 (s.streamSource e n k).2 = some a ∧ (s.unit (p / 64) 8).active = none ∧ s.freeTag = some v) ∧
    (∃ (s : State) (q : Nat) (p : Nat) (g : Nat) (a : Nat) (n : Nat) (e : Nat) (k : Nat) (sl : Nat) (pre : List (Nat × Nat × Nat × Nat)) (rest : List (Nat × Nat × Nat × Nat)) (o : XOp), s.mode ≠ 0 ∧ q < 8 ∧ s.g (K.SQ_STATE q) ≠ 0 ∧ (∀ z ∈ s.ringPages q, Pg.ce z.2 < s.g K.PAGE_CE_LIMIT) ∧ s.toFill q = pre ++ (e, g, n, k) :: rest ∧ (∀ z ∈ pre, (s.streamPage q z.1 z.2.1 z.2.2.1).any (fun m => Pg.state (s.page m.2) == Pg.valid || (s.unit (m.2 / 64) 8).ops.any (fun o => o.ppn == m.2)) = true) ∧ s.streamPage q e g n = none ∧ s.produced e n = true ∧ (s.ring q).next = sl ∧ s.ringPpn q sl = some p ∧ sl < s.g (K.RING_PAGES q) ∧ s.slotFree q sl = true ∧ (∀ z ∈ (s.unit (p / 64) 8).ops, z.ppn ≠ p) ∧ (∀ z ∈ (s.unit (p / 64) 9).ops, z.peer ≠ some p) ∧ s.xferOf p = none ∧ s.translate (s.streamSource e n k).1 (s.streamSource e n k).2 = some a ∧ (s.unit (p / 64) 8).active = some o ∧ o.code = 1) ∧
    (∃ (s : State) (q : Nat) (p : Nat) (g : Nat) (a : Nat) (n : Nat) (e : Nat) (k : Nat) (sl : Nat) (v : Nat) (pre : List (Nat × Nat × Nat × Nat)) (rest : List (Nat × Nat × Nat × Nat)) (o : XOp), s.mode ≠ 0 ∧ q < 8 ∧ s.g (K.SQ_STATE q) ≠ 0 ∧ (∀ z ∈ s.ringPages q, Pg.ce z.2 < s.g K.PAGE_CE_LIMIT) ∧ s.toFill q = pre ++ (e, g, n, k) :: rest ∧ (∀ z ∈ pre, (s.streamPage q z.1 z.2.1 z.2.2.1).any (fun m => Pg.state (s.page m.2) == Pg.valid || (s.unit (m.2 / 64) 8).ops.any (fun o => o.ppn == m.2)) = true) ∧ s.streamPage q e g n = none ∧ s.produced e n = true ∧ (s.ring q).next = sl ∧ s.ringPpn q sl = some p ∧ sl < s.g (K.RING_PAGES q) ∧ s.slotFree q sl = true ∧ (∀ z ∈ (s.unit (p / 64) 8).ops, z.ppn ≠ p) ∧ (∀ z ∈ (s.unit (p / 64) 9).ops, z.peer ≠ some p) ∧ s.xferOf p = none ∧ s.translate (s.streamSource e n k).1 (s.streamSource e n k).2 = some a ∧ (s.unit (p / 64) 8).active = some o ∧ (s.unit (p / 64) 8).held = none ∧ (o.code = 2 ∨ o.code = 3) ∧ s.freeTag = some v) ∧
    (∃ (s : State) (q : Nat) (p : Nat) (g : Nat) (n : Nat) (e : Nat) (k : Nat) (sl : Nat) (pre : List (Nat × Nat × Nat × Nat)) (rest : List (Nat × Nat × Nat × Nat)), s.mode ≠ 0 ∧ q < 8 ∧ s.g (K.SQ_STATE q) ≠ 0 ∧ (∀ z ∈ s.ringPages q, Pg.ce z.2 < s.g K.PAGE_CE_LIMIT) ∧ s.toFill q = pre ++ (e, g, n, k) :: rest ∧ (∀ z ∈ pre, (s.streamPage q z.1 z.2.1 z.2.2.1).any (fun m => Pg.state (s.page m.2) == Pg.valid || (s.unit (m.2 / 64) 8).ops.any (fun o => o.ppn == m.2)) = true) ∧ s.streamPage q e g n = none ∧ s.produced e n = true ∧ (s.ring q).next = sl ∧ s.ringPpn q sl = some p ∧ sl < s.g (K.RING_PAGES q) ∧ s.slotFree q sl = true ∧ (∀ z ∈ (s.unit (p / 64) 8).ops, z.ppn ≠ p) ∧ (∀ z ∈ (s.unit (p / 64) 9).ops, z.peer ≠ some p) ∧ s.xferOf p = none ∧ s.translate (s.streamSource e n k).1 (s.streamSource e n k).2 = none ∧ p < 1024 ∧ Pg.ring (s.page p) = true ∧ Pg.sq (s.page p) = q ∧ Pg.index (s.page p) = sl) ∧
    (∃ (s : State) (q : Nat) (g : Nat) (n : Nat) (e : Nat) (k : Nat) (pre : List (Nat × Nat × Nat × Nat)) (rest : List (Nat × Nat × Nat × Nat)), s.mode ≠ 0 ∧ q < 8 ∧ s.g (K.SQ_STATE q) ≠ 0 ∧ (∀ z ∈ s.ringPages q, Pg.ce z.2 < s.g K.PAGE_CE_LIMIT) ∧ s.toFill q = pre ++ (e, g, n, k) :: rest ∧ (∀ z ∈ pre, (s.streamPage q z.1 z.2.1 z.2.2.1).any (fun m => Pg.state (s.page m.2) == Pg.valid || (s.unit (m.2 / 64) 8).ops.any (fun o => o.ppn == m.2)) = true) ∧ s.streamPage q e g n = none ∧ s.produced e n = false) :=
  ⟨⟨{ lv [(atRow K.SEG_TABLE 16383, 2 + 4 * 2 ^ 16 + 9 * 2 ^ 40 + 7 * 2 ^ 76), (atRow K.SEG_PLACE 16383, 2 * 2 ^ 62), (atRow K.SEG_SOURCE 16383, 4095 * 2 ^ 52), (atRow K.WIN_TABLE 4095, 2 ^ 64 + 16 * 2 ^ 104 + 4096 * 7), (K.SQ_STATE 7, 2), (K.RING_PAGES 7, 2), (atRow K.PAGE_MAP 1023, 2 ^ 61 + 2 ^ 38 + 7 * 2 ^ 35 + 2 ^ 21), (K.PAGE_CE_LIMIT, 31)] with sqHid := [(7, { line := [{ id := 3, kind := 0, entry := 16383, gen := 9, len := 4096, state := 2 }], fIter := 3 })], rings := [(7, { next := 1 })] }, 7, 1023, 9, 4096 * 7, 0, 16383, 0, 1, 0, [], (let s := { lv [(atRow K.SEG_TABLE 16383, 2 + 4 * 2 ^ 16 + 9 * 2 ^ 40 + 7 * 2 ^ 76), (atRow K.SEG_PLACE 16383, 2 * 2 ^ 62), (atRow K.SEG_SOURCE 16383, 4095 * 2 ^ 52), (atRow K.WIN_TABLE 4095, 2 ^ 64 + 16 * 2 ^ 104 + 4096 * 7), (K.SQ_STATE 7, 2), (K.RING_PAGES 7, 2), (atRow K.PAGE_MAP 1023, 2 ^ 61 + 2 ^ 38 + 7 * 2 ^ 35 + 2 ^ 21), (K.PAGE_CE_LIMIT, 31)] with sqHid := [(7, { line := [{ id := 3, kind := 0, entry := 16383, gen := 9, len := 4096, state := 2 }], fIter := 3 })], rings := [(7, { next := 1 })] }; (s.toFill 7).tail), by decide +kernel⟩,
    ⟨{ lv [(atRow K.SEG_TABLE 16383, 2 + 4 * 2 ^ 16 + 9 * 2 ^ 40 + 7 * 2 ^ 76), (atRow K.SEG_PLACE 16383, 2 * 2 ^ 62), (atRow K.SEG_SOURCE 16383, 4095 * 2 ^ 52), (atRow K.WIN_TABLE 4095, 2 ^ 64 + 16 * 2 ^ 104 + 4096 * 7), (K.SQ_STATE 7, 2), (K.RING_PAGES 7, 2), (atRow K.PAGE_MAP 1023, 2 ^ 61 + 2 ^ 38 + 7 * 2 ^ 35 + 2 ^ 21), (K.PAGE_CE_LIMIT, 31)] with sqHid := [(7, { line := [{ id := 3, kind := 0, entry := 16383, gen := 9, len := 4096, state := 2 }], fIter := 3 })], rings := [(7, { next := 1 })], xunits := [(60, { active := some { code := 1, ppn := 1000 } })] }, 7, 1023, 9, 4096 * 7, 0, 16383, 0, 1, [], (let s := { lv [(atRow K.SEG_TABLE 16383, 2 + 4 * 2 ^ 16 + 9 * 2 ^ 40 + 7 * 2 ^ 76), (atRow K.SEG_PLACE 16383, 2 * 2 ^ 62), (atRow K.SEG_SOURCE 16383, 4095 * 2 ^ 52), (atRow K.WIN_TABLE 4095, 2 ^ 64 + 16 * 2 ^ 104 + 4096 * 7), (K.SQ_STATE 7, 2), (K.RING_PAGES 7, 2), (atRow K.PAGE_MAP 1023, 2 ^ 61 + 2 ^ 38 + 7 * 2 ^ 35 + 2 ^ 21), (K.PAGE_CE_LIMIT, 31)] with sqHid := [(7, { line := [{ id := 3, kind := 0, entry := 16383, gen := 9, len := 4096, state := 2 }], fIter := 3 })], rings := [(7, { next := 1 })], xunits := [(60, { active := some { code := 1, ppn := 1000 } })] }; (s.toFill 7).tail), { code := 1, ppn := 1000 }, by decide +kernel⟩,
    ⟨{ lv [(atRow K.SEG_TABLE 16383, 2 + 4 * 2 ^ 16 + 9 * 2 ^ 40 + 7 * 2 ^ 76), (atRow K.SEG_PLACE 16383, 2 * 2 ^ 62), (atRow K.SEG_SOURCE 16383, 4095 * 2 ^ 52), (atRow K.WIN_TABLE 4095, 2 ^ 64 + 16 * 2 ^ 104 + 4096 * 7), (K.SQ_STATE 7, 2), (K.RING_PAGES 7, 2), (atRow K.PAGE_MAP 1023, 2 ^ 61 + 2 ^ 38 + 7 * 2 ^ 35 + 2 ^ 21), (K.PAGE_CE_LIMIT, 31)] with sqHid := [(7, { line := [{ id := 3, kind := 0, entry := 16383, gen := 9, len := 4096, state := 2 }], fIter := 3 })], rings := [(7, { next := 1 })], xunits := [(60, { active := some { code := 3, ppn := 1000, since := 7 } })] }, 7, 1023, 9, 4096 * 7, 0, 16383, 0, 1, 0, [], (let s := { lv [(atRow K.SEG_TABLE 16383, 2 + 4 * 2 ^ 16 + 9 * 2 ^ 40 + 7 * 2 ^ 76), (atRow K.SEG_PLACE 16383, 2 * 2 ^ 62), (atRow K.SEG_SOURCE 16383, 4095 * 2 ^ 52), (atRow K.WIN_TABLE 4095, 2 ^ 64 + 16 * 2 ^ 104 + 4096 * 7), (K.SQ_STATE 7, 2), (K.RING_PAGES 7, 2), (atRow K.PAGE_MAP 1023, 2 ^ 61 + 2 ^ 38 + 7 * 2 ^ 35 + 2 ^ 21), (K.PAGE_CE_LIMIT, 31)] with sqHid := [(7, { line := [{ id := 3, kind := 0, entry := 16383, gen := 9, len := 4096, state := 2 }], fIter := 3 })], rings := [(7, { next := 1 })], xunits := [(60, { active := some { code := 3, ppn := 1000, since := 7 } })] }; (s.toFill 7).tail), { code := 3, ppn := 1000, since := 7 }, by decide +kernel⟩,
    ⟨{ lv [(atRow K.SEG_TABLE 16383, 2 + 4 * 2 ^ 16 + 9 * 2 ^ 40 + 7 * 2 ^ 76), (atRow K.SEG_PLACE 16383, 2 * 2 ^ 62), (atRow K.SEG_SOURCE 16383, 4095 * 2 ^ 52), (K.SQ_STATE 7, 2), (K.RING_PAGES 7, 2), (atRow K.PAGE_MAP 1023, 2 ^ 61 + 2 ^ 38 + 7 * 2 ^ 35 + 2 ^ 21), (K.PAGE_CE_LIMIT, 31)] with sqHid := [(7, { line := [{ id := 3, kind := 0, entry := 16383, gen := 9, len := 4096, state := 2 }], fIter := 3 })], rings := [(7, { next := 1 })] }, 7, 1023, 9, 0, 16383, 0, 1, [], (let s := { lv [(atRow K.SEG_TABLE 16383, 2 + 4 * 2 ^ 16 + 9 * 2 ^ 40 + 7 * 2 ^ 76), (atRow K.SEG_PLACE 16383, 2 * 2 ^ 62), (atRow K.SEG_SOURCE 16383, 4095 * 2 ^ 52), (K.SQ_STATE 7, 2), (K.RING_PAGES 7, 2), (atRow K.PAGE_MAP 1023, 2 ^ 61 + 2 ^ 38 + 7 * 2 ^ 35 + 2 ^ 21), (K.PAGE_CE_LIMIT, 31)] with sqHid := [(7, { line := [{ id := 3, kind := 0, entry := 16383, gen := 9, len := 4096, state := 2 }], fIter := 3 })], rings := [(7, { next := 1 })] }; (s.toFill 7).tail), by decide +kernel⟩,
    ⟨{ lv [(atRow K.SEG_TABLE 16383, 2 + 4 * 2 ^ 16 + 9 * 2 ^ 40 + 7 * 2 ^ 76), (atRow K.SEG_PLACE 16383, 2 * 2 ^ 62), (atRow K.SEG_SOURCE 16383, 4095 * 2 ^ 52 + 8 * 2 ^ 8), (atRow K.WIN_TABLE 4095, 2 ^ 64 + 16 * 2 ^ 104 + 4096 * 7), (K.SQ_STATE 7, 2), (K.RING_PAGES 7, 2), (atRow K.PAGE_MAP 1023, 2 ^ 61 + 2 ^ 38 + 7 * 2 ^ 35 + 2 ^ 21), (K.PAGE_CE_LIMIT, 31)] with sqHid := [(7, { line := [{ id := 3, kind := 0, entry := 16383, gen := 9, len := 4096, state := 2 }], fIter := 3 })], rings := [(7, { next := 1 })] }, 7, 9, 0, 16383, 0, [], (let s := { lv [(atRow K.SEG_TABLE 16383, 2 + 4 * 2 ^ 16 + 9 * 2 ^ 40 + 7 * 2 ^ 76), (atRow K.SEG_PLACE 16383, 2 * 2 ^ 62), (atRow K.SEG_SOURCE 16383, 4095 * 2 ^ 52 + 8 * 2 ^ 8), (atRow K.WIN_TABLE 4095, 2 ^ 64 + 16 * 2 ^ 104 + 4096 * 7), (K.SQ_STATE 7, 2), (K.RING_PAGES 7, 2), (atRow K.PAGE_MAP 1023, 2 ^ 61 + 2 ^ 38 + 7 * 2 ^ 35 + 2 ^ 21), (K.PAGE_CE_LIMIT, 31)] with sqHid := [(7, { line := [{ id := 3, kind := 0, entry := 16383, gen := 9, len := 4096, state := 2 }], fIter := 3 })], rings := [(7, { next := 1 })] }; (s.toFill 7).tail), by decide +kernel⟩⟩

/-- The hypotheses of each clause of `Obligations.Refill` hold together somewhere: part 2 of 5. -/
theorem witness_Refill_2 :
    (∃ (s : State) (q : Nat) (p : Nat) (g : Nat) (n : Nat) (e : Nat) (k : Nat) (pre : List (Nat × Nat × Nat × Nat)) (rest : List (Nat × Nat × Nat × Nat)), s.mode ≠ 0 ∧ q < 8 ∧ s.g (K.SQ_STATE q) ≠ 0 ∧ (∀ z ∈ s.ringPages q, Pg.ce z.2 < s.g K.PAGE_CE_LIMIT) ∧ s.toFill q = pre ++ (e, g, n, k) :: rest ∧ (∀ z ∈ pre, (s.streamPage q z.1 z.2.1 z.2.2.1).any (fun m => Pg.state (s.page m.2) == Pg.valid || (s.unit (m.2 / 64) 8).ops.any (fun o => o.ppn == m.2)) = true) ∧ s.streamPage q e g n = none ∧ s.ringPpn q (s.ring q).next = some p ∧ (s.slotFree q (s.ring q).next = false ∨ s.g (K.RING_PAGES q) ≤ (s.ring q).next)) ∧
    (∃ (s : State) (q : Nat) (pre : List (Nat × Nat × Nat × Nat)), s.mode ≠ 0 ∧ q < 8 ∧ s.g (K.SQ_STATE q) ≠ 0 ∧ (∀ z ∈ s.ringPages q, Pg.ce z.2 < s.g K.PAGE_CE_LIMIT) ∧ s.toFill q = pre ∧ (∀ z ∈ pre, (s.streamPage q z.1 z.2.1 z.2.2.1).any (fun m => Pg.state (s.page m.2) == Pg.valid || (s.unit (m.2 / 64) 8).ops.any (fun o => o.ppn == m.2)) = true)) ∧
    (∃ (s : State) (q : Nat), s.mode ≠ 0 ∧ (8 ≤ q ∨ s.g (K.SQ_STATE q) = 0)) ∧
    (∃ (s : State) (q : Nat) (p : Nat) (a : Nat) (n : Nat) (v : Nat) (y : RingPage), s.mode ≠ 0 ∧ p < 1024 ∧ s.ringAt p = some (q, y) ∧ Pg.state (s.page p) = Pg.failed ∧ y.retry = some n ∧ n ≤ s.tick ∧ (s.toFill q).any (fun w => w.1 == y.entry && w.2.1 == y.gen && w.2.2.1 == y.n) = true ∧ s.translate (s.streamSource y.entry y.n y.j).1 (s.streamSource y.entry y.n y.j).2 = some a ∧ (s.unit (p / 64) 8).active = none ∧ s.xferOf p = none ∧ s.freeTag = some v) ∧
    (∃ (s : State) (q : Nat) (p : Nat) (a : Nat) (n : Nat) (y : RingPage) (o : XOp), s.mode ≠ 0 ∧ p < 1024 ∧ s.ringAt p = some (q, y) ∧ Pg.state (s.page p) = Pg.failed ∧ y.retry = some n ∧ n ≤ s.tick ∧ (s.toFill q).any (fun w => w.1 == y.entry && w.2.1 == y.gen && w.2.2.1 == y.n) = true ∧ s.translate (s.streamSource y.entry y.n y.j).1 (s.streamSource y.entry y.n y.j).2 = some a ∧ (s.unit (p / 64) 8).active = some o ∧ o.code = 1) :=
  ⟨⟨{ lv [(atRow K.SEG_TABLE 16383, 2 + 4 * 2 ^ 16 + 9 * 2 ^ 40 + 7 * 2 ^ 76), (atRow K.SEG_PLACE 16383, 2 * 2 ^ 62), (atRow K.SEG_SOURCE 16383, 4095 * 2 ^ 52), (atRow K.WIN_TABLE 4095, 2 ^ 64 + 16 * 2 ^ 104 + 4096 * 7), (K.SQ_STATE 7, 2), (K.RING_PAGES 7, 2), (atRow K.PAGE_MAP 1023, 2 ^ 61 + 2 ^ 38 + 7 * 2 ^ 35 + 2 ^ 21), (K.PAGE_CE_LIMIT, 31)] with sqHid := [(7, { line := [{ id := 3, kind := 0, entry := 16383, gen := 9, len := 4096, state := 2 }], fIter := 3 })], rings := [(7, { next := 1, pages := [{ slot := 1, entry := 5, gen := 9, n := 6, j := 0 }] })] }, 7, 1023, 9, 0, 16383, 0, [], (let s := { lv [(atRow K.SEG_TABLE 16383, 2 + 4 * 2 ^ 16 + 9 * 2 ^ 40 + 7 * 2 ^ 76), (atRow K.SEG_PLACE 16383, 2 * 2 ^ 62), (atRow K.SEG_SOURCE 16383, 4095 * 2 ^ 52), (atRow K.WIN_TABLE 4095, 2 ^ 64 + 16 * 2 ^ 104 + 4096 * 7), (K.SQ_STATE 7, 2), (K.RING_PAGES 7, 2), (atRow K.PAGE_MAP 1023, 2 ^ 61 + 2 ^ 38 + 7 * 2 ^ 35 + 2 ^ 21), (K.PAGE_CE_LIMIT, 31)] with sqHid := [(7, { line := [{ id := 3, kind := 0, entry := 16383, gen := 9, len := 4096, state := 2 }], fIter := 3 })], rings := [(7, { next := 1, pages := [{ slot := 1, entry := 5, gen := 9, n := 6, j := 0 }] })] }; (s.toFill 7).tail), by decide +kernel⟩,
    ⟨{ lv [(atRow K.SEG_TABLE 16383, 2 + 4 * 2 ^ 16 + 9 * 2 ^ 40 + 7 * 2 ^ 76), (atRow K.SEG_PLACE 16383, 2 * 2 ^ 62), (atRow K.SEG_SOURCE 16383, 4095 * 2 ^ 52), (atRow K.WIN_TABLE 4095, 2 ^ 64 + 16 * 2 ^ 104 + 4096 * 7), (K.SQ_STATE 7, 2), (K.RING_PAGES 7, 2), (atRow K.PAGE_MAP 1023, 2 ^ 61 + 2 ^ 38 + 7 * 2 ^ 35 + 2 ^ 21), (K.PAGE_CE_LIMIT, 31)] with sqHid := [(7, { line := [], fIter := 3 })], rings := [(7, { next := 1 })] }, 7, [], by decide +kernel⟩,
    ⟨lv [], 7, by decide +kernel⟩,
    ⟨{ lv [(atRow K.SEG_TABLE 16383, 2 + 4 * 2 ^ 16 + 9 * 2 ^ 40 + 7 * 2 ^ 76), (atRow K.SEG_PLACE 16383, 2 * 2 ^ 62), (atRow K.SEG_SOURCE 16383, 4095 * 2 ^ 52), (atRow K.WIN_TABLE 4095, 2 ^ 64 + 16 * 2 ^ 104 + 4096 * 7), (K.SQ_STATE 7, 2), (K.RING_PAGES 7, 2), (atRow K.PAGE_MAP 1023, 4 * 2 ^ 61 + 2 ^ 38 + 7 * 2 ^ 35 + 2 ^ 21), (K.PAGE_CE_LIMIT, 31)] with sqHid := [(7, { line := [{ id := 3, kind := 0, entry := 16383, gen := 9, len := 4096, state := 2 }], fIter := 3 })], rings := [(7, { next := 0, pages := [{ slot := 1, entry := 16383, gen := 9, n := 0, j := 0, retry := some 100000 }] })] }, 7, 1023, 4096 * 7, 100000, 0, { slot := 1, entry := 16383, gen := 9, n := 0, j := 0, retry := some 100000 }, by decide +kernel⟩,
    ⟨{ lv [(atRow K.SEG_TABLE 16383, 2 + 4 * 2 ^ 16 + 9 * 2 ^ 40 + 7 * 2 ^ 76), (atRow K.SEG_PLACE 16383, 2 * 2 ^ 62), (atRow K.SEG_SOURCE 16383, 4095 * 2 ^ 52), (atRow K.WIN_TABLE 4095, 2 ^ 64 + 16 * 2 ^ 104 + 4096 * 7), (K.SQ_STATE 7, 2), (K.RING_PAGES 7, 2), (atRow K.PAGE_MAP 1023, 4 * 2 ^ 61 + 2 ^ 38 + 7 * 2 ^ 35 + 2 ^ 21), (K.PAGE_CE_LIMIT, 31)] with sqHid := [(7, { line := [{ id := 3, kind := 0, entry := 16383, gen := 9, len := 4096, state := 2 }], fIter := 3 })], rings := [(7, { next := 0, pages := [{ slot := 1, entry := 16383, gen := 9, n := 0, j := 0, retry := some 100000 }] })], xunits := [(60, { active := some { code := 1, ppn := 1000 } })] }, 7, 1023, 4096 * 7, 100000, { slot := 1, entry := 16383, gen := 9, n := 0, j := 0, retry := some 100000 }, { code := 1, ppn := 1000 }, by decide +kernel⟩⟩

/-- The hypotheses of each clause of `Obligations.Refill` hold together somewhere: part 3 of 5. -/
theorem witness_Refill_3 :
    (∃ (s : State) (q : Nat) (p : Nat) (n : Nat) (y : RingPage), s.mode ≠ 0 ∧ p < 1024 ∧ s.ringAt p = some (q, y) ∧ Pg.state (s.page p) = Pg.failed ∧ y.retry = some n ∧ n ≤ s.tick ∧ (s.toFill q).any (fun w => w.1 == y.entry && w.2.1 == y.gen && w.2.2.1 == y.n) = true ∧ s.translate (s.streamSource y.entry y.n y.j).1 (s.streamSource y.entry y.n y.j).2 = none) ∧
    (∃ (s : State) (p : Nat), s.mode ≠ 0 ∧ (∀ z ∈ s.ringAt p, Pg.state (s.page p) ≠ Pg.failed ∨ (∀ m ∈ z.2.retry, s.tick < m) ∨ (s.toFill z.1).any (fun w => w.1 == z.2.entry && w.2.1 == z.2.gen && w.2.2.1 == z.2.n) = false)) ∧
    (∃ (s : State) (g : Nat) (x : Xfer), s.mode ≠ 0 ∧ s.xfers.find? (fun z => z.asked && z.tag == g && !z.full) = some x) ∧
    (∃ (s : State) (g : Nat), s.mode ≠ 0 ∧ s.xfers.find? (fun z => z.asked && z.tag == g && !z.full) = none) ∧
    (∃ (s : State) (g : Nat) (v : Nat) (x : Xfer) (o : XOp), s.mode ≠ 0 ∧ s.xfers.find? (fun z => z.asked && z.tag == g && !z.full) = some x ∧ x.ppn < 1024 ∧ x.fails < s.g K.DMA_RETRY_LIMIT ∧ (s.unit (x.ppn / 64) 8).ops = [o] ∧ o.ppn = x.ppn ∧ o.code ≠ 3 ∧ (s.unit (x.ppn / 64) 8).active = some o ∧ Pg.ring (s.page x.ppn) = true ∧ s.freeTag = some v) :=
  ⟨⟨{ lv [(atRow K.SEG_TABLE 16383, 2 + 4 * 2 ^ 16 + 9 * 2 ^ 40 + 7 * 2 ^ 76), (atRow K.SEG_PLACE 16383, 2 * 2 ^ 62), (atRow K.SEG_SOURCE 16383, 4095 * 2 ^ 52), (K.SQ_STATE 7, 2), (K.RING_PAGES 7, 2), (atRow K.PAGE_MAP 1023, 4 * 2 ^ 61 + 2 ^ 38 + 7 * 2 ^ 35 + 2 ^ 21), (K.PAGE_CE_LIMIT, 31)] with sqHid := [(7, { line := [{ id := 3, kind := 0, entry := 16383, gen := 9, len := 4096, state := 2 }], fIter := 3 })], rings := [(7, { next := 0, pages := [{ slot := 1, entry := 16383, gen := 9, n := 0, j := 0, retry := some 100000 }] })] }, 7, 1023, 100000, { slot := 1, entry := 16383, gen := 9, n := 0, j := 0, retry := some 100000 }, by decide +kernel⟩,
    ⟨{ lv [(atRow K.SEG_TABLE 16383, 2 + 4 * 2 ^ 16 + 9 * 2 ^ 40 + 7 * 2 ^ 76), (atRow K.SEG_PLACE 16383, 2 * 2 ^ 62), (atRow K.SEG_SOURCE 16383, 4095 * 2 ^ 52), (atRow K.WIN_TABLE 4095, 2 ^ 64 + 16 * 2 ^ 104 + 4096 * 7), (K.SQ_STATE 7, 2), (K.RING_PAGES 7, 2), (atRow K.PAGE_MAP 1023, 4 * 2 ^ 61 + 2 ^ 38 + 7 * 2 ^ 35 + 2 ^ 21), (K.PAGE_CE_LIMIT, 31)] with sqHid := [(7, { line := [{ id := 3, kind := 0, entry := 16383, gen := 9, len := 4096, state := 2 }], fIter := 3 })], rings := [(7, { next := 0, pages := [{ slot := 1, entry := 16383, gen := 9, n := 0, j := 0, retry := some 100001 }] })] }, 1023, by decide +kernel⟩,
    ⟨{ lv [] with xfers := [{ tag := 1023, entry := 5, gen := 2, page := 0, ppn := 9, addr := 4096, start := 7, asked := true, data := List.replicate 24574 1 }] }, 1023, { tag := 1023, entry := 5, gen := 2, page := 0, ppn := 9, addr := 4096, start := 7, asked := true, data := List.replicate 24574 1 }, ⟨by decide +kernel, rfl⟩⟩,
    ⟨lv [], 1023, by decide +kernel⟩,
    ⟨{ lv [(K.DMA_RETRY_LIMIT, 3), (atRow K.PAGE_MAP 1023, 2 * 2 ^ 61 + 2 ^ 38 + 7 * 2 ^ 35 + 2 ^ 21)] with xfers := [{ tag := 1023, entry := 5, gen := 2, page := 0, ppn := 1023, addr := 4096, start := 7, asked := true, data := [1] }], xunits := [(60, { active := some { code := 1, entry := 5, gen := 2, ppn := 1023, prog := 7 } })] }, 1023, 0, { tag := 1023, entry := 5, gen := 2, page := 0, ppn := 1023, addr := 4096, start := 7, asked := true, data := [1] }, { code := 1, entry := 5, gen := 2, ppn := 1023, prog := 7 }, by decide +kernel⟩⟩

/-- The hypotheses of each clause of `Obligations.Refill` hold together somewhere: part 4 of 5. -/
theorem witness_Refill_4 :
    (∃ (s : State) (g : Nat) (v : Nat) (x : Xfer) (o : XOp) (st : CplStatus), s.mode ≠ 0 ∧ s.xfers.find? (fun z => z.asked && z.tag == g && !z.full) = some x ∧ x.ppn < 1024 ∧ x.fails < s.g K.DMA_RETRY_LIMIT ∧ (s.unit (x.ppn / 64) 8).ops = [o] ∧ o.ppn = x.ppn ∧ o.code ≠ 3 ∧ (s.unit (x.ppn / 64) 8).active = some o ∧ Pg.ring (s.page x.ppn) = true ∧ s.freeTag = some v ∧ st ≠ .good ∧ st ≠ .poisoned) ∧
    (∃ (s : State) (g : Nat) (v : Nat) (x : Xfer) (o : XOp), s.mode ≠ 0 ∧ s.xfers.find? (fun z => z.asked && z.tag == g && !z.full) = some x ∧ x.ppn < 1024 ∧ x.fails < s.g K.DMA_RETRY_LIMIT ∧ (s.unit (x.ppn / 64) 8).ops = [o] ∧ o.ppn = x.ppn ∧ o.code ≠ 3 ∧ (s.unit (x.ppn / 64) 8).active = some o ∧ Pg.ring (s.page x.ppn) = true ∧ ({ s with lateTags := s.lateTags ++ [(x.tag, s.tick + s.retireFrames)] } : State).freeTag = some v) ∧
    (∃ (s : State) (g : Nat) (x : Xfer) (o : XOp), s.mode ≠ 0 ∧ s.xfers.find? (fun z => z.asked && z.tag == g && !z.full) = some x ∧ s.g K.DMA_RETRY_LIMIT ≤ x.fails ∧ (s.unit (x.ppn / 64) 8).ops.filter (fun o => o.ppn == x.ppn && o.code != 3) = [o] ∧ (s.unit (x.ppn / 64) 8) = { active := some o, held := none, wait := [] } ∧ x.ppn < 1024 ∧ x.load = none) ∧
    (∃ (s : State) (g : Nat) (x : Xfer) (o : XOp) (st : CplStatus), s.mode ≠ 0 ∧ s.xfers.find? (fun z => z.asked && z.tag == g && !z.full) = some x ∧ s.g K.DMA_RETRY_LIMIT ≤ x.fails ∧ (s.unit (x.ppn / 64) 8).ops.filter (fun o => o.ppn == x.ppn && o.code != 3) = [o] ∧ (s.unit (x.ppn / 64) 8) = { active := some o, held := none, wait := [] } ∧ x.ppn < 1024 ∧ x.load = none ∧ st ≠ .good ∧ st ≠ .poisoned) ∧
    (∃ (s : State) (g : Nat) (x : Xfer) (o : XOp), s.mode ≠ 0 ∧ s.xfers.find? (fun z => z.asked && z.tag == g && !z.full) = some x ∧ s.g K.DMA_RETRY_LIMIT ≤ x.fails ∧ (s.unit (x.ppn / 64) 8).ops.filter (fun o => o.ppn == x.ppn && o.code != 3) = [o] ∧ (s.unit (x.ppn / 64) 8) = { active := some o, held := none, wait := [] } ∧ x.ppn < 1024 ∧ x.load = none) :=
  ⟨⟨{ lv [(K.DMA_RETRY_LIMIT, 3), (atRow K.PAGE_MAP 1023, 2 * 2 ^ 61 + 2 ^ 38 + 7 * 2 ^ 35 + 2 ^ 21)] with xfers := [{ tag := 1023, entry := 5, gen := 2, page := 0, ppn := 1023, addr := 4096, start := 7, asked := true, data := [1] }], xunits := [(60, { active := some { code := 1, entry := 5, gen := 2, ppn := 1023, prog := 7 } })] }, 1023, 0, { tag := 1023, entry := 5, gen := 2, page := 0, ppn := 1023, addr := 4096, start := 7, asked := true, data := [1] }, { code := 1, entry := 5, gen := 2, ppn := 1023, prog := 7 }, .unsupported, by decide +kernel⟩,
    ⟨{ lv [(K.DMA_RETRY_LIMIT, 3), (atRow K.PAGE_MAP 1023, 2 * 2 ^ 61 + 2 ^ 38 + 7 * 2 ^ 35 + 2 ^ 21)] with xfers := [{ tag := 1023, entry := 5, gen := 2, page := 0, ppn := 1023, addr := 4096, start := 7, asked := true, data := [1] }], xunits := [(60, { active := some { code := 1, entry := 5, gen := 2, ppn := 1023, prog := 7 } })] }, 1023, 0, { tag := 1023, entry := 5, gen := 2, page := 0, ppn := 1023, addr := 4096, start := 7, asked := true, data := [1] }, { code := 1, entry := 5, gen := 2, ppn := 1023, prog := 7 }, by decide +kernel⟩,
    ⟨{ lv [(K.DMA_RETRY_LIMIT, 3), (atRow K.PAGE_MAP 1023, 2 * 2 ^ 61 + 2 ^ 38 + 7 * 2 ^ 35 + 2 ^ 21)] with xfers := [{ tag := 1023, entry := 5, gen := 2, page := 0, ppn := 1023, addr := 4096, start := 7, asked := true, data := [1], fails := 3 }], xunits := [(60, { active := some { code := 1, entry := 5, gen := 2, ppn := 1023, prog := 7 } })], rings := [(7, { next := 0, pages := [{ slot := 1, entry := 5, gen := 2, n := 0, j := 0 }] })] }, 1023, { tag := 1023, entry := 5, gen := 2, page := 0, ppn := 1023, addr := 4096, start := 7, asked := true, data := [1], fails := 3 }, { code := 1, entry := 5, gen := 2, ppn := 1023, prog := 7 }, by decide +kernel⟩,
    ⟨{ lv [(K.DMA_RETRY_LIMIT, 3), (atRow K.PAGE_MAP 1023, 2 * 2 ^ 61 + 2 ^ 38 + 7 * 2 ^ 35 + 2 ^ 21)] with xfers := [{ tag := 1023, entry := 5, gen := 2, page := 0, ppn := 1023, addr := 4096, start := 7, asked := true, data := [1], fails := 3 }], xunits := [(60, { active := some { code := 1, entry := 5, gen := 2, ppn := 1023, prog := 7 } })], rings := [(7, { next := 0, pages := [{ slot := 1, entry := 5, gen := 2, n := 0, j := 0 }] })] }, 1023, { tag := 1023, entry := 5, gen := 2, page := 0, ppn := 1023, addr := 4096, start := 7, asked := true, data := [1], fails := 3 }, { code := 1, entry := 5, gen := 2, ppn := 1023, prog := 7 }, .unsupported, by decide +kernel⟩,
    ⟨{ lv [(K.DMA_RETRY_LIMIT, 3), (atRow K.PAGE_MAP 1023, 2 * 2 ^ 61 + 2 ^ 38 + 7 * 2 ^ 35 + 2 ^ 21)] with xfers := [{ tag := 1023, entry := 5, gen := 2, page := 0, ppn := 1023, addr := 4096, start := 7, asked := true, data := [1], fails := 3 }], xunits := [(60, { active := some { code := 1, entry := 5, gen := 2, ppn := 1023, prog := 7 } })], rings := [(7, { next := 0, pages := [{ slot := 1, entry := 5, gen := 2, n := 0, j := 0 }] })] }, 1023, { tag := 1023, entry := 5, gen := 2, page := 0, ppn := 1023, addr := 4096, start := 7, asked := true, data := [1], fails := 3 }, { code := 1, entry := 5, gen := 2, ppn := 1023, prog := 7 }, by decide +kernel⟩⟩

/-- The hypotheses of each clause of `Obligations.Refill` hold together somewhere: part 5 of 5. -/
theorem witness_Refill_5 :
    (∃ (s : State) (g : Nat), s.mode ≠ 0 ∧ s.xfers.find? (fun z => z.asked && z.tag == g && !z.full) = none) :=
  ⟨lv [], 1023, by decide +kernel⟩

/-- The hypotheses of each clause of `Obligations.Arbitration` hold together somewhere: part 1 of 3. -/
theorem witness_Arbitration :
    (∃ (s : State) (b : Nat) (rs : List BankReq) (E : List Nat) (S : List Nat), s.mode ≠ 0 ∧ b < 16 ∧ (s.arbOf b).cycle < 512 ∧ rs.all (fun x => x.requester < 12) = true ∧ s.arbE b (s.present b rs) = E ∧ s.arbS b (s.present b rs) = S) ∧
    (∃ (s : State) (b : Nat), s.mode ≠ 0 ∧ b < 16 ∧ (s.arbOf b).cycle < 512 ∧ (s.arbOf b).row = false) ∧
    (∃ (s : State) (b : Nat), s.mode ≠ 0 ∧ b < 16 ∧ (s.arbOf b).cycle < 512 ∧ (s.arbOf b).row = true) ∧
    (∃ (s : State) (b : Nat), s.mode ≠ 0 ∧ 512 ≤ (s.arbOf b).cycle) ∧
    (∃ (s : State) (b : Nat) (x : BankReq) (o : XOp), s.mode ≠ 0 ∧ b < 16 ∧ (s.arbOf b).cycle < 512 ∧ ((s.arbOf b).row = true ∨ (s.arbOf b).cycle % s.refreshSlot b + 1 ≠ s.refreshSlot b) ∧ x.requester = 11 ∧ x.withdrawn = false ∧ x.ecc = .clean ∧ (s.arbOf b).granted 11 < arbShare 11 ∧ s.cnt b 11 < s.g (K.ARB_LIMIT 11) ∧ s.noneDead b = true ∧ (s.unit b 11).active = some o) ∧
    (∃ (s : State) (b : Nat) (x : BankReq) (o : XOp), s.mode ≠ 0 ∧ b < 16 ∧ (s.arbOf b).cycle < 512 ∧ ((s.arbOf b).row = true ∨ (s.arbOf b).cycle % s.refreshSlot b + 1 ≠ s.refreshSlot b) ∧ x.requester = 11 ∧ x.withdrawn = false ∧ x.ecc = .corrected ∧ (s.arbOf b).granted 11 < arbShare 11 ∧ s.cnt b 11 < s.g (K.ARB_LIMIT 11) ∧ s.noneDead b = true ∧ (s.unit b 11).active = some o ∧ o.ppn / 64 = b) ∧
    (∃ (s : State) (b : Nat) (x : BankReq) (o : XOp) (vw : VWord), s.mode ≠ 0 ∧ b < 16 ∧ (s.arbOf b).cycle < 512 ∧ ((s.arbOf b).row = true ∨ (s.arbOf b).cycle % s.refreshSlot b + 1 ≠ s.refreshSlot b) ∧ x.requester = 8 ∧ x.withdrawn = false ∧ x.ecc = .clean ∧ (s.arbOf b).granted 8 < arbShare 8 ∧ s.cnt b 8 < s.g (K.ARB_LIMIT 8) ∧ s.noneDead b = true ∧ (s.unit b 8).active = some o ∧ o.ppn / 64 = b ∧ s.opWord o o.prog = some vw ∧ (o.code ≠ 3 ∨ o.src < 8) ∧ o.prog ≠ 0 ∧ o.prog < 1023 ∧ Pg.state (s.page o.ppn) = Pg.filling) ∧
    (∃ (s : State) (b : Nat) (p : Nat) (x : BankReq) (o : XOp), s.mode ≠ 0 ∧ b < 16 ∧ (s.arbOf b).cycle < 512 ∧ ((s.arbOf b).row = true ∨ (s.arbOf b).cycle % s.refreshSlot b + 1 ≠ s.refreshSlot b) ∧ x.requester = 9 ∧ x.withdrawn = false ∧ x.ecc = .clean ∧ (s.arbOf b).granted 9 < arbShare 9 ∧ s.cnt b 9 < s.g (K.ARB_LIMIT 9) ∧ s.noneDead b = true ∧ (s.unit b 9).active = some o ∧ o.half = false ∧ o.peer = some p ∧ p / 64 = b) ∧
    (∃ (s : State) (b : Nat) (p : Nat) (x : BankReq) (o : XOp), s.mode ≠ 0 ∧ b < 16 ∧ (s.arbOf b).cycle < 512 ∧ ((s.arbOf b).row = true ∨ (s.arbOf b).cycle % s.refreshSlot b + 1 ≠ s.refreshSlot b) ∧ x.requester = 9 ∧ x.withdrawn = false ∧ x.ecc = .clean ∧ (s.arbOf b).granted 9 < arbShare 9 ∧ s.cnt b 9 < s.g (K.ARB_LIMIT 9) ∧ s.noneDead b = true ∧ (s.unit b 9).active = some o ∧ o.half = true ∧ o.peer = some p ∧ o.ppn / 64 = b ∧ o.prog < 1023) ∧
    (∃ (s : State) (b : Nat) (x : BankReq) (o : XOp), s.mode ≠ 0 ∧ b < 16 ∧ (s.arbOf b).cycle < 512 ∧ ((s.arbOf b).row = true ∨ (s.arbOf b).cycle % s.refreshSlot b + 1 ≠ s.refreshSlot b) ∧ x.requester = 10 ∧ x.withdrawn = false ∧ x.ecc = .clean ∧ (s.arbOf b).granted 10 < arbShare 10 ∧ s.cnt b 10 < s.g (K.ARB_LIMIT 10) ∧ s.noneDead b = true ∧ (s.unit b 10).active = some o) :=
  ⟨⟨{ lv [(K.ARB_LIMIT 3, 9), (K.ARB_WAIT 15 3, 8), (K.ARB_LIMIT 9, 9), (K.ARB_LIMIT 11, 4), (K.ARB_WAIT 15 11, 4)] with arb := [(15, { cycle := 510, row := true, grants := [(11, 31)] })] }, 15, [{ requester := 3, due := true, withdrawn := true, ecc := .clean }, { requester := 9, due := false, withdrawn := true, ecc := .clean }, { requester := 11, due := false, withdrawn := true, ecc := .clean }], [3, 9, 11], [], by decide +kernel⟩,
    ⟨{ lv [] with arb := [(15, { cycle := 511 })] }, 15, by decide +kernel⟩,
    ⟨{ lv [] with arb := [(15, { cycle := 511, row := true })] }, 15, by decide +kernel⟩,
    ⟨{ lv [] with arb := [(15, { cycle := 512 })] }, 15, by decide +kernel⟩,
    ⟨{ lv [(K.ARB_WAIT 15 11, 3), (K.ARB_LIMIT 11, 9)] with arb := [(15, { cycle := 510, row := true })], xunits := [(63, { active := some { code := 8, ppn := 1023, src := 8 } })] }, 15, { requester := 11, due := false, withdrawn := false, ecc := .clean }, { code := 8, ppn := 1023, src := 8 }, by decide +kernel⟩,
    ⟨{ lv [(K.ARB_WAIT 15 11, 3), (K.ARB_LIMIT 11, 9)] with arb := [(15, { cycle := 510, row := true })], xunits := [(63, { active := some { code := 8, ppn := 1023, src := 8 } })] }, 15, { requester := 11, due := false, withdrawn := false, ecc := .corrected }, { code := 8, ppn := 1023, src := 8 }, by decide +kernel⟩,
    ⟨{ lv [(K.ARB_WAIT 15 8, 3), (K.ARB_LIMIT 8, 9), (atRow K.SEG_TABLE 16383, 1 + 4 * 2 ^ 16 + 9 * 2 ^ 40), (atRow K.PAGE_MAP 1023, 2 * 2 ^ 61 + 16383 * 2 ^ 47 + 9 * 2 ^ 39)] with arb := [(15, { cycle := 510, row := true })], xunits := [(60, { active := some { code := 3, entry := 16383, gen := 9, ppn := 1023, src := 7, prog := 1000 } })], slotBytes := [(7 * 24576 + 24 * 1000 + 21, 77)] }, 15, { requester := 8, due := false, withdrawn := false, ecc := .clean }, { code := 3, entry := 16383, gen := 9, ppn := 1023, src := 7, prog := 1000 }, 77 * 2 ^ 168, by decide +kernel⟩,
    ⟨{ lv [(K.ARB_WAIT 15 9, 3), (K.ARB_LIMIT 9, 9), (atRow K.PAGE_MAP 1023, 3 * 2 ^ 61)] with arb := [(15, { cycle := 510, row := true })], xunits := [(64, { active := some { code := 4, ppn := 960, peer := some 1023, src := 3, prog := 5 } })] }, 15, 1023, { requester := 9, due := false, withdrawn := false, ecc := .clean }, { code := 4, ppn := 960, peer := some 1023, src := 3, prog := 5 }, by decide +kernel⟩,
    ⟨{ lv [(K.ARB_WAIT 15 9, 3), (K.ARB_LIMIT 9, 9), (atRow K.PAGE_MAP 1023, 3 * 2 ^ 61)] with arb := [(15, { cycle := 510, row := true })], xunits := [(64, { active := some { code := 4, ppn := 960, peer := some 1023, src := 3, prog := 5, half := true } })], vmem := [(1024 * 1023 + 5, 77)] }, 15, 1023, { requester := 9, due := false, withdrawn := false, ecc := .clean }, { code := 4, ppn := 960, peer := some 1023, src := 3, prog := 5, half := true }, by decide +kernel⟩,
    ⟨{ lv [(K.ARB_WAIT 15 10, 3), (K.ARB_LIMIT 10, 9), (atRow K.PAGE_MAP 1023, 3 * 2 ^ 61)] with arb := [(15, { cycle := 510, row := true })], xunits := [(62, { active := some { code := 7, ppn := 1023, prog := 5 } })] }, 15, { requester := 10, due := false, withdrawn := false, ecc := .clean }, { code := 7, ppn := 1023, prog := 5 }, by decide +kernel⟩⟩

/-- The hypotheses of each clause of `Obligations.Arbitration` hold together somewhere: part 2 of 3. -/
theorem witness_Arbitration_2 :
    (∃ (s : State) (b : Nat) (x : BankReq) (o : XOp), s.mode ≠ 0 ∧ b < 16 ∧ (s.arbOf b).cycle < 512 ∧ ((s.arbOf b).row = true ∨ (s.arbOf b).cycle % s.refreshSlot b + 1 ≠ s.refreshSlot b) ∧ x.requester = 10 ∧ x.withdrawn = false ∧ x.ecc = .corrected ∧ (s.arbOf b).granted 10 < arbShare 10 ∧ s.cnt b 10 < s.g (K.ARB_LIMIT 10) ∧ s.noneDead b = true ∧ (s.unit b 10).active = some o ∧ o.code = 7 ∧ o.half = false ∧ o.ppn / 64 = b) ∧
    (∃ (s : State) (b : Nat) (r : Nat) (id' : Nat) (w' : Nat) (n' : Nat) (m' : Nat) (x : BankReq), s.mode ≠ 0 ∧ b < 16 ∧ (s.arbOf b).cycle < 512 ∧ ((s.arbOf b).row = true ∨ (s.arbOf b).cycle % s.refreshSlot b + 1 ≠ s.refreshSlot b) ∧ x.requester = r ∧ r < 8 ∧ x.withdrawn = false ∧ x.ecc = .clean ∧ s.wordAt r b = some (id', w', n', m') ∧ m' < s.sqLimit r ∧ s.cnt b r < s.g (K.ARB_LIMIT r) ∧ s.noneDead b = true ∧ (s.nextWord r).all (fun y => (y.1, y.2.1) != (id', w')) = true ∧ ((s.sq r).keepGot (fun z => Seg.perWord (Seg.fmt (s.seg z)))).contains (id', w') = false ∧ (s.nextWord r).all (fun y => !(((s.sq r).keepGot (fun z => Seg.perWord (Seg.fmt (s.seg z)))).contains (y.1, y.2.1))) = true) ∧
    (∃ (s : State) (b : Nat) (r : Nat) (x : BankReq), s.mode ≠ 0 ∧ b < 16 ∧ (s.arbOf b).cycle < 512 ∧ ((s.arbOf b).row = true ∨ (s.arbOf b).cycle % s.refreshSlot b + 1 ≠ s.refreshSlot b) ∧ x.requester = r ∧ 8 ≤ r ∧ r < 12 ∧ x.withdrawn = true ∧ (s.arbOf b).granted r < arbShare r ∧ s.cnt b r < s.g (K.ARB_LIMIT r) ∧ s.noneDead b = true) ∧
    (∃ (s : State) (b : Nat) (r : Nat) (x : BankReq), s.mode ≠ 0 ∧ b < 16 ∧ (s.arbOf b).cycle < 512 ∧ (s.arbOf b).row = false ∧ (s.arbOf b).cycle % s.refreshSlot b + 1 = s.refreshSlot b ∧ x.requester = r ∧ 8 ≤ r ∧ r < 12 ∧ (s.arbOf b).granted r < arbShare r) ∧
    (∃ (s : State) (w : Who), s.admits w 1) ∧
    (∃ (s : State) (w : Who) (r : Nat) (v : Nat), s.admits w 1 ∧ r < 12 ∧ v ≤ 1) ∧
    (∃ (s : State) (w : Who) (r : Nat), s.admits w 1 ∧ 12 ≤ r) ∧
    (∃ (s : State) (w : Who) (r : Nat) (v : Nat), s.admits w 1 ∧ r < 12 ∧ 1 < v) ∧
    (∃ (s : State) (b : Nat), s.mode ≠ 0 ∧ b < 16 ∧ (∀ k ∈ [8, 9, 10, 11], ∀ o ∈ (s.unit b k).active.toList ++ (s.unit b k).held.toList, o.banks.contains b = false) ∧ (s.arbOf b).cycle < 512) ∧
    (∃ (s : State) (b : Nat), s.mode ≠ 0 ∧ b < 16 ∧ (∀ k ∈ [8, 9, 10, 11], ∀ o ∈ (s.unit b k).active.toList ++ (s.unit b k).held.toList, o.banks.contains b = false) ∧ 512 ≤ (s.arbOf b).cycle) :=
  ⟨⟨{ lv [(K.ARB_WAIT 15 10, 3), (K.ARB_LIMIT 10, 9), (atRow K.PAGE_MAP 1023, 3 * 2 ^ 61)] with arb := [(15, { cycle := 510, row := true })], xunits := [(62, { active := some { code := 7, ppn := 1023, prog := 5 } })] }, 15, { requester := 10, due := false, withdrawn := false, ecc := .corrected }, { code := 7, ppn := 1023, prog := 5 }, by decide +kernel⟩,
    ⟨{ lv [(K.ARB_WAIT 15 7, 3), (K.ARB_LIMIT 7, 9), (atRow K.SEG_TABLE 16383, 2 + 4 * 2 ^ 16 + 9 * 2 ^ 40 + 7 * 2 ^ 76), (atRow K.SEG_TABLE 16382, 2 + 4 * 2 ^ 16 + 9 * 2 ^ 40 + 7 * 2 ^ 76), (K.SQ_STATE 7, 2), (atRow K.PAGE_MAP 1023, 3 * 2 ^ 61 + 16382 * 2 ^ 47 + 9 * 2 ^ 39), (atRow K.PAGE_MAP 3, 3 * 2 ^ 61 + 16383 * 2 ^ 47 + 9 * 2 ^ 39)] with arb := [(15, { cycle := 510, row := true })], sqHid := [(7, { line := [{ id := 3, kind := 0, entry := 16383, gen := 9, len := 1, state := 2, start := some 0 }, { id := 4, kind := 0, entry := 16382, gen := 9, len := 4, state := 2 }], fIter := 3, tNext := 0 })], vmem := [(3072, 1)] }, 15, 7, 4, 0, 1023, 131072, { requester := 7, due := false, withdrawn := false, ecc := .clean }, by decide +kernel⟩,
    ⟨{ lv [(K.ARB_WAIT 15 8, 3), (K.ARB_LIMIT 8, 9)] with arb := [(15, { cycle := 510, row := true })] }, 15, 8, { requester := 8, due := false, withdrawn := true, ecc := .clean }, by decide +kernel⟩,
    ⟨{ lv [] with arb := [(15, { cycle := 511 })] }, 15, 11, { requester := 11, due := false, withdrawn := false, ecc := .clean }, by decide +kernel⟩,
    ⟨lv [(K.ARB_PRIO_SH 11, 3), (K.ARB_LIMIT_SH 0, 17), (K.ARB_SHADOW_DIRTY, 1)], w0, by unfold State.admits; decide +kernel⟩,
    ⟨lv [], w0, 11, 1, by unfold State.admits; decide +kernel⟩,
    ⟨lv [], w0, 12, by unfold State.admits; decide +kernel⟩,
    ⟨lv [], w0, 11, 2, by unfold State.admits; decide +kernel⟩,
    ⟨{ lv [(K.ARB_WAIT 15 11, 4)] with arb := [(15, { cycle := 511, row := true, grants := [(3, 4)] })], xunits := [(64, { active := some { code := 4, ppn := 4, peer := some 5 } })] }, 15, by decide +kernel⟩,
    ⟨{ lv [(K.ARB_WAIT 15 11, 4)] with arb := [(15, { cycle := 512 })] }, 15, by decide +kernel⟩⟩

/-- The hypotheses of each clause of `Obligations.Arbitration` hold together somewhere: part 3 of 3. -/
theorem witness_Arbitration_3 :
    (∃ (s : State) (b : Nat) (o : XOp), s.mode ≠ 0 ∧ b < 16 ∧ (∀ k ∈ [8, 9, 10], ∀ o ∈ (s.unit b k).active.toList ++ (s.unit b k).held.toList, o.banks.contains b = false) ∧ (s.arbOf b).cycle < 512 ∧ s.unit b 11 = { active := some o, held := none, wait := [] } ∧ o.code = 8 ∧ o.ppn / 64 = b ∧ o.peer = none ∧ s.readsAsked b = true) ∧
    (∃ (s : State) (b : Nat) (o : XOp), s.mode ≠ 0 ∧ b < 16 ∧ (∀ k ∈ [9, 10, 11], ∀ o ∈ (s.unit b k).active.toList ++ (s.unit b k).held.toList, o.banks.contains b = false) ∧ (s.arbOf b).cycle < 512 ∧ s.unit b 8 = { active := some o, held := none, wait := [] } ∧ o.code = 3 ∧ o.ppn / 64 = b ∧ o.peer = none ∧ Pg.state (s.page o.ppn) = Pg.filling) :=
  ⟨⟨{ lv [(K.ARB_WAIT 15 11, 3), (K.ARB_LIMIT 11, 9), (K.PAGE_SLOTS_BUSY, 256)] with arb := [(15, { cycle := 510, row := true })], xunits := [(63, { active := some { code := 8, ppn := 1023, src := 8 } })] }, 15, { code := 8, ppn := 1023, src := 8 }, by decide +kernel⟩,
    ⟨{ lv [(K.ARB_WAIT 15 8, 3), (K.ARB_LIMIT 8, 9), (atRow K.PAGE_MAP 1023, 2 * 2 ^ 61 + 16383 * 2 ^ 47 + 9 * 2 ^ 39), (K.PAGE_SLOTS_BUSY, 128)] with arb := [(15, { cycle := 510, row := true })], xunits := [(60, { active := some { code := 3, entry := 16383, gen := 9, ppn := 1023, src := 7, prog := 1000 } })] }, 15, { code := 3, entry := 16383, gen := 9, ppn := 1023, src := 7, prog := 1000 }, by decide +kernel⟩⟩

/-- The hypotheses of each clause of `Obligations.Edges` hold together somewhere: part 1 of 3. -/
theorem witness_Edges :
    (∃ (s : State), 2 ≤ s.mode ∧ s.passed = false) ∧
    (∃ (s : State), 2 ≤ s.mode ∧ s.passed = true) ∧
    (∃ (s : State) (f : Nat) (c : Nat) (k : Nat) (u : Nat) (y : Nat) (a : Int) (l : Bool) (past : Bool) (v : State), 2 ≤ s.mode ∧ s.passed = false ∧ s.mode ≠ 10 ∧ c < 64 ∧ (∀ q ∈ List.range 8, s.g (K.SQ_STATE q) = 0) ∧ s.ahead = v ∧ (∀ z ∈ List.range 64, z ≠ c → v.src z ≠ 1 ∧ v.src z ≠ 3) ∧ v.src c = 3 ∧ (s.ch c).src = 3 ∧ (s.ch c).wait = [(a, l)] ∧ s.coreAt c (s.tick + 1) = k ∧ k < 72 ∧ (v.lanes s.lanesOut).find? (fun z => z.1 == c) = some (c, some y, past) ∧ bit (f % 2 ^ 12 &&& (2 ^ 12 - 1 - s.lanesOut)) y = false ∧ v.edgeTime c k (s.nextVern k) a (v.gi (K.CH_DELAY c)) = (u : Int) ∧ (s.fn + 1) * qFrame ≤ u ∧ u < (s.fn + 2) * qFrame ∧ a + v.gi (K.CH_DELAY c) < ((s.fn + 2) * qFrame : Nat) ∧ s.placeReason c k u = none ∧ s.guarded c u = false) ∧
    (∃ (s : State) (f : Nat) (c : Nat) (k : Nat) (u : Nat) (y : Nat) (a : Int) (l : Bool) (past : Bool) (v : State), 2 ≤ s.mode ∧ s.passed = false ∧ s.mode ≠ 10 ∧ c < 64 ∧ (∀ q ∈ List.range 8, s.g (K.SQ_STATE q) = 0) ∧ s.ahead = v ∧ (∀ z ∈ List.range 64, z ≠ c → v.src z ≠ 1 ∧ v.src z ≠ 3) ∧ v.src c = 3 ∧ (s.ch c).src = 3 ∧ (s.ch c).wait = [(a, l)] ∧ s.coreAt c (s.tick + 1) = k ∧ k < 72 ∧ (v.lanes s.lanesOut).find? (fun z => z.1 == c) = some (c, some y, past) ∧ a + v.gi (K.CH_DELAY c) < ((s.fn + 2) * qFrame : Nat) ∧ bit (f % 2 ^ 12 &&& (2 ^ 12 - 1 - s.lanesOut)) y = false ∧ v.edgeTime c k (s.nextVern k) a (v.gi (K.CH_DELAY c)) = (u : Int) ∧ u < (s.fn + 1) * qFrame) ∧
    (∃ (s : State) (f : Nat) (c : Nat) (k : Nat) (u : Nat) (y : Nat) (a : Int) (l : Bool) (past : Bool) (v : State), 2 ≤ s.mode ∧ s.passed = false ∧ s.mode ≠ 10 ∧ c < 64 ∧ (∀ q ∈ List.range 8, s.g (K.SQ_STATE q) = 0) ∧ s.ahead = v ∧ (∀ z ∈ List.range 64, z ≠ c → v.src z ≠ 1 ∧ v.src z ≠ 3) ∧ v.src c = 3 ∧ (s.ch c).src = 3 ∧ (s.ch c).wait = [(a, l)] ∧ s.coreAt c (s.tick + 1) = k ∧ k < 72 ∧ (v.lanes s.lanesOut).find? (fun z => z.1 == c) = some (c, some y, past) ∧ a + v.gi (K.CH_DELAY c) < ((s.fn + 2) * qFrame : Nat) ∧ bit (f % 2 ^ 12 &&& (2 ^ 12 - 1 - s.lanesOut)) y = true ∧ v.edgeTime c k (s.nextVern k) a (v.gi (K.CH_DELAY c)) = (u : Int)) ∧
    (∃ (s : State) (f : Nat) (c : Nat) (k : Nat) (u : Nat) (y : Nat) (d : Nat) (a : Int) (l : Bool) (past : Bool) (v : State), 2 ≤ s.mode ∧ s.passed = false ∧ s.mode ≠ 10 ∧ c < 64 ∧ (∀ q ∈ List.range 8, s.g (K.SQ_STATE q) = 0) ∧ s.ahead = v ∧ (∀ z ∈ List.range 64, z ≠ c → v.src z ≠ 1 ∧ v.src z ≠ 3) ∧ v.src c = 3 ∧ (s.ch c).src = 3 ∧ (s.ch c).wait = [(a, l)] ∧ s.coreAt c (s.tick + 1) = k ∧ k < 72 ∧ (v.lanes s.lanesOut).find? (fun z => z.1 == c) = some (c, some y, past) ∧ a + v.gi (K.CH_DELAY c) < ((s.fn + 2) * qFrame : Nat) ∧ bit (f % 2 ^ 12 &&& (2 ^ 12 - 1 - s.lanesOut)) y = false ∧ v.edgeTime c k (s.nextVern k) a (v.gi (K.CH_DELAY c)) = (u : Int) ∧ (s.fn + 1) * qFrame ≤ u ∧ u < (s.fn + 2) * qFrame ∧ s.placeReason c k u = some d) ∧
    (∃ (s : State) (c : Nat) (k : Nat) (y : Nat) (a : Int) (l : Bool) (past : Bool) (v : State), 2 ≤ s.mode ∧ s.passed = false ∧ s.mode ≠ 10 ∧ c < 64 ∧ (∀ q ∈ List.range 8, s.g (K.SQ_STATE q) = 0) ∧ s.ahead = v ∧ (∀ z ∈ List.range 64, z ≠ c → v.src z ≠ 1 ∧ v.src z ≠ 3) ∧ v.src c = 3 ∧ (s.ch c).src = 3 ∧ (s.ch c).wait = [(a, l)] ∧ s.coreAt c (s.tick + 1) = k ∧ k < 72 ∧ (v.lanes s.lanesOut).find? (fun z => z.1 == c) = some (c, some y, past) ∧ ((s.fn + 2) * qFrame : Nat) ≤ a + v.gi (K.CH_DELAY c)) ∧
    (∃ (s : State) (f : Nat) (c : Nat) (k : Nat) (u : Nat) (u2 : Nat) (y : Nat) (a : Int) (a2 : Int) (past : Bool) (v : State), 2 ≤ s.mode ∧ s.passed = false ∧ s.mode ≠ 10 ∧ c < 64 ∧ (∀ q ∈ List.range 8, s.g (K.SQ_STATE q) = 0) ∧ s.ahead = v ∧ (∀ z ∈ List.range 64, z ≠ c → v.src z ≠ 1 ∧ v.src z ≠ 3) ∧ v.src c = 1 ∧ (s.ch c).src = 1 ∧ (s.ch c).wait = [] ∧ (s.ch c).begun = [] ∧ (s.ch c).hist = [] ∧ (s.ch c).rules = (List.range 4).map (v.ruleVal c) ∧ (∀ z ∈ [1, 2, 3], v.g (K.RULE_ENABLE c z) = 0) ∧ v.g (K.RULE_ENABLE c 0) = 1 ∧ v.g (K.RULE_COUNT c 0) = 1 ∧ s.g (K.RULE_NEXT_J c 0) = 0 ∧ (time92 (v.g (K.RULE_EPOCH c 0)) : Int) = a ∧ a + v.gi (K.RULE_WIDTH c 0) = a2 ∧ 0 < v.gi (K.RULE_WIDTH c 0) ∧ 0 < v.gi (K.RULE_PERIOD c 0) ∧ s.coreAt c (s.tick + 1) = k ∧ k < 72 ∧ (v.lanes s.lanesOut).find? (fun z => z.1 == c) = some (c, some y, past) ∧ bit (f % 2 ^ 12 &&& (2 ^ 12 - 1 - s.lanesOut)) y = false ∧ v.edgeTime c k (s.nextVern k) a (v.gi (K.CH_DELAY c)) = (u : Int) ∧ v.edgeTime c k (1 - s.nextVern k) a2 (v.gi (K.CH_DELAY c)) = (u2 : Int) ∧ s.nextVern k ≤ 1 ∧ (s.fn + 1) * qFrame ≤ u ∧ u + 1573 ≤ u2 ∧ u2 < (s.fn + 2) * qFrame ∧ a2 + v.gi (K.CH_DELAY c) < ((s.fn + 2) * qFrame : Nat) ∧ s.edgesFor k (s.fn + 1) < 255 ∧ (s.core k).queue.length < 511 ∧ (s.bank (bankOf c)).change = none ∧ (s.bank (bankOf c)).moved.contains c = false) ∧
    (∃ (s : State) (f : Nat) (n : Nat) (u : Nat) (l : Bool) (raw : Bool), 2 ≤ s.mode ∧ n < 16 ∧ s.g (K.IN_FMT n) ≠ 0 ∧ s.mode ≠ 10 ∧ s.division n = 1 ∧ s.stamp f = u ∧ (raw != s.inInvert n) = l ∧ (if l then (s.inp n).lastRise else (s.inp n).lastFall).any (fun z => u < z + 524288) = false ∧ (l = true → s.slotType n = 0 ∨ 4 < s.slotType n)) ∧
    (∃ (s : State) (f : Nat) (n : Nat) (u : Nat) (l : Bool) (raw : Bool), 2 ≤ s.mode ∧ n < 16 ∧ s.g (K.IN_FMT n) ≠ 0 ∧ s.division n = 1 ∧ s.stamp f = u ∧ (raw != s.inInvert n) = l ∧ (if l then (s.inp n).lastRise else (s.inp n).lastFall).any (fun z => u < z + 524288) = true) :=
  ⟨⟨{ lv [(K.CH_SOURCE 63, 3), (K.CH_CORE 63, 63)] with lanesOut := 1, chHid := [(63, { src := 3, wait := [(100001 * qFrame + 5, true)] })] }, by decide +kernel⟩,
    ⟨{ lv [] with passed := true }, by decide +kernel⟩,
    ⟨{ lv [(K.CH_SOURCE 63, 3), (K.CH_CORE 63, 71)] with chHid := [(63, { src := 3, wait := [(100001 * qFrame + 5, true)] })] }, 0, 63, 71, 100001 * qFrame + 5, 0, 100001 * qFrame + 5, true, false, (let s := { lv [(K.CH_SOURCE 63, 3), (K.CH_CORE 63, 71)] with chHid := [(63, { src := 3, wait := [(100001 * qFrame + 5, true)] })] }; s.ahead), by decide +kernel⟩,
    ⟨{ lv [(K.CH_SOURCE 63, 3), (K.CH_CORE 63, 71)] with chHid := [(63, { src := 3, wait := [(100001 * qFrame - 5, true)] })] }, 0, 63, 71, 100001 * qFrame - 5, 0, 100001 * qFrame - 5, true, false, (let s := { lv [(K.CH_SOURCE 63, 3), (K.CH_CORE 63, 71)] with chHid := [(63, { src := 3, wait := [(100001 * qFrame - 5, true)] })] }; s.ahead), by decide +kernel⟩,
    ⟨{ lv [(K.CH_SOURCE 63, 3), (K.CH_CORE 63, 71)] with chHid := [(63, { src := 3, wait := [(100001 * qFrame + 5, true)] })] }, 1, 63, 71, 100001 * qFrame + 5, 0, 100001 * qFrame + 5, true, false, (let s := { lv [(K.CH_SOURCE 63, 3), (K.CH_CORE 63, 71)] with chHid := [(63, { src := 3, wait := [(100001 * qFrame + 5, true)] })] }; s.ahead), by decide +kernel⟩,
    ⟨{ lv [(K.CH_SOURCE 63, 3), (K.CH_CORE 63, 71)] with chHid := [(63, { src := 3, wait := [(100001 * qFrame + 5, true)], hist := [100001 * qFrame + 6] })] }, 0, 63, 71, 100001 * qFrame + 5, 0, 2, 100001 * qFrame + 5, true, false, (let s := { lv [(K.CH_SOURCE 63, 3), (K.CH_CORE 63, 71)] with chHid := [(63, { src := 3, wait := [(100001 * qFrame + 5, true)], hist := [100001 * qFrame + 6] })] }; s.ahead), by decide +kernel⟩,
    ⟨{ lv [(K.CH_SOURCE 63, 3), (K.CH_CORE 63, 71)] with chHid := [(63, { src := 3, wait := [(100002 * qFrame, true)] })] }, 63, 71, 0, 100002 * qFrame, true, false, (let s := { lv [(K.CH_SOURCE 63, 3), (K.CH_CORE 63, 71)] with chHid := [(63, { src := 3, wait := [(100002 * qFrame, true)] })] }; s.ahead), by decide +kernel⟩,
    ⟨{ lv [(K.CH_SOURCE 63, 1), (K.CH_CORE 63, 71), (K.RULE_ENABLE 63 0, 1), (K.RULE_EPOCH 63 0, ofTime92 (100001 * qFrame + 5)), (K.RULE_PERIOD 63 0, 100000), (K.RULE_WIDTH 63 0, 2000), (K.RULE_COUNT 63 0, 1)] with chHid := [(63, { src := 1, rules := [{ on := true, epoch := 100001 * qFrame + 5, period := 100000, width := 2000, count := 1 }, { on := false, epoch := 0, period := 10485760000000, width := 1048576000, count := 0 }, { on := false, epoch := 0, period := 10485760000000, width := 1048576000, count := 0 }, { on := false, epoch := 0, period := 10485760000000, width := 1048576000, count := 0 }] })] }, 0, 63, 71, 100001 * qFrame + 5, 100001 * qFrame + 2005, 0, 100001 * qFrame + 5, 100001 * qFrame + 2005, false, (let s := { lv [(K.CH_SOURCE 63, 1), (K.CH_CORE 63, 71), (K.RULE_ENABLE 63 0, 1), (K.RULE_EPOCH 63 0, ofTime92 (100001 * qFrame + 5)), (K.RULE_PERIOD 63 0, 100000), (K.RULE_WIDTH 63 0, 2000), (K.RULE_COUNT 63 0, 1)] with chHid := [(63, { src := 1, rules := [{ on := true, epoch := 100001 * qFrame + 5, period := 100000, width := 2000, count := 1 }, { on := false, epoch := 0, period := 10485760000000, width := 1048576000, count := 0 }, { on := false, epoch := 0, period := 10485760000000, width := 1048576000, count := 0 }, { on := false, epoch := 0, period := 10485760000000, width := 1048576000, count := 0 }] })] }; s.ahead), by decide +kernel⟩,
    ⟨{ lv [(K.IN_FMT 15, 1), (K.IN_INVERT 15, 1), (K.CH_SOURCE 63, 2), (K.TRIG_INPUT 63, 15), (K.TRIG_EDGE 63, 3), (K.TRIG_COUNT 63, 3), (K.CH_SOURCE 62, 2), (K.TRIG_INPUT 62, 15), (K.TRIG_EDGE 62, 2)] with clock := .spindle, inHid := [(15, { lastFall := some 7 })], chHid := [(62, { burst := some { ts := 524295, offset := 9, count := 1, period := 0, width := 4, delay := 0 } })] }, 524295, 15, 524295, false, true, by decide +kernel⟩,
    ⟨{ lv [(K.IN_FMT 15, 1), (K.IN_INVERT 15, 1)] with clock := .spindle, inHid := [(15, { lastFall := some 7 })] }, 524294, 15, 524294, false, true, by decide +kernel⟩⟩

/-- The hypotheses of each clause of `Obligations.Edges` hold together somewhere: part 2 of 3. -/
theorem witness_Edges_2 :
    (∃ (s : State) (f : Nat) (n : Nat) (u : Nat) (l : Bool), 2 ≤ s.mode ∧ n < 16 ∧ s.g (K.IN_FMT n) ≠ 0 ∧ 1 < s.division n ∧ s.stamp f = u ∧ s.mode ≠ 10 ∧ ((s.inp n).presc + 1) % s.division n = 0 ∧ (!(s.inp n).level) = l ∧ l = false ∧ (if l then (s.inp n).lastRise else (s.inp n).lastFall).any (fun z => u < z + 524288) = false) ∧
    (∃ (s : State) (f : Nat) (n : Nat) (u : Nat), 2 ≤ s.mode ∧ n < 16 ∧ s.g (K.IN_FMT n) ≠ 0 ∧ 1 < s.division n ∧ s.stamp f = u ∧ ((s.inp n).presc + 1) % s.division n ≠ 0) ∧
    (∃ (s : State) (f : Nat) (n : Nat) (u : Nat) (raw : Bool), 2 ≤ s.mode ∧ n < 16 ∧ s.g (K.IN_FMT n) ≠ 0 ∧ s.stamp f = u ∧ s.division n = 1 ∧ (raw != s.inInvert n) = true ∧ (s.inp n).lastRise.any (fun z => u < z + 524288) = false) ∧
    (∃ (s : State) (n : Nat), 2 ≤ s.mode ∧ n < 16 ∧ s.g (K.IN_FMT n) = 0) ∧
    (∃ (s : State) (n : Nat), (s.mode = 1 ∨ 16 ≤ n) ∧ s.mode ≠ 0) ∧
    (∃ (s : State) (c : Nat) (k : Nat) (u : Nat) (a : Int) (l : Bool) (b : Burst), 2 ≤ s.mode ∧ s.mode ≠ 10 ∧ c < 64 ∧ (s.ch c).burst = some b ∧ b.edge = some (a, l) ∧ s.coreAt c (if (a + b.delay) / (qFrame : Int) ≤ (s.fn : Int) then s.tick else s.tick + 1) = k ∧ k < 72 ∧ (if (a + b.delay) / (qFrame : Int) ≤ (s.fn : Int) then s else s.ahead).edgeTime c k (s.nextVern k) a b.delay = (u : Int) ∧ u < (s.fn + 2) * qFrame ∧ (s.atTime u).src c = 2 ∧ b.ts + trigLatency ≤ u ∧ s.frameStart ≤ u ∧ s.placeReason c k u = none ∧ s.guarded c u = false) ∧
    (∃ (s : State) (c : Nat) (k : Nat) (u : Nat) (a : Int) (l : Bool) (b : Burst), 2 ≤ s.mode ∧ s.mode ≠ 10 ∧ c < 64 ∧ (s.ch c).burst = some b ∧ b.edge = some (a, l) ∧ s.coreAt c (if (a + b.delay) / (qFrame : Int) ≤ (s.fn : Int) then s.tick else s.tick + 1) = k ∧ k < 72 ∧ (if (a + b.delay) / (qFrame : Int) ≤ (s.fn : Int) then s else s.ahead).edgeTime c k (s.nextVern k) a b.delay = (u : Int) ∧ u < (s.fn + 2) * qFrame ∧ (s.atTime u).src c = 2 ∧ b.ts + trigLatency ≤ u ∧ s.frameStart ≤ u ∧ s.placeReason c k u = none) ∧
    (∃ (s : State) (c : Nat) (k : Nat) (u : Nat) (a : Int) (l : Bool) (b : Burst), 2 ≤ s.mode ∧ s.mode ≠ 10 ∧ c < 64 ∧ (s.ch c).burst = some b ∧ b.edge = some (a, l) ∧ s.coreAt c (if (a + b.delay) / (qFrame : Int) ≤ (s.fn : Int) then s.tick else s.tick + 1) = k ∧ k < 72 ∧ (if (a + b.delay) / (qFrame : Int) ≤ (s.fn : Int) then s else s.ahead).edgeTime c k (s.nextVern k) a b.delay = (u : Int) ∧ u < (s.fn + 2) * qFrame ∧ (s.atTime u).src c = 2 ∧ (u < b.ts + trigLatency ∨ u < s.frameStart)) ∧
    (∃ (s : State) (c : Nat) (k : Nat) (u : Nat) (a : Int) (l : Bool) (b : Burst), 2 ≤ s.mode ∧ s.mode ≠ 10 ∧ c < 64 ∧ (s.ch c).burst = some b ∧ b.edge = some (a, l) ∧ s.coreAt c (if (a + b.delay) / (qFrame : Int) ≤ (s.fn : Int) then s.tick else s.tick + 1) = k ∧ k < 72 ∧ (if (a + b.delay) / (qFrame : Int) ≤ (s.fn : Int) then s else s.ahead).edgeTime c k (s.nextVern k) a b.delay = (u : Int) ∧ u < (s.fn + 2) * qFrame ∧ (s.atTime u).src c = 2 ∧ b.ts + trigLatency ≤ u ∧ s.frameStart ≤ u ∧ s.placeReason c k u = some 2) ∧
    (∃ (s : State) (c : Nat) (k : Nat) (u : Nat) (a : Int) (l : Bool) (b : Burst), 2 ≤ s.mode ∧ s.mode ≠ 10 ∧ c < 64 ∧ (s.ch c).burst = some b ∧ b.edge = some (a, l) ∧ s.coreAt c (if (a + b.delay) / (qFrame : Int) ≤ (s.fn : Int) then s.tick else s.tick + 1) = k ∧ k < 72 ∧ (if (a + b.delay) / (qFrame : Int) ≤ (s.fn : Int) then s else s.ahead).edgeTime c k (s.nextVern k) a b.delay = (u : Int) ∧ u < (s.fn + 2) * qFrame ∧ (s.atTime u).src c = 2 ∧ b.ts + trigLatency ≤ u ∧ s.frameStart ≤ u ∧ s.placeReason c k u = some 3) :=
  ⟨⟨{ lv [(K.IN_FMT 15, 1), (K.IN_INVERT 15, 1), (K.CH_SOURCE 63, 2), (K.TRIG_INPUT 63, 15), (K.TRIG_EDGE 63, 3), (K.TRIG_COUNT 63, 3), (K.CH_SOURCE 62, 2), (K.TRIG_INPUT 62, 15), (K.TRIG_EDGE 62, 2), (K.SLOT_TYPE 15, 2), (K.SLOT_PRESCALE 15, 4)] with clock := .spindle, inHid := [(15, { presc := 3, level := true })], chHid := [(62, { burst := some { ts := 524295, offset := 9, count := 1, period := 0, width := 4, delay := 0 } })] }, 524295, 15, 524295, false, by decide +kernel⟩,
    ⟨{ lv [(K.IN_FMT 15, 1), (K.IN_INVERT 15, 1), (K.SLOT_TYPE 15, 2), (K.SLOT_PRESCALE 15, 4)] with clock := .spindle, inHid := [(15, { presc := 2, level := true })] }, 524295, 15, 524295, by decide +kernel⟩,
    ⟨{ lv [(K.IN_FMT 15, 1), (K.IN_INVERT 15, 1), (K.CH_SOURCE 63, 2), (K.TRIG_INPUT 63, 15), (K.TRIG_EDGE 63, 3), (K.TRIG_COUNT 63, 3), (K.CH_SOURCE 62, 2), (K.TRIG_INPUT 62, 15), (K.TRIG_EDGE 62, 2), (K.SLOT_TYPE 15, 1)] with clock := .spindle, inHid := [(15, { lastFall := some 7 })], chHid := [(62, { burst := some { ts := 524295, offset := 9, count := 1, period := 0, width := 4, delay := 0 } })] }, 524295, 15, 524295, false, by decide +kernel⟩,
    ⟨lv [], 15, by decide +kernel⟩,
    ⟨{ lv [(K.MODE, 1)] with passed := true }, 15, by decide +kernel⟩,
    ⟨{ lv [(K.CH_SOURCE 63, 2), (K.CH_CORE 63, 71)] with chHid := [(63, { burst := some { ts := 100000 * qFrame, offset := 3000000, count := 1, period := 0, width := 50000, delay := 0 } })] }, 63, 71, 100000 * qFrame + 3000000, 100000 * qFrame + 3000000, true, { ts := 100000 * qFrame, offset := 3000000, count := 1, period := 0, width := 50000, delay := 0 }, by decide +kernel⟩,
    ⟨{ lv [(K.CH_SOURCE 63, 2), (K.CH_CORE 63, 71), (K.SP_LAST_FN 7, 100000)] with chHid := [(63, { bound := some 3, burst := some { ts := 100000 * qFrame, offset := 3000000, count := 1, period := 0, width := 50000, delay := 0 } })], bankHid := [(7, { moved := [63] })] }, 63, 71, 100000 * qFrame + 3000000, 100000 * qFrame + 3000000, true, { ts := 100000 * qFrame, offset := 3000000, count := 1, period := 0, width := 50000, delay := 0 }, by decide +kernel⟩,
    ⟨{ lv [(K.CH_SOURCE 63, 2), (K.CH_CORE 63, 71)] with chHid := [(63, { burst := some { ts := 100000 * qFrame, offset := 5, count := 1, period := 0, width := 50000, delay := 0 } })] }, 63, 71, 100000 * qFrame + 5, 100000 * qFrame + 5, true, { ts := 100000 * qFrame, offset := 5, count := 1, period := 0, width := 50000, delay := 0 }, by decide +kernel⟩,
    ⟨{ lv [(K.CH_SOURCE 63, 2), (K.CH_CORE 63, 71)] with chHid := [(63, { hist := [100000 * qFrame + 3000001], burst := some { ts := 100000 * qFrame, offset := 3000000, count := 1, period := 0, width := 50000, delay := 0 } })] }, 63, 71, 100000 * qFrame + 3000000, 100000 * qFrame + 3000000, true, { ts := 100000 * qFrame, offset := 3000000, count := 1, period := 0, width := 50000, delay := 0 }, by decide +kernel⟩,
    ⟨{ lv [(K.CH_SOURCE 63, 2), (K.CH_CORE 63, 71)] with chHid := [(63, { hist := [100000 * qFrame + 2999999], burst := some { ts := 100000 * qFrame, offset := 3000000, count := 1, period := 0, width := 50000, delay := 0 } })] }, 63, 71, 100000 * qFrame + 3000000, 100000 * qFrame + 3000000, true, { ts := 100000 * qFrame, offset := 3000000, count := 1, period := 0, width := 50000, delay := 0 }, by decide +kernel⟩⟩

/-- The hypotheses of each clause of `Obligations.Edges` hold together somewhere: part 3 of 3. -/
theorem witness_Edges_3 :
    (∃ (s : State) (c : Nat) (k : Nat) (u : Nat) (a : Int) (l : Bool) (b : Burst), 2 ≤ s.mode ∧ s.mode ≠ 10 ∧ c < 64 ∧ (s.ch c).burst = some b ∧ b.edge = some (a, l) ∧ s.coreAt c (if (a + b.delay) / (qFrame : Int) ≤ (s.fn : Int) then s.tick else s.tick + 1) = k ∧ k < 72 ∧ (if (a + b.delay) / (qFrame : Int) ≤ (s.fn : Int) then s else s.ahead).edgeTime c k (s.nextVern k) a b.delay = (u : Int) ∧ u < (s.fn + 2) * qFrame ∧ (s.atTime u).src c = 2 ∧ b.ts + trigLatency ≤ u ∧ s.frameStart ≤ u ∧ s.placeReason c k u = some 4) ∧
    (∃ (s : State) (c : Nat) (k : Nat) (u : Nat) (a : Int) (l : Bool) (b : Burst), 2 ≤ s.mode ∧ s.mode ≠ 10 ∧ c < 64 ∧ (s.ch c).burst = some b ∧ b.edge = some (a, l) ∧ s.coreAt c (if (a + b.delay) / (qFrame : Int) ≤ (s.fn : Int) then s.tick else s.tick + 1) = k ∧ k < 72 ∧ (if (a + b.delay) / (qFrame : Int) ≤ (s.fn : Int) then s else s.ahead).edgeTime c k (s.nextVern k) a b.delay = (u : Int) ∧ (s.fn + 2) * qFrame ≤ u) ∧
    (∃ (s : State) (c : Nat) (k : Nat) (u : Nat) (a : Int) (l : Bool) (b : Burst), 2 ≤ s.mode ∧ s.mode ≠ 10 ∧ c < 64 ∧ (s.ch c).burst = some b ∧ b.edge = some (a, l) ∧ s.coreAt c (if (a + b.delay) / (qFrame : Int) ≤ (s.fn : Int) then s.tick else s.tick + 1) = k ∧ k < 72 ∧ (if (a + b.delay) / (qFrame : Int) ≤ (s.fn : Int) then s else s.ahead).edgeTime c k (s.nextVern k) a b.delay = (u : Int) ∧ u < (s.fn + 2) * qFrame ∧ (s.atTime u).src c ≠ 2) ∧
    (∃ (s : State) (c : Nat), 2 ≤ s.mode ∧ (64 ≤ c ∨ s.mode = 10 ∨ (s.ch c).burst = none ∨ (s.ch c).burst.bind (·.edge) = none)) ∧
    (∃ (s : State) (c : Nat) (k : Nat) (x : QEdge) (r : List QEdge), s.mode ≠ 0 ∧ k < 72 ∧ (s.core k).queue = x :: r ∧ frameOf x.t = s.fn ∧ x.ch = c ∧ c < 64 ∧ s.gb (K.PAD_SHUTDOWN c) = false ∧ s.overLimit c = false ∧ (s.g (K.PAD_LEVEL c) == 1) ≠ x.level ∧ s.g (K.PAD_FMT c) ≠ 0) ∧
    (∃ (s : State) (c : Nat) (k : Nat) (x : QEdge) (r : List QEdge), s.mode ≠ 0 ∧ k < 72 ∧ (s.core k).queue = x :: r ∧ frameOf x.t = s.fn ∧ x.ch = c ∧ c < 64 ∧ s.gb (K.PAD_SHUTDOWN c) = false ∧ s.overLimit c = true ∧ s.g (K.CH_POLICY c) ≠ 0 ∧ (s.g (K.PAD_LEVEL c) == 1) ≠ x.level ∧ s.g (K.PAD_FMT c) ≠ 0) ∧
    (∃ (s : State) (c : Nat) (k : Nat) (x : QEdge) (r : List QEdge), s.mode ≠ 0 ∧ k < 72 ∧ (s.core k).queue = x :: r ∧ frameOf x.t = s.fn ∧ x.ch = c ∧ c < 64 ∧ s.gb (K.PAD_SHUTDOWN c) = false ∧ s.overLimit c = false ∧ (s.g (K.PAD_LEVEL c) == 1) ≠ x.level ∧ s.g (K.PAD_FMT c) = 0) ∧
    (∃ (s : State) (c : Nat) (k : Nat) (x : QEdge) (r : List QEdge), s.mode ≠ 0 ∧ k < 72 ∧ (s.core k).queue = x :: r ∧ frameOf x.t = s.fn ∧ x.ch = c ∧ c < 64 ∧ s.gb (K.PAD_SHUTDOWN c) = false ∧ (s.overLimit c = false ∨ s.g (K.CH_POLICY c) ≠ 0) ∧ (s.g (K.PAD_LEVEL c) == 1) = x.level) ∧
    (∃ (s : State) (c : Nat) (k : Nat) (x : QEdge) (r : List QEdge), s.mode ≠ 0 ∧ k < 72 ∧ (s.core k).queue = x :: r ∧ frameOf x.t = s.fn ∧ x.ch = c ∧ c < 64 ∧ (s.gb (K.PAD_SHUTDOWN c) = true ∨ (s.overLimit c = true ∧ s.g (K.CH_POLICY c) = 0))) ∧
    (∃ (s : State) (k : Nat), s.mode ≠ 0 ∧ (72 ≤ k ∨ (∀ z ∈ (s.core k).queue.head?, frameOf z.t ≠ s.fn))) :=
  ⟨⟨{ lv [(K.CH_SOURCE 63, 2), (K.CH_CORE 63, 71)] with chHid := [(63, { burst := some { ts := 100000 * qFrame, offset := 3000000, count := 1, period := 0, width := 50000, delay := 0 } })], coreHid := [(71, { sentN := 256 })] }, 63, 71, 100000 * qFrame + 3000000, 100000 * qFrame + 3000000, true, { ts := 100000 * qFrame, offset := 3000000, count := 1, period := 0, width := 50000, delay := 0 }, by decide +kernel⟩,
    ⟨{ lv [(K.CH_SOURCE 63, 2), (K.CH_CORE 63, 71)] with chHid := [(63, { burst := some { ts := 100000 * qFrame, offset := 30000000, count := 1, period := 0, width := 50000, delay := 0 } })] }, 63, 71, 100000 * qFrame + 30000000, 100000 * qFrame + 30000000, true, { ts := 100000 * qFrame, offset := 30000000, count := 1, period := 0, width := 50000, delay := 0 }, by decide +kernel⟩,
    ⟨{ lv [(K.CH_SOURCE 63, 3), (K.CH_CORE 63, 71)] with chHid := [(63, { burst := some { ts := 100000 * qFrame, offset := 3000000, count := 1, period := 0, width := 50000, delay := 0 } })] }, 63, 71, 100000 * qFrame + 3000000, 100000 * qFrame + 3000000, true, { ts := 100000 * qFrame, offset := 3000000, count := 1, period := 0, width := 50000, delay := 0 }, by decide +kernel⟩,
    ⟨lv [], 63, by decide +kernel⟩,
    ⟨{ lv [(K.PAD_FMT 63, 1), (K.CH_BOUND_LIMIT 63, 90), (K.CH_BOUND 63, 7)] with coreHid := [(71, { queue := [{ t := 100001 * qFrame - 1, ch := 63, level := true, vern := 0, trig := false }] })] }, 63, 71, { t := 100001 * qFrame - 1, ch := 63, level := true, vern := 0, trig := false }, [], by decide +kernel⟩,
    ⟨{ lv [(K.PAD_FMT 63, 8), (K.CH_BOUND_LIMIT 63, 5), (K.CH_BOUND 63, 7), (K.CH_POLICY 63, 1)] with coreHid := [(71, { queue := [{ t := 100001 * qFrame - 1, ch := 63, level := true, vern := 0, trig := false }] })] }, 63, 71, { t := 100001 * qFrame - 1, ch := 63, level := true, vern := 0, trig := false }, [], by decide +kernel⟩,
    ⟨{ lv [(K.CH_BOUND_LIMIT 63, 90), (K.CH_BOUND 63, 7)] with coreHid := [(71, { queue := [{ t := 100001 * qFrame - 1, ch := 63, level := true, vern := 0, trig := false }] })] }, 63, 71, { t := 100001 * qFrame - 1, ch := 63, level := true, vern := 0, trig := false }, [], by decide +kernel⟩,
    ⟨{ lv [(K.PAD_FMT 63, 1), (K.CH_BOUND_LIMIT 63, 90), (K.CH_BOUND 63, 7)] with coreHid := [(71, { queue := [{ t := 100001 * qFrame - 1, ch := 63, level := false, vern := 0, trig := false }] })] }, 63, 71, { t := 100001 * qFrame - 1, ch := 63, level := false, vern := 0, trig := false }, [], by decide +kernel⟩,
    ⟨{ lv [(K.PAD_FMT 63, 1), (K.CH_BOUND_LIMIT 63, 5), (K.CH_BOUND 63, 7)] with coreHid := [(71, { queue := [{ t := 100001 * qFrame - 1, ch := 63, level := true, vern := 0, trig := false }] })] }, 63, 71, { t := 100001 * qFrame - 1, ch := 63, level := true, vern := 0, trig := false }, [], by decide +kernel⟩,
    ⟨{ lv [] with coreHid := [(71, { queue := [{ t := 100001 * qFrame, ch := 63, level := false, vern := 0, trig := false }] })] }, 71, by decide +kernel⟩⟩

/-- The hypotheses of each clause of `Obligations.SessionLife` hold together somewhere: part 1 of 2. -/
theorem witness_SessionLife :
    (∃ (s : State) (w : Who) (k : Nat) (l : Nat), s.mode ≠ 0 ∧ 1 ≤ s.privOf w ∧ (l = 0 ∨ 1000 ≤ l ∧ l ≤ 1000000) ∧ (∀ j ∈ List.range 8, s.sessLive j = true → identityParty (s.g (K.SESS_OWNER j)) ≠ identityParty (identityOf w)) ∧ (∀ q ∈ List.range 8, s.g (K.SQ_LOCK_OWNER q) = 0 ∨ identityParty (s.g (K.SQ_LOCK_OWNER q)) ≠ identityParty (identityOf w)) ∧ (List.range 8).find? (fun j => s.g (K.SESS_STATE j) == 0) = some k) ∧
    (∃ (s : State) (w : Who) (k : Nat) (n : Nat), s.mode ≠ 0 ∧ 1 ≤ s.privOf w ∧ (List.range 8).find? (fun j => s.sessLive j && s.g (K.SESS_OWNER j) == identityOf w && (s.sessOf j).nonce == some n) = some k) ∧
    (∃ (s : State) (w : Who) (l : Nat), s.mode ≠ 0 ∧ 1 ≤ s.privOf w ∧ (l = 0 ∨ 1000 ≤ l ∧ l ≤ 1000000) ∧ (∀ j ∈ List.range 8, s.sessLive j = true → identityParty (s.g (K.SESS_OWNER j)) ≠ identityParty (identityOf w)) ∧ (∀ q ∈ List.range 8, s.g (K.SQ_LOCK_OWNER q) = 0 ∨ identityParty (s.g (K.SQ_LOCK_OWNER q)) ≠ identityParty (identityOf w)) ∧ (∀ j ∈ List.range 8, s.g (K.SESS_STATE j) ≠ 0)) ∧
    (∃ (s : State) (w : Who) (k : Nat), s.mode ≠ 0 ∧ s.bootRom = false ∧ 1 ≤ s.privOf w ∧ s.sessRefusal w k = 0) ∧
    (∃ (s : State) (w : Who) (k : Nat), s.mode ≠ 0 ∧ s.sessRefusal w k = 0) ∧
    (∃ (s : State) (w : Who) (k : Nat), s.mode ≠ 0 ∧ s.sessRefusal w k ≠ 0 ∧ k ≠ 255) ∧
    (∃ (s : State) (k : Nat), s.mode ≠ 0 ∧ s.leaseOver k = true ∧ (∀ q ∈ List.range 8, s.g (K.SQ_LOCK_OWNER q) = 0 ∨ s.g (K.SQ_LOCK_OWNER q) ≠ s.g (K.SESS_OWNER k))) ∧
    (∃ (s : State) (k : Nat), s.mode ≠ 0 ∧ s.leaseOver k = false) ∧
    (∃ (s : State) (k : Nat), s.mode ≠ 0 ∧ k < 8 ∧ s.g (K.SESS_STATE k) = 3 ∧ (s.sessOf k).retire ≤ s.tick) ∧
    (∃ (s : State) (w : Who) (k : Nat), s.mode ≠ 0 ∧ s.sessRefusal w k = 0) :=
  ⟨⟨{ lv ((List.range 7).map (fun j => (K.SESS_STATE j, 3))) with txns := [(7 * 64 + 63, { gen := 4 })] }, w0, 7, 1000000, by decide +kernel⟩,
    ⟨{ lv [(K.SESS_STATE 7, 1), (K.SESS_OWNER 7, identityOf w0)] with sess := [(7, { nonce := some 5 })] }, w0, 7, 5, by decide +kernel⟩,
    ⟨lv ((List.range 8).map (fun j => (K.SESS_STATE j, 3))), w0, 1000, by decide +kernel⟩,
    ⟨{ lv [(K.SESS_STATE 7, 2), (K.SESS_OWNER 7, identityOf w0), (K.SQ_LOCK_OWNER 7, identityOf w0), (K.SQ_LOCK_OWNER 6, 9)] with sess := [(7, { nonce := some 5, staged := [(4, 5)] })] }, w0, 7, by decide +kernel⟩,
    ⟨{ lv [(K.SESS_STATE 7, 1), (K.SESS_OWNER 7, identityOf w0), (K.BAR0_SESSION, 7)] with sess := [(7, { nonce := some 5, staged := [(4, 5)] })], barHold := some (4, 5) }, w0, 7, by decide +kernel⟩,
    ⟨lv [(K.SESS_STATE 7, 1), (K.SESS_OWNER 7, 9)], w0, 7, by decide +kernel⟩,
    ⟨{ lv [(K.SESS_STATE 7, 1), (K.SESS_OWNER 7, 9), (K.SESS_LEASE 7, 1000)] with sess := [(7, { renewed := 98749 })] }, 7, by decide +kernel⟩,
    ⟨{ lv [(K.SESS_STATE 7, 1), (K.SESS_OWNER 7, 9), (K.SESS_LEASE 7, 1000)] with sess := [(7, { renewed := 98750 })] }, 7, by decide +kernel⟩,
    ⟨{ lv [(K.SESS_STATE 7, 3)] with sess := [(7, { retire := 100000 })] }, 7, by decide +kernel⟩,
    ⟨lv [(K.SESS_STATE 7, 2), (K.SESS_OWNER 7, identityOf w0)], w0, 7, by decide +kernel⟩⟩

/-- The hypotheses of each clause of `Obligations.SessionLife` hold together somewhere: part 2 of 2. -/
theorem witness_SessionLife_2 :
    (∃ (s : State) (w : Who) (k : Nat), s.mode ≠ 0 ∧ s.sessRefusal w k = 0) ∧
    (∃ (s : State) (w : Who) (k : Nat), s.mode ≠ 0 ∧ s.bootRom = false ∧ 1 ≤ s.privOf w ∧ k < 8 ∧ s.sessRefusal w k = 0) ∧
    (∃ (s : State) (w : Who) (k : Nat), s.mode ≠ 0 ∧ s.bootRom = false ∧ 1 ≤ s.privOf w ∧ k < 8 ∧ s.sessRefusal w k ≠ 0) :=
  ⟨⟨{ lv [(K.SESS_STATE 7, 1), (K.SESS_OWNER 7, identityOf w0)] with sess := [(7, { staged := [(4, 5)] })] }, w0, 7, by decide +kernel⟩,
    ⟨{ lv [(K.SESS_STATE 7, 2), (K.SESS_OWNER 7, identityOf w0)] with sess := [(7, { staged := [(4, 5)] })] }, w0, 7, by decide +kernel⟩,
    ⟨lv [(K.SESS_STATE 7, 1), (K.SESS_OWNER 7, 9)], w0, 7, by decide +kernel⟩⟩

/-- The hypotheses of each clause of `Obligations.Commits` hold together somewhere: part 1 of 2. -/
theorem witness_Commits :
    (∃ (s : State) (u : State) (b : State) (w : Who) (k : Nat) (fn : Nat) (n : Nat) (due : Nat) (own : List (Nat × Nat)) (vals : List (Nat × Nat)), s.mode ≠ 0 ∧ s.bootRom = false ∧ 2 ≤ s.privOf w ∧ k < 8 ∧ s.sessRefusal w k = 0 ∧ s.g (K.SESS_STATE k) = 1 ∧ u = s.noOut.renewSess k ∧ own = (s.sessOf k).staged ∧ n = s.tick + 3 + (if timingCommit own then (List.range 8).foldl (fun m q => max m (s.largestLead q)) 0 else 0) ∧ due = (if fn = 0 then n else s.tick + (fn - s.fn)) ∧ b = u.under false due ∧ vals = u.fullValues b own due ∧ firstFail (u.commitFails b own vals due) = none ∧ n ≤ due ∧ due ≤ s.tick + 33554432) ∧
    (∃ (s : State) (u : State) (b : State) (w : Who) (k : Nat) (fn : Nat) (n : Nat) (due : Nat) (own : List (Nat × Nat)) (vals : List (Nat × Nat)), s.mode ≠ 0 ∧ s.sessRefusal w k = 0 ∧ 2 ≤ s.privOf w ∧ s.g (K.SESS_STATE k) = 1 ∧ u = (s.noOut.renewSess k).renewSess k ∧ own = (s.sessOf k).staged ∧ n = s.tick + 3 + (if timingCommit own then (List.range 8).foldl (fun m q => max m (s.largestLead q)) 0 else 0) ∧ due = (if fn = 0 then n else s.tick + (fn - s.fn)) ∧ b = u.under false due ∧ vals = u.fullValues b own due ∧ firstFail (u.commitFails b own vals due) = none ∧ n ≤ due ∧ due ≤ s.tick + 33554432) ∧
    (∃ (s : State) (u : State) (b : State) (w : Who) (k : Nat) (fn : Nat) (due : Nat) (own : List (Nat × Nat)) (vals : List (Nat × Nat)) (f : Nat × Nat), s.mode ≠ 0 ∧ s.bootRom = false ∧ 2 ≤ s.privOf w ∧ k < 8 ∧ s.sessRefusal w k = 0 ∧ s.g (K.SESS_STATE k) = 1 ∧ u = s.noOut.renewSess k ∧ own = (s.sessOf k).staged ∧ timingCommit own = false ∧ due = (if fn = 0 then s.tick + 3 else s.tick + (fn - s.fn)) ∧ b = u.under false due ∧ vals = u.fullValues b own due ∧ firstFail (u.commitFails b own vals due) = some f ∧ u.placeRefuses b vals due f = false ∧ f.2 ≠ RC.active) ∧
    (∃ (s : State) (u : State) (b : State) (w : Who) (k : Nat) (fn : Nat) (due : Nat) (own : List (Nat × Nat)) (vals : List (Nat × Nat)), s.mode ≠ 0 ∧ s.bootRom = false ∧ 2 ≤ s.privOf w ∧ k < 8 ∧ s.sessRefusal w k = 0 ∧ s.g (K.SESS_STATE k) = 1 ∧ u = s.noOut.renewSess k ∧ own = (s.sessOf k).staged ∧ timingCommit own = false ∧ fn ≠ 0 ∧ fn < s.fn + 3 ∧ due = s.tick + (fn - s.fn) ∧ b = u.under false due ∧ vals = u.fullValues b own due ∧ firstFail (u.commitFails b own vals due) = none) ∧
    (∃ (s : State) (w : Who) (k : Nat), s.mode ≠ 0 ∧ s.bootRom = false ∧ 2 ≤ s.privOf w ∧ k < 8 ∧ s.sessRefusal w k = 0 ∧ s.g (K.SESS_STATE k) = 2) ∧
    (∃ (s : State) (u : State) (b : State) (k : Nat) (vals : List (Nat × Nat)) (c : Commit), s.mode ≠ 0 ∧ u = s.noOut ∧ u.checksDue.find? (fun x => x.sess == k) = some c ∧ b = u.under true c.due ∧ vals = u.fullValues b (c.vals.take c.own) c.due ∧ firstFail (u.commitFails b (c.vals.take c.own) vals c.due) = none) ∧
    (∃ (s : State) (k : Nat) (c : Commit), s.mode ≠ 0 ∧ (s.commits.filter (fun x => x.final && x.due ≤ s.tick)).find? (fun x => x.sess == k) = some c ∧ k < 8 ∧ c.gen = s.g (K.SESS_GEN k) ∧ s.g (K.SESS_STATE k) = 2 ∧ (∀ x ∈ c.vals, keyIndex x.1 = 0x3800) ∧ (c.vals.map (·.1)).Nodup) ∧
    (∃ (s : State) (k : Nat) (c : Commit), s.mode ≠ 0 ∧ (s.commits.filter (fun x => x.final && x.due ≤ s.tick)).find? (fun x => x.sess == k) = some c ∧ k < 8 ∧ c.gen = s.g (K.SESS_GEN k) ∧ s.g (K.SESS_STATE k) = 2) ∧
    (∃ (s : State) (k : Nat), s.mode ≠ 0 ∧ (s.commits.filter (fun x => x.final && x.due ≤ s.tick)).find? (fun x => x.sess == k) = none) ∧
    (∃ (s : State) (u : State) (b : State) (k : Nat) (vals : List (Nat × Nat)) (f : Nat × Nat) (c : Commit), s.mode ≠ 0 ∧ u = s.noOut ∧ u.checksDue.find? (fun x => x.sess == k) = some c ∧ k < 8 ∧ b = u.under true c.due ∧ vals = u.fullValues b (c.vals.take c.own) c.due ∧ firstFail (u.commitFails b (c.vals.take c.own) vals c.due) = some f ∧ u.placeRefuses b vals c.due f = false ∧ f.2 ≠ RC.active ∧ c.gen = s.g (K.SESS_GEN k) ∧ s.g (K.SESS_STATE k) = 2) :=
  ⟨⟨{ lv [(K.SESS_STATE 7, 1), (K.SESS_OWNER 7, identityOf w0)] with sess := [(7, { staged := [(K.SR_HOLD_MAX, 86400)] })] }, (let s := { lv [(K.SESS_STATE 7, 1), (K.SESS_OWNER 7, identityOf w0)] with sess := [(7, { staged := [(K.SR_HOLD_MAX, 86400)] })] }; s.noOut.renewSess 7), (let s := { lv [(K.SESS_STATE 7, 1), (K.SESS_OWNER 7, identityOf w0)] with sess := [(7, { staged := [(K.SR_HOLD_MAX, 86400)] })] }; s.noOut.renewSess 7), w0, 7, 0, 100003, 100003, [(K.SR_HOLD_MAX, 86400)], [(K.SR_HOLD_MAX, 86400)], by decide +kernel⟩,
    ⟨{ lv [(K.SESS_STATE 7, 1), (K.SESS_OWNER 7, identityOf w0)] with sess := [(7, { staged := [(K.SR_HOLD_MAX, 86400)] })] }, (let s := { lv [(K.SESS_STATE 7, 1), (K.SESS_OWNER 7, identityOf w0)] with sess := [(7, { staged := [(K.SR_HOLD_MAX, 86400)] })] }; (s.noOut.renewSess 7).renewSess 7), (let s := { lv [(K.SESS_STATE 7, 1), (K.SESS_OWNER 7, identityOf w0)] with sess := [(7, { staged := [(K.SR_HOLD_MAX, 86400)] })] }; (s.noOut.renewSess 7).renewSess 7), w0, 7, 100003, 100003, 100003, [(K.SR_HOLD_MAX, 86400)], [(K.SR_HOLD_MAX, 86400)], by decide +kernel⟩,
    ⟨{ lv [(K.SESS_STATE 7, 1), (K.SESS_OWNER 7, identityOf w0)] with sess := [(7, { staged := [(K.SR_HOLD_MAX, 7)] })] }, (let s := { lv [(K.SESS_STATE 7, 1), (K.SESS_OWNER 7, identityOf w0)] with sess := [(7, { staged := [(K.SR_HOLD_MAX, 7)] })] }; s.noOut.renewSess 7), (let s := { lv [(K.SESS_STATE 7, 1), (K.SESS_OWNER 7, identityOf w0)] with sess := [(7, { staged := [(K.SR_HOLD_MAX, 7)] })] }; s.noOut.renewSess 7), w0, 7, 0, 100003, [(K.SR_HOLD_MAX, 7)], [(K.SR_HOLD_MAX, 7)], (K.SR_HOLD_MAX, RC.range), by decide +kernel⟩,
    ⟨{ lv [(K.SESS_STATE 7, 1), (K.SESS_OWNER 7, identityOf w0)] with sess := [(7, { staged := [] })] }, (let s := { lv [(K.SESS_STATE 7, 1), (K.SESS_OWNER 7, identityOf w0)] with sess := [(7, { staged := [] })] }; s.noOut.renewSess 7), (let s := { lv [(K.SESS_STATE 7, 1), (K.SESS_OWNER 7, identityOf w0)] with sess := [(7, { staged := [] })] }; s.noOut.renewSess 7), w0, 7, 100002, 100002, [], [], by decide +kernel⟩,
    ⟨lv [(K.SESS_STATE 7, 2), (K.SESS_OWNER 7, identityOf w0)], w0, 7, by decide +kernel⟩,
    ⟨{ lv [(K.SESS_STATE 7, 2)] with commits := [{ sess := 7, due := 100001, check := 100000, final := false, vals := [(K.SR_HOLD_MAX, 86400)], own := 1, gen := 0 }] }, (let s := { lv [(K.SESS_STATE 7, 2)] with commits := [{ sess := 7, due := 100001, check := 100000, final := false, vals := [(K.SR_HOLD_MAX, 86400)], own := 1, gen := 0 }] }; s.noOut), (let s := { lv [(K.SESS_STATE 7, 2)] with commits := [{ sess := 7, due := 100001, check := 100000, final := false, vals := [(K.SR_HOLD_MAX, 86400)], own := 1, gen := 0 }] }; s.noOut), 7, [(K.SR_HOLD_MAX, 86400)], { sess := 7, due := 100001, check := 100000, final := false, vals := [(K.SR_HOLD_MAX, 86400)], own := 1, gen := 0 }, by decide +kernel⟩,
    ⟨{ lv [(K.SESS_STATE 7, 2)] with sess := [(7, { staged := [(K.SR_HOLD_MAX, 86400)] })], commits := [{ sess := 7, due := 100000, check := 99999, final := true, vals := [(K.SR_HOLD_MAX, 86400), (K.SR_LEARN_MIN, 77)], own := 2, gen := 0 }] }, 7, { sess := 7, due := 100000, check := 99999, final := true, vals := [(K.SR_HOLD_MAX, 86400), (K.SR_LEARN_MIN, 77)], own := 2, gen := 0 }, by decide +kernel⟩,
    ⟨{ lv [(K.SESS_STATE 7, 2)] with sess := [(7, { staged := [(K.SR_HOLD_MAX, 86400)] })], commits := [{ sess := 7, due := 100000, check := 99999, final := true, vals := [(K.CH_SOURCE 63, 3), (K.CH_DELAY 5, 9), (K.TN_ENABLE 7, 1), (atRow K.WIN_TABLE 5, 2 ^ 64)], own := 4, gen := 0 }] }, 7, { sess := 7, due := 100000, check := 99999, final := true, vals := [(K.CH_SOURCE 63, 3), (K.CH_DELAY 5, 9), (K.TN_ENABLE 7, 1), (atRow K.WIN_TABLE 5, 2 ^ 64)], own := 4, gen := 0 }, by decide +kernel⟩,
    ⟨lv [], 7, by decide +kernel⟩,
    ⟨{ lv [(K.SESS_STATE 7, 2)] with commits := [{ sess := 7, due := 100001, check := 100000, final := false, vals := [(K.SR_HOLD_MAX, 1)], own := 1, gen := 0 }] }, (let s := { lv [(K.SESS_STATE 7, 2)] with commits := [{ sess := 7, due := 100001, check := 100000, final := false, vals := [(K.SR_HOLD_MAX, 1)], own := 1, gen := 0 }] }; s.noOut), (let s := { lv [(K.SESS_STATE 7, 2)] with commits := [{ sess := 7, due := 100001, check := 100000, final := false, vals := [(K.SR_HOLD_MAX, 1)], own := 1, gen := 0 }] }; s.noOut), 7, [(K.SR_HOLD_MAX, 1)], (K.SR_HOLD_MAX, 2), { sess := 7, due := 100001, check := 100000, final := false, vals := [(K.SR_HOLD_MAX, 1)], own := 1, gen := 0 }, by decide +kernel⟩⟩

/-- The hypotheses of each clause of `Obligations.Commits` hold together somewhere: part 2 of 2. -/
theorem witness_Commits_2 :
    (∃ (s : State) (k : Nat), s.mode ≠ 0 ∧ s.checksDue.find? (fun x => x.sess == k) = none) :=
  ⟨lv [], 7, by decide +kernel⟩

/-- The hypotheses of each clause of `Obligations.Bar0` hold together somewhere: part 1 of 2. -/
theorem witness_Bar0 :
    (∃ (s : State) (off : Nat) (len : Nat) (v : Nat) (k : Nat) (j : Nat) (x : Nat) (d : ObjDef), s.mode ≠ 0 ∧ s.bar0Live = true ∧ off % 8 = 0 ∧ len = 8 ∧ opKey (off / 2048) (off / 8) = k ∧ k ≠ K.BAR0_OPEN ∧ k ≠ K.BAR0_SESSION ∧ upperOf k = false ∧ wideAt k = false ∧ s.writeTarget k = .ok d ∧ (d.ty = .u8 ∨ d.ty = .u32 ∨ d.ty = .u64 ∨ d.ty = .bool ∨ d.ty = .i64 ∨ d.ty = .dur64 ∨ d.ty = .u16) ∧ d.acc = .rws ∧ fitValue k d.ty (v % 2 ^ 64) = .ok x ∧ j = s.g K.BAR0_SESSION ∧ s.g (K.SESS_STATE j) = 1 ∧ (s.sessOf j).staged.length < 8192) ∧
    (∃ (s : State) (off : Nat) (len : Nat) (k : Nat), s.mode ≠ 0 ∧ s.bar0Live = false ∧ off % 8 = 0 ∧ len = 8 ∧ opKey (off / 2048) (off / 8) = k ∧ k ≠ K.BAR0_OPEN ∧ k ≠ K.BAR0_SESSION) ∧
    (∃ (s : State) (off : Nat) (len : Nat) (k : Nat) (d : ObjDef), s.mode ≠ 0 ∧ s.bar0Live = true ∧ off % 8 = 0 ∧ len = 8 ∧ opKey (off / 2048) (off / 8) = k ∧ k ≠ K.BAR0_OPEN ∧ k ≠ K.BAR0_SESSION ∧ upperOf k = false ∧ wideAt k = false ∧ s.bootRom = false ∧ keyIndex k < 0xF000 ∧ keySub k ≠ 0 ∧ objAt (keyIndex k) (keySub k) = some d ∧ d.acc = .ro) ∧
    (∃ (s : State) (off : Nat) (len : Nat) (k : Nat), s.mode ≠ 0 ∧ (len ≠ 8 ∨ off % 8 ≠ 0) ∧ opKey (off / 2048) (off / 8) = k) ∧
    (∃ (s : State) (off : Nat) (len : Nat) (v : Nat) (k : Nat) (x : Nat) (d : ObjDef), s.mode ≠ 0 ∧ s.bar0Live = true ∧ off % 8 = 0 ∧ len = 8 ∧ opKey (off / 2048) (off / 8) = k ∧ keyIndex k = 0x2001 ∧ k ≠ K.TBL_SEL ∧ upperOf k = false ∧ wideAt k = false ∧ s.writeTarget k = .ok d ∧ (d.ty = .u8 ∨ d.ty = .u32 ∨ d.ty = .u64 ∨ d.ty = .bool ∨ d.ty = .u16) ∧ d.acc = .rw ∧ fitValue k d.ty (v % 2 ^ 64) = .ok x ∧ writeNeed k d.acc ≤ s.privOf s.bar0Me) ∧
    (∃ (s : State) (u : State) (idx : Nat) (sub : Nat) (k : Nat) (x : Nat) (d : ObjDef), s.mode ≠ 0 ∧ u = s.noOut.bar0Renew ∧ opKey idx sub = k ∧ wideAt k = true ∧ objAt (keyIndex k) (keySub k) = some d ∧ d.ty = .time92 ∧ u.readWord k = (RC.ok, x)) ∧
    (∃ (s : State) (u : State) (idx : Nat) (sub : Nat) (k : Nat) (h : Nat) (x : Nat), s.mode ≠ 0 ∧ u = s.noOut.bar0Renew ∧ opKey idx sub = k + 65536 ∧ upperOf (k + 65536) = true ∧ u.readWide k = (RC.ok, x) ∧ s.barLatch = some (k, h)) ∧
    (∃ (s : State) (u : State) (idx : Nat) (sub : Nat) (k : Nat) (x : Nat), s.mode ≠ 0 ∧ u = s.noOut.bar0Renew ∧ opKey idx sub = k + 65536 ∧ upperOf (k + 65536) = true ∧ u.readWide k = (RC.ok, x) ∧ (∀ z ∈ s.barLatch, z.1 ≠ k)) ∧
    (∃ (s : State) (u : State) (idx : Nat) (sub : Nat) (k : Nat), s.mode ≠ 0 ∧ u = s.noOut.bar0Renew ∧ opKey idx sub = k ∧ upperOf k = false ∧ wideAt k = false) ∧
    (∃ (s : State) (idx : Nat) (sub : Nat) (k : Nat) (d : ObjDef), s.mode ≠ 0 ∧ s.bar0Live = true ∧ opKey idx (sub + 1) = k + 65536 ∧ k + 65536 ≠ K.BAR0_OPEN ∧ k + 65536 ≠ K.BAR0_SESSION ∧ upperOf (k + 65536) = true ∧ s.writeTarget k = .ok d) :=
  ⟨⟨lv [(K.SESS_STATE 7, 1), (K.SESS_OWNER 7, 2 ^ 60 + 9), (K.BAR0_SESSION, 7)], 0x3800 * 2048 + 0x14 * 8, 8, 99, K.SR_HOLD_MAX, 7, 99, ⟨"SR_HOLD_MAX", 0x14, 0, 1, .u32, .rws, 604800⟩, by decide +kernel⟩,
    ⟨lv [], 0x3800 * 2048 + 0x14 * 8, 8, K.SR_HOLD_MAX, by decide +kernel⟩,
    ⟨lv [(K.SESS_STATE 7, 1), (K.SESS_OWNER 7, 2 ^ 60 + 9), (K.BAR0_SESSION, 7)], keyIndex K.DEV_BOUND * 2048 + keySub K.DEV_BOUND * 8, 8, K.DEV_BOUND, (objAt (keyIndex K.DEV_BOUND) (keySub K.DEV_BOUND)).getD ⟨"", 0, 0, 0, .u8, .ro, 0⟩, by decide +kernel⟩,
    ⟨{ lv [] with barHold := some (3, 4) }, 0x3800 * 2048 + 0x14 * 8, 4, K.SR_HOLD_MAX, by decide +kernel⟩,
    ⟨lv [(K.SESS_STATE 7, 1), (K.SESS_OWNER 7, 2 ^ 60 + 9), (K.BAR0_SESSION, 7)], 0x2001 * 2048 + 0x1F * 8, 8, 7, K.TBL_WORD 15, 7, ⟨"TBL_WORD", 0x10, 1, 16, .u64, .rw, 0⟩, by decide +kernel⟩,
    ⟨lv [(K.LEAP_EPOCH, 5 * 2 ^ 64 + 9)], (let s := lv [(K.LEAP_EPOCH, 5 * 2 ^ 64 + 9)]; s.noOut.bar0Renew), 0x2010, 7, K.LEAP_EPOCH, 5 * 2 ^ 64 + 9, ⟨"LEAP_EPOCH", 0x7, 0, 1, .time92, .rws, 0⟩, by decide +kernel⟩,
    ⟨{ lv [(K.LEAP_EPOCH, 5 * 2 ^ 64 + 9)] with barLatch := some (K.LEAP_EPOCH, 4) }, (let s := { lv [(K.LEAP_EPOCH, 5 * 2 ^ 64 + 9)] with barLatch := some (K.LEAP_EPOCH, 4) }; s.noOut.bar0Renew), 0x2010, 8, K.LEAP_EPOCH, 4, 5 * 2 ^ 64 + 9, by decide +kernel⟩,
    ⟨{ lv [(K.LEAP_EPOCH, 5 * 2 ^ 64 + 9)] with barLatch := none }, (let s := { lv [(K.LEAP_EPOCH, 5 * 2 ^ 64 + 9)] with barLatch := none }; s.noOut.bar0Renew), 0x2010, 8, K.LEAP_EPOCH, 5 * 2 ^ 64 + 9, by decide +kernel⟩,
    ⟨lv [], (let s := lv []; s.noOut.bar0Renew), 0x3800, 0x14, K.SR_HOLD_MAX, by decide +kernel⟩,
    ⟨lv [(K.SESS_STATE 7, 1), (K.SESS_OWNER 7, 2 ^ 60 + 9), (K.BAR0_SESSION, 7)], 0x2010, 7, K.LEAP_EPOCH, ⟨"LEAP_EPOCH", 0x7, 0, 1, .time92, .rws, 0⟩, by decide +kernel⟩⟩

/-- The hypotheses of each clause of `Obligations.Bar0` hold together somewhere: part 2 of 2. -/
theorem witness_Bar0_2 :
    (∃ (s : State) (idx : Nat) (sub : Nat) (v : Nat) (k : Nat) (j : Nat) (h : Nat) (x : Nat) (d : ObjDef), s.mode ≠ 0 ∧ s.bar0Live = true ∧ opKey idx sub = k ∧ k ≠ K.BAR0_OPEN ∧ k ≠ K.BAR0_SESSION ∧ upperOf k = false ∧ wideAt k = true ∧ s.writeTarget k = .ok d ∧ d.ty = .time92 ∧ d.acc = .rws ∧ s.barHold = some (k, h) ∧ fitValue k .time92 (h * 2 ^ 64 + v % 2 ^ 64) = .ok x ∧ j = s.g K.BAR0_SESSION ∧ s.g (K.SESS_STATE j) = 1 ∧ (s.sessOf j).staged.length < 8192) ∧
    (∃ (s : State) (idx : Nat) (sub : Nat) (k : Nat) (d : ObjDef), s.mode ≠ 0 ∧ s.bar0Live = true ∧ opKey idx sub = k ∧ k ≠ K.BAR0_OPEN ∧ k ≠ K.BAR0_SESSION ∧ upperOf k = false ∧ wideAt k = true ∧ s.writeTarget k = .ok d ∧ s.barHold = none) ∧
    (∃ (s : State) (u : State) (v : Nat), s.mode ≠ 0 ∧ s.bootRom = false ∧ u = s.noOut.bar0Renew ∧ (v ≤ 7 ∨ v = 255)) ∧
    (∃ (s : State) (v : Nat) (k : Nat) (h : Nat) (x : Nat), s.mode ≠ 0 ∧ s.bootRom = false ∧ s.bar0Live = false ∧ v < 2 ^ 64 ∧ v % 2 ^ 32 = h ∧ (h = 0 ∨ 1000 ≤ h ∧ h ≤ 1000000) ∧ identityOf (bar0Who (v / 2 ^ 32)) = x ∧ (∀ j ∈ List.range 8, s.sessLive j = true → identityParty (s.g (K.SESS_OWNER j)) ≠ identityParty x) ∧ (∀ q ∈ List.range 8, s.g (K.SQ_LOCK_OWNER q) = 0 ∨ identityParty (s.g (K.SQ_LOCK_OWNER q)) ≠ identityParty x) ∧ (List.range 8).find? (fun j => s.g (K.SESS_STATE j) == 0) = some k) ∧
    (∃ (s : State) (u : State) (v : Nat) (x : Nat) (r : Nat), s.mode ≠ 0 ∧ s.bootRom = false ∧ s.bar0Live = true ∧ u = { s.noOut.bar0Renew with barHold := none } ∧ v < 2 ^ 64 ∧ x = clearFields v [(63, 56)] ∧ r = u.selected16 x) ∧
    (∃ (s : State) (k : Nat) (j : Nat) (h : Nat) (x : Nat) (r : Nat) (y : Nat) (d : ObjDef), s.mode ≠ 0 ∧ s.bootRom = false ∧ s.bar0Live = true ∧ selObj (s.g K.TBL_SEL) = k ∧ selRow (s.g K.TBL_SEL) = r ∧ s.writeTarget k = .ok d ∧ objAt (keyIndex k) (keySub k) = some d ∧ d.ty = .tbl h y ∧ d.acc = .rws ∧ r < h ∧ fitValue k d.ty (s.portRow % 2 ^ (8 * y)) = .ok x ∧ j = s.g K.BAR0_SESSION ∧ s.g (K.SESS_STATE j) = 1 ∧ (s.sessOf j).staged.length < 8192) :=
  ⟨⟨{ lv [(K.SESS_STATE 7, 1), (K.SESS_OWNER 7, 2 ^ 60 + 9), (K.BAR0_SESSION, 7)] with barHold := some (K.LEAP_EPOCH, 5) }, 0x2010, 7, 2 ^ 64 + 5, K.LEAP_EPOCH, 7, 5, 5 * 2 ^ 64 + 5, ⟨"LEAP_EPOCH", 0x7, 0, 1, .time92, .rws, 0⟩, by decide +kernel⟩,
    ⟨lv [(K.SESS_STATE 7, 1), (K.SESS_OWNER 7, 2 ^ 60 + 9), (K.BAR0_SESSION, 7)], 0x2010, 7, K.LEAP_EPOCH, ⟨"LEAP_EPOCH", 0x7, 0, 1, .time92, .rws, 0⟩, by decide +kernel⟩,
    ⟨lv [(K.SESS_STATE 7, 1), (K.SESS_OWNER 7, 2 ^ 60 + 9), (K.BAR0_SESSION, 7)], (let s := lv [(K.SESS_STATE 7, 1), (K.SESS_OWNER 7, 2 ^ 60 + 9), (K.BAR0_SESSION, 7)]; s.noOut.bar0Renew), 255, by decide +kernel⟩,
    ⟨lv ((List.range 7).map (fun j => (K.SESS_STATE j, 3))), 9 * 2 ^ 32, 7, 0, 2 ^ 60 + 9, by decide +kernel⟩,
    ⟨lv [(K.SESS_STATE 7, 1), (K.SESS_OWNER 7, 2 ^ 60 + 9), (K.BAR0_SESSION, 7), (atRow K.WIN_TABLE 4095, 2 ^ 64 + 16 * 2 ^ 104 + 4096 * 7)], (let s := lv [(K.SESS_STATE 7, 1), (K.SESS_OWNER 7, 2 ^ 60 + 9), (K.BAR0_SESSION, 7), (atRow K.WIN_TABLE 4095, 2 ^ 64 + 16 * 2 ^ 104 + 4096 * 7)]; { s.noOut.bar0Renew with barHold := none }), 2 ^ 63 + keyIndex K.WIN_TABLE * 2 ^ 40 + keySub K.WIN_TABLE * 2 ^ 32 + 4095, keyIndex K.WIN_TABLE * 2 ^ 40 + keySub K.WIN_TABLE * 2 ^ 32 + 4095, 2 ^ 64 + 16 * 2 ^ 104 + 4096 * 7, by decide +kernel⟩,
    ⟨lv [(K.SESS_STATE 7, 1), (K.SESS_OWNER 7, 2 ^ 60 + 9), (K.BAR0_SESSION, 7), (K.TBL_SEL, keyIndex K.WIN_TABLE * 2 ^ 40 + keySub K.WIN_TABLE * 2 ^ 32 + 4095), (K.TBL_WORD 0, 4096 * 7), (K.TBL_WORD 1, 1)], K.WIN_TABLE, 7, 4096, 2 ^ 64 + 4096 * 7, 4095, 16, (objAt (keyIndex K.WIN_TABLE) (keySub K.WIN_TABLE)).getD ⟨"", 0, 0, 0, .u8, .ro, 0⟩, by decide +kernel⟩⟩

/-- The hypotheses of each clause of `Obligations.WopOperations` hold together somewhere: part 1 of 3. -/
theorem witness_WopOperations :
    (∃ (s : State) (u : State) (w : Who) (k : Nat), s.mode ≠ 0 ∧ (k = 255 ∨ s.sessRefusal w k = 0) ∧ u = (if k = 255 then s.noOut else s.noOut.renewSess k)) ∧
    (∃ (s : State) (w : Who) (k : Nat) (idx : Nat) (sub : Nat) (a : Nat) (y : Nat × Nat) (d : ObjDef), s.mode ≠ 0 ∧ s.sessRefusal w k = 0 ∧ k ≠ 255 ∧ opKey idx sub = a ∧ (s.sessOf k).staged.find? (fun z => z.1 == a) = some y ∧ objAt (keyIndex a) (keySub a) = some d) ∧
    (∃ (s : State) (u : State) (w : Who) (k : Nat), s.mode ≠ 0 ∧ (k = 255 ∨ s.sessRefusal w k = 0) ∧ u = (if k = 255 then s.noOut else s.noOut.renewSess k)) ∧
    (∃ (s : State) (u : State) (w : Who) (k : Nat), s.mode ≠ 0 ∧ (k = 255 ∨ s.sessRefusal w k = 0) ∧ u = (if k = 255 then s.noOut else s.noOut.renewSess k)) ∧
    (∃ (s : State) (w : Who) (k : Nat), s.mode ≠ 0 ∧ s.sessRefusal w k ≠ 0 ∧ k ≠ 255) ∧
    (∃ (s : State) (w : Who) (k : Nat) (idx : Nat) (sub : Nat) (v : Nat) (a : Nat) (x : Nat) (d : ObjDef), s.mode ≠ 0 ∧ s.sessRefusal w k = 0 ∧ s.g (K.SESS_STATE k) = 1 ∧ opKey idx sub = a ∧ s.writeTarget a = .ok d ∧ (d.ty = .u8 ∨ d.ty = .u32 ∨ d.ty = .u64 ∨ d.ty = .bool ∨ d.ty = .i64 ∨ d.ty = .dur64 ∨ d.ty = .u16 ∨ d.ty = .time92) ∧ d.acc = .rws ∧ objAt (keyIndex a) (keySub a) = some d ∧ writeNeed a .rws ≤ s.privOf w ∧ fitValue a d.ty v = .ok x ∧ (s.sessOf k).staged.length < 8192) ∧
    (∃ (s : State) (w : Who) (k : Nat) (idx : Nat) (sub : Nat) (row : Nat) (off : Nat) (cnt : Nat) (v : Nat) (a : Nat) (x : Nat) (d : ObjDef), s.mode ≠ 0 ∧ s.sessRefusal w k = 0 ∧ s.g (K.SESS_STATE k) = 1 ∧ opKey idx sub = a ∧ s.writeTarget a = .ok d ∧ d.ty = .tbl off cnt ∧ row < off ∧ d.acc = .rws ∧ writeNeed a .rws ≤ s.privOf w ∧ fitValue a d.ty v = .ok x ∧ (s.sessOf k).staged.length < 8192) ∧
    (∃ (s : State) (w : Who) (k : Nat) (m : WopMsg) (bs : List Byte), s.mode ≠ 0 ∧ 16 ≤ bs.length ∧ readMsg bs = some m ∧ bootEpochOf bs = w.bootEpoch ∧ k = m.session ∧ k < 8 ∧ s.g (K.SESS_OWNER k) = identityOf w ∧ (m.sessGen ≠ s.g (K.SESS_GEN k) ∨ m.txnGen ≠ (s.txnOf k (m.txn % 64)).gen ∧ m.txnGen ≠ ((s.txnOf k (m.txn % 64)).gen + 1) % 256)) ∧
    (∃ (s : State) (w : Who) (k : Nat) (m : WopMsg) (bs : List Byte), s.mode ≠ 0 ∧ 16 ≤ bs.length ∧ readMsg bs = some m ∧ bootEpochOf bs = w.bootEpoch ∧ k = m.session ∧ s.sessLive k = true ∧ s.g (K.SESS_OWNER k) = identityOf w ∧ m.sessGen = s.g (K.SESS_GEN k) ∧ m.txnGen = (s.txnOf k (m.txn % 64)).gen) ∧
    (∃ (s : State) (u : State) (b : State) (w : Who) (k : Nat) (m : WopMsg) (l : List OpResp) (bs : List Byte), s.mode ≠ 0 ∧ 16 ≤ bs.length ∧ readMsg bs = some m ∧ bootEpochOf bs = w.bootEpoch ∧ k = m.session ∧ s.sessLive k = true ∧ s.g (K.SESS_OWNER k) = identityOf w ∧ m.sessGen = s.g (K.SESS_GEN k) ∧ m.txnGen = ((s.txnOf k (m.txn % 64)).gen + 1) % 256 ∧ m.txnGen ≠ (s.txnOf k (m.txn % 64)).gen ∧ (s.txnOf k (m.txn % 64)).sent.any (fun z => decide (s.tick < z + s.retireFrames)) = false ∧ u = s.noOut.renewSess k ∧ runOps w k m.stopOnError m.ops false u = (l, b)) :=
  ⟨⟨lv [(K.SESS_STATE 7, 2), (K.SESS_OWNER 7, identityOf w0)], (let s := lv [(K.SESS_STATE 7, 2), (K.SESS_OWNER 7, identityOf w0)]; s.noOut.renewSess 7), w0, 7, by decide +kernel⟩,
    ⟨{ lv [(K.SESS_STATE 7, 2), (K.SESS_OWNER 7, identityOf w0)] with sess := [(7, { staged := [(K.SR_HOLD_MAX, 9)] })] }, w0, 7, 0x3800, 0x14, K.SR_HOLD_MAX, (K.SR_HOLD_MAX, 9), ⟨"SR_HOLD_MAX", 0x14, 0, 1, .u32, .rws, 604800⟩, by decide +kernel⟩,
    ⟨lv [], (let s := lv []; s.noOut), w0, 255, by decide +kernel⟩,
    ⟨lv [], (let s := lv []; s.noOut), w0, 255, by decide +kernel⟩,
    ⟨lv [(K.SESS_STATE 7, 3)], w0, 7, by decide +kernel⟩,
    ⟨lv [(K.SESS_STATE 7, 1), (K.SESS_OWNER 7, identityOf w0)], w0, 7, 0x3800, 0x14, 77, K.SR_HOLD_MAX, 77, ⟨"SR_HOLD_MAX", 0x14, 0, 1, .u32, .rws, 604800⟩, by decide +kernel⟩,
    ⟨lv [(K.SESS_STATE 7, 1), (K.SESS_OWNER 7, identityOf w0)], w0, 7, keyIndex K.WIN_TABLE, keySub K.WIN_TABLE, 4095, 4096, 16, 2 ^ 127 + 4095, K.WIN_TABLE, 2 ^ 127, (objAt (keyIndex K.WIN_TABLE) (keySub K.WIN_TABLE)).getD ⟨"", 0, 0, 0, .u8, .ro, 0⟩, by decide +kernel⟩,
    ⟨lv [(K.SESS_STATE 7, 1), (K.SESS_OWNER 7, identityOf w0)], w0, 7, { session := 7, sessGen := 0, txn := 63, txnGen := 2, stopOnError := false, ops := [.renew] }, [1, 1, 7, 0, 63, 2, 0, 0, 0, 24, 1, 0, 0, 0, 0, 5, 10, 0, 0, 0, 0, 0, 0, 0], by decide +kernel⟩,
    ⟨{ lv [(K.SESS_STATE 7, 1), (K.SESS_OWNER 7, identityOf w0)] with txns := [(7 * 64 + 63, { gen := 9, resp := { session := 7, txn := 63, txnGen := 9 } })] }, w0, 7, { session := 7, sessGen := 0, txn := 63, txnGen := 9, stopOnError := false, ops := [.close] }, [1, 1, 7, 0, 63, 9, 0, 0, 0, 24, 1, 0, 0, 0, 0, 5, 7, 0, 0, 0, 0, 0, 0, 0], by decide +kernel⟩,
    ⟨lv [(K.SESS_STATE 7, 1), (K.SESS_OWNER 7, identityOf w0)], (let s := lv [(K.SESS_STATE 7, 1), (K.SESS_OWNER 7, identityOf w0)]; s.noOut.renewSess 7), (let s := lv [(K.SESS_STATE 7, 1), (K.SESS_OWNER 7, identityOf w0)]; (s.noOut.renewSess 7).renewSess 7), w0, 7, { session := 7, sessGen := 0, txn := 63, txnGen := 1, stopOnError := true, ops := [.renew] }, [⟨0, 0, 0⟩], [1, 1, 7, 0, 63, 1, 2, 0, 0, 24, 1, 0, 0, 0, 0, 5, 10, 0, 0, 0, 0, 0, 0, 0], by decide +kernel⟩⟩

/-- The hypotheses of each clause of `Obligations.WopOperations` hold together somewhere: part 2 of 3. -/
theorem witness_WopOperations_2 :
    (∃ (s : State) (w : Who) (k : Nat) (m : WopMsg) (bs : List Byte), s.mode ≠ 0 ∧ 16 ≤ bs.length ∧ readMsg bs = some m ∧ bootEpochOf bs = w.bootEpoch ∧ k = m.session ∧ k < 8 ∧ s.g (K.SESS_OWNER k) ≠ identityOf w) ∧
    (∃ (s : State) (w : Who) (k : Nat) (m : WopMsg) (bs : List Byte), s.mode ≠ 0 ∧ 16 ≤ bs.length ∧ readMsg bs = some m ∧ bootEpochOf bs = w.bootEpoch ∧ k = m.session ∧ s.g (K.SESS_OWNER k) = identityOf w ∧ m.sessGen = s.g (K.SESS_GEN k) ∧ m.txnGen = ((s.txnOf k (m.txn % 64)).gen + 1) % 256 ∧ m.txnGen ≠ (s.txnOf k (m.txn % 64)).gen ∧ s.sessLive k = true ∧ (s.txnOf k (m.txn % 64)).sent.any (fun z => decide (s.tick < z + s.retireFrames)) = true) ∧
    (∃ (s : State) (w : Who) (k : Nat) (m : WopMsg) (bs : List Byte), s.mode ≠ 0 ∧ 16 ≤ bs.length ∧ readMsg bs = some m ∧ bootEpochOf bs = w.bootEpoch ∧ k = m.session ∧ s.g (K.SESS_OWNER k) = identityOf w ∧ m.sessGen = s.g (K.SESS_GEN k) ∧ m.txnGen = ((s.txnOf k (m.txn % 64)).gen + 1) % 256 ∧ m.txnGen ≠ (s.txnOf k (m.txn % 64)).gen ∧ k < 8 ∧ s.sessLive k = false) ∧
    (∃ (s : State) (w : Who) (m : WopMsg) (bs : List Byte), s.mode ≠ 0 ∧ 16 ≤ bs.length ∧ readMsg bs = some m ∧ bootEpochOf bs = w.bootEpoch ∧ 8 ≤ m.session ∧ m.session ≠ 255) ∧
    (∃ (s : State) (b : State) (w : Who) (m : WopMsg) (l : List OpResp) (bs : List Byte), s.mode ≠ 0 ∧ 16 ≤ bs.length ∧ readMsg bs = some m ∧ bootEpochOf bs = w.bootEpoch ∧ m.session = 255 ∧ m.ops.all opFree = true ∧ runOps w 255 m.stopOnError m.ops false s.noOut = (l, b)) ∧
    (∃ (s : State) (w : Who) (m : WopMsg) (bs : List Byte), s.mode ≠ 0 ∧ 16 ≤ bs.length ∧ readMsg bs = some m ∧ bootEpochOf bs = w.bootEpoch ∧ m.session = 255 ∧ m.ops.all opFree = false) ∧
    (∃ (s : State) (w : Who) (bs : List Byte), s.mode ≠ 0 ∧ 16 ≤ bs.length ∧ readMsg bs = none ∧ bootEpochOf bs = w.bootEpoch) ∧
    (∃ (s : State) (bs : List Byte), s.mode ≠ 0 ∧ bs.length < 16) ∧
    (∃ (s : State), s.mode ≠ 0) ∧
    (∃ (s : State) (u : State), s.mode ≠ 0 ∧ u = s.noOut) :=
  ⟨⟨lv [(K.SESS_STATE 7, 1), (K.SESS_OWNER 7, 3)], w0, 7, { session := 7, sessGen := 0, txn := 63, txnGen := 1, stopOnError := false, ops := [.renew] }, [1, 1, 7, 0, 63, 1, 0, 0, 0, 24, 1, 0, 0, 0, 0, 5, 10, 0, 0, 0, 0, 0, 0, 0], by decide +kernel⟩,
    ⟨{ lv [(K.SESS_STATE 7, 1), (K.SESS_OWNER 7, identityOf w0)] with txns := [(7 * 64 + 63, { gen := 0, sent := some 99999 })] }, w0, 7, { session := 7, sessGen := 0, txn := 63, txnGen := 1, stopOnError := false, ops := [.renew] }, [1, 1, 7, 0, 63, 1, 0, 0, 0, 24, 1, 0, 0, 0, 0, 5, 10, 0, 0, 0, 0, 0, 0, 0], by decide +kernel⟩,
    ⟨lv [(K.SESS_OWNER 7, identityOf w0)], w0, 7, { session := 7, sessGen := 0, txn := 63, txnGen := 1, stopOnError := false, ops := [.renew] }, [1, 1, 7, 0, 63, 1, 0, 0, 0, 24, 1, 0, 0, 0, 0, 5, 10, 0, 0, 0, 0, 0, 0, 0], by decide +kernel⟩,
    ⟨lv [], w0, { session := 9, sessGen := 0, txn := 63, txnGen := 1, stopOnError := false, ops := [.renew] }, [1, 1, 9, 0, 63, 1, 0, 0, 0, 24, 1, 0, 0, 0, 0, 5, 10, 0, 0, 0, 0, 0, 0, 0], by decide +kernel⟩,
    ⟨lv [], (let s := lv []; s.noOut), w0, { session := 255, sessGen := 0, txn := 63, txnGen := 1, stopOnError := false, ops := [.read 0x3800 0x14 false] }, (let s := lv []; (runOps w0 255 false [.read 0x3800 0x14 false] false s.noOut).1), [1, 1, 255, 0, 63, 1, 0, 0, 0, 24, 1, 0, 0, 0, 0, 5, 1, 0, 0x38, 0, 0x14, 0, 0, 0], by decide +kernel⟩,
    ⟨lv [], w0, { session := 255, sessGen := 0, txn := 63, txnGen := 1, stopOnError := false, ops := [.renew] }, [1, 1, 255, 0, 63, 1, 0, 0, 0, 24, 1, 0, 0, 0, 0, 5, 10, 0, 0, 0, 0, 0, 0, 0], by decide +kernel⟩,
    ⟨lv [], w0, [1, 1, 7, 0, 63, 1, 0, 0, 0, 24, 1, 0, 0, 0, 0, 5], by decide +kernel⟩,
    ⟨lv [], [1, 1, 7], by decide +kernel⟩,
    ⟨lv [], by decide +kernel⟩,
    ⟨{ lv [] with smb := some (0x3800 * 256 + 0x14) }, (let s := { lv [] with smb := some (0x3800 * 256 + 0x14) }; s.noOut), by decide +kernel⟩⟩

/-- The hypotheses of each clause of `Obligations.WopOperations` hold together somewhere: part 3 of 3. -/
theorem witness_WopOperations_3 :
    (∃ (s : State), s.mode ≠ 0 ∧ s.smb = none) ∧
    (∃ (s : State), s.mode ≠ 0) :=
  ⟨⟨lv [], by decide +kernel⟩,
    ⟨{ lv [] with smb := some (0x3800 * 256 + 0x14) }, by decide +kernel⟩⟩

/-- The hypotheses of each clause of `Obligations.Handshakes` hold together somewhere. -/
theorem witness_Handshakes :
    (∃ (s : State) (tr : Nat) (body : List Byte), s.mode ≠ 0 ∧ (tr = 2 ∨ tr = 3) ∧ 64 < body.length) ∧
    (∃ (s : State) (tr : Nat) (body : List Byte), s.mode ≠ 0 ∧ (tr = 2 ∨ tr = 3) ∧ body.length ≤ 64) ∧
    (∃ (s : State) (tr : Nat) (peer : Nat), s.mode ≠ 0 ∧ (tr = 2 ∨ tr = 3) ∧ s.shakes.find? (fun z => z.transport == tr && z.peer == peer) = none) ∧
    (∃ (s : State) (tr : Nat) (peer : Nat) (h : Shake), s.mode ≠ 0 ∧ (tr = 2 ∨ tr = 3) ∧ s.shakes.find? (fun z => z.transport == tr && z.peer == peer) = some h) ∧
    (∃ (s : State) (ch : Nat) (c : Chan), s.mode ≠ 0 ∧ Sp.find s.chans ch = some c ∧ c.lastMsg + s.g K.WOP_IDLE * framesPerSecond ≤ s.tick) ∧
    (∃ (s : State) (ch : Nat) (c : Chan), s.mode ≠ 0 ∧ Sp.find s.chans ch = some c ∧ s.tick < c.lastMsg + s.g K.WOP_IDLE * framesPerSecond) :=
  ⟨⟨{ lv [] with shakes := [{ transport := 3, peer := 9, hello := [], reply := [] }] }, 3, List.replicate 65 1, by decide +kernel⟩,
    ⟨lv [], 2, List.replicate 64 1, by decide +kernel⟩,
    ⟨lv [], 2, 9, by decide +kernel⟩,
    ⟨{ lv [] with shakes := [{ transport := 3, peer := 9, hello := List.replicate 65 1, reply := [] }] }, 3, 9, { transport := 3, peer := 9, hello := List.replicate 65 1, reply := [] }, by decide +kernel⟩,
    ⟨{ lv [(K.WOP_IDLE, 0)] with chans := [(15, { lastMsg := 100000 })] }, 15, { lastMsg := 100000 }, by decide +kernel⟩,
    ⟨{ lv [(K.WOP_IDLE, 0)] with chans := [(15, { lastMsg := 100001 })] }, 15, { lastMsg := 100001 }, by decide +kernel⟩⟩

/-- The hypotheses of each clause of `Obligations.QueuePairs` hold together somewhere: part 1 of 3. -/
theorem witness_QueuePairs :
    (∃ (s : State) (w : Who) (q : Nat) (v : Nat), q < 4 ∧ s.admits w 1 ∧ v < 2 ^ 32) ∧
    (∃ (s : State) (w : Who) (q : Nat) (v : Nat), q < 4 ∧ s.admits w 1 ∧ v < 2 ^ 32) ∧
    (∃ (s : State) (q : Nat), q < 4 ∧ s.mode ≠ 0 ∧ s.g (K.QP_STATE q) = 1 ∧ s.gb (K.QP_ENABLE q) = true) ∧
    (∃ (s : State) (q : Nat), q < 4 ∧ s.mode ≠ 0 ∧ s.g (K.QP_STATE q) ≠ 1) ∧
    (∃ (s : State) (u : State) (b : State) (w : Who) (q : Nat) (tag : Nat) (pl : Nat) (rp : Nat) (len : Nat) (cap : Nat) (n : Nat) (ep : Nat) (a : Nat) (y : Nat) (ds : List Nat) (req : List Byte) (bs : List Byte) (r : WopResp), q < 4 ∧ s.mode ≠ 0 ∧ s.mayFetch q = true ∧ s.hostAddr (s.g (K.QP_SQ_BASE q)) (64 * s.g (K.QP_SQ_HEAD q)) 64 = some a ∧ readDesc ds = .wop tag pl len rp cap ∧ 16 ≤ len ∧ len ≤ 1024 ∧ s.hostAddr pl 0 len = some y ∧ bootEpochOf (req.take len) = ep ∧ w = { transport := 1, originGen := 0, originAddr := 0, principal := q, bootEpoch := ep } ∧ u = s.noOut.p (K.QP_SQ_HEAD q) (nextIx (s.g (K.QP_SQ_HEAD q)) (s.ringSize q 2)) ∧ u.request w (req.take len) = (some (r, bs), b) ∧ bs.length ≤ cap ∧ b.hostAddr rp 0 bs.length = some n) ∧
    (∃ (s : State) (u : State) (b : State) (w : Who) (q : Nat) (tag : Nat) (pl : Nat) (rp : Nat) (len : Nat) (cap : Nat) (ep : Nat) (a : Nat) (y : Nat) (ds : List Nat) (req : List Byte) (bs : List Byte) (r : WopResp), q < 4 ∧ s.mode ≠ 0 ∧ s.mayFetch q = true ∧ s.hostAddr (s.g (K.QP_SQ_BASE q)) (64 * s.g (K.QP_SQ_HEAD q)) 64 = some a ∧ readDesc ds = .wop tag pl len rp cap ∧ 16 ≤ len ∧ len ≤ 1024 ∧ s.hostAddr pl 0 len = some y ∧ bootEpochOf (req.take len) = ep ∧ w = { transport := 1, originGen := 0, originAddr := 0, principal := q, bootEpoch := ep } ∧ u = s.noOut.p (K.QP_SQ_HEAD q) (nextIx (s.g (K.QP_SQ_HEAD q)) (s.ringSize q 2)) ∧ u.request w (req.take len) = (some (r, bs), b) ∧ cap < bs.length) ∧
    (∃ (s : State) (u : State) (b : State) (w : Who) (q : Nat) (tag : Nat) (pl : Nat) (rp : Nat) (len : Nat) (cap : Nat) (ep : Nat) (a : Nat) (y : Nat) (ds : List Nat) (req : List Byte) (bs : List Byte) (r : WopResp), q < 4 ∧ s.mode ≠ 0 ∧ s.mayFetch q = true ∧ s.hostAddr (s.g (K.QP_SQ_BASE q)) (64 * s.g (K.QP_SQ_HEAD q)) 64 = some a ∧ readDesc ds = .wop tag pl len rp cap ∧ 16 ≤ len ∧ len ≤ 1024 ∧ s.hostAddr pl 0 len = some y ∧ bootEpochOf (req.take len) = ep ∧ w = { transport := 1, originGen := 0, originAddr := 0, principal := q, bootEpoch := ep } ∧ u = s.noOut.p (K.QP_SQ_HEAD q) (nextIx (s.g (K.QP_SQ_HEAD q)) (s.ringSize q 2)) ∧ u.request w (req.take len) = (some (r, bs), b) ∧ bs.length ≤ cap ∧ b.hostAddr rp 0 bs.length = none) ∧
    (∃ (s : State) (u : State) (b : State) (w : Who) (q : Nat) (tag : Nat) (pl : Nat) (rp : Nat) (len : Nat) (cap : Nat) (ep : Nat) (a : Nat) (y : Nat) (ds : List Nat) (req : List Byte), q < 4 ∧ s.mode ≠ 0 ∧ s.mayFetch q = true ∧ s.hostAddr (s.g (K.QP_SQ_BASE q)) (64 * s.g (K.QP_SQ_HEAD q)) 64 = some a ∧ readDesc ds = .wop tag pl len rp cap ∧ 16 ≤ len ∧ len ≤ 1024 ∧ s.hostAddr pl 0 len = some y ∧ bootEpochOf (req.take len) = ep ∧ w = { transport := 1, originGen := 0, originAddr := 0, principal := q, bootEpoch := ep } ∧ u = s.noOut.p (K.QP_SQ_HEAD q) (nextIx (s.g (K.QP_SQ_HEAD q)) (s.ringSize q 2)) ∧ u.request w (req.take len) = (none, b)) ∧
    (∃ (s : State) (q : Nat) (tag : Nat) (pl : Nat) (rp : Nat) (len : Nat) (cap : Nat) (a : Nat) (ds : List Nat), q < 4 ∧ s.mode ≠ 0 ∧ s.mayFetch q = true ∧ s.hostAddr (s.g (K.QP_SQ_BASE q)) (64 * s.g (K.QP_SQ_HEAD q)) 64 = some a ∧ readDesc ds = .wop tag pl len rp cap ∧ (len < 16 ∨ 1024 < len)) ∧
    (∃ (s : State) (q : Nat) (tag : Nat) (pl : Nat) (rp : Nat) (len : Nat) (cap : Nat) (a : Nat) (ds : List Nat), q < 4 ∧ s.mode ≠ 0 ∧ s.mayFetch q = true ∧ s.hostAddr (s.g (K.QP_SQ_BASE q)) (64 * s.g (K.QP_SQ_HEAD q)) 64 = some a ∧ readDesc ds = .wop tag pl len rp cap ∧ 16 ≤ len ∧ len ≤ 1024 ∧ s.hostAddr pl 0 len = none) :=
  ⟨⟨lv [(K.QP_SIZES 3, 4 * 65536)], w0, 3, 17, by unfold State.admits; decide +kernel⟩,
    ⟨lv [(K.QP_SIZES 3, 4 * 256)], w0, 3, 17, by unfold State.admits; decide +kernel⟩,
    ⟨{ lv [(K.QP_STATE 3, 1), (K.QP_ENABLE 3, 1)] with qp := [(3, { done := [{ tag := 5, kind := 1, result := 0, detail := 0, value := 0 }] })] }, 3, by decide +kernel⟩,
    ⟨lv [(K.QP_STATE 3, 2)], 3, by decide +kernel⟩,
    ⟨lv [(K.QP_STATE 3, 1), (K.QP_ENABLE 3, 1), (K.QP_SIZES 3, 4 * 65536 + 4 * 256), (K.QP_SQ_TAIL 3, 1), (K.QP_SQ_BASE 3, 5 * 2 ^ 52), (atRow K.WIN_TABLE 5, 2 ^ 64 + 2 ^ 104)], (let s := lv [(K.QP_STATE 3, 1), (K.QP_ENABLE 3, 1), (K.QP_SIZES 3, 4 * 65536 + 4 * 256), (K.QP_SQ_TAIL 3, 1), (K.QP_SQ_BASE 3, 5 * 2 ^ 52), (atRow K.WIN_TABLE 5, 2 ^ 64 + 2 ^ 104)]; s.noOut.p (K.QP_SQ_HEAD 3) 1), (let s := lv [(K.QP_STATE 3, 1), (K.QP_ENABLE 3, 1), (K.QP_SIZES 3, 4 * 65536 + 4 * 256), (K.QP_SQ_TAIL 3, 1), (K.QP_SQ_BASE 3, 5 * 2 ^ 52), (atRow K.WIN_TABLE 5, 2 ^ 64 + 2 ^ 104)]; s.noOut.p (K.QP_SQ_HEAD 3) 1), { transport := 1, originGen := 0, originAddr := 0, principal := 3, bootEpoch := 5 }, 3, 8, 5 * 2 ^ 52, 5 * 2 ^ 52 + 64, 16, 40, 64, 5, 0, 0, [2 ^ 56 + 8, 5 * 2 ^ 52, 16, 0, 5 * 2 ^ 52 + 64, 40, 0, 0], [1, 1, 9, 0, 0, 0, 0, 0, 0, 16, 0, 0, 0, 0, 0, 5], [1, 2, 9, 0, 0, 0, 0, 24, 0, 16, 0, 0, 0, 0, 0, 5], { session := 9, result := 24 }, by decide +kernel⟩,
    ⟨lv [(K.QP_STATE 3, 1), (K.QP_ENABLE 3, 1), (K.QP_SIZES 3, 4 * 65536 + 4 * 256), (K.QP_SQ_TAIL 3, 1), (K.QP_SQ_BASE 3, 5 * 2 ^ 52), (atRow K.WIN_TABLE 5, 2 ^ 64 + 2 ^ 104)], (let s := lv [(K.QP_STATE 3, 1), (K.QP_ENABLE 3, 1), (K.QP_SIZES 3, 4 * 65536 + 4 * 256), (K.QP_SQ_TAIL 3, 1), (K.QP_SQ_BASE 3, 5 * 2 ^ 52), (atRow K.WIN_TABLE 5, 2 ^ 64 + 2 ^ 104)]; s.noOut.p (K.QP_SQ_HEAD 3) 1), (let s := lv [(K.QP_STATE 3, 1), (K.QP_ENABLE 3, 1), (K.QP_SIZES 3, 4 * 65536 + 4 * 256), (K.QP_SQ_TAIL 3, 1), (K.QP_SQ_BASE 3, 5 * 2 ^ 52), (atRow K.WIN_TABLE 5, 2 ^ 64 + 2 ^ 104)]; s.noOut.p (K.QP_SQ_HEAD 3) 1), { transport := 1, originGen := 0, originAddr := 0, principal := 3, bootEpoch := 5 }, 3, 8, 5 * 2 ^ 52, 5 * 2 ^ 52 + 64, 16, 15, 5, 0, 0, [2 ^ 56 + 8, 5 * 2 ^ 52, 16, 0, 5 * 2 ^ 52 + 64, 15, 0, 0], [1, 1, 9, 0, 0, 0, 0, 0, 0, 16, 0, 0, 0, 0, 0, 5], [1, 2, 9, 0, 0, 0, 0, 24, 0, 16, 0, 0, 0, 0, 0, 5], { session := 9, result := 24 }, by decide +kernel⟩,
    ⟨lv [(K.QP_STATE 3, 1), (K.QP_ENABLE 3, 1), (K.QP_SIZES 3, 4 * 65536 + 4 * 256), (K.QP_SQ_TAIL 3, 1), (K.QP_SQ_BASE 3, 5 * 2 ^ 52), (atRow K.WIN_TABLE 5, 2 ^ 64 + 2 ^ 104)], (let s := lv [(K.QP_STATE 3, 1), (K.QP_ENABLE 3, 1), (K.QP_SIZES 3, 4 * 65536 + 4 * 256), (K.QP_SQ_TAIL 3, 1), (K.QP_SQ_BASE 3, 5 * 2 ^ 52), (atRow K.WIN_TABLE 5, 2 ^ 64 + 2 ^ 104)]; s.noOut.p (K.QP_SQ_HEAD 3) 1), (let s := lv [(K.QP_STATE 3, 1), (K.QP_ENABLE 3, 1), (K.QP_SIZES 3, 4 * 65536 + 4 * 256), (K.QP_SQ_TAIL 3, 1), (K.QP_SQ_BASE 3, 5 * 2 ^ 52), (atRow K.WIN_TABLE 5, 2 ^ 64 + 2 ^ 104)]; s.noOut.p (K.QP_SQ_HEAD 3) 1), { transport := 1, originGen := 0, originAddr := 0, principal := 3, bootEpoch := 5 }, 3, 8, 5 * 2 ^ 52, 6 * 2 ^ 52, 16, 40, 5, 0, 0, [2 ^ 56 + 8, 5 * 2 ^ 52, 16, 0, 6 * 2 ^ 52, 40, 0, 0], [1, 1, 9, 0, 0, 0, 0, 0, 0, 16, 0, 0, 0, 0, 0, 5], [1, 2, 9, 0, 0, 0, 0, 24, 0, 16, 0, 0, 0, 0, 0, 5], { session := 9, result := 24 }, by decide +kernel⟩,
    ⟨lv [(K.SESS_STATE 7, 1), (K.SESS_OWNER 7, identityOf { transport := 1, originGen := 0, originAddr := 0, principal := 3, bootEpoch := 5 }), (K.SESS_GEN 7, 4), (K.QP_STATE 3, 1), (K.QP_ENABLE 3, 1), (K.QP_SIZES 3, 4 * 65536 + 4 * 256), (K.QP_SQ_TAIL 3, 1), (K.QP_SQ_BASE 3, 5 * 2 ^ 52), (atRow K.WIN_TABLE 5, 2 ^ 64 + 2 ^ 104)], (let s := lv [(K.SESS_STATE 7, 1), (K.SESS_OWNER 7, identityOf { transport := 1, originGen := 0, originAddr := 0, principal := 3, bootEpoch := 5 }), (K.SESS_GEN 7, 4), (K.QP_STATE 3, 1), (K.QP_ENABLE 3, 1), (K.QP_SIZES 3, 4 * 65536 + 4 * 256), (K.QP_SQ_TAIL 3, 1), (K.QP_SQ_BASE 3, 5 * 2 ^ 52), (atRow K.WIN_TABLE 5, 2 ^ 64 + 2 ^ 104)]; s.noOut.p (K.QP_SQ_HEAD 3) 1), (let s := lv [(K.SESS_STATE 7, 1), (K.SESS_OWNER 7, identityOf { transport := 1, originGen := 0, originAddr := 0, principal := 3, bootEpoch := 5 }), (K.SESS_GEN 7, 4), (K.QP_STATE 3, 1), (K.QP_ENABLE 3, 1), (K.QP_SIZES 3, 4 * 65536 + 4 * 256), (K.QP_SQ_TAIL 3, 1), (K.QP_SQ_BASE 3, 5 * 2 ^ 52), (atRow K.WIN_TABLE 5, 2 ^ 64 + 2 ^ 104)]; (s.noOut.p (K.QP_SQ_HEAD 3) 1).inc (K.SESS_STALE 7)), { transport := 1, originGen := 0, originAddr := 0, principal := 3, bootEpoch := 5 }, 3, 8, 5 * 2 ^ 52, 5 * 2 ^ 52 + 64, 16, 40, 5, 0, 0, [2 ^ 56 + 8, 5 * 2 ^ 52, 16, 0, 5 * 2 ^ 52 + 64, 40, 0, 0], [1, 1, 7, 0, 0, 0, 0, 0, 0, 16, 0, 0, 0, 0, 0, 5], by decide +kernel⟩,
    ⟨lv [(K.QP_STATE 3, 1), (K.QP_ENABLE 3, 1), (K.QP_SIZES 3, 4 * 65536 + 4 * 256), (K.QP_SQ_HEAD 3, 15), (K.QP_SQ_BASE 3, 5 * 2 ^ 52), (atRow K.WIN_TABLE 5, 2 ^ 64 + 2 ^ 104)], 3, 8, 5 * 2 ^ 52, 5 * 2 ^ 52 + 64, 15, 40, 960, [2 ^ 56 + 8, 5 * 2 ^ 52, 15, 0, 5 * 2 ^ 52 + 64, 40, 0, 0], by decide +kernel⟩,
    ⟨lv [(K.QP_STATE 3, 1), (K.QP_ENABLE 3, 1), (K.QP_SIZES 3, 4 * 65536 + 4 * 256), (K.QP_SQ_TAIL 3, 1), (K.QP_SQ_BASE 3, 5 * 2 ^ 52), (atRow K.WIN_TABLE 5, 2 ^ 64 + 2 ^ 104)], 3, 8, 6 * 2 ^ 52, 5 * 2 ^ 52 + 64, 16, 40, 0, [2 ^ 56 + 8, 6 * 2 ^ 52, 16, 0, 5 * 2 ^ 52 + 64, 40, 0, 0], by decide +kernel⟩⟩

/-- The hypotheses of each clause of `Obligations.QueuePairs` hold together somewhere: part 2 of 3. -/
theorem witness_QueuePairs_2 :
    (∃ (s : State) (q : Nat) (tag : Nat) (n : Nat) (a : Nat) (ds : List Nat), q < 4 ∧ s.mode ≠ 0 ∧ s.mayFetch q = true ∧ s.hostAddr (s.g (K.QP_SQ_BASE q)) (64 * s.g (K.QP_SQ_HEAD q)) 64 = some a ∧ readDesc ds = .other tag n) ∧
    (∃ (s : State) (q : Nat), q < 4 ∧ s.mode ≠ 0 ∧ s.mayFetch q = false) ∧
    (∃ (s : State) (q : Nat) (tag : Nat) (pl : Nat) (rp : Nat) (len : Nat) (cap : Nat) (ds : List Nat), q < 4 ∧ s.mode ≠ 0 ∧ s.mayFetch q = true ∧ s.hostAddr (s.g (K.QP_SQ_BASE q)) (64 * s.g (K.QP_SQ_HEAD q)) 64 = none ∧ readDesc ds = .wop tag pl len rp cap) ∧
    (∃ (s : State) (q : Nat) (tag : Nat) (wi : Nat) (off : Nat) (e : Nat) (g : Nat) (i : Nat) (ds : List Nat), q < 4 ∧ s.mode ≠ 0 ∧ s.mayFetch q = true ∧ s.hostAddr (s.g (K.QP_SQ_BASE q)) (64 * s.g (K.QP_SQ_HEAD q)) 64 = none ∧ readDesc ds = .load tag wi off e g i) ∧
    (∃ (s : State) (q : Nat), q < 4 ∧ s.mode ≠ 0 ∧ s.mayFetch q = false) ∧
    (∃ (s : State) (q : Nat) (tag : Nat) (wi : Nat) (off : Nat) (e : Nat) (g : Nat) (i : Nat) (a : Nat) (ds : List Nat), q < 4 ∧ s.mode ≠ 0 ∧ s.mayFetch q = true ∧ s.hostAddr (s.g (K.QP_SQ_BASE q)) (64 * s.g (K.QP_SQ_HEAD q)) 64 = some a ∧ readDesc ds = .load tag wi off e g i ∧ Seg.live (s.seg e) = false) ∧
    (∃ (s : State) (q : Nat) (tag : Nat) (wi : Nat) (off : Nat) (e : Nat) (g : Nat) (i : Nat) (a : Nat) (ds : List Nat), q < 4 ∧ s.mode ≠ 0 ∧ s.mayFetch q = true ∧ s.hostAddr (s.g (K.QP_SQ_BASE q)) (64 * s.g (K.QP_SQ_HEAD q)) 64 = some a ∧ readDesc ds = .load tag wi off e g i ∧ Seg.live (s.seg e) = true ∧ s.streamed e = false ∧ i < Seg.pages (s.seg e) ∧ g ≠ Seg.gen (s.seg e)) ∧
    (∃ (s : State) (q : Nat) (tag : Nat) (wi : Nat) (off : Nat) (e : Nat) (g : Nat) (i : Nat) (a : Nat) (ds : List Nat), q < 4 ∧ s.mode ≠ 0 ∧ s.mayFetch q = true ∧ s.hostAddr (s.g (K.QP_SQ_BASE q)) (64 * s.g (K.QP_SQ_HEAD q)) 64 = some a ∧ readDesc ds = .load tag wi off e g i ∧ Seg.live (s.seg e) = true ∧ s.streamed e = false ∧ i < Seg.pages (s.seg e) ∧ g = Seg.gen (s.seg e) ∧ s.ppnOf e i = none) ∧
    (∃ (s : State) (q : Nat) (v : Nat) (tag : Nat) (wi : Nat) (off : Nat) (e : Nat) (g : Nat) (i : Nat) (p : Nat) (a : Nat) (y : Nat) (ds : List Nat), q < 4 ∧ s.mode ≠ 0 ∧ s.mayFetch q = true ∧ s.hostAddr (s.g (K.QP_SQ_BASE q)) (64 * s.g (K.QP_SQ_HEAD q)) 64 = some a ∧ readDesc ds = .load tag wi off e g i ∧ Seg.live (s.seg e) = true ∧ s.streamed e = false ∧ i < Seg.pages (s.seg e) ∧ g = Seg.gen (s.seg e) ∧ s.ppnOf e i = some p ∧ (s.active e = false ∨ Pg.state (s.page p) = Pg.empty) ∧ (∀ x ∈ (s.unit (p / 64) 8).ops, x.ppn ≠ p) ∧ (∀ x ∈ (s.unit (p / 64) 9).ops, x.peer ≠ some p) ∧ s.translate wi off = some y ∧ s.xferOf p = none ∧ (s.unit (p / 64) 8).active = none ∧ s.freeTag = some v) ∧
    (∃ (s : State) (q : Nat) (tag : Nat) (wi : Nat) (off : Nat) (e : Nat) (g : Nat) (i : Nat) (p : Nat) (a : Nat) (y : Nat) (ds : List Nat) (o : XOp), q < 4 ∧ s.mode ≠ 0 ∧ s.mayFetch q = true ∧ s.hostAddr (s.g (K.QP_SQ_BASE q)) (64 * s.g (K.QP_SQ_HEAD q)) 64 = some a ∧ readDesc ds = .load tag wi off e g i ∧ Seg.live (s.seg e) = true ∧ s.streamed e = false ∧ i < Seg.pages (s.seg e) ∧ g = Seg.gen (s.seg e) ∧ s.ppnOf e i = some p ∧ (s.active e = false ∨ Pg.state (s.page p) = Pg.empty) ∧ (∀ x ∈ (s.unit (p / 64) 8).ops, x.ppn ≠ p) ∧ (∀ x ∈ (s.unit (p / 64) 9).ops, x.peer ≠ some p) ∧ s.translate wi off = some y ∧ s.xferOf p = none ∧ (s.unit (p / 64) 8).active = some o ∧ (o.code = 1 ∨ o.code = 2)) :=
  ⟨⟨lv [(K.QP_STATE 3, 1), (K.QP_ENABLE 3, 1), (K.QP_SIZES 3, 4 * 65536 + 4 * 256), (K.QP_SQ_TAIL 3, 1), (K.QP_SQ_BASE 3, 5 * 2 ^ 52), (atRow K.WIN_TABLE 5, 2 ^ 64 + 2 ^ 104)], 3, 8, 7, 0, [7 * 2 ^ 56 + 8], by decide +kernel⟩,
    ⟨lv [(K.QP_STATE 3, 2)], 3, by decide +kernel⟩,
    ⟨lv [(K.QP_STATE 3, 1), (K.QP_ENABLE 3, 1), (K.QP_SIZES 3, 4 * 65536 + 4 * 256), (K.QP_SQ_TAIL 3, 1), (K.QP_SQ_BASE 3, 5 * 2 ^ 52)], 3, 8, 5 * 2 ^ 52, 5 * 2 ^ 52 + 64, 16, 40, [2 ^ 56 + 8, 5 * 2 ^ 52, 16, 0, 5 * 2 ^ 52 + 64, 40, 0, 0], by decide +kernel⟩,
    ⟨lv [(K.QP_STATE 3, 1), (K.QP_ENABLE 3, 1), (K.QP_SIZES 3, 4 * 65536 + 4 * 256), (K.QP_SQ_TAIL 3, 1), (K.QP_SQ_BASE 3, 5 * 2 ^ 52)], 3, 8, 5, 64, 16383, 9, 0, [2 * 2 ^ 56 + 8, 5 * 2 ^ 52 + 64, 16383 * 2 ^ 50 + 9 * 2 ^ 42, 0], by decide +kernel⟩,
    ⟨lv [(K.QP_STATE 3, 2)], 3, by decide +kernel⟩,
    ⟨lv [(K.QP_STATE 3, 1), (K.QP_ENABLE 3, 1), (K.QP_SIZES 3, 4 * 65536 + 4 * 256), (K.QP_SQ_TAIL 3, 1), (K.QP_SQ_BASE 3, 5 * 2 ^ 52), (atRow K.WIN_TABLE 5, 2 ^ 64 + 2 ^ 104)], 3, 8, 5, 64, 16383, 9, 0, 0, [2 * 2 ^ 56 + 8, 5 * 2 ^ 52 + 64, 16383 * 2 ^ 50 + 9 * 2 ^ 42, 0], by decide +kernel⟩,
    ⟨lv [(K.QP_STATE 3, 1), (K.QP_ENABLE 3, 1), (K.QP_SIZES 3, 4 * 65536 + 4 * 256), (K.QP_SQ_TAIL 3, 1), (K.QP_SQ_BASE 3, 5 * 2 ^ 52), (atRow K.WIN_TABLE 5, 2 ^ 64 + 2 ^ 104), (atRow K.SEG_TABLE 16383, 1 + 4 * 2 ^ 16 + 8 * 2 ^ 40)], 3, 8, 5, 64, 16383, 9, 0, 0, [2 * 2 ^ 56 + 8, 5 * 2 ^ 52 + 64, 16383 * 2 ^ 50 + 9 * 2 ^ 42, 0], by decide +kernel⟩,
    ⟨lv [(K.QP_STATE 3, 1), (K.QP_ENABLE 3, 1), (K.QP_SIZES 3, 4 * 65536 + 4 * 256), (K.QP_SQ_TAIL 3, 1), (K.QP_SQ_BASE 3, 5 * 2 ^ 52), (atRow K.WIN_TABLE 5, 2 ^ 64 + 2 ^ 104), (atRow K.SEG_TABLE 16383, 1 + 4 * 2 ^ 16 + 9 * 2 ^ 40)], 3, 8, 5, 64, 16383, 9, 0, 0, [2 * 2 ^ 56 + 8, 5 * 2 ^ 52 + 64, 16383 * 2 ^ 50 + 9 * 2 ^ 42, 0], by decide +kernel⟩,
    ⟨lv [(K.QP_STATE 3, 1), (K.QP_ENABLE 3, 1), (K.QP_SIZES 3, 4 * 65536 + 4 * 256), (K.QP_SQ_TAIL 3, 1), (K.QP_SQ_BASE 3, 5 * 2 ^ 52), (atRow K.WIN_TABLE 5, 2 ^ 64 + 16 * 2 ^ 104), (atRow K.SEG_TABLE 16383, 1 + 4 * 2 ^ 16 + 9 * 2 ^ 40), (atRow K.PAGE_MAP 1023, 2 ^ 61 + 16383 * 2 ^ 47 + 9 * 2 ^ 39)], 3, 0, 8, 5, 64, 16383, 9, 0, 1023, 0, 64, [2 * 2 ^ 56 + 8, 5 * 2 ^ 52 + 64, 16383 * 2 ^ 50 + 9 * 2 ^ 42, 0], by decide +kernel⟩,
    ⟨{ lv [(K.QP_STATE 3, 1), (K.QP_ENABLE 3, 1), (K.QP_SIZES 3, 4 * 65536 + 4 * 256), (K.QP_SQ_TAIL 3, 1), (K.QP_SQ_BASE 3, 5 * 2 ^ 52), (atRow K.WIN_TABLE 5, 2 ^ 64 + 16 * 2 ^ 104), (atRow K.SEG_TABLE 16383, 1 + 4 * 2 ^ 16 + 9 * 2 ^ 40), (atRow K.PAGE_MAP 1023, 2 ^ 61 + 16383 * 2 ^ 47 + 9 * 2 ^ 39)] with xunits := [(60, { active := some { code := 1, ppn := 1000 } })] }, 3, 8, 5, 64, 16383, 9, 0, 1023, 0, 64, [2 * 2 ^ 56 + 8, 5 * 2 ^ 52 + 64, 16383 * 2 ^ 50 + 9 * 2 ^ 42, 0], { code := 1, ppn := 1000 }, by decide +kernel⟩⟩

/-- The hypotheses of each clause of `Obligations.QueuePairs` hold together somewhere: part 3 of 3. -/
theorem witness_QueuePairs_3 :
    (∃ (s : State) (q : Nat) (tag : Nat) (wi : Nat) (off : Nat) (e : Nat) (g : Nat) (i : Nat) (p : Nat) (a : Nat) (ds : List Nat), q < 4 ∧ s.mode ≠ 0 ∧ s.mayFetch q = true ∧ s.hostAddr (s.g (K.QP_SQ_BASE q)) (64 * s.g (K.QP_SQ_HEAD q)) 64 = some a ∧ readDesc ds = .load tag wi off e g i ∧ Seg.live (s.seg e) = true ∧ s.streamed e = false ∧ i < Seg.pages (s.seg e) ∧ g = Seg.gen (s.seg e) ∧ s.ppnOf e i = some p ∧ (s.active e = false ∨ Pg.state (s.page p) = Pg.empty) ∧ (∀ x ∈ (s.unit (p / 64) 8).ops, x.ppn ≠ p) ∧ (∀ x ∈ (s.unit (p / 64) 9).ops, x.peer ≠ some p) ∧ s.translate wi off = none ∧ p < 1024 ∧ Pg.ring (s.page p) = false ∧ Seg.base (s.seg (Pg.entry (s.page p))) ≠ 2) ∧
    (∃ (s : State) (q : Nat) (a : Nat) (d : QpDone) (l : List QpDone), q < 4 ∧ s.mode ≠ 0 ∧ (s.qpOf q).done = d :: l ∧ s.g (K.QP_STATE q) = 1 ∧ s.gb (K.QP_ENABLE q) = true ∧ s.cqFull q = false ∧ s.hostAddr (s.g (K.QP_CQ_BASE q)) (16 * s.g (K.QP_CQ_TAIL q)) 16 = some a) ∧
    (∃ (s : State) (q : Nat), q < 4 ∧ s.mode ≠ 0 ∧ (s.qpOf q).done = []) :=
  ⟨⟨lv [(K.QP_STATE 3, 1), (K.QP_ENABLE 3, 1), (K.QP_SIZES 3, 4 * 65536 + 4 * 256), (K.QP_SQ_TAIL 3, 1), (K.QP_SQ_BASE 3, 5 * 2 ^ 52), (atRow K.WIN_TABLE 5, 2 ^ 64 + 2 ^ 104), (atRow K.SEG_TABLE 16383, 1 + 4 * 2 ^ 16 + 9 * 2 ^ 40), (atRow K.PAGE_MAP 1023, 2 ^ 61 + 16383 * 2 ^ 47 + 9 * 2 ^ 39)], 3, 8, 5, 64, 16383, 9, 0, 1023, 0, [2 * 2 ^ 56 + 8, 5 * 2 ^ 52 + 64, 16383 * 2 ^ 50 + 9 * 2 ^ 42, 0], by decide +kernel⟩,
    ⟨{ lv [(K.QP_STATE 3, 1), (K.QP_ENABLE 3, 1), (K.QP_SIZES 3, 4 * 65536 + 4 * 256), (K.QP_CQ_TAIL 3, 15), (K.QP_CQ_HEAD 3, 7), (K.QP_CQ_BASE 3, 5 * 2 ^ 52), (atRow K.WIN_TABLE 5, 2 ^ 64 + 2 ^ 104)] with qp := [(3, { done := [{ tag := 5, kind := 1, result := 0, detail := 0, value := 8 }] })] }, 3, 240, { tag := 5, kind := 1, result := 0, detail := 0, value := 8 }, [], by decide +kernel⟩,
    ⟨lv [], 3, by decide +kernel⟩⟩

/-- The hypotheses of each clause of `Obligations.Interfaces` hold together somewhere: part 1 of 3. -/
theorem witness_Interfaces :
    (∃ (s : State), s.mode ≠ 0) ∧
    (∃ (s : State), s.mode ≠ 0 ∧ s.host.pcieUp = true) ∧
    (∃ (s : State), s.mode ≠ 0 ∧ s.host.pcieUp = false) ∧
    (∃ (s : State), s.mode ≠ 0) ∧
    (∃ (s : State), s.mode ≠ 0) ∧
    (∃ (s : State), s.mode ≠ 0 ∧ s.devCtl.2.2 = false) ∧
    (∃ (s : State), s.mode ≠ 0 ∧ s.devCtl.2.2 = true) ∧
    (∃ (s : State) (r : Nat) (v : Nat), s.mode ≠ 0 ∧ r = 1 ∧ v ≤ 5) ∧
    (∃ (s : State) (r : Nat), s.mode ≠ 0 ∧ r = 0) ∧
    (∃ (s : State) (r : Nat) (v : Nat), s.mode ≠ 0 ∧ 2 ≤ r ∧ v = 0) :=
  ⟨⟨lv [], by decide +kernel⟩,
    ⟨{ lv [(K.SESS_STATE 7, 2), (K.SESS_OWNER 7, 2 ^ 60 + 9), (K.SQ_LOCK_OWNER 7, 2 ^ 60 + 9)] with host := { pcieUp := true } }, by decide +kernel⟩,
    ⟨lv [], by decide +kernel⟩,
    ⟨{ lv [(K.SESS_STATE 7, 2), (K.SESS_OWNER 7, 2 ^ 60 + 9), (K.SQ_LOCK_OWNER 7, 2 ^ 60 + 9)] with devCtl := (3, 4, true) }, by decide +kernel⟩,
    ⟨{ lv [(K.SESS_STATE 7, 2), (K.SESS_OWNER 7, 2 ^ 60 + 9), (K.SQ_LOCK_OWNER 6, 2 ^ 61 + 9)] with devCtl := (3, 4, true) }, by decide +kernel⟩,
    ⟨{ lv [(K.SESS_STATE 7, 2), (K.SESS_OWNER 7, 2 ^ 60 + 9), (K.SQ_LOCK_OWNER 6, 2 ^ 61 + 9)] with devCtl := (3, 4, false) }, by decide +kernel⟩,
    ⟨{ lv [] with devCtl := (3, 4, true) }, by decide +kernel⟩,
    ⟨{ lv [] with devCtl := (3, 4, true) }, 1, 5, by decide +kernel⟩,
    ⟨{ lv [] with devCtl := (3, 4, true) }, 0, by decide +kernel⟩,
    ⟨{ lv [] with devCtl := (3, 4, true) }, 2, 0, by decide +kernel⟩⟩

/-- The hypotheses of each clause of `Obligations.Interfaces` hold together somewhere: part 2 of 3. -/
theorem witness_Interfaces_2 :
    (∃ (s : State), s.mode ≠ 0) ∧
    (∃ (s : State), s.mode ≠ 0 ∧ s.gb K.ETH_ENABLE = true) ∧
    (∃ (s : State), s.mode ≠ 0 ∧ s.gb K.ETH_ENABLE = true ∧ s.g K.ETH_LINK = 1) ∧
    (∃ (s : State), s.mode ≠ 0 ∧ 2 ≤ s.mode ∧ s.fn % (1250 * s.g K.TEL_PERIOD) = 0 ∧ s.host.telAt ≠ s.tick + 1 ∧ (∀ q ∈ List.range 4, s.g (K.QP_STATE q) = 0)) ∧
    (∃ (s : State), s.mode ≠ 0 ∧ s.fn % (1250 * s.g K.TEL_PERIOD) ≠ 0) ∧
    (∃ (s : State) (w : Who), s.mode ≠ 0 ∧ s.bootRom = false ∧ 1 ≤ s.privOf w ∧ s.flRefusal = 0) ∧
    (∃ (s : State) (w : Who), s.mode ≠ 0 ∧ s.bootRom = false ∧ 1 ≤ s.privOf w ∧ s.flRefusal ≠ 0) ∧
    (∃ (s : State) (w : Who) (r : Nat), s.mode ≠ 0 ∧ 1 ≤ s.privOf w ∧ r < 8192 ∧ s.flRefusal = 0 ∧ (s.flashBytes (slotBase (s.g K.FL_TARGET) + 128 * r) 128).all (· == 0xFF) = true) ∧
    (∃ (s : State) (w : Who) (r : Nat), s.mode ≠ 0 ∧ 1 ≤ s.privOf w ∧ r < 8192 ∧ s.flRefusal = 0 ∧ (s.flashBytes (slotBase (s.g K.FL_TARGET) + 128 * r) 128).all (· == 0xFF) = false) ∧
    (∃ (s : State) (w : Who), s.mode ≠ 0 ∧ s.bootRom = false ∧ 1 ≤ s.privOf w ∧ s.g K.FL_STATE = 0) :=
  ⟨⟨lv [], by decide +kernel⟩,
    ⟨lv [(K.ETH_ENABLE, 1)], by decide +kernel⟩,
    ⟨lv [(K.ETH_ENABLE, 1), (K.ETH_LINK, 1)], by decide +kernel⟩,
    ⟨lv [(K.TEL_PERIOD, 8)], by decide +kernel⟩,
    ⟨lv [(K.TEL_PERIOD, 60)], by decide +kernel⟩,
    ⟨{ lv [(K.FL_TARGET, 1)] with host := { fwSlot := some 0 } }, w0, by decide +kernel⟩,
    ⟨{ lv [(K.FL_TARGET, 1)] with host := { fwSlot := some 1 } }, w0, by decide +kernel⟩,
    ⟨{ lv [(K.FL_TARGET, 1)] with host := { fwSlot := some 0, flash := [(0x100000, 4)] } }, w0, 8191, by decide +kernel⟩,
    ⟨{ lv [(K.FL_TARGET, 1)] with host := { fwSlot := some 0, flash := [(0x1FFFFF, 4)] } }, w0, 8191, by decide +kernel⟩,
    ⟨lv [(K.FL_TARGET, 1)], w0, by decide +kernel⟩⟩

/-- The hypotheses of each clause of `Obligations.Interfaces` hold together somewhere: part 3 of 3. -/
theorem witness_Interfaces_3 :
    (∃ (s : State) (op : FlOp), s.mode ≠ 0 ∧ s.host.flOp = some op ∧ op.kind = 1 ∧ op.slot < 2) ∧
    (∃ (s : State) (op : FlOp), s.mode ≠ 0 ∧ s.host.flOp = some op ∧ op.kind = 2 ∧ op.slot < 2) ∧
    (∃ (s : State) (op : FlOp), s.mode ≠ 0 ∧ s.host.flOp = some op ∧ op.kind = 3 ∧ op.slot < 2) :=
  ⟨⟨{ lv [(K.FL_STATE, 1)] with host := { flOp := some { kind := 1, slot := 1 }, flash := [(4, 5), (0x100004, 9)] } }, { kind := 1, slot := 1 }, by decide +kernel⟩,
    ⟨{ lv [(K.FL_STATE, 2)] with host := { flOp := some { kind := 2, slot := 1, row := 8191, data := 2 ^ 1023 }, flash := [(4, 5)] } }, { kind := 2, slot := 1, row := 8191, data := 2 ^ 1023 }, by decide +kernel⟩,
    ⟨{ lv [(K.FL_STATE, 3)] with host := { flOp := some { kind := 3, slot := 1 }, flash := [(4, 5)] } }, { kind := 3, slot := 1 }, by decide +kernel⟩⟩

/-- The hypotheses of each clause of `Obligations.LeapApplied` hold together somewhere. -/
theorem witness_LeapApplied :
    (∃ (s : State), s.mode ≠ 0 ∧ s.g K.LEAP_PENDING ≠ 0 ∧ s.leapFrame ≤ s.fn) ∧
    (∃ (s : State), s.mode ≠ 0 ∧ s.g K.LEAP_PENDING = 0) :=
  ⟨⟨lv [(K.LEAP_PENDING, 2), (K.UTC_OFFSET, 2 ^ 64 - 37)], by decide +kernel⟩,
    ⟨lv [], by decide +kernel⟩⟩

/-- The hypotheses of each clause of `Obligations.ClearWtrRefused` hold together somewhere. -/
theorem witness_ClearWtrRefused :
    (∃ (s : State) (w : Who) (n : Nat), s.admits w 1 ∧ n < 28 ∧ s.g (K.SLOT_STATE n) ≠ 3) :=
  ⟨lv [(K.SLOT_STATE 27, 4)], w0, 27, by unfold State.admits; decide +kernel⟩

/-- The hypotheses of each clause of `Obligations.Privileges` hold together somewhere: part 1 of 3. -/
theorem witness_Privileges :
    (∃ (s : State) (w : Who) (m : Nat), s.mode ≠ 0 ∧ s.bootRom = false ∧ s.privOf w < modeNeed s.mode m) ∧
    (∃ (s : State) (w : Who), s.mode ≠ 0 ∧ s.bootRom = false ∧ s.privOf w < 1) ∧
    (∃ (s : State) (w : Who), s.mode ≠ 0 ∧ s.bootRom = false ∧ s.privOf w < 3) ∧
    (∃ (s : State) (w : Who) (n : Nat), s.mode ≠ 0 ∧ s.bootRom = false ∧ n < 28 ∧ s.privOf w < 1) ∧
    (∃ (s : State) (w : Who) (n : Nat), s.mode ≠ 0 ∧ s.bootRom = false ∧ n < 28 ∧ s.privOf w < 1) ∧
    (∃ (s : State) (w : Who) (n : Nat), s.mode ≠ 0 ∧ s.bootRom = false ∧ n < 28 ∧ s.privOf w < 1) ∧
    (∃ (s : State) (w : Who), s.mode ≠ 0 ∧ s.bootRom = false ∧ s.privOf w < 1) ∧
    (∃ (s : State) (w : Who), s.mode ≠ 0 ∧ s.bootRom = false ∧ s.privOf w < 3) ∧
    (∃ (s : State) (w : Who) (n : Nat), s.mode ≠ 0 ∧ s.bootRom = false ∧ n < 8 ∧ s.privOf w < 1) ∧
    (∃ (s : State) (w : Who) (n : Nat), s.mode ≠ 0 ∧ s.bootRom = false ∧ n < 8 ∧ s.privOf w < 1) :=
  ⟨⟨lv [(K.PRINCIPALS + 5, 2 ^ 264 + 2 * 2 ^ 256)], { transport := 3, originGen := 0, originAddr := 0, principal := 5, bootEpoch := 0 }, 9, by decide +kernel⟩,
    ⟨lv [(K.PRINCIPALS + 5, 2 ^ 264 + 0 * 2 ^ 256)], { transport := 3, originGen := 0, originAddr := 0, principal := 5, bootEpoch := 0 }, by decide +kernel⟩,
    ⟨lv [(K.PRINCIPALS + 5, 2 ^ 264 + 2 * 2 ^ 256)], { transport := 3, originGen := 0, originAddr := 0, principal := 5, bootEpoch := 0 }, by decide +kernel⟩,
    ⟨lv [(K.PRINCIPALS + 5, 2 ^ 264 + 0 * 2 ^ 256)], { transport := 3, originGen := 0, originAddr := 0, principal := 5, bootEpoch := 0 }, 7, by decide +kernel⟩,
    ⟨lv [(K.PRINCIPALS + 5, 2 ^ 264 + 0 * 2 ^ 256)], { transport := 3, originGen := 0, originAddr := 0, principal := 5, bootEpoch := 0 }, 7, by decide +kernel⟩,
    ⟨lv [(K.PRINCIPALS + 5, 2 ^ 264 + 0 * 2 ^ 256)], { transport := 3, originGen := 0, originAddr := 0, principal := 5, bootEpoch := 0 }, 7, by decide +kernel⟩,
    ⟨lv [(K.PRINCIPALS + 5, 2 ^ 264 + 0 * 2 ^ 256)], { transport := 3, originGen := 0, originAddr := 0, principal := 5, bootEpoch := 0 }, by decide +kernel⟩,
    ⟨lv [(K.PRINCIPALS + 5, 2 ^ 264 + 2 * 2 ^ 256)], { transport := 3, originGen := 0, originAddr := 0, principal := 5, bootEpoch := 0 }, by decide +kernel⟩,
    ⟨lv [(K.PRINCIPALS + 5, 2 ^ 264 + 0 * 2 ^ 256)], { transport := 3, originGen := 0, originAddr := 0, principal := 5, bootEpoch := 0 }, 7, by decide +kernel⟩,
    ⟨lv [(K.PRINCIPALS + 5, 2 ^ 264 + 0 * 2 ^ 256)], { transport := 3, originGen := 0, originAddr := 0, principal := 5, bootEpoch := 0 }, 7, by decide +kernel⟩⟩

/-- The hypotheses of each clause of `Obligations.Privileges` hold together somewhere: part 2 of 3. -/
theorem witness_Privileges_2 :
    (∃ (s : State) (w : Who) (n : Nat), s.mode ≠ 0 ∧ s.bootRom = false ∧ n < 8 ∧ s.privOf w < 1) ∧
    (∃ (s : State) (w : Who) (n : Nat), s.mode ≠ 0 ∧ s.bootRom = false ∧ n < 8 ∧ s.privOf w < 1) ∧
    (∃ (s : State) (w : Who), s.mode ≠ 0 ∧ s.bootRom = false ∧ s.privOf w < 1) ∧
    (∃ (s : State) (w : Who), s.mode ≠ 0 ∧ s.bootRom = false ∧ s.privOf w < 1) ∧
    (∃ (s : State) (w : Who) (n : Nat), s.mode ≠ 0 ∧ s.bootRom = false ∧ n < 8 ∧ s.privOf w < 1) ∧
    (∃ (s : State) (w : Who), s.mode ≠ 0 ∧ s.bootRom = false ∧ s.privOf w < 1) ∧
    (∃ (s : State) (w : Who), s.mode ≠ 0 ∧ s.bootRom = false ∧ s.privOf w < 1) ∧
    (∃ (s : State) (w : Who), s.mode ≠ 0 ∧ s.bootRom = false ∧ s.privOf w < 1) ∧
    (∃ (s : State) (w : Who) (n : Nat), s.mode ≠ 0 ∧ s.bootRom = false ∧ n < 8 ∧ s.privOf w < 1) ∧
    (∃ (s : State) (w : Who) (n : Nat), s.mode ≠ 0 ∧ s.bootRom = false ∧ n < 8 ∧ s.privOf w < 1) :=
  ⟨⟨lv [(K.PRINCIPALS + 5, 2 ^ 264 + 0 * 2 ^ 256)], { transport := 3, originGen := 0, originAddr := 0, principal := 5, bootEpoch := 0 }, 7, by decide +kernel⟩,
    ⟨lv [(K.PRINCIPALS + 5, 2 ^ 264 + 0 * 2 ^ 256)], { transport := 3, originGen := 0, originAddr := 0, principal := 5, bootEpoch := 0 }, 7, by decide +kernel⟩,
    ⟨lv [(K.PRINCIPALS + 5, 2 ^ 264 + 0 * 2 ^ 256)], { transport := 3, originGen := 0, originAddr := 0, principal := 5, bootEpoch := 0 }, by decide +kernel⟩,
    ⟨lv [(K.PRINCIPALS + 5, 2 ^ 264 + 0 * 2 ^ 256)], { transport := 3, originGen := 0, originAddr := 0, principal := 5, bootEpoch := 0 }, by decide +kernel⟩,
    ⟨lv [(K.PRINCIPALS + 5, 2 ^ 264 + 0 * 2 ^ 256)], { transport := 3, originGen := 0, originAddr := 0, principal := 5, bootEpoch := 0 }, 7, by decide +kernel⟩,
    ⟨lv [(K.PRINCIPALS + 5, 2 ^ 264 + 0 * 2 ^ 256)], { transport := 3, originGen := 0, originAddr := 0, principal := 5, bootEpoch := 0 }, by decide +kernel⟩,
    ⟨lv [(K.PRINCIPALS + 5, 2 ^ 264 + 0 * 2 ^ 256)], { transport := 3, originGen := 0, originAddr := 0, principal := 5, bootEpoch := 0 }, by decide +kernel⟩,
    ⟨lv [(K.PRINCIPALS + 5, 2 ^ 264 + 0 * 2 ^ 256)], { transport := 3, originGen := 0, originAddr := 0, principal := 5, bootEpoch := 0 }, by decide +kernel⟩,
    ⟨lv [(K.PRINCIPALS + 5, 2 ^ 264 + 0 * 2 ^ 256)], { transport := 3, originGen := 0, originAddr := 0, principal := 5, bootEpoch := 0 }, 7, by decide +kernel⟩,
    ⟨lv [(K.PRINCIPALS + 5, 2 ^ 264 + 0 * 2 ^ 256)], { transport := 3, originGen := 0, originAddr := 0, principal := 5, bootEpoch := 0 }, 7, by decide +kernel⟩⟩

/-- The hypotheses of each clause of `Obligations.Privileges` hold together somewhere: part 3 of 3. -/
theorem witness_Privileges_3 :
    (∃ (s : State) (w : Who) (n : Nat), s.mode ≠ 0 ∧ s.bootRom = false ∧ n < 72 ∧ s.privOf w < 1) ∧
    (∃ (s : State) (w : Who), s.mode ≠ 0 ∧ s.bootRom = false ∧ s.privOf w < 1) ∧
    (∃ (s : State) (w : Who), s.mode ≠ 0 ∧ s.bootRom = false ∧ s.privOf w < 3) ∧
    (∃ (s : State) (w : Who), s.mode ≠ 0 ∧ s.bootRom = false ∧ s.privOf w < 1) ∧
    (∃ (s : State) (w : Who) (n : Nat), s.mode ≠ 0 ∧ s.bootRom = false ∧ n < 8 ∧ s.privOf w < 2) ∧
    (∃ (s : State) (w : Who) (n : Nat), s.mode ≠ 0 ∧ s.bootRom = false ∧ n < 8 ∧ s.privOf w < 1) ∧
    (∃ (s : State) (w : Who) (n : Nat), s.mode ≠ 0 ∧ s.bootRom = false ∧ n < 8 ∧ s.privOf w < 1) ∧
    (∃ (s : State) (w : Who), s.mode ≠ 0 ∧ s.bootRom = false ∧ s.privOf w < 1) ∧
    (∃ (s : State) (w : Who), s.mode ≠ 0 ∧ s.bootRom = false ∧ s.privOf w < 1) :=
  ⟨⟨lv [(K.PRINCIPALS + 5, 2 ^ 264 + 0 * 2 ^ 256)], { transport := 3, originGen := 0, originAddr := 0, principal := 5, bootEpoch := 0 }, 7, by decide +kernel⟩,
    ⟨lv [(K.PRINCIPALS + 5, 2 ^ 264 + 0 * 2 ^ 256)], { transport := 3, originGen := 0, originAddr := 0, principal := 5, bootEpoch := 0 }, by decide +kernel⟩,
    ⟨lv [(K.PRINCIPALS + 5, 2 ^ 264 + 2 * 2 ^ 256)], { transport := 3, originGen := 0, originAddr := 0, principal := 5, bootEpoch := 0 }, by decide +kernel⟩,
    ⟨lv [(K.PRINCIPALS + 5, 2 ^ 264 + 0 * 2 ^ 256)], { transport := 3, originGen := 0, originAddr := 0, principal := 5, bootEpoch := 0 }, by decide +kernel⟩,
    ⟨lv [(K.PRINCIPALS + 5, 2 ^ 264 + 1 * 2 ^ 256)], { transport := 3, originGen := 0, originAddr := 0, principal := 5, bootEpoch := 0 }, 7, by decide +kernel⟩,
    ⟨lv [(K.PRINCIPALS + 5, 2 ^ 264 + 0 * 2 ^ 256)], { transport := 3, originGen := 0, originAddr := 0, principal := 5, bootEpoch := 0 }, 7, by decide +kernel⟩,
    ⟨lv [(K.PRINCIPALS + 5, 2 ^ 264 + 0 * 2 ^ 256)], { transport := 3, originGen := 0, originAddr := 0, principal := 5, bootEpoch := 0 }, 7, by decide +kernel⟩,
    ⟨lv [(K.PRINCIPALS + 5, 2 ^ 264 + 0 * 2 ^ 256)], { transport := 3, originGen := 0, originAddr := 0, principal := 5, bootEpoch := 0 }, by decide +kernel⟩,
    ⟨lv [(K.PRINCIPALS + 5, 2 ^ 264 + 0 * 2 ^ 256)], { transport := 3, originGen := 0, originAddr := 0, principal := 5, bootEpoch := 0 }, by decide +kernel⟩⟩

end Sys2Proof.Tests
end

section
/-! SUPPORT. One step: the front command runs, it answers a next state, and the queue loses nothing else. -/

namespace Sys2Proof.Machine

/-- An outcome is a next state that holds the queue of the state before. -/
def QueueKept (s : State) (o : Host.Outcome State Fault Refusal) : Prop := ∃ t, o = .next t ∧ t.pending = s.pending

theorem runAny_queueKept (f : State → State) (s : State) : QueueKept s (runAny f s) := ⟨_, rfl, rfl⟩
theorem run_queueKept (f : State → State) (s : State) : QueueKept s (run f s) := runAny_queueKept _ s

/-- Every command is a body under `run`, the seven that act in M0 under `runAny`; both give the queue back. -/
theorem exec_queueKept (c : Instr) (s : State) : QueueKept s (exec c s) := by
  cases c
  all_goals dsimp only [exec]
  case thermalRecovery | jtagInstructionLoad | powerOn | supplyBelowThreshold | resetNLow | resetRelease | jtagTestLogicReset =>
    exact runAny_queueKept _ s
  all_goals exact run_queueKept _ s

theorem step_cons {s : State} {c : Instr} {rest : List Instr} (h : s.pending = c :: rest) :
    step s = exec c { s with pending := rest } := by
  simp only [step, h]

theorem step_nil {s : State} (h : s.pending = []) : step s = .next s := by
  simp only [step, h]

/-- Settles O56, by the two branches of `step`. -/
theorem stepRunsFrontCommand : Obligations.StepRunsFrontCommand :=
  ⟨fun _ _ _ => step_cons, fun _ => step_nil⟩

/-- Settles O57: the queue that the front command gives back is the rest of the queue. -/
theorem everyStepAnswers : Obligations.EveryStepAnswers := by
  intro s
  cases h : s.pending with
  | nil => exact ⟨s, step_nil h, h⟩
  | cons c rest =>
    obtain ⟨t, ht, hq⟩ := exec_queueKept c { s with pending := rest }
    exact ⟨t, (step_cons h).trans ht, hq⟩

end Sys2Proof.Machine
end

section
/-! SUPPORT. What a list of writes leaves in the dictionary, and what a command of the dictionary answers (R534). -/

namespace Sys2Proof.Machine

variable {s t : State}

theorem Writes.refl (s : State) : Writes s s [] := fun _ => rfl

theorem Writes.p {l : List (Nat × Nat)} (h : Writes s t l) (k v : Nat) : Writes s (t.p k v) ((k, v) :: l) := fun j => by
  simp only [State.g_p, after, h j]

/-- The record that a command keeps, after the writes of its body: the frame number and its own count are not among them. -/
theorem Writes.keepRecord {l : List (Nat × Nat)} (h : Writes s t l) (w : Who) (k arg code value : Nat)
    (hn : t.g (k + 4) = s.g (k + 4)) (hf : t.fn = s.fn) :
    Writes s (t.keepRecord k arg code value w) (recordOf s w k arg code value ++ l) := fun j => by
  simp only [State.keepRecord, State.inc_eq, State.g_p, recordOf, List.cons_append, List.nil_append, after, ← h j, hn, hf]
  grind

/-- A command that its requester may give runs its body, and its record is kept. -/
theorem command_call {w : Who} {k arg need : Nat} {body : State → CmdRes} (ha : s.admits w need) {code value : Nat} {r : State}
    (hb : body s = ⟨code, value, r⟩) :
    s.command (fun s => s.call w k arg need body) = (r.keepRecord k arg code value w).emit (.result code value) := by
  obtain ⟨hm, hboot, hp⟩ := ha
  have hreach : s.reach = true := by simpa [State.reach] using hm
  simp [State.command, State.call, hreach, hboot, Nat.not_lt.2 hp, hb]

/-- Keeping a record changes the dictionary alone. -/
theorem keepRecord_form (s : State) (k arg code value : Nat) (w : Who) :
    s.keepRecord k arg code value w = { s with od := (s.keepRecord k arg code value w).od } := by
  simp only [State.keepRecord, State.inc, State.p]

theorem Gives.imp {c : Instr} {P Q : State → Prop} (h : Gives c s P) (hpq : ∀ t, P t → Q t) : Gives c s Q :=
  Exists.imp (fun t ht => ⟨ht.1, hpq t ht.2⟩) h

/-- A command that its requester may give answers the body's code and VALUE; beside its record it writes what the body writes, and leaves
what the body leaves. -/
theorem gives_answers {c : Instr} {w : Who} {k arg need : Nat} {body : State → CmdRes} (ha : s.admits w need)
    (hc : exec c s = run (fun s => s.command (fun s => s.call w k arg need body)) s) {code value : Nat} {r : State}
    (hb : body { s with out := [] } = ⟨code, value, r⟩) {l : List (Nat × Nat)} (hw : Writes s r l)
    (hn : r.g (k + 4) = s.g (k + 4)) (hf : r.fn = s.fn) (ho : r.out = []) :
    Gives c s (fun t => Answers s t w k arg code value l ∧ t = { r with pending := s.pending, od := t.od, out := t.out }) := by
  have ha' : State.admits { s with out := [] } w need := ha
  refine gives_of_run ha.1 c hc ?_
  rw [command_call ha' hb]
  have hr := hw.keepRecord w k arg code value hn hf
  rw [keepRecord_form] at hr ⊢
  exact ⟨⟨congrArg (· ++ [Out.result code value]) ho, hr⟩, rfl⟩

end Sys2Proof.Machine
end

section
/-! SUPPORT. MODE_REQUEST: what its body answers in each case of R589 to R591. -/

namespace Sys2Proof.Machine

section Requests

variable {s : State} {w : Who} {m : Nat}

/-- The rank of a host's request for a mode (R591). -/
def hostRank (m : Nat) : Nat := if m = 10 then 0 else 2

theorem fnAt_soon (s : State) : s.fnAt s.soon = s.fn + 3 := by unfold State.fnAt State.soon; omega

/-- No transition of a rank as high is pending: the one asked for is pending from now on, for the third next boundary. -/
theorem askMode_of_free {rank : Nat} (h : s.modePend.all (fun x => rank < x.rank) = true) (target cause : Nat) :
    s.askMode target cause rank =
      ({ s with modePend := some { target := target, due := s.tick + 3, cause := cause, rank := rank } }.p K.MODE_PENDING target).p
        K.MODE_PENDING_FN (s.fn + 3) := by
  cases hp : s.modePend with
  | none => simp only [State.askMode, hp, fnAt_soon, if_true]; rfl
  | some p =>
    have hr : rank < p.rank := by simpa [hp] using h
    simp only [State.askMode, hp, fnAt_soon, hr, decide_true, if_true]; rfl

theorem modeRequestBody_range (h : 11 < m) : s.modeRequestBody m = s.deny RC.range := by
  simp [State.modeRequestBody, h]

theorem modeRequestBody_noTransition (h : m ≤ 11) (ht : hostTransition s.mode m s.bootRom = false) :
    s.modeRequestBody m = s.deny RC.state := by
  simp [State.modeRequestBody, Nat.not_lt.2 h, ht]

theorem modeRequestBody_severe (hm : s.mode = 10) (h3 : m = 3) (hs : s.safeSevere = true) :
    s.modeRequestBody m = s.deny RC.state := by
  subst h3
  simp [State.modeRequestBody, hm, hs]

section Allowed
variable (h : m ≤ 11) (ht : hostTransition s.mode m s.bootRom = true) (hs : ¬(s.mode = 10 ∧ m = 3 ∧ s.safeSevere = true))
include h ht hs

theorem modeRequestBody_busy {p : ModePend} (hp : s.modePend = some p) (hr : p.rank ≤ hostRank m) :
    s.modeRequestBody m = s.deny RC.busy := by
  unfold hostRank at hr
  simp [State.modeRequestBody, Nat.not_lt.2 h, ht, hs, hp, hr]

/-- The transition may be asked for and nothing of a rank as high is pending: in M2 a request for M3 is kept, any other is pending. -/
theorem modeRequestBody_free (hp : s.modePend.all (fun x => hostRank m < x.rank) = true) :
    s.modeRequestBody m =
      if s.mode = 2 ∧ m = 3 then
        (if s.spnFrames ≤ 2500 then State.accept { s with req3 := true } else (State.askMode { s with req3 := true } 3 1 2).accept)
      else (s.askMode (if m = 3 then s.calledFor else m) 1 (hostRank m)).accept := by
  unfold hostRank at hp ⊢
  cases hq : s.modePend with
  | none => simp [State.modeRequestBody, Nat.not_lt.2 h, ht, hs, hq]
  | some p =>
    have hr : ¬ p.rank ≤ if m = 10 then 0 else 2 := by simpa [hq] using hp
    simp [State.modeRequestBody, Nat.not_lt.2 h, ht, hs, hq, hr]
end Allowed

/-- In M2 a request for M3 is kept, and pending once the Spindle has been locked for 2,500 frames (R589). -/
theorem modeRequestBody_req3 (h2 : s.mode = 2) (h3 : m = 3) (hb : s.bootRom = false) (hp : s.modePend.all (fun x => 2 < x.rank) = true) :
    s.modeRequestBody m =
      if s.spnFrames ≤ 2500 then State.accept { s with req3 := true } else (State.askMode { s with req3 := true } 3 1 2).accept := by
  subst h3
  have ht : hostTransition s.mode 3 s.bootRom = true := by rw [h2, hb]; rfl
  have hs : ¬(s.mode = 10 ∧ 3 = 3 ∧ s.safeSevere = true) := fun h => absurd (h2.symm.trans h.1) (by decide)
  exact (modeRequestBody_free (by decide) ht hs hp).trans (if_pos ⟨h2, rfl⟩)

/-- A refusal of MODE_REQUEST changes its record alone. -/
theorem modeRequest_denied {code : Nat} (ha : s.admits w (modeNeed s.mode m))
    (hb : State.modeRequestBody { s with out := [] } m = State.deny { s with out := [] } code) :
    Gives (.modeRequest w m) s (fun t => Answers s t w K.MODE_REQUEST m code 0 [] ∧ t = { s with od := t.od, out := t.out }) :=
  gives_answers ha rfl (r := { s with out := [] }) hb (Writes.refl s) rfl rfl rfl

theorem askMode_writes {rank : Nat} (h : s.modePend.all (fun x => rank < x.rank) = true) (target cause : Nat) :
    Writes s (s.askMode target cause rank) [(K.MODE_PENDING_FN, s.fn + 3), (K.MODE_PENDING, target)] := by
  rw [askMode_of_free h]
  exact (Writes.p (Writes.refl s) K.MODE_PENDING target).p K.MODE_PENDING_FN (s.fn + 3)

/-- MODE_REQUEST accepted, with a transition pending from now on for the third next boundary; u is the state as the request finds it, but
for fields that no object shows. -/
theorem modeRequest_pends {u : State} {target rank : Nat} (ha : s.admits w (modeNeed s.mode m)) (hod : u.od = s.od) (hout : u.out = [])
    (htick : u.tick = s.tick) (hp : u.modePend.all (fun x => rank < x.rank) = true)
    (hb : State.modeRequestBody { s with out := [] } m = (u.askMode target 1 rank).accept) :
    Gives (.modeRequest w m) s (fun t =>
      Answers s t w K.MODE_REQUEST m RC.accepted 0 [(K.MODE_PENDING_FN, s.fn + 3), (K.MODE_PENDING, target)] ∧
      t = { u with pending := s.pending, od := t.od, out := t.out, modePend := some { target := target, due := s.tick + 3, cause := 1, rank := rank } }) := by
  have hg : u.g = s.g := by funext j; simp only [State.g, hod]
  have hw : Writes s (u.askMode target 1 rank) [(K.MODE_PENDING_FN, s.fn + 3), (K.MODE_PENDING, target)] := by
    have := askMode_writes hp target 1
    simpa only [Writes, State.fn, hg] using this
  have hn : (u.askMode target 1 rank).g (K.MODE_REQUEST + 4) = s.g (K.MODE_REQUEST + 4) := hw _
  have hf : (u.askMode target 1 rank).fn = s.fn := hw _
  have hform : u.askMode target 1 rank = { u with od := (u.askMode target 1 rank).od, modePend := some { target := target, due := s.tick + 3, cause := 1, rank := rank } } := by
    rw [askMode_of_free hp, htick]; rfl
  refine (gives_answers ha rfl hb hw hn hf ?_).imp fun t ht => ⟨ht.1, ht.2.trans ?_⟩
  · rw [hform]; exact hout
  · rw [hform]

end Requests

/-- Settles O28, by the cases of `modeRequestBody`. -/
theorem modeRequests : Obligations.ModeRequests := by
  intro s w m p ha
  refine ⟨fun h11 ht h3 hs hp => ?_, fun h2 h3 hb hp hf => ?_, fun h2 h3 hb hp hf => ?_, fun h10 h3 hs => ?_, fun h11 ht => ?_, fun h => ?_,
    fun h11 ht hs hq hr => ?_⟩
  · exact modeRequest_pends (u := { s with out := [] }) ha rfl rfl rfl hp
      ((modeRequestBody_free (s := { s with out := [] }) h11 ht hs hp).trans (if_neg fun h => h3 h.1 h.2))
  · have hb := modeRequestBody_req3 (s := { s with out := [] }) h2 h3 hb hp
    exact gives_answers ha rfl (r := { s with out := [], req3 := true }) (hb.trans (if_pos hf)) (Writes.refl s) rfl rfl rfl
  · have hb := modeRequestBody_req3 (s := { s with out := [] }) h2 h3 hb hp
    exact modeRequest_pends (u := { s with out := [], req3 := true }) ha rfl rfl rfl hp (hb.trans (if_neg (Nat.not_le.2 hf)))
  · exact modeRequest_denied ha (modeRequestBody_severe h10 h3 hs)
  · exact modeRequest_denied ha (modeRequestBody_noTransition h11 ht)
  · exact modeRequest_denied ha (modeRequestBody_range h)
  · exact modeRequest_denied ha (modeRequestBody_busy h11 ht hs hq hr)

end Sys2Proof.Machine
end

section
/-! SUPPORT. Refutations. A statement over every state also speaks of states in which a commit names no session of the part, or a page
operation no page of vector memory. The objects that such a number reaches belong to another table, and the command writes there: the
statements lack a hypothesis that the numbers a state stores are in range. -/

namespace Sys2Proof.Machine

/-- What an object reads after a command. -/
def readAfter (c : Instr) (s : State) (k : Nat) : Nat := match exec c s with | .next t => t.g k | _ => 0

theorem Gives.reads {c : Instr} {s : State} {P : State → Prop} (h : Gives c s P) (k : Nat) : ∃ t, P t ∧ t.g k = readAfter c s k := by
  obtain ⟨t, ht, hP⟩ := h
  exact ⟨t, hP, by simp only [readAfter, ht]⟩

/-- A session number whose objects (index 0x2020 + k) lie at those of sequencer 0 (index 0x6020), SESS_COMMIT_STATE at SQ_STATE. -/
def straySession : Nat := 0x4000

/-- M3 with M10 due, while a commit of that session is pending: M10 refuses the commit, and the refusal is written over SQ_STATE. -/
def strayCommit : State :=
  { State.reset.p K.MODE 3 with
    modePend := some { target := 10, due := 0, cause := 1, rank := 0 }
    commits := [{ sess := straySession, due := 9, check := 8, final := false, vals := [], own := 0, gen := dflt (K.SESS_GEN straySession) }] }

/-- A page number whose row of PAGE_MAP lies at ARB_WAIT of requester 0 at bank 0. -/
def strayPage : Nat := K.ARB_WAIT 0 0 - K.PAGE_MAP

/-- M3 with a page read of that page active at bank 0: the count of a corrected word is written over ARB_WAIT. -/
def strayRead : State :=
  { State.reset.p K.MODE 3 with xunits := [(unitKey 0 11, { active := some { code := 8, ppn := strayPage } })] }

/-- The readback port asks for a word, and it is found correctable. -/
def readRequest : BankReq := { requester := 11, due := false, withdrawn := false, ecc := .corrected }

theorem strayCommit_transition : readAfter .modeTransition strayCommit (K.SQ_STATE 0) = 3 := by decide +kernel
theorem strayCommit_reaction : readAfter .reactionTakeEffect strayCommit (K.SQ_STATE 0) = 3 := by decide +kernel
theorem strayRead_arbitration : readAfter (.bankArbitration 0 [readRequest]) strayRead (K.ARB_WAIT 0 0) = 65536 := by decide +kernel

/-- Refutes O29, by its second clause: from `strayCommit` M10 takes effect, and SQ_STATE of sequencer 0 reads 3, not 0. -/
theorem not_modeTransitions : ¬ Obligations.ModeTransitions := by
  intro h
  obtain ⟨-, hsafe, -⟩ := h strayCommit _ (by decide +kernel) rfl (by decide)
  obtain ⟨t, ⟨-, -, -, -, -, -, hsq, -⟩, hread⟩ :=
    (hsafe (by decide +kernel) (by decide +kernel) (by decide +kernel) rfl rfl).reads (K.SQ_STATE 0)
  have h0 := hsq 0 (by decide)
  rw [hread, strayCommit_transition] at h0
  exact absurd h0 (by decide)

/-- Refutes O30, by its last clause: from `strayCommit` the due transition to M10 is made, and SQ_STATE of sequencer 0 reads 3, not 0. -/
theorem not_frameBoundaries : ¬ Obligations.FrameBoundaries := by
  intro h
  obtain ⟨-, -, -, -, hsafe⟩ := h strayCommit State.reset.meas 0 0 { target := 10, due := 0, cause := 1, rank := 0 }
    { back := none, cover := none, after := 0, due := 0 } (by decide +kernel)
  obtain ⟨t, ⟨-, -, -, -, -, hsq, -⟩, hread⟩ :=
    (hsafe (by decide +kernel) (by decide +kernel) rfl (by decide) rfl rfl (by decide +kernel) rfl).reads (K.SQ_STATE 0)
  have h0 := hsq 0 (by decide)
  rw [hread, strayCommit_reaction] at h0
  exact absurd h0 (by decide)

/-- Refutes O44, by its first clause: from `strayRead` a cycle changes ARB_WAIT of requester 0, which asks for nothing. -/
theorem not_arbitration : ¬ Obligations.Arbitration := by
  intro h
  obtain ⟨hcycle, -⟩ := h strayRead default 0 0 0 0 0 0 0 0 [readRequest] (strayRead.arbE 0 (strayRead.present 0 [readRequest]))
    (strayRead.arbS 0 (strayRead.present 0 [readRequest])) readRequest { code := 8, ppn := strayPage } 0
  obtain ⟨t, ⟨d, -, -, -, -, -, -, hwait, -⟩, hread⟩ :=
    (hcycle (by decide +kernel) (by decide) (by decide +kernel) (by decide) rfl rfl).reads (K.ARB_WAIT 0 0)
  have h0 := hwait 0 (by decide)
  have hnot : (strayRead.arbE 0 (strayRead.present 0 [readRequest]) ++ strayRead.arbS 0 (strayRead.present 0 [readRequest])).contains 0 = false := by
    decide +kernel
  have hcnt : strayRead.cnt 0 0 = 0 := by decide +kernel
  rw [hnot, if_neg Bool.false_ne_true, hcnt, hread, strayRead_arbitration] at h0
  exact absurd h0 (by decide)

end Sys2Proof.Machine
end

section
/-! SUPPORT. A refutation. UTC_OFFSET never wraps (R66, log entry 86): where the leap would take it past the end of its range, the model
writes the end of the range, and the statement the sum reduced modulo 2^64. -/

namespace Sys2Proof.Machine

/-- M3 with UTC_OFFSET at the greatest I64 and a leap of one second pending, its frame come. -/
def leapAtLimit : State := ((State.reset.p K.MODE 3).p K.UTC_OFFSET (2 ^ 63 - 1)).p K.LEAP_PENDING 1

theorem leapAtLimit_offset : readAfter .leapEpochReached leapAtLimit K.UTC_OFFSET = 2 ^ 63 - 1 := by decide +kernel

/-- Refutes O53, by its first clause: from `leapAtLimit` UTC_OFFSET stays at 2^63 - 1, and the statement has it read 2^63, the least I64. -/
theorem not_leapApplied : ¬ Obligations.LeapApplied := by
  intro h
  obtain ⟨hleap, -⟩ := h leapAtLimit (by decide +kernel)
  obtain ⟨t, ⟨hw, -⟩, hread⟩ := (hleap (by decide +kernel) (by decide +kernel)).reads K.UTC_OFFSET
  have hwrap : after leapAtLimit.g [(K.LEAP_PENDING, 0), (K.UTC_OFFSET, ofI64 (leapAtLimit.gi K.UTC_OFFSET +
      (if leapAtLimit.g K.LEAP_PENDING = 1 then 1 else if leapAtLimit.g K.LEAP_PENDING = 2 then -1 else 0)))] K.UTC_OFFSET = 2 ^ 63 := by
    decide +kernel
  have hkept := (hw K.UTC_OFFSET).symm.trans (hread.trans leapAtLimit_offset)
  exact absurd (hwrap.symm.trans hkept) (by decide)

end Sys2Proof.Machine
end

section
/-! SUPPORT. A command that writes some objects of which its statement says nothing in its list. -/

namespace Sys2Proof.Machine

/-- What an object reads after two lists of writes depends, beside the later list, on what it reads after the earlier one. -/
theorem after_append (g : Nat → Nat) (l m : List (Nat × Nat)) : after g (l ++ m) = after (after g m) l := by
  induction l with
  | nil => rfl
  | cons x l ih => funext j; simp only [List.cons_append, after, ih]

theorem after_congr {g h : Nat → Nat} {j : Nat} (hj : g j = h j) (l : List (Nat × Nat)) : after g l j = after h l j := by
  induction l with
  | nil => exact hj
  | cons x l ih => simp only [after, ih]

/-- The record of a command stands in the seven rows from its address on. -/
theorem after_recordOf_off (s : State) (g : Nat → Nat) (w : Who) {k arg code value j : Nat} (hj : j < k ∨ k + 6 < j) :
    after g (recordOf s w k arg code value) j = g j := by
  simp only [recordOf, after]
  repeat rw [if_neg (by omega)]

/-- As `gives_answers`, of a body that also writes objects that a test names; off its record an object reads what the body leaves. -/
theorem gives_answersBut {c : Instr} {w : Who} {s : State} {k arg need : Nat} {body : State → CmdRes} (ha : s.admits w need)
    (hc : exec c s = run (fun s => s.command (fun s => s.call w k arg need body)) s) {code value : Nat} {r : State}
    (hb : body { s with out := [] } = ⟨code, value, r⟩) {p : Nat → Bool} {l : List (Nat × Nat)} (hw : WritesBut s r p l)
    (hn : r.g (k + 4) = s.g (k + 4)) (hf : r.fn = s.fn) (ho : r.out = []) :
    Gives c s (fun t => t.out = [.result code value] ∧ WritesBut s t p (recordOf s w k arg code value ++ l) ∧
      (∀ j, j < k ∨ k + 6 < j → t.g j = r.g j) ∧ t = { r with pending := s.pending, od := t.od, out := t.out }) := by
  have ha' : State.admits { s with out := [] } w need := ha
  refine gives_of_run ha.1 c hc ?_
  rw [command_call ha' hb]
  have hr := (Writes.refl r).keepRecord w k arg code value rfl rfl
  have hrec : recordOf r w k arg code value = recordOf s w k arg code value := by simp only [recordOf, hn, hf]
  rw [hrec, List.append_nil] at hr
  rw [keepRecord_form] at hr ⊢
  refine ⟨congrArg (· ++ [Out.result code value]) ho, fun j hj => ?_, fun j hj => (hr j).trans (after_recordOf_off s _ w hj), rfl⟩
  rw [after_append]
  exact (hr j).trans (after_congr (hw j hj) _)

end Sys2Proof.Machine
end

section
/-! SUPPORT. SQ_JUMP, SQ_STOP and SQ_START: what their bodies answer in each case of R190 to R200. -/

namespace Sys2Proof.Machine

section Requests

variable {s : State} {w : Who} {q arg : Nat}

/-! ## The lease of a lock is renewed (R188) -/

theorem renewLock_form (s : State) (w : Who) (q : Nat) : s.renewLock w q = { s with sqHid := (s.renewLock w q).sqHid } := by
  unfold State.renewLock; split <;> rfl

theorem renewLock_sq_same (s : State) (w : Who) (q : Nat) :
    (s.renewLock w q).sq q =
      { s.sq q with renewed := if s.g (K.SQ_LOCK_OWNER q) = identityOf w then s.tick else (s.sq q).renewed } := by
  unfold State.renewLock; split <;> simp

theorem renewLock_sq_other (s : State) (w : Who) (q : Nat) : ButAt (s.renewLock w q).sq s.sq q := by
  intro j hj
  unfold State.renewLock; split <;> simp [hj]

@[simp] theorem State.sq_p (s : State) (k v : Nat) : (s.p k v).sq = s.sq := by
  funext j; simp only [State.sq, State.p_sqHid]

theorem sq_of_sqHid {s t : State} (h : t.sqHid = s.sqHid) : t.sq = s.sq := by funext j; simp only [State.sq, h]

@[simp] theorem renewLock_g (s : State) (w : Who) (q : Nat) : (s.renewLock w q).g = s.g := by rw [renewLock_form]; rfl

/-! ## Refusals -/

/-- The command of a requester locked out, or with a time of no second, answers before the lease is renewed. -/
theorem gives_denied {c : Instr} {k code value : Nat} {body : State → CmdRes} (ha : s.admits w 1)
    (hc : exec c s = run (fun s => s.command (fun s => s.call w k arg 1 body)) s) (hb : body s.noOut = ⟨code, value, s.noOut⟩) :
    Gives c s (fun t => Answers s t w k arg code value [] ∧ t = { s with od := t.od, out := t.out }) :=
  gives_answers ha hc hb (r := s.noOut) (Writes.refl s) rfl rfl rfl

/-- Another refusal renews the lease of the lock alone. -/
theorem gives_refused {c : Instr} {k code : Nat} {body : State → CmdRes} (ha : s.admits w 1)
    (hc : exec c s = run (fun s => s.command (fun s => s.call w k arg 1 body)) s) (hb : body s.noOut = (s.noOut.renewLock w q).deny code) :
    Gives c s (fun t => Answers s t w k arg code 0 [] ∧ t = { s with od := t.od, out := t.out, sqHid := t.sqHid } ∧
      ButAt t.sq s.sq q) := by
  have hform := renewLock_form s.noOut w q
  have hother := renewLock_sq_other s.noOut w q
  rw [hform] at hb hother
  refine (gives_answers ha hc hb (Writes.refl s) rfl rfl rfl).imp fun t ht => ?_
  obtain ⟨hans, ht⟩ := ht
  have hsq : t.sqHid = (s.noOut.renewLock w q).sqHid := (congrArg State.sqHid ht :)
  refine ⟨hans, ht.trans ?_, fun j hj => (congrFun (sq_of_sqHid hsq) j).trans (hother j hj)⟩
  rw [hsq]; rfl

/-- After, nothing but the dictionary, the records of sequencers and the events of the frame has changed. -/
def SeqOnly (s t : State) : Prop := ∃ od sqs evs, t = { s with od := od, sqHid := sqs, raised := evs }

theorem SeqOnly.refl (s : State) : SeqOnly s s := ⟨_, _, _, rfl⟩
theorem SeqOnly.trans {s t u : State} : SeqOnly s t → SeqOnly t u → SeqOnly s u := by
  rintro ⟨_, _, _, rfl⟩ ⟨_, _, _, rfl⟩; exact ⟨_, _, _, rfl⟩
theorem SeqOnly.p (s : State) (k v : Nat) : SeqOnly s (s.p k v) := ⟨_, _, _, rfl⟩
theorem SeqOnly.setSq (s : State) (q : Nat) (h : SqHid) : SeqOnly s (s.setSq q h) := ⟨_, _, _, rfl⟩
theorem SeqOnly.raiseBits (s : State) (a m : Nat) : SeqOnly s (s.raiseBits a m) := by
  rw [raiseBits_form]; exact ⟨_, _, _, rfl⟩

/-! ## A request is held (R193, R194) -/

/-- What a request held leaves, before its status is known. -/
def State.holds (s : State) (q : Nat) (r : SqReq) : State :=
  ((s.setSq q { s.sq q with req := some r }).p (K.SQ_JUMP_STATUS q) 1).p (K.SQ_JUMP_FN q) 0

theorem holdReq_busy {r : SqReq} (h : s.g (K.SQ_JUMP_STATUS q) = 3) : s.holdReq q r = s.deny RC.busy := by
  simp [State.holdReq, h]

theorem jumpFn_ne_jumpStatus (q : Nat) : K.SQ_JUMP_STATUS q ≠ K.SQ_JUMP_FN q := by
  simp only [K.SQ_JUMP_STATUS, K.SQ_JUMP_FN, key]; omega

theorem holds_sq_same (s : State) (q : Nat) (r : SqReq) : (s.holds q r).sq q = { s.sq q with req := some r } := by
  rw [State.holds, State.sq_p, State.sq_p, State.sq_setSq_same]

theorem holds_jumpStatus (s : State) (q : Nat) (r : SqReq) : (s.holds q r).g (K.SQ_JUMP_STATUS q) = 1 := by
  rw [State.holds, State.g_p_other _ _ (jumpFn_ne_jumpStatus q), State.g_p_same]

/-- A request just held is DEFERRED: status 2 and EV050. -/
theorem deferReq_holds (s : State) (q : Nat) (r : SqReq) :
    (s.holds q r).deferReq q = ((s.holds q r).p (K.SQ_JUMP_STATUS q) 2).raiseBits 50 (2 ^ q) := by
  rw [State.deferReq, if_pos ⟨by rw [holds_sq_same]; rfl, holds_jumpStatus s q r⟩, sqBit]

/-- A request held, DEFERRED or not. -/
def State.holdsAs (s : State) (q : Nat) (r : SqReq) (late : Bool) : State :=
  if late then ((s.holds q r).p (K.SQ_JUMP_STATUS q) 2).raiseBits 50 (2 ^ q) else s.holds q r

/-- No request is taken: the one asked for is held, deferred at once when more than the item playing is final, and else where the next
boundary is known not to take it. -/
theorem holdReq_free {r : SqReq} (h : s.g (K.SQ_JUMP_STATUS q) ≠ 3) :
    ∃ late : Bool, (1 < (s.sq q).line.length → late = true) ∧ s.holdReq q r = (s.holdsAs q r late).accept := by
  simp only [State.holdsAs, ← deferReq_holds, State.holdReq, h, if_false]
  refine ⟨_, fun hl => ?_, rfl⟩
  have hne : (s.sq q).line.isEmpty = false := by
    cases hq : (s.sq q).line <;> simp_all
  rw [Bool.or_eq_true]
  left
  split
  · simp [hne]
  · exact decide_eq_true hl

section Held
variable (s : State) (q : Nat) (r : SqReq) (late : Bool)

theorem raiseBits_g (s : State) (a m : Nat) : (s.raiseBits a m).g = s.g := by rw [raiseBits_form]; rfl
theorem raiseBits_sq (s : State) (a m : Nat) : (s.raiseBits a m).sq = s.sq := by rw [raiseBits_form]; rfl

theorem holdsAs_false : s.holdsAs q r false = s.holds q r := if_neg Bool.false_ne_true
theorem holdsAs_true : s.holdsAs q r true = ((s.holds q r).p (K.SQ_JUMP_STATUS q) 2).raiseBits 50 (2 ^ q) := if_pos rfl

theorem holdsAs_form : SeqOnly s (s.holdsAs q r late) := by
  have hh : SeqOnly s (s.holds q r) := ((SeqOnly.setSq s q _).trans (.p _ _ _)).trans (.p _ _ _)
  cases late
  · rw [holdsAs_false]; exact hh
  · rw [holdsAs_true]; exact (hh.trans (.p _ _ _)).trans (.raiseBits _ _ _)

theorem holdsAs_sq_same : (s.holdsAs q r late).sq q = { s.sq q with req := some r } := by
  cases late
  · rw [holdsAs_false, holds_sq_same]
  · rw [holdsAs_true, raiseBits_sq, State.sq_p, holds_sq_same]

theorem holdsAs_sq_other : ButAt (s.holdsAs q r late).sq s.sq q := by
  intro j hj
  have hh : (s.holds q r).sq j = s.sq j := by rw [State.holds, State.sq_p, State.sq_p, State.sq_setSq_other _ _ hj]
  cases late
  · rw [holdsAs_false, hh]
  · rw [holdsAs_true, raiseBits_sq, State.sq_p, hh]

theorem holdsAs_g_other : WritesBut s (s.holdsAs q r late) (fun j => j == K.SQ_JUMP_STATUS q) [(K.SQ_JUMP_FN q, 0)] := by
  intro j hj
  have hne : j ≠ K.SQ_JUMP_STATUS q := by simpa using hj
  have hh : (s.holds q r).g j = after s.g [(K.SQ_JUMP_FN q, 0)] j := by
    rw [State.holds, State.g_p, State.g_p_other _ _ hne, State.g_setSq, after, after]
  cases late
  · rw [holdsAs_false, hh]
  · rw [holdsAs_true, raiseBits_g, State.g_p_other _ _ hne, hh]

theorem holdsAs_status : (s.holdsAs q r late).g (K.SQ_JUMP_STATUS q) = if late then 2 else 1 := by
  cases late
  · rw [holdsAs_false, holds_jumpStatus, if_neg Bool.false_ne_true]
  · rw [holdsAs_true, raiseBits_g, State.g_p_same, if_pos rfl]

theorem holdsAs_raised : (s.holdsAs q r late).raised = if late then (s.raiseBits 50 (2 ^ q)).raised else s.raised := by
  have hh : (s.holds q r).raised = s.raised := by rw [State.holds, State.p_raised, State.p_raised, State.setSq_raised]
  cases late
  · rw [holdsAs_false, hh, if_neg Bool.false_ne_true]
  · rw [holdsAs_true, if_pos rfl]
    exact raiseBits_raised 50 (2 ^ q) (by rw [State.p_raised, hh])

end Held

/-- SQ_JUMP and SQ_STOP accepted: the request is held in place of one held, and its status tells whether it is deferred. -/
theorem gives_held {c : Instr} {k : Nat} {r : SqReq} {body : State → CmdRes} (hk : k + 6 < K.SQ_JUMP_STATUS q) (ha : s.admits w 1)
    (hc : exec c s = run (fun s => s.command (fun s => s.call w k arg 1 body)) s)
    (hb : body s.noOut = (s.noOut.renewLock w q).holdReq q r) (h3 : s.g (K.SQ_JUMP_STATUS q) ≠ 3) :
    Gives c s (fun t => t.out = [.result RC.accepted 0] ∧
      WritesBut s t (fun j => j == K.SQ_JUMP_STATUS q) (recordOf s w k arg RC.accepted 0 ++ [(K.SQ_JUMP_FN q, 0)]) ∧
      (1 < (s.sq q).line.length → t.g (K.SQ_JUMP_STATUS q) = 2) ∧
      (t.g (K.SQ_JUMP_STATUS q) = 1 ∧ t.raised = s.raised ∨
        t.g (K.SQ_JUMP_STATUS q) = 2 ∧ t.raised = (s.raiseBits 50 (2 ^ q)).raised) ∧
      t.sq q = { s.sq q with req := some r, renewed := if s.g (K.SQ_LOCK_OWNER q) = identityOf w then s.tick else (s.sq q).renewed } ∧
      ButAt t.sq s.sq q ∧ t = { s with od := t.od, out := t.out, sqHid := t.sqHid, raised := t.raised }) := by
  have hrenew := renewLock_form s.noOut w q
  have hsame := renewLock_sq_same s.noOut w q
  have hother := renewLock_sq_other s.noOut w q
  generalize s.noOut.renewLock w q = u at *
  have hug : u.g = s.g := by rw [hrenew]; rfl
  obtain ⟨late, hlate, hh⟩ := holdReq_free (s := u) (q := q) (r := r) (by rwa [hug])
  have hwrites := holdsAs_g_other u q r late
  have hstatus := holdsAs_status u q r late
  have hraised := holdsAs_raised u q r late
  have hsq := holdsAs_sq_same u q r late
  have hsqo := holdsAs_sq_other u q r late
  obtain ⟨od, sqs, evs, hv⟩ := holdsAs_form u q r late
  generalize u.holdsAs q r late = v at *
  have hw : WritesBut s v (fun j => j == K.SQ_JUMP_STATUS q) [(K.SQ_JUMP_FN q, 0)] := fun j hj => by rw [hwrites j hj, hug]
  have hoff : ∀ j, j < K.SQ_JUMP_STATUS q → v.g j = s.g j := fun j hj => by
    have hfn : K.SQ_JUMP_STATUS q < K.SQ_JUMP_FN q := by simp only [K.SQ_JUMP_STATUS, K.SQ_JUMP_FN, key]; omega
    rw [hw j (by simp; omega), after, if_neg (by omega), after]
  have hf : v.fn = s.fn := hoff _ (by simp only [K.SQ_JUMP_STATUS, K.TS_FN, key]; omega)
  refine (gives_answersBut ha hc (hb.trans hh) hw (hoff _ (by omega)) hf (by rw [hv, hrenew]; rfl)).imp fun t ht => ?_
  obtain ⟨ho, hwt, hkeep, ht⟩ := ht
  have hts : t.g (K.SQ_JUMP_STATUS q) = if late then 2 else 1 := (hkeep _ (.inr hk)).trans hstatus
  have htr : t.raised = if late then (s.raiseBits 50 (2 ^ q)).raised else s.raised := by
    rw [(congrArg State.raised ht :), hraised, raiseBits_raised (s := s) 50 (2 ^ q) (by rw [hrenew]; rfl), hrenew]; rfl
  have htq : t.sq = v.sq := sq_of_sqHid (congrArg State.sqHid ht :)
  refine ⟨ho, hwt, fun hl => ?_, ?_, ?_, ?_, ?_⟩
  · rw [hts, hlate (by rw [hsame]; exact hl), if_pos rfl]
  · cases late
    · exact .inl ⟨hts, htr⟩
    · exact .inr ⟨hts, htr⟩
  · rw [htq, hsq, hsame]; rfl
  · intro j hj
    rw [htq, hsqo j hj, hother j hj]; rfl
  · refine ht.trans ?_
    rw [(congrArg State.sqHid ht :), (congrArg State.raised ht :), hv, hrenew]; rfl

/-- A refusal for another generation is counted in SQ_STALE and raises EV051 (R193). -/
theorem gives_stale {c : Instr} {k : Nat} {body : State → CmdRes} (hk : k + 6 < K.SQ_STALE q) (ha : s.admits w 1)
    (hc : exec c s = run (fun s => s.command (fun s => s.call w k arg 1 body)) s)
    (hb : body s.noOut = (((s.noOut.renewLock w q).inc (K.SQ_STALE q)).raiseBits 51 (sqBit q)).deny RC.stale) :
    Gives c s (fun t => Answers s t w k arg RC.stale 0 [(K.SQ_STALE q, s.g (K.SQ_STALE q) + 1)] ∧
      t = { s.raiseBits 51 (2 ^ q) with od := t.od, out := t.out, sqHid := t.sqHid } ∧ ButAt t.sq s.sq q) := by
  have hrenew := renewLock_form s.noOut w q
  have hother := renewLock_sq_other s.noOut w q
  generalize s.noOut.renewLock w q = u at *
  have hug : u.g = s.g := by rw [hrenew]; rfl
  have hw : Writes s ((u.inc (K.SQ_STALE q)).raiseBits 51 (sqBit q)) [(K.SQ_STALE q, s.g (K.SQ_STALE q) + 1)] := fun j => by
    rw [raiseBits_g, State.inc_eq, State.g_p, hug, after, after]
  have hoff : ∀ j, j < K.SQ_STALE q → ((u.inc (K.SQ_STALE q)).raiseBits 51 (sqBit q)).g j = s.g j := fun j hj => by
    rw [hw j, after, if_neg (by omega), after]
  have hr : ((u.inc (K.SQ_STALE q)).raiseBits 51 (sqBit q)).raised = (s.raiseBits 51 (2 ^ q)).raised := 
    raiseBits_raised 51 (2 ^ q) (by rw [State.inc_eq, State.p_raised, hrenew]; rfl)
  have hform : ∃ od, (u.inc (K.SQ_STALE q)).raiseBits 51 (sqBit q) =
      { s.noOut with od := od, sqHid := u.sqHid, raised := (s.raiseBits 51 (2 ^ q)).raised } := by
    rw [raiseBits_form, hr, hrenew]
    exact ⟨_, rfl⟩
  obtain ⟨od, hform⟩ := hform
  rw [hform] at hb hw hoff
  refine (gives_answers ha hc hb hw (hoff _ (by omega)) (hoff _ ?_) rfl).imp fun t ht => ?_
  · simp only [K.SQ_STALE, K.TS_FN, key]; omega
  obtain ⟨hans, ht⟩ := ht
  have hsq : t.sqHid = u.sqHid := (congrArg State.sqHid ht :)
  refine ⟨hans, ht.trans ?_, fun j hj => (congrFun (sq_of_sqHid hsq) j).trans (hother j hj)⟩
  rw [hsq, raiseBits_form s]; rfl

/-! ## SQ_JUMP (R190 to R193) -/

/-- The request that the argument of SQ_JUMP asks for. -/
def jumpReq (arg fn : Nat) : SqReq :=
  { stop := false, whn := bits arg 127 126, target := bits arg 125 112, gen := bits arg 111 104, time := time92 (bits arg 91 0), fn := fn }

theorem sqJumpBody_idle (h : s.g (K.SQ_STATE q) ≤ 1) : s.sqJumpBody q arg = s.deny RC.state := if_pos h

theorem sqJumpBody_range (h : 2 ≤ s.g (K.SQ_STATE q)) (ht : bits arg 127 126 = 3 ∨ Seg.live (s.seg (bits arg 125 112)) = false) :
    s.sqJumpBody q arg = s.deny RC.range := by
  have hbad : bits arg 127 126 = 3 ∨ !Seg.live (s.seg (bits arg 125 112)) ∨
      (bits arg 127 126 = 2 ∧ s.beyondReach (time92 (bits arg 91 0))) := ht.imp_right fun h => .inl (by rw [h]; rfl)
  exact (if_neg (by omega)).trans (if_pos hbad)

section Target
variable (h : 2 ≤ s.g (K.SQ_STATE q)) (h3 : bits arg 127 126 < 3) (hl : Seg.live (s.seg (bits arg 125 112)) = true)
  (hr : bits arg 127 126 = 2 → s.beyondReach (time92 (bits arg 91 0)) = false)
include h h3 hl hr

/-- A sequencer that plays, and a target that is there and within reach: the owner and the generation of the target decide. -/
theorem sqJumpBody_target :
    s.sqJumpBody q arg =
      if Seg.owner (s.seg (bits arg 125 112)) ≠ q then s.deny RC.owner
      else if bits arg 111 104 ≠ Seg.gen (s.seg (bits arg 125 112)) then ((s.inc (K.SQ_STALE q)).raiseBits 51 (sqBit q)).deny RC.stale
      else s.holdReq q (jumpReq arg s.fn) := by
  have hgood : ¬(bits arg 127 126 = 3 ∨ !Seg.live (s.seg (bits arg 125 112)) ∨
      (bits arg 127 126 = 2 ∧ s.beyondReach (time92 (bits arg 91 0)))) := by
    rintro (h | h | ⟨h2, h⟩)
    · omega
    · rw [hl] at h; exact Bool.false_ne_true h
    · rw [hr h2] at h; exact Bool.false_ne_true h
  exact (if_neg (by omega)).trans (if_neg hgood)

end Target

section Jump
variable (hq : q < 8) (ha : s.admits w 1) (hlock : s.lockedOut w q = false) (hm : bits arg 43 0 < qSecond)

theorem exec_sqJump (hq : q < 8) (s : State) :
    exec (.sqJump w q arg) s = run (fun s => s.command (fun s => s.sqJumpCmd w q arg)) s := by
  show run (fun s => if q < 8 then s.command (fun s => s.sqJumpCmd w q arg) else s) s = _
  simp only [hq, if_true]

include hq ha hlock hm

theorem gives_sqJump_refused {code : Nat} (hb : (s.noOut.renewLock w q).sqJumpBody q arg = (s.noOut.renewLock w q).deny code) :
    Gives (.sqJump w q arg) s (fun t => Answers s t w (K.SQ_JUMP q) arg code 0 [] ∧
      t = { s with od := t.od, out := t.out, sqHid := t.sqHid } ∧ ButAt t.sq s.sq q) :=
  gives_refused ha (exec_sqJump hq s) ((if_neg (Nat.not_le.2 hm)).trans ((if_neg (ne_true_of_eq_false hlock)).trans hb))

end Jump

theorem renewLock_seg (s : State) (w : Who) (q e : Nat) : (s.noOut.renewLock w q).seg e = s.seg e := by
  rw [State.seg, renewLock_g]; rfl

theorem renewLock_beyondReach (s : State) (w : Who) (q t : Nat) : (s.noOut.renewLock w q).beyondReach t = s.beyondReach t := by
  rw [State.beyondReach, State.frameStart, State.fn, renewLock_g]; rfl

section Renewed
variable (h2 : 2 ≤ s.g (K.SQ_STATE q)) (h3 : bits arg 127 126 < 3) (hl : Seg.live (s.seg (bits arg 125 112)) = true)
  (hr : bits arg 127 126 = 2 → s.beyondReach (time92 (bits arg 91 0)) = false)
include h2 h3 hl hr

theorem renewed_sqJumpBody (w : Who) :
    (s.noOut.renewLock w q).sqJumpBody q arg =
      if Seg.owner (s.seg (bits arg 125 112)) ≠ q then (s.noOut.renewLock w q).deny RC.owner
      else if bits arg 111 104 ≠ Seg.gen (s.seg (bits arg 125 112)) then
        (((s.noOut.renewLock w q).inc (K.SQ_STALE q)).raiseBits 51 (sqBit q)).deny RC.stale
      else (s.noOut.renewLock w q).holdReq q (jumpReq arg s.fn) := by
  have h := sqJumpBody_target (s := s.noOut.renewLock w q) (q := q) (by rw [renewLock_g]; exact h2) h3
    (by rw [renewLock_seg]; exact hl) (fun h => by rw [renewLock_beyondReach]; exact hr h)
  rwa [renewLock_seg, State.fn, renewLock_g] at h

end Renewed

/-! ## SQ_STOP (R196) -/

/-- The request that SQ_STOP asks for. -/
def stopReq (arg fn : Nat) : SqReq := { stop := true, park := bit arg 0, fn := fn }

/-- What SQ_STOP does once the lock's lease is renewed. -/
def State.sqStopBody (s : State) (q arg : Nat) : CmdRes :=
  if s.g (K.SQ_STATE q) = 0 then s.deny RC.state else s.holdReq q (stopReq arg s.fn)

theorem exec_sqStop (hq : q < 8) (s : State) :
    exec (.sqStop w q arg) s = run (fun s => s.command (fun s => s.call w (K.SQ_STOP q) arg 1 (fun s =>
      if s.lockedOut w q then s.deny RC.locked else (s.renewLock w q).sqStopBody q arg))) s := by
  show run (fun s => if q < 8 then s.command (fun s => s.sqStopCmd w q arg) else s) s = _
  simp only [hq, if_true]
  rfl

theorem renewed_sqStopBody (s : State) (w : Who) (q arg : Nat) :
    (s.noOut.renewLock w q).sqStopBody q arg =
      if s.g (K.SQ_STATE q) = 0 then (s.noOut.renewLock w q).deny RC.state
      else (s.noOut.renewLock w q).holdReq q (stopReq arg s.fn) := by
  rw [State.sqStopBody, State.fn, renewLock_g]; rfl

end Requests

end Sys2Proof.Machine
end

section
/-! SUPPORT. SQ_START: arming each sequencer of a mask, and what its body answers in each case of R198. -/

namespace Sys2Proof.Machine

/-- What each update of a list establishes of its member, and every update keeps, holds of every member after them all. -/
theorem each_all {f : State → Nat → State} {I : State → Prop} {Q : Nat → State → Prop} (hI : ∀ s x, I s → I (f s x))
    (hself : ∀ s x, I s → Q x (f s x)) (hkeep : ∀ s x y, I s → Q y s → Q y (f s x)) :
    ∀ (l : List Nat) (s : State), I s → ∀ y, (y ∈ l ∨ Q y s) → Q y (s.each l f)
  | [], _, _, _, h => h.resolve_left List.not_mem_nil
  | x :: l, s, hs, y, h => by
    refine each_all hI hself hkeep l (f s x) (hI s x hs) y ?_
    rcases h with h | h
    · rcases List.mem_cons.1 h with rfl | h
      · exact .inr (hself s y hs)
      · exact .inl h
    · exact .inr (hkeep s x y hs h)

/-- What each update of a list leaves as it is, they all leave as it is. -/
theorem each_keeps {β : Type} {f : State → Nat → State} (p : State → β) :
    ∀ (l : List Nat) (s : State), (∀ s, ∀ x ∈ l, p (f s x) = p s) → p (s.each l f) = p s
  | [], _, _ => rfl
  | x :: l, s, h =>
    (each_keeps p l (f s x) fun s y hy => h s y (List.mem_cons_of_mem _ hy)).trans (h s x List.mem_cons_self)

/-- Several objects written in order: the latest write stands first. -/
theorem Writes.pAll (l : List (Nat × Nat)) : ∀ s : State, Writes s (s.pAll l) l.reverse := by
  induction l with
  | nil => exact Writes.refl
  | cons x l ih =>
    intro s j
    rw [List.reverse_cons, after_append]
    refine (ih (s.p x.1 x.2) j).trans (after_congr ?_ _)
    rw [State.g_p, after, after]

section Start

variable {s : State} {w : Who} {arg : Nat}

/-- The lead of a sequencer follows from SQ_OWN (subindex 1) and from objects of channels, below index 0x6000. -/
theorem largestLead_congr {s t : State} (h : ∀ j, keySub j = 1 ∨ keyIndex j < 0x6000 → t.g j = s.g j) (q : Nat) :
    t.largestLead q = s.largestLead q := by
  have hown : t.owns q = s.owns q := by
    funext c
    rw [State.owns, State.owns, h (K.SQ_OWN q) (.inl (by simp only [K.SQ_OWN, key, keySub]; omega))]
  rw [State.largestLead, State.largestLead, hown]
  refine List.foldl_ext _ _ _ fun m c hc => ?_
  have hc : c < 64 := List.mem_range.1 (List.mem_filter.1 hc).1
  rw [State.chLead, State.chLead, State.gi, State.gi, h (K.CH_SOURCE c) (.inr (by simp only [K.CH_SOURCE, key, keyIndex]; omega)),
    h (K.CH_DELAY c) (.inr (by simp only [K.CH_DELAY, key, keyIndex]; omega))]

/-! ## Arming (R173, R198) -/

/-- The objects that arming the sequencers of a mask writes. -/
def armObj (mask : List Nat) (j : Nat) : Bool :=
  mask.any (fun k => j == K.SQ_LEAD k || j == K.SQ_STATE k || j == K.SQ_JUMP_STATUS k || j == K.SQ_JUMP_FN k || j == K.SQ_ITER k)

/-- A sequencer's record once it is armed. -/
def SqHid.armed (h : SqHid) (start : Nat) : SqHid :=
  { nextId := h.nextId, levels := h.levels, cmp := h.cmp, renewed := h.renewed, startAt := some start }

theorem armSq_eq (s : State) (q start : Nat) : s.arm q start = (s.setSq q ((s.sq q).armed start)).pAll
    [(K.SQ_LEAD q, s.largestLead q), (K.SQ_STATE q, 1), (K.SQ_JUMP_STATUS q, 0), (K.SQ_JUMP_FN q, 0), (K.SQ_ITER q, 0)] := rfl

theorem armSq_writes (s : State) (q start : Nat) : Writes s (s.arm q start)
    [(K.SQ_ITER q, 0), (K.SQ_JUMP_FN q, 0), (K.SQ_JUMP_STATUS q, 0), (K.SQ_STATE q, 1), (K.SQ_LEAD q, s.largestLead q)] :=
  fun j => (Writes.pAll _ _ j)

/-- Writing several objects leaves what the write of one object leaves. -/
theorem pAll_keeps {β : Type} (p : State → β) (hp : ∀ s k v, p (s.p k v) = p s) (l : List (Nat × Nat)) (s : State) :
    p (s.pAll l) = p s :=
  foldl_same (α := Nat × Nat) p (fun s x => hp s x.1 x.2) l s

theorem SeqOnly.pAll (l : List (Nat × Nat)) (s : State) : SeqOnly s (s.pAll l) :=
  foldl_rel (α := Nat × Nat) SeqOnly SeqOnly.refl (fun _ _ _ => SeqOnly.trans) (fun s x => SeqOnly.p s x.1 x.2) l s

theorem armSq_sq_same (s : State) (q start : Nat) : (s.arm q start).sq q = (s.sq q).armed start := by
  rw [armSq_eq, pAll_keeps State.sq State.sq_p, State.sq_setSq_same]

theorem armSq_sq_other (s : State) (q start : Nat) : ButAt (s.arm q start).sq s.sq q := fun j hj => by
  rw [armSq_eq, pAll_keeps State.sq State.sq_p, State.sq_setSq_other _ _ hj]

theorem armSq_g_off (s : State) (q start : Nat) {j : Nat} (h : armObj [q] j = false) : (s.arm q start).g j = s.g j := by
  have hne : ∀ x, armObj [q] x = true → j ≠ x := by rintro x hx rfl; rw [h] at hx; exact Bool.false_ne_true hx
  rw [armSq_writes s q start j]
  simp only [after]
  rw [if_neg (hne _ (by simp [armObj])), if_neg (hne _ (by simp [armObj])), if_neg (hne _ (by simp [armObj])),
    if_neg (hne _ (by simp [armObj])), if_neg (hne _ (by simp [armObj]))]

theorem armSq_largestLead (s : State) (q start k : Nat) : (s.arm q start).largestLead k = s.largestLead k := by
  refine largestLead_congr (fun j hj => armSq_g_off s q start ?_) k
  simp only [armObj, List.any_cons, List.any_nil, Bool.or_false, Bool.or_eq_false_iff, beq_eq_false_iff_ne, K.SQ_LEAD, K.SQ_STATE,
    K.SQ_JUMP_STATUS, K.SQ_JUMP_FN, K.SQ_ITER, key, keySub, keyIndex] at *
  omega

theorem armSq_form (s : State) (q start : Nat) : SeqOnly s (s.arm q start) := by
  rw [armSq_eq]; exact (SeqOnly.setSq _ _ _).trans (.pAll _ _)

theorem armSq_raised (s : State) (q start : Nat) : (s.arm q start).raised = s.raised := by
  rw [armSq_eq, pAll_keeps State.raised State.p_raised, State.setSq_raised]

/-- What SQ_START tells of each sequencer it arms. -/
def ArmedObj (s t : State) (q : Nat) : Prop :=
  t.g (K.SQ_STATE q) = 1 ∧ t.g (K.SQ_LEAD q) = s.largestLead q ∧ t.g (K.SQ_JUMP_STATUS q) = 0 ∧ t.g (K.SQ_JUMP_FN q) = 0 ∧
    t.g (K.SQ_ITER q) = 0

theorem armSq_armedObj (s : State) (q start : Nat) : ArmedObj s (s.arm q start) q := by
  have h := armSq_writes s q start
  refine ⟨(h _).trans ?_, (h _).trans ?_, (h _).trans ?_, (h _).trans ?_, (h _).trans ?_⟩ <;>
    simp [after, K.SQ_LEAD, K.SQ_STATE, K.SQ_JUMP_STATUS, K.SQ_JUMP_FN, K.SQ_ITER, key]

theorem armSq_armedObj_other {u s : State} {q k : Nat} (start : Nat) (hk : k ≠ q) (h : ArmedObj u s k) :
    ArmedObj u (s.arm q start) k := by
  have hoff : ∀ sub < 256, (s.arm q start).g (key (0x6020 + k) sub 0) = s.g (key (0x6020 + k) sub 0) := fun sub hs =>
    armSq_g_off s q start (by
      simp only [armObj, List.any_cons, List.any_nil, Bool.or_false, Bool.or_eq_false_iff, beq_eq_false_iff_ne, K.SQ_LEAD,
        K.SQ_STATE, K.SQ_JUMP_STATUS, K.SQ_JUMP_FN, K.SQ_ITER, key]
      omega)
  obtain ⟨h1, h2, h3, h4, h5⟩ := h
  exact ⟨(hoff 0xa (by decide)).trans h1, (hoff 0xf (by decide)).trans h2, (hoff 0x14 (by decide)).trans h3,
    (hoff 0x15 (by decide)).trans h4, (hoff 0xc (by decide)).trans h5⟩

/-! ## A mask (R188, R198) -/

/-- A sequencer's record once the lease of its lock is renewed. -/
def State.renewedSq (s : State) (w : Who) (q : Nat) : SqHid :=
  { s.sq q with renewed := if s.g (K.SQ_LOCK_OWNER q) = identityOf w then s.tick else (s.sq q).renewed }

/-- The leases of the locks of a mask are renewed. -/
def State.renewMask (s : State) (w : Who) (mask : List Nat) : State := s.each mask (fun s q => s.renewLock w q)

theorem renewMask_form (s : State) (w : Who) (mask : List Nat) : ∃ sqs, s.renewMask w mask = { s with sqHid := sqs } :=
  foldl_rel (fun s t => ∃ sqs, t = { s with sqHid := sqs }) (fun _ => ⟨_, rfl⟩)
    (by rintro _ _ _ ⟨_, rfl⟩ ⟨_, rfl⟩; exact ⟨_, rfl⟩) (fun s q => ⟨_, renewLock_form s w q⟩) mask s

theorem renewedSq_renewLock (s : State) (w : Who) (x k : Nat) : (s.renewLock w x).renewedSq w k = s.renewedSq w k := by
  have ht : (s.renewLock w x).tick = s.tick := by rw [renewLock_form]
  rw [State.renewedSq, State.renewedSq, renewLock_g, ht]
  rcases eq_or_ne k x with rfl | h
  · rw [renewLock_sq_same]; split <;> rfl
  · rw [renewLock_sq_other s w x k h]

theorem renewMask_sq (s : State) (w : Who) (mask : List Nat) {k : Nat} (hk : k ∈ mask) :
    (s.renewMask w mask).sq k = s.renewedSq w k := by
  induction mask generalizing s with
  | nil => exact absurd hk List.not_mem_nil
  | cons x l ih =>
    by_cases hl : k ∈ l
    · exact (ih (s.renewLock w x) hl).trans (renewedSq_renewLock s w x k)
    · obtain rfl : k = x := (List.mem_cons.1 hk).resolve_right hl
      refine (each_keeps (State.sq · k) l (s.renewLock w k) fun s y hy => ?_).trans (renewLock_sq_same s w k)
      exact renewLock_sq_other s w y k (by rintro rfl; exact hl hy)

theorem renewMask_sq_off (s : State) (w : Who) (mask : List Nat) : ButThese (s.renewMask w mask).sq s.sq mask := fun j hj =>
  each_keeps (State.sq · j) mask s fun s x hx => renewLock_sq_other s w x j (by rintro rfl; simp [hx] at hj)

/-- The sequencers of a mask are armed for a start time, their locks renewed, and nothing else has changed. -/
structure ArmedBy (s t : State) (w : Who) (mask : List Nat) (start : Nat) : Prop where
  form : ∃ od sqs, t = { s.noOut with od := od, sqHid := sqs }
  off : ∀ j, armObj mask j = false → t.g j = s.g j
  objs : ∀ k ∈ mask, ArmedObj s t k
  sq : ∀ k ∈ mask, t.sq k = (s.renewedSq w k).armed start
  sqOff : ButThese t.sq s.sq mask

/-- The sequencers of a mask are armed. -/
def State.armMask (s : State) (mask : List Nat) (start : Nat) : State := s.each mask (fun s q => s.arm q start)

theorem armMask_cons (s : State) (x : Nat) (l : List Nat) (start : Nat) :
    s.armMask (x :: l) start = (s.arm x start).armMask l start := by
  rw [State.armMask, State.each, List.foldl_cons]; rfl

theorem armed_arm (s : State) (x k start : Nat) : ((s.arm x start).sq k).armed start = (s.sq k).armed start := by
  rcases eq_or_ne k x with rfl | h
  · rw [armSq_sq_same]; rfl
  · rw [armSq_sq_other s x start k h]

theorem armMask_sq (s : State) (mask : List Nat) (start : Nat) {k : Nat} (hk : k ∈ mask) :
    (s.armMask mask start).sq k = (s.sq k).armed start := by
  induction mask generalizing s with
  | nil => exact absurd hk List.not_mem_nil
  | cons x l ih =>
    rw [armMask_cons]
    by_cases hl : k ∈ l
    · exact (ih (s.arm x start) hl).trans (armed_arm s x k start)
    · obtain rfl : k = x := (List.mem_cons.1 hk).resolve_right hl
      refine (each_keeps (State.sq · k) l (s.arm k start) fun s y hy => ?_).trans (armSq_sq_same s k start)
      exact armSq_sq_other s y start k (by rintro rfl; exact hl hy)

theorem armMask_sq_off (s : State) (mask : List Nat) (start : Nat) : ButThese (s.armMask mask start).sq s.sq mask := fun j hj =>
  each_keeps (State.sq · j) mask s fun s x hx => armSq_sq_other s x start j (by rintro rfl; simp [hx] at hj)

theorem armMask_objs (s : State) (mask : List Nat) (start : Nat) : ∀ k ∈ mask, ArmedObj s (s.armMask mask start) k := by
  refine fun k hk => each_all (I := fun t => ∀ q, t.largestLead q = s.largestLead q) (Q := fun k t => ArmedObj s t k)
    (fun t x ht q => ?_) (fun t x ht => ?_) (fun t x y ht hy => ?_) mask s (fun _ => rfl) k (.inl hk)
  · exact (armSq_largestLead t x start q).trans (ht q)
  · have h := armSq_armedObj t x start
    rwa [ArmedObj, ht x] at h
  · rcases eq_or_ne y x with rfl | hne
    · have h := armSq_armedObj t y start
      rwa [ArmedObj, ht y] at h
    · exact armSq_armedObj_other start hne hy

theorem armMask_off (s : State) (mask : List Nat) (start : Nat) {j : Nat} (hj : armObj mask j = false) :
    (s.armMask mask start).g j = s.g j := by
  refine each_keeps (State.g · j) mask s fun s x hx => armSq_g_off s x start ?_
  rw [armObj, List.any_eq_false] at hj
  simpa [armObj] using hj x hx

theorem armMask_form (s : State) (mask : List Nat) (start : Nat) : ∃ od sqs, s.armMask mask start = { s with od := od, sqHid := sqs } := by
  obtain ⟨od, sqs, evs, h⟩ := foldl_rel SeqOnly SeqOnly.refl (fun _ _ _ => SeqOnly.trans) (fun s x => armSq_form s x start) mask s
  have hr : (s.armMask mask start).raised = s.raised := foldl_same State.raised (fun s x => armSq_raised s x start) mask s
  have he : evs = s.raised := (congrArg State.raised h).symm.trans hr
  exact ⟨od, sqs, h.trans (by rw [he])⟩

theorem armedBy_mask (s : State) (w : Who) (mask : List Nat) (start : Nat) :
    ArmedBy s ((s.noOut.renewMask w mask).armMask mask start) w mask start := by
  obtain ⟨sq1, hu⟩ := renewMask_form s.noOut w mask
  have hsq := fun k hk => renewMask_sq s.noOut w mask (k := k) hk
  have hsqo := renewMask_sq_off s.noOut w mask
  generalize s.noOut.renewMask w mask = u at *
  have hug : u.g = s.g := by rw [hu]; rfl
  refine ⟨?_, fun j hj => ?_, fun k hk => ?_, fun k hk => ?_, fun k hk => ?_⟩
  · obtain ⟨od, sqs, h⟩ := armMask_form u mask start
    exact ⟨od, sqs, by rw [h, hu]⟩
  · rw [armMask_off u mask start hj, hug]
  · have h := armMask_objs u mask start k hk
    rwa [ArmedObj, largestLead_congr (s := s) (fun j _ => congrFun hug j)] at h
  · rw [armMask_sq u mask start hk, hsq k hk]; rfl
  · rw [armMask_sq_off u mask start k hk, hsqo k hk]; rfl

/-! ## SQ_START (R54, R198, R200) -/

/-- The sequencers that the argument of SQ_START names, and its time. -/
def startMask (arg : Nat) : List Nat := bitList 8 (bits arg 127 120)
def startTime (arg : Nat) : Nat := time92 (bits arg 91 0)
/-- The start time: the one asked for, or the earliest frame where it is 0. -/
def startFrom (early time : Nat) : Nat := if time = 0 then early * qFrame else time

theorem frameOf_startFrom (early time : Nat) : frameOf (startFrom early time) = if time = 0 then early else frameOf time := by
  unfold startFrom frameOf
  split
  · exact Nat.mul_div_cancel _ (by decide)
  · rfl

/-- The earliest frame of a start: a stack start lies 2,560 frames ahead at least (R200). -/
def State.startEarly (s : State) (arg : Nat) : Nat :=
  if bit arg 119 then max (s.earliestStart (startMask arg)) (s.fn + 2560) else s.earliestStart (startMask arg)
/-- The time for which a start is armed. -/
def State.startAt (s : State) (arg : Nat) : Nat := startFrom (s.startEarly arg) (startTime arg)
/-- Why the mask may not start at the time asked for (R198). -/
def State.startBar (s : State) (arg : Nat) : Nat := s.startRefusal (startMask arg) (startTime arg)
/-- The mask is armed, and SQ_START_FN tells the frame. -/
def State.started (s : State) (arg : Nat) : State :=
  (s.armMask (startMask arg) (s.startAt arg)).p K.SQ_START_FN (frameOf (s.startAt arg))

theorem sqStartBody_eq (s : State) (arg : Nat) : s.sqStartBody arg =
    if bit arg 119 = true ∧ s.g K.STK_STATE ≠ 1 then s.deny RC.state
    else if bit arg 119 = true ∧ s.stkStart.isSome = true then s.deny RC.busy
    else if s.startBar arg = RC.horizon ∨ (s.startBar arg = 0 ∧ frameOf (s.startAt arg) < s.startEarly arg) then
      ⟨RC.horizon, s.startEarly arg, s⟩
    else if s.startBar arg ≠ 0 then s.deny (s.startBar arg)
    else if bit arg 119 = true then
      ({ s.started arg with stkStart := some (s.startAt arg, 0, 0) }.p K.SQ_STACK_RESULT 0).accept
    else (s.started arg).accept := rfl

theorem sqStartBody_notMaster (hs : bit arg 119 = true) (hk : s.g K.STK_STATE ≠ 1) : s.sqStartBody arg = s.deny RC.state := by
  rw [sqStartBody_eq, if_pos ⟨hs, hk⟩]

theorem sqStartBody_busy (hs : bit arg 119 = true) (hk : s.g K.STK_STATE = 1) (hb : s.stkStart.isSome = true) :
    s.sqStartBody arg = s.deny RC.busy := by
  rw [sqStartBody_eq, if_neg fun h => h.2 hk, if_pos ⟨hs, hb⟩]

/-- A start that is no stack start is refused for what bars its mask; for HORIZON with the earliest frame. -/
theorem sqStartBody_refused (hs : bit arg 119 = false) (hr : s.startBar arg ≠ 0) :
    s.sqStartBody arg = ⟨s.startBar arg, if s.startBar arg = RC.horizon then s.earliestStart (startMask arg) else 0, s⟩ := by
  have hns : ¬bit arg 119 = true := ne_true_of_eq_false hs
  have he : s.startEarly arg = s.earliestStart (startMask arg) := if_neg hns
  rw [sqStartBody_eq, if_neg fun h => hns h.1, if_neg fun h => hns h.1]
  by_cases hh : s.startBar arg = RC.horizon
  · rw [if_pos (.inl hh), if_pos hh, he, hh]
  · rw [if_neg (not_or.2 ⟨hh, fun h => hr h.1⟩), if_pos hr, if_neg hh]; rfl

section Accepted
variable (hr : s.startBar arg = 0) (hf : s.startEarly arg ≤ frameOf (s.startAt arg))
include hr hf

theorem sqStartBody_alone (hs : bit arg 119 = false) : s.sqStartBody arg = (s.started arg).accept := by
  have hns : ¬bit arg 119 = true := ne_true_of_eq_false hs
  rw [sqStartBody_eq, if_neg fun h => hns h.1, if_neg fun h => hns h.1,
    if_neg (not_or.2 ⟨by rw [hr]; decide, fun h => Nat.not_lt.2 hf h.2⟩), if_neg (not_not.2 hr), if_neg hns]

theorem sqStartBody_stack (hs : bit arg 119 = true) (hk : s.g K.STK_STATE = 1) (hb : s.stkStart = none) : s.sqStartBody arg =
    ({ s.started arg with stkStart := some (s.startAt arg, 0, 0) }.p K.SQ_STACK_RESULT 0).accept := by
  rw [sqStartBody_eq, if_neg fun h => h.2 hk, if_neg (by simp [hb]),
    if_neg (not_or.2 ⟨by rw [hr]; decide, fun h => Nat.not_lt.2 hf h.2⟩), if_neg (not_not.2 hr), if_pos hs]

end Accepted

/-- A start at a time asked for that is not barred lies at the earliest frame of the mask or later. -/
theorem earliestStart_le_of_startBar (hr : s.startBar arg = 0) (h0 : startTime arg ≠ 0) :
    s.earliestStart (startMask arg) ≤ frameOf (startTime arg) := by
  by_contra hlt
  have hlate : frameOf (startTime arg) < s.earliestStart (startMask arg) := Nat.lt_of_not_le hlt
  simp only [State.startBar, State.startRefusal, h0, hlate, ne_eq, not_false_eq_true, and_self, if_true] at hr
  split_ifs at hr

theorem after_of_not_mem {l : List (Nat × Nat)} {j : Nat} (h : ∀ x ∈ l, x.1 ≠ j) (g : Nat → Nat) : after g l j = g j := by
  induction l with
  | nil => rfl
  | cons x l ih =>
    rw [after, if_neg fun hj => h x List.mem_cons_self hj.symm, ih fun y hy => h y (List.mem_cons_of_mem _ hy)]

theorem renewMask_start (s : State) (w : Who) (arg : Nat) :
    (s.noOut.renewMask w (startMask arg)).startBar arg = s.startBar arg ∧
    (s.noOut.renewMask w (startMask arg)).startAt arg = s.startAt arg ∧
    (s.noOut.renewMask w (startMask arg)).startEarly arg = s.startEarly arg ∧
    (s.noOut.renewMask w (startMask arg)).earliestStart (startMask arg) = s.earliestStart (startMask arg) := by
  obtain ⟨sqs, h⟩ := renewMask_form s.noOut w (startMask arg)
  rw [h]; exact ⟨rfl, rfl, rfl, rfl⟩

theorem Writes.stkStart {t : State} {l : List (Nat × Nat)} (h : Writes s t l) (x : Option (Nat × Nat × Nat)) :
    Writes s { t with stkStart := x } l := h

section Commands
variable (ha : s.admits w 1) (hlock : ∀ k ∈ startMask arg, s.lockedOut w k = false) (hm : bits arg 43 0 < qSecond)

/-- What SQ_START does: a malformed time, then the locks of the mask, then its checks. -/
def State.sqStartChecked (s : State) (w : Who) (arg : Nat) : CmdRes :=
  if qSecond ≤ bits arg 43 0 then s.deny RC.malformed
  else if (startMask arg).any (s.lockedOut w) then s.deny RC.locked
  else (s.renewMask w (startMask arg)).sqStartBody arg

theorem exec_sqStart (s : State) : exec (.sqStart w arg) s =
    run (fun s => s.command (fun s => s.call w K.SQ_START arg 1 (fun s => s.sqStartChecked w arg))) s := rfl

include hlock hm in
theorem sqStartChecked_passes : s.noOut.sqStartChecked w arg = (s.noOut.renewMask w (startMask arg)).sqStartBody arg := by
  have hany : ¬(startMask arg).any (s.lockedOut w) = true := by
    simp only [List.any_eq_true, not_exists, not_and]
    exact fun k hk => ne_true_of_eq_false (hlock k hk)
  exact (if_neg (Nat.not_le.2 hm)).trans (if_neg hany)

include ha hlock hm

theorem gives_sqStart_refused {code value : Nat} (hb : (s.noOut.renewMask w (startMask arg)).sqStartBody arg =
      ⟨code, value, s.noOut.renewMask w (startMask arg)⟩) :
    Gives (.sqStart w arg) s (fun t => Answers s t w K.SQ_START arg code value [] ∧
      t = { s with od := t.od, out := t.out, sqHid := t.sqHid } ∧ ButThese t.sq s.sq (startMask arg)) := by
  have hbody := (sqStartChecked_passes hlock hm).trans hb
  obtain ⟨sqs, hform⟩ := renewMask_form s.noOut w (startMask arg)
  have hoff := renewMask_sq_off s.noOut w (startMask arg)
  rw [hform] at hbody hoff
  refine (gives_answers ha (exec_sqStart s) hbody (Writes.refl s) rfl rfl rfl).imp fun t ht => ?_
  obtain ⟨hans, ht⟩ := ht
  have hsq : t.sqHid = sqs := (congrArg State.sqHid ht :)
  refine ⟨hans, ht.trans (by rw [hsq]; rfl), fun j hj => ?_⟩
  exact (congrFun (sq_of_sqHid (s := { s.noOut with sqHid := sqs }) hsq) j).trans (hoff j hj)

/-- The mask is armed, and beside its objects only some below those of sequencers are written. -/
theorem gives_sqStart_armed {a r : State} {start : Nat} {l : List (Nat × Nat)} (harm : ArmedBy s a w (startMask arg) start)
    (hb : (s.noOut.renewMask w (startMask arg)).sqStartBody arg = ⟨RC.accepted, 0, r⟩) (hw : Writes a r l)
    (hl : ∀ x ∈ l, K.SQ_START + 6 < x.1 ∧ x.1 < K.SQ_OWN 0) (hsq : r.sqHid = a.sqHid) (ho : r.out = []) :
    Gives (.sqStart w arg) s (fun t => t.out = [.result RC.accepted 0] ∧
      WritesBut s t (armObj (startMask arg)) (recordOf s w K.SQ_START arg RC.accepted 0 ++ l) ∧
      (∀ k ∈ startMask arg, ArmedObj s t k ∧ t.sq k = (s.renewedSq w k).armed start) ∧ ButThese t.sq s.sq (startMask arg) ∧
      t = { r with pending := s.pending, od := t.od, out := t.out }) := by
  have hwb : WritesBut s r (armObj (startMask arg)) l := fun j hj => (hw j).trans (after_congr (harm.off j hj) l)
  have hlow : ∀ j, j ≤ K.SQ_START + 6 → r.g j = s.g j := fun j hj => by
    have hn : armObj (startMask arg) j = false := by
      simp only [armObj, List.any_eq_false, Bool.or_eq_true, beq_iff_eq, K.SQ_LEAD, K.SQ_STATE, K.SQ_JUMP_STATUS, K.SQ_JUMP_FN,
        K.SQ_ITER, K.SQ_START, key] at *
      omega
    rw [hwb j hn, after_of_not_mem fun x hx => ?_]
    have := (hl x hx).1
    omega
  have hhigh : ∀ j, K.SQ_OWN 0 ≤ j → r.g j = a.g j := fun j hj => by
    rw [hw j, after_of_not_mem fun x hx => ?_]
    have := (hl x hx).2
    omega
  refine (gives_answersBut ha (exec_sqStart s) ((sqStartChecked_passes hlock hm).trans hb) hwb (hlow _ (by omega))
    (hlow _ (by simp only [K.SQ_START, K.TS_FN, key]; omega)) ho).imp fun t ht => ?_
  obtain ⟨hout, hwt, hkeep, ht⟩ := ht
  have htq : t.sq = a.sq := sq_of_sqHid ((congrArg State.sqHid ht :).trans hsq)
  have htg : ∀ j, K.SQ_OWN 0 ≤ j → t.g j = a.g j := fun j hj =>
    (hkeep j (.inr (by simp only [K.SQ_OWN, K.SQ_START, key] at *; omega))).trans (hhigh j hj)
  refine ⟨hout, hwt, fun k hk => ⟨?_, by rw [htq, harm.sq k hk]⟩, by rw [htq]; exact harm.sqOff, ht⟩
  obtain ⟨h1, h2, h3, h4, h5⟩ := harm.objs k hk
  refine ⟨(htg _ ?_).trans h1, (htg _ ?_).trans h2, (htg _ ?_).trans h3, (htg _ ?_).trans h4, (htg _ ?_).trans h5⟩ <;>
    (simp only [K.SQ_OWN, K.SQ_STATE, K.SQ_LEAD, K.SQ_JUMP_STATUS, K.SQ_JUMP_FN, K.SQ_ITER, key]; omega)

/-- SQ_START accepted: the mask is armed for the start time. -/
theorem gives_sqStart_alone (hs : bit arg 119 = false) (hr : s.startBar arg = 0) (hf : s.startEarly arg ≤ frameOf (s.startAt arg)) :
    Gives (.sqStart w arg) s (fun t => t.out = [.result RC.accepted 0] ∧
      WritesBut s t (armObj (startMask arg)) (recordOf s w K.SQ_START arg RC.accepted 0 ++ [(K.SQ_START_FN, frameOf (s.startAt arg))]) ∧
      (∀ k ∈ startMask arg, ArmedObj s t k ∧ t.sq k = (s.renewedSq w k).armed (s.startAt arg)) ∧ ButThese t.sq s.sq (startMask arg) ∧
      t = { s with od := t.od, out := t.out, sqHid := t.sqHid }) := by
  obtain ⟨hbar, hat, hearly, -⟩ := renewMask_start s w arg
  have hb := sqStartBody_alone (hbar.trans hr) (by rw [hat, hearly]; exact hf) hs
  have harm := armedBy_mask s w (startMask arg) (s.startAt arg)
  rw [State.started, hat] at hb
  generalize (s.noOut.renewMask w (startMask arg)).armMask (startMask arg) (s.startAt arg) = a at *
  obtain ⟨od, sqs, hform⟩ := harm.form
  refine (gives_sqStart_armed ha hlock hm harm hb ((Writes.refl a).p K.SQ_START_FN (frameOf (s.startAt arg))) (by simp [K.SQ_START_FN, K.SQ_START, K.SQ_OWN, key])
    (State.p_sqHid _ _ _) (by rw [State.p_out, hform]; rfl)).imp fun t ht => ?_
  obtain ⟨hout, hwt, hobj, hbut, ht⟩ := ht
  refine ⟨hout, hwt, hobj, hbut, ht.trans ?_⟩
  rw [(congrArg State.sqHid ht :), State.p_sqHid, hform]; rfl

/-- A stack start accepted: the master sends it to its followers too. -/
theorem gives_sqStart_stack (hs : bit arg 119 = true) (hk : s.g K.STK_STATE = 1) (hn : s.stkStart = none) (hr : s.startBar arg = 0)
    (hf : s.startEarly arg ≤ frameOf (s.startAt arg)) :
    Gives (.sqStart w arg) s (fun t => t.out = [.result RC.accepted 0] ∧
      WritesBut s t (armObj (startMask arg)) (recordOf s w K.SQ_START arg RC.accepted 0 ++
        [(K.SQ_STACK_RESULT, 0), (K.SQ_START_FN, frameOf (s.startAt arg))]) ∧
      (∀ k ∈ startMask arg, ArmedObj s t k ∧ t.sq k = (s.renewedSq w k).armed (s.startAt arg)) ∧ ButThese t.sq s.sq (startMask arg) ∧
      t = { s with od := t.od, out := t.out, sqHid := t.sqHid, stkStart := some (s.startAt arg, 0, 0) }) := by
  obtain ⟨hbar, hat, hearly, -⟩ := renewMask_start s w arg
  obtain ⟨sqs, hu⟩ := renewMask_form s.noOut w (startMask arg)
  have hb := sqStartBody_stack (hbar.trans hr) (by rw [hat, hearly]; exact hf) hs (by rw [hu]; exact hk) (by rw [hu]; exact hn)
  have harm := armedBy_mask s w (startMask arg) (s.startAt arg)
  rw [State.started, hat] at hb
  clear hu
  generalize (s.noOut.renewMask w (startMask arg)).armMask (startMask arg) (s.startAt arg) = a at *
  obtain ⟨od, sqs, hform⟩ := harm.form
  have hw := (((Writes.refl a).p K.SQ_START_FN (frameOf (s.startAt arg))).stkStart (some (s.startAt arg, 0, 0))).p K.SQ_STACK_RESULT 0
  refine (gives_sqStart_armed ha hlock hm harm hb hw (by simp [K.SQ_START_FN, K.SQ_STACK_RESULT, K.SQ_START, K.SQ_OWN, key])
    (by rw [State.p_sqHid, State.p_sqHid]) (by rw [State.p_out, State.p_out, hform]; rfl)).imp fun t ht => ?_
  obtain ⟨hout, hwt, hobj, hbut, ht⟩ := ht
  refine ⟨hout, hwt, hobj, hbut, ht.trans ?_⟩
  rw [(congrArg State.sqHid ht :), State.p_sqHid, State.p_sqHid, hform]; rfl

end Commands

end Start

section Starts
variable {s : State} {arg : Nat}

theorem startEarly_alone (hs : bit arg 119 = false) : s.startEarly arg = s.earliestStart (startMask arg) :=
  if_neg (ne_true_of_eq_false hs)
theorem startEarly_stack (hs : bit arg 119 = true) : s.startEarly arg = max (s.earliestStart (startMask arg)) (s.fn + 2560) := if_pos hs

theorem frameOf_startAt (s : State) (arg : Nat) :
    frameOf (s.startAt arg) = if startTime arg = 0 then s.startEarly arg else frameOf (startTime arg) := frameOf_startFrom _ _

theorem startEarly_le_alone (hs : bit arg 119 = false) (hr : s.startBar arg = 0) : s.startEarly arg ≤ frameOf (s.startAt arg) := by
  rw [frameOf_startAt, startEarly_alone hs]
  split
  · exact Nat.le_refl _
  · next h0 => exact earliestStart_le_of_startBar hr h0

end Starts

/-- Settles O38, by the cases of `sqJumpBody`, `holdReq` and `sqStartBody`. -/
theorem sequencerRequests : Obligations.SequencerRequests := by
  intro s w q arg hq ha
  refine ⟨?_, ?_, ?_, ?_, ?_, ?_, ?_, ?_, ?_, ?_, ?_, ?_, ?_, ?_, ?_, ?_, ?_, ?_, ?_⟩
  · intro hlock hm h2 h3 hl hr how hgen hst
    have hb := renewed_sqJumpBody h2 h3 hl hr w
    rw [if_neg (not_not.2 how), if_neg (not_not.2 hgen.symm)] at hb
    exact gives_held (by simp only [K.SQ_JUMP_STATUS, K.SQ_JUMP, key]; omega) ha (exec_sqJump hq s)
      ((if_neg (Nat.not_le.2 hm)).trans ((if_neg (ne_true_of_eq_false hlock)).trans hb)) hst
  · intro hlock hm h1
    exact gives_sqJump_refused hq ha hlock hm (sqJumpBody_idle (by rw [renewLock_g]; exact h1))
  · intro hlock hm h2 hbad
    exact gives_sqJump_refused hq ha hlock hm (sqJumpBody_range (by rw [renewLock_g]; exact h2) (by rw [renewLock_seg]; exact hbad))
  · intro hlock hm h2 h3 hl how
    have hb := renewed_sqJumpBody h2 (by omega) hl (by omega) w
    exact gives_sqJump_refused hq ha hlock hm (hb.trans (if_pos how))
  · intro hlock hm h2 h3 hl how hgen
    have hb := renewed_sqJumpBody h2 (by omega) hl (by omega) w
    rw [if_neg (not_not.2 how), if_pos hgen.symm] at hb
    exact gives_stale (by simp only [K.SQ_STALE, K.SQ_JUMP, key]; omega) ha (exec_sqJump hq s)
      ((if_neg (Nat.not_le.2 hm)).trans ((if_neg (ne_true_of_eq_false hlock)).trans hb))
  · intro hm
    exact gives_denied ha (exec_sqJump hq s) (if_pos hm)
  · intro hlock hm
    exact gives_denied ha (exec_sqJump hq s) ((if_neg (Nat.not_le.2 hm)).trans (if_pos hlock))
  · intro hlock hm h2 h3 hl how hgen hst
    have hb := renewed_sqJumpBody h2 (by omega) hl (by omega) w
    rw [if_neg (not_not.2 how), if_neg (not_not.2 hgen.symm), holdReq_busy (by rw [renewLock_g]; exact hst)] at hb
    exact gives_sqJump_refused hq ha hlock hm hb
  · intro hlock h1 hst
    exact gives_held (by simp only [K.SQ_JUMP_STATUS, K.SQ_STOP, key]; omega) ha (exec_sqStop hq s)
      ((if_neg (ne_true_of_eq_false hlock)).trans ((renewed_sqStopBody s w q arg).trans (if_neg (by omega)))) hst
  · intro hlock h1 hst
    exact gives_refused ha (exec_sqStop hq s) ((if_neg (ne_true_of_eq_false hlock)).trans
      ((renewed_sqStopBody s w q arg).trans ((if_neg (by omega)).trans (holdReq_busy (by rw [renewLock_g]; exact hst)))))
  · intro hlock h0
    exact gives_refused ha (exec_sqStop hq s) ((if_neg (ne_true_of_eq_false hlock)).trans
      ((renewed_sqStopBody s w q arg).trans (if_pos h0)))
  · intro hlock
    exact gives_denied ha (exec_sqStop hq s) (if_pos hlock)
  · intro hlock hm hs hr
    refine (gives_sqStart_alone ha hlock hm hs hr (startEarly_le_alone hs hr)).imp fun t ht => ?_
    obtain ⟨hout, hwt, hobj, hbut, ht⟩ := ht
    rw [frameOf_startAt, startEarly_alone hs] at hwt
    rw [State.startAt, startEarly_alone hs] at hobj
    refine ⟨hout, hwt, fun k hk => ?_, hbut, ht⟩
    obtain ⟨⟨hstate, hlead, hstatus, hfn, hiter⟩, hsq⟩ := hobj k hk
    exact ⟨hstate, hlead, hstatus, hfn, hiter, hsq⟩
  · intro hlock hm hs hr
    obtain ⟨hbar, -, -, hearliest⟩ := renewMask_start s w arg
    have hb := sqStartBody_refused (s := s.noOut.renewMask w (startMask arg)) hs (by rw [hbar]; exact hr)
    rw [hbar, hearliest] at hb
    exact gives_sqStart_refused ha hlock hm hb
  · intro hm ⟨k, hk, hlock⟩
    exact gives_denied ha (exec_sqStart s) ((if_neg (Nat.not_le.2 hm)).trans (if_pos (List.any_eq_true.2 ⟨k, hk, hlock⟩)))
  · intro hm
    exact gives_denied ha (exec_sqStart s) (if_pos hm)
  · intro hlock hm hs hk
    obtain ⟨sqs, hu⟩ := renewMask_form s.noOut w (startMask arg)
    exact gives_sqStart_refused ha hlock hm (sqStartBody_notMaster hs (by rw [hu]; exact hk))
  · intro hlock hm hs hk hb
    obtain ⟨sqs, hu⟩ := renewMask_form s.noOut w (startMask arg)
    exact gives_sqStart_refused ha hlock hm (sqStartBody_busy hs (by rw [hu]; exact hk) (by rw [hu]; exact hb))
  · intro hlock hm hs hk hn hr hahead hearliest
    have hf : s.startEarly arg ≤ frameOf (s.startAt arg) := by
      rw [frameOf_startAt, startEarly_stack hs]; exact Nat.max_le.2 ⟨hearliest, hahead⟩
    refine (gives_sqStart_stack ha hlock hm hs hk hn hr hf).imp fun t ht => ?_
    obtain ⟨hout, hwt, hobj, hbut, ht⟩ := ht
    rw [frameOf_startAt, startEarly_stack hs] at hwt
    rw [State.startAt, startEarly_stack hs] at hobj ht
    refine ⟨hout, hwt, fun k hk => ?_, hbut, ht⟩
    obtain ⟨⟨hstate, -⟩, hsq⟩ := hobj k hk
    exact ⟨hstate, congrArg SqHid.startAt hsq⟩

end Sys2Proof.Machine
end

section
/-! SUPPORT. The dictionary over BAR0: what a write of one word does in each case of R55, R537 and R538, and the outcome it leaves. -/

namespace Sys2Proof.Machine

variable {s : State} {k v x j : Nat} {d : ObjDef}

/-! ## Writing an object (R517, R522, R529) -/

/-- A type whose objects are written by a value of their own: neither a table nor a command. -/
def OType.single : OType → Bool
  | .tbl _ _ => false
  | .cmd _ => false
  | _ => true

theorem writeObj_single {w : Who} {sess : Nat} (ht : s.writeTarget k = .ok d) (hty : d.ty.single = true)
    (hp : writeNeed k d.acc ≤ s.privOf w) : s.writeObj w sess k v = s.writeFit w sess d k none v := by
  simp only [State.writeObj, ht]
  cases hd : d.ty <;> simp_all [OType.single, Nat.not_lt.2 hp]

theorem writeFit_staged {w : Who} {sess : Nat} {row : Option Nat} (hf : fitValue k d.ty v = .ok x) (ha : d.acc = .rws)
    (hr : s.sessRefusal w sess = 0) : s.writeFit w sess d k row v = s.stage sess (atRow k (row.getD 0)) x := by
  simp only [State.writeFit, hf, ha, hr, if_true, ne_eq, not_true_eq_false, if_false]

theorem writeFit_now {w : Who} {sess : Nat} (hf : fitValue k d.ty v = .ok x) (ha : d.acc ≠ .rws) :
    s.writeFit w sess d k none v = s.writeNow w k x := by
  simp only [State.writeFit, hf, ha, if_false]

theorem stage_open (h1 : s.g (K.SESS_STATE j) = 1) (hl : (s.sessOf j).staged.length < 8192) :
    s.stage j k v = (s.setSess j { s.sessOf j with staged := stageIn (s.sessOf j).staged k v }).done := by
  rw [State.stage, if_neg (by omega), if_neg (by omega)]

/-- The privilege of queue pair 0 is ADMIN, and no write needs more. -/
theorem privOf_bar0Who (s : State) (epoch : Nat) : s.privOf (bar0Who epoch) = 3 := rfl

theorem writeNeed_le (k : Nat) (a : Acc) : writeNeed k a ≤ 3 := by
  unfold writeNeed; split_ifs <;> decide

/-! ## The BAR0 session (R525, R537) -/

/-- The owner of a live BAR0 session is queue pair 0 with the boot epoch that the session keeps. -/
theorem sessRefusal_bar0Me (h : s.bar0Live = true) : s.sessRefusal s.bar0Me (s.g K.BAR0_SESSION) = 0 := by
  have hme : s.bar0Me = bar0Who (s.g (K.SESS_OWNER (s.g K.BAR0_SESSION)) % 2 ^ 32) := by rw [State.bar0Me, if_pos h]
  simp only [State.bar0Live, Bool.and_eq_true, beq_iff_eq] at h
  obtain ⟨hlive, hparty⟩ := h
  have howner : s.g (K.SESS_OWNER (s.g K.BAR0_SESSION)) = identityOf s.bar0Me := by
    rw [hme]
    simp only [identityParty, identityOf, bar0Who] at *
    omega
  simp [State.sessRefusal, hlive, howner]

/-- The state in which a write through BAR0 runs in a live session: its lease renewed (R527), nothing held of a wide value. -/
def State.bar0Begun (s : State) : State := { s.noOut.renewSess (s.g K.BAR0_SESSION) with barHold := none }

@[simp] theorem bar0Begun_g (s : State) : s.bar0Begun.g = s.g := rfl

theorem bar0Begun_sess_same (s : State) :
    s.bar0Begun.sessOf (s.g K.BAR0_SESSION) = { s.sessOf (s.g K.BAR0_SESSION) with renewed := s.tick } := Sp.get_set_same _ _ _ _

theorem bar0Begun_sess_other (s : State) : ButAt s.bar0Begun.sessOf s.sessOf (s.g K.BAR0_SESSION) := fun _ hj =>
  Sp.get_set_other _ _ _ hj

/-- The live session with its lease renewed and a value staged. -/
def State.bar0Sess (s : State) (a x : Nat) : SessHid :=
  let h := s.sessOf (s.g K.BAR0_SESSION)
  { h with renewed := s.tick, staged := stageIn h.staged a x }

/-- The state in which a value stands staged in the live session. -/
def State.bar0Staged (s : State) (a x : Nat) : State :=
  s.bar0Begun.setSess (s.g K.BAR0_SESSION) (s.bar0Sess a x)

theorem bar0Staged_sess_same (s : State) (a x : Nat) :
    (s.bar0Staged a x).sessOf (s.g K.BAR0_SESSION) = s.bar0Sess a x := Sp.get_set_same _ _ _ _

theorem bar0Staged_sess_other (s : State) (a x : Nat) : ButAt (s.bar0Staged a x).sessOf s.sessOf (s.g K.BAR0_SESSION) := fun i hi =>
  (Sp.get_set_other _ _ _ hi).trans (bar0Begun_sess_other s i hi)

theorem begun_stage {a x : Nat} (h1 : s.g (K.SESS_STATE (s.g K.BAR0_SESSION)) = 1)
    (hn : (s.sessOf (s.g K.BAR0_SESSION)).staged.length < 8192) :
    s.bar0Begun.stage (s.g K.BAR0_SESSION) a x = (s.bar0Staged a x).done := by
  have hst := stage_open (s := s.bar0Begun) (k := a) (v := x) h1 (by rw [bar0Begun_sess_same]; exact hn)
  rw [bar0Begun_sess_same] at hst
  exact hst

theorem noOut_g (s : State) : s.noOut.g = s.g := rfl

theorem bar0Renew_live (h : s.bar0Live = true) : s.noOut.bar0Renew = s.noOut.renewSess (s.g K.BAR0_SESSION) := if_pos h

theorem bar0Renew_none (h : s.bar0Live = false) : s.noOut.bar0Renew = s.noOut := if_neg (ne_true_of_eq_false h)

theorem bar0Renew_form (s : State) : ∃ ss, s.noOut.bar0Renew = { s.noOut with sess := ss } := by
  unfold State.bar0Renew; split
  · exact ⟨_, rfl⟩
  · exact ⟨_, rfl⟩

/-! ## One word (R55, R537) -/

section Put
variable (ho : k ≠ K.BAR0_OPEN) (hs : k ≠ K.BAR0_SESSION)
include ho hs

theorem bar0Put_noSession (h : s.bar0Live = false) : s.bar0Put k v = { s with barHold := none }.deny RC.noSession := by
  have h' : State.bar0Live { s with barHold := none } = false := h
  simp [State.bar0Put, ho, hs, h']

variable (h : s.bar0Live = true)
include h

theorem bar0Put_upper (hu : upperOf k = true) (ht : s.writeTarget (k - 65536) = .ok d) :
    s.bar0Put k v = ({ s with barHold := some (k - 65536, v) } : State).done := by
  have h' : State.bar0Live { s with barHold := none } = true := h
  have ht' : State.writeTarget { s with barHold := none } (k - 65536) = .ok d := ht
  simp [State.bar0Put, ho, hs, h', hu, ht']

variable (hu : upperOf k = false)
include hu

theorem bar0Put_word (hw : wideAt k = false) :
    s.bar0Put k v = { s with barHold := none }.writeObj s.bar0Me (s.g K.BAR0_SESSION) k v := by
  have h' : State.bar0Live { s with barHold := none } = true := h
  simp [State.bar0Put, ho, hs, h', hu, hw]
  rfl

variable (hw : wideAt k = true) (ht : s.writeTarget k = .ok d)
include hw ht

theorem bar0Put_low {x : Nat} (hh : s.barHold = some (k, x)) :
    s.bar0Put k v = { s with barHold := none }.writeObj s.bar0Me (s.g K.BAR0_SESSION) k (x * 2 ^ 64 + v) := by
  have h' : State.bar0Live { s with barHold := none } = true := h
  have ht' : State.writeTarget { s with barHold := none } k = .ok d := ht
  simp [State.bar0Put, ho, hs, h', hu, hw, ht', hh]
  rfl

theorem bar0Put_low_bare (hh : s.barHold = none) : s.bar0Put k v = { s with barHold := none }.deny RC.malformed := by
  have h' : State.bar0Live { s with barHold := none } = true := h
  have ht' : State.writeTarget { s with barHold := none } k = .ok d := ht
  simp [State.bar0Put, ho, hs, h', hu, hw, ht', hh]

end Put

/-! ## The outcome (R537, R538) -/

/-- BAR0_RESULT after a write: its result code, its address, and one more write counted. -/
def State.bar0Outcome (s : State) (code k : Nat) : Nat :=
  code * 2 ^ 56 + keyIndex k * 2 ^ 40 + keySub k * 2 ^ 32 + (s.g K.BAR0_RESULT + 1) % 2 ^ 32

theorem bar0Outcome_ok (s : State) (k : Nat) :
    s.bar0Outcome RC.ok k = keyIndex k * 2 ^ 40 + keySub k * 2 ^ 32 + (s.g K.BAR0_RESULT + 1) % 2 ^ 32 := by
  rw [State.bar0Outcome, Nat.zero_mul, Nat.zero_add]

theorem bar0Outcome_noOut (s : State) (code k : Nat) : s.noOut.bar0Outcome code k = s.bar0Outcome code k := by
  rw [State.bar0Outcome, State.bar0Outcome, noOut_g]

theorem bar0Write_put {code value : Nat} {r : State} (hb : s.bar0Renew.bar0Put k (v % 2 ^ 64) = ⟨code, value, r⟩) :
    s.bar0Write k v = (r.p K.BAR0_RESULT (s.bar0Outcome code k)).emit (.result code value) := by
  rw [State.bar0Write, hb, State.bar0Outcome]

/-- An object written and an answer given, after what a command does. -/
theorem writes_p_emit {r : State} {l : List (Nat × Nat)} (hw : Writes s r l) (n x : Nat) (o : Out) (q : List Instr) :
    Writes s { (r.p n x).emit o with pending := q } ((n, x) :: l) := hw.p n x

theorem p_emit_form (r : State) (n x : Nat) (o : Out) (q : List Instr) :
    ({ (r.p n x).emit o with pending := q } : State) =
      { r with pending := q, od := ({ (r.p n x).emit o with pending := q } : State).od,
               out := ({ (r.p n x).emit o with pending := q } : State).out } := rfl

theorem p_emit_out {r : State} (h : r.out = []) (n x : Nat) (o : Out) (q : List Instr) :
    ({ (r.p n x).emit o with pending := q } : State).out = [o] := congrArg (· ++ [o]) h

theorem gives_noOut {c : Instr} {f : State → State} {P : State → Prop} (hm : s.mode ≠ 0) (hc : exec c s = run f s)
    (h : P { f s.noOut with pending := s.pending }) : Gives c s P :=
  gives_of_run hm c hc h

/-- A write of one word leaves what it does, and its outcome. -/
theorem gives_bar0Write {c : Instr} {code value : Nat} {r : State} {l : List (Nat × Nat)} (hm : s.mode ≠ 0)
    (hc : exec c s = run (fun s => s.bar0Write k v) s) (hb : s.noOut.bar0Renew.bar0Put k (v % 2 ^ 64) = ⟨code, value, r⟩)
    (hw : Writes s r l) (ho : r.out = []) :
    Gives c s (fun t => t.out = [.result code value] ∧ Writes s t ((K.BAR0_RESULT, s.bar0Outcome code k) :: l) ∧
      t = { r with pending := s.pending, od := t.od, out := t.out }) := by
  have hwrite := bar0Write_put (s := s.noOut) hb
  rw [bar0Outcome_noOut] at hwrite
  refine gives_noOut hm hc ?_
  rw [hwrite]
  exact ⟨p_emit_out ho _ _ _ _, writes_p_emit hw _ _ _ _, p_emit_form _ _ _ _ _⟩

theorem exec_objectWrite {off len : Nat} (h8 : off % 8 = 0) (hl : len = 8) :
    exec (.objectWrite off len v) s = run (fun s => s.bar0Write (opKey (off / 2048) (off / 8)) v) s := by
  show run (fun s => if len = 8 ∧ off % 8 = 0 then s.bar0Write (opKey (off / 2048) (off / 8)) v
    else s.bar0Narrow (opKey (off / 2048) (off / 8))) s = _
  simp only [hl, h8, and_self, if_true]

section Done
variable {c : Instr} (hm : s.mode ≠ 0) (hc : exec c s = run (fun s => s.bar0Write k v) s)
include hm hc

/-- A write in a live session that changes no more than the session's lease, what is held of a wide value, and some objects. -/
theorem gives_bar0_live {code : Nat} {r : State} {l : List (Nat × Nat)} {held : Option (Nat × Nat)}
    (hb : s.noOut.bar0Renew.bar0Put k (v % 2 ^ 64) = ⟨code, 0, r⟩) (hw : Writes s r l)
    (hr : r = { s.bar0Begun with od := r.od, barHold := held }) :
    Gives c s (fun t => Writes s t ((K.BAR0_RESULT, s.bar0Outcome code k) :: l) ∧
      t = { s.setSess (s.g K.BAR0_SESSION) { s.sessOf (s.g K.BAR0_SESSION) with renewed := s.tick } with
        od := t.od, out := [.result code 0], barHold := held }) := by
  refine (gives_bar0Write hm hc hb hw (by rw [hr]; rfl)).imp fun t ht => ?_
  obtain ⟨hout, hwt, ht⟩ := ht
  refine ⟨hwt, ht.trans ?_⟩
  rw [hr, hout]; rfl

/-- A write that stages a value in the live session, and changes some objects beside. -/
theorem gives_bar0_staged {a x : Nat} {r : State} {l : List (Nat × Nat)} (hb : s.noOut.bar0Renew.bar0Put k (v % 2 ^ 64) = ⟨RC.ok, 0, r⟩)
    (hw : Writes s r l) (hr : r = { s.bar0Staged a x with od := r.od }) :
    Gives c s (fun t => Writes s t ((K.BAR0_RESULT, s.bar0Outcome RC.ok k) :: l) ∧
      t.sessOf (s.g K.BAR0_SESSION) = s.bar0Sess a x ∧ ButAt t.sessOf s.sessOf (s.g K.BAR0_SESSION) ∧
      t = { s with od := t.od, out := [.result RC.ok 0], sess := t.sess, barHold := none }) := by
  refine (gives_bar0Write hm hc hb hw (by rw [hr]; rfl)).imp fun t ht => ?_
  obtain ⟨hout, hwt, ht⟩ := ht
  rw [hr, hout] at ht
  have hsess : t.sess = (s.bar0Staged a x).sess := (congrArg State.sess ht :)
  have hsessOf : t.sessOf = (s.bar0Staged a x).sessOf := by funext i; rw [State.sessOf, hsess, State.sessOf]
  refine ⟨hwt, ?_, ?_, ht.trans ?_⟩
  · rw [hsessOf]; exact bar0Staged_sess_same s a x
  · rw [hsessOf]; exact bar0Staged_sess_other s a x
  · rw [hsess]; rfl

end Done

end Sys2Proof.Machine
end

section
/-! SUPPORT. The dictionary over BAR0: the words of an object (R55, R517, R537), as a live session finds them. -/

namespace Sys2Proof.Machine

variable {s : State} {k v x h : Nat} {d : ObjDef} {c : Instr}

theorem bar0Live_congr {t : State} (h : t.g = s.g) : t.bar0Live = s.bar0Live := by
  simp only [State.bar0Live, State.sessLive, h]

theorem bar0Me_congr {t : State} (h : t.g = s.g) : t.bar0Me = s.bar0Me := by
  simp only [State.bar0Me, bar0Live_congr h, h]

theorem privOf_bar0Me (s u : State) : u.privOf s.bar0Me = 3 := rfl

theorem renewSess_g (s : State) (j : Nat) : (s.noOut.renewSess j).g = s.g := rfl

theorem writeTarget_begun (s : State) (k : Nat) : s.bar0Begun.writeTarget k = s.writeTarget k := rfl

section Begun
variable (hl : s.bar0Live = true) (ho : k ≠ K.BAR0_OPEN) (hs : k ≠ K.BAR0_SESSION)
include hl ho hs

theorem begun_put_word (hu : upperOf k = false) (hw : wideAt k = false) :
    s.noOut.bar0Renew.bar0Put k v = s.bar0Begun.writeObj s.bar0Me (s.g K.BAR0_SESSION) k v := by
  have hg := renewSess_g s (s.g K.BAR0_SESSION)
  have hput := bar0Put_word (v := v) ho hs ((bar0Live_congr hg).trans hl) hu hw
  rw [bar0Me_congr hg, hg] at hput
  rw [bar0Renew_live hl]
  exact hput

theorem begun_put_low (hu : upperOf k = false) (hw : wideAt k = true) (ht : s.writeTarget k = .ok d) (hh : s.barHold = some (k, h)) :
    s.noOut.bar0Renew.bar0Put k v = s.bar0Begun.writeObj s.bar0Me (s.g K.BAR0_SESSION) k (h * 2 ^ 64 + v) := by
  have hg := renewSess_g s (s.g K.BAR0_SESSION)
  have hput := bar0Put_low (v := v) ho hs ((bar0Live_congr hg).trans hl) hu hw ht hh
  rw [bar0Me_congr hg, hg] at hput
  rw [bar0Renew_live hl]
  exact hput

theorem begun_put_low_bare (hu : upperOf k = false) (hw : wideAt k = true) (ht : s.writeTarget k = .ok d) (hh : s.barHold = none) :
    s.noOut.bar0Renew.bar0Put k v = s.bar0Begun.deny RC.malformed := by
  rw [bar0Renew_live hl]
  exact bar0Put_low_bare ho hs ((bar0Live_congr (renewSess_g s _)).trans hl) hu hw ht hh

theorem begun_put_upper (hu : upperOf k = true) (ht : s.writeTarget (k - 65536) = .ok d) :
    s.noOut.bar0Renew.bar0Put k v = State.done { s.bar0Begun with barHold := some (k - 65536, v) } := by
  rw [bar0Renew_live hl]
  exact bar0Put_upper ho hs ((bar0Live_congr (renewSess_g s _)).trans hl) hu ht

end Begun

/-- A value that fits an RWS object is staged, whatever way its words came. -/
theorem begun_writeObj_staged (hl : s.bar0Live = true) (ht : s.writeTarget k = .ok d) (hty : d.ty.single = true) (ha : d.acc = .rws)
    (hf : fitValue k d.ty v = .ok x) :
    s.bar0Begun.writeObj s.bar0Me (s.g K.BAR0_SESSION) k v = s.bar0Begun.stage (s.g K.BAR0_SESSION) (atRow k 0) x := by
  have hr : s.bar0Begun.sessRefusal s.bar0Me (s.g K.BAR0_SESSION) = 0 := sessRefusal_bar0Me hl
  rw [writeObj_single ((writeTarget_begun s k).trans ht) hty ((writeNeed_le k d.acc).trans (privOf_bar0Me s s.bar0Begun).ge),
    writeFit_staged hf ha hr]
  rfl

theorem writeObj_readOnly {w : Who} {sess : Nat} (hb : s.bootRom = false) (hi : keyIndex k < 0xF000) (hs : keySub k ≠ 0)
    (hd : objAt (keyIndex k) (keySub k) = some d) (ha : d.acc = .ro) : s.writeObj w sess k v = s.deny RC.access := by
  have ht : s.writeTarget k = .error RC.access := by
    simp [State.writeTarget, State.hidden, hb, Nat.not_le.2 hi, hs, hd, ha]
  rw [State.writeObj, ht]

/-- A write without a session answers NO_SESSION. -/
theorem gives_bar0_noSession (hm : s.mode ≠ 0) (hc : exec c s = run (fun s => s.bar0Write k v) s) (ho : k ≠ K.BAR0_OPEN)
    (hs : k ≠ K.BAR0_SESSION) (hl : s.bar0Live = false) :
    Gives c s (fun t => Writes s t [(K.BAR0_RESULT, s.bar0Outcome RC.noSession k)] ∧
      t = { s with od := t.od, out := [.result RC.noSession 0], barHold := none }) := by
  have hb : s.noOut.bar0Renew.bar0Put k (v % 2 ^ 64) = State.deny { s.noOut with barHold := none } RC.noSession := by
    rw [bar0Renew_none hl]
    exact bar0Put_noSession ho hs hl
  refine (gives_bar0Write hm hc hb (Writes.refl s) rfl).imp fun t ht => ?_
  obtain ⟨hout, hwt, ht⟩ := ht
  exact ⟨hwt, ht.trans (by rw [hout]; rfl)⟩

/-! ## The table port objects (R539) -/

/-- An object of index 0x2001 other than TBL_SEL is written at once, as it stands. -/
theorem writeNow_port {w : Who} (hi : keyIndex k = 0x2001) (hn : k ≠ K.TBL_SEL) : s.writeNow w k v = (s.p k v).done := by
  have hb : k ≠ K.BAR0_SESSION := fun h => absurd (h ▸ hi) (by decide)
  simp [State.writeNow, hi, hn, hb]

theorem gives_bar0_port (hm : s.mode ≠ 0) (hc : exec c s = run (fun s => s.bar0Write k v) s) (hl : s.bar0Live = true)
    (hi : keyIndex k = 0x2001) (hn : k ≠ K.TBL_SEL) (hu : upperOf k = false) (hw : wideAt k = false) (ht : s.writeTarget k = .ok d)
    (hty : d.ty.single = true) (ha : d.acc = .rw) (hf : fitValue k d.ty (v % 2 ^ 64) = .ok x) :
    Gives c s (fun t => Writes s t [(K.BAR0_RESULT, s.bar0Outcome RC.ok k), (k, x)] ∧
      t = { s.setSess (s.g K.BAR0_SESSION) { s.sessOf (s.g K.BAR0_SESSION) with renewed := s.tick } with
        od := t.od, out := [.result RC.ok 0], barHold := none }) := by
  have ho : k ≠ K.BAR0_OPEN := fun h => absurd (h ▸ hi) (by decide)
  have hs : k ≠ K.BAR0_SESSION := fun h => absurd (h ▸ hi) (by decide)
  have hb : s.noOut.bar0Renew.bar0Put k (v % 2 ^ 64) = (s.bar0Begun.p k x).done := by
    rw [begun_put_word hl ho hs hu hw,
      writeObj_single ((writeTarget_begun s k).trans ht) hty ((writeNeed_le k d.acc).trans (privOf_bar0Me s s.bar0Begun).ge),
      writeFit_now hf (by rw [ha]; decide), writeNow_port hi hn]
  exact gives_bar0_live hm hc hb ((Writes.refl s).p k x) rfl

/-! ## Reads (R55) -/

theorem upperOf_of_object (hd : objAt (keyIndex k) (keySub k) = some d) : upperOf k = false := by
  simp [upperOf, hd]

/-- A command whose meaning is a read shows the result, and changes at most the latch. -/
theorem gives_bar0Read {code value : Nat} {latch : Option (Nat × Nat)} (hm : s.mode ≠ 0)
    (hc : exec c s = run (fun s => s.bar0Renew.bar0Read k) s)
    (hb : s.noOut.bar0Renew.bar0Read k = State.emit { s.noOut.bar0Renew with barLatch := latch } (.result code value)) :
    Gives c s (fun t => t = { s.noOut.bar0Renew with out := [.result code value], barLatch := latch }) := by
  refine gives_noOut hm hc ?_
  rw [hb]
  obtain ⟨ss, hr⟩ := bar0Renew_form s
  rw [hr]
  rfl

theorem readWide_single (hd : objAt (keyIndex k) (keySub k) = some d) (hty : d.ty.single = true) : s.readWide k = s.readWord k := by
  simp only [State.readWide, hd]
  cases ht : d.ty <;> simp_all [OType.single]

theorem bar0Read_low (hu : upperOf k = false) (hw : wideAt k = true) (hr : s.readWide k = (RC.ok, x)) :
    s.bar0Read k = State.emit { s with barLatch := some (k, x / 2 ^ 64) } (.result RC.ok (x % 2 ^ 64)) := by
  simp [State.bar0Read, hu, hw, hr]

theorem bar0Read_word (hu : upperOf k = false) (hw : wideAt k = false) :
    s.bar0Read k = s.emit (.result (s.readWide k).1 ((s.readWide k).2 % 2 ^ 64)) := by
  simp [State.bar0Read, hu, hw]

section Upper
variable (hu : upperOf (k + 65536) = true) (hr : s.readWide k = (RC.ok, x))
include hu hr

theorem bar0Read_upper_latched (hl : s.barLatch = some (k, h)) : s.bar0Read (k + 65536) = s.emit (.result RC.ok h) := by
  simp [State.bar0Read, hu, hr, hl]

theorem bar0Read_upper_fresh (hl : ∀ z ∈ s.barLatch, z.1 ≠ k) : s.bar0Read (k + 65536) = s.emit (.result RC.ok (x / 2 ^ 64)) := by
  cases hz : s.barLatch with
  | none => simp [State.bar0Read, hu, hr, hz]
  | some z => simp [State.bar0Read, hu, hr, hz, hl z hz]

end Upper

end Sys2Proof.Machine
end

section
/-! SUPPORT. The dictionary over BAR0: BAR0_SESSION, BAR0_OPEN and the table port (R525, R537, R538, R540). -/

namespace Sys2Proof.Machine

variable {s : State} {k v x h y : Nat} {d : ObjDef} {c : Instr} {w : Who}

/-! ## A write that is refused for its width (R536) -/

theorem bar0Renew_g (s : State) : s.noOut.bar0Renew.g = s.g := by
  obtain ⟨ss, hr⟩ := bar0Renew_form s
  rw [hr]; rfl

theorem bar0Renew_out (s : State) : s.noOut.bar0Renew.out = [] := by
  obtain ⟨ss, hr⟩ := bar0Renew_form s
  rw [hr]; rfl

theorem bar0Renew_pending (s : State) : s.noOut.bar0Renew.pending = s.pending := by
  obtain ⟨ss, hr⟩ := bar0Renew_form s
  rw [hr]; rfl

theorem bar0Renew_bootRom (s : State) : s.noOut.bar0Renew.bootRom = s.bootRom := by
  obtain ⟨ss, hr⟩ := bar0Renew_form s
  rw [hr]; rfl

theorem bar0Narrow_eq (s : State) (k : Nat) : s.bar0Narrow k =
    (State.p { s.bar0Renew with barHold := none } K.BAR0_RESULT (s.bar0Outcome RC.malformed k)).emit (.result RC.malformed 0) := by
  rw [State.bar0Narrow, State.bar0Outcome]

theorem gives_bar0Narrow (hm : s.mode ≠ 0) (hc : exec c s = run (fun s => s.bar0Narrow k) s) :
    Gives c s (fun t => Writes s t [(K.BAR0_RESULT, s.bar0Outcome RC.malformed k)] ∧ t.out = [.result RC.malformed 0] ∧
      t.barHold = none ∧ t = { s.noOut.bar0Renew with od := t.od, out := t.out, barHold := none }) := by
  refine gives_noOut hm hc ?_
  have hg := bar0Renew_g s
  have hout := bar0Renew_out s
  rw [bar0Narrow_eq, bar0Outcome_noOut, ← bar0Renew_pending s]
  generalize s.noOut.bar0Renew = u at hg hout ⊢
  have hw : Writes s { u with barHold := none } [] := fun j => congrFun hg j
  generalize s.bar0Outcome RC.malformed k = n
  generalize K.BAR0_RESULT = r
  exact ⟨writes_p_emit hw r n (.result RC.malformed 0) u.pending, p_emit_out hout r n (.result RC.malformed 0) u.pending, rfl,
    p_emit_form { u with barHold := none } r n (.result RC.malformed 0) u.pending⟩

/-! ## Objects of the boot ROM's reach or not -/

theorem writeTarget_object (hb : s.bootRom = false) (hi : keyIndex k < 0xF000) (hs : keySub k ≠ 0)
    (hd : objAt (keyIndex k) (keySub k) = some d) (ha : d.acc ≠ .ro) (hsp : spareReads k = false) : s.writeTarget k = .ok d := by
  simp [State.writeTarget, State.hidden, hb, Nat.not_le.2 hi, hs, hd, ha, hsp]

theorem writeObj_cmd {sess : Nat} {b : Bool} (ht : s.writeTarget k = .ok d) (hty : d.ty = .cmd b) (hf : fitValue k d.ty v = .ok x) :
    s.writeObj w sess k v = s.execute w k x := by
  simp only [State.writeObj, ht, hf]
  simp only [hty]

/-- A command that its requester may give answers what its body answers, and its record is kept. -/
theorem call_admitted {arg need code value : Nat} {body : State → CmdRes} {r : State} (hb : s.bootRom = false) (hp : need ≤ s.privOf w)
    (h : body s = ⟨code, value, r⟩) : s.call w k arg need body = ⟨code, value, r.keepRecord k arg code value w⟩ := by
  simp [State.call, hb, Nat.not_lt.2 hp, h]

/-! ## BAR0_SESSION (R537) -/

theorem bar0Session_object : ∃ d, objAt (keyIndex K.BAR0_SESSION) (keySub K.BAR0_SESSION) = some d ∧ d.ty = .u8 ∧ d.acc = .rw :=
  ⟨_, rfl, rfl, rfl⟩

theorem bar0Open_object : ∃ d, objAt (keyIndex K.BAR0_OPEN) (keySub K.BAR0_OPEN) = some d ∧ d.ty = .cmd false ∧ d.acc = .cmd :=
  ⟨_, rfl, rfl, rfl⟩

theorem tblSel_object : ∃ d, objAt (keyIndex K.TBL_SEL) (keySub K.TBL_SEL) = some d ∧ d.ty = .u64 ∧ d.acc = .rw :=
  ⟨_, rfl, rfl, rfl⟩

theorem tblPut_object : ∃ d, objAt (keyIndex K.TBL_PUT) (keySub K.TBL_PUT) = some d ∧ d.ty = .cmd false ∧ d.acc = .cmd :=
  ⟨_, rfl, rfl, rfl⟩

theorem writeTarget_bar0Session (hb : s.bootRom = false) : ∃ d, s.writeTarget K.BAR0_SESSION = .ok d ∧ d.ty = .u8 ∧ d.acc = .rw := by
  obtain ⟨d, hd, ht, ha⟩ := bar0Session_object
  exact ⟨d, writeTarget_object hb (by decide) (by decide) hd (by rw [ha]; decide) (by decide), ht, ha⟩

theorem fitValue_bar0Session (hv : v ≤ 7 ∨ v = 255) : fitValue K.BAR0_SESSION .u8 v = .ok v := if_pos (by omega)

/-- BAR0_SESSION takes the number of a session, or none, whether one is named or not. -/
theorem bar0Put_session (hb : s.bootRom = false) (hv : v ≤ 7 ∨ v = 255) :
    s.bar0Put K.BAR0_SESSION v = State.done { State.p { s with barHold := none } K.BAR0_SESSION v with barHold := none } := by
  obtain ⟨d, ht, hty, ha⟩ := writeTarget_bar0Session (s := { s with barHold := none }) hb
  have hnow : ∀ (t : State) (w : Who), t.writeNow w K.BAR0_SESSION v = State.done { t.p K.BAR0_SESSION v with barHold := none } := by
    intro t w
    rw [State.writeNow, if_neg (by decide), if_neg (by decide), if_pos rfl, if_neg (by omega)]
  rw [State.bar0Put, if_neg (by decide), if_pos rfl,
    writeObj_single ht (by rw [hty]; rfl) ((writeNeed_le _ d.acc).trans (privOf_bar0Me _ _).ge), writeFit_now
    (by rw [hty]; exact fitValue_bar0Session hv) (by rw [ha]; decide), hnow]

theorem gives_bar0SessionWrite (hm : s.mode ≠ 0) (hb : s.bootRom = false) (hv : v ≤ 7 ∨ v = 255) :
    Gives (.bar0SessionWrite v) s (fun t => Writes s t [(K.BAR0_RESULT, s.bar0Outcome RC.ok K.BAR0_SESSION), (K.BAR0_SESSION, v)] ∧
      t = { s.noOut.bar0Renew with od := t.od, out := [.result RC.ok 0], barHold := none }) := by
  have hput := bar0Put_session (s := s.noOut.bar0Renew) (v := v % 2 ^ 64) ((bar0Renew_bootRom s).trans hb) (by omega)
  have hg := bar0Renew_g s
  have hp := bar0Renew_pending s
  have hout := bar0Renew_out s
  rw [Nat.mod_eq_of_lt (show v < 2 ^ 64 by omega)] at hput
  have hw : Writes s { State.p { s.noOut.bar0Renew with barHold := none } K.BAR0_SESSION v with barHold := none } [(K.BAR0_SESSION, v)] :=
    Writes.p (fun j => congrFun hg j) K.BAR0_SESSION v
  refine (gives_bar0Write hm rfl (by rw [Nat.mod_eq_of_lt (show v < 2 ^ 64 by omega)]; exact hput) hw hout).imp fun t ht => ?_
  obtain ⟨hout, hwt, ht⟩ := ht
  refine ⟨hwt, ht.trans ?_⟩
  rw [hout, ← hp]
  rfl

end Sys2Proof.Machine
end

section
/-! SUPPORT. The dictionary over BAR0: the opening of a session (R525, R526, R538) and the table port (R540). -/

namespace Sys2Proof.Machine

variable {s : State} {k v x h y : Nat} {d : ObjDef} {c : Instr} {w : Who}

/-! ## BAR0_OPEN (R525, R526) -/

/-- A party without a session or a lock loses nothing. -/
theorem breakParty_none {reason : Nat} {p : Nat → Bool} (hs : ∀ j ∈ List.range 8, s.sessLive j = true → p (s.g (K.SESS_OWNER j)) = false)
    (hq : ∀ q ∈ List.range 8, s.g (K.SQ_LOCK_OWNER q) = 0 ∨ p (s.g (K.SQ_LOCK_OWNER q)) = false) : s.breakParty reason p = s := by
  have hsess : instances 8 (fun j => s.sessLive j && p (s.g (K.SESS_OWNER j))) = [] := by
    rw [instances, List.filter_eq_nil_iff]
    intro j hj
    cases hl : s.sessLive j
    · simp
    · simp [hs j hj hl]
  have hlock : (List.range 8).filter (fun q => s.g (K.SQ_LOCK_OWNER q) != 0 && p (s.g (K.SQ_LOCK_OWNER q))) = [] := by
    rw [List.filter_eq_nil_iff]
    intro q hmem
    rcases hq q hmem with h0 | h0
    · simp [h0]
    · simp [h0]
  rw [State.breakParty, hsess, State.breakLocks]
  exact congrArg (fun l => s.each l State.breakLock) hlock

/-- What OPEN writes of session k, the latest first. -/
def openWrites (s : State) (k me lease : Nat) : List (Nat × Nat) :=
  [(K.SESS_COMMIT_OBJ k, 0), (K.SESS_COMMIT_RESULT k, 0), (K.SESS_COMMIT_FN k, 0), (K.SESS_COMMIT_STATE k, 0), (K.SESS_LEASE k, lease),
    (K.SESS_OWNER k, me), (K.SESS_GEN k, (s.g (K.SESS_GEN k) + 1) % 256), (K.SESS_STATE k, 1)]

/-- The transaction slots of a session, cleared one after another. -/
def State.clearTxns (s : State) (k : Nat) (l : List Nat) : State := l.foldl (fun (s : State) j => s.setTxn k j {}) s

/-- Session k opened: its objects written, its lease begun, its transaction slots cleared. -/
def State.opened (s : State) (k me lease : Nat) : State :=
  ((s.pAll (openWrites s k me lease).reverse).setSess k { renewed := s.tick }).clearTxns k (List.range 64)

theorem clearTxns_form (k : Nat) (l : List Nat) (s : State) : ∃ tx, s.clearTxns k l = { s with txns := tx } := by
  induction l generalizing s with
  | nil => exact ⟨s.txns, rfl⟩
  | cons j l ih => exact (ih (s.setTxn k j {})).imp fun tx h => h

theorem txnOf_setTxn_same (s : State) (k j : Nat) : (s.setTxn k j {}).txnOf k j = {} := by
  simp only [State.txnOf, State.setTxn, Sp.get_set_same]

theorem txnOf_setTxn_other (s : State) (k : Nat) {i j : Nat} (h : j ≠ i) : (s.setTxn k i {}).txnOf k j = s.txnOf k j := by
  simp only [State.txnOf, State.setTxn]
  exact Sp.get_set_other (fun _ => {}) s.txns {} (fun hj => h (Nat.add_left_cancel hj))

theorem clearTxns_txnOf (k : Nat) (l : List Nat) (s : State) {j : Nat} (hj : j ∈ l ∨ s.txnOf k j = {}) :
    (s.clearTxns k l).txnOf k j = {} := by
  induction l generalizing s with
  | nil => exact hj.resolve_left List.not_mem_nil
  | cons i l ih =>
    refine ih (s.setTxn k i {}) ?_
    rw [List.mem_cons] at hj
    by_cases hij : j = i
    · subst hij; exact .inr (txnOf_setTxn_same s k j)
    · exact hj.imp (fun h => h.resolve_left hij) (txnOf_setTxn_other s k hij).trans

theorem pAll_form (l : List (Nat × Nat)) (s : State) : ∃ o, s.pAll l = { s with od := o } := by
  induction l generalizing s with
  | nil => exact ⟨s.od, rfl⟩
  | cons x l ih => exact (ih (s.p x.1 x.2)).imp fun o h => h

theorem pAll_tick (l : List (Nat × Nat)) (s : State) : (s.pAll l).tick = s.tick := by
  obtain ⟨o, ho⟩ := pAll_form l s
  rw [ho]

theorem clearTxns_setSess_form (s : State) (o : Sp Nat) (k : Nat) (e : SessHid) (l : List Nat) :
    ∃ tx, (State.setSess { s with od := o } k e).clearTxns k l = { s.setSess k e with od := o, txns := tx } :=
  clearTxns_form k l (State.setSess { s with od := o } k e)

theorem opened_form (s : State) (k me lease : Nat) :
    ∃ o tx, s.opened k me lease = { s.setSess k { renewed := s.tick } with od := o, txns := tx } := by
  obtain ⟨o, ho⟩ := pAll_form (openWrites s k me lease).reverse s
  obtain ⟨tx, htx⟩ := clearTxns_setSess_form s o k { renewed := s.tick } (List.range 64)
  refine ⟨o, tx, Eq.trans ?_ htx⟩
  rw [State.opened, ho]

theorem clearTxns_g (k : Nat) (l : List Nat) (s : State) : (s.clearTxns k l).g = s.g := by
  obtain ⟨tx, htx⟩ := clearTxns_form k l s
  rw [htx]; rfl

theorem setSess_g (s : State) (k : Nat) (e : SessHid) : (s.setSess k e).g = s.g := rfl

theorem opened_g (s : State) (k me lease : Nat) : (s.opened k me lease).g = (s.pAll (openWrites s k me lease).reverse).g := by
  rw [State.opened, clearTxns_g, setSess_g]

theorem opened_writes (s : State) (k me lease : Nat) : Writes s (s.opened k me lease) (openWrites s k me lease) := fun j => by
  have h := Writes.pAll (openWrites s k me lease).reverse s j
  rw [List.reverse_reverse] at h
  rw [opened_g]
  exact h

theorem opened_txnOf (s : State) (k me lease : Nat) : ∀ j ∈ List.range 64, (s.opened k me lease).txnOf k j = {} := fun _ hj =>
  clearTxns_txnOf k _ _ (.inl hj)

theorem openWrites_reverse (s : State) (k me lease : Nat) : (openWrites s k me lease).reverse =
    [(K.SESS_STATE k, 1), (K.SESS_GEN k, (s.g (K.SESS_GEN k) + 1) % 256), (K.SESS_OWNER k, me), (K.SESS_LEASE k, lease),
      (K.SESS_COMMIT_STATE k, 0), (K.SESS_COMMIT_FN k, 0), (K.SESS_COMMIT_RESULT k, 0), (K.SESS_COMMIT_OBJ k, 0)] := rfl

/-- The lease that OPEN gives for the one asked. -/
def leaseOf (lease : Nat) : Nat := if lease = 0 then 10000 else lease

theorem leaseOf_inRange {lease : Nat} (hl : lease = 0 ∨ 1000 ≤ lease ∧ lease ≤ 1000000) :
    ¬(leaseOf lease < 1000 ∨ 1000000 < leaseOf lease) := by
  unfold leaseOf; split <;> omega

theorem noNonce_held {f g : Nat → Bool} :
    (List.range 8).find? (fun j => f j && (none : Option Nat).isSome && g j) = none := by
  simp

/-- OPEN without a nonce, by a party that holds nothing, with a lease in range: the first free session is opened. -/
theorem openSess_fresh {lease : Nat} (hl : lease = 0 ∨ 1000 ≤ lease ∧ lease ≤ 1000000)
    (hb : s.breakParty 2 (fun o => identityParty o == identityParty (identityOf w) && o != identityOf w) = s)
    (hk : (List.range 8).find? (fun j => s.g (K.SESS_STATE j) == 0) = some k) :
    s.openSess w none lease = (s.opened k (identityOf w) (leaseOf lease)).done k := by
  rw [State.openSess, noNonce_held]
  have hle := leaseOf_inRange hl
  rw [leaseOf] at hle
  rw [State.opened, openWrites_reverse, State.clearTxns, leaseOf]
  generalize List.range 64 = l
  simp only [if_neg hle, hb, hk]
  rw [pAll_tick]

/-- The state that BAR0_OPEN leaves, but for its record: the session opened and named in BAR0_SESSION. -/
def State.bar0Opened (s : State) (k me lease : Nat) : State :=
  { (s.opened k me lease).p K.BAR0_SESSION k with barHold := none }

theorem Writes.barHold {t : State} {l : List (Nat × Nat)} (h : Writes s t l) (b : Option (Nat × Nat)) :
    Writes s { t with barHold := b } l := h

theorem bar0Opened_writes (s : State) (k me lease : Nat) :
    Writes s (s.bar0Opened k me lease) ((K.BAR0_SESSION, k) :: openWrites s k me lease) := by
  rw [State.bar0Opened]
  exact ((opened_writes s k me lease).p K.BAR0_SESSION k).barHold none

/-- OPEN of session k leaves every object whose index is not that of the session, or of the BAR0 session, as it is. -/
theorem bar0Opened_g {me lease j : Nat} (hk : keyIndex j ≠ 0x2020 + k) (hj : j ≠ K.BAR0_SESSION) :
    (s.bar0Opened k me lease).g j = s.g j := by
  rw [bar0Opened_writes s k me lease j]
  simp only [openWrites, after, K.SESS_COMMIT_OBJ, K.SESS_COMMIT_RESULT, K.SESS_COMMIT_FN, K.SESS_COMMIT_STATE, K.SESS_LEASE, K.SESS_OWNER,
    K.SESS_GEN, K.SESS_STATE, key, keyIndex] at hk ⊢
  repeat rw [if_neg (by omega)]

theorem execute_bar0Open (s : State) (w : Who) (v : Nat) : s.execute w K.BAR0_OPEN v = s.bar0OpenCmd w v := by
  rw [State.execute, if_neg (by decide), State.runCmd, if_pos (by decide), State.runLow]
  rw [if_neg (by decide), if_pos rfl]

theorem bar0OpenCmd_fresh {me lease : Nat} (hb : s.bootRom = false) (hp : 1 ≤ s.privOf w)
    (ho : s.openSess w none (v % 2 ^ 32) = (s.opened k me lease).done k) :
    s.bar0OpenCmd w v = ⟨RC.ok, k, (s.bar0Opened k me lease).keepRecord K.BAR0_OPEN v RC.ok k w⟩ :=
  call_admitted hb hp (by simp only [ho, State.done, if_true]; rfl)

theorem fitValue_bar0Open (hv : v < 2 ^ 64) : fitValue K.BAR0_OPEN (.cmd false) v = .ok v := if_pos hv

/-- BAR0_OPEN runs the command for queue pair 0, of the boot epoch that its argument names. -/
theorem bar0Put_open (hb : s.bootRom = false) (hv : v < 2 ^ 64) :
    s.bar0Put K.BAR0_OPEN v = State.bar0OpenCmd { s with barHold := none } (bar0Who (v / 2 ^ 32)) v := by
  obtain ⟨d, hd, hty, ha⟩ := bar0Open_object
  have ht : State.writeTarget { s with barHold := none } K.BAR0_OPEN = .ok d :=
    writeTarget_object hb (by decide) (by decide) hd (by rw [ha]; decide) (by decide)
  rw [State.bar0Put, if_pos rfl, writeObj_cmd ht hty (by rw [hty]; exact fitValue_bar0Open hv), execute_bar0Open]

/-- The record that a command keeps, in a state that a list of writes leaves. -/
theorem opened_record (s : State) (w : Who) {me lease : Nat} (hk : k < 8) (v : Nat) :
    Writes s ((s.bar0Opened k me lease).keepRecord K.BAR0_OPEN v RC.ok k w)
      (recordOf s w K.BAR0_OPEN v RC.ok k ++ (K.BAR0_SESSION, k) :: openWrites s k me lease) := by
  refine (bar0Opened_writes s k me lease).keepRecord w K.BAR0_OPEN v RC.ok k ?_ ?_
  · exact bar0Opened_g (by simp only [K.BAR0_OPEN, key, keyIndex]; omega) (by decide)
  · exact bar0Opened_g (by simp only [K.TS_FN, key, keyIndex]; omega) (by decide)

theorem bar0Opened_form (s : State) (w : Who) (k me lease v : Nat) : ∃ o tx,
    (s.bar0Opened k me lease).keepRecord K.BAR0_OPEN v RC.ok k w =
      { s.setSess k { renewed := s.tick } with od := o, txns := tx, barHold := none } ∧
    ∀ j ∈ List.range 64, Sp.get (fun _ => {}) tx (k * 64 + j) = ({} : Txn) := by
  obtain ⟨o, tx, ho⟩ := opened_form s k me lease
  have htxn := opened_txnOf s k me lease
  rw [keepRecord_form, State.bar0Opened]
  generalize (State.keepRecord _ K.BAR0_OPEN v RC.ok k w).od = o'
  rw [ho] at htxn ⊢
  exact ⟨o', tx, rfl, htxn⟩

theorem Writes.of_g_eq {u t : State} {l : List (Nat × Nat)} (h : u.g = s.g) : Writes u t l = Writes s t l := by
  simp only [Writes, h]

theorem recordOf_congr {u : State} (h : u.g = s.g) (w : Who) (k arg code value : Nat) :
    recordOf u w k arg code value = recordOf s w k arg code value := by
  simp only [recordOf, State.fn, h]

theorem openWrites_congr {u : State} (h : u.g = s.g) (k me lease : Nat) : openWrites u k me lease = openWrites s k me lease := by
  simp only [openWrites, h]

/-- BAR0_OPEN without a live BAR0 session, for a party that holds no session and no lock. -/
theorem gives_bar0Open {me lease : Nat} (hm : s.mode ≠ 0) (hb : s.bootRom = false) (hl : s.bar0Live = false) (hv : v < 2 ^ 64) (hk : k < 8)
    (ho : State.openSess { s.noOut with barHold := none } (bar0Who (v / 2 ^ 32)) none (v % 2 ^ 32) =
      (State.opened { s.noOut with barHold := none } k me lease).done k) :
    Gives (.bar0Open v) s (fun t => t.out = [.result RC.ok k] ∧
      Writes s t ((K.BAR0_RESULT, s.bar0Outcome RC.ok K.BAR0_OPEN) ::
        (recordOf s (bar0Who (v / 2 ^ 32)) K.BAR0_OPEN v RC.ok k ++ (K.BAR0_SESSION, k) :: openWrites s k me lease)) ∧
      (∀ j ∈ List.range 64, t.txnOf k j = {}) ∧
      t = { s.setSess k { renewed := s.tick } with od := t.od, out := t.out, txns := t.txns, barHold := none }) := by
  have hput : s.noOut.bar0Renew.bar0Put K.BAR0_OPEN (v % 2 ^ 64) = ⟨RC.ok, k, (State.bar0Opened { s.noOut with barHold := none } k me
      lease).keepRecord K.BAR0_OPEN v RC.ok k (bar0Who (v / 2 ^ 32))⟩ := by
    rw [bar0Renew_none hl, Nat.mod_eq_of_lt hv, bar0Put_open (s := s.noOut) hb hv,
      bar0OpenCmd_fresh (s := { s.noOut with barHold := none }) hb (by rw [privOf_bar0Who]; decide) ho]
  have hg : State.g { s.noOut with barHold := none } = s.g := noOut_g s
  have hw := opened_record { s.noOut with barHold := none } (bar0Who (v / 2 ^ 32)) (me := me) (lease := lease) hk v
  rw [Writes.of_g_eq hg, recordOf_congr hg, openWrites_congr hg] at hw
  obtain ⟨o, tx, hform, htxn⟩ := bar0Opened_form { s.noOut with barHold := none } (bar0Who (v / 2 ^ 32)) k me lease v
  refine (gives_bar0Write hm rfl hput hw (by rw [hform]; rfl)).imp fun t ht => ?_
  obtain ⟨hout, hwt, ht⟩ := ht
  rw [hform] at ht
  have htx : t.txns = tx := (congrArg State.txns ht :)
  refine ⟨hout, hwt, fun j hj => ?_, ?_⟩
  · rw [State.txnOf, htx]; exact htxn j hj
  · rw [htx]; exact ht

end Sys2Proof.Machine
end

section
/-! SUPPORT. The dictionary over BAR0: the table port (R540). -/

namespace Sys2Proof.Machine

variable {s : State} {k v x h y : Nat} {d : ObjDef} {w : Who}

/-! ## TBL_SEL -/

/-- Writes of different objects may be listed in any order. -/
theorem after_perm {g : Nat → Nat} {l m : List (Nat × Nat)} (h : l.Perm m) (hn : (l.map Prod.fst).Nodup) : after g l = after g m := by
  induction h with
  | nil => rfl
  | cons x _ ih =>
    funext j
    simp only [after, ih (List.nodup_cons.1 hn).2]
  | swap x y l =>
    have hne : y.1 ≠ x.1 := fun h => (List.nodup_cons.1 hn).1 (by rw [h]; exact List.mem_cons_self)
    funext j
    simp only [after]
    by_cases hx : j = x.1
    · rw [if_pos hx, if_neg (fun hy => hne (hy.symm.trans hx)), if_pos hx]
    · rw [if_neg hx, if_neg hx]
  | trans h₁ _ ih₁ ih₂ => exact (ih₁ hn).trans (ih₂ ((h₁.map _).nodup_iff.1 hn))

/-- The words of the port row that a latched row writes. -/
def portWrites (r : Nat) : List (Nat × Nat) := (List.range 16).map (fun i => (K.TBL_WORD i, r / 2 ^ (64 * i) % 2 ^ 64))

theorem portWrites_nodup (r : Nat) : ((portWrites r).map Prod.fst).Nodup := by
  have h : (portWrites r).map Prod.fst = (List.range 16).map K.TBL_WORD := by rw [portWrites, List.map_map]; rfl
  rw [h]
  decide

/-- A write of TBL_SEL writes it, and latches the row that it names. -/
def State.tblSelected (s : State) (v : Nat) : State := (s.p K.TBL_SEL v).pAll (portWrites (s.selected16 v))

theorem selWrite_eq (h : clearFields v [(63, 56)] = v) : s.selWrite v = (s.tblSelected v).done := by
  rw [State.selWrite, h, State.tblSelected, State.pAll, portWrites, List.foldl_map]

theorem tblSelected_writes (s : State) (v : Nat) :
    Writes s (s.tblSelected v) (portWrites (s.selected16 v) ++ [(K.TBL_SEL, v)]) := fun j => by
  have hw := Writes.pAll (portWrites (s.selected16 v)) (s.p K.TBL_SEL v) j
  rw [← after_perm (List.reverse_perm _).symm (portWrites_nodup _)] at hw
  rw [State.tblSelected, hw, after_append]
  exact after_congr ((Writes.refl s).p K.TBL_SEL v j) _

theorem setBits_top_zero (v : Nat) : setBits v 63 56 0 = v - v / 72057594037927936 % 256 * 72057594037927936 := by
  simp only [setBits, bits]
  norm_num

theorem clearFields_top (v : Nat) : clearFields v [(63, 56)] = setBits v 63 56 0 := by
  rw [clearFields, List.foldl_cons, List.foldl_nil]

theorem clearFields_idem (v : Nat) : clearFields (clearFields v [(63, 56)]) [(63, 56)] = clearFields v [(63, 56)] := by
  rw [clearFields_top, clearFields_top, setBits_top_zero, setBits_top_zero]
  omega

theorem fitValue_tblSel (hv : v < 2 ^ 64) : fitValue K.TBL_SEL .u64 v = .ok (clearFields v [(63, 56)]) := if_pos hv

theorem writeNow_tblSel (v : Nat) : s.writeNow w K.TBL_SEL v = s.selWrite v := by
  rw [State.writeNow, if_neg (by decide), if_neg (by decide), if_neg (by decide), if_pos rfl]

theorem begun_put_tblSel (hb : s.bootRom = false) (hl : s.bar0Live = true) (hv : v < 2 ^ 64) :
    s.noOut.bar0Renew.bar0Put K.TBL_SEL v = (s.bar0Begun.tblSelected (clearFields v [(63, 56)])).done := by
  obtain ⟨d, hd, hty, ha⟩ := tblSel_object
  have ht : s.bar0Begun.writeTarget K.TBL_SEL = .ok d :=
    writeTarget_object hb (by decide) (by decide) hd (by rw [ha]; decide) (by decide)
  rw [begun_put_word hl (by decide) (by decide) (upperOf_of_object hd) (by decide),
    writeObj_single ht (by rw [hty]; rfl) ((writeNeed_le _ d.acc).trans (privOf_bar0Me _ _).ge),
    writeFit_now (by rw [hty]; exact fitValue_tblSel hv) (by rw [ha]; decide), writeNow_tblSel, selWrite_eq (clearFields_idem v)]

theorem tblSelected_form (s : State) (v : Nat) : s.tblSelected v = { s with od := (s.tblSelected v).od } := by
  obtain ⟨o, ho⟩ := pAll_form (portWrites (s.selected16 v)) (s.p K.TBL_SEL v)
  rw [State.tblSelected, ho]
  rfl

theorem gives_tblSelWrite (hm : s.mode ≠ 0) (hb : s.bootRom = false) (hl : s.bar0Live = true) (hv : v < 2 ^ 64)
    (hx : x = clearFields v [(63, 56)]) :
    Gives (.tblSelWrite v) s (fun t => Writes s t ((K.BAR0_RESULT, s.bar0Outcome RC.ok K.TBL_SEL) ::
        (portWrites (s.bar0Begun.selected16 x) ++ [(K.TBL_SEL, x)])) ∧
      t = { s.bar0Begun with od := t.od, out := [.result RC.ok 0] }) := by
  have hput := begun_put_tblSel hb hl (v := v % 2 ^ 64) (by omega)
  rw [Nat.mod_eq_of_lt hv, ← hx] at hput
  have hw := tblSelected_writes s.bar0Begun x
  have hform := tblSelected_form s.bar0Begun x
  rw [Writes.of_g_eq (bar0Begun_g s)] at hw
  generalize s.bar0Begun.selected16 x = r at hw ⊢
  generalize s.bar0Begun.tblSelected x = u at hput hw hform
  refine (gives_bar0Write hm rfl (by rw [Nat.mod_eq_of_lt hv]; exact hput) hw (by rw [hform]; rfl)).imp fun t ht => ?_
  obtain ⟨hout, hwt, ht⟩ := ht
  refine ⟨hwt, ht.trans ?_⟩
  rw [hout, hform]; rfl

/-! ## TBL_PUT -/

/-- The row of a table that TBL_SEL names is staged with a value that fits the table. -/
theorem writeRow_staged {sess row : Nat} (ht : s.writeTarget k = .ok d) (hty : d.ty = .tbl h y) (ha : d.acc = .rws) (hrow : row < h)
    (hp : writeNeed k d.acc ≤ s.privOf w) (hf : fitValue k d.ty v = .ok x) (hr : s.sessRefusal w sess = 0) :
    s.writeRow w sess k row v = s.stage sess (atRow k row) x := by
  simp only [State.writeRow, ht, hty, if_neg (Nat.not_lt.2 hp), if_neg (Nat.not_le.2 hrow)]
  simp only [State.writeFit, hf, ha, hr, if_true, ne_eq, not_true_eq_false, if_false, Option.getD_some]

/-- TBL_PUT of queue pair 0 in the live session stages the port row, cut to the table's width. -/
theorem tblPutCmd_staged {m : Who} {r : State} (hb : s.bootRom = false) (hl : s.bar0Live = true) (hm : m = s.bar0Me)
    (hk : selObj (s.g K.TBL_SEL) = k) (hd : objAt (keyIndex k) (keySub k) = some d) (hty : d.ty = .tbl h y)
    (hput : s.writeRow m (s.g K.BAR0_SESSION) k (selRow (s.g K.TBL_SEL)) (s.portRow % 2 ^ (8 * y)) = r.done) (arg : Nat) :
    s.tblPutCmd m arg = ⟨RC.ok, 0, r.keepRecord K.TBL_PUT arg RC.ok 0 m⟩ := by
  have hme : m.transport = 1 ∧ m.principal = 0 := by rw [hm]; exact ⟨rfl, rfl⟩
  refine call_admitted hb (by rw [hm, privOf_bar0Me]; decide) ?_
  simp only [hk, hd, hty, hl, hme, and_self, if_true, Bool.not_true, Bool.false_eq_true, if_false, ← hm, hput]
  rfl

theorem execute_tblPut (s : State) (w : Who) (v : Nat) : s.execute w K.TBL_PUT v = s.tblPutCmd w v := by
  rw [State.execute, if_pos rfl]

theorem portRow_congr {u : State} (h : u.g = s.g) : u.portRow = s.portRow := by
  simp only [State.portRow, h]

theorem fitValue_tblPut : fitValue K.TBL_PUT (.cmd false) 0 = .ok 0 := by
  have hr : reservedFields K.TBL_PUT = [] := by decide
  simp [fitValue, hr, clearFields]

/-- TBL_PUT through BAR0: the row is staged, and the command's record kept. -/
theorem begun_put_tblPut {r : Nat} (hb : s.bootRom = false) (hl : s.bar0Live = true) (hk : selObj (s.g K.TBL_SEL) = k)
    (hsel : selRow (s.g K.TBL_SEL) = r) (ht : s.writeTarget k = .ok d) (hd : objAt (keyIndex k) (keySub k) = some d)
    (hty : d.ty = .tbl h y) (ha : d.acc = .rws) (hrow : r < h) (hf : fitValue k d.ty (s.portRow % 2 ^ (8 * y)) = .ok x)
    (h1 : s.g (K.SESS_STATE (s.g K.BAR0_SESSION)) = 1) (hn : (s.sessOf (s.g K.BAR0_SESSION)).staged.length < 8192) :
    s.noOut.bar0Renew.bar0Put K.TBL_PUT 0 =
      ⟨RC.ok, 0, (s.bar0Staged (atRow k r) x).keepRecord K.TBL_PUT 0 RC.ok 0 s.bar0Me⟩ := by
  obtain ⟨d', hd', hty', ha'⟩ := tblPut_object
  have htp : s.bar0Begun.writeTarget K.TBL_PUT = .ok d' :=
    writeTarget_object hb (by decide) (by decide) hd' (by rw [ha']; decide) (by decide)
  have hme := bar0Me_congr (bar0Begun_g s)
  have hrow' : s.bar0Begun.writeRow s.bar0Me (s.g K.BAR0_SESSION) k r (s.portRow % 2 ^ (8 * y)) = (s.bar0Staged (atRow k r) x).done := by
    have hr : s.bar0Begun.sessRefusal s.bar0Me (s.g K.BAR0_SESSION) = 0 := sessRefusal_bar0Me hl
    rw [writeRow_staged ((writeTarget_begun s k).trans ht) hty ha hrow ((writeNeed_le k d.acc).trans (privOf_bar0Me _ _).ge) hf
      hr, begun_stage h1 hn]
  rw [begun_put_word hl (by decide) (by decide) (upperOf_of_object hd') (by decide),
    writeObj_cmd htp hty' (by rw [hty']; exact fitValue_tblPut), execute_tblPut]
  refine tblPutCmd_staged (s := s.bar0Begun) hb hl hme.symm hk hd hty ?_ 0
  rw [portRow_congr (bar0Begun_g s), bar0Begun_g, hsel]
  exact hrow'

theorem keepRecord_writes {u : State} (hg : u.g = s.g) (w : Who) (k arg code value : Nat) :
    Writes s (u.keepRecord k arg code value w) (recordOf s w k arg code value) := by
  have h := (Writes.refl u).keepRecord w k arg code value rfl rfl
  rw [List.append_nil, Writes.of_g_eq hg, recordOf_congr hg] at h
  exact h

end Sys2Proof.Machine
end

section
/-! SUPPORT. O48: the clauses about the dictionary over BAR0, put together. -/

namespace Sys2Proof.Machine

variable {s : State} {k v x h y r : Nat} {d : ObjDef} {c : Instr}

theorem bar0Outcome_noSession (s : State) (k : Nat) : s.bar0Outcome RC.noSession k =
    24 * 2 ^ 56 + keyIndex k * 2 ^ 40 + keySub k * 2 ^ 32 + (s.g K.BAR0_RESULT + 1) % 2 ^ 32 := by
  rw [State.bar0Outcome, RC.noSession]

theorem bar0Outcome_access (s : State) (k : Nat) : s.bar0Outcome RC.access k =
    4 * 2 ^ 56 + keyIndex k * 2 ^ 40 + keySub k * 2 ^ 32 + (s.g K.BAR0_RESULT + 1) % 2 ^ 32 := by
  rw [State.bar0Outcome, RC.access]

theorem bar0Outcome_malformed (s : State) (k : Nat) : s.bar0Outcome RC.malformed k =
    3 * 2 ^ 56 + keyIndex k * 2 ^ 40 + keySub k * 2 ^ 32 + (s.g K.BAR0_RESULT + 1) % 2 ^ 32 := by
  rw [State.bar0Outcome, RC.malformed]

theorem exec_objectWrite_narrow {off len : Nat} (h : len ≠ 8 ∨ off % 8 ≠ 0) :
    exec (.objectWrite off len v) s = run (fun s => s.bar0Narrow (opKey (off / 2048) (off / 8))) s := by
  show run (fun s => if len = 8 ∧ off % 8 = 0 then s.bar0Write (opKey (off / 2048) (off / 8)) v
    else s.bar0Narrow (opKey (off / 2048) (off / 8))) s = _
  simp only [show ¬(len = 8 ∧ off % 8 = 0) by omega, if_false]

theorem gives_tblPut (hm : s.mode ≠ 0) (hb : s.bootRom = false) (hl : s.bar0Live = true) (hk : selObj (s.g K.TBL_SEL) = k)
    (hsel : selRow (s.g K.TBL_SEL) = r) (ht : s.writeTarget k = .ok d) (hd : objAt (keyIndex k) (keySub k) = some d)
    (hty : d.ty = .tbl h y) (ha : d.acc = .rws) (hrow : r < h) (hf : fitValue k d.ty (s.portRow % 2 ^ (8 * y)) = .ok x)
    (h1 : s.g (K.SESS_STATE (s.g K.BAR0_SESSION)) = 1) (hn : (s.sessOf (s.g K.BAR0_SESSION)).staged.length < 8192) :
    Gives .tblPut s (fun t => Writes s t ((K.BAR0_RESULT, s.bar0Outcome RC.ok K.TBL_PUT) :: recordOf s s.bar0Me K.TBL_PUT 0 RC.ok 0) ∧
      t.sessOf (s.g K.BAR0_SESSION) = s.bar0Sess (atRow k r) x ∧ ButAt t.sessOf s.sessOf (s.g K.BAR0_SESSION) ∧
      t = { s with od := t.od, out := [.result RC.ok 0], sess := t.sess, barHold := none }) := by
  have hg : (s.bar0Staged (atRow k r) x).g = s.g := rfl
  have hput := begun_put_tblPut hb hl hk hsel ht hd hty ha hrow hf h1 hn
  exact gives_bar0_staged (v := 0) hm rfl hput (keepRecord_writes hg s.bar0Me K.TBL_PUT 0 RC.ok 0) (keepRecord_form _ _ _ _ _ _)

theorem single_of_staged (h : d.ty = .u8 ∨ d.ty = .u32 ∨ d.ty = .u64 ∨ d.ty = .bool ∨ d.ty = .i64 ∨ d.ty = .dur64 ∨ d.ty = .u16) :
    d.ty.single = true := by
  rcases h with h | h | h | h | h | h | h <;> rw [h] <;> rfl

/-- A value of one word, or of two, is staged in the live session. -/
theorem gives_bar0_stages (hm : s.mode ≠ 0) (hc : exec c s = run (fun s => s.bar0Write k v) s)
    (hput : s.noOut.bar0Renew.bar0Put k (v % 2 ^ 64) = s.bar0Begun.writeObj s.bar0Me (s.g K.BAR0_SESSION) k y)
    (hl : s.bar0Live = true) (ht : s.writeTarget k = .ok d) (hty : d.ty.single = true) (ha : d.acc = .rws)
    (hf : fitValue k d.ty y = .ok x)
    (h1 : s.g (K.SESS_STATE (s.g K.BAR0_SESSION)) = 1) (hn : (s.sessOf (s.g K.BAR0_SESSION)).staged.length < 8192) :
    Gives c s (fun t => Writes s t [(K.BAR0_RESULT, s.bar0Outcome RC.ok k)] ∧
      t.sessOf (s.g K.BAR0_SESSION) = s.bar0Sess (atRow k 0) x ∧ ButAt t.sessOf s.sessOf (s.g K.BAR0_SESSION) ∧
      t = { s with od := t.od, out := [.result RC.ok 0], sess := t.sess, barHold := none }) := by
  rw [begun_writeObj_staged hl ht hty ha hf, begun_stage h1 hn] at hput
  exact gives_bar0_staged hm hc hput (Writes.refl s) rfl

theorem bar0Renew_barLatch (s : State) : s.noOut.bar0Renew.barLatch = s.barLatch := by
  obtain ⟨ss, hr⟩ := bar0Renew_form s
  rw [hr]; rfl

/-- A read that leaves the latch as it is. -/
theorem gives_bar0Read_bare {code value : Nat} (hm : s.mode ≠ 0) (hc : exec c s = run (fun s => s.bar0Renew.bar0Read k) s)
    (hb : s.noOut.bar0Renew.bar0Read k = s.noOut.bar0Renew.emit (.result code value)) :
    Gives c s (fun t => t = { s.noOut.bar0Renew with out := [.result code value] }) :=
  gives_bar0Read (latch := s.noOut.bar0Renew.barLatch) hm hc hb

theorem otherParty {a b : Nat} (h : identityParty a ≠ identityParty b) : (identityParty a == identityParty b && a != b) = false := by
  rw [beq_eq_false_iff_ne.2 h, Bool.false_and]

/-- BAR0_OPEN of a party that holds no session and no lock, with a lease in range. -/
theorem gives_bar0Open_fresh (hm : s.mode ≠ 0) (hb : s.bootRom = false) (hl : s.bar0Live = false) (hv : v < 2 ^ 64)
    (hlease : v % 2 ^ 32 = 0 ∨ 1000 ≤ v % 2 ^ 32 ∧ v % 2 ^ 32 ≤ 1000000)
    (hs : ∀ j ∈ List.range 8, s.sessLive j = true →
      identityParty (s.g (K.SESS_OWNER j)) ≠ identityParty (identityOf (bar0Who (v / 2 ^ 32))))
    (hq : ∀ q ∈ List.range 8, s.g (K.SQ_LOCK_OWNER q) = 0 ∨
      identityParty (s.g (K.SQ_LOCK_OWNER q)) ≠ identityParty (identityOf (bar0Who (v / 2 ^ 32))))
    (hk : (List.range 8).find? (fun j => s.g (K.SESS_STATE j) == 0) = some k) :
    Gives (.bar0Open v) s (fun t => t.out = [.result RC.ok k] ∧
      Writes s t ((K.BAR0_RESULT, s.bar0Outcome RC.ok K.BAR0_OPEN) :: (recordOf s (bar0Who (v / 2 ^ 32)) K.BAR0_OPEN v RC.ok k ++
        (K.BAR0_SESSION, k) :: openWrites s k (identityOf (bar0Who (v / 2 ^ 32))) (leaseOf (v % 2 ^ 32)))) ∧
      (∀ j ∈ List.range 64, t.txnOf k j = {}) ∧
      t = { s.setSess k { renewed := s.tick } with od := t.od, out := t.out, txns := t.txns, barHold := none }) := by
  have hk8 : k < 8 := List.mem_range.1 (List.mem_of_find?_eq_some hk)
  have hparty : ∀ (me : Nat) (u : State), u.g = s.g → identityOf (bar0Who (v / 2 ^ 32)) = me →
      u.breakParty 2 (fun o => identityParty o == identityParty me && o != me) = u := by
    rintro _ u hg rfl
    refine breakParty_none (fun j hj hlive => ?_) (fun q hmem => ?_)
    · rw [State.sessLive, hg] at hlive
      rw [hg]
      exact otherParty (hs j hj hlive)
    · rw [hg]
      exact (hq q hmem).imp_right otherParty
  exact gives_bar0Open hm hb hl hv hk8 (openSess_fresh hlease (hparty _ _ (noOut_g s) rfl) hk)

/-- Settles O48, by the cases of `bar0Put` and of `bar0Read`. -/
theorem bar0 : Obligations.Bar0 := by
  intro s u idx sub off len v k j h x r y d hm
  refine ⟨?_, ?_, ?_, ?_, ?_, ?_, ?_, ?_, ?_, ?_, ?_, ?_, ?_, ?_, ?_, ?_⟩
  · rintro hl h8 h64 hk ho hs hu hw ht hty ha hf rfl h1 hn
    have hc := hk ▸ exec_objectWrite (s := s) (v := v) h8 h64
    rw [← bar0Outcome_ok]
    exact gives_bar0_stages hm hc (begun_put_word hl ho hs hu hw) hl ht (single_of_staged hty) ha hf h1 hn
  · rintro hl h8 h64 hk ho hs
    have hc := hk ▸ exec_objectWrite (s := s) (v := v) h8 h64
    rw [← bar0Outcome_noSession]
    exact gives_bar0_noSession hm hc ho hs hl
  · rintro hl h8 h64 hk ho hs hu hw hb hi hsub hd ha
    have hc := hk ▸ exec_objectWrite (s := s) (v := v) h8 h64
    have hput : s.noOut.bar0Renew.bar0Put k (v % 2 ^ 64) = s.bar0Begun.deny RC.access :=
      (begun_put_word hl ho hs hu hw).trans (writeObj_readOnly hb hi hsub hd ha)
    rw [← bar0Outcome_access]
    exact gives_bar0_live hm hc hput (Writes.refl s) rfl
  · rintro hn hk
    have hc := hk ▸ exec_objectWrite_narrow (s := s) (v := v) hn
    rw [← bar0Outcome_malformed]
    exact gives_bar0Narrow hm hc
  · rintro hl h8 h64 hk hi hn hu hw ht hty ha hf -
    have hc := hk ▸ exec_objectWrite (s := s) (v := v) h8 h64
    have hty : d.ty.single = true := by rcases hty with h | h | h | h | h <;> rw [h] <;> rfl
    rw [← bar0Outcome_ok]
    exact gives_bar0_port hm hc hl hi hn hu hw ht hty ha hf
  · rintro rfl rfl hw hd hty hr
    rw [← readWide_single hd (by rw [hty]; rfl)] at hr
    exact gives_bar0Read hm rfl (bar0Read_low (upperOf_of_object hd) hw hr)
  · rintro rfl hk hu hr hl
    exact gives_bar0Read_bare hm (hk ▸ rfl) (bar0Read_upper_latched hu hr ((bar0Renew_barLatch s).trans hl))
  · rintro rfl hk hu hr hl
    rw [← bar0Renew_barLatch s] at hl
    exact gives_bar0Read_bare hm (hk ▸ rfl) (bar0Read_upper_fresh hu hr hl)
  · rintro rfl rfl hu hw
    exact gives_bar0Read_bare hm rfl (bar0Read_word hu hw)
  · rintro hl hk ho hs hu ht
    have hput := begun_put_upper (v := v % 2 ^ 64) hl ho hs hu ((Nat.add_sub_cancel k 65536).symm ▸ ht)
    rw [Nat.add_sub_cancel] at hput
    rw [← bar0Outcome_ok]
    exact gives_bar0_live hm (hk ▸ rfl) hput (Writes.refl s) rfl
  · rintro hl rfl ho hs hu hw ht hty ha hh hf rfl h1 hn
    rw [← bar0Outcome_ok]
    exact gives_bar0_stages hm rfl (begun_put_low hl ho hs hu hw ht hh) hl ht (by rw [hty]; rfl) ha (by rw [hty]; exact hf) h1 hn
  · rintro hl rfl ho hs hu hw ht hh
    rw [← bar0Outcome_malformed]
    refine (gives_bar0_live hm rfl (begun_put_low_bare hl ho hs hu hw ht hh) (Writes.refl s) rfl).imp fun t h => ⟨h.1, h.2.trans ?_⟩
    rw [← hh]; rfl
  · rintro hb rfl hv
    rw [← bar0Outcome_ok]
    exact gives_bar0SessionWrite hm hb hv
  · rintro hb hl hv rfl hlease rfl hsess hlock hk
    exact gives_bar0Open_fresh hm hb hl hv hlease hsess hlock hk
  · rintro hb hl rfl hv hx rfl
    rw [← bar0Outcome_ok, bar0Renew_live hl]
    exact gives_tblSelWrite hm hb hl hv hx
  · rintro hb hl hk hsel ht hd hty ha hrow hf rfl h1 hn
    rw [← bar0Outcome_ok]
    refine (gives_tblPut hm hb hl hk hsel ht hd hty ha hrow hf h1 hn).imp fun t h => ?_
    obtain ⟨hw, hsame, hother, ht⟩ := h
    have hout : t.out = [.result RC.ok 0] := (congrArg State.out ht :)
    exact ⟨hout, hw, hsame, hother, hout ▸ ht⟩

end Sys2Proof.Machine
end

section
/-! SUPPORT. Moves of the timescale: what the placing of edges and the gating of clocks leave as it was (R71, R85 to R93, R302). -/

namespace Sys2Proof.Machine

variable {s t u : State} {P : Nat → Prop} {c k : Nat}

/-! ## What an update keeps -/

/-- An update keeps the objects of a kind, and what of the state a move of the timescale speaks of beside objects. -/
structure Kept (P : Nat → Prop) (s t : State) : Prop where
  g : ∀ j, P j → t.g j = s.g j
  tick : t.tick = s.tick
  vmem : t.vmem = s.vmem
  slotBytes : t.slotBytes = s.slotBytes
  servoErr : t.servoErr = s.servoErr
  tsStep : t.tsStep = s.tsStep
  ev : t.ev 7 = s.ev 7

namespace Kept

theorem refl (s : State) : Kept P s s := ⟨fun _ _ => rfl, rfl, rfl, rfl, rfl, rfl, rfl⟩

theorem trans (h : Kept P s t) (h' : Kept P t u) : Kept P s u :=
  ⟨fun j hj => (h'.g j hj).trans (h.g j hj), h'.tick.trans h.tick, h'.vmem.trans h.vmem, h'.slotBytes.trans h.slotBytes,
    h'.servoErr.trans h.servoErr, h'.tsStep.trans h.tsStep, h'.ev.trans h.ev⟩

theorem mono {Q : Nat → Prop} (h : Kept P s t) (hq : ∀ j, Q j → P j) : Kept Q s t := { h with g := fun j hj => h.g j (hq j hj) }

theorem p (h : Kept P s t) (hk : ¬P k) (v : Nat) : Kept P s (t.p k v) :=
  { h with g := fun j hj => (State.g_p_other t v (fun e => hk (e.subst (motive := P) hj))).trans (h.g j hj) }

theorem inc (h : Kept P s t) (hk : ¬P k) : Kept P s (t.inc k) := h.p hk _

/-- One object is written alike in both. -/
theorem p_both (h : Kept P s t) (k v : Nat) : Kept P (s.p k v) (t.p k v) :=
  { h with g := fun j hj => by rw [State.g_p, State.g_p, h.g j hj] }

theorem setCh (h : Kept P s t) (x : ChHid) : Kept P s (t.setCh c x) := { h with }
theorem setCore (h : Kept P s t) (x : CoreHid) : Kept P s (t.setCore k x) := { h with }
theorem setPad (h : Kept P s t) (x : PadHid) : Kept P s (t.setPad c x) := { h with }
theorem setInp (h : Kept P s t) (x : InHid) : Kept P s (t.setInp c x) := { h with }
theorem setSq (h : Kept P s t) (x : SqHid) : Kept P s (t.setSq c x) := { h with }
theorem setSlot (h : Kept P s t) (x : SlotHid) : Kept P s (t.setSlot c x) := { h with }

theorem ev_raiseBits {a : Nat} (ha : a ≠ 7) (m : Nat) : (t.raiseBits a m).ev 7 = t.ev 7 := by
  unfold State.raiseBits
  split
  · exact Sp.find_ins_other _ _ ha.symm
  · exact Sp.find_ins_other _ _ ha.symm

theorem raiseBits {a : Nat} (h : Kept P s t) (ha : a ≠ 7) (m : Nat) : Kept P s (t.raiseBits a m) := by
  have hev := (ev_raiseBits (t := t) ha m).trans h.ev
  rw [raiseBits_form] at hev ⊢
  exact { h with ev := hev }

theorem foldl {α : Type} {l : List α} {f : State → α → State} (hf : ∀ u, ∀ x ∈ l, Kept P u (f u x)) :
    ∀ {t}, Kept P s t → Kept P s (l.foldl f t) := by
  induction l with
  | nil => exact fun h => h
  | cons x l ih => exact fun h => ih (fun u y hy => hf u y (List.mem_cons_of_mem _ hy)) (h.trans (hf _ x List.mem_cons_self))

theorem each {l : List Nat} {f : State → Nat → State} (hf : ∀ u, ∀ x ∈ l, Kept P u (f u x)) (h : Kept P s t) : Kept P s (t.each l f) :=
  foldl hf h

end Kept

/-! ## The objects that placing and gating leave -/

/-- Neither the counters and bounds of a channel's placement nor the servo's error: no such object has subindex 1 or 0xA, and of those
with subindex 3 or 4 only the counters of withheld edges, in the second block of a channel. -/
def held (j : Nat) : Prop := keySub j = 1 ∨ keySub j = 0xa ∨ (keySub j = 3 ∨ keySub j = 4) ∧ keyIndex j % 32 ≠ 1

theorem held_key {i sub : Nat} (h : sub < 256) :
    held (key i sub 0) ↔ sub = 1 ∨ sub = 0xa ∨ (sub = 3 ∨ sub = 4) ∧ i % 32 ≠ 1 := by
  have hs : keySub (key i sub 0) = sub := by simp only [key, keySub]; omega
  have hi : keyIndex (key i sub 0) = i := by simp only [key, keyIndex]; omega
  rw [held, hs, hi]

theorem not_held_withheld (c : Nat) : ¬held (K.CH_WITHHELD c) := by rw [K.CH_WITHHELD, held_key] <;> omega

theorem not_held_withheldFor (c : Nat) {r : Nat} (h1 : 1 ≤ r) (h5 : r ≤ 5) : ¬held (atSub (K.CH_WH_LATE c) (r - 1)) := by
  have h : atSub (K.CH_WH_LATE c) (r - 1) = key (0x5001 + 0x20 * c) (r + 2) 0 := by simp only [atSub, K.CH_WH_LATE, key]; omega
  rw [h, held_key] <;> omega

theorem not_held_lastWithheld (c : Nat) : ¬held (K.CH_LAST_WH c) := by rw [K.CH_LAST_WH, held_key] <;> omega
theorem not_held_lastReason (c : Nat) : ¬held (K.CH_LAST_WH_REASON c) := by rw [K.CH_LAST_WH_REASON, held_key] <;> omega
theorem not_held_nextVernier (c : Nat) : ¬held (K.CH_NEXT_VERNIER c) := by rw [K.CH_NEXT_VERNIER, held_key] <;> omega
theorem not_held_queuePeak (c : Nat) : ¬held (K.CH_QUEUE_PEAK c) := by rw [K.CH_QUEUE_PEAK, held_key] <;> omega
theorem not_held_proxFrames (c : Nat) : ¬held (K.IP_PROX_FRAMES c) := by rw [K.IP_PROX_FRAMES, held_key] <;> omega
theorem not_held_bound (c : Nat) : ¬held (K.CH_BOUND c) := by rw [K.CH_BOUND, held_key] <;> omega
theorem not_held_status (c : Nat) : ¬held (K.CH_STATUS c) := by rw [K.CH_STATUS, held_key] <;> omega
theorem not_held_nextJ (c k : Nat) : ¬held (K.RULE_NEXT_J c k) := by rw [K.RULE_NEXT_J, held_key] <;> omega
theorem not_held_done (c k : Nat) : ¬held (K.RULE_DONE c k) := by rw [K.RULE_DONE, held_key] <;> omega
theorem not_held_phase (n : Nat) : ¬held (K.SLOT_PHASE n) := by rw [K.SLOT_PHASE, held_key] <;> omega
theorem not_held_servo : ¬held K.HS_SERVO_ERR := by rw [K.HS_SERVO_ERR, held_key] <;> omega
theorem not_held_alignFn : ¬held K.HS_ALIGN_FN := by rw [K.HS_ALIGN_FN, held_key] <;> omega
theorem not_held_padLevel (c : Nat) : ¬held (K.PAD_LEVEL c) := by rw [K.PAD_LEVEL, held_key] <;> omega
theorem not_held_jumpStatus (q : Nat) : ¬held (K.SQ_JUMP_STATUS q) := by rw [K.SQ_JUMP_STATUS, held_key] <;> omega
theorem not_held_entry (q : Nat) : ¬held (K.SQ_ENTRY q) := by rw [K.SQ_ENTRY, held_key] <;> omega

/-! ## Placing one edge (R71, R85 to R93, R107) -/

theorem Kept.judge (h : Kept held s t) (c : Nat) : Kept held s (t.judge c) := h.p (not_held_status c) _

theorem Kept.countWh (h : Kept held s t) (c : Nat) {r : Nat} (h1 : 1 ≤ r) (h5 : r ≤ 5) (n : Int) : Kept held s (t.countWh c r n) :=
  (((h.inc (not_held_withheld c)).inc (not_held_withheldFor c h1 h5)).p (not_held_lastWithheld c) _).p (not_held_lastReason c) _

theorem whEvent_ne {r e : Nat} (h : whEvent r = some e) : e ≠ 7 := by
  unfold whEvent at h
  split at h <;> simp only [Option.some.injEq, reduceCtorEq] at h <;> omega

theorem Kept.withhold (h : Kept held s t) (c k : Nat) {r : Nat} (h1 : 1 ≤ r) (h5 : r ≤ 5) (n : Int) : Kept held s (t.withhold c k r n) := by
  have hc : Kept held s (if 64 ≤ k then (t.countWh c r n).countWh k r n else t.countWh c r n) := by
    split
    · exact (h.countWh c h1 h5 n).countWh k h1 h5 n
    · exact h.countWh c h1 h5 n
  rw [State.withhold]
  cases he : whEvent r with
  | some e => exact hc.raiseBits (whEvent_ne he) _
  | none => exact hc

theorem placeReason_mem {n r : Nat} (h : s.placeReason c k n = some r) : 1 ≤ r ∧ r ≤ 5 := by
  unfold State.placeReason at h
  split at h
  · split at h
    · cases h; decide
    · split at h
      · cases h; decide
      · split at h
        · cases h; decide
        · cases h
  · split at h
    · cases h; decide
    · cases h

theorem Kept.lateTerm (h : Kept held s t) (c k f : Nat) : Kept held s (t.lateTerm c k f) := by
  unfold State.lateTerm
  dsimp only
  split
  · exact (((h.setCore _).inc (not_held_proxFrames k)).p (not_held_bound c) _).judge c
  · split
    · exact ((h.setCore _).inc (not_held_proxFrames k)).setCh _
    · exact h

theorem Kept.queueEdge (h : Kept held s t) (c k v n : Nat) (level trig : Bool) : Kept held s (t.queueEdge c k v n level trig) := by
  have hl : Kept held s (if t.guarded c n then t.lateTerm c k (frameOf n) else t) := by
    split
    · exact h.lateTerm c k _
    · exact h
  exact (((hl.setCore _).p (not_held_nextVernier k) _).setCh _).p (not_held_queuePeak k) _

theorem Kept.placeOne (h : Kept held s t) (w : State) (c k : Nat) (d : Int) (lane : Bool) (n : Int × Bool) :
    Kept held s (t.placeOne w c k d lane n) := by
  have hs : Kept held s (t.setSrcLevel c n.2) := h.setPad _
  unfold State.placeOne
  dsimp only
  split
  · exact hs.withhold c k (by decide) (by decide) _
  · split
    · exact hs.withhold c k (by decide) (by decide) _
    · split
      · exact h.setCh _
      · split
        · next r hr => exact hs.withhold c k (placeReason_mem hr).1 (placeReason_mem hr).2 _
        · exact hs.queueEdge c k _ _ _ _

/-! ## The pass of one channel (R73, R75 to R78, R84) -/

theorem Kept.turnSource (h : Kept held s t) (v : State) (c : Nat) : Kept held s (t.turnSource v c) := by
  unfold State.turnSource
  dsimp only
  split
  · exact h
  · exact h.setCh _

theorem Kept.expand (h : Kept held s t) (v : State) (c : Nat) : Kept held s (t.expand v c) :=
  (Kept.each (fun u i _ => ((Kept.refl u).p (not_held_nextJ c i) _).p (not_held_done c i) _) h).setCh _

theorem Kept.passChannel (h : Kept held s t) (v : State) (failing c : Nat) : Kept held s (t.passChannel v failing c) := by
  have hx : Kept held s (if v.src c = 1 then (t.turnSource v c).expand v c else t.turnSource v c) := by
    split
    · exact (h.turnSource v c).expand v c
    · exact h.turnSource v c
  unfold State.passChannel
  dsimp only
  split
  · exact Kept.foldl (fun u n _ => (Kept.refl u).placeOne v c _ _ _ n) (hx.setCh _)
  · exact hx

end Sys2Proof.Machine
end

section
/-! SUPPORT. Moves of the timescale: their parts (R43, R51, R302, R387, R599, R600). -/

namespace Sys2Proof.Machine

variable {s t : State} {c k : Nat} {frames d : Int}

/-! ## Gating (R302, R348) -/

theorem gatePads_g (l : List Nat) (b : Nat) (s : State) : (s.gatePads l b).g = s.g :=
  foldl_same (f := fun s c => s.gatePad c b 0) State.g (fun _ _ => rfl) l s

theorem Kept.gatePads {P : Nat → Prop} (h : Kept P s t) (l : List Nat) (b : Nat) : Kept P s (t.gatePads l b) :=
  Kept.each (fun u _ _ => (Kept.refl u).setPad _) h

/-- A pad closes, or is gated already. -/
def State.shuts (s : State) (c : Nat) : Prop := (s.pad c).closing = true ∨ s.g (K.CLK_GATED c) ≠ 0

theorem gatePad_shuts (s : State) (c b : Nat) : (s.gatePad c b 0).shuts c := by
  rw [State.shuts, State.gatePad, State.pad, State.setPad]
  simp only [Sp.get_set_same, beq_iff_eq]
  exact Decidable.em _

theorem gatePad_keeps_shuts {b i : Nat} (h : s.shuts i) : (s.gatePad c b 0).shuts i := by
  by_cases hi : i = c
  · subst hi; exact gatePad_shuts s i b
  · have hpad : (s.gatePad c b 0).pad i = s.pad i := by
      rw [State.gatePad, State.pad, State.setPad]
      exact Sp.get_set_other _ _ _ hi
    rw [State.shuts, hpad]
    exact h

/-- Every pad of a list that is gated closes, or is gated already. -/
theorem gatePads_shuts (l : List Nat) (b : Nat) (s : State) : ∀ c ∈ l, (s.gatePads l b).shuts c := fun c hc =>
  each_all (f := fun s c => s.gatePad c b 0) (I := fun _ => True) (Q := fun c s => s.shuts c) (fun _ _ _ => trivial)
    (fun s c _ => gatePad_shuts s c b) (fun _ _ _ _ h => gatePad_keeps_shuts h) l s trivial c (.inl hc)

/-- The pads of a source are known by objects of subindex 1. -/
theorem clockPads_congr (h : ∀ j, keySub j = 1 → 0x3000 ≤ keyIndex j → t.g j = s.g j) (src : Nat) : t.clockPads src = s.clockPads src := by
  unfold State.clockPads
  congr 1
  funext c
  rw [h (K.CH_SOURCE c) (by simp only [K.CH_SOURCE, key, keySub]; omega) (by simp only [K.CH_SOURCE, key, keyIndex]; omega),
    h (K.CLK_SRC c) (by simp only [K.CLK_SRC, key, keySub]; omega) (by simp only [K.CLK_SRC, key, keyIndex]; omega)]

/-! ## Times that move (R387, R600) -/

theorem Kept.setPhase (h : Kept held s t) (n : Nat) (ph : Int) : Kept held s (t.setPhase n ph) :=
  (h.setSlot _).p (not_held_phase n) _

theorem Kept.slotMoves (h : Kept held s t) (d : Int) (n : Nat) : Kept held s (t.slotMoves d n) := by
  unfold State.slotMoves
  dsimp only
  split
  · exact h
  · exact (h.setSlot _).setPhase n _

theorem selected_congr (h : ∀ j, keySub j = 1 → 0x3000 ≤ keyIndex j → t.g j = s.g j) : t.selected = s.selected := by
  rw [State.selected, State.selected, h K.HS_SELECTED (by decide) (by decide)]

theorem timeSelected_congr (h : ∀ j, keySub j = 1 → 0x3000 ≤ keyIndex j → t.g j = s.g j) : t.timeSelected = s.timeSelected := by
  rw [State.timeSelected, State.timeSelected, selected_congr h]
  cases s.selected with
  | none => rfl
  | some n =>
    show carriesTime _ = carriesTime _
    rw [h (K.SLOT_TYPE n) (by simp only [K.SLOT_TYPE, key, keySub]; omega) (by simp only [K.SLOT_TYPE, key, keyIndex]; omega)]

/-- The state with another phase error of the servo. -/
def State.withServo (s : State) (e : Int) : State := { s with servoErr := e }

theorem withServo_g (s : State) (e : Int) : (s.withServo e).g = s.g := rfl

theorem Kept.setServo (h : Kept held s t) (e : Int) : Kept held (s.withServo e) (t.setServo e) :=
  { h.p not_held_servo (ofI64 (satI64 e)) with servoErr := rfl }

/-- The state with another frame number, and the time at which that frame begins. -/
def State.atFrame (s : State) (fn : Nat) : State := (s.p K.TS_FN fn).p K.TS_NOW (ofTime92 (fn * qFrame))

theorem atFrame_g (s : State) (fn j : Nat) : (s.atFrame fn).g j =
    if j = K.TS_NOW then ofTime92 (fn * qFrame) else if j = K.TS_FN then fn else s.g j := by
  rw [State.atFrame, State.g_p, State.g_p]

theorem atFrame_g_off (s : State) (fn : Nat) {j : Nat} (h : 0x2010 ≠ keyIndex j) : (s.atFrame fn).g j = s.g j := by
  rw [atFrame_g, if_neg (fun e => h (by rw [e]; decide)), if_neg (fun e => h (by rw [e]; decide))]

theorem atFrame_servoErr (s : State) (fn : Nat) : (s.atFrame fn).servoErr = s.servoErr := by
  rw [State.atFrame, State.p_servoErr, State.p_servoErr]

/-- The state with its time moved by whole frames, and the servo's error with it where a time is selected. -/
def State.movedTo (s : State) (frames d : Int) : State :=
  (s.atFrame ((s.fn : Int) + frames).toNat).withServo (if s.timeSelected then s.servoErr - d * 16 else s.servoErr)

theorem moveTimescale_kept (s : State) (frames d : Int) : Kept held (s.movedTo frames d) (s.moveTimescale frames d) := by
  have hw : Kept held (s.atFrame ((s.fn : Int) + frames).toNat)
      ((s.atFrame ((s.fn : Int) + frames).toNat).each (List.range 28) (fun s n => s.slotMoves d n)) :=
    Kept.each (fun u n _ => (Kept.refl u).slotMoves d n) (Kept.refl _)
  have htime := timeSelected_congr (s := s) fun j h1 h3 => (hw.g j (.inl h1)).trans (atFrame_g_off s _ (by omega))
  have herr := hw.servoErr.trans (atFrame_servoErr s _)
  rw [State.moveTimescale, State.movedTo, ← htime, ← herr]
  exact hw.setServo _

/-- Every time held moves with the timescale; beside the times, what `movedTo` says. -/
theorem moveAll_kept (s : State) (frames d : Int) : Kept held (s.movedTo frames d) (s.moveAll frames d) :=
  Kept.each (fun u _ _ => (Kept.refl u).setSq _) <| Kept.each (fun u _ _ => (Kept.refl u).setInp _) <|
    Kept.each (fun u _ _ => (Kept.refl u).setCh _) <| Kept.each (fun u _ _ => (Kept.refl u).setCore _) <| moveTimescale_kept s frames d

/-! ## Edges and rules (R78, R599, R600, R603) -/

theorem Kept.dropEdges {P : Nat → Prop} (h : Kept P s t) (p : Nat → Bool) : Kept P s (t.dropEdges p) :=
  Kept.each (fun u _ _ => (Kept.refl u).setCore _) h

theorem Kept.rulesAfresh {P : Nat → Prop} (h : Kept P s t) : Kept P s t.rulesAfresh :=
  Kept.each (fun u _ _ => (Kept.refl u).setCh _) h

theorem Kept.gateSpindle {P : Nat → Prop} (h : Kept P s t) : Kept P s t.gateSpindle := h.gatePads _ _

/-- An object and the boundary count written, and after what an update keeps written back. -/
theorem Kept.roundTrip {P : Nat → Prop} {a b : Nat} (h : Kept P { s.p k a with tick := b } t) :
    Kept P s { t.p k (s.g k) with tick := s.tick } :=
  { g := fun j hj => by
      have hg : t.g j = (s.p k a).g j := h.g j hj
      show (t.p k (s.g k)).g j = s.g j
      rw [State.g_p, hg, State.g_p]
      split
      · next e => rw [e]
      · rfl
    tick := rfl
    vmem := h.vmem
    slotBytes := h.slotBytes
    servoErr := h.servoErr
    tsStep := h.tsStep
    ev := h.ev }

/-- The edges of the frame that begins are placed at the frame before, from which the state returns. -/
theorem placeHere_kept (s : State) : Kept held s s.placeHere :=
  (Kept.each (fun u c _ => (Kept.refl u).passChannel u 0 c) (Kept.refl _)).roundTrip

theorem Kept.placeHere (h : Kept held s t) : Kept held s t.placeHere := h.trans (placeHere_kept t)

/-! ## Sequencers (R599) -/

theorem Kept.setLevel {P : Nat → Prop} (h : Kept P s t) (q c : Nat) (b : Bool) : Kept P s (t.setLevel q c b) := h.setSq _

/-- The objects of `held` below those of the sequencers. -/
def heldBelow (j : Nat) : Prop := held j ∧ keyIndex j < 0x6000

theorem not_heldBelow_sqState (q : Nat) : ¬heldBelow (K.SQ_STATE q) := fun h => by
  have hi := h.2
  simp only [K.SQ_STATE, key, keyIndex] at hi
  omega

theorem Kept.stopped (h : Kept heldBelow s t) (q : Nat) : Kept heldBelow s (t.stopped q) :=
  (((h.setSq _).p (not_heldBelow_sqState q) 0).p (fun hb => not_held_entry q hb.1) 0xFFFF).raiseBits (by decide) _

theorem Kept.haltSeq (h : Kept heldBelow s t) (q : Nat) : Kept heldBelow s (t.haltSeq q) := by
  unfold State.haltSeq
  split
  · exact h
  · exact ((Kept.each (fun u c _ => (Kept.refl u).setLevel q c _) h).p (fun hb => not_held_jumpStatus q hb.1) 0).stopped q

theorem Kept.haltSeqs (h : Kept heldBelow s t) : Kept heldBelow s t.haltSeqs := by
  refine (Kept.each (fun u q _ => (Kept.refl u).haltSeq q) (Kept.each (fun u c _ => ?_) h)).dropEdges _
  dsimp only
  split
  · exact ((Kept.refl u).setCh _).p (fun hb => not_held_padLevel c hb.1) _
  · exact (Kept.refl u).setCh _

theorem stopped_g (s : State) (q : Nat) (j : Nat) : (s.stopped q).g j = if j = K.SQ_ENTRY q then 0xFFFF else if j = K.SQ_STATE q then 0 else s.g j := by
  unfold State.stopped
  dsimp only
  rw [raiseBits_g, Writes.pAll]
  rfl

theorem sqState_inj {q i : Nat} : K.SQ_STATE i = K.SQ_STATE q ↔ i = q := by
  simp only [K.SQ_STATE, key]; omega

theorem haltSeq_state (s : State) (q i : Nat) : (s.haltSeq q).g (K.SQ_STATE i) = if i = q then 0 else s.g (K.SQ_STATE i) := by
  unfold State.haltSeq
  split
  · next h0 =>
    split
    · next hi => rw [hi, h0]
    · rfl
  · have hl : (s.each (instances 64 (s.owns q)) (fun s c => s.setLevel q c (s.parkLevel c))).g = s.g :=
      each_keeps State.g _ s fun _ _ _ => rfl
    have he : K.SQ_STATE i ≠ K.SQ_ENTRY q := by simp only [K.SQ_STATE, K.SQ_ENTRY, key]; omega
    have hj : K.SQ_STATE i ≠ K.SQ_JUMP_STATUS q := by simp only [K.SQ_STATE, K.SQ_JUMP_STATUS, key]; omega
    rw [stopped_g, if_neg he, State.g_p, if_neg hj, hl]
    simp only [sqState_inj]

theorem dropEdges_g (s : State) (p : Nat → Bool) : (s.dropEdges p).g = s.g := each_keeps State.g _ s fun _ _ _ => rfl

/-- No sequencer of the device is armed or plays. -/
theorem haltSeqs_state (s : State) {q : Nat} (hq : q ∈ List.range 8) : s.haltSeqs.g (K.SQ_STATE q) = 0 := by
  rw [State.haltSeqs, dropEdges_g]
  refine each_all (f := State.haltSeq) (I := fun _ => True) (Q := fun q s => s.g (K.SQ_STATE q) = 0) (fun _ _ _ => trivial)
    (fun u i _ => ?_) (fun u i j _ h => ?_) _ _ trivial q (.inl hq)
  · rw [haltSeq_state, if_pos rfl]
  · rw [haltSeq_state, h, ite_self]

/-! ## A step takes effect (R51, R600) -/

/-- The state of which a step keeps all that `Kept` says: its time moved, and the step counted. -/
def State.steppedTo (s : State) (k : Int) : State := (s.movedTo k (k * qFrame)).inc K.TS_STEP_COUNT

theorem p_form (s : State) (k v : Nat) : ∃ o, s.p k v = { s with od := o } := ⟨_, rfl⟩

theorem movedTo_form (s : State) (frames d : Int) : ∃ o e, s.movedTo frames d = { s with od := o, servoErr := e } := by
  rw [State.movedTo, State.atFrame]
  generalize ((s.fn : Int) + frames).toNat * qFrame = n
  obtain ⟨o, ho⟩ := p_form s K.TS_FN ((s.fn : Int) + frames).toNat
  obtain ⟨o', ho'⟩ := p_form { s with od := o } K.TS_NOW (ofTime92 n)
  rw [ho, ho']
  exact ⟨_, _, rfl⟩

theorem steppedTo_form (s : State) (k : Int) : ∃ o e, s.steppedTo k = { s with od := o, servoErr := e } := by
  obtain ⟨o, e, h⟩ := movedTo_form s k (k * qFrame)
  obtain ⟨o', ho'⟩ := p_form (s.movedTo k (k * qFrame)) K.TS_STEP_COUNT ((s.movedTo k (k * qFrame)).g K.TS_STEP_COUNT + 1)
  exact ⟨o', e, by rw [State.steppedTo, State.inc, ho', h]⟩

theorem steppedTo_g (s : State) (k : Int) (j : Nat) : (s.steppedTo k).g j =
    if j = K.TS_STEP_COUNT then s.g K.TS_STEP_COUNT + 1 else (s.atFrame ((s.fn : Int) + k).toNat).g j := by
  have hc : (s.atFrame ((s.fn : Int) + k).toNat).g K.TS_STEP_COUNT = s.g K.TS_STEP_COUNT := by
    rw [atFrame_g, if_neg (by decide), if_neg (by decide)]
  rw [State.steppedTo, State.inc, State.g_p, State.movedTo, withServo_g, hc]

/-- A step but for its end: the clocks gated, and the marks of the step. -/
def State.stepBody (s : State) (k : Int) : State :=
  let s := (s.moveAll k (k * qFrame)).inc K.TS_STEP_COUNT
  let s := s.each (instances 64 (fun c => (s.ch c).burst.isSome)) (fun s c => s.setCh c { s.ch c with burst := none })
  ((s.dropEdges (fun c => s.src c != 3)).rulesAfresh).placeHere

/-- The marks of a step: the next record is STEPPED, and so are the next messages of the stack. -/
def State.stepMarked (s : State) (x : StkHid) : State := { s with stepped := true, stk := x }

theorem stepNow_eq (s : State) (k : Int) : ∃ x, s.stepNow k = (s.stepBody k).gateSpindle.stepMarked x :=
  ⟨{ (s.stepBody k).stk with steps := 3 }, by rw [State.stepNow, State.stepBody, State.stepMarked]⟩

theorem Kept.stepMarked {P : Nat → Prop} (h : Kept P s t) (x : StkHid) : Kept P s (t.stepMarked x) := { h with }

theorem stepMarked_pad (s : State) (x : StkHid) : (s.stepMarked x).pad = s.pad := rfl
theorem stepMarked_g (s : State) (x : StkHid) : (s.stepMarked x).g = s.g := rfl
theorem stepMarked_stepped (s : State) (x : StkHid) : (s.stepMarked x).stepped = true := rfl

theorem Kept.inc_both {P : Nat → Prop} (h : Kept P s t) (hk : P k) : Kept P (s.inc k) (t.inc k) := by
  rw [State.inc, State.inc, h.g k hk]
  exact h.p_both k _

theorem stepBody_kept (s : State) (k : Int) : Kept held (s.steppedTo k) (s.stepBody k) :=
  (((Kept.each (fun u _ _ => (Kept.refl u).setCh _)
    ((moveAll_kept s k (k * qFrame)).inc_both (k := K.TS_STEP_COUNT) (by rw [K.TS_STEP_COUNT, held_key] <;> omega))).dropEdges _).rulesAfresh).placeHere

theorem stepNow_kept (s : State) (k : Int) : Kept held (s.steppedTo k) (s.stepNow k) := by
  obtain ⟨x, hx⟩ := stepNow_eq s k
  rw [hx]
  exact ((stepBody_kept s k).gateSpindle).stepMarked x

/-- The Spindle-fed clock pads of the state before a step are gated by it. -/
theorem stepNow_shuts (s : State) (k : Int) : ∀ c ∈ s.clockPads 0, (s.stepNow k).shuts c := by
  have hpads : (s.stepBody k).clockPads 0 = s.clockPads 0 := clockPads_congr (fun j h1 h3 => by
    rw [(stepBody_kept s k).g j (.inl h1), steppedTo_g, if_neg (fun e => absurd (e ▸ h1) (by decide)), atFrame_g_off s _ (by omega)]) 0
  intro c hc
  rw [← hpads] at hc
  obtain ⟨x, hx⟩ := stepNow_eq s k
  rw [hx, State.shuts, stepMarked_pad, stepMarked_g]
  exact gatePads_shuts _ _ (s.stepBody k) c hc

/-- What a step leaves (R600). -/
structure Stepped (s : State) (k : Int) (t : State) : Prop where
  fn : t.g K.TS_FN = ((s.fn : Int) + k).toNat
  now : t.g K.TS_NOW = ofTime92 (((s.fn : Int) + k).toNat * qFrame)
  count : t.g K.TS_STEP_COUNT = s.g K.TS_STEP_COUNT + 1
  shuts : ∀ c ∈ s.clockPads 0, t.shuts c
  tsStep : t.tsStep = s.tsStep
  stepped : t.stepped = true
  tick : t.tick = s.tick
  vmem : t.vmem = s.vmem
  slotBytes : t.slotBytes = s.slotBytes
  g : ∀ j, held j → 0x2010 ≠ keyIndex j → t.g j = s.g j

theorem stepNow_stepped (s : State) (k : Int) : Stepped s k (s.stepNow k) := by
  have h := stepNow_kept s k
  have hoff : ∀ j, 0x2010 ≠ keyIndex j → (s.steppedTo k).g j = s.g j := fun j hj => by
    rw [steppedTo_g, if_neg (fun e => hj (by rw [e]; decide)), atFrame_g_off s _ hj]
  obtain ⟨o, e, hform⟩ := steppedTo_form s k
  refine ⟨?_, ?_, ?_, stepNow_shuts s k, h.tsStep.trans (by rw [hform]), ?_, h.tick.trans (by rw [hform]), h.vmem.trans (by rw [hform]),
    h.slotBytes.trans (by rw [hform]), fun j hj hi => (h.g j hj).trans (hoff j hi)⟩
  · rw [h.g _ (by rw [K.TS_FN, held_key] <;> omega), steppedTo_g, if_neg (by decide), atFrame_g, if_neg (by decide), if_pos rfl]
  · rw [h.g _ (by rw [K.TS_NOW, held_key] <;> omega), steppedTo_g, if_neg (by decide), atFrame_g, if_pos rfl]
  · rw [h.g _ (by rw [K.TS_STEP_COUNT, held_key] <;> omega), steppedTo_g, if_pos rfl]
  · obtain ⟨x, hx⟩ := stepNow_eq s k
    rw [hx, stepMarked_stepped]

end Sys2Proof.Machine
end

section
/-! SUPPORT. O11: the cases of TS_STEP (R51, R600), its effect, and first alignment (R43, R387, R599). -/

namespace Sys2Proof.Machine

variable {s t : State} {w : Who} {arg d : Nat} {k : Int} {idle : Bool}

/-! ## TS_STEP -/

/-- A whole number of frames is a time of the timescale when the frame it names is. -/
theorem inTimescale_frames (m : Int) : inTimescale (m * (qFrame : Int)) = true ↔ 0 ≤ m ∧ m < 2 ^ 43 * 1250000 := by
  simp only [inTimescale, Bool.and_eq_true, decide_eq_true_eq, qFrame, qSecond]
  norm_num
  omega

/-- The boundary at which a step of whole frames would come into force, as a time. -/
theorem stepTime_eq (hk : toI64 arg = k * (qFrame : Int)) : ((s.fnAt s.soon * qFrame : Nat) : Int) + toI64 arg = ((s.fn : Int) + 3 + k) * (qFrame : Int) := by
  rw [hk, fnAt_soon]
  push_cast
  ring

theorem tsStepBody_state (h : s.mode ≠ 9 ∨ s.tsStep.isSome = true) : s.tsStepBody idle arg = s.deny RC.state := by
  rw [State.tsStepBody, if_pos (h.imp_right .inr)]

section Stopped
variable (hm : s.mode = 9) (hn : s.tsStep = none)
include hm hn

theorem tsStep_free : ¬(s.mode ≠ 9 ∨ (!true) = true ∨ s.tsStep.isSome = true) := by simp [hm, hn]

theorem tsStepBody_part (hp : toI64 arg % (qFrame : Int) ≠ 0) : s.tsStepBody true arg = s.deny RC.range := by
  rw [State.tsStepBody, if_neg (tsStep_free hm hn), if_pos hp]

theorem tsStepBody_out (hk : toI64 arg = k * (qFrame : Int)) (hr : (s.fn : Int) + 3 + k < 0 ∨ 2 ^ 43 * 1250000 ≤ (s.fn : Int) + 3 + k) :
    s.tsStepBody true arg = s.deny RC.range := by
  have hin : inTimescale (((s.fnAt s.soon * qFrame : Nat) : Int) + toI64 arg) = false := by
    rw [stepTime_eq hk, ← Bool.not_eq_true, inTimescale_frames]
    omega
  have hwhole : ¬toI64 arg % (qFrame : Int) ≠ 0 := by rw [hk, Int.mul_emod_left]; exact fun h => h rfl
  rw [State.tsStepBody, if_neg (tsStep_free hm hn), if_neg hwhole, hin]
  rfl

theorem tsStepBody_accepted (hk : toI64 arg = k * (qFrame : Int)) (h0 : 0 ≤ (s.fn : Int) + 3 + k) (hr : (s.fn : Int) + 3 + k < 2 ^ 43 * 1250000) :
    s.tsStepBody true arg = State.accept { s with tsStep := some (k, s.soon) } := by
  have hin : inTimescale (((s.fnAt s.soon * qFrame : Nat) : Int) + toI64 arg) = true := by
    rw [stepTime_eq hk, inTimescale_frames]
    exact ⟨h0, hr⟩
  have hwhole : ¬toI64 arg % (qFrame : Int) ≠ 0 := by rw [hk, Int.mul_emod_left]; exact fun h => h rfl
  have hdiv : toI64 arg / (qFrame : Int) = k := by rw [hk]; exact Int.mul_ediv_cancel k (by decide)
  rw [State.tsStepBody, if_neg (tsStep_free hm hn), if_neg hwhole, hin, hdiv]
  rfl

end Stopped

/-- Every sequencer is STOPPED. -/
def State.sqIdle (s : State) : Bool := (List.range 8).all (fun q => s.g (K.SQ_STATE q) == 0)

theorem sqIdle_of (h : ∀ q ∈ List.range 8, s.g (K.SQ_STATE q) = 0) : s.sqIdle = true :=
  List.all_eq_true.2 fun q hq => beq_iff_eq.2 (h q hq)

theorem gives_tsStep (ha : s.admits w 3) {code : Nat} {r : State} (hb : s.noOut.tsStepBody s.sqIdle arg = ⟨code, 0, r⟩)
    (hg : r.g = s.g) (ho : r.out = []) :
    Gives (.tsStep w arg) s (fun t => Answers s t w K.TS_STEP arg code 0 [] ∧ t = { r with pending := s.pending, od := t.od, out := t.out }) :=
  gives_answers ha (body := fun s => s.tsStepBody s.sqIdle arg) rfl hb (fun j => congrFun hg j) (congrFun hg _) (congrFun hg _) ho

/-! ## TS_STEP_EFFECT -/

/-- A follower that searches the stack again. -/
def State.searchAgain (s : State) (n : Nat) (x : StkHid) : State := { s.p n 2 with stk := x }

theorem searchAgain_g (s : State) (n : Nat) (x : StkHid) (j : Nat) : (s.searchAgain n x).g j = if j = n then 2 else s.g j := State.g_p s j n 2

theorem searchAgain_form (s : State) (n : Nat) (x : StkHid) : ∃ o, s.searchAgain n x = { s with od := o, stk := x } := ⟨_, rfl⟩

theorem hostStep_eq (s : State) (k : Int) : s.hostStep k = if (s.stepNow k).g K.STK_STATE = 7
    then (s.stepNow k).searchAgain K.STK_STATE { (s.stepNow k).stk with okRun := 0 } else s.stepNow k := by
  rw [State.hostStep, State.searchAgain]

theorem hostStep_g (s : State) (k : Int) (j : Nat) : (s.hostStep k).g j =
    if j = K.STK_STATE ∧ (s.stepNow k).g K.STK_STATE = 7 then 2 else (s.stepNow k).g j := by
  rw [hostStep_eq]
  generalize s.stepNow k = u
  by_cases h7 : u.g K.STK_STATE = 7
  · rw [if_pos h7, searchAgain_g]
    simp only [h7, and_true]
  · rw [if_neg h7, if_neg (fun h => h7 h.2)]

theorem od_stk_form (s : State) : ∃ o x, s = { s with od := o, stk := x } := ⟨s.od, s.stk, rfl⟩

theorem hostStep_form (s : State) (k : Int) : ∃ o x, s.hostStep k = { s.stepNow k with od := o, stk := x } := by
  rw [hostStep_eq]
  by_cases h7 : (s.stepNow k).g K.STK_STATE = 7
  · rw [if_pos h7]
    exact (searchAgain_form (s.stepNow k) K.STK_STATE _).imp fun o ho => ⟨_, ho⟩
  · rw [if_neg h7]
    exact od_stk_form (s.stepNow k)

/-- The state at a step's boundary: the step is taken, and no output shown yet. -/
def State.stepTaken (s : State) : State := { s.noOut with tsStep := none }

theorem exec_tsStepEffect : exec .tsStepEffect s = run (fun s => match s.tsStep with
    | some (d, due) => if due ≤ s.tick then State.hostStep { s with tsStep := none } d else s
    | none => s) s := rfl

theorem gives_tsStepEffect {P : State → Prop} (hm : s.mode ≠ 0) (hs : s.tsStep = some (k, d)) (hd : d ≤ s.tick)
    (h : P { s.stepTaken.hostStep k with pending := s.pending }) : Gives .tsStepEffect s P := by
  refine gives_noOut hm exec_tsStepEffect ?_
  have hs' : s.noOut.tsStep = some (k, d) := hs
  have hd' : d ≤ s.noOut.tick := hd
  simp only [hs', hd', if_true]
  exact h

theorem stepTaken_g (s : State) : s.stepTaken.g = s.g := rfl

/-- What a step of the host leaves: as `Stepped`, but that a follower in MISMATCH searches again (R483). -/
theorem hostStep_stepped (s : State) (k : Int) : Stepped s k (s.stepNow k) ∧ (s.hostStep k).g K.STK_STATE =
    (if s.g K.STK_STATE = 7 then 2 else s.g K.STK_STATE) ∧ ∀ j, j ≠ K.STK_STATE → (s.hostStep k).g j = (s.stepNow k).g j := by
  have h := stepNow_stepped s k
  have h7 : (s.stepNow k).g K.STK_STATE = s.g K.STK_STATE := h.g _ (by rw [K.STK_STATE, held_key] <;> omega) (by decide)
  refine ⟨h, ?_, fun j hj => ?_⟩
  · rw [hostStep_g, h7]
    simp only [true_and]
  · rw [hostStep_g, if_neg (fun e => hj e.1)]

/-- A state that differs from one a step left in its objects, those of the clocks aside, and in the stack's record. -/
theorem Stepped.of_form {u v : State} {o : Sp Nat} {x : StkHid} (h : Stepped s k u) (hv : v = { u with od := o, stk := x })
    (hg : ∀ c, v.g (K.CLK_GATED c) = u.g (K.CLK_GATED c)) :
    (∀ c ∈ s.clockPads 0, v.shuts c) ∧ v.tsStep = s.tsStep ∧ v.stepped = true ∧ v.tick = s.tick ∧ v.vmem = s.vmem ∧
      v.slotBytes = s.slotBytes := by
  have hpad : v.pad = u.pad := by rw [hv]; rfl
  refine ⟨fun c hc => ?_, by rw [hv]; exact h.tsStep, by rw [hv]; exact h.stepped, by rw [hv]; exact h.tick, by rw [hv]; exact h.vmem,
    by rw [hv]; exact h.slotBytes⟩
  rw [State.shuts, hpad, hg c]
  exact h.shuts c hc

theorem clkGated_ne_stkState (c : Nat) : K.CLK_GATED c ≠ K.STK_STATE := by
  simp only [K.CLK_GATED, K.STK_STATE, key]; omega

/-- A step of the host leaves all that a step leaves, but for STK_STATE. -/
theorem hostStep_leaves (s : State) (k : Int) :
    (∀ c ∈ s.clockPads 0, (s.hostStep k).shuts c) ∧ (s.hostStep k).tsStep = s.tsStep ∧ (s.hostStep k).stepped = true ∧
    (s.hostStep k).tick = s.tick ∧ (s.hostStep k).vmem = s.vmem ∧ (s.hostStep k).slotBytes = s.slotBytes := by
  obtain ⟨h, -, hother⟩ := hostStep_stepped s k
  obtain ⟨o, x, hform⟩ := hostStep_form s k
  exact h.of_form hform fun c => hother _ (clkGated_ne_stkState c)

/-- What the timescale, its clocks and its sequencers are after a step of k frames. -/
def stepLeft (s : State) (k : Int) (t : State) : Prop :=
  t.g K.TS_FN = ((s.fn : Int) + k).toNat ∧ t.g K.TS_NOW = ofTime92 (((s.fn : Int) + k).toNat * qFrame) ∧
  t.g K.TS_STEP_COUNT = s.g K.TS_STEP_COUNT + 1 ∧ (∀ c ∈ s.clockPads 0, (t.pad c).closing = true ∨ t.g (K.CLK_GATED c) ≠ 0) ∧
  t.tsStep = none ∧ t.stepped = true ∧ t.tick = s.tick ∧ t.vmem = s.vmem ∧ t.slotBytes = s.slotBytes ∧ t.mode = s.mode ∧
  (∀ q ∈ List.range 8, t.g (K.SQ_STATE q) = s.g (K.SQ_STATE q)) ∧
  (t.g K.STK_STATE = if s.g K.STK_STATE = 7 then 2 else s.g K.STK_STATE)

theorem hostStep_left (k : Int) (hn : s.tsStep = none) : stepLeft s k (s.hostStep k) := by
  obtain ⟨h, hstk, hother⟩ := hostStep_stepped s k
  obtain ⟨hshuts, hts, hstepped, htick, hvmem, hslot⟩ := hostStep_leaves s k
  refine ⟨?_, ?_, ?_, hshuts, hts.trans hn, hstepped, htick, hvmem, hslot, ?_, fun q _ => ?_, hstk⟩
  · rw [hother _ (by decide), h.fn]
  · rw [hother _ (by decide), h.now]
  · rw [hother _ (by decide), h.count]
  · rw [State.mode, State.mode, hother _ (by decide)]
    exact h.g _ (by rw [K.MODE, held_key] <;> omega) (by decide)
  · rw [hother _ (by simp only [K.SQ_STATE, K.STK_STATE, key]; omega)]
    exact h.g _ (by rw [K.SQ_STATE, held_key] <;> omega) (by simp only [K.SQ_STATE, key, keyIndex]; omega)

/-! ## FIRST_ALIGNMENT (R43, R387, R599) -/

/-- First alignment but for its end: HS_ALIGN_FN, EV007 and the clocks. -/
def State.alignBody (s : State) (frames d : Int) : State := (((s.moveAll frames d).p K.TS_STATE 1).haltSeqs).rulesAfresh

theorem alignNow_eq (s : State) (frames d : Int) : s.alignNow frames d =
    (((s.alignBody frames d).p K.HS_ALIGN_FN (s.alignBody frames d).fn).raiseBits 7
      (bitmap (s.alignBody frames d).selected.toList)).gateSpindle := by
  rw [State.alignNow, State.alignBody]

theorem alignBody_kept (s : State) (frames d : Int) : Kept heldBelow ((s.movedTo frames d).p K.TS_STATE 1) (s.alignBody frames d) :=
  ((((moveAll_kept s frames d).mono fun _ h => h.1).p_both K.TS_STATE 1).haltSeqs).rulesAfresh

theorem alignBody_g (s : State) (frames d : Int) {j : Nat} (hj : heldBelow j) : (s.alignBody frames d).g j =
    if j = K.TS_STATE then 1 else (s.atFrame ((s.fn : Int) + frames).toNat).g j := by
  rw [(alignBody_kept s frames d).g j hj, State.g_p, State.movedTo, withServo_g]

theorem rulesAfresh_g (s : State) : s.rulesAfresh.g = s.g := each_keeps State.g _ s fun _ _ _ => rfl

theorem alignBody_sqState (s : State) (frames d : Int) {q : Nat} (hq : q ∈ List.range 8) :
    (s.alignBody frames d).g (K.SQ_STATE q) = 0 := by
  rw [State.alignBody, rulesAfresh_g]
  exact haltSeqs_state _ hq

theorem alignNow_g (s : State) (frames d : Int) (j : Nat) : (s.alignNow frames d).g j =
    if j = K.HS_ALIGN_FN then (s.alignBody frames d).fn else (s.alignBody frames d).g j := by
  rw [alignNow_eq, State.gateSpindle, gatePads_g, raiseBits_g, State.g_p]

theorem evMask_raiseBits (s : State) (a m : Nat) : (s.raiseBits a m).evMask a = s.evMask a ||| m := by
  have hf : ∀ e, (s.putEv a e).ev a = some e := fun e => Sp.find_ins_same _ _ _
  unfold State.raiseBits State.evMask
  cases he : s.ev a with
  | some e => simp only [hf]
  | none => simp only [hf, Nat.zero_or]

theorem gateSpindle_kept (s : State) : Kept (fun _ => True) s s.gateSpindle := (Kept.refl s).gateSpindle

theorem evMask_congr {u v : State} {a : Nat} (h : u.ev a = v.ev a) : u.evMask a = v.evMask a := by
  rw [State.evMask, h, State.evMask]

theorem p_ev (s : State) (k v a : Nat) : (s.p k v).ev a = s.ev a := rfl

theorem movedTo_ev (s : State) (frames d : Int) (a : Nat) : (s.movedTo frames d).ev a = s.ev a := by
  obtain ⟨o, e, hform⟩ := movedTo_form s frames d
  rw [hform]; rfl

theorem alignNow_evMask (s : State) (frames d : Int) :
    (s.alignNow frames d).evMask 7 = s.evMask 7 ||| bitmap (s.alignBody frames d).selected.toList := by
  have hev : ((s.alignBody frames d).p K.HS_ALIGN_FN (s.alignBody frames d).fn).ev 7 = s.ev 7 := by
    rw [p_ev, (alignBody_kept s frames d).ev, p_ev, movedTo_ev]
  rw [alignNow_eq, evMask_congr (gateSpindle_kept _).ev, evMask_raiseBits, evMask_congr hev]

/-- The time slot selected when first alignment is due. -/
theorem selected_of_timeSelected (h : s.timeSelected = true) : s.selected = some (s.g K.HS_SELECTED) := by
  cases hs : s.selected with
  | none => simp [State.timeSelected, hs] at h
  | some n =>
    unfold State.selected at hs
    split at hs
    · cases hs
    · exact hs.symm

theorem bitmap_singleton (n : Nat) : bitmap [n] = 2 ^ n := Nat.zero_or _

theorem alignBody_selected (frames d : Int) (h : s.timeSelected = true) :
    bitmap (s.alignBody frames d).selected.toList = 2 ^ s.g K.HS_SELECTED := by
  have hg : (s.alignBody frames d).g K.HS_SELECTED = s.g K.HS_SELECTED := by
    rw [alignBody_g s frames d ⟨by rw [K.HS_SELECTED, held_key] <;> omega, by decide⟩, if_neg (by decide), atFrame_g_off s _ (by decide)]
  have hsel : (s.alignBody frames d).selected = s.selected := by rw [State.selected, State.selected, hg]
  rw [hsel, selected_of_timeSelected h]
  exact bitmap_singleton _

/-- What neither the clocks' gating, nor an event, nor a write of an object changes is after first alignment as `movedTo` has it. -/
theorem alignNow_rest {β : Type} (π : State → β) (s : State) (frames d : Int) (hgate : ∀ u : State, π u.gateSpindle = π u)
    (hraise : ∀ u : State, ∀ m, π (u.raiseBits 7 m) = π u) (hp : ∀ u : State, ∀ k v, π (u.p k v) = π u)
    (hbody : π (s.alignBody frames d) = π ((s.movedTo frames d).p K.TS_STATE 1)) : π (s.alignNow frames d) = π (s.movedTo frames d) := by
  rw [alignNow_eq, hgate, hraise, hp, hbody, hp]

theorem movedTo_servoErr (s : State) (frames d : Int) :
    (s.movedTo frames d).servoErr = if s.timeSelected then s.servoErr - d * 16 else s.servoErr := by
  rw [State.movedTo, State.withServo]

/-- What the timescale, its servo and its sequencers are after an alignment by whole frames. -/
def alignLeft (s : State) (frames d : Int) (t : State) : Prop :=
  t.servoErr = s.servoErr - d * 16 ∧ t.g K.TS_FN = ((s.fn : Int) + frames).toNat ∧
  t.g K.TS_NOW = ofTime92 (((s.fn : Int) + frames).toNat * qFrame) ∧ t.g K.TS_STATE = 1 ∧ t.g K.HS_ALIGN_FN = t.g K.TS_FN ∧
  (∀ q ∈ List.range 8, t.g (K.SQ_STATE q) = 0) ∧ t.evMask 7 = s.evMask 7 ||| 2 ^ s.g K.HS_SELECTED ∧ t.tick = s.tick ∧ t.vmem = s.vmem ∧
  t.slotBytes = s.slotBytes ∧ t.mode = s.mode ∧ t.g K.TS_STEP_COUNT = s.g K.TS_STEP_COUNT

theorem alignNow_g_kept (s : State) (frames d : Int) {j : Nat} (hj : heldBelow j) : (s.alignNow frames d).g j =
    if j = K.TS_STATE then 1 else (s.atFrame ((s.fn : Int) + frames).toNat).g j := by
  rw [alignNow_g, if_neg (fun e : j = K.HS_ALIGN_FN => not_held_alignFn (e ▸ hj.1)), alignBody_g s frames d hj]

theorem alignNow_left (frames d : Int) (h : s.timeSelected = true) : alignLeft s frames d (s.alignNow frames d) := by
  have hk := alignBody_kept s frames d
  obtain ⟨o, e, hform⟩ := movedTo_form s frames d
  have hfn : heldBelow K.TS_FN := ⟨by rw [K.TS_FN, held_key] <;> omega, by decide⟩
  have hfnBody : (s.alignBody frames d).fn = ((s.fn : Int) + frames).toNat := by
    rw [State.fn, alignBody_g s frames d hfn, if_neg (by decide), atFrame_g, if_neg (by decide), if_pos rfl]
  have hfnNow : (s.alignNow frames d).g K.TS_FN = ((s.fn : Int) + frames).toNat := by
    rw [alignNow_g_kept s frames d hfn, if_neg (by decide), atFrame_g, if_neg (by decide), if_pos rfl]
  have hraise : ∀ u : State, ∀ m, (u.raiseBits 7 m).servoErr = u.servoErr := fun u m => by rw [raiseBits_form]
  refine ⟨?_, hfnNow, ?_, ?_, ?_, fun q hq => ?_, ?_, ?_, ?_, ?_, ?_, ?_⟩
  · rw [alignNow_rest State.servoErr s frames d (fun u => (gateSpindle_kept u).servoErr) hraise (fun _ _ _ => rfl) hk.servoErr,
      movedTo_servoErr, if_pos h]
  · rw [alignNow_g_kept s frames d ⟨by rw [K.TS_NOW, held_key] <;> omega, by decide⟩, if_neg (by decide), atFrame_g, if_pos rfl]
  · rw [alignNow_g_kept s frames d ⟨by rw [K.TS_STATE, held_key] <;> omega, by decide⟩, if_pos rfl]
  · rw [alignNow_g, if_pos rfl, hfnBody, hfnNow]
  · rw [alignNow_g, if_neg (by simp only [K.SQ_STATE, K.HS_ALIGN_FN, key]; omega), alignBody_sqState s frames d hq]
  · rw [alignNow_evMask, alignBody_selected frames d h]
  · rw [alignNow_rest State.tick s frames d (fun u => (gateSpindle_kept u).tick) (fun u m => u.raiseBits_tick 7 m) (fun _ _ _ => rfl) hk.tick,
      hform]
  · rw [alignNow_rest State.vmem s frames d (fun u => (gateSpindle_kept u).vmem) (fun u m => u.raiseBits_vmem 7 m) (fun _ _ _ => rfl) hk.vmem,
      hform]
  · rw [alignNow_rest State.slotBytes s frames d (fun u => (gateSpindle_kept u).slotBytes) (fun u m => u.raiseBits_slotBytes 7 m)
      (fun _ _ _ => rfl) hk.slotBytes, hform]
  · rw [State.mode, State.mode, alignNow_g_kept s frames d ⟨by rw [K.MODE, held_key] <;> omega, by decide⟩, if_neg (by decide),
      atFrame_g_off s _ (by decide)]
  · rw [alignNow_g_kept s frames d ⟨by rw [K.TS_STEP_COUNT, held_key] <;> omega, by decide⟩, if_neg (by decide), atFrame_g,
      if_neg (by decide), if_neg (by decide)]

theorem alignDue_noOut (s : State) : s.noOut.alignDue = s.alignDue := by
  have hsel : s.noOut.timeSelected = s.timeSelected := timeSelected_congr fun _ _ _ => rfl
  have herr : s.noOut.servoErr = s.servoErr := rfl
  simp only [State.alignDue, State.mode, State.aligned, State.gb, State.frameStart, State.fn, State.alignFrames, noOut_g, hsel, herr]

theorem alignFrames_noOut (s : State) : s.noOut.alignFrames = s.alignFrames := by
  have herr : s.noOut.servoErr = s.servoErr := rfl
  rw [State.alignFrames, State.alignFrames, herr]

theorem exec_firstAlignment : exec .firstAlignment s =
    run (fun s => if s.alignDue then s.alignNow s.alignFrames (s.alignFrames * qFrame) else s) s := rfl

theorem gives_firstAlignment {P : State → Prop} (hm : s.mode ≠ 0) (ha : s.alignDue = true)
    (h : P { s.noOut.alignNow s.alignFrames (s.alignFrames * qFrame) with pending := s.pending }) : Gives .firstAlignment s P := by
  refine gives_noOut hm exec_firstAlignment ?_
  have ha' := (alignDue_noOut s).trans ha
  simp only [ha', if_true, alignFrames_noOut]
  exact h

theorem timeSelected_of_alignDue (h : s.alignDue = true) : s.timeSelected = true := by
  simp only [State.alignDue, Bool.and_eq_true] at h
  exact h.1.1.2

theorem clockPads_noOut_taken (s : State) : s.stepTaken.clockPads 0 = s.clockPads 0 := clockPads_congr (fun _ _ _ => rfl) 0

/-- The queue given back changes nothing that a step leaves. -/
theorem stepLeft_pending (h : stepLeft s.stepTaken k t) (l : List Instr) : stepLeft s k { t with pending := l } := by
  simp only [stepLeft, State.fn, State.mode, stepTaken_g, clockPads_noOut_taken] at h ⊢
  exact h

theorem alignLeft_pending {frames a : Int} (h : alignLeft s.noOut frames a t) (l : List Instr) :
    alignLeft s frames a { t with pending := l } := by
  simp only [alignLeft, State.fn, State.mode, noOut_g] at h ⊢
  exact h

/-- Settles O11, by the cases of `tsStepBody`, and by what each part of a move of the timescale keeps. -/
theorem timescaleMoves : Obligations.TimescaleMoves := by
  intro s w arg d k hm
  refine ⟨fun ha h9 hq hn hk h0 hr => ?_, fun ha h => ?_, fun ha h9 hq hn hp => ?_, fun ha h9 hq hn hk hr => ?_, fun hs hd => ?_,
    fun hdue => ?_⟩
  · have hb : s.noOut.tsStepBody s.sqIdle arg = State.accept { s.noOut with tsStep := some (k, s.soon) } := by
      rw [sqIdle_of hq]
      exact tsStepBody_accepted (s := s.noOut) h9 hn hk h0 hr
    exact gives_tsStep ha hb rfl rfl
  · exact gives_tsStep ha (r := s.noOut) (tsStepBody_state (s := s.noOut) h) rfl rfl
  · refine gives_tsStep ha (r := s.noOut) ?_ rfl rfl
    rw [sqIdle_of hq]
    exact tsStepBody_part (s := s.noOut) h9 hn hp
  · refine gives_tsStep ha (r := s.noOut) ?_ rfl rfl
    rw [sqIdle_of hq]
    exact tsStepBody_out (s := s.noOut) h9 hn hk hr
  · exact gives_tsStepEffect hm hs hd (stepLeft_pending (hostStep_left (s := s.stepTaken) k rfl) s.pending)
  · exact gives_firstAlignment hm hdue
      (alignLeft_pending (alignNow_left _ _ (timeSelected_of_alignDue ((alignDue_noOut s).trans hdue))) s.pending)

end Sys2Proof.Machine
end

section
/-! SUPPORT. Lists of writes of different objects, and an edge withheld, as the objects show it (R71, R107). -/

namespace Sys2Proof.Machine

variable {s t u : State} {c k r : Nat}

theorem Writes.trans {l m : List (Nat × Nat)} (h : Writes s t l) (h' : Writes t u m) : Writes s u (m ++ l) := fun j => by
  rw [after_append]
  exact (h' j).trans (after_congr (h j) m)

/-- What an object that a list writes reads does not depend on what was there before. -/
theorem after_of_mem (f g : Nat → Nat) {l : List (Nat × Nat)} {j : Nat} (h : ∃ x ∈ l, j = x.1) : after f l j = after g l j := by
  induction l with
  | nil => simp at h
  | cons x l ih =>
    rw [after, after]
    split
    · rfl
    · next hx =>
      obtain ⟨y, hy, hj⟩ := h
      exact ih ⟨y, (List.mem_cons.1 hy).resolve_left (fun e => hx (e ▸ hj)), hj⟩

/-- Two lists of writes with no object in common may be done in either order. -/
theorem after_append_comm (g : Nat → Nat) {l m : List (Nat × Nat)} (h : ∀ x ∈ l, ∀ y ∈ m, x.1 ≠ y.1) :
    after g (l ++ m) = after g (m ++ l) := by
  funext j
  rw [after_append, after_append]
  by_cases hl : ∃ x ∈ l, j = x.1
  · obtain ⟨x, hx, rfl⟩ := hl
    rw [after_of_not_mem (l := m) fun y hy => (h x hx y hy).symm]
    exact after_of_mem _ _ ⟨x, hx, rfl⟩
  · have hl' : ∀ x ∈ l, x.1 ≠ j := fun x hx e => hl ⟨x, hx, e.symm⟩
    rw [after_of_not_mem hl']
    by_cases hm : ∃ y ∈ m, j = y.1
    · exact after_of_mem _ _ hm
    · have hm' : ∀ y ∈ m, y.1 ≠ j := fun y hy e => hm ⟨y, hy, e.symm⟩
      rw [after_of_not_mem hm', after_of_not_mem hm', after_of_not_mem hl']

/-- The state with another dictionary. -/
def State.withOd (s : State) (o : Sp Nat) : State := { s with od := o }

/-- After, nothing but the dictionary has changed. -/
def OdOnly (s t : State) : Prop := ∃ o, t = s.withOd o

theorem OdOnly.refl (s : State) : OdOnly s s := ⟨s.od, rfl⟩

theorem OdOnly.trans (h : OdOnly s t) (h' : OdOnly t u) : OdOnly s u := by
  obtain ⟨o, rfl⟩ := h
  obtain ⟨o', rfl⟩ := h'
  exact ⟨o', rfl⟩

theorem OdOnly.p (h : OdOnly s t) (j v : Nat) : OdOnly s (t.p j v) := by
  obtain ⟨o, rfl⟩ := h
  exact ⟨_, rfl⟩

/-- Raising an event leaves the dictionary alone, and does not read it. -/
theorem raiseBits_withOd (s : State) (o : Sp Nat) (a m : Nat) : (s.withOd o).raiseBits a m = (s.raiseBits a m).withOd o := by
  have hev : (s.withOd o).ev a = s.ev a := rfl
  unfold State.raiseBits
  rw [hev]
  cases s.ev a <;> rfl

theorem OdOnly.raiseBits (h : OdOnly s t) (a m : Nat) : OdOnly (s.raiseBits a m) (t.raiseBits a m) := by
  obtain ⟨o, rfl⟩ := h
  exact ⟨o, raiseBits_withOd s o a m⟩

theorem raiseBits_ev_other {a b : Nat} (h : b ≠ a) (m : Nat) : (s.raiseBits a m).ev b = s.ev b := by
  unfold State.raiseBits
  split
  · exact Sp.find_ins_other _ _ h
  · exact Sp.find_ins_other _ _ h

/-! ## Withholding -/

/-- What counts an edge withheld, in one block of counters. -/
def State.whObj (s : State) (x r t : Nat) : List (Nat × Nat) :=
  [(K.CH_LAST_WH_REASON x, r), (K.CH_LAST_WH x, ofTime92 t), (atSub (K.CH_WH_LATE x) (r - 1), s.g (atSub (K.CH_WH_LATE x) (r - 1)) + 1),
   (K.CH_WITHHELD x, s.g (K.CH_WITHHELD x) + 1)]

theorem withheldObj_eq (s : State) (c k r t : Nat) :
    s.withheldObj c k r t = s.whObj c r t ++ if 64 ≤ k then s.whObj k r t else [] := by
  unfold State.withheldObj
  split <;> rfl

theorem whLate_key (x : Nat) (h : 1 ≤ r) : atSub (K.CH_WH_LATE x) (r - 1) = key (0x5001 + 0x20 * x) (r + 2) 0 := by
  simp only [atSub, K.CH_WH_LATE, key]; omega

theorem keyIndex_key (i row : Nat) {sub : Nat} (h : sub < 256) (hr : row < 65536) : keyIndex (key i sub row) = i := by
  simp only [key, keyIndex]; omega

theorem keySub_key (i row : Nat) {sub : Nat} (h : sub < 256) (hr : row < 65536) : keySub (key i sub row) = sub := by
  simp only [key, keySub]; omega

/-- The counters of withheld edges stand in the second block of the channel or core. -/
theorem whObj_index (h1 : 1 ≤ r) (h7 : r ≤ 7) {x t : Nat} : ∀ p ∈ s.whObj x r t, keyIndex p.1 = 0x5001 + 0x20 * x := by
  intro p hp
  simp only [State.whObj, List.mem_cons, List.not_mem_nil, or_false] at hp
  rcases hp with rfl | rfl | rfl | rfl
  · exact keyIndex_key _ 0 (by decide) (by decide)
  · exact keyIndex_key _ 0 (by decide) (by decide)
  · rw [whLate_key x h1]; exact keyIndex_key _ 0 (by omega) (by decide)
  · exact keyIndex_key _ 0 (by decide) (by decide)

theorem whObj_congr (h1 : 1 ≤ r) (h7 : r ≤ 7) {x n : Nat} (h : ∀ j, keyIndex j = 0x5001 + 0x20 * x → keySub j < 0x14 → t.g j = s.g j) :
    t.whObj x r n = s.whObj x r n := by
  have hl : keyIndex (atSub (K.CH_WH_LATE x) (r - 1)) = 0x5001 + 0x20 * x := by
    rw [whLate_key x h1]; exact keyIndex_key _ 0 (by omega) (by decide)
  have hw : keyIndex (K.CH_WITHHELD x) = 0x5001 + 0x20 * x := keyIndex_key _ 0 (by decide) (by decide)
  have hls : keySub (atSub (K.CH_WH_LATE x) (r - 1)) < 0x14 := by
    rw [whLate_key x h1, keySub_key _ 0 (by omega) (by decide)]
    omega
  have hws : keySub (K.CH_WITHHELD x) < 0x14 := by
    rw [K.CH_WITHHELD, keySub_key _ 0 (by decide) (by decide)]
    decide
  rw [State.whObj, State.whObj, h _ hl hls, h _ hw hws]

theorem countWh_writes (s : State) (x : Nat) (h1 : 1 ≤ r) (h7 : r ≤ 7) (n : Int) : Writes s (s.countWh x r n) (s.whObj x r n.toNat) := by
  have hne : atSub (K.CH_WH_LATE x) (r - 1) ≠ K.CH_WITHHELD x := by
    rw [whLate_key x h1, K.CH_WITHHELD, Ne, key_inj] <;> omega
  have hlate : (s.inc (K.CH_WITHHELD x)).g (atSub (K.CH_WH_LATE x) (r - 1)) = s.g (atSub (K.CH_WH_LATE x) (r - 1)) :=
    State.g_p_other _ _ hne
  rw [State.whObj, ← hlate]
  exact ((((Writes.refl s).p _ _).p _ _).p _ _).p _ _

theorem OdOnly.countWh (h : OdOnly s t) (x r : Nat) (n : Int) : OdOnly s (t.countWh x r n) := (((h.p _ _).p _ _).p _ _).p _ _

/-- An edge of a channel counted as withheld, of the channel and of its spare where a spare carries it. -/
def State.countBoth (s : State) (c k r : Nat) (n : Int) : State := if 64 ≤ k then (s.countWh c r n).countWh k r n else s.countWh c r n

theorem countBoth_odOnly (s : State) (c k r : Nat) (n : Int) : OdOnly s (s.countBoth c k r n) := by
  have h := (OdOnly.refl s).countWh c r n
  unfold State.countBoth
  split
  · exact h.countWh k r n
  · exact h

theorem countBoth_writes (s : State) (hc : c < 64) (k : Nat) (h1 : 1 ≤ r) (h7 : r ≤ 7) (n : Int) :
    Writes s (s.countBoth c k r n) (s.withheldObj c k r n.toNat) := by
  rw [withheldObj_eq, State.countBoth]
  by_cases hk : 64 ≤ k
  · rw [if_pos hk, if_pos hk]
    have hw := countWh_writes s c h1 h7 n
    have hcong : (s.countWh c r n).whObj k r n.toNat = s.whObj k r n.toNat := whObj_congr h1 h7 fun j hj _ => by
      rw [hw j]
      refine after_of_not_mem (fun p hp e => ?_) s.g
      have hp := whObj_index h1 h7 p hp
      rw [e, hj] at hp
      omega
    have h2 := hw.trans (countWh_writes (s.countWh c r n) k h1 h7 n)
    rw [hcong] at h2
    intro j
    rw [after_append_comm]
    · exact h2 j
    · intro x hx y hy e
      have hxi := whObj_index h1 h7 x hx
      have hyi := whObj_index h1 h7 y hy
      rw [e] at hxi
      omega
  · rw [if_neg hk, if_neg hk, List.append_nil]
    exact countWh_writes s c h1 h7 n

/-- An edge withheld is counted, and raises the event of its reason if that has one. -/
theorem withhold_eq (s : State) (c k r : Nat) (n : Int) : s.withhold c k r n =
    (whEvent r).elim (s.countBoth c k r n) (fun e => (s.countBoth c k r n).raiseBits e (2 ^ c)) := by
  rw [State.withhold, State.countBoth]
  cases whEvent r <;> rfl

theorem withhold_writes (s : State) (hc : c < 64) (k : Nat) (h1 : 1 ≤ r) (h7 : r ≤ 7) (n : Int) :
    Writes s (s.withhold c k r n) (s.withheldObj c k r n.toNat) := by
  have h := countBoth_writes s hc k h1 h7 n
  rw [withhold_eq]
  cases whEvent r with
  | some e => exact fun j => (State.g_raiseBits _ _ _ j).trans (h j)
  | none => exact h

/-- An edge withheld for a reason with an event changes its counters and the events of the frame. -/
theorem withhold_odOnly {e : Nat} (he : whEvent r = some e) (s : State) (c k : Nat) (n : Int) :
    OdOnly (s.raiseBits e (2 ^ c)) (s.withhold c k r n) := by
  rw [withhold_eq, he]
  exact (countBoth_odOnly s c k r n).raiseBits e (2 ^ c)

theorem withhold_evMask {e : Nat} (he : whEvent r = some e) (s : State) (c k : Nat) (n : Int) :
    (s.withhold c k r n).evMask e = s.evMask e ||| 2 ^ c := by
  obtain ⟨o, ho⟩ := withhold_odOnly he s c k n
  rw [ho]
  exact evMask_raiseBits s e (2 ^ c)

/-- Edges withheld for LEVEL raise no event (R107). -/
theorem withhold_level_odOnly (s : State) (c k : Nat) (n : Int) : OdOnly s (s.withhold c k 7 n) := by
  rw [withhold_eq]
  exact countBoth_odOnly s c k 7 n

end Sys2Proof.Machine
end

section
/-! SUPPORT. EDGE_EMIT: the next edge of a queue is driven, flagged or withheld (R90, R94, R95, R98 to R100, R109, R111). -/

namespace Sys2Proof.Machine

variable {s t u : State} {c k : Nat} {x : QEdge} {r : List QEdge}

/-! ## The placement word (R90) -/

theorem word_level (e : QEdge) : Pw.level e.word = e.level := by
  have hv := Nat.mod_lt e.vern (by decide : 0 < 2)
  simp only [Pw.level, bit, QEdge.word, coarseOf, fineOf, qCoarse, b2n]
  cases e.level <;> cases e.trig <;> simp <;> omega

/-- A time without its fine code: frame and coarse cycle. -/
theorem coarse_split (n : Nat) : frameOf n * qFrame + coarseOf n * qCoarse = n - n % 8192 := by
  unfold frameOf coarseOf qFrame qCoarse
  omega

/-- The three fields of a fine code. -/
theorem fine_split (n : Nat) : bits (fineOf n) 12 10 * 1024 + bits (fineOf n) 9 5 * 32 + bits (fineOf n) 4 0 = n % 8192 := by
  simp only [bits, fineOf, qCoarse, Nat.reducePow, Nat.reduceAdd, Nat.reduceSub]
  omega

/-- The time that a word stands for is the edge's, to the coarse cycle where the fine code is not applied. -/
theorem word_time (e : QEdge) (byp : Bool) :
    Pw.time e.word (frameOf e.t) byp = if byp then e.t - e.t % qCoarse else e.t := by
  have hc : Pw.coarse e.word = coarseOf e.t := by
    simp only [Pw.coarse, bits, QEdge.word, coarseOf, fineOf, qCoarse, b2n]
    omega
  have hf : Pw.fine e.word = fineOf e.t := by
    simp only [Pw.fine, bits, QEdge.word, coarseOf, fineOf, qCoarse, b2n]
    omega
  rw [Pw.time, hc, hf, fine_split, coarse_split]
  cases byp
  · exact Nat.sub_add_cancel (Nat.mod_le _ _)
  · rfl

/-! ## One edge (R98 to R100) -/

/-- The next edge of a core's queue is taken from it. -/
def State.taken (s : State) (k : Nat) (r : List QEdge) : State :=
  s.setCore k { s.core k with queue := r, sentN := (s.core k).sentN + 1 }

theorem emitNext_taken (hq : (s.core k).queue = x :: r) (hf : frameOf x.t = s.fn) : s.emitNext k = (s.taken k r).emitEdge k x := by
  rw [State.emitNext, hq]
  exact if_pos hf

theorem emitNext_none (h : ∀ z ∈ (s.core k).queue.head?, frameOf z.t ≠ s.fn) : s.emitNext k = s := by
  rw [State.emitNext]
  cases hq : (s.core k).queue with
  | nil => rfl
  | cons e l => exact if_neg (h e (by rw [hq]; rfl))

theorem emitEdge_bound (h : s.gb (K.PAD_SHUTDOWN x.ch) = true ∨ (s.overLimit x.ch = true ∧ s.g (K.CH_POLICY x.ch) = 0)) :
    s.emitEdge k x = s.withhold x.ch k 6 x.t := if_pos h

theorem emitEdge_level (hs : ¬(s.gb (K.PAD_SHUTDOWN x.ch) = true ∨ (s.overLimit x.ch = true ∧ s.g (K.CH_POLICY x.ch) = 0)))
    (hl : (s.g (K.PAD_LEVEL x.ch) == 1) = x.level) : s.emitEdge k x = s.withhold x.ch k 7 x.t := by
  rw [State.emitEdge]
  exact (if_neg hs).trans (if_pos (hl.trans (word_level x).symm))

/-- An edge counted, of its channel and of the spare that carries it. -/
def State.edgeCounted (s : State) (c k : Nat) : State :=
  let s := (s.inc (K.CH_EDGES c)).setPad c { s.pad c with carried := true, lastEdge := some s.tick }
  if 64 ≤ k then s.inc (K.CH_EDGES k) else s

/-- An edge flagged in one block of counters (R99). -/
def State.flag (s : State) (x c t : Nat) : State :=
  ((s.inc (K.CH_FLAGGED x)).p (K.CH_LAST_FLAG x) (ofTime92 t)).p (K.CH_LAST_FLAG_BOUND x) (s.g (K.CH_BOUND c))

/-- An edge flagged, of its channel and of the spare that carries it. -/
def State.flagged (s : State) (c k t : Nat) : State := if 64 ≤ k then (s.flag c c t).flag k c t else s.flag c c t

section Driven
variable (hs : ¬(s.gb (K.PAD_SHUTDOWN x.ch) = true ∨ (s.overLimit x.ch = true ∧ s.g (K.CH_POLICY x.ch) = 0)))
  (hl : (s.g (K.PAD_LEVEL x.ch) == 1) ≠ x.level)
include hs hl

/-- The pad of a channel in use takes the level of the edge, and the edge goes out. -/
theorem emitEdge_driven (hf : s.g (K.PAD_FMT x.ch) ≠ 0) : s.emitEdge k x =
    let u := (s.p (K.PAD_LEVEL x.ch) (b2n x.level)).edgeCounted x.ch k
    let p := x.level != u.inverted x.ch
    let v := u.emit (.edge k x.ch (Pw.time x.word (frameOf x.t) u.coarse) p (u.nPin x.ch p) (s.overLimit x.ch))
    if s.overLimit x.ch then (v.flagged x.ch k x.t).raiseBits 33 (2 ^ x.ch) else v := by
  have hf' : (s.g (K.PAD_FMT x.ch) == 0) = false := beq_false_of_ne hf
  rw [State.emitEdge]
  refine (if_neg hs).trans ((if_neg (fun h => hl (h.trans (word_level x)))).trans ?_)
  rw [hf', word_level]
  rfl

/-- A DISABLED pad drives nothing, and its edges count (R100). -/
theorem emitEdge_off (hp : s.overLimit x.ch = false) (hf : s.g (K.PAD_FMT x.ch) = 0) : s.emitEdge k x = s.edgeCounted x.ch k := by
  have hf' : (s.g (K.PAD_FMT x.ch) == 0) = true := beq_iff_eq.2 hf
  rw [State.emitEdge]
  refine (if_neg hs).trans ((if_neg (fun h => hl (h.trans (word_level x)))).trans ?_)
  rw [hf', hp]
  rfl

end Driven

/-! ## What an edge driven writes -/

theorem edges_index (x : Nat) : keyIndex (K.CH_EDGES x) = 0x5001 + 0x20 * x := keyIndex_key _ 0 (by decide) (by decide)

theorem padLevel_index (x : Nat) : keyIndex (K.PAD_LEVEL x) = 0x5010 + 0x20 * x := keyIndex_key _ 0 (by decide) (by decide)

/-- What counts an edge of the spare that carries it. -/
def State.spareEdgeObj (s : State) (k : Nat) : List (Nat × Nat) := if 64 ≤ k then [(K.CH_EDGES k, s.g (K.CH_EDGES k) + 1)] else []

theorem spareEdgeObj_index {p : Nat × Nat} (h : p ∈ s.spareEdgeObj k) : keyIndex p.1 = 0x5001 + 0x20 * k ∧ 64 ≤ k := by
  unfold State.spareEdgeObj at h
  split at h
  · next hk => rw [List.mem_singleton.1 h]; exact ⟨edges_index k, hk⟩
  · exact absurd h List.not_mem_nil

theorem edgeCounted_odOnly (s : State) (c k : Nat) :
    OdOnly (s.setPad c { s.pad c with carried := true, lastEdge := some s.tick }) (s.edgeCounted c k) := by
  have h : OdOnly (s.setPad c { s.pad c with carried := true, lastEdge := some s.tick })
      ((s.inc (K.CH_EDGES c)).setPad c { s.pad c with carried := true, lastEdge := some s.tick }) := ⟨_, rfl⟩
  unfold State.edgeCounted
  dsimp only
  split
  · exact h.p _ _
  · exact h

theorem edgeCounted_writes (s : State) (hc : c < 64) (k : Nat) :
    Writes s (s.edgeCounted c k) ((K.CH_EDGES c, s.g (K.CH_EDGES c) + 1) :: s.spareEdgeObj k) := by
  have h : Writes s ((s.inc (K.CH_EDGES c)).setPad c { s.pad c with carried := true, lastEdge := some s.tick })
      [(K.CH_EDGES c, s.g (K.CH_EDGES c) + 1)] := (Writes.refl s).p _ _
  unfold State.edgeCounted State.spareEdgeObj
  dsimp only
  split
  · next hk =>
    have hne : K.CH_EDGES k ≠ K.CH_EDGES c := fun e => by have := congrArg keyIndex e; rw [edges_index, edges_index] at this; omega
    have hg : ((s.inc (K.CH_EDGES c)).setPad c { s.pad c with carried := true, lastEdge := some s.tick }).g (K.CH_EDGES k) =
        s.g (K.CH_EDGES k) := (h _).trans (if_neg hne)
    intro j
    rw [State.inc, hg, h.p _ _ j]
    exact congrFun (after_append_comm s.g (l := [_]) (m := [_]) fun x hx y hy => by
      rw [List.mem_singleton.1 hx, List.mem_singleton.1 hy]; exact hne) j
  · exact h

/-- The level of a pad written, and the edge counted. -/
theorem driven_writes (s : State) (hc : c < 64) (k n : Nat) : Writes s ((s.p (K.PAD_LEVEL c) n).edgeCounted c k)
    ([(K.CH_EDGES c, s.g (K.CH_EDGES c) + 1), (K.PAD_LEVEL c, n)] ++ s.spareEdgeObj k) := by
  have hpad : ∀ i, K.CH_EDGES i ≠ K.PAD_LEVEL c := fun i e => by
    have := congrArg keyIndex e
    rw [edges_index, padLevel_index] at this
    omega
  have hg : ∀ i, (s.p (K.PAD_LEVEL c) n).g (K.CH_EDGES i) = s.g (K.CH_EDGES i) := fun i => State.g_p_other s n (hpad i)
  have h := ((Writes.refl s).p (K.PAD_LEVEL c) n).trans (edgeCounted_writes (s.p (K.PAD_LEVEL c) n) hc k)
  rw [hg, State.spareEdgeObj, hg] at h
  intro j
  rw [h j, List.cons_append, List.cons_append, List.cons_append, after, after]
  exact congrArg (ite _ _) (congrFun (after_append_comm s.g (l := s.spareEdgeObj k) (m := [_]) fun x hx y hy e => by
    have hx := (spareEdgeObj_index hx).1
    rw [e, List.mem_singleton.1 hy, padLevel_index] at hx
    omega) j)

/-- The objects of a pad, its level apart, are as they were. -/
theorem driven_g (s : State) (c k n : Nat) {j : Nat} (h1 : keyIndex j % 32 = 16) (hs : keySub j ≠ 0xc) (hc : c < 64) :
    ((s.p (K.PAD_LEVEL c) n).edgeCounted c k).g j = s.g j := by
  rw [driven_writes s hc k n j]
  refine after_of_not_mem (fun p hp e => ?_) s.g
  rw [← e] at h1 hs
  rcases List.mem_append.1 hp with hp | hp
  · simp only [List.mem_cons, List.not_mem_nil, or_false] at hp
    rcases hp with rfl | rfl
    · rw [edges_index] at h1; omega
    · exact hs (keySub_key _ 0 (by decide) (by decide))
  · rw [(spareEdgeObj_index hp).1] at h1; omega

end Sys2Proof.Machine
end

section
/-! SUPPORT. EDGE_EMIT: what a flagged edge writes, and the cases of the command (R97 to R100). -/

namespace Sys2Proof.Machine

variable {s t u : State} {c k : Nat} {x : QEdge} {r : List QEdge}

/-! ## Flags (R99) -/

/-- What flags an edge in one block of counters. -/
def State.flagObj (s : State) (x c n : Nat) : List (Nat × Nat) :=
  [(K.CH_LAST_FLAG_BOUND x, s.g (K.CH_BOUND c)), (K.CH_LAST_FLAG x, ofTime92 n), (K.CH_FLAGGED x, s.g (K.CH_FLAGGED x) + 1)]

/-- What flags an edge of the spare that carries it. -/
def State.spareFlagObj (s : State) (k c n : Nat) : List (Nat × Nat) := if 64 ≤ k then s.flagObj k c n else []

theorem flagObj_index {x n : Nat} {p : Nat × Nat} (h : p ∈ s.flagObj x c n) : keyIndex p.1 = 0x5001 + 0x20 * x := by
  simp only [State.flagObj, List.mem_cons, List.not_mem_nil, or_false] at h
  rcases h with rfl | rfl | rfl <;> exact keyIndex_key _ 0 (by decide) (by decide)

theorem spareFlagObj_index {n : Nat} {p : Nat × Nat} (h : p ∈ s.spareFlagObj k c n) : keyIndex p.1 = 0x5001 + 0x20 * k ∧ 64 ≤ k := by
  unfold State.spareFlagObj at h
  split at h
  · next hk => exact ⟨flagObj_index h, hk⟩
  · exact absurd h List.not_mem_nil

theorem bound_index (x : Nat) : keyIndex (K.CH_BOUND x) = 0x5000 + 0x20 * x := keyIndex_key _ 0 (by decide) (by decide)

theorem flaggedCount_index (x : Nat) : keyIndex (K.CH_FLAGGED x) = 0x5001 + 0x20 * x := keyIndex_key _ 0 (by decide) (by decide)

theorem flag_writes (s : State) (x c n : Nat) : Writes s (s.flag x c n) (s.flagObj x c n) := (((Writes.refl s).p _ _).p _ _).p _ _

theorem flag_odOnly (h : OdOnly s t) (x c n : Nat) : OdOnly s (t.flag x c n) := ((h.p _ _).p _ _).p _ _

theorem flagged_odOnly (s : State) (c k n : Nat) : OdOnly s (s.flagged c k n) := by
  have h := flag_odOnly (OdOnly.refl s) c c n
  unfold State.flagged
  split
  · exact flag_odOnly h k c n
  · exact h

theorem flagged_writes (s : State) (hc : c < 64) (k n : Nat) : Writes s (s.flagged c k n) (s.spareFlagObj k c n ++ s.flagObj c c n) := by
  have h := flag_writes s c c n
  unfold State.flagged State.spareFlagObj
  split
  · next hk =>
    have hb : (s.flag c c n).g (K.CH_BOUND c) = s.g (K.CH_BOUND c) := by
      rw [h]
      refine after_of_not_mem (fun p hp e => ?_) s.g
      have hp := flagObj_index hp
      rw [e, bound_index] at hp
      omega
    have hf : (s.flag c c n).g (K.CH_FLAGGED k) = s.g (K.CH_FLAGGED k) := by
      rw [h]
      refine after_of_not_mem (fun p hp e => ?_) s.g
      have hp := flagObj_index hp
      rw [e, flaggedCount_index] at hp
      omega
    have h2 := h.trans (flag_writes (s.flag c c n) k c n)
    rw [State.flagObj, hb, hf] at h2
    exact h2
  · exact h

/-- What an edge driven and flagged writes. -/
theorem drivenFlagged_writes (hc : c < 64) {m n : Nat} (hg : t.g = ((s.p (K.PAD_LEVEL c) m).edgeCounted c k).g) :
    Writes s (t.flagged c k n)
      (s.flagObj c c n ++ [(K.CH_EDGES c, s.g (K.CH_EDGES c) + 1), (K.PAD_LEVEL c, m)] ++ s.spareFlagObj k c n ++ s.spareEdgeObj k) := by
  have h : Writes s t ([(K.CH_EDGES c, s.g (K.CH_EDGES c) + 1), (K.PAD_LEVEL c, m)] ++ s.spareEdgeObj k) := fun j =>
    (congrFun hg j).trans (driven_writes s hc k m j)
  have hoff : ∀ j, keySub j ≠ 1 → keyIndex j ≠ 0x5010 + 0x20 * c → t.g j = s.g j := fun j h1 hp => by
    rw [h j]
    refine after_of_not_mem (fun p hp' e => ?_) s.g
    rw [← e] at h1 hp
    have hedge : ∀ i, keySub (K.CH_EDGES i) = 1 := fun i => keySub_key _ 0 (by decide) (by decide)
    rcases List.mem_append.1 hp' with hm | hm
    · simp only [List.mem_cons, List.not_mem_nil, or_false] at hm
      rcases hm with rfl | rfl
      · exact h1 (hedge c)
      · exact hp (padLevel_index c)
    · unfold State.spareEdgeObj at hm
      split at hm
      · rw [List.mem_singleton.1 hm] at h1; exact h1 (hedge k)
      · exact absurd hm List.not_mem_nil
  have hb : t.g (K.CH_BOUND c) = s.g (K.CH_BOUND c) :=
    hoff _ (by rw [K.CH_BOUND, keySub_key] <;> decide) (by rw [bound_index]; omega)
  have hf : ∀ i, t.g (K.CH_FLAGGED i) = s.g (K.CH_FLAGGED i) := fun i =>
    hoff _ (by rw [K.CH_FLAGGED, keySub_key] <;> decide) (by rw [flaggedCount_index]; omega)
  have hfo : ∀ i, t.flagObj i c n = s.flagObj i c n := fun i => by rw [State.flagObj, hb, hf]; rfl
  have hfs : t.spareFlagObj k c n = s.spareFlagObj k c n := by rw [State.spareFlagObj, hfo]; rfl
  have h2 := h.trans (flagged_writes t hc k n)
  rw [hfo, hfs] at h2
  intro j
  rw [h2 j, List.append_assoc, ← List.append_assoc (s.flagObj c c n), ← List.append_assoc, after_append, after_append _ (_ ++ _) (s.spareEdgeObj k)]
  refine congrFun (after_append_comm _ fun a ha b hb e => ?_) j
  obtain ⟨hai, hk⟩ := spareFlagObj_index ha
  rw [e] at hai
  rcases List.mem_append.1 hb with hm | hm
  · rw [flagObj_index hm] at hai; omega
  · simp only [List.mem_cons, List.not_mem_nil, or_false] at hm
    rcases hm with rfl | rfl
    · rw [edges_index] at hai; omega
    · rw [padLevel_index] at hai; omega

/-! ## The command -/

theorem gives_edgeEmit {P : State → Prop} (hm : s.mode ≠ 0) (hk : k < 72) (hq : (s.core k).queue = x :: r) (hf : frameOf x.t = s.fn)
    (h : P { (s.noOut.taken k r).emitEdge k x with pending := s.pending }) : Gives (.edgeEmit k) s P := by
  refine gives_noOut hm (f := fun s => if k < 72 then s.emitNext k else s) rfl ?_
  dsimp only
  rw [if_pos hk, emitNext_taken (s := s.noOut) hq hf]
  exact h

theorem gives_edgeEmit_none (hm : s.mode ≠ 0) (h : 72 ≤ k ∨ (∀ z ∈ (s.core k).queue.head?, frameOf z.t ≠ s.fn)) :
    Gives (.edgeEmit k) s (fun t => t = { s with out := [] }) := by
  refine gives_noOut hm (f := fun s => if k < 72 then s.emitNext k else s) rfl ?_
  rcases h with hk | h
  · rw [if_neg (by omega)]; rfl
  · have he : s.noOut.emitNext k = s.noOut := emitNext_none h
    rw [he, ite_self]; rfl

/-- The pad of a channel as the state shows what it drives: its N pin, and the level it has in the end. -/
theorem pad_drive (hc : x.ch < 64) (n : Nat) (b : Bool) :
    let u := (s.p (K.PAD_LEVEL x.ch) n).edgeCounted x.ch k
    Out.edge k x.ch (Pw.time x.word (frameOf x.t) u.coarse) (x.level != u.inverted x.ch) (u.nPin x.ch (x.level != u.inverted x.ch)) b =
      .edge k x.ch (if s.coarse then x.t - x.t % qCoarse else x.t) (x.level != s.inverted x.ch) (s.nPin x.ch (x.level != s.inverted x.ch)) b := by
  have hg : ∀ j, keyIndex j % 32 = 16 → keySub j ≠ 0xc → ((s.p (K.PAD_LEVEL x.ch) n).edgeCounted x.ch k).g j = s.g j :=
    fun j h1 hs => driven_g s x.ch k n h1 hs hc
  have hpad : ∀ sub, sub < 256 → sub ≠ 0xc → ((s.p (K.PAD_LEVEL x.ch) n).edgeCounted x.ch k).g (key (0x5010 + 0x20 * x.ch) sub 0) =
      s.g (key (0x5010 + 0x20 * x.ch) sub 0) := fun sub h hs =>
    hg _ (by rw [keyIndex_key _ 0 h (by decide)]; omega) (by rw [keySub_key _ 0 h (by decide)]; exact hs)
  have hfmt := hpad 1 (by decide) (by decide)
  have hpinv := hpad 4 (by decide) (by decide)
  have hstat := hpad 6 (by decide) (by decide)
  have hauto := hpad 0xd (by decide) (by decide)
  have hinv : ((s.p (K.PAD_LEVEL x.ch) n).edgeCounted x.ch k).inverted x.ch = s.inverted x.ch := by
    unfold State.inverted State.gb K.PAD_INVERT K.PAD_AUTO_INVERTED
    rw [hpinv, hauto]
  have hn : ∀ p, ((s.p (K.PAD_LEVEL x.ch) n).edgeCounted x.ch k).nPin x.ch p = s.nPin x.ch p := fun p => by
    unfold State.nPin K.PAD_FMT K.PAD_N_STATIC
    rw [hfmt, hstat]
  have hco : ((s.p (K.PAD_LEVEL x.ch) n).edgeCounted x.ch k).coarse = s.coarse := by
    obtain ⟨o, ho⟩ := edgeCounted_odOnly (s.p (K.PAD_LEVEL x.ch) n) x.ch k
    rw [ho]; rfl
  dsimp only
  rw [hinv, hn, hco, word_time]

/-- The state with other outputs. -/
def State.withOut (s : State) (l : List Out) : State := { s with out := l }

/-- An event raised after the outputs were set aside, and objects written: what is left, with the queue of commands given back. -/
theorem raised_left {l : List Out} {a m : Nat} (h : OdOnly ((s.withOut l).raiseBits a m) t) :
    ({ t with pending := s.pending } : State) = { s.raiseBits a m with od := t.od, out := l } := by
  obtain ⟨o, rfl⟩ := h
  have hr : ((s.withOut l).raiseBits a m).raised = (s.raiseBits a m).raised := raiseBits_raised a m rfl
  rw [raiseBits_form (s.withOut l), hr, raiseBits_form s]
  rfl

theorem not_withheld (hs : s.gb (K.PAD_SHUTDOWN c) = false) (hp : s.overLimit c = false ∨ s.g (K.CH_POLICY c) ≠ 0) :
    ¬(s.gb (K.PAD_SHUTDOWN c) = true ∨ (s.overLimit c = true ∧ s.g (K.CH_POLICY c) = 0)) := by
  rintro (h | ⟨h, h0⟩)
  · exact absurd (hs.symm.trans h) (by decide)
  · exact hp.elim (fun hp => absurd (hp.symm.trans h) (by decide)) (fun hp => hp h0)

section Cases
variable (hm : s.mode ≠ 0) (hk : k < 72) (hq : (s.core k).queue = x :: r) (hf : frameOf x.t = s.fn) (hc : x.ch < 64)
include hm hk hq hf hc

/-- An edge of a pad gated or shut down is withheld for BOUND. -/
theorem gives_edge_bound (hs : s.gb (K.PAD_SHUTDOWN x.ch) = true ∨ (s.overLimit x.ch = true ∧ s.g (K.CH_POLICY x.ch) = 0)) :
    Gives (.edgeEmit k) s (fun t => Writes s t (s.withheldObj x.ch k 6 x.t) ∧
      t = { (s.taken k r).raiseBits 32 (2 ^ x.ch) with od := t.od, out := [] }) := by
  refine gives_edgeEmit hm hk hq hf ?_
  rw [emitEdge_bound (s := s.noOut.taken k r) hs]
  have hw := withhold_writes (s.noOut.taken k r) hc k (r := 6) (by decide) (by decide) x.t
  exact ⟨hw, raised_left (s := s.taken k r) (withhold_odOnly (r := 6) rfl (s.noOut.taken k r) x.ch k x.t)⟩

section Open
variable (hs : s.gb (K.PAD_SHUTDOWN x.ch) = false)
include hs

/-- An edge at the level that the pad has is withheld. -/
theorem gives_edge_level (hp : s.overLimit x.ch = false ∨ s.g (K.CH_POLICY x.ch) ≠ 0) (hl : (s.g (K.PAD_LEVEL x.ch) == 1) = x.level) :
    Gives (.edgeEmit k) s (fun t => Writes s t (s.withheldObj x.ch k 7 x.t) ∧ t = { s.taken k r with od := t.od, out := [] }) := by
  refine gives_edgeEmit hm hk hq hf ?_
  rw [emitEdge_level (s := s.noOut.taken k r) (not_withheld hs hp) hl]
  have hw := withhold_writes (s.noOut.taken k r) hc k (r := 7) (by decide) (by decide) x.t
  obtain ⟨o, ho⟩ := withhold_level_odOnly (s.noOut.taken k r) x.ch k x.t
  rw [ho] at hw ⊢
  exact ⟨hw, rfl⟩

variable (hl : (s.g (K.PAD_LEVEL x.ch) == 1) ≠ x.level)
include hl

/-- A DISABLED pad drives nothing. -/
theorem gives_edge_off (hp : s.overLimit x.ch = false) (hfmt : s.g (K.PAD_FMT x.ch) = 0) :
    Gives (.edgeEmit k) s (fun t => Writes s t ((K.CH_EDGES x.ch, s.g (K.CH_EDGES x.ch) + 1) :: s.spareEdgeObj k) ∧
      t = { (s.taken k r).setPad x.ch { s.pad x.ch with carried := true, lastEdge := some s.tick } with od := t.od, out := [] }) := by
  refine gives_edgeEmit hm hk hq hf ?_
  rw [emitEdge_off (s := s.noOut.taken k r) (not_withheld hs (.inl hp)) hl hp hfmt]
  have hw := edgeCounted_writes (s.noOut.taken k r) hc k
  obtain ⟨o, ho⟩ := edgeCounted_odOnly (s.noOut.taken k r) x.ch k
  rw [ho] at hw ⊢
  exact ⟨hw, rfl⟩

/-- An edge driven within its bound. -/
theorem gives_edge_driven (hp : s.overLimit x.ch = false) (hfmt : s.g (K.PAD_FMT x.ch) ≠ 0) :
    Gives (.edgeEmit k) s (fun t =>
      Writes s t ([(K.CH_EDGES x.ch, s.g (K.CH_EDGES x.ch) + 1), (K.PAD_LEVEL x.ch, b2n x.level)] ++ s.spareEdgeObj k) ∧
      t = { (s.taken k r).setPad x.ch { s.pad x.ch with carried := true, lastEdge := some s.tick } with
        od := t.od, out := [.edge k x.ch (if s.coarse then x.t - x.t % qCoarse else x.t) (x.level != s.inverted x.ch)
          (s.nPin x.ch (x.level != s.inverted x.ch)) false] }) := by
  refine gives_edgeEmit hm hk hq hf ?_
  have hover : (s.noOut.taken k r).overLimit x.ch = false := hp
  rw [emitEdge_driven (s := s.noOut.taken k r) (not_withheld hs (.inl hp)) hl hfmt]
  dsimp only
  rw [pad_drive hc, hover, if_neg Bool.false_ne_true]
  have hw := driven_writes (s.noOut.taken k r) hc k (b2n x.level)
  obtain ⟨o, ho⟩ := edgeCounted_odOnly ((s.noOut.taken k r).p (K.PAD_LEVEL x.ch) (b2n x.level)) x.ch k
  rw [ho] at hw ⊢
  exact ⟨hw, rfl⟩

/-- An edge driven and flagged, its channel past its bound. -/
theorem gives_edge_flagged (hp : s.overLimit x.ch = true) (hpol : s.g (K.CH_POLICY x.ch) ≠ 0) (hfmt : s.g (K.PAD_FMT x.ch) ≠ 0) :
    Gives (.edgeEmit k) s (fun t =>
      Writes s t (s.flagObj x.ch x.ch x.t ++ [(K.CH_EDGES x.ch, s.g (K.CH_EDGES x.ch) + 1), (K.PAD_LEVEL x.ch, b2n x.level)] ++
        s.spareFlagObj k x.ch x.t ++ s.spareEdgeObj k) ∧
      t = { ((s.taken k r).setPad x.ch { s.pad x.ch with carried := true, lastEdge := some s.tick }).raiseBits 33 (2 ^ x.ch) with
        od := t.od, out := [.edge k x.ch (if s.coarse then x.t - x.t % qCoarse else x.t) (x.level != s.inverted x.ch)
          (s.nPin x.ch (x.level != s.inverted x.ch)) true] }) := by
  refine gives_edgeEmit hm hk hq hf ?_
  have hover : (s.noOut.taken k r).overLimit x.ch = true := hp
  rw [emitEdge_driven (s := s.noOut.taken k r) (not_withheld hs (.inr hpol)) hl hfmt]
  dsimp only
  rw [pad_drive hc, hover, if_pos rfl]
  generalize hout : Out.edge _ _ _ _ _ _ = out
  have hw : Writes s ((((s.noOut.taken k r).p (K.PAD_LEVEL x.ch) (b2n x.level)).edgeCounted x.ch k).emit out |>.flagged x.ch k x.t) _ :=
    drivenFlagged_writes (s := s.noOut.taken k r) hc rfl
  obtain ⟨o, ho⟩ := edgeCounted_odOnly ((s.noOut.taken k r).p (K.PAD_LEVEL x.ch) (b2n x.level)) x.ch k
  refine ⟨fun j => (State.g_raiseBits _ _ _ j).trans (hw j), ?_⟩
  have hv : OdOnly (((s.taken k r).setPad x.ch { s.pad x.ch with carried := true, lastEdge := some s.tick }).withOut [out])
      ((((s.noOut.taken k r).p (K.PAD_LEVEL x.ch) (b2n x.level)).edgeCounted x.ch k).emit out) := by
    rw [ho]
    exact ⟨o, rfl⟩
  refine (raised_left (s := (s.taken k r).setPad x.ch { s.pad x.ch with carried := true, lastEdge := some s.tick })
    ((hv.trans (flagged_odOnly _ x.ch k x.t)).raiseBits 33 (2 ^ x.ch))).trans ?_
  rw [← hout]
  rfl

end Open

end Cases

end Sys2Proof.Machine
end

section
/-! SUPPORT. An edge queued (R88, R90, R120, R416), and what later frames show of a state without its outputs (R24). -/

namespace Sys2Proof.Machine

variable {s t u : State} {c k n v : Nat} {l trig : Bool}

/-! ## The queue of a core -/

theorem insEdge_length (e : QEdge) (q : List QEdge) : (insEdge e q).length = q.length + 1 := by
  induction q with
  | nil => rfl
  | cons x q ih =>
    rw [insEdge]
    split
    · rfl
    · rw [List.length_cons, ih, List.length_cons]

theorem mem_insEdge {e x : QEdge} {q : List QEdge} : x ∈ insEdge e q ↔ x = e ∨ x ∈ q := by
  induction q with
  | nil => simp [insEdge]
  | cons y q ih =>
    rw [insEdge]
    split
    · simp
    · rw [List.mem_cons, ih, List.mem_cons, or_left_comm]

/-- How many entries of a queue are of a frame, with one more put in. -/
theorem insEdge_count (p : QEdge → Bool) (e : QEdge) (q : List QEdge) :
    ((insEdge e q).filter p).length = (q.filter p).length + if p e then 1 else 0 := by
  induction q with
  | nil => cases hp : p e <;> simp [insEdge, hp]
  | cons y q ih =>
    rw [insEdge]
    split
    · cases hp : p e <;> simp [List.filter_cons, hp]
    · cases hy : p y
      · rw [List.filter_cons_of_neg (by rw [hy]; decide), List.filter_cons_of_neg (by rw [hy]; decide), ih]
      · rw [List.filter_cons_of_pos hy, List.filter_cons_of_pos hy, List.length_cons, List.length_cons, ih, Nat.add_right_comm]

/-! ## One edge queued -/

/-- The state with other objects, queues and records of channels. -/
def State.withPlaced (s : State) (o : Sp Nat) (co : Sp CoreHid) (ch : Sp ChHid) : State := { s with od := o, coreHid := co, chHid := ch }

/-- After, nothing but objects, the queues of cores and the records of channels has changed. -/
def PlacedOnly (s t : State) : Prop := ∃ o co ch, t = s.withPlaced o co ch

theorem PlacedOnly.refl (s : State) : PlacedOnly s s := ⟨s.od, s.coreHid, s.chHid, rfl⟩

theorem PlacedOnly.trans (h : PlacedOnly s t) (h' : PlacedOnly t u) : PlacedOnly s u := by
  obtain ⟨o, co, ch, rfl⟩ := h
  obtain ⟨o', co', ch', rfl⟩ := h'
  exact ⟨o', co', ch', rfl⟩

theorem PlacedOnly.p (h : PlacedOnly s t) (j x : Nat) : PlacedOnly s (t.p j x) := by
  obtain ⟨o, co, ch, rfl⟩ := h
  exact ⟨_, _, _, rfl⟩

theorem PlacedOnly.setCore (h : PlacedOnly s t) (j : Nat) (x : CoreHid) : PlacedOnly s (t.setCore j x) := by
  obtain ⟨o, co, ch, rfl⟩ := h
  exact ⟨_, _, _, rfl⟩

theorem PlacedOnly.setCh (h : PlacedOnly s t) (j : Nat) (x : ChHid) : PlacedOnly s (t.setCh j x) := by
  obtain ⟨o, co, ch, rfl⟩ := h
  exact ⟨_, _, _, rfl⟩

/-- The record of a core once an edge is queued on it; an edge near another may count toward a proximity term. -/
def CoreHid.queued (h : CoreHid) (e : QEdge) (prox proxN : Bool) : CoreHid :=
  { h with queue := insEdge e h.queue, prox := h.prox || prox, proxN := h.proxN || proxN }

/-- An edge queued, but for the proximity term of a guard window. -/
def State.queued (s : State) (k : Nat) (e : QEdge) (prox proxN : Bool) : State :=
  let h := (s.core k).queued e prox proxN
  let s := ((s.setCore k h).p (K.CH_NEXT_VERNIER k) (1 - e.vern)).setCh e.ch { s.ch e.ch with hist := e.t :: (s.ch e.ch).hist.take 1 }
  s.p (K.CH_QUEUE_PEAK k) (max (s.g (K.CH_QUEUE_PEAK k)) h.queue.length)

theorem queueEdge_eq (s : State) (c k v n : Nat) (l trig : Bool) : ∃ prox proxN, s.queueEdge c k v n l trig =
    (if s.guarded c n then s.lateTerm c k (frameOf n) else s).queued k { t := n, ch := c, level := l, vern := v, trig := trig } prox proxN :=
  ⟨_, _, rfl⟩

theorem peak_ne_vern (k : Nat) : K.CH_QUEUE_PEAK k ≠ K.CH_NEXT_VERNIER k := by
  rw [K.CH_QUEUE_PEAK, K.CH_NEXT_VERNIER, Ne, key_inj] <;> omega

section Queue
variable (s : State) (k : Nat) (e : QEdge) (prox proxN : Bool)

theorem queued_writes : Writes s (s.queued k e prox proxN)
    [(K.CH_QUEUE_PEAK k, max (s.g (K.CH_QUEUE_PEAK k)) ((s.core k).queue.length + 1)), (K.CH_NEXT_VERNIER k, 1 - e.vern)] := by
  have hlen : ((s.core k).queued e prox proxN).queue.length = (s.core k).queue.length + 1 := insEdge_length e _
  have hg : (((s.setCore k ((s.core k).queued e prox proxN)).p (K.CH_NEXT_VERNIER k) (1 - e.vern)).setCh e.ch
      { s.ch e.ch with hist := e.t :: (s.ch e.ch).hist.take 1 }).g (K.CH_QUEUE_PEAK k) = s.g (K.CH_QUEUE_PEAK k) := by
    rw [State.g_setCh, State.g_p_other _ _ (peak_ne_vern k), State.g_setCore]
  intro j
  rw [State.queued, State.g_p, hg, hlen, State.g_setCh, State.g_p, State.g_setCore]
  rfl

theorem queued_placedOnly : PlacedOnly s (s.queued k e prox proxN) := ((((PlacedOnly.refl s).setCore _ _).p _ _).setCh _ _).p _ _

theorem queued_core_same : (s.queued k e prox proxN).core k = (s.core k).queued e prox proxN := Sp.get_set_same _ _ _ _

theorem queued_core_other : ButAt (s.queued k e prox proxN).core s.core k := fun _ hj => Sp.get_set_other _ _ _ hj

theorem queued_ch_same : (s.queued k e prox proxN).ch e.ch = { s.ch e.ch with hist := e.t :: (s.ch e.ch).hist.take 1 } :=
  Sp.get_set_same _ _ _ _

theorem queued_ch_other : ButAt (s.queued k e prox proxN).ch s.ch e.ch := fun _ hj => Sp.get_set_other _ _ _ hj

end Queue

/-! ## An edge queued in a guard window -/

theorem judge_form (s : State) (c : Nat) : ∃ d, s.judge c = s.p (K.CH_STATUS c) d := ⟨_, rfl⟩

/-- A late proximity term enters the bound in force, or the one computed for the next frame, or neither. -/
theorem lateTerm_cases (s : State) (c k m : Nat) : s.lateTerm c k m = s ∨
    (∃ a b d, s.lateTerm c k m =
      (((s.setCore k { s.core k with termNow := true }).p (K.IP_PROX_FRAMES k) a).p (K.CH_BOUND c) b).p (K.CH_STATUS c) d) ∨
    ∃ a b, s.lateTerm c k m =
      ((s.setCore k { s.core k with termNext := true }).p (K.IP_PROX_FRAMES k) a).setCh c { s.ch c with bound := b } := by
  unfold State.lateTerm
  dsimp only
  split
  · rw [State.inc_eq]
    obtain ⟨d, hd⟩ := judge_form (((s.setCore k { s.core k with termNow := true }).p (K.IP_PROX_FRAMES k)
      ((s.setCore k { s.core k with termNow := true }).g (K.IP_PROX_FRAMES k) + 1)).p (K.CH_BOUND c) (sumBounds [s.g (K.CH_BOUND c), 15])) c
    exact .inr (.inl ⟨_, _, d, hd⟩)
  · split
    · rw [State.inc_eq]
      exact .inr (.inr ⟨_, _, rfl⟩)
    · exact .inl rfl

theorem lateTerm_placedOnly (s : State) (c k m : Nat) : PlacedOnly s (s.lateTerm c k m) := by
  have h : ∀ x, PlacedOnly s (s.setCore k x) := fun x => (PlacedOnly.refl s).setCore k x
  rcases lateTerm_cases s c k m with he | ⟨a, b, d, he⟩ | ⟨a, b, he⟩ <;> rw [he]
  · exact PlacedOnly.refl s
  · exact (((h _).p _ a).p _ b).p _ d
  · exact ((h _).p _ a).setCh c _

theorem core_of_coreHid (h : t.coreHid = s.coreHid) : t.core = s.core := by
  funext j
  rw [State.core, State.core, h]

theorem ch_of_chHid (h : t.chHid = s.chHid) : t.ch = s.ch := by
  funext j
  rw [State.ch, State.ch, h]

/-- A late proximity term changes, of the core, its terms. -/
theorem lateTerm_core (s : State) (c k m : Nat) : ((s.lateTerm c k m).core k).queue = (s.core k).queue ∧
    ((s.lateTerm c k m).core k).sentN = (s.core k).sentN ∧ ButAt (s.lateTerm c k m).core s.core k := by
  have hset : ∀ x : CoreHid, x.queue = (s.core k).queue → x.sentN = (s.core k).sentN → ∀ u : State,
      u.coreHid = (s.setCore k x).coreHid →
      (u.core k).queue = (s.core k).queue ∧ (u.core k).sentN = (s.core k).sentN ∧ ButAt u.core s.core k := fun x hx hn u hu => by
    rw [core_of_coreHid hu]
    exact ⟨by rw [State.core_setCore_same, hx], by rw [State.core_setCore_same, hn], fun j hj => State.core_setCore_other s x hj⟩
  rcases lateTerm_cases s c k m with he | ⟨a, b, d, he⟩ | ⟨a, b, he⟩ <;> rw [he]
  · exact ⟨rfl, rfl, fun _ _ => rfl⟩
  · exact hset { s.core k with termNow := true } rfl rfl _ rfl
  · exact hset { s.core k with termNext := true } rfl rfl _ rfl

/-- A late proximity term changes, of the channel, its bound. -/
theorem lateTerm_ch (s : State) (c k m : Nat) :
    (s.lateTerm c k m).ch c = { s.ch c with bound := ((s.lateTerm c k m).ch c).bound } ∧ ButAt (s.lateTerm c k m).ch s.ch c := by
  rcases lateTerm_cases s c k m with he | ⟨a, b, d, he⟩ | ⟨a, b, he⟩ <;> rw [he]
  · exact ⟨rfl, fun _ _ => rfl⟩
  · rw [ch_of_chHid (s := s) rfl]
    exact ⟨rfl, fun _ _ => rfl⟩
  · rw [State.ch_setCh_same]
    exact ⟨rfl, fun j hj => (State.ch_setCh_other _ _ hj).trans (congrFun (ch_of_chHid rfl) j)⟩

/-- What an edge queued leaves, in a guard window or not. -/
structure Queued (s : State) (k : Nat) (e : QEdge) (t : State) : Prop where
  form : PlacedOnly s t
  queue : (t.core k).queue = insEdge e (s.core k).queue
  sentN : (t.core k).sentN = (s.core k).sentN
  cores : ButAt t.core s.core k
  vern : t.g (K.CH_NEXT_VERNIER k) = 1 - e.vern
  chan : t.ch e.ch = { s.ch e.ch with hist := e.t :: (s.ch e.ch).hist.take 1, bound := (t.ch e.ch).bound }
  chans : ButAt t.ch s.ch e.ch

theorem queued_queued (s : State) (k : Nat) (e : QEdge) (prox proxN : Bool) : Queued s k e (s.queued k e prox proxN) where
  form := queued_placedOnly s k e prox proxN
  queue := by rw [queued_core_same]; rfl
  sentN := by rw [queued_core_same]; rfl
  cores := queued_core_other s k e prox proxN
  vern := by
    rw [queued_writes, after, if_neg (peak_ne_vern k).symm]
    exact if_pos rfl
  chan := by rw [queued_ch_same]
  chans := queued_ch_other s k e prox proxN

/-- An edge queued after a late proximity term is an edge queued. -/
theorem Queued.of_lateTerm {e : QEdge} {m : Nat} (h : Queued (s.lateTerm e.ch k m) k e t) : Queued s k e t := by
  obtain ⟨hq, hn, hcores⟩ := lateTerm_core s e.ch k m
  obtain ⟨hch, hchans⟩ := lateTerm_ch s e.ch k m
  refine ⟨(lateTerm_placedOnly s e.ch k m).trans h.form, by rw [h.queue, hq], by rw [h.sentN, hn],
    fun j hj => (h.cores j hj).trans (hcores j hj), h.vern, ?_, fun j hj => (h.chans j hj).trans (hchans j hj)⟩
  rw [h.chan, hch]

theorem queueEdge_queued (s : State) (c k v n : Nat) (l trig : Bool) :
    Queued s k { t := n, ch := c, level := l, vern := v, trig := trig } (s.queueEdge c k v n l trig) := by
  obtain ⟨prox, proxN, he⟩ := queueEdge_eq s c k v n l trig
  rw [he]
  split
  · exact Queued.of_lateTerm (queued_queued _ k { t := n, ch := c, level := l, vern := v, trig := trig } prox proxN)
  · exact queued_queued _ k { t := n, ch := c, level := l, vern := v, trig := trig } prox proxN

/-- Outside the guard window of a swap an edge is queued as it is (R305). -/
theorem queueEdge_free (h : s.guarded c n = false) : ∃ prox proxN, s.queueEdge c k v n l trig =
    s.queued k { t := n, ch := c, level := l, vern := v, trig := trig } prox proxN := by
  obtain ⟨prox, proxN, he⟩ := queueEdge_eq s c k v n l trig
  exact ⟨prox, proxN, by rw [he, h, if_neg Bool.false_ne_true]⟩

end Sys2Proof.Machine
end

section
/-! SUPPORT. What a later frame shows does not depend on what was driven out (R24). -/

namespace Sys2Proof.Machine

variable {s t u : State} {c k n : Nat}

theorem noOut_ite {p : Prop} [Decidable p] (a b : State) : (if p then a else b).noOut = if p then a.noOut else b.noOut := apply_ite _ _ _ _

theorem foldl_noOut {α : Type} {f : State → α → State} (hf : ∀ s x, f s.noOut x = (f s x).noOut) (l : List α) :
    ∀ s : State, l.foldl f s.noOut = (l.foldl f s).noOut := by
  induction l with
  | nil => exact fun _ => rfl
  | cons x l ih => exact fun s => by rw [List.foldl_cons, List.foldl_cons, hf, ih]

theorem pAll_noOut (l : List (Nat × Nat)) (s : State) : s.noOut.pAll l = (s.pAll l).noOut := foldl_noOut (fun _ _ => rfl) l s

theorem view_noOut (s : State) (m : Nat) : s.noOut.view m = (s.view m).noOut := by
  refine foldl_noOut (fun s x => ?_) s.commits s
  rw [noOut_ite, pAll_noOut]

/-- A bank's correction step, once MEASURE has taken its temperature: `h`, `st` and `core` are what the bank held before. -/
def State.calMove (s : State) (k : Nat) (h : CalHid) (st core : Nat) : State :=
  if s.clock = .byp ∨ !((st = 4 ∧ h.stepAt ≤ s.tick) ∨ st = 7) ∨ s.swapDue core then s
  else if s.entriesOf core = (if st = 4 then h.new else h.old) then s
  else (s.setEntries core (((s.entriesOf core).zip (if st = 4 then h.new else h.old)).map (fun p => stepToward p.1 p.2))).setCal k
    { h with last := some s.tick }

theorem calSteps_eq (s : State) (k : Nat) : s.calSteps k =
    (if s.g (K.CALB_STATE k) = 3 ∧ s.tick < (s.calOf k).began + 299594 then s.setCal k { s.calOf k with temp := s.meas.temps.getD k 0 } else s).calMove
      k (s.calOf k) (s.g (K.CALB_STATE k)) (s.g (K.CALB_CORE k)) := rfl

theorem calMove_noOut (s : State) (k : Nat) (h : CalHid) (st core : Nat) : s.noOut.calMove k h st core = (s.calMove k h st core).noOut := by
  have hset : ∀ l x, (s.noOut.setEntries core l).setCal k x = ((s.setEntries core l).setCal k x).noOut := fun _ _ => rfl
  have he : s.noOut.entriesOf core = s.entriesOf core := rfl
  have hd : s.noOut.swapDue core = s.swapDue core := rfl
  have hc : s.noOut.clock = s.clock := rfl
  have ht : s.noOut.tick = s.tick := rfl
  unfold State.calMove
  rw [noOut_ite, noOut_ite, he, hd, hc, ht, hset]

theorem calSteps_noOut (s : State) (k : Nat) : s.noOut.calSteps k = (s.calSteps k).noOut := by
  rw [calSteps_eq, calSteps_eq, ← calMove_noOut]
  by_cases h : s.g (K.CALB_STATE k) = 3 ∧ s.tick < (s.calOf k).began + 299594
  · have h' : s.noOut.g (K.CALB_STATE k) = 3 ∧ s.noOut.tick < (s.noOut.calOf k).began + 299594 := h
    rw [if_pos h, if_pos h']
    rfl
  · have h' : ¬(s.noOut.g (K.CALB_STATE k) = 3 ∧ s.noOut.tick < (s.noOut.calOf k).began + 299594) := h
    rw [if_neg h, if_neg h']
    rfl

theorem takeGoal_noOut (s : State) (j : Nat) : s.noOut.takeGoal j = (s.takeGoal j).noOut := by
  have hp : s.noOut.pad = s.pad := rfl
  unfold State.takeGoal
  dsimp only
  rw [hp]
  generalize (s.pad j).goalNext = o
  cases o with
  | none => rfl
  | some g =>
    dsimp only
    rw [noOut_ite]
    rfl

theorem trimStep_noOut (s : State) (j : Nat) : s.noOut.trimStep j = (s.trimStep j).noOut := by
  unfold State.trimStep
  dsimp only
  rw [takeGoal_noOut, noOut_ite]
  rfl

theorem ancStep_noOut (s : State) : s.noOut.ancStep = s.ancStep.noOut := by
  have hset : ∀ (s : State) c k v, s.noOut.setAnchor c k v = (s.setAnchor c k v).noOut := fun s c k v => by
    unfold State.setAnchor
    rw [noOut_ite]
    rfl
  unfold State.ancStep
  have ha : s.noOut.ancRun = s.ancRun := rfl
  rw [ha]
  cases s.ancRun with
  | none => rfl
  | some a =>
    dsimp only
    rw [noOut_ite, ← foldl_noOut]
    · rfl
    · exact fun u x => hset u _ _ _

/-- The commits due by the next boundary, at that boundary. -/
def State.atNext (s : State) : State := { s.view (s.tick + 1) with tick := s.tick + 1 }

theorem ahead_eq (s : State) :
    s.ahead = ((List.range 64).foldl State.trimStep ((List.range 8).foldl State.calSteps s.atNext)).ancStep := rfl

theorem atNext_noOut (s : State) : s.noOut.atNext = s.atNext.noOut := by
  have hv : s.noOut.view (s.noOut.tick + 1) = (s.view (s.tick + 1)).noOut := view_noOut s _
  rw [State.atNext, hv]
  rfl

theorem ahead_noOut (s : State) : s.noOut.ahead = s.ahead.noOut := by
  rw [ahead_eq, ahead_eq, atNext_noOut, foldl_noOut calSteps_noOut, foldl_noOut trimStep_noOut, ancStep_noOut]

end Sys2Proof.Machine
end

section
/-! SUPPORT. TRIGGER_EDGE_ISSUE: the next edge of a burst is queued or withheld (R80, R82). -/

namespace Sys2Proof.Machine

variable {s t : State} {c k u : Nat} {a : Int} {l : Bool} {b : Burst}

theorem edgeTime_noOut (s : State) (c k v : Nat) (n d : Int) : s.noOut.edgeTime c k v n d = s.edgeTime c k v n d := by
  have ha : s.noOut.anchor c k = s.anchor c k := rfl
  have hi : s.noOut.gi (K.CH_TRIM c) = s.gi (K.CH_TRIM c) := rfl
  have hk : ∀ i, s.noOut.corrOf k v i = s.corrOf k v i := fun _ => rfl
  have hco : s.noOut.coarse = s.coarse := rfl
  rw [State.edgeTime, State.edgeTime, ha, hi, hco]
  simp only [hk]

/-- The next edge of a channel's burst: its nominal time and level, the core that will carry it, and its edge time there. -/
structure NextEdge (s : State) (c k u : Nat) (a : Int) (l : Bool) (b : Burst) : Prop where
  burst : (s.ch c).burst = some b
  edge : b.edge = some (a, l)
  core : s.coreAt c (if (a + b.delay) / (qFrame : Int) ≤ (s.fn : Int) then s.tick else s.tick + 1) = k
  time : (if (a + b.delay) / (qFrame : Int) ≤ (s.fn : Int) then s else s.ahead).edgeTime c k (s.nextVern k) a b.delay = (u : Int)

theorem NextEdge.noOut (h : NextEdge s c k u a l b) : NextEdge s.noOut c k u a l b := by
  refine ⟨h.burst, h.edge, h.core, ?_⟩
  have ht := h.time
  have hfn : s.noOut.fn = s.fn := rfl
  rw [hfn, ahead_noOut]
  have hv : s.noOut.nextVern k = s.nextVern k := rfl
  rw [hv]
  split at ht
  · next hs => rw [if_pos hs, edgeTime_noOut]; exact ht
  · next hs => rw [if_neg hs, edgeTime_noOut]; exact ht

theorem src_noOut (s : State) (u c : Nat) : (s.noOut.atTime u).src c = (s.atTime u).src c := by
  have hv : s.noOut.atTime u = (s.atTime u).noOut := view_noOut s _
  rw [hv]
  rfl

/-- The burst of a channel has issued one edge more, and the level of its source is the edge's. -/
def State.issued (s : State) (c : Nat) (b : Burst) (l : Bool) : State :=
  (s.setCh c { s.ch c with burst := some { b with next := b.next + 1 } }).setSrcLevel c l

theorem issued_g (s : State) (c : Nat) (b : Burst) (l : Bool) : (s.issued c b l).g = s.g := rfl

theorem issued_core (s : State) (c : Nat) (b : Burst) (l : Bool) : (s.issued c b l).core = s.core := rfl

theorem issued_ch_same (s : State) (c : Nat) (b : Burst) (l : Bool) :
    (s.issued c b l).ch c = { s.ch c with burst := some { b with next := b.next + 1 } } := State.ch_setCh_same _ _ _

theorem issued_ch_other (s : State) (c : Nat) (b : Burst) (l : Bool) : ButAt (s.issued c b l).ch s.ch c :=
  fun _ hj => State.ch_setCh_other _ _ hj

theorem placeReason_congr (hh : (t.ch c).hist = (s.ch c).hist) (hc : t.core = s.core) (hf : t.fn = s.fn) :
    t.placeReason c k u = s.placeReason c k u := by
  have he : ∀ n, t.edgesFor k n = s.edgesFor k n := fun n => by rw [State.edgesFor, State.edgesFor, hc, hf]
  rw [State.placeReason, State.placeReason, hh, he, hc]

theorem issued_placeReason (s : State) (c k u : Nat) (b : Burst) (l : Bool) : (s.issued c b l).placeReason c k u = s.placeReason c k u :=
  placeReason_congr (by rw [issued_ch_same]) (issued_core s c b l) (congrFun (issued_g s c b l) _)

/-- A triggered edge that is not late is placed: withheld for a check, or queued. -/
def State.issuePlaced (s : State) (c k v u : Nat) (l : Bool) : State :=
  match s.placeReason c k u with
  | some r => s.withhold c k r u
  | none => s.queueEdge c k v u l true

theorem issuePlaced_some {v r : Nat} (h : s.placeReason c k u = some r) : s.issuePlaced c k v u l = s.withhold c k r u := by
  rw [State.issuePlaced, h]

theorem issuePlaced_none {v : Nat} (h : s.placeReason c k u = none) : s.issuePlaced c k v u l = s.queueEdge c k v u l true := by
  rw [State.issuePlaced, h]

theorem late_iff (s : State) (b : Burst) (u : Nat) :
    ((u : Int) < 0 ∨ (u : Int) < (b.ts : Int) + (trigLatency : Nat) ∨ (u : Int) < (s.frameStart : Nat)) ↔
      (u < b.ts + trigLatency ∨ u < s.frameStart) := by omega

/-- TRIGGER_EDGE_ISSUE by cases of the edge time. -/
theorem issue_eq (h : NextEdge s c k u a l b) : s.issue c =
    if (s.fn + 2) * qFrame ≤ u then s
    else if (s.atTime u).src c ≠ 2 then s.setCh c { s.ch c with burst := none }
    else if u < b.ts + trigLatency ∨ u < s.frameStart then (s.issued c b l).withhold c k 1 u
    else (s.issued c b l).issuePlaced c k (s.nextVern k) u l := by
  rw [State.issue, h.burst]
  dsimp only
  rw [h.edge]
  dsimp only
  rw [h.core, h.time, Int.toNat_natCast]
  exact if_congr Int.ofNat_le rfl (if_congr Iff.rfl rfl (if_congr (late_iff s b u) rfl rfl))

theorem issue_none (h : (s.ch c).burst = none ∨ (s.ch c).burst.bind (·.edge) = none) : s.issue c = s := by
  rw [State.issue]
  cases hb : (s.ch c).burst with
  | none => rfl
  | some b =>
    rw [hb] at h
    have he : b.edge = none := h.resolve_left (by simp)
    dsimp only
    rw [he]

/-! ## The command -/

/-- What is withheld of a triggered edge raises the event of its reason. -/
theorem issued_raised {e : Nat} (m : Nat) (b : Burst) (h : OdOnly ((s.noOut.issued c b l).raiseBits e m) t) :
    ({ t with pending := s.pending } : State) =
      { (s.setPad c { s.pad c with srcLevel := some l }).raiseBits e m with od := t.od, out := [], chHid := t.chHid } := by
  obtain ⟨o, rfl⟩ := h
  have hr : ((s.noOut.issued c b l).raiseBits e m).raised = ((s.setPad c { s.pad c with srcLevel := some l }).raiseBits e m).raised :=
    raiseBits_raised e m rfl
  rw [raiseBits_form (s.noOut.issued c b l), hr, raiseBits_form (s.setPad c { s.pad c with srcLevel := some l })]
  rfl

theorem exec_triggerEdgeIssue (s : State) (c : Nat) : exec (.triggerEdgeIssue c) s =
    run (fun s => if c < 64 ∧ s.mode ≠ 10 ∧ 2 ≤ s.mode then s.issue c else s) s := rfl

theorem gives_issue_none (h2 : 2 ≤ s.mode) (h : 64 ≤ c ∨ s.mode = 10 ∨ (s.ch c).burst = none ∨ (s.ch c).burst.bind (·.edge) = none) :
    Gives (.triggerEdgeIssue c) s (fun t => t = { s with out := [] }) := by
  refine gives_noOut (by omega) (exec_triggerEdgeIssue s c) ?_
  dsimp only
  have hi : (if c < 64 ∧ s.noOut.mode ≠ 10 ∧ 2 ≤ s.noOut.mode then s.noOut.issue c else s.noOut) = s.noOut := by
    rcases h with h | h | h
    · exact if_neg fun hc => absurd hc.1 (Nat.not_lt.2 h)
    · exact if_neg fun hc => hc.2.1 h
    · rw [issue_none (s := s.noOut) h, ite_self]
  rw [hi]
  rfl

section Command
variable (h2 : 2 ≤ s.mode) (h10 : s.mode ≠ 10) (hc : c < 64)
include h2 h10 hc

theorem gives_issue {P : State → Prop} (h : P { s.noOut.issue c with pending := s.pending }) : Gives (.triggerEdgeIssue c) s P := by
  refine gives_noOut (by omega) (exec_triggerEdgeIssue s c) ?_
  have hok : c < 64 ∧ s.noOut.mode ≠ 10 ∧ 2 ≤ s.noOut.mode := ⟨hc, h10, h2⟩
  dsimp only
  rw [if_pos hok]
  exact h

variable (hn : NextEdge s c k u a l b)
include hn

/-- An edge beyond the next frame waits. -/
theorem gives_issue_far (hu : (s.fn + 2) * qFrame ≤ u) : Gives (.triggerEdgeIssue c) s (fun t => t = { s with out := [] }) := by
  refine gives_issue h2 h10 hc ?_
  rw [issue_eq hn.noOut]
  exact congrArg (fun t : State => ({ t with pending := s.pending } : State)) (if_pos hu)

variable (hu : u < (s.fn + 2) * qFrame)
include hu

/-- A burst ends when its channel is no longer a TRIGGER channel. -/
theorem gives_issue_gone (hsrc : (s.atTime u).src c ≠ 2) :
    Gives (.triggerEdgeIssue c) s (fun t => t.ch c = { s.ch c with burst := none } ∧ ButAt t.ch s.ch c ∧
      t = { s with out := [], chHid := t.chHid }) := by
  refine gives_issue h2 h10 hc ?_
  have hi : s.noOut.issue c = s.noOut.setCh c { s.ch c with burst := none } := by
    rw [issue_eq hn.noOut, src_noOut]
    exact (if_neg (Nat.not_le.2 hu)).trans (if_pos hsrc)
  rw [hi]
  exact ⟨State.ch_setCh_same _ _ _, fun _ hj => State.ch_setCh_other _ _ hj, rfl⟩

variable (hsrc : (s.atTime u).src c = 2)
include hsrc

omit hn hu hsrc in
/-- What a triggered edge withheld leaves. -/
theorem gives_issue_withheld {r e : Nat} (h1 : 1 ≤ r) (h7 : r ≤ 7) (he : whEvent r = some e)
    (hi : s.noOut.issue c = (s.noOut.issued c b l).withhold c k r u) :
    Gives (.triggerEdgeIssue c) s (fun t => Writes s t (s.withheldObj c k r u) ∧
      t.ch c = { s.ch c with burst := some { b with next := b.next + 1 } } ∧ ButAt t.ch s.ch c ∧
      t = { (s.setPad c { s.pad c with srcLevel := some l }).raiseBits e (2 ^ c) with od := t.od, out := [], chHid := t.chHid }) := by
  refine gives_issue h2 h10 hc ?_
  have hw := withhold_writes (s.noOut.issued c b l) hc k h1 h7 u
  have ho := withhold_odOnly he (s.noOut.issued c b l) c k u
  rw [hi]
  have hch : ((s.noOut.issued c b l).withhold c k r u).ch = (s.noOut.issued c b l).ch := by
    obtain ⟨o, ho⟩ := ho
    rw [ho]
    exact ch_of_chHid ((State.raiseBits_chHid _ _ _))
  refine ⟨hw, (congrFun hch c).trans (issued_ch_same s.noOut c b l), fun j hj => (congrFun hch j).trans (issued_ch_other s.noOut c b l j hj),
    issued_raised _ b ho⟩

theorem gives_issue_late (hl : u < b.ts + trigLatency ∨ u < s.frameStart) :
    Gives (.triggerEdgeIssue c) s (fun t => Writes s t (s.withheldObj c k 1 u) ∧
      t.ch c = { s.ch c with burst := some { b with next := b.next + 1 } } ∧ ButAt t.ch s.ch c ∧
      t = { (s.setPad c { s.pad c with srcLevel := some l }).raiseBits 37 (2 ^ c) with od := t.od, out := [], chHid := t.chHid }) := by
  refine gives_issue_withheld h2 h10 hc (r := 1) (by decide) (by decide) rfl ?_
  rw [issue_eq hn.noOut, src_noOut]
  exact (if_neg (Nat.not_le.2 hu)).trans ((if_neg (not_not.2 hsrc)).trans (if_pos hl))

variable (hts : b.ts + trigLatency ≤ u) (hfr : s.frameStart ≤ u)
include hts hfr

omit h2 h10 hc in
theorem issue_placed : s.noOut.issue c = (s.noOut.issued c b l).issuePlaced c k (s.nextVern k) u l := by
  have hl : ¬(u < b.ts + trigLatency ∨ u < s.noOut.frameStart) := not_or.2 ⟨Nat.not_lt.2 hts, Nat.not_lt.2 hfr⟩
  rw [issue_eq hn.noOut, src_noOut]
  exact (if_neg (Nat.not_le.2 hu)).trans ((if_neg (not_not.2 hsrc)).trans (if_neg hl))

theorem gives_issue_refused {r e : Nat} (h1 : 1 ≤ r) (h7 : r ≤ 7) (he : whEvent r = some e) (hr : s.placeReason c k u = some r) :
    Gives (.triggerEdgeIssue c) s (fun t => Writes s t (s.withheldObj c k r u) ∧
      t.ch c = { s.ch c with burst := some { b with next := b.next + 1 } } ∧ ButAt t.ch s.ch c ∧
      t = { (s.setPad c { s.pad c with srcLevel := some l }).raiseBits e (2 ^ c) with od := t.od, out := [], chHid := t.chHid }) := by
  refine gives_issue_withheld h2 h10 hc h1 h7 he ?_
  rw [issue_placed hn hu hsrc hts hfr]
  exact issuePlaced_some ((issued_placeReason s.noOut c k u b l).trans hr)

variable (hr : s.placeReason c k u = none)
include hr

omit h2 h10 hc in
theorem issue_queued : s.noOut.issue c = (s.noOut.issued c b l).queueEdge c k (s.nextVern k) u l true := by
  rw [issue_placed hn hu hsrc hts hfr]
  exact issuePlaced_none ((issued_placeReason s.noOut c k u b l).trans hr)

theorem gives_issue_queued :
    Gives (.triggerEdgeIssue c) s (fun t =>
      (t.core k).queue = insEdge { t := u, ch := c, level := l, vern := s.nextVern k, trig := true } (s.core k).queue ∧
      (∀ z ∈ List.range 72, z ≠ k → t.core z = s.core z) ∧ t.g (K.CH_NEXT_VERNIER k) = 1 - s.nextVern k ∧
      (t.ch c).burst = some { b with next := b.next + 1 } ∧ ButAt t.ch s.ch c ∧
      t = { s with od := t.od, out := [], coreHid := t.coreHid, chHid := t.chHid, padHid := t.padHid, raised := t.raised }) := by
  refine gives_issue h2 h10 hc ?_
  rw [issue_queued hn hu hsrc hts hfr hr]
  have hq := queueEdge_queued (s.noOut.issued c b l) c k (s.nextVern k) u l true
  refine ⟨hq.queue, fun z _ hz => hq.cores z hz, hq.vern, ?_, fun z hz => (hq.chans z hz).trans (issued_ch_other s.noOut c b l z hz), ?_⟩
  · have hb := congrArg ChHid.burst hq.chan
    rw [issued_ch_same] at hb
    exact hb
  · obtain ⟨o, co, ch, hf⟩ := hq.form
    rw [hf]
    rfl

theorem gives_issue_free (hg : s.guarded c u = false) :
    Gives (.triggerEdgeIssue c) s (fun t => Writes s t [(K.CH_QUEUE_PEAK k, max (s.g (K.CH_QUEUE_PEAK k)) ((s.core k).queue.length + 1)),
        (K.CH_NEXT_VERNIER k, 1 - s.nextVern k)] ∧
      (t.core k).queue = insEdge { t := u, ch := c, level := l, vern := s.nextVern k, trig := true } (s.core k).queue ∧
      (t.core k).sentN = (s.core k).sentN ∧ ButAt t.core s.core k ∧
      t.ch c = { s.ch c with burst := some { b with next := b.next + 1 }, hist := u :: (s.ch c).hist.take 1 } ∧ ButAt t.ch s.ch c ∧
      t = { s.setPad c { s.pad c with srcLevel := some l } with od := t.od, out := [], coreHid := t.coreHid, chHid := t.chHid }) := by
  refine gives_issue h2 h10 hc ?_
  obtain ⟨prox, proxN, he⟩ := queueEdge_free (s := s.noOut.issued c b l) (k := k) (v := s.nextVern k) (l := l) (trig := true) hg
  have hq := queued_queued (s.noOut.issued c b l) k { t := u, ch := c, level := l, vern := s.nextVern k, trig := true } prox proxN
  have hw := queued_writes (s.noOut.issued c b l) k { t := u, ch := c, level := l, vern := s.nextVern k, trig := true } prox proxN
  rw [issue_queued hn hu hsrc hts hfr hr, he]
  refine ⟨hw, hq.queue, hq.sentN, hq.cores, ?_, fun z hz => (hq.chans z hz).trans (issued_ch_other s.noOut c b l z hz), ?_⟩
  · refine (queued_ch_same _ _ _ _ _).trans ?_
    rw [issued_ch_same]
    rfl
  · obtain ⟨o, co, ch, hf⟩ := hq.form
    rw [hf]
    rfl

end Command

end Sys2Proof.Machine
end

section
/-! SUPPORT. INPUT_EDGE: the bursts that an edge starts (R79, R81). -/

namespace Sys2Proof.Machine

variable {s t w : State} {c n u : Nat} {l : Bool}

/-- The burst that an edge at a time starts in a channel. -/
def State.newBurst (s : State) (c u : Nat) : Burst :=
  { ts := u, offset := s.gi (K.TRIG_OFFSET c), count := s.g (K.TRIG_COUNT c), period := s.gi (K.TRIG_PERIOD c),
    width := s.gi (K.TRIG_WIDTH c), delay := s.gi (K.CH_DELAY c) }

/-- What an edge at a time does to a channel that it triggers. -/
def State.trigStep (s : State) (u c : Nat) : State :=
  if s.bursting c u then (s.inc (K.TRIG_IGNORED c)).raiseBits 38 (2 ^ c)
  else
    ((s.inc (K.TRIG_ACCEPTED c)).p (K.TRIG_LAST c) (ofTime92 u)).setCh c { s.ch c with burst := some (s.newBurst c u) }

/-- The channels of a list triggered one after the other. -/
def State.trigAll (s : State) (u : Nat) (cs : List Nat) : State := s.each cs (fun s c => s.trigStep u c)

theorem trigger_eq (s : State) (n u : Nat) (l : Bool) (h2 : 2 ≤ s.mode) (h10 : s.mode ≠ 10) : s.trigger n u l = s.trigAll u (s.triggered n l) := by
  have hi : ¬(s.mode = 10 ∨ s.mode < 2) := by omega
  rw [State.trigger, if_neg hi]
  cases l <;> rfl

theorem trigger_safe (s : State) (n u : Nat) (l : Bool) (h10 : s.mode = 10) : s.trigger n u l = s := if_pos (.inl h10)

/-- What an edge writes of a channel that it triggers. -/
def State.trigObj (s : State) (u c : Nat) : List (Nat × Nat) :=
  if s.bursting c u then [(K.TRIG_IGNORED c, s.g (K.TRIG_IGNORED c) + 1)]
  else [(K.TRIG_LAST c, ofTime92 u), (K.TRIG_ACCEPTED c, s.g (K.TRIG_ACCEPTED c) + 1)]

theorem triggerObj_eq (s : State) (n u : Nat) (l : Bool) : s.triggerObj n u l = (s.triggered n l).flatMap (s.trigObj u) := rfl

theorem trigObj_index {p : Nat × Nat} (h : p ∈ s.trigObj u c) :
    keyIndex p.1 = 0x5006 + 0x20 * c ∧ (keySub p.1 = 7 ∨ keySub p.1 = 8 ∨ keySub p.1 = 9) := by
  unfold State.trigObj at h
  split at h
  · rw [List.mem_singleton.1 h]
    exact ⟨keyIndex_key _ 0 (by decide) (by decide), .inr (.inl (keySub_key _ 0 (by decide) (by decide)))⟩
  · simp only [List.mem_cons, List.not_mem_nil, or_false] at h
    rcases h with rfl | rfl
    · exact ⟨keyIndex_key _ 0 (by decide) (by decide), .inr (.inr (keySub_key _ 0 (by decide) (by decide)))⟩
    · exact ⟨keyIndex_key _ 0 (by decide) (by decide), .inl (keySub_key _ 0 (by decide) (by decide))⟩

/-- What a channel's triggering reads is as it was: its record, and its objects but for the counters of triggers. -/
theorem trigStep_congr (hch : t.ch c = s.ch c) (hg : ∀ j, keyIndex j = 0x5006 + 0x20 * c ∨ keyIndex j = 0x5000 + 0x20 * c → t.g j = s.g j) :
    t.bursting c u = s.bursting c u ∧ t.newBurst c u = s.newBurst c u ∧ t.trigObj u c = s.trigObj u c := by
  have hb : t.bursting c u = s.bursting c u := by rw [State.bursting, State.bursting, hch]
  have h6 : ∀ sub, sub < 256 → t.g (key (0x5006 + 0x20 * c) sub 0) = s.g (key (0x5006 + 0x20 * c) sub 0) := fun sub hs =>
    hg _ (.inl (keyIndex_key _ 0 hs (by decide)))
  have hd : t.g (K.CH_DELAY c) = s.g (K.CH_DELAY c) := hg _ (.inr (keyIndex_key _ 0 (by decide) (by decide)))
  have ho : t.g (K.TRIG_OFFSET c) = s.g (K.TRIG_OFFSET c) := h6 _ (by decide)
  have hn : t.g (K.TRIG_COUNT c) = s.g (K.TRIG_COUNT c) := h6 _ (by decide)
  have hp : t.g (K.TRIG_PERIOD c) = s.g (K.TRIG_PERIOD c) := h6 _ (by decide)
  have hw : t.g (K.TRIG_WIDTH c) = s.g (K.TRIG_WIDTH c) := h6 _ (by decide)
  have hi : t.g (K.TRIG_IGNORED c) = s.g (K.TRIG_IGNORED c) := h6 _ (by decide)
  have ha : t.g (K.TRIG_ACCEPTED c) = s.g (K.TRIG_ACCEPTED c) := h6 _ (by decide)
  refine ⟨hb, ?_, ?_⟩
  · simp only [State.newBurst, State.gi, hd, ho, hn, hp, hw]
  · rw [State.trigObj, State.trigObj, hb, hi, ha]

/-- The state with other objects, records of channels and events. -/
def State.withTrig (s : State) (o : Sp Nat) (ch : Sp ChHid) (r : Sp Ev) : State := { s with od := o, chHid := ch, raised := r }

/-- After, nothing but objects, records of channels and events has changed. -/
def TrigOnly (s t : State) : Prop := ∃ o ch r, t = s.withTrig o ch r

theorem TrigOnly.refl (s : State) : TrigOnly s s := ⟨s.od, s.chHid, s.raised, rfl⟩

theorem TrigOnly.trans (h : TrigOnly s t) (h' : TrigOnly t w) : TrigOnly s w := by
  obtain ⟨o, ch, r, rfl⟩ := h
  obtain ⟨o', ch', r', rfl⟩ := h'
  exact ⟨o', ch', r', rfl⟩

theorem TrigOnly.p (h : TrigOnly s t) (j x : Nat) : TrigOnly s (t.p j x) := by
  obtain ⟨o, ch, r, rfl⟩ := h
  exact ⟨_, _, _, rfl⟩

theorem TrigOnly.inc (h : TrigOnly s t) (j : Nat) : TrigOnly s (t.inc j) := by
  rw [State.inc_eq]
  exact h.p j _

theorem TrigOnly.setCh (h : TrigOnly s t) (j : Nat) (x : ChHid) : TrigOnly s (t.setCh j x) := by
  obtain ⟨o, ch, r, rfl⟩ := h
  exact ⟨_, _, _, rfl⟩

theorem TrigOnly.raiseBits (h : TrigOnly s t) (a m : Nat) : TrigOnly s (t.raiseBits a m) := by
  rw [raiseBits_form]
  obtain ⟨o, ch, r, rfl⟩ := h
  exact ⟨o, ch, _, rfl⟩

/-- What the triggering of a list of channels leaves. -/
structure TrigDone (s : State) (u : Nat) (cs : List Nat) (t : State) : Prop where
  form : TrigOnly s t
  chan : ∀ c, t.ch c = if c ∈ cs ∧ s.bursting c u = false then { s.ch c with burst := some (s.newBurst c u) } else s.ch c
  mask : t.evMask 38 = s.evMask 38 ||| bitmap (cs.filter (fun c => s.bursting c u))
  ev : ∀ x, x ≠ 38 → t.ev x = s.ev x
  writes : Writes s t (cs.flatMap (s.trigObj u))

theorem TrigDone.refl (s : State) (u : Nat) : TrigDone s u [] s where
  form := TrigOnly.refl s
  chan c := by simp
  mask := (Nat.or_zero _).symm
  ev _ _ := rfl
  writes := Writes.refl s

theorem trigStep_bursting (h : s.bursting c u = true) : s.trigStep u c = (s.inc (K.TRIG_IGNORED c)).raiseBits 38 (2 ^ c) := by
  rw [State.trigStep, if_pos h]

theorem trigStep_free (h : s.bursting c u = false) : s.trigStep u c =
    ((s.inc (K.TRIG_ACCEPTED c)).p (K.TRIG_LAST c) (ofTime92 u)).setCh c { s.ch c with burst := some (s.newBurst c u) } := by
  rw [State.trigStep, if_neg (ne_true_of_eq_false h)]

theorem bitmap_append (l : List Nat) (x : Nat) : bitmap (l ++ [x]) = bitmap l ||| 2 ^ x := List.foldl_append

/-- One more channel in the bitmap of those that a condition picks. -/
theorem bitmap_filter_append (p : Nat → Bool) (l : List Nat) (x : Nat) :
    bitmap ((l ++ [x]).filter p) = bitmap (l.filter p) ||| if p x then 2 ^ x else 0 := by
  rw [List.filter_append]
  cases hx : p x
  · rw [List.filter_cons_of_neg (by rw [hx]; decide), List.filter_nil, List.append_nil]
    exact (Nat.or_zero _).symm
  · rw [List.filter_cons_of_pos hx, List.filter_nil, bitmap_append]
    rfl

theorem trigStep_form (s : State) (u c : Nat) : TrigOnly s (s.trigStep u c) := by
  cases hb : s.bursting c u
  · rw [trigStep_free hb]
    exact (((TrigOnly.refl s).inc _).p _ _).setCh _ _
  · rw [trigStep_bursting hb]
    exact ((TrigOnly.refl s).inc _).raiseBits _ _

theorem ch_inc (s : State) (k : Nat) : (s.inc k).ch = s.ch := by
  rw [State.inc_eq]
  exact ch_of_chHid rfl

theorem trigStep_chan (s : State) (u c j : Nat) :
    (s.trigStep u c).ch j = if j ∈ [c] ∧ s.bursting j u = false then { s.ch j with burst := some (s.newBurst j u) } else s.ch j := by
  simp only [List.mem_singleton]
  cases hb : s.bursting c u
  · rw [trigStep_free hb]
    by_cases hj : j = c
    · subst hj
      rw [State.ch_setCh_same, if_pos ⟨rfl, hb⟩]
    · rw [State.ch_setCh_other _ _ hj, if_neg (fun h => hj h.1), ch_of_chHid (State.p_chHid _ _ _), ch_inc]
  · have hf : ¬(j = c ∧ s.bursting j u = false) := by
      rintro ⟨rfl, hf⟩
      rw [hb] at hf
      cases hf
    rw [trigStep_bursting hb, if_neg hf, ch_of_chHid (State.raiseBits_chHid _ _ _), ch_inc]

theorem trigStep_writes (s : State) (u c : Nat) : Writes s (s.trigStep u c) (s.trigObj u c) := by
  intro j
  rw [State.trigObj]
  cases hb : s.bursting c u
  · rw [trigStep_free hb, State.g_setCh, State.inc_eq, State.g_p, State.g_p, if_neg Bool.false_ne_true]
    rfl
  · rw [trigStep_bursting hb, State.g_raiseBits, State.inc_eq, State.g_p, if_pos rfl]
    rfl

theorem ev_inc (s : State) (k : Nat) : (s.inc k).ev = s.ev := by
  rw [State.inc_eq]
  rfl

theorem ev_setCh (s : State) (c : Nat) (x : ChHid) : (s.setCh c x).ev = s.ev := rfl

/-- A channel triggered that has no burst yet raises nothing. -/
theorem trigStep_free_ev (h : s.bursting c u = false) (a : Nat) : (s.trigStep u c).ev a = s.ev a := by
  rw [trigStep_free h, ev_setCh, p_ev, ev_inc]

/-- One channel triggered. -/
theorem trigStep_done (s : State) (u c : Nat) : TrigDone s u [c] (s.trigStep u c) where
  form := trigStep_form s u c
  chan := trigStep_chan s u c
  writes := by
    rw [List.flatMap_singleton]
    exact trigStep_writes s u c
  mask := by
    rw [← List.nil_append [c], bitmap_filter_append]
    cases hb : s.bursting c u
    · rw [evMask_congr (trigStep_free_ev hb 38), if_neg Bool.false_ne_true, Nat.or_zero]
      exact (Nat.or_zero _).symm
    · rw [trigStep_bursting hb, evMask_raiseBits, evMask_congr (congrFun (ev_inc s _) 38), if_pos rfl]
      exact congrArg _ (Nat.zero_or _).symm
  ev x hx := by
    cases hb : s.bursting c u
    · exact trigStep_free_ev hb x
    · rw [trigStep_bursting hb, raiseBits_ev_other hx, ev_inc]

theorem flatMap_trigObj_index {cs : List Nat} {p : Nat × Nat} (h : p ∈ cs.flatMap (s.trigObj u)) :
    ∃ i ∈ cs, keyIndex p.1 = 0x5006 + 0x20 * i ∧ (keySub p.1 = 7 ∨ keySub p.1 = 8 ∨ keySub p.1 = 9) := by
  obtain ⟨i, hi, hp⟩ := List.mem_flatMap.1 h
  exact ⟨i, hi, trigObj_index hp⟩

/-- The objects of a channel that is not among those triggered are as they were. -/
theorem TrigDone.g_other {cs : List Nat} (h : TrigDone s u cs t) {j : Nat} (hj : ∀ i ∈ cs, keyIndex j ≠ 0x5006 + 0x20 * i) : t.g j = s.g j := by
  rw [h.writes j]
  refine after_of_not_mem (fun p hp e => ?_) s.g
  obtain ⟨i, hi, hp, -⟩ := flatMap_trigObj_index hp
  exact hj i hi (e ▸ hp)

/-- One channel more triggered. -/
theorem TrigDone.snoc {cs : List Nat} (h : TrigDone s u cs t) (hc : c ∉ cs) : TrigDone s u (cs ++ [c]) (t.trigStep u c) := by
  have hs := trigStep_done t u c
  have hch : t.ch c = s.ch c := by rw [h.chan c, if_neg (fun hf => hc hf.1)]
  obtain ⟨hb, hnew, hobj⟩ := trigStep_congr (u := u) hch (fun j hj => h.g_other fun i hi => by
    have : i ≠ c := fun e => hc (e ▸ hi)
    omega)
  refine ⟨h.form.trans hs.form, fun j => ?_, ?_, fun x hx => (hs.ev x hx).trans (h.ev x hx), ?_⟩
  · rw [hs.chan j]
    by_cases hj : j = c
    · subst hj
      rw [hch, hb, hnew]
      simp
    · rw [if_neg (fun hf => hj (List.mem_singleton.1 hf.1)), h.chan j]
      simp [hj]
  · rw [hs.mask, h.mask, Nat.or_assoc, bitmap_filter_append, ← List.nil_append [c], bitmap_filter_append, hb]
    exact congrArg _ (congrArg _ (Nat.zero_or _))
  · have hw := h.writes.trans hs.writes
    intro j
    rw [hw j, List.flatMap_append, List.flatMap_singleton, List.flatMap_singleton, hobj]
    refine congrFun (after_append_comm s.g fun x hx y hy e => ?_) j
    have hxi := (trigObj_index hx).1
    obtain ⟨i, hi, hyi, -⟩ := flatMap_trigObj_index hy
    rw [e] at hxi
    have : i ≠ c := fun e => hc (e ▸ hi)
    omega

/-- Channels triggered one after the other. -/
theorem trigAll_done (s : State) (u : Nat) {cs : List Nat} (hn : cs.Nodup) : TrigDone s u cs (s.trigAll u cs) := by
  induction cs using List.reverseRecOn with
  | nil => exact TrigDone.refl s u
  | append_singleton cs c ih =>
    have hd := List.nodup_append.1 hn
    have he : s.trigAll u (cs ++ [c]) = (s.trigAll u cs).trigStep u c := List.foldl_append
    rw [he]
    exact (ih hd.1).snoc fun hc => hd.2.2 c hc c (List.mem_singleton_self c) rfl

theorem triggered_nodup (s : State) (n : Nat) (l : Bool) : (s.triggered n l).Nodup := List.nodup_range.filter _

/-- What the triggering does is what the statements say of it. -/
theorem TrigDone.triggered (h : TrigDone s u (s.triggered n l) t) : Triggered s t n u l := by
  refine ⟨fun c _ => h.chan c, h.mask, fun x hx => h.ev x fun e => ?_⟩
  rw [e] at hx
  exact absurd hx (by decide)

end Sys2Proof.Machine
end

section
/-! SUPPORT. INPUT_EDGE: the pads that loop back to an input (R314), and an edge as a sample of its slot (R367 to R370). -/

namespace Sys2Proof.Machine

variable {s t w : State} {c n u : Nat} {l : Bool} {P : Nat → Prop}

/-! ## A place written twice -/

theorem Sp.ins_ins {α : Type} (m : Sp α) (k : Nat) (v x : α) : Sp.ins (Sp.ins m k v) k x = Sp.ins m k x := by
  induction m with
  | nil => simp [Sp.ins]
  | cons p m ih =>
    simp only [Sp.ins]
    split
    · simp [Sp.ins]
    · split
      · simp [Sp.ins]
      · next h1 h2 => simp [Sp.ins, h1, h2, ih]

theorem Sp.del_ins {α : Type} (m : Sp α) (k : Nat) (v : α) : Sp.del (Sp.ins m k v) k = Sp.del m k := by
  induction m with
  | nil => simp [Sp.ins, Sp.del]
  | cons p m ih =>
    simp only [Sp.ins]
    split
    · simp [Sp.del]
    · split
      · next h => simp [Sp.del, h]
      · next h => simp [Sp.del, h, ih]

/-- Of two writes of a place the last stands, if the first has put an entry there. -/
theorem Sp.set_set {α : Type} [DecidableEq α] {d : Nat → α} (m : Sp α) {k : Nat} {v : α} (x : α) (h : v ≠ d k) :
    Sp.set d (Sp.set d m k v) k x = Sp.set d m k x := by
  have hv : Sp.set d m k v = Sp.ins m k v := if_neg h
  rw [hv, Sp.set, Sp.set, Sp.del_ins, Sp.ins_ins]

theorem setInp_setInp {h : InHid} (x : InHid) (hl : h.level = true) : (s.setInp n h).setInp n x = s.setInp n x := by
  have hne : h ≠ {} := fun e => by rw [e] at hl; cases hl
  have hs := Sp.set_set (d := fun _ => ({} : InHid)) s.inHid (k := n) x hne
  rw [State.setInp, State.setInp, State.setInp]
  exact congrArg (fun i => ({ s with inHid := i } : State)) hs

/-! ## Pads that loop back (R314) -/

/-- The state with other records of pads. -/
def State.withPads (s : State) (ph : Sp PadHid) : State := { s with padHid := ph }

/-- A returned edge counted for one pad. -/
def State.countBack (s : State) (rising : Bool) (c : Nat) : State :=
  s.setPad c { s.pad c with back := runOn (s.pad c).back (rising == ((s.g (K.PAD_LEVEL c) == 1) == s.inverted c)) }

theorem countBack_looped (h : LoopedBack s t n) (hc : s.g (K.PAD_LOOP_REF c) = n) : LoopedBack s (t.countBack l c) n := by
  intro j hj
  by_cases hjc : j = c
  · subst hjc
    rw [State.countBack, State.pad_setPad_same]
    refine ⟨?_, fun hn => absurd hc hn⟩
    rw [(h j hj).1]
  · rw [State.countBack, State.pad_setPad_other _ _ hjc]
    exact h j hj

/-- What the returned edges of an input leave: counts of the pads that name it. -/
theorem eachBack_looped (s : State) (l : Bool) (cs : List Nat) (hcs : ∀ c ∈ cs, s.g (K.PAD_LOOP_REF c) = n) :
    LoopedBack s (s.each cs (fun s c => s.countBack l c)) n ∧ ∃ ph, s.each cs (fun s c => s.countBack l c) = s.withPads ph := by
  induction cs using List.reverseRecOn with
  | nil => exact ⟨fun _ _ => ⟨rfl, fun _ => rfl⟩, s.padHid, rfl⟩
  | append_singleton cs c ih =>
    obtain ⟨hl, ph, hf⟩ := ih fun c hc => hcs c (List.mem_append_left _ hc)
    have he : s.each (cs ++ [c]) (fun s c => s.countBack l c) = (s.each cs (fun s c => s.countBack l c)).countBack l c := List.foldl_append
    rw [he]
    refine ⟨countBack_looped hl (hcs c (List.mem_append_right _ (List.mem_singleton_self c))), ?_⟩
    rw [hf]
    exact ⟨_, rfl⟩

theorem returned_looped (s : State) (n : Nat) (l : Bool) : LoopedBack s (s.returned n l) n ∧ ∃ ph, s.returned n l = s.withPads ph := by
  refine eachBack_looped s l _ fun c hc => ?_
  have hp := (List.mem_filter.1 hc).2
  simp only [Bool.and_eq_true, beq_iff_eq] at hp
  exact hp.1.1.1

/-! ## A sample of a slot (R367 to R370) -/

/-- An update keeps the objects of a kind, and what of the state edges and samples never touch beside objects. -/
structure Still (P : Nat → Prop) (s t : State) : Prop where
  g : ∀ j, P j → t.g j = s.g j
  tick : t.tick = s.tick
  vmem : t.vmem = s.vmem
  slotBytes : t.slotBytes = s.slotBytes
  nvm : t.nvm = s.nvm
  clock : t.clock = s.clock
  host : t.host = s.host

theorem Still.refl (P : Nat → Prop) (s : State) : Still P s s := ⟨fun _ _ => rfl, rfl, rfl, rfl, rfl, rfl, rfl⟩

theorem Still.trans (h : Still P s t) (h' : Still P t w) : Still P s w :=
  ⟨fun j hj => (h'.g j hj).trans (h.g j hj), h'.tick.trans h.tick, h'.vmem.trans h.vmem, h'.slotBytes.trans h.slotBytes,
    h'.nvm.trans h.nvm, h'.clock.trans h.clock, h'.host.trans h.host⟩

theorem Still.p {j : Nat} (h : Still P s t) (hj : ¬P j) (x : Nat) : Still P s (t.p j x) :=
  { h with g := fun i hi => (State.g_p_other t x (fun e => hj (e.subst (motive := P) hi))).trans (h.g i hi) }

theorem Still.raiseBits (h : Still P s t) (a m : Nat) : Still P s (t.raiseBits a m) := by
  rw [raiseBits_form]
  exact { h with }

/-- No object of a slot and not the servo's error. -/
def offSlots (j : Nat) : Prop := keyIndex j < 0x3000 ∨ keyIndex j % 64 ≠ 0

/-- What a sample of a slot keeps. -/
structure Sampled (s t : State) : Prop extends Still offSlots s t where
  inHid : t.inHid = s.inHid
  coreHid : t.coreHid = s.coreHid
  sqHid : t.sqHid = s.sqHid
  padHid : t.padHid = s.padHid

namespace Sampled

theorem refl (s : State) : Sampled s s := ⟨Still.refl _ s, rfl, rfl, rfl, rfl⟩

theorem p_slot (h : Sampled s t) (sub x : Nat) (hs : sub < 256) : Sampled s (t.p (key (0x3000 + 0x40 * n) sub 0) x) :=
  { h with
    toStill := h.toStill.p (fun hj => by
      rw [offSlots, keyIndex_key _ 0 hs (by decide)] at hj
      omega) x }

theorem inc_slot (h : Sampled s t) (sub : Nat) (hs : sub < 256) : Sampled s (t.inc (key (0x3000 + 0x40 * n) sub 0)) := h.p_slot sub _ hs

theorem setSlot (h : Sampled s t) (x : SlotHid) : Sampled s (t.setSlot n x) := { h with }

theorem raiseBits (h : Sampled s t) (a m : Nat) : Sampled s (t.raiseBits a m) := by
  have hs := h.toStill.raiseBits a m
  rw [raiseBits_form] at hs ⊢
  exact { h with toStill := hs }

theorem est (h : Sampled s t) (a : Int) (b : Nat) : Sampled s (t.est a b).2 := by
  unfold State.est
  split
  · exact h
  · exact { h with }

theorem predicted (h : Sampled s t) (a : Int) : Sampled s (t.predicted n a).2 := by
  unfold State.predicted
  split
  · exact h.est _ _
  · exact h

theorem fitSlot (h : Sampled s t) : Sampled s (t.fitSlot n) := by
  unfold State.fitSlot
  dsimp only
  split
  · exact h.p_slot _ _ (by decide)
  · exact ((h.est _ _).p_slot _ _ (by decide)).p_slot _ _ (by decide)

theorem servoSample (h : Sampled s t) (ph : Int) : Sampled s (t.servoSample n ph) := by
  have hp : ∀ x, Still offSlots s (t.p K.HS_SERVO_ERR x) := h.toStill.p (by
    rw [offSlots, K.HS_SERVO_ERR, keyIndex_key _ 0 (by decide) (by decide)]
    omega)
  unfold State.servoSample
  split
  · have hs := hp (ofI64 (satI64 (ph - t.target)))
    exact { hs with inHid := h.inHid, coreHid := h.coreHid, sqHid := h.sqHid, padHid := h.padHid }
  · exact h

theorem takeSample (h : Sampled s t) (a ph : Int) : Sampled s (t.takeSample n a ph) := by
  have hp := h.predicted (n := n) a
  unfold State.takeSample
  dsimp only
  split
  · exact ((((((hp.p_slot _ _ (by decide)).raiseBits 9 _).setSlot _).setSlot _).p_slot _ _ (by decide)).inc_slot _ (by decide)).fitSlot.servoSample ph
  · exact ((((hp.setSlot _).setSlot _).p_slot _ _ (by decide)).inc_slot _ (by decide)).fitSlot.servoSample ph

theorem keepEdge (h : Sampled s t) (a sec : Int) (b : Bool) : Sampled s (t.keepEdge n a sec b) :=
  ((h.inc_slot _ (by decide)).p_slot _ _ (by decide)).setSlot _

theorem ppsAccepts (h : Sampled s t) (a : Int) : Sampled s (t.ppsAccepts n a).2 := by
  unfold State.ppsAccepts
  dsimp only
  split
  · exact h.predicted a
  · exact h

theorem gridPhase (h : Sampled s t) (a : Int) : Sampled s (t.gridPhase n a).2 := by
  unfold State.gridPhase
  dsimp only
  split
  · exact (h.est _ _).setSlot _
  · exact h.est _ _

theorem slotEdge (h : Sampled s t) (a : Nat) : Sampled s (t.slotEdge n a) := by
  unfold State.slotEdge
  dsimp only
  split
  · exact h
  · split
    · split
      · exact ((h.ppsAccepts a).keepEdge _ _ _).takeSample _ _
      · exact h.ppsAccepts a
    · split
      · exact ((h.gridPhase a).keepEdge _ _ _).takeSample _ _
      · exact h

end Sampled

/-- An input with no slot type that takes samples gives none. -/
theorem slotEdge_none (h : s.slotType n = 0 ∨ 4 < s.slotType n) : s.slotEdge n u = s := by
  have h1 : ¬s.slotType n = 1 := by omega
  have h4 : ¬(s.slotType n = 2 ∨ s.slotType n = 3 ∨ s.slotType n = 4) := by omega
  rw [State.slotEdge]
  dsimp only
  rw [if_neg h1, if_neg h4, ite_self]

end Sys2Proof.Machine
end

section
/-! SUPPORT. INPUT_EDGE: an edge of an input taken, dropped, or counted by the prescaler (R79, R149, R320, R365). -/

namespace Sys2Proof.Machine

variable {s t w : State} {c f n u : Nat} {l raw : Bool}

/-! ## One edge after polarity and prescaler -/

/-- What an input holds once an edge is timestamped. -/
def InHid.taken (h : InHid) (u : Nat) (l : Bool) : InHid :=
  if l then { h with lastRise := some u, level := true, history := (u, true) :: h.history }
  else { h with lastFall := some u, level := false, history := (u, false) :: h.history }

/-- An edge recorded and counted in its input. -/
def State.edgeIn (s : State) (n : Nat) (x : InHid) : State := (s.setInp n x).inc (K.IN_EDGES n)

/-- An edge of an input comes at least 524,288 q after the last of its direction (R149). -/
def State.apart (s : State) (n u : Nat) (l : Bool) : Prop :=
  (if l then (s.inp n).lastRise else (s.inp n).lastFall).any (fun z => u < z + 524288) = false

theorem timestamp_dropped (h : ¬s.apart n u l) :
    s.timestamp n u l = (s.inc (K.IN_DROPPED n)).setInp n { s.inp n with level := l, drops := u :: (s.inp n).drops } :=
  if_pos (Bool.eq_true_of_not_eq_false h)

theorem timestamp_taken (h : s.apart n u l) :
    s.timestamp n u l = if l then ((s.edgeIn n ((s.inp n).taken u l)).trigger n u l).slotEdge n u
      else (s.edgeIn n ((s.inp n).taken u l)).trigger n u l := by
  rw [State.timestamp]
  refine (if_neg (ne_true_of_eq_false h)).trans ?_
  cases l <;> rfl

theorem inEdges_index (n : Nat) : keyIndex (K.IN_EDGES n) = 0x3030 + 0x40 * n := keyIndex_key _ 0 (by decide) (by decide)

theorem edgeIn_writes (s : State) (n : Nat) (x : InHid) : Writes s (s.edgeIn n x) [(K.IN_EDGES n, s.g (K.IN_EDGES n) + 1)] := by
  intro j
  rw [State.edgeIn, State.inc_eq, State.g_p, State.g_setInp, State.g_setInp]
  rfl

theorem edgeIn_g (s : State) (x : InHid) {j : Nat} (h : keyIndex j ≠ 0x3030 + 0x40 * n) : (s.edgeIn n x).g j = s.g j := by
  rw [edgeIn_writes s n x j]
  refine after_of_not_mem (fun p hp e => h ?_) s.g
  rw [← e, List.mem_singleton.1 hp]
  exact inEdges_index n

/-- The state with other inputs and objects. -/
def State.withInputs (s : State) (o : Sp Nat) (i : Sp InHid) : State := { s with od := o, inHid := i }

theorem edgeIn_form (s : State) (n : Nat) (x : InHid) : ∃ o, s.edgeIn n x = s.withInputs o (s.setInp n x).inHid := by
  rw [State.edgeIn, State.inc_eq]
  exact ⟨_, rfl⟩

/-! ## What an edge triggers -/

/-- The channels that an edge triggers follow from the objects of channels. -/
theorem triggered_congr (hg : ∀ j, 0x5000 ≤ keyIndex j → t.g j = s.g j) : t.triggered n l = s.triggered n l := by
  have hk : ∀ i sub, sub < 256 → 0x5000 ≤ i → t.g (key i sub 0) = s.g (key i sub 0) := fun i sub hs hi =>
    hg _ (by rw [keyIndex_key _ 0 hs (by decide)]; exact hi)
  refine List.filter_congr fun c _ => ?_
  have hsrc : t.g (K.CH_SOURCE c) = s.g (K.CH_SOURCE c) := hk _ _ (by decide) (by omega)
  have hin : t.g (K.TRIG_INPUT c) = s.g (K.TRIG_INPUT c) := hk _ _ (by decide) (by omega)
  have hed : t.g (K.TRIG_EDGE c) = s.g (K.TRIG_EDGE c) := hk _ _ (by decide) (by omega)
  rw [State.src, State.src, hsrc, hin, hed]

/-- The bursts of a state start as those of another with the same channels. -/
theorem TrigDone.of_start (h : TrigDone w u (w.triggered n l) t) (hch : w.ch = s.ch) (hev : w.ev = s.ev)
    (hg : ∀ j, 0x5000 ≤ keyIndex j → w.g j = s.g j) : Triggered s t n u l ∧ Writes w t (s.triggerObj n u l) := by
  have htr : w.triggered n l = s.triggered n l := triggered_congr hg
  have hc : ∀ c, w.bursting c u = s.bursting c u ∧ w.newBurst c u = s.newBurst c u ∧ w.trigObj u c = s.trigObj u c := fun c =>
    trigStep_congr (congrFun hch c) fun j hj => hg j (by omega)
  have hb : (fun c => w.bursting c u) = fun c => s.bursting c u := funext fun c => (hc c).1
  obtain ⟨hchan, hmask, hevs⟩ := h.triggered
  refine ⟨⟨fun c hcm => ?_, ?_, fun x hx => (hevs x hx).trans (congrFun hev x)⟩, ?_⟩
  · rw [h.chan c, htr, (hc c).1, (hc c).2.1, hch]
    rfl
  · rw [hmask, htr, hb, evMask_congr (congrFun hev 38)]
  · have hw := h.writes
    have ho : w.trigObj u = s.trigObj u := funext fun c => (hc c).2.2
    rw [htr, ho] at hw
    exact hw

/-- An edge recorded starts the bursts of its channels. -/
theorem edgeIn_trigger {x : InHid} (h2 : 2 ≤ s.mode) (h10 : s.mode ≠ 10) (hn : n < 16) :
    Triggered s ((s.edgeIn n x).trigger n u l) n u l ∧
      Writes s ((s.edgeIn n x).trigger n u l) ((K.IN_EDGES n, s.g (K.IN_EDGES n) + 1) :: s.triggerObj n u l) ∧
      TrigOnly (s.edgeIn n x) ((s.edgeIn n x).trigger n u l) := by
  have hg : ∀ j, 0x5000 ≤ keyIndex j → (s.edgeIn n x).g j = s.g j := fun j hj => edgeIn_g s x (by omega)
  have hmode : (s.edgeIn n x).mode = s.mode := edgeIn_g s x (by
    rw [K.MODE, keyIndex_key _ 0 (by decide) (by decide)]; omega)
  obtain ⟨o, hf⟩ := edgeIn_form s n x
  have hch : (s.edgeIn n x).ch = s.ch := by rw [hf]; exact ch_of_chHid rfl
  have hev : (s.edgeIn n x).ev = s.ev := by rw [hf]; rfl
  rw [trigger_eq _ n u l (hmode ▸ h2) (hmode ▸ h10)]
  have hd := trigAll_done (s.edgeIn n x) u (triggered_nodup (s.edgeIn n x) n l)
  obtain ⟨ht, hw⟩ := hd.of_start hch hev hg
  refine ⟨ht, fun j => ?_, hd.form⟩
  rw [(edgeIn_writes s n x).trans hw j]
  refine congrFun (after_append_comm s.g (m := [_]) fun x hx y hy e => ?_) j
  rw [triggerObj_eq] at hx
  obtain ⟨i, -, hi, -⟩ := flatMap_trigObj_index hx
  rw [e, List.mem_singleton.1 hy, inEdges_index] at hi
  omega

/-- What an edge triggers is no object but those of triggers, and no input. -/
theorem trigger_only (s : State) (n u : Nat) (l : Bool) (h2 : 2 ≤ s.mode) :
    TrigOnly s (s.trigger n u l) ∧ ∀ j, (∀ i, keyIndex j ≠ 0x5006 + 0x20 * i) → (s.trigger n u l).g j = s.g j := by
  by_cases h10 : s.mode = 10
  · rw [trigger_safe s n u l h10]
    exact ⟨TrigOnly.refl s, fun _ _ => rfl⟩
  · rw [trigger_eq s n u l h2 h10]
    have hd := trigAll_done s u (triggered_nodup s n l)
    exact ⟨hd.form, fun j hj => hd.g_other fun i _ => hj i⟩

/-- An edge recorded, with what it triggers, and offered to its slot. -/
def State.sampledEdge (s : State) (n : Nat) (x : InHid) (u : Nat) (l : Bool) : State := ((s.edgeIn n x).trigger n u l).slotEdge n u

section Slot
variable {x : InHid} (h2 : 2 ≤ s.mode)
include h2

theorem edgeIn_mode : 2 ≤ (s.edgeIn n x).mode := by
  rw [State.mode, edgeIn_g _ _ (by rw [K.MODE, keyIndex_key _ 0 (by decide) (by decide)]; omega)]
  exact h2

theorem sampledEdge_g {j : Nat} (hi : keyIndex j ≠ 0x3030 + 0x40 * n) (hc : ∀ i, keyIndex j ≠ 0x5006 + 0x20 * i) (ho : offSlots j) :
    (s.sampledEdge n x u l).g j = s.g j :=
  ((Sampled.refl _).slotEdge u).g j ho |>.trans (((trigger_only _ n u l (edgeIn_mode h2)).2 j hc).trans (edgeIn_g s x hi))

theorem sampledEdge_edges : (s.sampledEdge n x u l).g (K.IN_EDGES n) = s.g (K.IN_EDGES n) + 1 := by
  have hi := inEdges_index n
  rw [State.sampledEdge, ((Sampled.refl _).slotEdge u).g _ (by rw [offSlots]; omega),
    (trigger_only _ n u l (edgeIn_mode h2)).2 _ (fun i => by omega), edgeIn_writes]
  exact if_pos rfl

/-- The slot leaves the inputs, the queues, the sequencers and the pads as the edge and its triggers have left them. -/
theorem sampledEdge_sampled : ∃ v : State, Sampled v (s.sampledEdge n x u l) ∧
    ∃ o ch r, v = (s.withInputs o (s.setInp n x).inHid).withTrig o ch r := by
  obtain ⟨o, ho⟩ := edgeIn_form s n x
  obtain ⟨o', ch, r, hf⟩ := (trigger_only (s.edgeIn n x) n u l (edgeIn_mode h2)).1
  refine ⟨_, (Sampled.refl _).slotEdge u, o', ch, r, ?_⟩
  rw [hf, ho]
  rfl

end Slot

/-- The inputs, with one of them written. -/
theorem inp_of_inHid {x : InHid} (h : t.inHid = (s.setInp n x).inHid) : t.inp n = x ∧ ButAt t.inp s.inp n := by
  have he : t.inp = (s.setInp n x).inp := by
    funext j
    rw [State.inp, State.inp, h]
  rw [he]
  exact ⟨State.inp_setInp_same _ _ _, fun j hj => State.inp_setInp_other s _ hj⟩

/-! ## The command -/

theorem exec_inputEdge (s : State) (n f : Nat) (raw : Bool) : exec (.inputEdge n f raw) s =
    run (fun s => if n < 16 ∧ 2 ≤ s.mode then (s.inputEdge n (s.stamp f) raw).returned n raw else s) s := rfl

theorem gives_inputEdge_idle (h : s.mode = 1 ∨ 16 ≤ n) (hm : s.mode ≠ 0) : Gives (.inputEdge n f raw) s (fun t => t = { s with out := [] }) := by
  refine gives_noOut hm (exec_inputEdge s n f raw) ?_
  have hno : ¬(n < 16 ∧ 2 ≤ s.noOut.mode) := fun hc => h.elim (fun h1 => by have : 2 ≤ s.mode := hc.2; omega) (fun hn => by omega)
  dsimp only
  rw [if_neg hno]
  rfl

section Command
variable (h2 : 2 ≤ s.mode) (hn : n < 16)
include h2 hn

/-- After the edge itself, its return is counted by the pads that name the input. -/
theorem gives_inputEdge {P : State → Prop} (hw : s.noOut.inputEdge n (s.stamp f) raw = w) (hpad : w.padHid = s.padHid)
    (hg : ∀ c, w.g (K.PAD_LOOP_REF c) = s.g (K.PAD_LOOP_REF c))
    (h : ∀ ph, LoopedBack s (w.withPads ph) n → P { w.withPads ph with pending := s.pending }) : Gives (.inputEdge n f raw) s P := by
  refine gives_noOut (by omega) (exec_inputEdge s n f raw) ?_
  have hok : n < 16 ∧ 2 ≤ s.noOut.mode := ⟨hn, h2⟩
  have hst : s.noOut.stamp f = s.stamp f := rfl
  dsimp only
  rw [if_pos hok, hst, hw]
  obtain ⟨hl, ph, hf⟩ := returned_looped w n raw
  rw [hf] at hl ⊢
  refine h ph fun c hc => ?_
  have hp : w.pad c = s.pad c := by rw [State.pad, State.pad, hpad]
  rw [← hp, ← hg c]
  exact hl c hc

/-- An edge of an input that is off is not seen. -/
theorem gives_input_off (hf : s.g (K.IN_FMT n) = 0) :
    Gives (.inputEdge n f raw) s (fun t => LoopedBack s t n ∧ t = { s with out := [], padHid := t.padHid }) :=
  gives_inputEdge h2 hn (w := s.noOut) (if_pos hf) rfl (fun _ => rfl) fun _ hl => ⟨hl, rfl⟩

variable (hf : s.g (K.IN_FMT n) ≠ 0)
include hf

/-- An edge that the prescaler counts and does not pass on. -/
theorem gives_input_counted (hd : 1 < s.division n) (hp : ((s.inp n).presc + 1) % s.division n ≠ 0) :
    Gives (.inputEdge n f raw) s (fun t => LoopedBack s t n ∧
      t = { s.setInp n { s.inp n with presc := ((s.inp n).presc + 1) % s.division n } with out := [], padHid := t.padHid }) := by
  refine gives_inputEdge h2 hn (w := s.noOut.setInp n { s.inp n with presc := ((s.inp n).presc + 1) % s.division n })
    ?_ rfl (fun _ => rfl) fun _ hl => ⟨hl, rfl⟩
  have h1 : ¬s.noOut.division n = 1 := Nat.ne_of_gt hd
  rw [State.inputEdge]
  exact (if_neg hf).trans ((if_neg h1).trans (if_neg hp))

omit h2 hn in
theorem inputEdge_plain (hd : s.division n = 1) (hl : (raw != s.inInvert n) = l) : s.noOut.inputEdge n u raw = s.noOut.timestamp n u l := by
  rw [State.inputEdge, ← hl]
  exact (if_neg hf).trans (if_pos hd)

omit h2 hn in
/-- The prescaler passes each division-th edge on, as one edge of a square wave. -/
theorem inputEdge_passed (hd : 1 < s.division n) (hp : ((s.inp n).presc + 1) % s.division n = 0) (hl : (!(s.inp n).level) = l) :
    s.noOut.inputEdge n u raw = (s.noOut.setInp n { s.inp n with presc := 0 }).timestamp n u l := by
  have h1 : ¬s.noOut.division n = 1 := Nat.ne_of_gt hd
  have hz : (s.noOut.setInp n { s.inp n with presc := ((s.inp n).presc + 1) % s.division n }).timestamp n u l =
      (s.noOut.setInp n { s.inp n with presc := 0 }).timestamp n u l :=
    congrArg (fun z => (s.noOut.setInp n { s.inp n with presc := z }).timestamp n u l) hp
  rw [← hz, State.inputEdge, ← hl]
  exact (if_neg hf).trans ((if_neg h1).trans (if_pos hp))

/-- An edge under the rate limit is dropped. -/
theorem gives_input_dropped (hd : s.division n = 1) (hu : s.stamp f = u) (hl : (raw != s.inInvert n) = l) (ha : ¬s.apart n u l) :
    Gives (.inputEdge n f raw) s (fun t => Writes s t [(K.IN_DROPPED n, s.g (K.IN_DROPPED n) + 1)] ∧ LoopedBack s t n ∧
      t = { s.setInp n { s.inp n with level := l, drops := u :: (s.inp n).drops } with od := t.od, out := [], padHid := t.padHid }) := by
  subst hu
  have hw := (inputEdge_plain (u := s.stamp f) hf hd hl).trans (timestamp_dropped (s := s.noOut) ha)
  rw [State.inc_eq] at hw
  refine gives_inputEdge h2 hn hw rfl (fun c => ?_) fun ph hlb => ⟨?_, hlb, rfl⟩
  · have hne : K.PAD_LOOP_REF c ≠ K.IN_DROPPED n := by rw [K.PAD_LOOP_REF, K.IN_DROPPED, Ne, key_inj] <;> omega
    exact (State.g_setInp _ _ _ _).trans (State.g_p_other _ _ hne)
  · exact (Writes.refl s).p (K.IN_DROPPED n) _

omit hf in
/-- An edge taken that no slot samples, recorded in its input as `x`. -/
theorem gives_input_taken {x : InHid} (h10 : s.mode ≠ 10) (hw : s.noOut.inputEdge n (s.stamp f) raw = (s.noOut.edgeIn n x).trigger n u l) :
    Gives (.inputEdge n f raw) s (fun t => Writes s t ((K.IN_EDGES n, s.g (K.IN_EDGES n) + 1) :: s.triggerObj n u l) ∧
      Triggered s t n u l ∧ LoopedBack s t n ∧
      t = { s.setInp n x with od := t.od, out := [], chHid := t.chHid, padHid := t.padHid, raised := t.raised }) := by
  obtain ⟨ht, hwr, hform⟩ := edgeIn_trigger (s := s.noOut) (u := u) (l := l) (x := x) h2 h10 hn
  obtain ⟨o, ho⟩ := edgeIn_form s.noOut n x
  obtain ⟨o', ch, r, hf'⟩ := hform
  rw [ho] at hf' hw hwr ht
  rw [hf'] at hw hwr ht
  refine gives_inputEdge h2 hn hw rfl (fun c => ?_) fun ph hlb => ⟨hwr, ht, hlb, rfl⟩
  rw [hwr]
  refine after_of_not_mem (fun p hp e => ?_) s.g
  have hi : keyIndex p.1 = 0x5010 + 0x20 * c := by rw [e]; exact keyIndex_key _ 0 (by decide) (by decide)
  rcases List.mem_cons.1 hp with rfl | hp
  · rw [inEdges_index] at hi
    omega
  · rw [triggerObj_eq] at hp
    obtain ⟨i, -, hp, -⟩ := flatMap_trigObj_index hp
    omega

/-- An edge of an input that no prescaler divides, taken. -/
theorem gives_input_plain (h10 : s.mode ≠ 10) (hd : s.division n = 1) (hu : s.stamp f = u) (hl : (raw != s.inInvert n) = l)
    (ha : s.apart n u l) (hslot : l = true → s.slotType n = 0 ∨ 4 < s.slotType n) :
    Gives (.inputEdge n f raw) s (fun t => Writes s t ((K.IN_EDGES n, s.g (K.IN_EDGES n) + 1) :: s.triggerObj n u l) ∧
      Triggered s t n u l ∧ LoopedBack s t n ∧
      t = { s.setInp n ((s.inp n).taken u l) with od := t.od, out := [], chHid := t.chHid, padHid := t.padHid, raised := t.raised }) := by
  subst hu
  refine gives_input_taken h2 hn h10 ?_
  rw [inputEdge_plain hf hd hl, timestamp_taken (s := s.noOut) ha]
  cases l with
  | false => exact if_neg Bool.false_ne_true
  | true =>
    have hty : ((s.noOut.edgeIn n ((s.noOut.inp n).taken (s.stamp f) true)).trigger n (s.stamp f) true).slotType n = s.slotType n := by
      obtain ⟨-, hwr, -⟩ := edgeIn_trigger (s := s.noOut) (u := s.stamp f) (l := true) (x := (s.noOut.inp n).taken (s.stamp f) true) h2 h10 hn
      rw [State.slotType, hwr]
      refine after_of_not_mem (fun p hp e => ?_) s.g
      have hi : keyIndex p.1 = 0x3000 + 0x40 * n := by rw [e]; exact keyIndex_key _ 0 (by decide) (by decide)
      rcases List.mem_cons.1 hp with rfl | hp
      · rw [inEdges_index] at hi
        omega
      · rw [triggerObj_eq] at hp
        obtain ⟨i, -, hp, -⟩ := flatMap_trigObj_index hp
        omega
    exact (if_pos rfl).trans (slotEdge_none (hty.symm ▸ hslot rfl))

/-- An edge that the prescaler passes on, falling. -/
theorem gives_input_passed (h10 : s.mode ≠ 10) (hd : 1 < s.division n) (hu : s.stamp f = u)
    (hp : ((s.inp n).presc + 1) % s.division n = 0) (hl : (s.inp n).level = true) (ha : s.apart n u false) :
    Gives (.inputEdge n f raw) s (fun t => Writes s t ((K.IN_EDGES n, s.g (K.IN_EDGES n) + 1) :: s.triggerObj n u false) ∧
      Triggered s t n u false ∧ LoopedBack s t n ∧
      t = { s.setInp n (({ s.inp n with presc := 0 } : InHid).taken u false) with
        od := t.od, out := [], chHid := t.chHid, padHid := t.padHid, raised := t.raised }) := by
  subst hu
  refine gives_input_taken h2 hn h10 ?_
  have hinp : (s.noOut.setInp n { s.inp n with presc := 0 }).inp n = { s.inp n with presc := 0 } := State.inp_setInp_same _ _ _
  have ha' : (s.noOut.setInp n { s.inp n with presc := 0 }).apart n (s.stamp f) false := by
    rw [State.apart, hinp]
    exact ha
  have hset := setInp_setInp (s := s.noOut) (n := n) (h := { s.inp n with presc := 0 })
    (({ s.inp n with presc := 0 } : InHid).taken (s.stamp f) false) hl
  rw [inputEdge_passed hf hd hp (l := false) (by rw [hl]; rfl), timestamp_taken ha', if_neg Bool.false_ne_true, hinp, State.edgeIn, State.edgeIn, hset]

omit hf in
/-- An edge recorded in its input, whatever its slot does with it. -/
theorem gives_input_sampled {x : InHid} {v : State} {o : Sp Nat} {ch : Sp ChHid} {r : Sp Ev}
    (hw : s.noOut.inputEdge n (s.stamp f) raw = w)
    (hg : ∀ j, keyIndex j ≠ 0x3030 + 0x40 * n → (∀ i, keyIndex j ≠ 0x5006 + 0x20 * i) → offSlots j → w.g j = s.g j)
    (he : w.g (K.IN_EDGES n) = s.g (K.IN_EDGES n) + 1) (hs : Sampled v w)
    (hv : v = (s.noOut.withInputs o (s.setInp n x).inHid).withTrig o ch r) :
    Gives (.inputEdge n f raw) s (fun t => t.g (K.IN_EDGES n) = s.g (K.IN_EDGES n) + 1 ∧ t.inp n = x ∧ ButAt t.inp s.inp n ∧
      LoopedBack s t n ∧ t.mode = s.mode ∧ t.tick = s.tick ∧ t.vmem = s.vmem ∧ t.slotBytes = s.slotBytes ∧ t.nvm = s.nvm ∧
      t.clock = s.clock ∧ t.host = s.host ∧ t.coreHid = s.coreHid ∧ t.sqHid = s.sqHid) := by
  have hmode : keyIndex K.MODE = 0x2000 := keyIndex_key _ 0 (by decide) (by decide)
  subst hv
  refine gives_inputEdge h2 hn hw hs.padHid (fun c => ?_) fun ph hlb => ?_
  · have hc : keyIndex (K.PAD_LOOP_REF c) = 0x5010 + 0x20 * c := keyIndex_key _ 0 (by decide) (by decide)
    exact hg _ (by omega) (fun i => by omega) (by rw [offSlots]; omega)
  · obtain ⟨hin, hbut⟩ := inp_of_inHid (s := s) (n := n) (x := x) hs.inHid
    exact ⟨he, hin, hbut, hlb, hg K.MODE (by omega) (fun i => by omega) (by rw [offSlots]; omega), hs.tick, hs.vmem, hs.slotBytes,
      hs.nvm, hs.clock, hs.host, hs.coreHid, hs.sqHid⟩

/-- A rising edge of an input that no prescaler divides. -/
theorem gives_input_rising (hd : s.division n = 1) (hu : s.stamp f = u) (hl : (raw != s.inInvert n) = true) (ha : s.apart n u true) :
    Gives (.inputEdge n f raw) s (fun t => t.g (K.IN_EDGES n) = s.g (K.IN_EDGES n) + 1 ∧ t.inp n = (s.inp n).taken u true ∧
      ButAt t.inp s.inp n ∧ LoopedBack s t n ∧ t.mode = s.mode ∧ t.tick = s.tick ∧ t.vmem = s.vmem ∧ t.slotBytes = s.slotBytes ∧
      t.nvm = s.nvm ∧ t.clock = s.clock ∧ t.host = s.host ∧ t.coreHid = s.coreHid ∧ t.sqHid = s.sqHid) := by
  subst hu
  have hw : s.noOut.inputEdge n (s.stamp f) raw = s.noOut.sampledEdge n ((s.inp n).taken (s.stamp f) true) (s.stamp f) true := by
    have hinp : s.noOut.inp n = s.inp n := rfl
    rw [inputEdge_plain hf hd hl, timestamp_taken (s := s.noOut) ha, if_pos rfl, hinp, State.sampledEdge]
  obtain ⟨v, hs, o, ch, r, hv⟩ := sampledEdge_sampled (s := s.noOut) (n := n) (x := (s.inp n).taken (s.stamp f) true) (u := s.stamp f) (l := true) h2
  exact gives_input_sampled h2 hn hw (fun j => sampledEdge_g (s := s.noOut) h2 (j := j)) (sampledEdge_edges (s := s.noOut) h2) hs hv

end Command

end Sys2Proof.Machine
end

section
/-! SUPPORT. PLACEMENT_PASS: what every pass keeps, and the edges it places (R20, R85, R104). -/

namespace Sys2Proof.Machine

variable {s t u : State} {c k q : Nat}

/-! ## What a pass keeps -/

/-- Objects that no pass writes: those below the channels, and the levels of pads. -/
def placeKept (j : Nat) : Prop := keyIndex j < 0x5000 ∨ (keySub j = 0xc ∧ keyIndex j % 32 = 16)

theorem not_placeKept {i sub : Nat} (hs : sub < 256) (hi : 0x5000 ≤ i) (h : sub ≠ 0xc ∨ i % 32 ≠ 16) : ¬placeKept (key i sub 0) := by
  rw [placeKept, keyIndex_key _ 0 hs (by decide), keySub_key _ 0 hs (by decide)]
  omega

/-- A queue grows by edges of one frame, if at all. -/
def Grown (n : Nat) (on : Prop) (q r : List QEdge) : Prop := (∀ e ∈ q, e ∈ r) ∧ ∀ e ∈ r, e ∈ q ∨ (frameOf e.t = n ∧ on)

/-- What placing keeps: the queues but for edges of the next frame, and those only outside SAFE. -/
structure Placing (s t : State) : Prop extends Still placeKept s t where
  lanesOut : t.lanesOut = s.lanesOut
  passed : t.passed = s.passed
  queue : ∀ k, Grown (s.fn + 1) (s.mode ≠ 10) (s.core k).queue (t.core k).queue

namespace Placing

theorem fn_eq (h : Placing s t) : t.fn = s.fn := h.g K.TS_FN (.inl (by rw [K.TS_FN, keyIndex_key _ 0 (by decide) (by decide)]; omega))

theorem mode_eq (h : Placing s t) : t.mode = s.mode := h.g K.MODE (.inl (by rw [K.MODE, keyIndex_key _ 0 (by decide) (by decide)]; omega))

theorem refl (s : State) : Placing s s := ⟨Still.refl _ s, rfl, rfl, fun _ => ⟨fun _ h => h, fun _ h => .inl h⟩⟩

theorem trans (h : Placing s t) (h' : Placing t u) : Placing s u where
  toStill := h.toStill.trans h'.toStill
  lanesOut := h'.lanesOut.trans h.lanesOut
  passed := h'.passed.trans h.passed
  queue k := by
    obtain ⟨hold, hnew⟩ := h.queue k
    obtain ⟨hold', hnew'⟩ := h'.queue k
    rw [h.fn_eq, h.mode_eq] at hnew'
    exact ⟨fun e he => hold' e (hold e he), fun e he => (hnew' e he).elim (hnew e) .inr⟩

theorem p {j : Nat} (h : Placing s t) (hj : ¬placeKept j) (x : Nat) : Placing s (t.p j x) := { h with toStill := h.toStill.p hj x }

theorem inc {j : Nat} (h : Placing s t) (hj : ¬placeKept j) : Placing s (t.inc j) := h.p hj _

theorem setCh (h : Placing s t) (x : ChHid) : Placing s (t.setCh c x) := { h with }

theorem setSq (h : Placing s t) (x : SqHid) : Placing s (t.setSq q x) := { h with }

theorem setPad (h : Placing s t) (x : PadHid) : Placing s (t.setPad c x) := { h with }

theorem raiseBits (h : Placing s t) (a m : Nat) : Placing s (t.raiseBits a m) := by
  rw [raiseBits_form]
  exact { h with }

/-- The record of a core changes, and its queue grows. -/
theorem setCore {x : CoreHid} (h : Placing s t) (hx : Grown (t.fn + 1) (t.mode ≠ 10) (t.core k).queue x.queue) : Placing s (t.setCore k x) := by
  refine h.trans { Placing.refl t with queue := fun j => ?_ }
  by_cases hj : j = k
  · subst hj
    rw [State.core_setCore_same]
    exact hx
  · rw [State.core_setCore_other _ _ hj]
    exact (Placing.refl t).queue j

/-- The record of a core changes, and its queue stays. -/
theorem setCore_same {x : CoreHid} (h : Placing s t) (hx : x.queue = (t.core k).queue) : Placing s (t.setCore k x) :=
  h.setCore (by rw [hx]; exact (Placing.refl t).queue k)

theorem foldl {α : Type} {l : List α} {f : State → α → State} (hf : ∀ u, ∀ x ∈ l, Placing u (f u x)) :
    ∀ {t}, Placing s t → Placing s (l.foldl f t) := by
  induction l with
  | nil => exact fun h => h
  | cons x l ih => exact fun h => ih (fun u y hy => hf u y (List.mem_cons_of_mem _ hy)) (h.trans (hf _ x List.mem_cons_self))

theorem each {l : List Nat} {f : State → Nat → State} (hf : ∀ u, ∀ x ∈ l, Placing u (f u x)) (h : Placing s t) : Placing s (t.each l f) :=
  foldl hf h

/-! ## Vectors handed on (R20, R82, R139 to R142) -/

theorem act (h : Placing s t) (q c n : Nat) (a : Act) : Placing s (t.act q c n a) := by
  have hl : ∀ b, Placing s (t.setLevel q c b) := fun b => h.setSq _
  unfold State.act
  dsimp only
  split
  · exact h
  · split
    · exact (hl _).setCh _
    · exact hl _

theorem parkPins (h : Placing s t) (q n : Nat) : Placing s (t.parkPins q n) := h.each (fun u c _ => (refl u).act q c n _)

theorem vecActions (h : Placing s t) (q : Nat) (v : Vec) : Placing s (t.vecActions q v) := by
  have hp : Placing s (if v.park then t.parkPins q v.start else t) := by
    split
    · exact h.parkPins q _
    · exact h
  unfold State.vecActions
  dsimp only
  generalize (if v.park then t.parkPins q v.start else t) = w at hp ⊢
  split
  · exact hp
  · refine hp.each fun u p _ => ?_
    split
    · exact refl u
    · split
      · refine act ?_ q _ _ _
        split
        · exact (refl u).act q _ _ _
        · exact refl u
      · split
        · exact (refl u).act q _ _ _
        · exact refl u

theorem handTo (h : Placing s t) (q n : Nat) : Placing s (t.handTo q n) := (foldl (fun u v _ => (refl u).vecActions q v) h).setSq _

/-! ## Lanes (R104, R105) -/

theorem plLog (h : Placing s t) (kind reason entry : Nat) (a b : Option Nat) (q : Nat) : Placing s (t.plLog kind reason entry a b q) := by
  have hrow : ∀ n, atRow K.PL_LOG (n % 512) = key 0x6400 0x10 (n % 512) := fun n => by simp only [atRow, K.PL_LOG, key]
  unfold State.plLog
  refine (h.p ?_ _).inc (not_placeKept (by decide) (by decide) (by decide))
  rw [hrow, placeKept, keyIndex_key _ _ (by decide) (by omega), keySub_key _ _ (by decide) (by omega)]
  omega

theorem assignLanes (h : Placing s t) (v : State) : Placing s (t.assignLanes v) := by
  have hl : ∀ (u : State) c x, Placing u (u.p (K.CH_LANE c) x) := fun u c x =>
    (refl u).p (not_placeKept (by decide) (by omega) (.inl (by decide))) x
  have hs : ∀ (u : State) c x i b, Placing u ((u.p (K.CH_LANE c) x).pbit (K.CH_STATUS c) i b) := fun u c x i b =>
    (hl u c x).p (not_placeKept (by decide) (by omega) (.inl (by decide))) _
  refine h.each fun u c _ => ?_
  dsimp only
  split
  · split
    · exact hs u c _ 5 _
    · exact (hs u c _ 5 _).plLog _ _ _ _ _ _
  · exact hs u c _ 5 _

/-! ## Edges (R85 to R93) -/

theorem countWh (h : Placing s t) (c : Nat) {r : Nat} (h1 : 1 ≤ r) (h5 : r ≤ 5) (n : Int) : Placing s (t.countWh c r n) := by
  have hk : ∀ sub, sub < 256 → ¬placeKept (key (0x5001 + 0x20 * c) sub 0) := fun sub hs => not_placeKept hs (by omega) (.inr (by omega))
  have hlate : ¬placeKept (atSub (K.CH_WH_LATE c) (r - 1)) := by
    rw [whLate_key c h1]
    exact hk _ (by omega)
  exact (((h.inc (hk _ (by decide))).inc hlate).p (hk _ (by decide)) _).p (hk _ (by decide)) _

theorem withhold (h : Placing s t) (c k : Nat) {r : Nat} (h1 : 1 ≤ r) (h5 : r ≤ 5) (n : Int) : Placing s (t.withhold c k r n) := by
  have hc : Placing s (t.countBoth c k r n) := by
    unfold State.countBoth
    split
    · exact (h.countWh c h1 h5 n).countWh k h1 h5 n
    · exact h.countWh c h1 h5 n
  rw [withhold_eq]
  cases whEvent r with
  | some e => exact hc.raiseBits e _
  | none => exact hc

theorem lateTerm (h : Placing s t) (c k n : Nat) : Placing s (t.lateTerm c k n) := by
  have hp : ¬placeKept (K.IP_PROX_FRAMES k) := not_placeKept (by decide) (by omega) (.inr (by omega))
  have hb : ¬placeKept (K.CH_BOUND c) := not_placeKept (by decide) (by omega) (.inr (by omega))
  have hs : ¬placeKept (K.CH_STATUS c) := not_placeKept (by decide) (by omega) (.inl (by decide))
  have hnow : Placing s (t.setCore k { t.core k with termNow := true }) := h.setCore_same rfl
  have hnext : Placing s (t.setCore k { t.core k with termNext := true }) := h.setCore_same rfl
  rcases lateTerm_cases t c k n with he | ⟨a, b, d, he⟩ | ⟨a, b, he⟩ <;> rw [he]
  · exact h
  · exact ((hnow.p hp a).p hb b).p hs d
  · exact (hnext.p hp a).setCh _

theorem queued (h : Placing s t) (k : Nat) {e : QEdge} (he : frameOf e.t = t.fn + 1) (h10 : t.mode ≠ 10) (prox proxN : Bool) :
    Placing s (t.queued k e prox proxN) := by
  have hv : ¬placeKept (K.CH_NEXT_VERNIER k) := not_placeKept (by decide) (by omega) (.inl (by decide))
  have hp : ¬placeKept (K.CH_QUEUE_PEAK k) := not_placeKept (by decide) (by omega) (.inl (by decide))
  refine (((h.setCore ?_).p hv _).setCh _).p hp _
  exact ⟨fun x hx => mem_insEdge.2 (.inr hx), fun x hx => (mem_insEdge.1 hx).elim (fun hxe => .inr ⟨hxe ▸ he, h10⟩) .inl⟩

theorem queueEdge (h : Placing s t) {n : Nat} (hn : frameOf n = t.fn + 1) (h10 : t.mode ≠ 10) (c k v : Nat) (l trig : Bool) :
    Placing s (t.queueEdge c k v n l trig) := by
  obtain ⟨prox, proxN, he⟩ := queueEdge_eq t c k v n l trig
  rw [he]
  split
  · have hl := (refl t).lateTerm c k (frameOf n)
    exact (h.lateTerm c k (frameOf n)).queued k (hl.fn_eq ▸ hn) (hl.mode_eq ▸ h10) prox proxN
  · exact h.queued k hn h10 prox proxN

/-- An edge time in the next frame. -/
theorem frameOf_next {n : Int} {m : Nat} (h1 : ¬n < ((m + 1) * qFrame : Nat)) (h2 : ¬((m + 2) * qFrame : Nat) ≤ n) : frameOf n.toNat = m + 1 := by
  unfold frameOf
  generalize qFrame = b at *
  have hn : (n.toNat : Int) = n := Int.toNat_of_nonneg (by omega)
  rw [← hn] at h1 h2
  have h1 : (m + 1) * b ≤ n.toNat := by omega
  have h2 : n.toNat < (m + 2) * b := by omega
  exact Nat.div_eq_of_lt_le h1 h2

theorem placeOne (h : Placing s t) (h10 : t.mode ≠ 10) (w : State) (c k : Nat) (d : Int) (lane : Bool) (n : Int × Bool) :
    Placing s (t.placeOne w c k d lane n) := by
  have hs : Placing s (t.setSrcLevel c n.2) := h.setPad _
  unfold State.placeOne
  dsimp only
  split
  · exact hs.withhold c k (by decide) (by decide) _
  · split
    · exact hs.withhold c k (by decide) (by decide) _
    · next hlo =>
      split
      · exact h.setCh _
      · next hhi =>
        split
        · next r hr => exact hs.withhold c k (placeReason_mem hr).1 (placeReason_mem hr).2 _
        · exact hs.queueEdge (frameOf_next hlo hhi) h10 c k _ _ _

/-! ## Channels (R73, R75 to R78, R84) -/

theorem turnSource (h : Placing s t) (v : State) (c : Nat) : Placing s (t.turnSource v c) := by
  unfold State.turnSource
  dsimp only
  split
  · exact h
  · exact h.setCh _

theorem expand (h : Placing s t) (v : State) (c : Nat) : Placing s (t.expand v c) :=
  (h.each (fun u i _ => ((refl u).p (not_placeKept (by decide) (by omega) (.inl (by decide))) _).p
    (not_placeKept (by decide) (by omega) (.inl (by decide))) _)).setCh _

theorem places (h : Placing s t) (h10 : t.mode ≠ 10) (w : State) (c k : Nat) (d : Int) (lane : Bool) (l : List (Int × Bool)) :
    Placing s (l.foldl (fun t n => t.placeOne w c k d lane n) t) := by
  induction l generalizing t with
  | nil => exact h
  | cons n l ih => exact ih (h.placeOne h10 w c k d lane n) (((refl t).placeOne h10 w c k d lane n).mode_eq ▸ h10)

theorem passChannel (h : Placing s t) (h10 : t.mode ≠ 10) (v : State) (failing c : Nat) : Placing s (t.passChannel v failing c) := by
  have hx : Placing t (if v.src c = 1 then (t.turnSource v c).expand v c else t.turnSource v c) := by
    split
    · exact ((refl t).turnSource v c).expand v c
    · exact (refl t).turnSource v c
  unfold State.passChannel
  dsimp only
  split
  · exact (h.trans (hx.setCh _)).places ((hx.setCh _).mode_eq ▸ h10) v c _ _ _ _
  · exact h.trans hx

theorem passChannels (h : Placing s t) (h10 : t.mode ≠ 10) (v : State) (failing : Nat) (l : List Nat) :
    Placing s (t.each l (fun t c => t.passChannel v failing c)) := by
  induction l generalizing t with
  | nil => exact h
  | cons c l ih => exact ih (h.passChannel h10 v failing c) (((refl t).passChannel h10 v failing c).mode_eq ▸ h10)

end Placing

/-! ## The parts of a pass -/

/-- The lanes of a pass's operand that fail their check and are in service. -/
def State.failing (s : State) (f : Nat) : Nat := f % 2 ^ 12 &&& (2 ^ 12 - 1 - s.lanesOut)

/-- Every fetched vector that starts by the end of the next frame is handed to its lanes (R20). -/
def State.handAll (s : State) : State :=
  s.each (List.range 8) (fun s q => if s.g (K.SQ_STATE q) = 0 then s else s.handTo q ((s.fn + 2 + s.lead q) * qFrame))

/-- The channels that a lane out of service, or none, serves (R104). -/
def State.hitBy (s v : State) (failing : Nat) : Nat :=
  bitmap (instances 64 (fun c => (v.src c == 1 || v.src c == 3) && (s.g (K.CH_LANE c) == 255 || bit failing (s.g (K.CH_LANE c)))))

/-- The channels pass one after the other; none in SAFE. -/
def State.placeAll (s v : State) (failing : Nat) : State :=
  if s.mode = 10 then s else s.each (List.range 64) (fun s c => s.passChannel v failing c)

/-- A lane that fails, or a channel that none serves, raises EV039 (R104). -/
def State.laneFault (s : State) (failing hit mode : Nat) : State := if failing = 0 ∧ (hit = 0 ∨ mode = 10) then s else s.raiseBits 39 hit

/-- The lanes that fail leave service, and the bounds of the next frame follow. -/
def State.passEnd (s : State) (failing : Nat) : State :=
  { ({ s with lanesOut := s.lanesOut ||| failing } : State).computeBounds with passed := true }

/-- The state once the lanes of the next frame are assigned. -/
def State.passBegun (s : State) : State := s.handAll.assignLanes s.ahead

theorem pass_eq (s : State) (f : Nat) : s.pass f =
    ((s.passBegun.placeAll s.ahead (s.failing f)).laneFault (s.failing f)
      ((s.passBegun.placeAll s.ahead (s.failing f)).hitBy s.ahead (s.failing f)) s.passBegun.mode).passEnd (s.failing f) := rfl

end Sys2Proof.Machine
end

section
/-! SUPPORT. PLACEMENT_PASS: what a pass leaves of a channel it does not place, and what every pass leaves (R20, R85, R104, R416). -/

namespace Sys2Proof.Machine

variable {s t u : State} {c k : Nat}

/-! ## The objects of a pass -/

theorem passObj_lane (hc : c < 64) : passObj (K.CH_LANE c) = true := by
  rw [passObj, Bool.or_eq_true, Bool.or_eq_true]
  exact .inl (.inr (List.any_eq_true.2 ⟨c, List.mem_range.2 hc, by rw [beq_self_eq_true, Bool.true_or]⟩))

theorem passObj_status (hc : c < 64) : passObj (K.CH_STATUS c) = true := by
  rw [passObj, Bool.or_eq_true, Bool.or_eq_true]
  exact .inl (.inr (List.any_eq_true.2 ⟨c, List.mem_range.2 hc, by rw [beq_self_eq_true, Bool.or_true]⟩))

theorem passObj_prox (hk : k < 72) : passObj (K.IP_PROX_FRAMES k) = true := by
  rw [passObj, Bool.or_eq_true]
  exact .inr (List.any_eq_true.2 ⟨k, List.mem_range.2 hk, beq_self_eq_true _⟩)

theorem passObj_log (n : Nat) : passObj (atRow K.PL_LOG (n % 512)) = true := by
  have h : plLogObj (atRow K.PL_LOG (n % 512)) = true := by
    rw [plLogObj, Bool.or_eq_true, decide_eq_true_eq, atRow]
    omega
  rw [passObj, h, Bool.true_or, Bool.true_or]

theorem passObj_head : passObj K.PL_LOG_HEAD = true := by
  have h : plLogObj K.PL_LOG_HEAD = true := by rw [plLogObj, beq_self_eq_true, Bool.or_true]
  rw [passObj, h, Bool.true_or, Bool.true_or]

/-- Where the objects of a pass stand. -/
theorem passObj_place {j : Nat} (h : passObj j = true) : 0x5000 ≤ keyIndex j ∧ ((keyIndex j = 0x6400 ∧ (keySub j = 0x10 ∨ keySub j = 0x11)) ∨
    (keyIndex j % 32 = 0 ∧ keySub j = 7) ∨ (keyIndex j % 32 = 1 ∧ keySub j = 0x14) ∨ (keyIndex j % 32 = 7 ∧ keySub j = 0xc)) := by
  rw [passObj, Bool.or_eq_true, Bool.or_eq_true] at h
  rcases h with (h | h) | h
  · rw [plLogObj, Bool.or_eq_true, decide_eq_true_eq, beq_iff_eq] at h
    rcases h with ⟨h1, h2⟩ | h
    · simp only [K.PL_LOG, key] at h1 h2
      rw [keyIndex, keySub]
      omega
    · rw [h, K.PL_LOG_HEAD, keyIndex_key _ 0 (by decide) (by decide), keySub_key _ 0 (by decide) (by decide)]
      decide
  · obtain ⟨c, -, hc⟩ := List.any_eq_true.1 h
    rw [Bool.or_eq_true, beq_iff_eq, beq_iff_eq] at hc
    rcases hc with hc | hc
    · rw [hc, K.CH_LANE, keyIndex_key _ 0 (by decide) (by decide), keySub_key _ 0 (by decide) (by decide)]
      omega
    · rw [hc, K.CH_STATUS, keyIndex_key _ 0 (by decide) (by decide), keySub_key _ 0 (by decide) (by decide)]
      omega
  · obtain ⟨k, -, hk⟩ := List.any_eq_true.1 h
    rw [beq_iff_eq.1 hk, K.IP_PROX_FRAMES, keyIndex_key _ 0 (by decide) (by decide), keySub_key _ 0 (by decide) (by decide)]
    omega

theorem passObj_of_placeKept {j : Nat} (h : placeKept j) : passObj j = false := by
  refine Bool.eq_false_iff.2 fun hp => ?_
  have := passObj_place hp
  unfold placeKept at h
  omega

theorem bit_eq_testBit (x i : Nat) : bit x i = x.testBit i := by
  rw [Nat.testBit_eq_decide_div_mod_eq, bit]
  rfl

theorem bit_or_left {x i : Nat} (y : Nat) (h : bit x i = true) : bit (x ||| y) i = true := by
  rw [bit_eq_testBit] at h ⊢
  rw [Nat.testBit_or, h, Bool.true_or]

theorem bit_or_two_pow (x i : Nat) : bit (x ||| 2 ^ i) i = true := by
  rw [bit_eq_testBit, Nat.testBit_or, Nat.testBit_two_pow_self, Bool.or_true]

/-! ## What a pass leaves of one channel -/

/-- What a pass leaves where it places no edge of a channel: its waiting times, every queue and history, and all other objects and events. -/
structure Passing (c : Nat) (s t : State) : Prop where
  g : ∀ j, passObj j = false → t.g j = s.g j
  queue : ∀ k, (t.core k).queue = (s.core k).queue
  wait : (t.ch c).wait = (s.ch c).wait
  hist : ∀ z, (t.ch z).hist = (s.ch z).hist
  ev : ∀ x, x ≠ 39 → t.ev x = s.ev x
  mask : ∀ m, bit (s.evMask 39) m = true → bit (t.evMask 39) m = true

/-- A channel that is neither DIRECT nor PATTERN only turns to its source. -/
theorem passChannel_idle {v : State} (hv : v.src c ≠ 1 ∧ v.src c ≠ 3) (s : State) (failing : Nat) :
    s.passChannel v failing c = s.turnSource v c := by
  obtain ⟨h1, h3⟩ := hv
  have h13 : ¬(v.src c = 1 ∨ v.src c = 3) := fun h => h.elim h1 h3
  unfold State.passChannel
  dsimp only
  rw [if_neg h13, if_neg h1]

namespace Passing

theorem refl (c : Nat) (s : State) : Passing c s s := ⟨fun _ _ => rfl, fun _ => rfl, rfl, fun _ => rfl, fun _ _ => rfl, fun _ h => h⟩

theorem trans (h : Passing c s t) (h' : Passing c t u) : Passing c s u :=
  ⟨fun j hj => (h'.g j hj).trans (h.g j hj), fun k => (h'.queue k).trans (h.queue k), h'.wait.trans h.wait,
    fun z => (h'.hist z).trans (h.hist z), fun x hx => (h'.ev x hx).trans (h.ev x hx), fun m hm => h'.mask m (h.mask m hm)⟩

theorem p {j : Nat} (h : Passing c s t) (hj : passObj j = true) (x : Nat) : Passing c s (t.p j x) where
  g i hi := by
    have hne : i ≠ j := fun e => by rw [e, hj] at hi; cases hi
    exact (State.g_p_other t x hne).trans (h.g i hi)
  queue := h.queue
  wait := h.wait
  hist := h.hist
  ev := h.ev
  mask := h.mask

theorem inc {j : Nat} (h : Passing c s t) (hj : passObj j = true) : Passing c s (t.inc j) := h.p hj _

/-- A channel's record changes, but for its history and, of the channel itself, its waiting times. -/
theorem setCh {z : Nat} {x : ChHid} (h : Passing c s t) (hh : x.hist = (t.ch z).hist) (hw : z = c → x.wait = (t.ch z).wait) :
    Passing c s (t.setCh z x) := by
  refine h.trans { refl c t with wait := ?_, hist := fun i => ?_ }
  · by_cases hz : z = c
    · subst hz
      rw [State.ch_setCh_same, hw rfl]
    · rw [State.ch_setCh_other _ _ (Ne.symm hz)]
  · by_cases hi : i = z
    · subst hi
      rw [State.ch_setCh_same, hh]
    · rw [State.ch_setCh_other _ _ hi]

theorem setCore {x : CoreHid} (h : Passing c s t) (hx : x.queue = (t.core k).queue) : Passing c s (t.setCore k x) := by
  refine h.trans { refl c t with queue := fun i => ?_ }
  by_cases hi : i = k
  · subst hi
    rw [State.core_setCore_same, hx]
  · rw [State.core_setCore_other _ _ hi]

theorem raise39 (h : Passing c s t) (m : Nat) : Passing c s (t.raiseBits 39 m) := by
  refine h.trans ⟨fun j _ => State.g_raiseBits _ _ _ j, fun k => ?_, ?_, fun z => ?_, fun x hx => raiseBits_ev_other hx m, fun i hi => ?_⟩
  · rw [raiseBits_form]
    exact congrArg CoreHid.queue (congrFun (core_of_coreHid rfl) k)
  · rw [ch_of_chHid (State.raiseBits_chHid _ _ _)]
  · rw [ch_of_chHid (State.raiseBits_chHid _ _ _)]
  · rw [evMask_raiseBits]
    exact bit_or_left _ hi

theorem turnSource {z : Nat} (h : Passing c s t) (v : State) (hz : z ≠ c) : Passing c s (t.turnSource v z) := by
  unfold State.turnSource
  dsimp only
  split
  · exact h
  · exact h.setCh rfl fun e => absurd e hz

/-- A channel that is neither DIRECT nor PATTERN places nothing. -/
theorem passChannel {z : Nat} (h : Passing c s t) (v : State) (failing : Nat) (hz : z ≠ c) (hv : v.src z ≠ 1 ∧ v.src z ≠ 3) :
    Passing c s (t.passChannel v failing z) := by
  rw [passChannel_idle hv]
  exact h.turnSource v hz

theorem passChannels (h : Passing c s t) {v : State} (failing : Nat) {l : List Nat} (hl : ∀ z ∈ l, z ≠ c ∧ v.src z ≠ 1 ∧ v.src z ≠ 3) :
    Passing c s (t.each l (fun t z => t.passChannel v failing z)) := by
  induction l generalizing t with
  | nil => exact h
  | cons z l ih =>
    have hz := hl z List.mem_cons_self
    exact ih (h.passChannel v failing hz.1 hz.2) fun y hy => hl y (List.mem_cons_of_mem _ hy)

theorem laneFault (h : Passing c s t) (failing hit mode : Nat) : Passing c s (t.laneFault failing hit mode) := by
  unfold State.laneFault
  split
  · exact h
  · exact h.raise39 hit

end Passing

/-! ## The bounds of the next frame (R416) -/

/-- The bound of one channel for the next frame. -/
def State.boundOne (s v : State) (c : Nat) : State :=
  s.setCh c { s.ch c with bound := some (v.chBound c (s.coreAt c (s.tick + 1)) (s.core (s.coreAt c (s.tick + 1))).prox) }

/-- The proximity that a pass found on one core is counted, and what it found for the frame after becomes it. -/
def State.proxOne (s : State) (k : Nat) : State :=
  let t := if (s.core k).prox then s.inc (K.IP_PROX_FRAMES k) else s
  if (s.core k).prox || (s.core k).proxN || (s.core k).termNext then
    t.setCore k { s.core k with prox := (s.core k).proxN, proxN := false, termNext := (s.core k).prox }
  else t

theorem computeBounds_eq (s : State) : ∃ v, s.computeBounds = (s.each (List.range 64) (fun s c => s.boundOne v c)).each (List.range 72) State.proxOne :=
  ⟨_, rfl⟩

theorem boundOne_placedOnly (s v : State) (c : Nat) : PlacedOnly s (s.boundOne v c) := (PlacedOnly.refl s).setCh c _

theorem Passing.boundOne {z : Nat} (h : Passing c s t) (v : State) : Passing c s (t.boundOne v z) := h.setCh rfl fun _ => rfl

theorem prox_counted (s : State) (k : Nat) : ∃ o, (if (s.core k).prox then s.inc (K.IP_PROX_FRAMES k) else s) = s.withOd o := by
  split
  · rw [State.inc_eq]
    exact ⟨_, rfl⟩
  · exact ⟨s.od, rfl⟩

theorem proxOne_placedOnly (s : State) (k : Nat) : PlacedOnly s (s.proxOne k) := by
  obtain ⟨o, ho⟩ := prox_counted s k
  have h : PlacedOnly s (s.withOd o) := ⟨o, s.coreHid, s.chHid, rfl⟩
  unfold State.proxOne
  dsimp only
  rw [ho]
  split
  · exact h.setCore k _
  · exact h

theorem proxOne_ch (s : State) (k : Nat) : (s.proxOne k).ch = s.ch := by
  obtain ⟨o, ho⟩ := prox_counted s k
  unfold State.proxOne
  dsimp only
  rw [ho]
  split
  · exact ch_of_chHid rfl
  · exact ch_of_chHid rfl

theorem Passing.proxOne (h : Passing c s t) (hk : k < 72) : Passing c s (t.proxOne k) := by
  have hi : Passing c t (if (t.core k).prox then t.inc (K.IP_PROX_FRAMES k) else t) := by
    split
    · exact (refl c t).inc (passObj_prox hk)
    · exact refl c t
  have hc : (if (t.core k).prox then t.inc (K.IP_PROX_FRAMES k) else t).core k = t.core k := by
    obtain ⟨o, ho⟩ := prox_counted t k
    rw [ho]
    exact congrFun (core_of_coreHid rfl) k
  unfold State.proxOne
  dsimp only
  split
  · exact h.trans (hi.setCore (by rw [hc]))
  · exact h.trans hi

theorem PlacedOnly.each {l : List Nat} {f : State → Nat → State} (hf : ∀ u x, PlacedOnly u (f u x)) (s : State) : PlacedOnly s (s.each l f) := by
  induction l generalizing s with
  | nil => exact PlacedOnly.refl s
  | cons x l ih => exact (hf s x).trans (ih (f s x))

theorem Passing.each {l : List Nat} {f : State → Nat → State} (hf : ∀ u, ∀ x ∈ l, Passing c u (f u x)) (s : State) :
    Passing c s (s.each l f) := by
  induction l generalizing s with
  | nil => exact refl c s
  | cons x l ih => exact (hf s x List.mem_cons_self).trans (ih (fun u y hy => hf u y (List.mem_cons_of_mem _ hy)) (f s x))

theorem computeBounds_placedOnly (s : State) : PlacedOnly s s.computeBounds := by
  obtain ⟨v, hv⟩ := computeBounds_eq s
  rw [hv]
  exact (PlacedOnly.each (fun u c => boundOne_placedOnly u v c) s).trans (PlacedOnly.each proxOne_placedOnly _)

theorem computeBounds_passing (c : Nat) (s : State) : Passing c s s.computeBounds := by
  obtain ⟨v, hv⟩ := computeBounds_eq s
  rw [hv]
  exact (Passing.each (fun u c _ => (Passing.refl _ u).boundOne v) s).trans
    (Passing.each (fun u k hk => (Passing.refl _ u).proxOne (List.mem_range.1 hk)) _)

/-- Every channel has a bound for the next frame. -/
theorem computeBounds_bound (s : State) : ∀ c ∈ List.range 64, (s.computeBounds.ch c).bound.isSome = true := by
  obtain ⟨v, hv⟩ := computeBounds_eq s
  intro c hc
  rw [hv, each_keeps State.ch (List.range 72) _ fun u k _ => proxOne_ch u k]
  refine each_all (I := fun _ => True) (Q := fun c s => (s.ch c).bound.isSome = true) (fun _ _ _ => trivial) (fun u c _ => ?_)
    (fun u c i _ h => ?_) (List.range 64) s trivial c (.inl hc)
  · rw [State.boundOne, State.ch_setCh_same]
    rfl
  · by_cases hi : i = c
    · subst hi
      rw [State.boundOne, State.ch_setCh_same]
      rfl
    · rw [State.boundOne, State.ch_setCh_other _ _ hi]
      exact h

/-! ## The end of a pass -/

/-- The state with other lanes out of service. -/
def State.withLanes (s : State) (n : Nat) : State := { s with lanesOut := n }

/-- The state with its pass made. -/
def State.withPassed (s : State) : State := { s with passed := true }

theorem withLanes_passing (c : Nat) (s : State) (n : Nat) : Passing c s (s.withLanes n) :=
  ⟨fun _ _ => rfl, fun _ => rfl, rfl, fun _ => rfl, fun _ _ => rfl, fun _ h => h⟩

theorem withPassed_passing (c : Nat) (s : State) : Passing c s s.withPassed :=
  ⟨fun _ _ => rfl, fun _ => rfl, rfl, fun _ => rfl, fun _ _ => rfl, fun _ h => h⟩

theorem withPassed_ch (s : State) : s.withPassed.ch = s.ch := rfl

theorem passEnd_eq (s : State) (failing : Nat) : s.passEnd failing = (s.withLanes (s.lanesOut ||| failing)).computeBounds.withPassed := rfl

theorem passEnd_form (s : State) (failing : Nat) : ∃ o co ch,
    s.passEnd failing = ((s.withLanes (s.lanesOut ||| failing)).withPlaced o co ch).withPassed := by
  obtain ⟨o, co, ch, h⟩ := computeBounds_placedOnly (s.withLanes (s.lanesOut ||| failing))
  exact ⟨o, co, ch, by rw [passEnd_eq, h]⟩

theorem passEnd_passing (c : Nat) (s : State) (failing : Nat) : Passing c s (s.passEnd failing) := by
  rw [passEnd_eq]
  exact ((withLanes_passing c s _).trans (computeBounds_passing c _)).trans (withPassed_passing c _)

theorem passEnd_bound (s : State) (failing : Nat) : ∀ c ∈ List.range 64, ((s.passEnd failing).ch c).bound.isSome = true := by
  rw [passEnd_eq, withPassed_ch]
  exact computeBounds_bound (s.withLanes (s.lanesOut ||| failing))

/-! ## The whole pass -/

/-- The state once all edges of the next frame are placed, the lanes at fault not yet out of service. -/
def State.passPlaced (s : State) (f : Nat) : State :=
  (s.passBegun.placeAll s.ahead (s.failing f)).laneFault (s.failing f)
    ((s.passBegun.placeAll s.ahead (s.failing f)).hitBy s.ahead (s.failing f)) s.passBegun.mode

theorem pass_end (s : State) (f : Nat) : s.pass f = (s.passPlaced f).passEnd (s.failing f) := pass_eq s f

theorem passBegun_placing (s : State) : Placing s s.passBegun := by
  refine Placing.assignLanes (Placing.each (fun u q _ => ?_) (Placing.refl s)) s.ahead
  split
  · exact Placing.refl u
  · exact (Placing.refl u).handTo q _

theorem placeAll_placing (s v : State) (failing : Nat) : Placing s (s.placeAll v failing) := by
  unfold State.placeAll
  split
  · exact Placing.refl s
  · next h => exact (Placing.refl s).passChannels h v failing _

theorem laneFault_placing (s : State) (failing hit mode : Nat) : Placing s (s.laneFault failing hit mode) := by
  unfold State.laneFault
  split
  · exact Placing.refl s
  · exact (Placing.refl s).raiseBits 39 hit

theorem passPlaced_placing (s : State) (f : Nat) : Placing s (s.passPlaced f) :=
  ((passBegun_placing s).trans (placeAll_placing _ _ _)).trans (laneFault_placing _ _ _ _)

/-- A lane that leaves service raises EV039. -/
theorem laneFault_ev {failing : Nat} (h : failing ≠ 0) (s : State) (hit mode : Nat) : (s.laneFault failing hit mode).ev 39 ≠ none := by
  have hn : ¬(failing = 0 ∧ (hit = 0 ∨ mode = 10)) := fun hc => h hc.1
  rw [State.laneFault, if_neg hn, State.raiseBits]
  cases s.ev 39 <;> simp

/-! ## The command -/

theorem exec_placementPass (s : State) (f : Nat) :
    exec (.placementPass f) s = run (fun s => if 2 ≤ s.mode ∧ !s.passed then s.pass f else s) s := rfl

variable {f : Nat}

/-- A frame's second pass does nothing. -/
theorem gives_pass_done (h2 : 2 ≤ s.mode) (hp : s.passed = true) : Gives (.placementPass f) s (fun t => t = { s with out := [] }) := by
  refine gives_noOut (by omega) (exec_placementPass s f) ?_
  have hno : ¬(2 ≤ s.noOut.mode ∧ (!s.noOut.passed) = true) := fun h => by
    have hn : (!s.passed) = true := h.2
    rw [hp] at hn
    cases hn
  dsimp only
  rw [if_neg hno]
  rfl

/-- What every pass leaves as it was beside objects, channels and cores. -/
def PassStill (s t : State) : Prop :=
  t.mode = s.mode ∧ t.tick = s.tick ∧ t.vmem = s.vmem ∧ t.slotBytes = s.slotBytes ∧ t.nvm = s.nvm ∧ t.clock = s.clock ∧ t.host = s.host

/-- The end of a pass, beside objects, channels and cores. -/
theorem passEnd_still (h : Placing s t) (failing : Nat) :
    Still placeKept s (t.passEnd failing) ∧ (t.passEnd failing).passed = true ∧ (t.passEnd failing).lanesOut = s.lanesOut ||| failing := by
  have hg : ∀ j, placeKept j → (t.passEnd failing).g j = s.g j := fun j hj =>
    ((passEnd_passing 0 t failing).g j (passObj_of_placeKept hj)).trans (h.g j hj)
  obtain ⟨o, co, ch, hf⟩ := passEnd_form t failing
  rw [hf] at hg ⊢
  exact ⟨⟨hg, h.tick, h.vmem, h.slotBytes, h.nvm, h.clock, h.host⟩, rfl, congrArg (· ||| failing) h.lanesOut⟩

theorem Still.pass (h : Still placeKept s t) : PassStill s t :=
  ⟨h.g K.MODE (.inl (by rw [K.MODE, keyIndex_key _ 0 (by decide) (by decide)]; omega)), h.tick, h.vmem, h.slotBytes, h.nvm, h.clock, h.host⟩

/-- The state with its commands that wait. -/
def State.withPending (s t : State) : State := { t with pending := s.pending }

section Command
variable (h2 : 2 ≤ s.mode) (hp : s.passed = false)
include h2 hp

/-- A pass, with what every pass keeps. -/
theorem gives_pass {P : State → Prop} (h : P (s.withPending (s.noOut.pass f))) :
    Gives (.placementPass f) s (fun t => P t ∧ PassStill s t) := by
  refine gives_noOut (by omega) (exec_placementPass s f) ?_
  have hok : 2 ≤ s.noOut.mode ∧ (!s.noOut.passed) = true := ⟨h2, (congrArg not hp : (!s.passed) = !false)⟩
  dsimp only
  rw [if_pos hok]
  refine ⟨h, ?_⟩
  have hs := (passEnd_still (passPlaced_placing s.noOut f) (s.failing f)).1.pass
  have he : s.noOut.pass f = (s.noOut.passPlaced f).passEnd (s.failing f) := pass_end s.noOut f
  rw [he]
  generalize (s.noOut.passPlaced f).passEnd (s.failing f) = t at hs ⊢
  exact hs

/-- What every pass does. -/
theorem gives_pass_any : Gives (.placementPass f) s (fun t => (t.passed = true ∧ t.lanesOut = (s.lanesOut ||| s.failing f) ∧
    (∀ k, Grown (s.fn + 1) (s.mode ≠ 10) (s.core k).queue (t.core k).queue) ∧
    (∀ c ∈ List.range 64, (t.ch c).bound.isSome = true ∧ t.g (K.PAD_LEVEL c) = s.g (K.PAD_LEVEL c)) ∧
    (s.failing f ≠ 0 → t.ev 39 ≠ none)) ∧ PassStill s t) := by
  refine gives_pass h2 hp ?_
  have hpl := passPlaced_placing s.noOut f
  obtain ⟨hst, hpass, hlanes⟩ := passEnd_still hpl (s.failing f)
  have hend := passEnd_passing 0 (s.noOut.passPlaced f) (s.failing f)
  have hb := passEnd_bound (s.noOut.passPlaced f) (s.failing f)
  have hev : s.failing f ≠ 0 → (s.noOut.passPlaced f).ev 39 ≠ none := fun h => laneFault_ev h _ _ _
  have hev' : ((s.noOut.passPlaced f).passEnd (s.failing f)).ev 39 = (s.noOut.passPlaced f).ev 39 := by
    obtain ⟨o, co, ch, hf⟩ := passEnd_form (s.noOut.passPlaced f) (s.failing f)
    rw [hf]
    rfl
  have hq : ∀ k, Grown (s.fn + 1) (s.mode ≠ 10) (s.core k).queue (((s.noOut.passPlaced f).passEnd (s.failing f)).core k).queue := fun k => by
    rw [hend.queue k]
    exact hpl.queue k
  have hlev : ∀ c, ((s.noOut.passPlaced f).passEnd (s.failing f)).g (K.PAD_LEVEL c) = s.g (K.PAD_LEVEL c) := fun c => hst.g _ (.inr (by
    rw [K.PAD_LEVEL, keyIndex_key _ 0 (by decide) (by decide), keySub_key _ 0 (by decide) (by decide)]; omega))
  have he : s.noOut.pass f = (s.noOut.passPlaced f).passEnd (s.failing f) := pass_end s.noOut f
  rw [he]
  generalize (s.noOut.passPlaced f).passEnd (s.failing f) = t at *
  exact ⟨hpass, hlanes, hq, fun c hc => ⟨hb c hc, hlev c⟩, fun h => hev' ▸ hev h⟩

end Command

end Sys2Proof.Machine
end

section
/-! SUPPORT. PLACEMENT_PASS with one channel that places: the lanes assigned, and the channels before and after it (R73, R104, R105). -/

namespace Sys2Proof.Machine

variable {s t u v : State} {c k y f : Nat} {past : Bool}

/-! ## Lanes assigned -/

/-- One core of the next frame served. -/
def State.laneOne (s v : State) (l : List (Nat × Option Nat × Bool)) (c : Nat) : State :=
  let old := s.g (K.CH_LANE c)
  match l.find? (fun x => x.1 == c) with
  | some x =>
    let new := x.2.1.getD 255
    let s := (s.p (K.CH_LANE c) new).pbit (K.CH_STATUS c) 5 x.2.2
    let served := (s.ch c).src == 1 || (s.ch c).src == 3
    if new = old ∧ (new ≠ 255 ∨ served) then s
    else s.plLog Pl.lane (if s.lanesOut = 0 then Pl.forCommit else Pl.forFault) (v.coreAt c v.tick) (if old = 255 then none else some old) x.2.1 0
  | none => (s.p (K.CH_LANE c) 255).pbit (K.CH_STATUS c) 5 (v.g (K.CH_LANE_PIN c) < 12 && bit s.lanesOut (v.g (K.CH_LANE_PIN c)))

theorem assignLanes_eq (s v : State) : s.assignLanes v = s.each (List.range 64) (fun u c => u.laneOne v (v.lanes s.lanesOut) c) := rfl

/-- The lane that an assignment gives a channel. -/
def laneIn (l : List (Nat × Option Nat × Bool)) (c : Nat) : Nat := ((l.find? (fun x => x.1 == c)).bind (·.2.1)).getD 255

theorem laneOne_cases (s v : State) (l : List (Nat × Option Nat × Bool)) (c : Nat) : ∃ b,
    s.laneOne v l c = (s.p (K.CH_LANE c) (laneIn l c)).pbit (K.CH_STATUS c) 5 b ∨
      ∃ kind reason entry frm dst, s.laneOne v l c =
        ((s.p (K.CH_LANE c) (laneIn l c)).pbit (K.CH_STATUS c) 5 b).plLog kind reason entry frm dst 0 := by
  unfold State.laneOne laneIn
  dsimp only
  cases l.find? (fun x => x.1 == c) with
  | none => exact ⟨_, .inl rfl⟩
  | some x =>
    dsimp only [Option.bind_some]
    refine ⟨x.2.2, ?_⟩
    split
    · exact .inl rfl
    · exact .inr ⟨_, _, _, _, _, rfl⟩

theorem plLog_odOnly (s : State) (kind reason entry : Nat) (a b : Option Nat) (q : Nat) : OdOnly s (s.plLog kind reason entry a b q) := by
  unfold State.plLog
  dsimp only
  rw [State.inc_eq]
  exact ((OdOnly.refl s).p _ _).p _ _

theorem laneOne_odOnly (s v : State) (l : List (Nat × Option Nat × Bool)) (c : Nat) : OdOnly s (s.laneOne v l c) := by
  have h : ∀ b, OdOnly s ((s.p (K.CH_LANE c) (laneIn l c)).pbit (K.CH_STATUS c) 5 b) := fun b => ((OdOnly.refl s).p _ _).p _ _
  obtain ⟨b, he | ⟨_, _, _, _, _, he⟩⟩ := laneOne_cases s v l c
  · rw [he]
    exact h b
  · rw [he]
    exact (h b).trans (plLog_odOnly _ _ _ _ _ _ _)

theorem Passing.plLog (h : Passing c s t) (kind reason entry : Nat) (a b : Option Nat) (q : Nat) :
    Passing c s (t.plLog kind reason entry a b q) := (h.p (passObj_log _) _).inc passObj_head

theorem laneOne_passing {z : Nat} (c : Nat) (s v : State) (l : List (Nat × Option Nat × Bool)) (hz : z < 64) : Passing c s (s.laneOne v l z) := by
  have h : ∀ b, Passing c s ((s.p (K.CH_LANE z) (laneIn l z)).pbit (K.CH_STATUS z) 5 b) := fun b =>
    ((Passing.refl c s).p (passObj_lane hz) _).p (passObj_status hz) _
  obtain ⟨b, he | ⟨_, _, _, _, _, he⟩⟩ := laneOne_cases s v l z
  · rw [he]
    exact h b
  · rw [he]
    exact (h b).plLog _ _ _ _ _ _

theorem lane_index (c : Nat) : keyIndex (K.CH_LANE c) = 0x5000 + 0x20 * c := keyIndex_key _ 0 (by decide) (by decide)

theorem plLog_lane (s : State) (kind reason entry : Nat) (a b : Option Nat) (q : Nat) (hc : c < 64) :
    (s.plLog kind reason entry a b q).g (K.CH_LANE c) = s.g (K.CH_LANE c) := by
  have hi := lane_index c
  have h1 : ∀ n, K.CH_LANE c ≠ atRow K.PL_LOG (n % 512) := fun n e => by
    rw [e, atRow, K.PL_LOG, key, keyIndex] at hi
    omega
  have h2 : K.CH_LANE c ≠ K.PL_LOG_HEAD := fun e => by
    rw [e, K.PL_LOG_HEAD, keyIndex_key _ 0 (by decide) (by decide)] at hi
    omega
  unfold State.plLog
  dsimp only
  rw [State.inc_eq, State.g_p_other _ _ h2, State.g_p_other _ _ (h1 _)]

theorem laneOne_lane (s v : State) (l : List (Nat × Option Nat × Bool)) (z : Nat) (hc : c < 64) :
    (s.laneOne v l z).g (K.CH_LANE c) = if c = z then laneIn l c else s.g (K.CH_LANE c) := by
  have hst : ∀ z, K.CH_LANE c ≠ K.CH_STATUS z := fun z e => by
    have := lane_index c
    rw [e, K.CH_STATUS, keyIndex_key _ 0 (by decide) (by decide)] at this
    omega
  have h : ∀ b, ((s.p (K.CH_LANE z) (laneIn l z)).pbit (K.CH_STATUS z) 5 b).g (K.CH_LANE c) =
      if c = z then laneIn l c else s.g (K.CH_LANE c) := fun b => by
    rw [State.pbit, State.g_p_other _ _ (hst z), State.g_p]
    by_cases hz : c = z
    · subst hz
      rw [if_pos rfl, if_pos rfl]
    · have hne : K.CH_LANE c ≠ K.CH_LANE z := fun e => hz (by
        have := congrArg keyIndex e
        rw [lane_index, lane_index] at this
        omega)
      rw [if_neg hne, if_neg hz]
  obtain ⟨b, he | ⟨_, _, _, _, _, he⟩⟩ := laneOne_cases s v l z
  · rw [he, h]
  · rw [he, plLog_lane _ _ _ _ _ _ _ hc, h]

/-- Once lanes are assigned, a channel's lane is the one assigned to it. -/
theorem assignLanes_lane (s v : State) (hc : c < 64) : (s.assignLanes v).g (K.CH_LANE c) = laneIn (v.lanes s.lanesOut) c := by
  rw [assignLanes_eq]
  refine each_all (I := fun _ => True) (Q := fun z u => z = c → u.g (K.CH_LANE c) = laneIn (v.lanes s.lanesOut) c) (fun _ _ _ => trivial)
    (fun u z _ hz => ?_) (fun u x z _ h hz => ?_) (List.range 64) s trivial c (.inl (List.mem_range.2 hc)) rfl
  · rw [laneOne_lane _ _ _ _ hc, if_pos hz.symm]
  · rw [laneOne_lane _ _ _ _ hc, h hz, ite_self]

theorem assignLanes_odOnly (s v : State) : OdOnly s (s.assignLanes v) := by
  rw [assignLanes_eq]
  generalize v.lanes s.lanesOut = l
  generalize List.range 64 = cs
  induction cs generalizing s with
  | nil => exact OdOnly.refl s
  | cons c cs ih => exact (laneOne_odOnly s v l c).trans (ih _)

theorem assignLanes_passing (c : Nat) (s v : State) : Passing c s (s.assignLanes v) := by
  rw [assignLanes_eq]
  exact Passing.each (fun u z hz => laneOne_passing c u v _ (List.mem_range.1 hz)) s

/-! ## Before and after the channel that places -/

/-- With no sequencer in use no vector is handed on. -/
theorem handAll_idle (h : ∀ q ∈ List.range 8, s.g (K.SQ_STATE q) = 0) : s.handAll = s := by
  unfold State.handAll
  generalize List.range 8 = qs at h
  induction qs with
  | nil => rfl
  | cons q qs ih =>
    have hq : (if s.g (K.SQ_STATE q) = 0 then s else s.handTo q ((s.fn + 2 + s.lead q) * qFrame)) = s := if_pos (h q List.mem_cons_self)
    exact (congrArg (fun t => State.each t qs _) hq).trans (ih fun x hx => h x (List.mem_cons_of_mem _ hx))

/-- The state before a channel passes: its lane is assigned, and of all else that its edges depend on nothing has changed. -/
structure BeforeCh (c y : Nat) (s t : State) : Prop extends Passing c s t where
  form : ∃ o ch, t = s.withPlaced o s.coreHid ch
  chan : t.ch c = s.ch c
  lane : t.g (K.CH_LANE c) = y

theorem BeforeCh.turnSource {z : Nat} (h : BeforeCh c y s t) (v : State) (hz : z ≠ c) : BeforeCh c y s (t.turnSource v z) := by
  have hp := h.toPassing.turnSource v hz
  unfold State.turnSource at hp ⊢
  dsimp only at hp ⊢
  split at hp
  · next he =>
    rw [if_pos he]
    exact h
  · next he =>
    rw [if_neg he]
    refine { toPassing := hp, form := ?_, chan := ?_, lane := h.lane }
    · obtain ⟨o, ch, rfl⟩ := h.form
      exact ⟨o, _, rfl⟩
    · rw [State.ch_setCh_other _ _ (Ne.symm hz)]
      exact h.chan

theorem BeforeCh.passChannels (h : BeforeCh c y s t) {v : State} (failing : Nat) {l : List Nat}
    (hl : ∀ z ∈ l, z ≠ c ∧ v.src z ≠ 1 ∧ v.src z ≠ 3) :
    BeforeCh c y s (t.each l (fun t z => t.passChannel v failing z)) := by
  induction l generalizing t with
  | nil => exact h
  | cons z l ih =>
    obtain ⟨hz, hv⟩ := hl z List.mem_cons_self
    have hz' := h.turnSource v hz
    rw [← passChannel_idle hv t failing] at hz'
    exact ih hz' fun x hx => hl x (List.mem_cons_of_mem _ hx)

theorem assignLanes_ready (s v : State) (hc : c < 64) : BeforeCh c (laneIn (v.lanes s.lanesOut) c) s (s.assignLanes v) := by
  have hl := assignLanes_lane s v hc
  have hp := assignLanes_passing c s v
  obtain ⟨o, ho⟩ := assignLanes_odOnly s v
  rw [ho] at hl hp ⊢
  exact ⟨hp, ⟨o, s.chHid, rfl⟩, congrFun (ch_of_chHid rfl) c, hl⟩

theorem each_split (s : State) (l m : List Nat) (c : Nat) (g : State → Nat → State) : s.each (l ++ c :: m) g = (g (s.each l g) c).each m g := by
  rw [State.each, List.foldl_append]
  rfl

/-- A list with one place of a member. -/
theorem range_split (hc : c < 64) : ∃ l m, List.range 64 = l ++ c :: m ∧ c ∉ l ∧ c ∉ m := by
  obtain ⟨l, m, h⟩ := List.append_of_mem (List.mem_range.2 hc)
  have hn : (l ++ c :: m).Nodup := h ▸ List.nodup_range
  obtain ⟨-, hm, hd⟩ := List.nodup_append.1 hn
  exact ⟨l, m, h, fun hl => hd c hl c List.mem_cons_self rfl, (List.nodup_cons.1 hm).1⟩

/-- A pass in which one channel may place: what is before it, and what after it. -/
theorem pass_one (hc : c < 64) (h10 : s.mode ≠ 10) (hsq : ∀ q ∈ List.range 8, s.g (K.SQ_STATE q) = 0)
    (hoth : ∀ z ∈ List.range 64, z ≠ c → s.ahead.src z ≠ 1 ∧ s.ahead.src z ≠ 3) :
    ∃ t, BeforeCh c (laneIn (s.ahead.lanes s.lanesOut) c) s t ∧ Passing c (t.passChannel s.ahead (s.failing f) c) (s.pass f) := by
  have hb : s.passBegun = s.assignLanes s.ahead := by rw [State.passBegun, handAll_idle hsq]
  have hr : BeforeCh c (laneIn (s.ahead.lanes s.lanesOut) c) s s.passBegun := hb ▸ assignLanes_ready s s.ahead hc
  have hm : s.passBegun.mode ≠ 10 := by rw [(passBegun_placing s).mode_eq]; exact h10
  obtain ⟨l, m, hlm, hl, hm'⟩ := range_split hc
  have hz : ∀ z, z ∈ l ∨ z ∈ m → z ≠ c ∧ s.ahead.src z ≠ 1 ∧ s.ahead.src z ≠ 3 := fun z hz => by
    have hne : z ≠ c := fun e => hz.elim (fun h => hl (e ▸ h)) (fun h => hm' (e ▸ h))
    refine ⟨hne, hoth z ?_ hne⟩
    rw [hlm]
    exact List.mem_append.2 (hz.imp id (List.mem_cons_of_mem c))
  have hall : s.passBegun.placeAll s.ahead (s.failing f) =
      ((s.passBegun.each l (fun t z => t.passChannel s.ahead (s.failing f) z)).passChannel s.ahead (s.failing f) c).each m
        (fun t z => t.passChannel s.ahead (s.failing f) z) := by
    rw [State.placeAll, if_neg hm, hlm, each_split]
  refine ⟨_, hr.passChannels (s.failing f) (fun z h => hz z (.inl h)), ?_⟩
  rw [pass_end, State.passPlaced, hall]
  exact (((Passing.refl c _).passChannels (s.failing f) (fun z h => hz z (.inr h))).laneFault _ _ _).trans (passEnd_passing c _ _)

end Sys2Proof.Machine
end

section
/-! SUPPORT. PLACEMENT_PASS: the nominal times of one channel are placed (R84 to R93, R107). -/

namespace Sys2Proof.Machine

variable {s t v w : State} {c k y u n r failing : Nat} {a d : Int} {l : Bool}

/-! ## The waiting times of a channel (R84) -/

/-- The waiting times of a channel that fall due are placed in time order. -/
def State.placeDue (s v : State) (failing c : Nat) : State :=
  let h := s.ch c
  let d := v.gi (K.CH_DELAY c)
  let due := (h.wait.filter (fun n => n.1 + d < ((s.fn + 2) * qFrame : Nat))).mergeSort (fun a b => a.1 ≤ b.1)
  let t := s.setCh c { h with wait := h.wait.filter (fun n => ((s.fn + 2) * qFrame : Nat) ≤ n.1 + d) }
  let bad := t.g (K.CH_LANE c) == 255 || bit failing (t.g (K.CH_LANE c))
  due.foldl (fun s n => s.placeOne v c (t.coreAt c (t.tick + 1)) d bad n) t

theorem turnSource_same (h : (s.ch c).src = v.src c) : s.turnSource v c = s := if_pos h

theorem passChannel_pattern (h3 : v.src c = 3) (hs : (s.ch c).src = 3) : s.passChannel v failing c = s.placeDue v failing c := by
  have h1 : ¬v.src c = 1 := by omega
  unfold State.passChannel
  dsimp only
  rw [turnSource_same (hs.trans h3.symm), if_neg h1, if_pos (.inr h3)]
  rfl

/-- The channel with nothing waiting. -/
def State.noWait (s : State) (c : Nat) : State := s.setCh c { s.ch c with wait := [] }

/-- All nominal times that wait fall due. -/
theorem placeDue_all {ns : List (Int × Bool)} (hw : (s.ch c).wait = ns) (hd : ∀ n ∈ ns, n.1 + v.gi (K.CH_DELAY c) < ((s.fn + 2) * qFrame : Nat)) :
    s.placeDue v failing c = (ns.mergeSort (fun a b => a.1 ≤ b.1)).foldl (fun t n => t.placeOne v c (s.coreAt c (s.tick + 1)) (v.gi (K.CH_DELAY c))
      (s.g (K.CH_LANE c) == 255 || bit failing (s.g (K.CH_LANE c))) n) (s.noWait c) := by
  have hdue : ns.filter (fun n => n.1 + v.gi (K.CH_DELAY c) < ((s.fn + 2) * qFrame : Nat)) = ns :=
    List.filter_eq_self.2 fun n hn => decide_eq_true (hd n hn)
  have hrest : ns.filter (fun n => ((s.fn + 2) * qFrame : Nat) ≤ n.1 + v.gi (K.CH_DELAY c)) = [] :=
    List.filter_eq_nil_iff.2 fun n hn h => Int.not_le.2 (hd n hn) (of_decide_eq_true h)
  unfold State.placeDue
  dsimp only
  rw [hw, hdue, hrest]
  rfl

/-- The one nominal time that waits falls due. -/
theorem placeDue_one (hw : (s.ch c).wait = [(a, l)]) (hd : a + v.gi (K.CH_DELAY c) < ((s.fn + 2) * qFrame : Nat)) :
    s.placeDue v failing c = (s.noWait c).placeOne v c (s.coreAt c (s.tick + 1)) (v.gi (K.CH_DELAY c))
      (s.g (K.CH_LANE c) == 255 || bit failing (s.g (K.CH_LANE c))) (a, l) := by
  rw [placeDue_all hw (fun n hn => by rw [List.mem_singleton.1 hn]; exact hd), List.mergeSort_singleton]
  rfl

/-- A nominal time beyond the next frame waits. -/
theorem placeDue_far (hw : (s.ch c).wait = [(a, l)]) (hd : ((s.fn + 2) * qFrame : Nat) ≤ a + v.gi (K.CH_DELAY c)) :
    s.placeDue v failing c = s.setCh c { s.ch c with wait := [(a, l)] } := by
  have hdue : [(a, l)].filter (fun n => n.1 + v.gi (K.CH_DELAY c) < ((s.fn + 2) * qFrame : Nat)) = [] :=
    List.filter_eq_nil_iff.2 fun n hn h => Int.not_lt.2 hd (by rw [List.mem_singleton.1 hn] at h; exact of_decide_eq_true h)
  have hrest : [(a, l)].filter (fun n => ((s.fn + 2) * qFrame : Nat) ≤ n.1 + v.gi (K.CH_DELAY c)) = [(a, l)] :=
    List.filter_eq_self.2 fun n hn => decide_eq_true (by rw [List.mem_singleton.1 hn]; exact hd)
  unfold State.placeDue
  dsimp only
  rw [hw, hdue, hrest, List.mergeSort_nil]
  rfl

/-! ## One nominal time (R85 to R93) -/

section One
variable (hu : v.edgeTime c k (s.nextVern k) a d = (u : Int))
include hu

theorem placeOne_lane : s.placeOne v c k d true (a, l) = (s.setSrcLevel c l).withhold c k 5 u := by
  unfold State.placeOne
  dsimp only
  rw [hu, if_pos rfl]

theorem placeOne_late (h : u < (s.fn + 1) * qFrame) : s.placeOne v c k d false (a, l) = (s.setSrcLevel c l).withhold c k 1 u := by
  unfold State.placeOne
  dsimp only
  rw [hu, if_neg Bool.false_ne_true, if_pos (Int.ofNat_lt.2 h)]

variable (h1 : (s.fn + 1) * qFrame ≤ u) (h2 : u < (s.fn + 2) * qFrame)
include h1 h2

theorem placeOne_refused (hr : (s.setSrcLevel c l).placeReason c k u = some r) :
    s.placeOne v c k d false (a, l) = (s.setSrcLevel c l).withhold c k r u := by
  unfold State.placeOne
  dsimp only
  rw [hu, if_neg Bool.false_ne_true, if_neg (Int.not_lt.2 (Int.ofNat_le.2 h1)), if_neg (Int.not_le.2 (Int.ofNat_lt.2 h2)),
    Int.toNat_natCast, hr]

theorem placeOne_queued (hr : (s.setSrcLevel c l).placeReason c k u = none) :
    s.placeOne v c k d false (a, l) = (s.setSrcLevel c l).queueEdge c k (s.nextVern k) u l false := by
  unfold State.placeOne
  dsimp only
  rw [hu, if_neg Bool.false_ne_true, if_neg (Int.not_lt.2 (Int.ofNat_le.2 h1)), if_neg (Int.not_le.2 (Int.ofNat_lt.2 h2)),
    Int.toNat_natCast, hr]

end One

end Sys2Proof.Machine
end

section
/-! SUPPORT. PLACEMENT_PASS with one PATTERN channel: its nominal time is queued, withheld, or waits (R84 to R93, R107). -/

namespace Sys2Proof.Machine

variable {s t v w : State} {c k y u n r e failing f : Nat} {a d : Int} {l past : Bool}

/-! ## What the channel that places finds -/

theorem passObj_false {i sub : Nat} (hs : sub < 256) (h0 : sub ≠ 7 ∨ i % 32 ≠ 0) (h1 : sub ≠ 0x14) (h7 : sub ≠ 0xc)
    (hl : sub ≠ 0x10 ∧ sub ≠ 0x11) :
    passObj (key i sub 0) = false := by
  refine Bool.eq_false_iff.2 fun hp => ?_
  have h := passObj_place hp
  rw [keyIndex_key _ 0 hs (by decide), keySub_key _ 0 hs (by decide)] at h
  omega

theorem vern_kept (k : Nat) : passObj (K.CH_NEXT_VERNIER k) = false :=
  passObj_false (by decide) (.inl (by decide)) (by decide) (by decide) (by decide)

theorem peak_kept (k : Nat) : passObj (K.CH_QUEUE_PEAK k) = false :=
  passObj_false (by decide) (.inl (by decide)) (by decide) (by decide) (by decide)

namespace BeforeCh

theorem fn_eq (h : BeforeCh c y s t) : t.fn = s.fn :=
  h.g K.TS_FN (passObj_false (by decide) (.inl (by decide)) (by decide) (by decide) (by decide))

theorem tick_eq (h : BeforeCh c y s t) : t.tick = s.tick := by
  obtain ⟨o, ch, hf⟩ := h.form
  rw [hf]
  rfl

theorem bank_eq (h : BeforeCh c y s t) : t.bank = s.bank := by
  obtain ⟨o, ch, hf⟩ := h.form
  rw [hf]
  rfl

theorem core_eq (h : BeforeCh c y s t) : t.core = s.core := by
  obtain ⟨o, ch, hf⟩ := h.form
  rw [hf]
  exact core_of_coreHid rfl

theorem coreAt_eq (h : BeforeCh c y s t) (c' n : Nat) : t.coreAt c' n = s.coreAt c' n := by
  have hg : t.g (K.CH_CORE c') = s.g (K.CH_CORE c') :=
    h.g _ (passObj_false (by decide) (.inl (by decide)) (by decide) (by decide) (by decide))
  rw [State.coreAt, State.coreAt, h.bank_eq, hg]

theorem vern_eq (h : BeforeCh c y s t) (k : Nat) : t.nextVern k = s.nextVern k := h.g _ (vern_kept k)

theorem guarded_eq (h : BeforeCh c y s t) (c' n : Nat) : t.guarded c' n = s.guarded c' n := by
  have hg : t.g (K.SP_LAST_FN (bankOf c')) = s.g (K.SP_LAST_FN (bankOf c')) :=
    h.g _ (passObj_false (by decide) (.inl (by decide)) (by decide) (by decide) (by decide))
  have hfn : ∀ m, t.fnAt m = s.fnAt m := fun m => by rw [State.fnAt, State.fnAt, h.fn_eq, h.tick_eq]
  rw [State.guarded, State.guarded, h.bank_eq, hg]
  simp only [hfn]

end BeforeCh

/-! ## An edge withheld in a pass -/

/-- The counters of withheld edges are no objects of a pass. -/
theorem withheldObj_congr (h1 : 1 ≤ r) (h7 : r ≤ 7) (hg : ∀ j, passObj j = false → t.g j = s.g j) :
    t.withheldObj c k r n = s.withheldObj c k r n := by
  have hx : ∀ x, t.whObj x r n = s.whObj x r n := fun x => whObj_congr h1 h7 fun j hj hsub => hg j (Bool.eq_false_iff.2 fun hp => by
    have := passObj_place hp
    omega)
  rw [withheldObj_eq, withheldObj_eq, hx, hx]

/-- The state as an edge of the channel is placed: nothing waits, and the source has moved to the edge's level. -/
def State.placing (s : State) (c : Nat) (l : Bool) : State := (s.noWait c).setSrcLevel c l

theorem placing_core (s : State) (c : Nat) (l : Bool) : (s.placing c l).core = s.core := rfl
theorem placing_ev (s : State) (c : Nat) (l : Bool) : (s.placing c l).ev = s.ev := rfl
theorem placing_chHid (s : State) (c : Nat) (l : Bool) : (s.placing c l).chHid = (s.noWait c).chHid := rfl

theorem placing_ch_same (s : State) (c : Nat) (l : Bool) : (s.placing c l).ch c = { s.ch c with wait := [] } := by
  rw [ch_of_chHid (placing_chHid s c l), State.noWait, State.ch_setCh_same]

theorem placing_ch_other (s : State) (l : Bool) : ButAt (s.placing c l).ch s.ch c := fun z hz => by
  rw [ch_of_chHid (placing_chHid s c l), State.noWait, State.ch_setCh_other _ _ hz]

/-- What is left of an edge withheld in a pass. -/
theorem withheld_left (hb : BeforeCh c y s t) (hc : c < 64) (h1 : 1 ≤ r) (h7 : r ≤ 7) (he : whEvent r = some e)
    (hw : Passing c ((t.placing c l).withhold c k r u) w) :
    WritesBut s w passObj (s.withheldObj c k r u) ∧ (w.ch c).wait = [] ∧ (∀ z, (w.core z).queue = (s.core z).queue) ∧
      (e ≠ 39 → w.evMask e = s.evMask e ||| 2 ^ c) ∧ bit (w.evMask e) c = true := by
  have hwr := withhold_writes (t.placing c l) hc k h1 h7 u
  have hmask := withhold_evMask he (t.placing c l) c k u
  obtain ⟨o, ho⟩ := withhold_odOnly he (t.placing c l) c k u
  have hch : ((t.placing c l).withhold c k r u).ch = (t.placing c l).ch := by
    rw [ho]
    exact ch_of_chHid (State.raiseBits_chHid _ _ _)
  have hcore : ((t.placing c l).withhold c k r u).core = t.core := by
    rw [ho, raiseBits_form]
    exact core_of_coreHid rfl
  have hev : e ≠ 39 → w.evMask e = s.evMask e ||| 2 ^ c := fun h39 => by
    rw [evMask_congr (hw.ev e h39), hmask, evMask_congr (congrFun (placing_ev t c l) e), evMask_congr (hb.ev e h39)]
  refine ⟨fun j hj => ?_, ?_, fun z => ?_, hev, ?_⟩
  · have hg : ∀ i, passObj i = false → (t.placing c l).g i = s.g i := fun i hi => hb.g i hi
    rw [hw.g j hj, hwr j, Int.toNat_natCast, withheldObj_congr h1 h7 hg]
    exact after_congr (hg j hj) _
  · rw [hw.wait, hch, placing_ch_same]
  · rw [hw.queue, hcore, hb.core_eq]
  · by_cases h39 : e = 39
    · subst h39
      exact hw.mask c (by rw [hmask]; exact bit_or_two_pow _ c)
    · rw [hev h39]
      exact bit_or_two_pow _ c

/-! ## An edge queued in a pass -/

theorem placing_placeReason (hb : BeforeCh c y s t) (l : Bool) : (t.placing c l).placeReason c k u = s.placeReason c k u :=
  placeReason_congr (by rw [placing_ch_same]; exact hb.hist c) ((placing_core t c l).trans hb.core_eq) hb.fn_eq

/-- What is left of an edge queued in a pass, outside the guard windows of a swap. -/
theorem queued_left (hb : BeforeCh c y s t) {prox proxN : Bool} {e : QEdge} (hec : e.ch = c)
    (hw : Passing c ((t.placing c l).queued k e prox proxN) w) :
    WritesBut s w passObj [(K.CH_QUEUE_PEAK k, max (s.g (K.CH_QUEUE_PEAK k)) ((s.core k).queue.length + 1)), (K.CH_NEXT_VERNIER k, 1 - e.vern)] ∧
      (w.core k).queue = insEdge e (s.core k).queue ∧ (w.ch c).wait = [] ∧ (w.ch c).hist = e.t :: (s.ch c).hist.take 1 ∧
      (∀ z, z ≠ k → (w.core z).queue = (s.core z).queue) ∧ ∀ z, z ≠ c → (w.ch z).hist = (s.ch z).hist := by
  subst hec
  have hq := queued_queued (t.placing e.ch l) k e prox proxN
  have hwr := queued_writes (t.placing e.ch l) k e prox proxN
  have hcore : (t.placing e.ch l).core = s.core := (placing_core t e.ch l).trans hb.core_eq
  have hpk : (t.placing e.ch l).g (K.CH_QUEUE_PEAK k) = s.g (K.CH_QUEUE_PEAK k) := hb.g _ (peak_kept k)
  refine ⟨fun j hj => ?_, ?_, ?_, ?_, fun z hz => ?_, fun z hz => ?_⟩
  · rw [hw.g j hj, hwr j, hcore, hpk]
    exact after_congr (hb.g j hj) _
  · rw [hw.queue, hq.queue, hcore]
  · rw [hw.wait, hq.chan, placing_ch_same]
  · rw [hw.hist, hq.chan, placing_ch_same, hb.chan]
  · rw [hw.queue, hq.cores z hz, hcore]
  · rw [hw.hist, hq.chans z hz, placing_ch_other t l z hz, hb.hist]

/-- A time that does not fall due is left waiting. -/
theorem far_left (hb : BeforeCh c y s t) {ns : List (Int × Bool)} (hw : Passing c (t.setCh c { t.ch c with wait := ns }) w) :
    WritesBut s w passObj [] ∧ (w.ch c).wait = ns ∧ ∀ z, (w.core z).queue = (s.core z).queue := by
  refine ⟨fun j hj => (hw.g j hj).trans (hb.g j hj), ?_, fun z => (hw.queue z).trans (hb.queue z)⟩
  rw [hw.wait, State.ch_setCh_same]

/-! ## The lanes (R105) -/

theorem lowestLane_lt {out need x : Nat} {loads : List Nat} (h : lowestLane out loads need = some x) : x < 12 := by
  unfold lowestLane at h
  refine List.foldlRecOn (motive := fun b : Option Nat => ∀ z, b = some z → z < 12) _ _ (fun z hz => by cases hz) (fun b hb z hz i hi => ?_) x h
  have hz : z < 12 := List.mem_range.1 (List.mem_filter.1 hz).1
  cases b with
  | none => exact Option.some.inj hi ▸ hz
  | some b =>
    dsimp only at hi
    split at hi
    · exact Option.some.inj hi ▸ hz
    · exact hb i hi

/-- A lane assigned is one of the twelve. -/
theorem lanes_lt {out x : Nat} {p : Nat × Option Nat × Bool} (hp : p ∈ s.lanes out) (hx : p.2.1 = some x) : x < 12 := by
  unfold State.lanes at hp
  refine List.foldlRecOn (motive := fun acc : List (Nat × Option Nat × Bool) × List Nat => ∀ q ∈ acc.1, ∀ z, q.2.1 = some z → z < 12) _ _
    (fun q hq => absurd hq List.not_mem_nil) (fun acc ih c _ q hq z hz => ?_) p hp x hx
  have hnew : q ∈ acc.1 ∨ q.2.1 = (if (s.g (K.CH_LANE_PIN c) < 12 && !bit out (s.g (K.CH_LANE_PIN c))) = true ∧
      acc.2.getD (s.g (K.CH_LANE_PIN c)) 0 + s.planned c ≤ laneLimit out then some (s.g (K.CH_LANE_PIN c)) else lowestLane out acc.2 (s.planned c)) := by
    dsimp only at hq
    split at hq
    · exact (List.mem_append.1 hq).imp id fun h => by rw [List.mem_singleton.1 h]
    · next he => exact (List.mem_append.1 hq).imp id fun h => by rw [List.mem_singleton.1 h]; exact he.symm
  rcases hnew with hq | hq
  · exact ih q hq z hz
  · rw [hq] at hz
    split at hz
    · next hgood =>
      have h12 := (Bool.and_eq_true_iff.1 hgood.1).1
      exact Option.some.inj hz ▸ of_decide_eq_true h12
    · exact lowestLane_lt hz

/-! ## The command -/

theorem noOut_src (s : State) : s.noOut.src = s.src := rfl

theorem noOut_gi (s : State) : s.noOut.gi = s.gi := rfl

theorem noOut_fn (s : State) : s.noOut.fn = s.fn := rfl

theorem lanes_noOut (s : State) (n : Nat) : s.noOut.lanes n = s.lanes n := rfl

section Alone
variable (h2 : 2 ≤ s.mode) (hp : s.passed = false) (h10 : s.mode ≠ 10) (hc : c < 64) (hsq : ∀ q ∈ List.range 8, s.g (K.SQ_STATE q) = 0)
  (hoth : ∀ z ∈ List.range 64, z ≠ c → s.ahead.src z ≠ 1 ∧ s.ahead.src z ≠ 3)
  (hlane : (s.ahead.lanes s.lanesOut).find? (fun z => z.1 == c) = some (c, some y, past))
include h2 hp h10 hc hsq hoth hlane

/-- A pass in which one channel alone may place. -/
theorem gives_alone {P : State → Prop} (h : ∀ t w, BeforeCh c y s.noOut t → Passing c (t.passChannel s.ahead.noOut (s.failing f) c) w →
    P (s.withPending w)) : Gives (.placementPass f) s (fun t => P t ∧ PassStill s t) := by
  refine gives_pass h2 hp ?_
  have hoth' : ∀ z ∈ List.range 64, z ≠ c → s.noOut.ahead.src z ≠ 1 ∧ s.noOut.ahead.src z ≠ 3 := by
    rw [ahead_noOut, noOut_src]
    exact hoth
  obtain ⟨t, hb, hpass⟩ := pass_one (s := s.noOut) (f := f) hc h10 hsq hoth'
  have hl : laneIn (s.noOut.ahead.lanes s.noOut.lanesOut) c = y := by
    have hn : s.noOut.lanesOut = s.lanesOut := rfl
    rw [ahead_noOut, lanes_noOut, hn, laneIn, hlane]
    rfl
  have hf : s.noOut.failing f = s.failing f := rfl
  rw [hl] at hb
  rw [ahead_noOut, hf] at hpass
  exact h t _ hb hpass

variable (h3 : s.ahead.src c = 3) (hs : (s.ch c).src = 3) (hw : (s.ch c).wait = [(a, l)])
include h3 hs hw

/-- A nominal time of a PATTERN channel beyond the next frame. -/
theorem gives_pattern_far (hd : ((s.fn + 2) * qFrame : Nat) ≤ a + s.ahead.gi (K.CH_DELAY c)) :
    Gives (.placementPass f) s (fun t => (WritesBut s t passObj [] ∧ (t.ch c).wait = [(a, l)] ∧
      ∀ z, (t.core z).queue = (s.core z).queue) ∧ PassStill s t) := by
  refine gives_alone h2 hp h10 hc hsq hoth hlane fun t w hb hpass => ?_
  have hts : (t.ch c).src = 3 := by rw [hb.chan]; exact hs
  have h3' : s.ahead.noOut.src c = 3 := by rw [noOut_src]; exact h3
  have htw : (t.ch c).wait = [(a, l)] := by rw [hb.chan]; exact hw
  have hd' : ((t.fn + 2) * qFrame : Nat) ≤ a + s.ahead.noOut.gi (K.CH_DELAY c) := by rw [hb.fn_eq, noOut_fn, noOut_gi]; exact hd
  rw [passChannel_pattern h3' hts, placeDue_far htw hd'] at hpass
  obtain ⟨hwr, hwait, hq⟩ := far_left hb hpass
  exact ⟨hwr, hwait, hq⟩

variable (hk : s.coreAt c (s.tick + 1) = k) (hd : a + s.ahead.gi (K.CH_DELAY c) < ((s.fn + 2) * qFrame : Nat))
include hk hd

omit h2 hp h10 hc hsq hoth hlane in
theorem passChannel_due (hb : BeforeCh c y s.noOut t) : t.passChannel s.ahead.noOut failing c =
    (t.noWait c).placeOne s.ahead.noOut c k (s.ahead.gi (K.CH_DELAY c)) (y == 255 || bit failing y) (a, l) := by
  have hts : (t.ch c).src = 3 := by rw [hb.chan]; exact hs
  have h3' : s.ahead.noOut.src c = 3 := by rw [noOut_src]; exact h3
  have htw : (t.ch c).wait = [(a, l)] := by rw [hb.chan]; exact hw
  have hd' : a + s.ahead.noOut.gi (K.CH_DELAY c) < ((t.fn + 2) * qFrame : Nat) := by rw [hb.fn_eq, noOut_fn, noOut_gi]; exact hd
  have hk' : t.coreAt c (t.tick + 1) = k := by rw [hb.coreAt_eq, hb.tick_eq]; exact hk
  rw [passChannel_pattern h3' hts, placeDue_one htw hd', hk', hb.lane, noOut_gi]

variable (hu : s.ahead.edgeTime c k (s.nextVern k) a (s.ahead.gi (K.CH_DELAY c)) = (u : Int))
include hu

omit h2 hp h10 hc hsq hoth hlane h3 hs hw hk hd in
theorem time_before (hb : BeforeCh c y s.noOut t) :
    s.ahead.noOut.edgeTime c k ((t.noWait c).nextVern k) a (s.ahead.gi (K.CH_DELAY c)) = (u : Int) := by
  have hv : (t.noWait c).nextVern k = s.nextVern k := hb.vern_eq k
  rw [hv, edgeTime_noOut]
  exact hu

/-- The channel's lane fails its check. -/
theorem gives_pattern_lane (hbit : bit (s.failing f) y = true) :
    Gives (.placementPass f) s (fun t => (WritesBut s t passObj (s.withheldObj c k 5 u) ∧ bit (t.evMask 39) c = true ∧
      (t.ch c).wait = [] ∧ ∀ z, (t.core z).queue = (s.core z).queue) ∧ PassStill s t) := by
  refine gives_alone h2 hp h10 hc hsq hoth hlane fun t w hb hpass => ?_
  rw [passChannel_due h3 hs hw hk hd hb, hbit, Bool.or_true, placeOne_lane (time_before hu hb)] at hpass
  obtain ⟨hwr, hwait, hq, -, hev⟩ := withheld_left (l := l) hb hc (r := 5) (by decide) (by decide) rfl hpass
  exact ⟨hwr, hev, hwait, hq⟩

variable (hbit : bit (s.failing f) y = false)
include hbit

omit h2 hp h10 hc hsq hoth hk hd h3 hs hw hu in
theorem lane_good : (y == 255 || bit (s.failing f) y) = false := by
  have h12 : y < 12 := lanes_lt (List.mem_of_find?_eq_some hlane) rfl
  have hne : (y == 255) = false := beq_false_of_ne (by omega)
  rw [hne, hbit, Bool.false_or]

/-- The edge time lies before the next frame. -/
theorem gives_pattern_late (hlt : u < (s.fn + 1) * qFrame) :
    Gives (.placementPass f) s (fun t => (WritesBut s t passObj (s.withheldObj c k 1 u) ∧ t.evMask 37 = s.evMask 37 ||| 2 ^ c ∧
      (t.ch c).wait = [] ∧ ∀ z, (t.core z).queue = (s.core z).queue) ∧ PassStill s t) := by
  refine gives_alone h2 hp h10 hc hsq hoth hlane fun t w hb hpass => ?_
  have hlt' : u < ((t.noWait c).fn + 1) * qFrame := by rw [show (t.noWait c).fn = s.fn from hb.fn_eq]; exact hlt
  rw [passChannel_due h3 hs hw hk hd hb, lane_good hlane hbit, placeOne_late (time_before hu hb) hlt'] at hpass
  obtain ⟨hwr, hwait, hq, hev, -⟩ := withheld_left (l := l) hb hc (r := 1) (by decide) (by decide) rfl hpass
  exact ⟨hwr, hev (by decide), hwait, hq⟩

variable (hlo : (s.fn + 1) * qFrame ≤ u) (hhi : u < (s.fn + 2) * qFrame)
include hlo hhi

/-- The edge fails one of the checks on its channel and core. -/
theorem gives_pattern_refused (hr : s.placeReason c k u = some r) :
    Gives (.placementPass f) s (fun t => (WritesBut s t passObj (s.withheldObj c k r u) ∧
      (∀ e, whEvent r = some e → bit (t.evMask e) c = true) ∧ (t.ch c).wait = [] ∧ ∀ z, (t.core z).queue = (s.core z).queue) ∧
      PassStill s t) := by
  refine gives_alone h2 hp h10 hc hsq hoth hlane fun t w hb hpass => ?_
  have hfn : (t.noWait c).fn = s.fn := hb.fn_eq
  obtain ⟨h1, h5⟩ := placeReason_mem hr
  have he : ∃ e, whEvent r = some e := by
    interval_cases r <;> exact ⟨_, rfl⟩
  obtain ⟨e, he⟩ := he
  rw [passChannel_due h3 hs hw hk hd hb, lane_good hlane hbit,
    placeOne_refused (time_before hu hb) (hfn ▸ hlo) (hfn ▸ hhi) ((placing_placeReason hb l).trans hr)] at hpass
  obtain ⟨hwr, hwait, hq, -, hev⟩ := withheld_left (l := l) hb hc h1 (by omega) he hpass
  refine ⟨hwr, fun e' he' => ?_, hwait, hq⟩
  rw [he] at he'
  exact Option.some.inj he' ▸ hev

/-- The edge is queued. -/
theorem gives_pattern_queued (hr : s.placeReason c k u = none) (hg : s.guarded c u = false) :
    Gives (.placementPass f) s (fun t => (WritesBut s t passObj
        [(K.CH_QUEUE_PEAK k, max (s.g (K.CH_QUEUE_PEAK k)) ((s.core k).queue.length + 1)), (K.CH_NEXT_VERNIER k, 1 - s.nextVern k)] ∧
      (t.core k).queue = insEdge { t := u, ch := c, level := l, vern := s.nextVern k, trig := false } (s.core k).queue ∧
      (t.ch c).wait = [] ∧ (t.ch c).hist = u :: (s.ch c).hist.take 1 ∧ (∀ z, z ≠ k → (t.core z).queue = (s.core z).queue) ∧
      ∀ z, z ≠ c → (t.ch z).hist = (s.ch z).hist) ∧ PassStill s t) := by
  refine gives_alone h2 hp h10 hc hsq hoth hlane fun t w hb hpass => ?_
  have hfn : (t.noWait c).fn = s.fn := hb.fn_eq
  have hv : (t.noWait c).nextVern k = s.nextVern k := hb.vern_eq k
  have hg' : (t.placing c l).guarded c u = false := (hb.guarded_eq c u).trans hg
  obtain ⟨prox, proxN, hq⟩ := queueEdge_free (k := k) (v := s.nextVern k) (l := l) (trig := false) hg'
  rw [passChannel_due h3 hs hw hk hd hb, lane_good hlane hbit,
    placeOne_queued (time_before hu hb) (hfn ▸ hlo) (hfn ▸ hhi) ((placing_placeReason hb l).trans hr), hv] at hpass
  rw [State.placing] at hq
  rw [hq] at hpass
  exact queued_left (l := l) hb rfl hpass

end Alone

end Sys2Proof.Machine
end

section
/-! SUPPORT. PLACEMENT_PASS with one DIRECT channel: a pulse of a rule gives its two edges (R75 to R78, R88 to R93). -/

namespace Sys2Proof.Machine

variable {s t v w : State} {c k y u u2 n failing f : Nat} {a a2 hi d : Int} {r : RuleVal} {past : Bool}

/-! ## One pulse -/

theorem firstJ_one (hc : r.count = 1) (h : r.epoch < hi) : firstJ r hi = 1 := by
  have hpos : 1 ≤ (ceilDivI (hi - r.epoch) (max 1 r.period.toNat)).toNat := by
    have hneg := Int.ediv_neg_of_neg_of_pos (a := -(hi - r.epoch)) (b := (max 1 r.period.toNat : Nat)) (by omega) (by omega)
    rw [ceilDivI]
    omega
  unfold firstJ
  dsimp only
  rw [hc, if_neg Nat.one_ne_zero]
  exact Nat.min_eq_right hpos

theorem pulses_one (hc : r.count = 1) (h : r.epoch < hi) : pulses r 0 hi = [(r.epoch, r.epoch + r.width)] := by
  rw [pulses, firstJ_one hc h]
  simp

/-- A pulse that ends within the time at hand is two level changes. -/
theorem levelChanges_pulse (h : a < a2) (h2 : a2 < hi) : levelChanges [(a, a2)] false hi = [(a, true), (a2, false)] := by
  have hsort : sortTimes [a, a2] = [a, a2] := by
    have hm : [a, a2].mergeSort (· ≤ ·) = [a, a2] := List.mergeSort_of_pairwise (by simp [Int.le_of_lt h])
    have hne : a2 ≠ a := fun e => Int.lt_irrefl a (e ▸ h)
    rw [sortTimes, hm]
    simp [List.eraseDups_cons, hne]
  have hfil : [a, a2].filter (· < hi) = [a, a2] := by
    simp [h2, Int.lt_trans h h2]
  unfold levelChanges
  rw [List.flatMap_singleton, hsort, hfil]
  simp [h]

/-! ## The rules of a channel expanded -/

/-- The rules of a channel. -/
def State.rulesOf (v : State) (c : Nat) : List RuleVal := (List.range 4).map (v.ruleVal c)

/-- The nominal time at which the next frame of a channel ends. -/
def State.ruleEnd (s v : State) (c : Nat) : Int := ((s.fn + 2) * qFrame : Nat) - v.gi (K.CH_DELAY c)

/-- The pulse that each rule of a channel continues from. -/
def State.ruleStarts (s v : State) (c : Nat) : List Nat :=
  (List.range 4).map (fun k =>
    let r := (v.rulesOf c).getD k {}
    let j := s.g (K.RULE_NEXT_J c k)
    if (s.ch c).src = 1 ∧ (s.ch c).rules.getD k {} = r then (if r.openAt (s.ch c).begun j then j + 1 else j)
    else firstJ r (((s.fn + 1) * qFrame : Nat) - v.gi (K.CH_DELAY c)))

/-- The pulses of a channel's rules that its next frame may show. -/
def State.rulePulses (s v : State) (c : Nat) : List (Int × Int) :=
  (s.ch c).begun.map (fun x => (x - 2 ^ 63, x)) ++ (List.range 4).flatMap (fun k =>
    if ((v.rulesOf c).getD k {}).on then pulses ((v.rulesOf c).getD k {}) ((s.ruleStarts v c).getD k 0) (s.ruleEnd v c) else [])

/-- The deasserts that lie after the next frame of a channel. -/
def State.ruleLeft (s v : State) (c : Nat) : List Int := ((s.rulePulses v c).filter (fun p => s.ruleEnd v c ≤ p.2)).map (·.2)

/-- The next pulse of a rule counted. -/
def State.ruleStep (s : State) (c : Nat) (rs : List RuleVal) (js : List Nat) (left : List Int) (hi : Int) (k : Nat) : State :=
  let r := rs.getD k {}
  let j := if r.on then max (js.getD k 0) (firstJ r hi) else js.getD k 0
  let j := if 0 < j ∧ r.openAt left (j - 1) then j - 1 else j
  (s.p (K.RULE_NEXT_J c k) j).p (K.RULE_DONE c k) (b2n (r.count != 0 && r.count ≤ j))

/-- The next pulses of a channel's rules counted. -/
def State.ruleSteps (s v : State) (c : Nat) : State :=
  s.each (List.range 4) (fun t k => t.ruleStep c (v.rulesOf c) (s.ruleStarts v c) (s.ruleLeft v c) (s.ruleEnd v c) k)

theorem expand_eq (s v : State) (c : Nat) : s.expand v c = (s.ruleSteps v c).setCh c { (s.ruleSteps v c).ch c with
    rules := v.rulesOf c, begun := s.ruleLeft v c,
    wait := ((s.ruleSteps v c).ch c).wait ++ levelChanges (s.rulePulses v c) (!(s.ch c).begun.isEmpty) (s.ruleEnd v c) } := rfl

theorem ruleSteps_odOnly (s v : State) (c : Nat) : OdOnly s (s.ruleSteps v c) := by
  unfold State.ruleSteps
  generalize s.ruleStarts v c = js
  generalize s.ruleLeft v c = left
  generalize s.ruleEnd v c = hi
  generalize List.range 4 = ks
  induction ks generalizing s with
  | nil => exact OdOnly.refl s
  | cons k ks ih => exact (((OdOnly.refl s).p _ _).p _ _).trans (ih _)

/-- A channel whose first rule alone is on, with one pulse that lies within its next frame. -/
structure OnePulse (s v : State) (c : Nat) (a a2 : Int) : Prop where
  src : (s.ch c).src = 1
  wait : (s.ch c).wait = []
  begun : (s.ch c).begun = []
  hist : (s.ch c).hist = []
  rules : (s.ch c).rules = v.rulesOf c
  off : ∀ z ∈ [1, 2, 3], v.g (K.RULE_ENABLE c z) = 0
  on : v.g (K.RULE_ENABLE c 0) = 1
  count : v.g (K.RULE_COUNT c 0) = 1
  next : s.g (K.RULE_NEXT_J c 0) = 0
  epoch : (time92 (v.g (K.RULE_EPOCH c 0)) : Int) = a
  stop : a + v.gi (K.RULE_WIDTH c 0) = a2
  width : 0 < v.gi (K.RULE_WIDTH c 0)
  due : a2 + v.gi (K.CH_DELAY c) < ((s.fn + 2) * qFrame : Nat)

namespace OnePulse

theorem lt (h : OnePulse s v c a a2) : a < a2 := by
  have hs := h.stop
  have hw := h.width
  omega

theorem end_gt (h : OnePulse s v c a a2) : a2 < s.ruleEnd v c := by
  have hd := h.due
  unfold State.ruleEnd
  omega

theorem rule (v : State) (c : Nat) : (v.rulesOf c).getD 0 {} = v.ruleVal c 0 := rfl

theorem rule_on (h : OnePulse s v c a a2) : (v.ruleVal c 0).on = true := by
  rw [State.ruleVal, State.gb, h.on]
  rfl

theorem rule_count (h : OnePulse s v c a a2) : (v.ruleVal c 0).count = 1 := h.count

theorem rule_epoch (h : OnePulse s v c a a2) : (v.ruleVal c 0).epoch = a := h.epoch

theorem rule_stop (h : OnePulse s v c a a2) : (v.ruleVal c 0).epoch + (v.ruleVal c 0).width = a2 := by
  rw [h.rule_epoch]
  exact h.stop

theorem firstJ_eq (h : OnePulse s v c a a2) : firstJ (v.ruleVal c 0) (s.ruleEnd v c) = 1 :=
  firstJ_one h.rule_count (h.rule_epoch ▸ Int.lt_trans h.lt h.end_gt)

theorem start_eq (h : OnePulse s v c a a2) : (s.ruleStarts v c).getD 0 0 = 0 := by
  have he : (s.ruleStarts v c).getD 0 0 = if (s.ch c).src = 1 ∧ (s.ch c).rules.getD 0 {} = v.ruleVal c 0 then
      (if (v.ruleVal c 0).openAt (s.ch c).begun (s.g (K.RULE_NEXT_J c 0)) then s.g (K.RULE_NEXT_J c 0) + 1 else s.g (K.RULE_NEXT_J c 0))
    else firstJ (v.ruleVal c 0) (((s.fn + 1) * qFrame : Nat) - v.gi (K.CH_DELAY c)) := rfl
  have hr : (s.ch c).rules.getD 0 {} = v.ruleVal c 0 := by rw [h.rules]; rfl
  have ho : (v.ruleVal c 0).openAt [] 0 = false := Bool.and_false _
  rw [he, if_pos ⟨h.src, hr⟩, h.begun, h.next, ho, if_neg Bool.false_ne_true]

theorem pulses_eq (h : OnePulse s v c a a2) : s.rulePulses v c = [(a, a2)] := by
  have hoff : ∀ z ∈ [1, 2, 3], (v.ruleVal c z).on = false := fun z hz => by
    rw [State.ruleVal, State.gb, h.off z hz]
    rfl
  have he : s.rulePulses v c = (s.ch c).begun.map (fun x => (x - 2 ^ 63, x)) ++ [0, 1, 2, 3].flatMap (fun k =>
      if (v.ruleVal c k).on then pulses (v.ruleVal c k) ((s.ruleStarts v c).getD k 0) (s.ruleEnd v c) else []) := rfl
  have hp : pulses (v.ruleVal c 0) 0 (s.ruleEnd v c) = [(a, a2)] := by
    rw [pulses_one h.rule_count (h.rule_epoch ▸ Int.lt_trans h.lt h.end_gt), h.rule_stop, h.rule_epoch]
  rw [he, h.begun]
  simp only [List.map_nil, List.nil_append, List.flatMap_cons, List.flatMap_nil, h.rule_on, hoff 1 (by decide), hoff 2 (by decide),
    hoff 3 (by decide), h.start_eq, hp, if_true, Bool.false_eq_true, if_false, List.append_nil]

theorem left_eq (h : OnePulse s v c a a2) : s.ruleLeft v c = [] := by
  have hlt := h.end_gt
  rw [State.ruleLeft, h.pulses_eq]
  simp [Int.not_le.2 hlt]

theorem step_first (h : OnePulse s v c a a2) (t : State) :
    t.ruleStep c (v.rulesOf c) (s.ruleStarts v c) (s.ruleLeft v c) (s.ruleEnd v c) 0 = (t.p (K.RULE_NEXT_J c 0) 1).p (K.RULE_DONE c 0) 1 := by
  have ho : (v.ruleVal c 0).openAt [] 0 = false := Bool.and_false _
  have hn : ¬(0 < 1 ∧ (v.ruleVal c 0).openAt [] 0 = true) := fun hc => by rw [ho] at hc; exact absurd hc.2 Bool.false_ne_true
  unfold State.ruleStep
  dsimp only
  rw [rule, h.left_eq, h.start_eq, h.firstJ_eq, h.rule_on, h.rule_count, if_pos rfl]
  have hmax : max 0 1 = 1 := rfl
  rw [hmax, if_neg hn]
  rfl

end OnePulse

end Sys2Proof.Machine
end

section
/-! SUPPORT. PLACEMENT_PASS: the two edges of a pulse placed one after the other (R77, R88 to R93). -/

namespace Sys2Proof.Machine

variable {s t v w : State} {c k y u u2 n failing f : Nat} {a a2 d : Int} {l past : Bool}

/-! ## The rules of a channel counted (R78) -/

/-- The counters of a channel's rules. -/
theorem ruleSteps_g {j : Nat} (hj : ∀ i, j ≠ K.RULE_NEXT_J c i ∧ j ≠ K.RULE_DONE c i) : (s.ruleSteps v c).g j = s.g j := by
  refine each_keeps (fun u => u.g j) (List.range 4) s fun u i _ => ?_
  unfold State.ruleStep
  dsimp only
  rw [State.g_p_other _ _ (hj i).2, State.g_p_other _ _ (hj i).1]

theorem ruleKey_inj {i i' sub sub' : Nat} (hs : sub < 256) (hs' : sub' < 256)
    (h : key (0x5002 + 0x20 * c + i) sub 0 = key (0x5002 + 0x20 * c + i') sub' 0) :
    i = i' ∧ sub = sub' := by
  rw [key_inj] at h <;> omega

theorem ruleSteps_first (h : OnePulse s v c a a2) :
    (s.ruleSteps v c).g (K.RULE_NEXT_J c 0) = 1 ∧ (s.ruleSteps v c).g (K.RULE_DONE c 0) = 1 := by
  have hnd : K.RULE_NEXT_J c 0 ≠ K.RULE_DONE c 0 := fun e => absurd (ruleKey_inj (by decide) (by decide) e).2 (by decide)
  have hself : ∀ u : State, ((u.p (K.RULE_NEXT_J c 0) 1).p (K.RULE_DONE c 0) 1).g (K.RULE_NEXT_J c 0) = 1 ∧
      ((u.p (K.RULE_NEXT_J c 0) 1).p (K.RULE_DONE c 0) 1).g (K.RULE_DONE c 0) = 1 := fun u => by
    rw [State.g_p_other _ _ hnd, State.g_p, if_pos rfl, State.g_p, if_pos rfl]
    exact ⟨rfl, rfl⟩
  refine each_all (I := fun _ => True) (Q := fun i u => i = 0 → u.g (K.RULE_NEXT_J c 0) = 1 ∧ u.g (K.RULE_DONE c 0) = 1) (fun _ _ _ => trivial)
    (fun u i _ hi => ?_) (fun u x i _ hq hi => ?_) (List.range 4) s trivial 0 (.inl (by decide)) rfl
  · subst hi
    rw [h.step_first]
    exact hself u
  · by_cases hx : x = 0
    · subst hx
      rw [h.step_first]
      exact hself u
    · have hne : ∀ sub sub', sub < 256 → sub' < 256 → key (0x5002 + 0x20 * c + 0) sub 0 ≠ key (0x5002 + 0x20 * c + x) sub' 0 :=
        fun sub sub' hs hs' e => hx (ruleKey_inj hs hs' e).1.symm
      have hkeep : ∀ sub m m', sub < 256 → ((u.p (K.RULE_NEXT_J c x) m).p (K.RULE_DONE c x) m').g (key (0x5002 + 0x20 * c + 0) sub 0) =
          u.g (key (0x5002 + 0x20 * c + 0) sub 0) := fun sub m m' hs =>
        (State.g_p_other _ _ (hne sub 8 hs (by decide))).trans (State.g_p_other _ _ (hne sub 7 hs (by decide)))
      exact ⟨(hkeep 7 _ _ (by decide)).trans (hq hi).1, (hkeep 8 _ _ (by decide)).trans (hq hi).2⟩

/-- The channel once its pulse is two nominal times that wait. -/
def State.expanded (s v : State) (o : Sp Nat) (c : Nat) (a a2 : Int) : State :=
  (s.withOd o).setCh c { s.ch c with rules := v.rulesOf c, begun := [], wait := [(a, true), (a2, false)] }

theorem expand_one (h : OnePulse s v c a a2) : ∃ o, s.expand v c = s.expanded v o c a a2 ∧ (s.ruleSteps v c).g = (s.withOd o).g := by
  obtain ⟨o, ho⟩ := ruleSteps_odOnly s v c
  have hch : (s.ruleSteps v c).ch c = s.ch c := by
    rw [ho]
    exact congrFun (ch_of_chHid rfl) c
  refine ⟨o, ?_, by rw [ho]⟩
  have hl := levelChanges_pulse h.lt h.end_gt
  rw [expand_eq, hch, h.pulses_eq, h.left_eq, h.wait, h.begun, ho, State.expanded]
  have hb : (!([] : List Int).isEmpty) = false := rfl
  rw [hb, hl, List.nil_append]

/-! ## Two edges of a channel (R88 to R93) -/

theorem guarded_none (hch : (s.bank (bankOf c)).change = none) (hm : (s.bank (bankOf c)).moved.contains c = false) (n : Nat) :
    s.guarded c n = false := by
  unfold State.guarded
  dsimp only
  rw [hch, hm]
  rfl

theorem frameOf_eq {m : Nat} (h1 : (m + 1) * qFrame ≤ n) (h2 : n < (m + 2) * qFrame) : frameOf n = m + 1 := Nat.div_eq_of_lt_le h1 h2

theorem edgesFor_next (s : State) (k : Nat) :
    s.edgesFor k (s.fn + 1) = ((s.core k).queue.filter (fun e => frameOf e.t == s.fn + 1)).length := by
  have h : ¬s.fn + 1 = s.fn := Nat.succ_ne_self s.fn
  rw [State.edgesFor, if_neg h, Nat.add_zero]

theorem placeReason_first (hh : (s.ch c).hist = []) (hn : s.edgesFor k (frameOf u) < 256) (hl : (s.core k).queue.length < 512) :
    s.placeReason c k u = none := by
  have hno : ¬(256 ≤ s.edgesFor k (frameOf u) ∨ 512 ≤ (s.core k).queue.length) := by omega
  rw [State.placeReason, hh]
  exact if_neg hno

theorem placeReason_second (hh : (s.ch c).hist = [u]) (hu : u + 1573 ≤ u2) (hn : s.edgesFor k (frameOf u2) < 256)
    (hl : (s.core k).queue.length < 512) : s.placeReason c k u2 = none := by
  have h1 : ¬u2 ≤ u := by omega
  have h2 : ¬(u2 - u < 1573 ∨ ([] : List Nat).head?.any (fun t2 => decide (u2 - t2 < 16384)) = true) := by
    simp
    omega
  have h3 : ¬(256 ≤ s.edgesFor k (frameOf u2) ∨ 512 ≤ (s.core k).queue.length) := by omega
  rw [State.placeReason, hh]
  exact (if_neg h1).trans ((if_neg h2).trans (if_neg h3))

/-- One edge of a channel queued outside the guard windows, its source moved to its level. -/
def State.edgeQueued (s : State) (k : Nat) (e : QEdge) (prox proxN : Bool) : State := (s.setSrcLevel e.ch e.level).queued k e prox proxN


theorem placeOne_free (hu : v.edgeTime c k (s.nextVern k) a d = (u : Int)) (h1 : (s.fn + 1) * qFrame ≤ u) (h2 : u < (s.fn + 2) * qFrame)
    (hr : s.placeReason c k u = none) (hg : s.guarded c u = false) : ∃ prox proxN, s.placeOne v c k d false (a, l) =
      s.edgeQueued k { t := u, ch := c, level := l, vern := s.nextVern k, trig := false } prox proxN := by
  obtain ⟨prox, proxN, hq⟩ := queueEdge_free (s := s.setSrcLevel c l) (k := k) (v := s.nextVern k) (l := l) (trig := false) hg
  exact ⟨prox, proxN, (placeOne_queued (l := l) hu h1 h2 hr).trans hq⟩

section Queued
variable (s : State) (k : Nat) (e : QEdge) (prox proxN : Bool)

theorem edgeQueued_writes : Writes s (s.edgeQueued k e prox proxN)
    [(K.CH_QUEUE_PEAK k, max (s.g (K.CH_QUEUE_PEAK k)) ((s.core k).queue.length + 1)), (K.CH_NEXT_VERNIER k, 1 - e.vern)] :=
  queued_writes (s.setSrcLevel e.ch e.level) k e prox proxN

theorem edgeQueued_queue : ((s.edgeQueued k e prox proxN).core k).queue = insEdge e (s.core k).queue :=
  (queued_queued (s.setSrcLevel e.ch e.level) k e prox proxN).queue

theorem edgeQueued_cores : ButAt (s.edgeQueued k e prox proxN).core s.core k :=
  (queued_queued (s.setSrcLevel e.ch e.level) k e prox proxN).cores

theorem edgeQueued_hist : ((s.edgeQueued k e prox proxN).ch e.ch).hist = e.t :: (s.ch e.ch).hist.take 1 :=
  congrArg ChHid.hist (queued_queued (s.setSrcLevel e.ch e.level) k e prox proxN).chan

theorem edgeQueued_chans : ButAt (s.edgeQueued k e prox proxN).ch s.ch e.ch :=
  (queued_queued (s.setSrcLevel e.ch e.level) k e prox proxN).chans

theorem edgeQueued_vern : (s.edgeQueued k e prox proxN).nextVern k = 1 - e.vern :=
  (queued_queued (s.setSrcLevel e.ch e.level) k e prox proxN).vern

theorem edgeQueued_bank : (s.edgeQueued k e prox proxN).bank = s.bank := by
  obtain ⟨o, co, ch, h⟩ := (queued_queued (s.setSrcLevel e.ch e.level) k e prox proxN).form
  rw [State.edgeQueued, h]
  rfl

/-- Of the objects only the core's peak and its next vernier change. -/
theorem edgeQueued_g {j : Nat} (h1 : j ≠ K.CH_QUEUE_PEAK k) (h2 : j ≠ K.CH_NEXT_VERNIER k) : (s.edgeQueued k e prox proxN).g j = s.g j := by
  rw [edgeQueued_writes, after, if_neg h1, after, if_neg h2, after]

theorem edgeQueued_fn : (s.edgeQueued k e prox proxN).fn = s.fn :=
  edgeQueued_g s k e prox proxN (by rw [K.TS_FN, K.CH_QUEUE_PEAK, Ne, key_inj] <;> omega) (by rw [K.TS_FN, K.CH_NEXT_VERNIER, Ne, key_inj] <;> omega)

end Queued

/-- The rising edge of a pulse on a core. -/
def riseEdge (c u vern : Nat) : QEdge := { t := u, ch := c, level := true, vern := vern, trig := false }

/-- The falling edge of a pulse on a core. -/
def fallEdge (c u vern : Nat) : QEdge := { t := u, ch := c, level := false, vern := vern, trig := false }

/-- Both edges of a pulse pass the checks, and are queued by one vernier and the other. -/
theorem pulse_placed (hh : (s.ch c).hist = []) (hch : (s.bank (bankOf c)).change = none) (hm : (s.bank (bankOf c)).moved.contains c = false)
    (hu : v.edgeTime c k (s.nextVern k) a d = (u : Int)) (hu2 : v.edgeTime c k (1 - s.nextVern k) a2 d = (u2 : Int))
    (hlo : (s.fn + 1) * qFrame ≤ u) (hgap : u + 1573 ≤ u2) (hhi : u2 < (s.fn + 2) * qFrame) (hn : s.edgesFor k (s.fn + 1) < 255)
    (hl : (s.core k).queue.length < 511) : ∃ p p' q q',
      (s.placeOne v c k d false (a, true)).placeOne v c k d false (a2, false) =
        (s.edgeQueued k (riseEdge c u (s.nextVern k)) p p').edgeQueued k (fallEdge c u2 (1 - s.nextVern k)) q q' := by
  have hf : frameOf u = s.fn + 1 := frameOf_eq hlo (by omega)
  have hf2 : frameOf u2 = s.fn + 1 := frameOf_eq (by omega) hhi
  have hr := placeReason_first (k := k) (u := u) hh (by rw [hf]; omega) (by omega)
  obtain ⟨p, p', h1⟩ := placeOne_free (l := true) hu hlo (by omega) hr (guarded_none hch hm u)
  have hfn := edgeQueued_fn s k (riseEdge c u (s.nextVern k)) p p'
  have hbank := edgeQueued_bank s k (riseEdge c u (s.nextVern k)) p p'
  have hv := edgeQueued_vern s k (riseEdge c u (s.nextVern k)) p p'
  have hq := edgeQueued_queue s k (riseEdge c u (s.nextVern k)) p p'
  have hhist : ((s.edgeQueued k (riseEdge c u (s.nextVern k)) p p').ch c).hist = [u] := by
    refine (edgeQueued_hist s k (riseEdge c u (s.nextVern k)) p p').trans ?_
    rw [riseEdge, hh]
    rfl
  have hcount : (s.edgeQueued k (riseEdge c u (s.nextVern k)) p p').edgesFor k (frameOf u2) < 256 := by
    rw [edgesFor_next] at hn
    rw [hf2, ← hfn, edgesFor_next, hq, insEdge_count, hfn]
    split <;> omega
  have hlen : ((s.edgeQueued k (riseEdge c u (s.nextVern k)) p p').core k).queue.length < 512 := by
    rw [hq, insEdge_length]
    omega
  have hr2 := placeReason_second hhist hgap hcount hlen
  have hg2 := guarded_none (s := s.edgeQueued k (riseEdge c u (s.nextVern k)) p p') (by rw [hbank]; exact hch) (by rw [hbank]; exact hm) u2
  have hu2' : v.edgeTime c k ((s.edgeQueued k (riseEdge c u (s.nextVern k)) p p').nextVern k) a2 d = (u2 : Int) := by
    rw [hv]
    exact hu2
  obtain ⟨q, q', h2⟩ := placeOne_free (l := false) hu2' (by rw [hfn]; omega) (by rw [hfn]; exact hhi) hr2 hg2
  rw [hv] at h2
  exact ⟨p, p', q, q', by rw [h1]; exact h2⟩

end Sys2Proof.Machine
end

section
/-! SUPPORT. PLACEMENT_PASS with one DIRECT channel: the command (R77, R78). -/

namespace Sys2Proof.Machine

variable {s t v w : State} {c k y u u2 n failing f : Nat} {a a2 d : Int} {l past : Bool} {o : Sp Nat}

theorem passChannel_direct (h1 : v.src c = 1) (hs : (s.ch c).src = 1) : s.passChannel v failing c = (s.expand v c).placeDue v failing c := by
  unfold State.passChannel
  dsimp only
  rw [turnSource_same (hs.trans h1.symm), if_pos h1, if_pos (.inl h1)]
  rfl

theorem noOut_rulesOf (s : State) (c : Nat) : s.noOut.rulesOf c = s.rulesOf c := rfl

/-- The channel's pulse as the pass finds it. -/
theorem OnePulse.before (h : OnePulse s s.ahead c a a2) (hb : BeforeCh c y s.noOut t) : OnePulse t s.ahead.noOut c a a2 := by
  have hch : t.ch c = s.ch c := hb.chan
  have hnext : t.g (K.RULE_NEXT_J c 0) = s.g (K.RULE_NEXT_J c 0) :=
    hb.g _ (passObj_false (by decide) (.inr (by omega)) (by decide) (by decide) (by decide))
  have hfn : t.fn = s.fn := hb.fn_eq
  exact {
    src := by rw [hch]; exact h.src
    wait := by rw [hch]; exact h.wait
    begun := by rw [hch]; exact h.begun
    hist := by rw [hch]; exact h.hist
    rules := by rw [hch, noOut_rulesOf]; exact h.rules
    off := by rw [noOut_g]; exact h.off
    on := by rw [noOut_g]; exact h.on
    count := by rw [noOut_g]; exact h.count
    next := by rw [hnext]; exact h.next
    epoch := by rw [noOut_g]; exact h.epoch
    stop := by rw [noOut_gi]; exact h.stop
    width := by rw [noOut_gi]; exact h.width
    due := by rw [noOut_gi, hfn]; exact h.due }

/-! ## The channel as its pulse is placed -/

/-- The channel with its pulse expanded and nothing left waiting. -/
def State.pulsing (s v : State) (o : Sp Nat) (c : Nat) (a a2 : Int) : State := (s.expanded v o c a a2).noWait c

theorem pulsing_g (s v : State) (o : Sp Nat) (c : Nat) (a a2 : Int) : (s.pulsing v o c a a2).g = (s.withOd o).g := rfl

theorem pulsing_core (s v : State) (o : Sp Nat) (c : Nat) (a a2 : Int) : (s.pulsing v o c a a2).core = s.core := rfl

theorem pulsing_bank (s v : State) (o : Sp Nat) (c : Nat) (a a2 : Int) : (s.pulsing v o c a a2).bank = s.bank := rfl

theorem expanded_ch (s v : State) (o : Sp Nat) (c : Nat) (a a2 : Int) : (s.expanded v o c a a2).ch c =
    { s.ch c with rules := v.rulesOf c, begun := [], wait := [(a, true), (a2, false)] } := State.ch_setCh_same _ _ _

theorem pulsing_hist (s v : State) (o : Sp Nat) (c : Nat) (a a2 : Int) (z : Nat) : ((s.pulsing v o c a a2).ch z).hist = (s.ch z).hist := by
  rw [State.pulsing, State.noWait]
  by_cases hz : z = c
  · subst hz
    rw [State.ch_setCh_same, expanded_ch]
  · rw [State.ch_setCh_other _ _ hz, State.expanded, State.ch_setCh_other _ _ hz]
    rfl

theorem not_ruleKey {i sub : Nat} (hs : sub < 256) (h7 : sub ≠ 7 ∨ i < 0x5002 + 0x20 * c) (h8 : sub ≠ 8) (j : Nat) :
    key i sub 0 ≠ K.RULE_NEXT_J c j ∧ key i sub 0 ≠ K.RULE_DONE c j := by
  constructor
  · rw [K.RULE_NEXT_J, Ne, key_inj] <;> omega
  · rw [K.RULE_DONE, Ne, key_inj] <;> omega

section Pulse
variable (hg : (s.ruleSteps v c).g = (s.withOd o).g)
include hg

/-- Of the objects only the counters of the channel's rules have changed. -/
theorem pulsing_kept {j : Nat} (hj : ∀ i, j ≠ K.RULE_NEXT_J c i ∧ j ≠ K.RULE_DONE c i) : (s.pulsing v o c a a2).g j = s.g j := by
  rw [pulsing_g, ← hg]
  exact ruleSteps_g hj

theorem pulsing_fn : (s.pulsing v o c a a2).fn = s.fn := pulsing_kept hg (not_ruleKey (by decide) (.inl (by decide)) (by decide))

theorem pulsing_vern : (s.pulsing v o c a a2).nextVern k = s.nextVern k :=
  pulsing_kept hg (not_ruleKey (by decide) (.inl (by decide)) (by decide))

theorem pulsing_edgesFor (n : Nat) : (s.pulsing v o c a a2).edgesFor k n = s.edgesFor k n := by
  rw [State.edgesFor, State.edgesFor, pulsing_core, pulsing_fn hg]

theorem expanded_coreAt (m : Nat) : (s.expanded v o c a a2).coreAt c m = s.coreAt c m := by
  have hk : (s.expanded v o c a a2).g (K.CH_CORE c) = s.g (K.CH_CORE c) :=
    pulsing_kept (a := a) (a2 := a2) hg (not_ruleKey (by decide) (.inl (by decide)) (by decide))
  have hb : (s.expanded v o c a a2).bank = s.bank := rfl
  rw [State.coreAt, State.coreAt, hk, hb]

theorem expanded_lane : (s.expanded v o c a a2).g (K.CH_LANE c) = s.g (K.CH_LANE c) :=
  pulsing_kept (a := a) (a2 := a2) hg (not_ruleKey (by decide) (.inr (by omega)) (by decide))

end Pulse

/-! ## The command -/

section Alone
variable (hpl : OnePulse s s.ahead c a a2) (h1 : s.ahead.src c = 1) (hk : s.coreAt c (s.tick + 1) = k)
  (hu : s.ahead.edgeTime c k (s.nextVern k) a (s.ahead.gi (K.CH_DELAY c)) = (u : Int))
  (hu2 : s.ahead.edgeTime c k (1 - s.nextVern k) a2 (s.ahead.gi (K.CH_DELAY c)) = (u2 : Int))
  (hlo : (s.fn + 1) * qFrame ≤ u) (hgap : u + 1573 ≤ u2) (hhi : u2 < (s.fn + 2) * qFrame) (hn : s.edgesFor k (s.fn + 1) < 255)
  (hl : (s.core k).queue.length < 511) (hch : (s.bank (bankOf c)).change = none) (hm : (s.bank (bankOf c)).moved.contains c = false)
include hpl h1 hk hu hu2 hlo hgap hhi hn hl hch hm

/-- The pass of a channel with one pulse queues its two edges. -/
theorem passChannel_pulse (hb : BeforeCh c y s.noOut t) (hgood : (y == 255 || bit failing y) = false) : ∃ o p p' q q',
    (t.ruleSteps s.ahead.noOut c).g = (t.withOd o).g ∧ t.passChannel s.ahead.noOut failing c =
      ((t.pulsing s.ahead.noOut o c a a2).edgeQueued k (riseEdge c u (s.nextVern k)) p p').edgeQueued k
        (fallEdge c u2 (1 - s.nextVern k)) q q' := by
  have h := hpl.before hb
  obtain ⟨o, he, hg⟩ := expand_one h
  have hsrc : s.ahead.noOut.src c = 1 := by rw [noOut_src]; exact h1
  have hbank : t.bank = s.bank := hb.bank_eq
  have hcore : t.core = s.core := hb.core_eq
  have hfn : (t.pulsing s.ahead.noOut o c a a2).fn = s.fn := (pulsing_fn hg).trans hb.fn_eq
  have hv : (t.pulsing s.ahead.noOut o c a a2).nextVern k = s.nextVern k := (pulsing_vern hg).trans (hb.vern_eq k)
  have hef : ∀ n, (t.pulsing s.ahead.noOut o c a a2).edgesFor k n = s.edgesFor k n := fun n => by
    have hfn' : t.fn = s.fn := hb.fn_eq
    rw [pulsing_edgesFor hg, State.edgesFor, State.edgesFor, hcore, hfn']
  have hwait : ((t.expanded s.ahead.noOut o c a a2).ch c).wait = [(a, true), (a2, false)] := by rw [expanded_ch]
  have hefn : (t.expanded s.ahead.noOut o c a a2).fn = t.fn := pulsing_fn (a := a) (a2 := a2) hg
  have hdue : ∀ x ∈ [(a, true), (a2, false)], x.1 + s.ahead.noOut.gi (K.CH_DELAY c) <
      (((t.expanded s.ahead.noOut o c a a2).fn + 2) * qFrame : Nat) := fun x hx => by
    have hd := h.due
    have hlt := h.lt
    rw [hefn]
    simp only [List.mem_cons, List.not_mem_nil, or_false] at hx
    rcases hx with rfl | rfl
    · exact Int.lt_trans (Int.add_lt_add_right hlt _) hd
    · exact hd
  have hsort : [(a, true), (a2, false)].mergeSort (fun x y => x.1 ≤ y.1) = [(a, true), (a2, false)] :=
    List.mergeSort_of_pairwise (by simp [Int.le_of_lt h.lt])
  have hk' : (t.expanded s.ahead.noOut o c a a2).coreAt c ((t.expanded s.ahead.noOut o c a a2).tick + 1) = k := by
    have ht : (t.expanded s.ahead.noOut o c a a2).tick = s.tick := hb.tick_eq
    rw [expanded_coreAt hg, ht, hb.coreAt_eq]
    exact hk
  have hlane : (t.expanded s.ahead.noOut o c a a2).g (K.CH_LANE c) = y := (expanded_lane hg).trans hb.lane
  obtain ⟨p, p', q, q', hpp⟩ := pulse_placed (s := t.pulsing s.ahead.noOut o c a a2) (v := s.ahead.noOut) (d := s.ahead.gi (K.CH_DELAY c))
    ((pulsing_hist _ _ _ _ _ _ c).trans h.hist) (by rw [pulsing_bank, hbank]; exact hch) (by rw [pulsing_bank, hbank]; exact hm)
    (by rw [hv, edgeTime_noOut]; exact hu) (by rw [hv, edgeTime_noOut]; exact hu2) (by rw [hfn]; exact hlo) hgap (by rw [hfn]; exact hhi)
    (by rw [hfn, hef]; exact hn) (by rw [pulsing_core, hcore]; exact hl)
  refine ⟨o, p, p', q, q', hg, ?_⟩
  rw [passChannel_direct hsrc h.src, he, placeDue_all hwait hdue, hsort, hk', hlane, hgood, noOut_gi]
  rw [hv] at hpp
  exact hpp

variable (h2 : 2 ≤ s.mode) (hp : s.passed = false) (h10 : s.mode ≠ 10) (hc : c < 64) (hsq : ∀ q ∈ List.range 8, s.g (K.SQ_STATE q) = 0)
  (hoth : ∀ z ∈ List.range 64, z ≠ c → s.ahead.src z ≠ 1 ∧ s.ahead.src z ≠ 3)
  (hlane : (s.ahead.lanes s.lanesOut).find? (fun z => z.1 == c) = some (c, some y, past)) (hbit : bit (s.failing f) y = false)
  (hv1 : s.nextVern k ≤ 1)
include h2 hp h10 hc hsq hoth hlane hbit hv1

/-- A pulse of a rule gives its two edges, and is counted. -/
theorem gives_pulse : Gives (.placementPass f) s (fun t => (t.g (K.RULE_NEXT_J c 0) = 1 ∧ t.g (K.RULE_DONE c 0) = 1 ∧
      (t.core k).queue = insEdge (fallEdge c u2 (1 - s.nextVern k)) (insEdge (riseEdge c u (s.nextVern k)) (s.core k).queue) ∧
      t.g (K.CH_NEXT_VERNIER k) = s.nextVern k ∧ (t.ch c).hist = [u2, u] ∧ (∀ z, z ≠ k → (t.core z).queue = (s.core z).queue) ∧
      ∀ z, z ≠ c → (t.ch z).hist = (s.ch z).hist) ∧ PassStill s t) := by
  refine gives_alone h2 hp h10 hc hsq hoth hlane fun t w hb hpass => ?_
  obtain ⟨o, p, p', q, q', hg, he⟩ := passChannel_pulse hpl h1 hk hu hu2 hlo hgap hhi hn hl hch hm hb (lane_good hlane hbit)
  obtain ⟨hj, hd⟩ := ruleSteps_first (hpl.before hb)
  have hcore1 : (t.pulsing s.ahead.noOut o c a a2).core = s.core := (pulsing_core _ _ _ _ _ _).trans hb.core_eq
  have hhist1 : ∀ z, ((t.pulsing s.ahead.noOut o c a a2).ch z).hist = (s.ch z).hist := fun z =>
    (pulsing_hist _ _ _ _ _ _ z).trans (hb.hist z)
  have hrule : ∀ sub, sub = 7 ∨ sub = 8 → w.g (key (0x5002 + 0x20 * c + 0) sub 0) =
      (t.ruleSteps s.ahead.noOut c).g (key (0x5002 + 0x20 * c + 0) sub 0) :=
    fun sub hsub => by
      have h1 : key (0x5002 + 0x20 * c + 0) sub 0 ≠ K.CH_QUEUE_PEAK k := by rw [K.CH_QUEUE_PEAK, Ne, key_inj] <;> omega
      have h2 : key (0x5002 + 0x20 * c + 0) sub 0 ≠ K.CH_NEXT_VERNIER k := by rw [K.CH_NEXT_VERNIER, Ne, key_inj] <;> omega
      rw [hpass.g _ (passObj_false (by omega) (.inr (by omega)) (by omega) (by omega) (by omega)), he, edgeQueued_g _ _ _ _ _ h1 h2,
        edgeQueued_g _ _ _ _ _ h1 h2, pulsing_g, ← hg]
  rw [he] at hpass
  generalize t.pulsing s.ahead.noOut o c a a2 = t1 at hpass hcore1 hhist1
  have hq : ((t1.edgeQueued k (riseEdge c u (s.nextVern k)) p p').edgeQueued k (fallEdge c u2 (1 - s.nextVern k)) q q').nextVern k =
      s.nextVern k := by
    rw [edgeQueued_vern]
    exact Nat.sub_sub_self hv1
  refine ⟨(hrule 7 (.inl rfl)).trans hj, (hrule 8 (.inr rfl)).trans hd, (hpass.queue k).trans ?_, (hpass.g _ (vern_kept k)).trans hq,
    (hpass.hist c).trans ?_, fun z hz => (hpass.queue z).trans ?_, fun z hz => (hpass.hist z).trans ?_⟩
  · rw [edgeQueued_queue, edgeQueued_queue, hcore1]
  · refine (edgeQueued_hist _ k (fallEdge c u2 (1 - s.nextVern k)) q q').trans ?_
    exact congrArg (fun h : List Nat => u2 :: h.take 1) (edgeQueued_hist t1 k (riseEdge c u (s.nextVern k)) p p')
  · rw [edgeQueued_cores _ _ _ _ _ z hz, edgeQueued_cores _ _ _ _ _ z hz, hcore1]
  · rw [edgeQueued_chans _ _ (fallEdge c u2 (1 - s.nextVern k)) _ _ z hz, edgeQueued_chans _ _ (riseEdge c u (s.nextVern k)) _ _ z hz, hhist1]

end Alone

end Sys2Proof.Machine
end

section
/-! SUPPORT. O45: the clauses about edges placed, triggered and emitted, put together. -/

namespace Sys2Proof.Machine

/-- Settles O45, clause by clause: a pass by its stages, of which only the stage of the channel that places changes more than lanes and
bounds; an input's edge by its cases, with the bursts it starts channel by channel; a triggered edge and an edge emitted by their cases. -/
theorem edges : Obligations.Edges := by
  intro s f c k n u u2 y d a a2 l raw past b x r v
  refine ⟨?_, ?_, ?_, ?_, ?_, ?_, ?_, ?_, ?_, ?_, ?_, ?_, ?_, ?_, ?_, ?_, ?_, ?_, ?_, ?_, ?_, ?_, ?_, ?_, ?_, ?_, ?_, ?_, ?_, ?_⟩
  · intro h2 hp
    exact (gives_pass_any h2 hp).imp fun t ⟨⟨hpass, hlanes, hq, hb, hev⟩, hst⟩ => ⟨hpass, hlanes, fun k _ => hq k, hb, hev, hst⟩
  · exact fun h2 hp => gives_pass_done h2 hp
  · rintro h2 hp h10 hc hsq rfl hoth h3 hs hw hk hk72 hlane hbit hu hlo hhi hd hr hg
    exact (gives_pattern_queued h2 hp h10 hc hsq hoth hlane h3 hs hw hk hd hu hbit hlo hhi hr hg).imp
      fun t ⟨⟨hwr, hq, hwait, hh, hqs, hhs⟩, hst⟩ => ⟨hwr, hq, hwait, hh, fun z _ hz => hqs z hz, fun z _ hz => hhs z hz, hst⟩
  · rintro h2 hp h10 hc hsq rfl hoth h3 hs hw hk hk72 hlane hd hbit hu hlt
    exact (gives_pattern_late h2 hp h10 hc hsq hoth hlane h3 hs hw hk hd hu hbit hlt).imp
      fun t ⟨⟨hwr, hev, hwait, hq⟩, hst⟩ => ⟨hwr, hev, hwait, fun z _ => hq z, hst⟩
  · rintro h2 hp h10 hc hsq rfl hoth h3 hs hw hk hk72 hlane hd hbit hu
    exact (gives_pattern_lane h2 hp h10 hc hsq hoth hlane h3 hs hw hk hd hu hbit).imp
      fun t ⟨⟨hwr, hev, hwait, hq⟩, hst⟩ => ⟨hwr, hev, hwait, fun z _ => hq z, hst⟩
  · rintro h2 hp h10 hc hsq rfl hoth h3 hs hw hk hk72 hlane hd hbit hu hlo hhi hr
    exact (gives_pattern_refused h2 hp h10 hc hsq hoth hlane h3 hs hw hk hd hu hbit hlo hhi hr).imp
      fun t ⟨⟨hwr, hev, hwait, hq⟩, hst⟩ => ⟨hwr, fun h => hev 35 (by rw [h]; rfl), fun h => hev 34 (by rw [h]; rfl),
        fun h => hev 36 (by rw [h]; rfl), hwait, fun z _ => hq z, hst⟩
  · rintro h2 hp h10 hc hsq rfl hoth h3 hs hw hk hk72 hlane hd
    exact (gives_pattern_far h2 hp h10 hc hsq hoth hlane h3 hs hw hd).imp
      fun t ⟨⟨hwr, hwait, hq⟩, hst⟩ => ⟨hwr, hwait, fun z _ => hq z, hst⟩
  · rintro h2 hp h10 hc hsq rfl hoth h1 hs hwait hbegun hhist hrules hoff hon hcount hnext hepoch hstop hwidth hperiod hk hk72 hlane hbit
      hu hu2 hv1 hlo hgap hhi hd hn hl hch hm
    have hpl : OnePulse s s.ahead c a a2 := ⟨hs, hwait, hbegun, hhist, hrules, hoff, hon, hcount, hnext, hepoch, hstop, hwidth, hd⟩
    exact (gives_pulse hpl h1 hk hu hu2 hlo hgap hhi hn hl hch hm h2 hp h10 hc hsq hoth hlane hbit hv1).imp
      fun t ⟨⟨hj, hdone, hq, hv, hh, hqs, hhs⟩, hst⟩ => ⟨hj, hdone, hq, hv, hh, fun z _ hz => hqs z hz, fun z _ hz => hhs z hz, hst⟩
  · intro h2 hn hf h10 hd hu hl ha hslot
    exact gives_input_plain h2 hn hf h10 hd hu hl ha hslot
  · intro h2 hn hf hd hu hl ha
    exact gives_input_dropped h2 hn hf hd hu hl (ne_of_eq_of_ne ha (by decide))
  · rintro h2 hn hf hd hu h10 hp hl rfl ha
    exact gives_input_passed h2 hn hf h10 hd hu hp (by simpa using hl) ha
  · intro h2 hn hf hd _ hp
    exact gives_input_counted h2 hn hf hd hp
  · intro h2 hn hf hu hd hl ha
    exact gives_input_rising h2 hn hf hd hu hl ha
  · exact fun h2 hn hf => gives_input_off h2 hn hf
  · exact fun h hm => gives_inputEdge_idle h hm
  · intro h2 h10 hc hb he hk hk72 hu hlt hsrc hts hfr hr hg
    exact gives_issue_free h2 h10 hc ⟨hb, he, hk, hu⟩ hlt hsrc hts hfr hr hg
  · intro h2 h10 hc hb he hk hk72 hu hlt hsrc hts hfr hr
    exact gives_issue_queued h2 h10 hc ⟨hb, he, hk, hu⟩ hlt hsrc hts hfr hr
  · intro h2 h10 hc hb he hk hk72 hu hlt hsrc hlate
    exact gives_issue_late h2 h10 hc ⟨hb, he, hk, hu⟩ hlt hsrc hlate
  · intro h2 h10 hc hb he hk hk72 hu hlt hsrc hts hfr hr
    exact gives_issue_refused h2 h10 hc ⟨hb, he, hk, hu⟩ hlt hsrc hts hfr (by decide) (by decide) rfl hr
  · intro h2 h10 hc hb he hk hk72 hu hlt hsrc hts hfr hr
    exact gives_issue_refused h2 h10 hc ⟨hb, he, hk, hu⟩ hlt hsrc hts hfr (by decide) (by decide) rfl hr
  · intro h2 h10 hc hb he hk hk72 hu hlt hsrc hts hfr hr
    exact gives_issue_refused h2 h10 hc ⟨hb, he, hk, hu⟩ hlt hsrc hts hfr (by decide) (by decide) rfl hr
  · intro h2 h10 hc hb he hk hk72 hu hfar
    exact gives_issue_far h2 h10 hc ⟨hb, he, hk, hu⟩ hfar
  · intro h2 h10 hc hb he hk hk72 hu hlt hsrc
    exact gives_issue_gone h2 h10 hc ⟨hb, he, hk, hu⟩ hlt hsrc
  · exact fun h2 h => gives_issue_none h2 h
  · rintro hm hk hq hf rfl hc hs hp hl hfmt
    exact gives_edge_driven hm hk hq hf hc hs hl hp hfmt
  · rintro hm hk hq hf rfl hc hs hp hpol hl hfmt
    exact gives_edge_flagged hm hk hq hf hc hs hl hp hpol hfmt
  · rintro hm hk hq hf rfl hc hs hp hl hfmt
    exact gives_edge_off hm hk hq hf hc hs hl hp hfmt
  · rintro hm hk hq hf rfl hc hs hp hl
    exact gives_edge_level hm hk hq hf hc hs hp hl
  · rintro hm hk hq hf rfl hc hs
    exact gives_edge_bound hm hk hq hf hc hs
  · exact fun hm h => gives_edgeEmit_none hm h

end Sys2Proof.Machine
end

section
/-! SUPPORT. Pads: what a pad's clock stopped, its driver turned on or off and its settling leave, and what settling reads (R121, R122,
R315, R348). -/

namespace Sys2Proof.Machine

variable {s t : State} {c : Nat} {h : PadHid} {x : ChHid} {l : List (Nat × Nat)}

/-! ## What a judgement reads (R72, R97) -/

/-- The kinds of object that a judgement of a channel reads or writes beside its bound. No object of a driver, nor of a pad's diagnosis,
is of such a kind: those with subindex 1 stand in the second block of a pad. -/
def judging (j : Nat) : Prop := keySub j = 2 ∨ keySub j = 3 ∨ keySub j = 8 ∨ keySub j = 0x14 ∨ keySub j = 1 ∧ keyIndex j % 32 ≠ 17

theorem judging_key {i sub : Nat} (hs : sub < 256) :
    judging (key i sub 0) ↔ sub = 2 ∨ sub = 3 ∨ sub = 8 ∨ sub = 0x14 ∨ sub = 1 ∧ i % 32 ≠ 17 := by
  rw [judging, keySub_key i 0 hs (by decide), keyIndex_key i 0 hs (by decide)]

theorem not_judging_bound (c : Nat) : ¬judging (K.CH_BOUND c) := by rw [K.CH_BOUND, judging_key] <;> omega
theorem not_judging_settling (c : Nat) : ¬judging (K.IP_SETTLING c) := by rw [K.IP_SETTLING, judging_key] <;> omega
theorem not_judging_padLevel (c : Nat) : ¬judging (K.PAD_LEVEL c) := by rw [K.PAD_LEVEL, judging_key] <;> omega
theorem not_judging_gated (c : Nat) : ¬judging (K.CLK_GATED c) := by rw [K.CLK_GATED, judging_key] <;> omega
theorem not_judging_diag (c : Nat) : ¬judging (K.PAD_DIAG c) := by rw [K.PAD_DIAG, judging_key] <;> omega
theorem not_judging_autoInverted (c : Nat) : ¬judging (K.PAD_AUTO_INVERTED c) := by rw [K.PAD_AUTO_INVERTED, judging_key] <;> omega

/-- Two states read alike to a judgement. -/
def JudgedAlike (s t : State) : Prop := ∀ j, judging j → t.g j = s.g j

theorem Writes.judgedAlike (hw : Writes s t l) (hl : ∀ p ∈ l, ¬judging p.1) : JudgedAlike s t := fun j hj =>
  (hw j).trans (after_of_not_mem (fun p hp (e : p.1 = j) => hl p hp (e ▸ hj)) s.g)

theorem JudgedAlike.aux (hj : JudgedAlike s t) (c : Nat) : t.aux c = s.aux c := by
  have hsrc : t.g (K.CH_SOURCE c) = s.g (K.CH_SOURCE c) := hj _ (by rw [K.CH_SOURCE, judging_key] <;> omega)
  have hclk : t.g (K.CLK_SRC c) = s.g (K.CLK_SRC c) := hj _ (by rw [K.CLK_SRC, judging_key] <;> omega)
  have hssc : ∀ i, t.g (K.UT_SSC_MODE i) = s.g (K.UT_SSC_MODE i) := fun i => hj _ (by rw [K.UT_SSC_MODE, judging_key] <;> omega)
  rw [State.aux, State.aux, State.src, State.src, hsrc, hclk, hssc]

/-- A channel whose bound is unknown is over its limit: what a judgement then writes (R97, R98, R316). -/
theorem judge_unknown (hj : JudgedAlike s t) (ha : s.aux c = false) (hb : t.g (K.CH_BOUND c) = unknownBound) :
    t.judge c = t.p (K.CH_STATUS c) (s.pastStatus c (decide (s.g (K.CH_POLICY c) = 0 ∨ s.g (K.PAD_SHUTDOWN c) ≠ 0))) := by
  have hpol : t.g (K.CH_POLICY c) = s.g (K.CH_POLICY c) := hj _ (by rw [K.CH_POLICY, judging_key] <;> omega)
  have hshut : t.g (K.PAD_SHUTDOWN c) = s.g (K.PAD_SHUTDOWN c) := hj _ (by rw [K.PAD_SHUTDOWN, judging_key] <;> omega)
  have hstat : t.g (K.CH_STATUS c) = s.g (K.CH_STATUS c) := hj _ (by rw [K.CH_STATUS, judging_key] <;> omega)
  have hover : t.overLimit c = true := by simp [State.overLimit, hj.aux, ha, hb]
  have hclosed : (s.g (K.CH_POLICY c) == 0 || s.g (K.PAD_SHUTDOWN c) != 0) =
      decide (s.g (K.CH_POLICY c) = 0 ∨ s.g (K.PAD_SHUTDOWN c) ≠ 0) := by simp [Bool.decide_or, beq_eq_decide, bne]
  rw [State.pastStatus, ← hclosed]
  simp only [State.judge, State.gb, hover, hpol, hshut, hstat, Bool.true_and]

theorem padLevel_ne_gated (a b : Nat) : K.PAD_LEVEL a ≠ K.CLK_GATED b := by
  rw [K.PAD_LEVEL, K.CLK_GATED, Ne, key_inj] <;> omega

/-! ## One pad and its channel -/

/-- The state with other objects, and other records of pads and channels. -/
def State.withDriver (s : State) (o : Sp Nat) (ph : Sp PadHid) (ch : Sp ChHid) : State := { s with od := o, padHid := ph, chHid := ch }

/-- What happens to one pad and its channel: a list of objects is written, and of the hidden records only those of the pad and of the
channel change, to the ones given. -/
structure OnPad (s t : State) (c : Nat) (h : PadHid) (x : ChHid) (l : List (Nat × Nat)) : Prop where
  writes : Writes s t l
  pad : t.pad c = h
  pads : ButAt t.pad s.pad c
  ch : t.ch c = x
  chans : ButAt t.ch s.ch c
  rest : ∃ o ph ch, t = s.withDriver o ph ch

namespace OnPad

theorem refl (s : State) (c : Nat) : OnPad s s c (s.pad c) (s.ch c) [] :=
  ⟨.refl s, rfl, fun _ _ => rfl, rfl, fun _ _ => rfl, s.od, s.padHid, s.chHid, rfl⟩

theorem p (ht : OnPad s t c h x l) (k v : Nat) : OnPad s (t.p k v) c h x ((k, v) :: l) := by
  obtain ⟨hw, hp, hps, hc, hcs, o, ph, ch, rfl⟩ := ht
  exact ⟨hw.p k v, hp, hps, hc, hcs, _, ph, ch, rfl⟩

theorem setPad (ht : OnPad s t c h x l) (h' : PadHid) : OnPad s (t.setPad c h') c h' x l := by
  obtain ⟨hw, hp, hps, hc, hcs, o, ph, ch, rfl⟩ := ht
  exact ⟨hw, State.pad_setPad_same _ c h', fun j hj => (State.pad_setPad_other _ h' hj).trans (hps j hj), hc, hcs, o, _, ch, rfl⟩

theorem setCh (ht : OnPad s t c h x l) (x' : ChHid) : OnPad s (t.setCh c x') c h x' l := by
  obtain ⟨hw, hp, hps, hc, hcs, o, ph, ch, rfl⟩ := ht
  exact ⟨hw, hp, hps, State.ch_setCh_same _ c x', fun j hj => (State.ch_setCh_other _ x' hj).trans (hcs j hj), o, ph, _, rfl⟩

/-- The same writes, told otherwise. -/
theorem congr {m : List (Nat × Nat)} (ht : OnPad s t c h x l) (hl : after s.g l = after s.g m) : OnPad s t c h x m :=
  { ht with writes := fun j => (ht.writes j).trans (congrFun hl j) }

theorem tick (ht : OnPad s t c h x l) : t.tick = s.tick := by obtain ⟨o, ph, ch, rfl⟩ := ht.rest; rfl

theorem qTick (ht : OnPad s t c h x l) : t.qTick = s.qTick := congrArg (· * qFrame) ht.tick

theorem raised (ht : OnPad s t c h x l) : t.raised = s.raised := by obtain ⟨o, ph, ch, rfl⟩ := ht.rest; rfl

/-- What is left once outputs have been set aside and the queue of commands given back. -/
theorem left (ht : OnPad s.noOut t c h x l) :
    ({ t with pending := s.pending } : State) = { s with od := t.od, out := [], padHid := t.padHid, chHid := t.chHid } := by
  obtain ⟨o, ph, ch, rfl⟩ := ht.rest; rfl

/-! ## A change of a pad's settings (R121, R122) -/

/-- A pad whose settings have changed settles, with its bound unknown. -/
theorem settlePad (ht : OnPad s t c h x l) (hl : ∀ p ∈ l, ¬judging p.1) (ha : s.aux c = false) :
    OnPad s (t.settlePad c) c { h with settle := some s.tick, audited := false } { x with bound := some unknownBound }
      ([(K.CH_STATUS c, s.pastStatus c (decide (s.g (K.CH_POLICY c) = 0 ∨ s.g (K.PAD_SHUTDOWN c) ≠ 0))),
        (K.CH_BOUND c, unknownBound), (K.IP_SETTLING c, 1)] ++ l) := by
  have h1 := (ht.p (K.IP_SETTLING c) 1).setPad { h with settle := some s.tick, audited := false }
  have hl1 : ∀ p ∈ (K.IP_SETTLING c, 1) :: l, ¬judging p.1 := List.forall_mem_cons.2 ⟨not_judging_settling c, hl⟩
  have h2 := (h1.p (K.CH_BOUND c) unknownBound).setCh { x with bound := some unknownBound }
  have hj2 := h2.writes.judgedAlike (List.forall_mem_cons.2 ⟨not_judging_bound c, hl1⟩)
  rw [State.settlePad]
  dsimp only
  rw [ht.pad, ht.tick, ((h1.writes.judgedAlike hl1).aux c).trans ha, if_neg Bool.false_ne_true, h1.ch,
    judge_unknown hj2 ha (by rw [State.g_setCh, State.g_p_same])]
  exact h2.p _ _

/-! ## A pad's clock stops, and its driver turns on or off (R315, R348, R645) -/

/-- A pad that carries no clock from a time on is low, unless its driver is off. -/
theorem stopWave (ht : OnPad s t c h x l) (n : Nat) : OnPad s (t.stopWave c n) c (h.stopped n) x
    ((K.CLK_GATED c, 1) :: if t.g (K.PAD_LEVEL c) = 2 then l else (K.PAD_LEVEL c, 0) :: l) := by
  have hlow : OnPad s (if t.g (K.PAD_LEVEL c) = 2 then t else t.p (K.PAD_LEVEL c) 0) c h x
      (if t.g (K.PAD_LEVEL c) = 2 then l else (K.PAD_LEVEL c, 0) :: l) := by
    split
    · exact ht
    · exact ht.p _ _
  rw [State.stopWave]
  dsimp only
  rw [hlow.pad]
  exact (hlow.p (K.CLK_GATED c) 1).setPad (h.stopped n)

/-- A clock pad gated at its park level from this boundary on. -/
theorem parkClock (ht : OnPad s t c h x l) : OnPad s (t.parkClock c) c
    { h.stopped s.qTick with parkUp := if t.g (K.PAD_PARK c) = 1 then some s.qTick else none } x
    ([(K.PAD_LEVEL c, if t.g (K.PAD_PARK c) = 1 then 1 else 0), (K.CLK_GATED c, 1)] ++ l) := by
  have hset := (ht.stopWave s.qTick).p (K.PAD_LEVEL c) (b2n (t.parkLevel c))
  have hup : (if t.parkLevel c then some s.qTick else none) = if t.g (K.PAD_PARK c) = 1 then some s.qTick else none := by
    simp [State.parkLevel]
  have hlevel : b2n (t.parkLevel c) = if t.g (K.PAD_PARK c) = 1 then 1 else 0 := by simp [b2n, State.parkLevel]
  rw [State.parkClock]
  dsimp only
  rw [ht.qTick, hset.pad, hset.qTick, hup, ← hlevel]
  refine (hset.setPad _).congr (funext fun j => ?_)
  by_cases hj : j = K.PAD_LEVEL c
  · simp only [after, List.cons_append, hj, if_true]
  · have hlow : after s.g (if t.g (K.PAD_LEVEL c) = 2 then l else (K.PAD_LEVEL c, 0) :: l) j = after s.g l j := by
      split
      · rfl
      · rw [after, if_neg hj]
    simp only [after, List.cons_append, List.nil_append, hj, if_false]
    rw [hlow]

/-- A driver turned off: both pins at high impedance. -/
theorem driverOff (ht : OnPad s t c h x l) : OnPad s (t.driverOff c) c (h.stopped s.qTick) x
    ([(K.CLK_GATED c, 1), (K.PAD_LEVEL c, 2)] ++ l) := by
  have hoff := (ht.p (K.PAD_LEVEL c) 2).stopWave s.qTick
  rw [State.g_p_same, if_pos rfl] at hoff
  rw [State.driverOff, ht.qTick]
  exact hoff

end OnPad

end Sys2Proof.Machine
end

section
/-! SUPPORT. O20: the commands of a pad's settings and of its bank's class (R121, R122, R317, R641, R645). -/

namespace Sys2Proof.Machine

variable {s t : State} {c k n z : Nat} {h : PadHid} {x : ChHid} {l : List (Nat × Nat)} {P : State → Prop}

/-! ## A pad settles after what a command does to it -/

/-- What a command leaves that ends in the settling of a pad: the objects written, the bound of its channel unknown, and of the hidden
records only those of the pad and of its channel changed. -/
structure Settled (s t : State) (c : Nat) (h : PadHid) (l : List (Nat × Nat)) : Prop where
  writes : Writes s t ([(K.CH_STATUS c, s.pastStatus c (decide (s.g (K.CH_POLICY c) = 0 ∨ s.g (K.PAD_SHUTDOWN c) ≠ 0))),
    (K.CH_BOUND c, unknownBound), (K.IP_SETTLING c, 1)] ++ l)
  pad : t.pad c = { h with settle := some s.tick, audited := false }
  pads : ButAt t.pad s.pad c
  bound : (t.ch c).bound = some unknownBound
  chans : ButAt t.ch s.ch c
  rest : t = { s with od := t.od, out := [], padHid := t.padHid, chHid := t.chHid }

theorem OnPad.settled (ht : OnPad s.noOut t c { h with settle := some s.tick, audited := false } { x with bound := some unknownBound }
    ([(K.CH_STATUS c, s.pastStatus c (decide (s.g (K.CH_POLICY c) = 0 ∨ s.g (K.PAD_SHUTDOWN c) ≠ 0))),
      (K.CH_BOUND c, unknownBound), (K.IP_SETTLING c, 1)] ++ l)) :
    Settled s { t with pending := s.pending } c h l :=
  ⟨ht.writes, ht.pad, ht.pads, congrArg ChHid.bound ht.ch, ht.chans, ht.left⟩

theorem decide_or_ne_zero {a b : Nat} (hb : b = 0) : decide (a = 0 ∨ b ≠ 0) = decide (a = 0) := by simp [hb]

/-! ## PAD_AUTO_INVERT (R317) -/

/-- The automatic inversion of a pad toggles and its detector restarts. -/
def State.autoInverted (s : State) (c : Nat) : State :=
  ((s.setPad c { s.pad c with invert := none, back := (0, 0) }).p (K.PAD_AUTO_INVERTED c) (1 - s.g (K.PAD_AUTO_INVERTED c))).pbit
    (K.PAD_DIAG c) 4 false

theorem exec_padAutoInvert (s : State) (c : Nat) : exec (.padAutoInvert c) s = run (fun s =>
    if c < 64 ∧ (s.pad c).invert.any (fun t => t < s.tick) then (s.autoInverted c).settlePad c else s) s := rfl

theorem autoInverted_onPad (s : State) (c : Nat) : OnPad s (s.autoInverted c) c { s.pad c with invert := none, back := (0, 0) } (s.ch c)
    [(K.PAD_DIAG c, setBit (s.g (K.PAD_DIAG c)) 4 false), (K.PAD_AUTO_INVERTED c, 1 - s.g (K.PAD_AUTO_INVERTED c))] := by
  have hne : K.PAD_DIAG c ≠ K.PAD_AUTO_INVERTED c := by rw [K.PAD_DIAG, K.PAD_AUTO_INVERTED, Ne, key_inj] <;> omega
  have hset := ((OnPad.refl s c).setPad { s.pad c with invert := none, back := (0, 0) }).p (K.PAD_AUTO_INVERTED c)
    (1 - s.g (K.PAD_AUTO_INVERTED c))
  rw [State.autoInverted, State.pbit_eq, State.g_p_other _ _ hne, State.g_setPad]
  exact hset.p _ _

theorem gives_padAutoInvert (hm : s.mode ≠ 0) (hc : c < 64) (hi : (s.pad c).invert = some n) (hn : n < s.tick) (ha : s.aux c = false) :
    Gives (.padAutoInvert c) s (fun t => Settled s t c { s.pad c with invert := none, back := (0, 0) }
      [(K.PAD_DIAG c, setBit (s.g (K.PAD_DIAG c)) 4 false), (K.PAD_AUTO_INVERTED c, 1 - s.g (K.PAD_AUTO_INVERTED c))]) := by
  have hdue : (s.noOut.pad c).invert.any (fun t => t < s.noOut.tick) = true := (congrArg (Option.any _) hi).trans (decide_eq_true hn)
  refine gives_noOut hm (exec_padAutoInvert s c) ?_
  dsimp only
  rw [if_pos ⟨hc, hdue⟩]
  refine ((autoInverted_onPad s.noOut c).settlePad ?_ ha).settled
  simp only [List.forall_mem_cons, List.not_mem_nil, false_imp_iff, implies_true, and_true]
  exact ⟨not_judging_diag c, not_judging_autoInverted c⟩

/-! ## PAD_SETTLE_TIMEOUT (R122) -/

theorem setPad_raised (s : State) (c a m : Nat) (h : PadHid) :
    ({ (s.noOut.setPad c h).raiseBits a m with pending := s.pending } : State) = { (s.raiseBits a m).setPad c h with out := [] } := by
  have hr : ((s.noOut.setPad c h).raiseBits a m).raised = (s.raiseBits a m).raised := raiseBits_raised a m rfl
  rw [raiseBits_form (s.noOut.setPad c h), hr, raiseBits_form s]
  rfl

theorem exec_padSettleTimeout (s : State) (c : Nat) : exec (.padSettleTimeout c) s = run (fun s =>
    if c < 64 ∧ s.gb (K.IP_SETTLING c) ∧ (s.pad c).settle.any (fun t => t + 4096 ≤ s.tick) then
      (s.setPad c { s.pad c with settle := none }).raiseBits 41 (2 ^ c)
    else s) s := rfl

theorem gives_padSettleTimeout (hm : s.mode ≠ 0) (hc : c < 64) (hs : s.g (K.IP_SETTLING c) ≠ 0) (hn : (s.pad c).settle = some n)
    (hd : n + 4096 ≤ s.tick) :
    Gives (.padSettleTimeout c) s (fun t => t = { (s.raiseBits 41 (2 ^ c)).setPad c { s.pad c with settle := none } with out := [] }) := by
  have hdue : (s.noOut.pad c).settle.any (fun t => t + 4096 ≤ s.noOut.tick) = true :=
    (congrArg (Option.any _) hn).trans (decide_eq_true hd)
  refine gives_noOut hm (exec_padSettleTimeout s c) ?_
  dsimp only
  rw [if_pos ⟨hc, bne_iff_ne.2 hs, hdue⟩]
  exact setPad_raised s c 41 (2 ^ c) _

/-! ## PAD_DRIVER_TURN_ON (R645) -/

/-- A driver waits no longer. -/
def State.waited (s : State) (c : Nat) : State := s.setPad c { s.pad c with waits := false }

theorem exec_padDriverTurnOn (s : State) (c : Nat) : exec (.padDriverTurnOn c) s = run (fun s =>
    if c < 64 ∧ (s.pad c).waits ∧ fmtAccepts (s.g (K.PAD_FMT c)) (s.classOf c) then
      if (s.waited c).g (K.PAD_FMT c) = 0 ∨ (s.waited c).gb (K.PAD_SHUTDOWN c) then s.waited c else (s.waited c).driverOn c
    else s) s := rfl

theorem waited_onPad (s : State) (c : Nat) : OnPad s (s.waited c) c { s.pad c with waits := false } (s.ch c) [] :=
  (OnPad.refl s c).setPad _

section TurnOn
variable (hm : s.mode ≠ 0) (hc : c < 64) (hw : (s.pad c).waits = true)
  (hf : fmtAccepts (s.g (K.PAD_FMT c)) (s.g (K.BANK_VDDO_CLASS (c / 8))) = true)
include hm hc hw hf

theorem gives_padDriverTurnOn_off (ho : s.g (K.PAD_FMT c) = 0 ∨ s.g (K.PAD_SHUTDOWN c) ≠ 0) :
    Gives (.padDriverTurnOn c) s (fun t => t = { s.setPad c { s.pad c with waits := false } with out := [] }) := by
  have hoff : (s.noOut.waited c).g (K.PAD_FMT c) = 0 ∨ (s.noOut.waited c).gb (K.PAD_SHUTDOWN c) = true := ho.imp_right bne_iff_ne.2
  refine gives_noOut hm (exec_padDriverTurnOn s c) ?_
  dsimp only
  rw [if_pos ⟨hc, hw, hf⟩, if_pos hoff]
  rfl

variable (hfmt : s.g (K.PAD_FMT c) ≠ 0) (hsh : s.g (K.PAD_SHUTDOWN c) = 0)
include hfmt hsh

theorem gives_padDriverTurnOn (hP : P { (s.noOut.waited c).driverOn c with pending := s.pending }) : Gives (.padDriverTurnOn c) s P := by
  have hon : ¬((s.noOut.waited c).g (K.PAD_FMT c) = 0 ∨ (s.noOut.waited c).gb (K.PAD_SHUTDOWN c) = true) :=
    not_or.2 ⟨hfmt, fun hs => bne_iff_ne.1 hs hsh⟩
  refine gives_noOut hm (exec_padDriverTurnOn s c) ?_
  dsimp only
  rw [if_pos ⟨hc, hw, hf⟩, if_neg hon]
  exact hP

theorem gives_padDriverTurnOn_level (hs : s.src c ≠ 4) :
    Gives (.padDriverTurnOn c) s (fun t => Settled s t c { s.pad c with waits := false } [(K.PAD_LEVEL c, s.sourceLevel c)]) := by
  refine gives_padDriverTurnOn hm hc hw hf hfmt hsh ?_
  have hsrc : (s.noOut.waited c).src c ≠ 4 := hs
  have haux : s.aux c = false := by simp [State.aux, hs]
  have hlevel : (s.noOut.waited c).sourceLevel c = s.sourceLevel c := by
    rw [State.sourceLevel, (waited_onPad s.noOut c).pad]; rfl
  rw [State.driverOn, if_neg hsrc, hlevel]
  exact (((waited_onPad s.noOut c).p _ _).settlePad (by simpa using not_judging_padLevel c) haux).settled

theorem gives_padDriverTurnOn_clock (hs : s.src c = 4) (ha : s.aux c = false) :
    Gives (.padDriverTurnOn c) s (fun t => Settled s t c
      { (s.pad c).stopped (s.tick * qFrame) with waits := false,
                                                 parkUp := if s.g (K.PAD_PARK c) = 1 then some (s.tick * qFrame) else none }
      [(K.PAD_LEVEL c, if s.g (K.PAD_PARK c) = 1 then 1 else 0), (K.CLK_GATED c, 1)]) := by
  refine gives_padDriverTurnOn hm hc hw hf hfmt hsh ?_
  have hsrc : (s.noOut.waited c).src c = 4 := hs
  rw [State.driverOn, if_pos hsrc]
  refine ((waited_onPad s.noOut c).parkClock.settlePad ?_ ha).settled
  simp only [List.forall_mem_cons, List.append_nil, List.not_mem_nil, false_imp_iff, implies_true, and_true]
  exact ⟨not_judging_padLevel c, not_judging_gated c⟩

end TurnOn

/-! ## A driver and its bank's class (R645) -/

theorem padClass_accepts (hf : fmtAccepts (s.g (K.PAD_FMT c)) (s.classOf c) = true) : s.padClass c = s := if_pos (.inr hf)

/-- A driver goes off and waits when the class of its bank does not accept its format, unless it waits already. -/
theorem padClass_cases (s : State) (c : Nat) :
    s.padClass c = s ∧ (fmtAccepts (s.g (K.PAD_FMT c)) (s.classOf c) = true ∨ (s.pad c).waits = true) ∨
    OnPad s (s.padClass c) c { (s.pad c).stopped s.qTick with waits := true } (s.ch c) [(K.CLK_GATED c, 1), (K.PAD_LEVEL c, 2)] := by
  rw [State.padClass]
  split_ifs with hf hw
  · exact .inl ⟨rfl, .inl (hf.elim (fun h0 => by rw [h0]; rfl) id)⟩
  · exact .inl ⟨rfl, .inr hw⟩
  · have hoff := (OnPad.refl s c).driverOff
    rw [hoff.pad]
    exact .inr (hoff.setPad _)

theorem padClass_g_other {j : Nat} (hl : j ≠ K.PAD_LEVEL c) (hg : j ≠ K.CLK_GATED c) : (s.padClass c).g j = s.g j := by
  obtain ⟨hs, -⟩ | hs := padClass_cases s c
  · rw [hs]
  · rw [hs.writes j, after, if_neg hg, after, if_neg hl, after]

theorem padClass_pad_other (hz : c ≠ z) : (s.padClass z).pad c = s.pad c := by
  obtain ⟨hs, -⟩ | hs := padClass_cases s z
  · rw [hs]
  · exact hs.pads c hz

theorem padClass_raised (s : State) (c : Nat) : (s.padClass c).raised = s.raised := by
  obtain ⟨hs, -⟩ | hs := padClass_cases s c
  · rw [hs]
  · exact hs.raised

theorem class_ne_driver (k z : Nat) : K.BANK_VDDO_CLASS k ≠ K.PAD_LEVEL z ∧ K.BANK_VDDO_CLASS k ≠ K.CLK_GATED z := by
  rw [K.BANK_VDDO_CLASS, K.PAD_LEVEL, K.CLK_GATED, Ne, Ne, key_inj, key_inj] <;> omega

theorem fmt_ne_driver (c z : Nat) : K.PAD_FMT c ≠ K.PAD_LEVEL z ∧ K.PAD_FMT c ≠ K.CLK_GATED z := by
  rw [K.PAD_FMT, K.PAD_LEVEL, K.CLK_GATED, Ne, Ne, key_inj, key_inj] <;> omega

/-- A driver is off and waits for its bank's class. -/
def State.offWaits (s : State) (c : Nat) : Prop := s.g (K.PAD_LEVEL c) = 2 ∧ s.g (K.CLK_GATED c) = 1 ∧ (s.pad c).waits = true

theorem OnPad.offWaits (ht : OnPad s t c { (s.pad c).stopped n with waits := true } x [(K.CLK_GATED c, 1), (K.PAD_LEVEL c, 2)]) :
    t.offWaits c := by
  refine ⟨?_, ?_, congrArg PadHid.waits ht.pad⟩
  · rw [ht.writes, after, if_neg (padLevel_ne_gated c c), after, if_pos rfl]
  · rw [ht.writes, after, if_pos rfl]

theorem padClass_refused (hf : fmtAccepts (s.g (K.PAD_FMT c)) (s.classOf c) = false) (hw : (s.pad c).waits = false) :
    (s.padClass c).offWaits c := by
  obtain ⟨-, ha | ha⟩ | hs := padClass_cases s c
  · exact absurd (hf.symm.trans ha) Bool.false_ne_true
  · exact absurd (hw.symm.trans ha) Bool.false_ne_true
  · exact hs.offWaits

theorem State.offWaits.padClass (ho : s.offWaits c) (z : Nat) : (s.padClass z).offWaits c := by
  obtain ⟨hs, -⟩ | hs := padClass_cases s z
  · rwa [hs]
  · by_cases hz : c = z
    · subst hz; exact hs.offWaits
    · obtain ⟨hl, hg, hw⟩ := ho
      refine ⟨?_, ?_, (congrArg PadHid.waits (hs.pads c hz)).trans hw⟩
      · rw [hs.writes, after, if_neg (padLevel_ne_gated c z), after, after, hl, ite_self]
      · rw [hs.writes, after, after, if_neg (padLevel_ne_gated z c).symm, after, hg, ite_self]

theorem State.offWaits.each (cs : List Nat) : ∀ {s : State}, s.offWaits c → (s.each cs State.padClass).offWaits c := by
  induction cs with
  | nil => exact fun h => h
  | cons z cs ih => exact fun h => ih (h.padClass z)

/-- Of the drivers asked, one whose format its bank's class does not accept goes off. -/
theorem each_padClass_refused {cs : List Nat} (hc : c ∈ cs) : ∀ {s : State}, fmtAccepts (s.g (K.PAD_FMT c)) (s.classOf c) = false →
    (s.pad c).waits = false → (s.each cs State.padClass).offWaits c := by
  induction cs with
  | nil => exact absurd hc List.not_mem_nil
  | cons z cs ih =>
    intro s hf hw
    by_cases hz : c = z
    · subst hz
      exact (padClass_refused hf hw).each cs
    · have hclass : (s.padClass z).classOf c = s.classOf c := padClass_g_other (class_ne_driver _ z).1 (class_ne_driver _ z).2
      refine ih ((List.mem_cons.1 hc).resolve_left hz) ?_ (by rwa [padClass_pad_other hz])
      rwa [padClass_g_other (fmt_ne_driver c z).1 (fmt_ne_driver c z).2, hclass]

theorem each_padClass_accepts {cs : List Nat} (hf : ∀ z ∈ cs, fmtAccepts (s.g (K.PAD_FMT z)) (s.classOf z) = true) :
    s.each cs State.padClass = s := by
  induction cs with
  | nil => rfl
  | cons z cs ih =>
    have hz : s.each (z :: cs) State.padClass = (s.padClass z).each cs State.padClass := rfl
    rw [hz, padClass_accepts (hf z List.mem_cons_self)]
    exact ih fun y hy => hf y (List.mem_cons_of_mem _ hy)

/-! ## VDDO_CLASS_CHANGE (R641) -/

/-- A bank takes a class, and says so. -/
def State.classTaken (s : State) (k cls : Nat) : State :=
  ((s.p (K.BANK_VDDO_CLASS k) cls).setBank k { s.bank k with vOut := 0 }).raiseBits 114 (2 ^ k)

/-- The pads of a bank. -/
def bankPads (k : Nat) : List Nat := (List.range 8).map (8 * k + ·)

theorem mem_bankPads : c ∈ bankPads k ↔ c / 8 = k := by
  simp only [bankPads, List.mem_map, List.mem_range]
  exact ⟨fun ⟨i, hi, hc⟩ => by omega, fun hc => ⟨c % 8, by omega, by omega⟩⟩

theorem exec_vddoClassChange (s : State) (k : Nat) : exec (.vddoClassChange k) s = run (fun s =>
    match s.vddoNext k with
    | some cls => if k < 8 then (s.classTaken k cls).each (bankPads k) State.padClass else s
    | none => s) s := rfl

theorem gives_vddoClassChange (hm : s.mode ≠ 0) (hk : k < 8) (hn : s.vddoNext k = some n)
    (hP : P { (s.noOut.classTaken k n).each (bankPads k) State.padClass with pending := s.pending }) : Gives (.vddoClassChange k) s P := by
  have hn' : s.noOut.vddoNext k = some n := hn
  refine gives_noOut hm (exec_vddoClassChange s k) ?_
  simp only [hn', hk, if_true]
  exact hP

theorem classTaken_writes (s : State) (k cls : Nat) : Writes s (s.classTaken k cls) [(K.BANK_VDDO_CLASS k, cls)] := fun j => by
  rw [State.classTaken, State.g_raiseBits, State.g_setBank]
  exact (Writes.refl s).p _ _ j

theorem classTaken_class (s : State) (k cls : Nat) : (s.classTaken k cls).g (K.BANK_VDDO_CLASS k) = cls := by
  rw [classTaken_writes, after, if_pos rfl]

theorem classTaken_fmt (s : State) (k cls : Nat) (hc : c < 64) : (s.classTaken k cls).g (K.PAD_FMT c) = s.g (K.PAD_FMT c) := by
  have hne : K.PAD_FMT c ≠ K.BANK_VDDO_CLASS k := by rw [K.PAD_FMT, K.BANK_VDDO_CLASS, Ne, key_inj] <;> omega
  rw [classTaken_writes, after, if_neg hne, after]

theorem classTaken_pad (s : State) (k cls : Nat) : (s.classTaken k cls).pad = s.pad := by
  rw [State.classTaken, raiseBits_form]; rfl

theorem classTaken_evMask (s : State) (k cls : Nat) : (s.classTaken k cls).evMask 114 = s.evMask 114 ||| 2 ^ k :=
  evMask_raiseBits _ 114 (2 ^ k)

theorem classTaken_odOnly (s : State) (k cls : Nat) :
    OdOnly ((s.setBank k { s.bank k with vOut := 0 }).raiseBits 114 (2 ^ k)) (s.classTaken k cls) :=
  OdOnly.raiseBits ⟨(s.p (K.BANK_VDDO_CLASS k) cls).od, rfl⟩ 114 (2 ^ k)

theorem setBank_raised {a m : Nat} {b : BankHid} (ht : OdOnly ((s.noOut.setBank k b).raiseBits a m) t) :
    ({ t with pending := s.pending } : State) = { (s.raiseBits a m).setBank k b with od := t.od, out := [] } := by
  obtain ⟨o, rfl⟩ := ht
  have hr : ((s.noOut.setBank k b).raiseBits a m).raised = (s.raiseBits a m).raised := raiseBits_raised a m rfl
  rw [raiseBits_form (s.noOut.setBank k b), hr, raiseBits_form s]
  rfl

/-- As the bank takes its class, the pads that it concerns judge their formats by it. -/
theorem classTaken_judges (s : State) {cls : Nat} (hk : k < 8) (hc : c / 8 = k) :
    fmtAccepts ((s.classTaken k cls).g (K.PAD_FMT c)) ((s.classTaken k cls).classOf c) = fmtAccepts (s.g (K.PAD_FMT c)) cls := by
  rw [classTaken_fmt s k cls (by omega), State.classOf, hc, classTaken_class]

theorem gives_vddoClassChange_accepted (hm : s.mode ≠ 0) (hk : k < 8) (hn : s.vddoNext k = some n)
    (hf : ∀ i ∈ List.range 8, fmtAccepts (s.g (K.PAD_FMT (8 * k + i))) n = true) :
    Gives (.vddoClassChange k) s (fun t => Writes s t [(K.BANK_VDDO_CLASS k, n)] ∧
      t = { (s.raiseBits 114 (2 ^ k)).setBank k { s.bank k with vOut := 0 } with od := t.od, out := [] }) := by
  refine gives_vddoClassChange hm hk hn ?_
  have hall : ∀ z ∈ bankPads k, fmtAccepts ((s.noOut.classTaken k n).g (K.PAD_FMT z)) ((s.noOut.classTaken k n).classOf z) = true :=
    fun z hz => by
      obtain ⟨i, hi, rfl⟩ := List.mem_map.1 hz
      exact (classTaken_judges s.noOut hk (mem_bankPads.1 hz)).trans (hf i hi)
  rw [each_padClass_accepts hall]
  exact ⟨classTaken_writes s.noOut k n, setBank_raised (classTaken_odOnly s.noOut k n)⟩

theorem gives_vddoClassChange_refused (hm : s.mode ≠ 0) (hk : k < 8) (hn : s.vddoNext k = some n) (hc : c / 8 = k)
    (hf : fmtAccepts (s.g (K.PAD_FMT c)) n = false) (hw : (s.pad c).waits = false) :
    Gives (.vddoClassChange k) s (fun t => t.g (K.BANK_VDDO_CLASS k) = n ∧ t.offWaits c ∧ t.evMask 114 = s.evMask 114 ||| 2 ^ k ∧
      ∀ j, j ≠ K.BANK_VDDO_CLASS k → (∀ z ∈ bankPads k, j ≠ K.PAD_LEVEL z ∧ j ≠ K.CLK_GATED z) → t.g j = s.g j) := by
  refine gives_vddoClassChange hm hk hn ?_
  have hwr : Writes s (s.noOut.classTaken k n) [(K.BANK_VDDO_CLASS k, n)] := classTaken_writes s.noOut k n
  have hev : (s.noOut.classTaken k n).evMask 114 = s.evMask 114 ||| 2 ^ k := classTaken_evMask s.noOut k n
  have hrefuse := (classTaken_judges s.noOut hk hc).trans hf
  have hpad : (s.noOut.classTaken k n).pad = s.pad := classTaken_pad s.noOut k n
  generalize s.noOut.classTaken k n = u at hwr hev hrefuse hpad ⊢
  have hother : ∀ j, (∀ z ∈ bankPads k, j ≠ K.PAD_LEVEL z ∧ j ≠ K.CLK_GATED z) → (u.each (bankPads k) State.padClass).g j = u.g j :=
    fun j hj => each_keeps (fun u => u.g j) _ _ fun u z hz => padClass_g_other (hj z hz).1 (hj z hz).2
  have hraised : (u.each (bankPads k) State.padClass).raised = u.raised := each_keeps State.raised _ _ fun u z _ => padClass_raised u z
  have hoff : (u.each (bankPads k) State.padClass).offWaits c :=
    each_padClass_refused (mem_bankPads.2 hc) hrefuse ((congrArg PadHid.waits (congrFun hpad c)).trans hw)
  have hclass : u.g (K.BANK_VDDO_CLASS k) = n := by rw [hwr, after, if_pos rfl]
  generalize u.each (bankPads k) State.padClass = w at hother hraised hoff ⊢
  refine ⟨(hother _ fun z _ => class_ne_driver k z).trans hclass, hoff, (evMask_congr (State.ev_of_raised hraised 114)).trans hev,
    fun j hj hz => (hother j hz).trans ?_⟩
  rw [hwr, after, if_neg hj, after]

/-- Settles O20, clause by clause: the settling of a pad is told once, of what leads up to it each command's own part; a change of class
asks the drivers of the bank one after the other, each of which keeps the objects that the others read. -/
theorem padSettings : Obligations.PadSettings := by
  intro s c k n hm
  refine ⟨fun hc hi hn ha => ?_, fun hc hs hn hd => gives_padSettleTimeout hm hc hs hn hd, fun hc hw hf hfmt hsh hs => ?_,
    fun hc hw hf hfmt hsh hs ha => ?_, fun hc hw hf ho => gives_padDriverTurnOn_off hm hc hw hf ho,
    fun hk hn hf => gives_vddoClassChange_accepted hm hk hn hf, fun hk hn hc hf hw => ?_⟩
  · exact (gives_padAutoInvert hm hc hi hn ha).imp fun t ht => ⟨ht.writes, ht.pad, ht.pads, ht.bound, ht.chans, ht.rest⟩
  · refine (gives_padDriverTurnOn_level hm hc hw hf hfmt hsh hs).imp fun t ht => ⟨?_, ht.pad, ht.pads, ht.chans, ht.rest⟩
    rw [← decide_or_ne_zero hsh]
    exact ht.writes
  · refine (gives_padDriverTurnOn_clock hm hc hw hf hfmt hsh hs ha).imp fun t ht => ⟨?_, ht.pad, ht.pads, ht.chans, ht.rest⟩
    rw [← decide_or_ne_zero hsh]
    exact ht.writes
  · refine (gives_vddoClassChange_refused hm hk hn hc hf hw).imp fun t ⟨hclass, ⟨hl, hg, hwaits⟩, hev, hother⟩ =>
      ⟨hclass, hl, hg, hwaits, hev, fun j hj => hother j ?_ fun z hz => ?_⟩
    · rintro rfl
      simp at hj
    · obtain ⟨i, hi, rfl⟩ := List.mem_map.1 hz
      simp only [Bool.or_eq_false_iff, List.any_eq_false, Bool.or_eq_true, beq_iff_eq, not_or] at hj
      exact hj.2 i hi

end Sys2Proof.Machine
end

section
/-! SUPPORT. O37: the lock of a sequencer (R188, R189), and the controls of its compare log (R153, R154). -/

namespace Sys2Proof.Machine

section Locks

variable {s : State} {w : Who} {q v : Nat}

theorem fn_ne_lockOwner (q : Nat) : K.TS_FN ≠ K.SQ_LOCK_OWNER q := by
  simp only [K.TS_FN, K.SQ_LOCK_OWNER, key]; omega

theorem lockCount_ne_owner (q : Nat) : K.SQ_LOCK q + 4 ≠ K.SQ_LOCK_OWNER q := by
  simp only [K.SQ_LOCK, K.SQ_LOCK_OWNER, key]; omega

/-! ## SQ_LOCK (R188) -/

/-- What SQ_LOCK does for a requester that may give it. -/
def sqLockBody (w : Who) (q arg : Nat) (s : State) : CmdRes :=
  if 1 < arg then s.deny RC.range
  else if s.lockedOut w q then s.deny RC.locked
  else if arg = 1 then ((s.p (K.SQ_LOCK_OWNER q) (identityOf w)).renewLock w q).done
  else (s.p (K.SQ_LOCK_OWNER q) 0).done

theorem exec_sqLockAcquire (hq : q < 8) (s : State) :
    exec (.sqLockAcquire w q) s = run (fun s => s.command (fun s => s.call w (K.SQ_LOCK q) 1 1 (sqLockBody w q 1))) s := by
  show run (fun s => if q < 8 then s.command (fun s => s.sqLockCmd w q 1) else s) s = _
  simp only [hq, if_true]
  rfl

theorem exec_sqLockRelease (hq : q < 8) (s : State) :
    exec (.sqLockRelease w q) s = run (fun s => s.command (fun s => s.call w (K.SQ_LOCK q) 0 1 (sqLockBody w q 0))) s := by
  show run (fun s => if q < 8 then s.command (fun s => s.sqLockCmd w q 0) else s) s = _
  simp only [hq, if_true]
  rfl

theorem sqLockBody_locked {arg : Nat} (harg : arg ≤ 1) (h : s.lockedOut w q = true) : sqLockBody w q arg s = s.deny RC.locked :=
  (if_neg (Nat.not_lt.2 harg)).trans (if_pos h)

/-- The lock is taken, and its holder's lease begins at the present boundary. -/
theorem sqLockBody_acquire (h : s.lockedOut w q = false) :
    sqLockBody w q 1 s = ((s.p (K.SQ_LOCK_OWNER q) (identityOf w)).setSq q { s.sq q with renewed := s.tick }).done := by
  have howned : (s.p (K.SQ_LOCK_OWNER q) (identityOf w)).g (K.SQ_LOCK_OWNER q) = identityOf w := State.g_p_same ..
  rw [sqLockBody, if_neg (lt_irrefl 1), if_neg (ne_true_of_eq_false h), if_pos rfl, State.renewLock, if_pos howned, State.sq_p, State.p_tick]

theorem sqLockBody_release (h : s.lockedOut w q = false) : sqLockBody w q 0 s = (s.p (K.SQ_LOCK_OWNER q) 0).done := by
  rw [sqLockBody, if_neg (Nat.not_lt_zero 1), if_neg (ne_true_of_eq_false h), if_neg Nat.zero_ne_one]

/-! ## The lease runs out (R189) -/

theorem gives_sqLockLeaseExpiry (hq : q < 8) (hm : s.mode ≠ 0) (ho : s.g (K.SQ_LOCK_OWNER q) ≠ 0)
    (hl : (s.sq q).renewed + framesOfUs (s.g (K.SQ_LOCK_LEASE q)) ≤ s.tick) :
    Gives (.sqLockLeaseExpiry q) s (fun t => Writes s t [(K.SQ_LOCK_OWNER q, 0)] ∧
      t = { s.raiseBits 52 (2 ^ q) with od := t.od, out := [] }) := by
  have hrun : exec (.sqLockLeaseExpiry q) s = run (fun s => if q < 8 ∧ s.g (K.SQ_LOCK_OWNER q) ≠ 0 ∧
    (s.sq q).renewed + framesOfUs (s.g (K.SQ_LOCK_LEASE q)) ≤ s.tick then s.breakLock q else s) s := rfl
  have hraised : (s.noOut.breakLock q).raised = (s.raiseBits 52 (2 ^ q)).raised := by
    rw [State.breakLock, sqBit]; exact raiseBits_raised 52 (2 ^ q) rfl
  refine gives_noOut hm hrun ?_
  dsimp only
  rw [if_pos ⟨hq, ho, hl⟩]
  refine ⟨fun j => ?_, ?_⟩
  · show (s.noOut.breakLock q).g j = _
    rw [State.breakLock, raiseBits_g]
    exact (Writes.refl s).p _ _ j
  · have hform : s.noOut.breakLock q = { s.noOut with od := (s.noOut.breakLock q).od, raised := (s.noOut.breakLock q).raised } := by
      rw [State.breakLock, raiseBits_form]; rfl
    rw [hform, hraised, raiseBits_form s]
    rfl

/-! ## The compare log (R153, R154) -/

theorem exec_cmpLogResume (hq : q < 8) (s : State) :
    exec (.cmpLogResume w q) s = run (fun s => s.command (fun s => s.call w (K.CMP_LOG_RESUME q) 0 1
      (fun s => (s.p (K.CMP_LOG_HALTED q) 0).done))) s := by
  show run (fun s => if q < 8 then s.command (fun s => s.cmpLogResumeCmd w q 0) else s) s = _
  simp only [hq, if_true]
  rfl

/-- A write of CMP_LOG_TAIL by a requester that may make it answers what `cmpTailWrite` does. -/
theorem gives_cmpLogTailWrite {P : State → Prop} {code value : Nat} {r : State} (hq : q < 8) (ha : s.admits w 1)
    (hb : s.noOut.cmpTailWrite q v = ⟨code, value, r⟩) (h : P { r.emit (.result code value) with pending := s.pending }) :
    Gives (.cmpLogTailWrite w q v) s P := by
  obtain ⟨hm, hboot, hpriv⟩ := ha
  have hrun : exec (.cmpLogTailWrite w q v) s = run (fun s => if q < 8 then s.command (fun s =>
    if s.bootRom then s.deny RC.noObject else if s.privOf w < 1 then s.deny RC.privilege else s.cmpTailWrite q v) else s) s := rfl
  have hcmd : s.noOut.command (fun s => if s.bootRom then s.deny RC.noObject else if s.privOf w < 1 then s.deny RC.privilege
      else s.cmpTailWrite q v) = r.emit (.result code value) := by
    have hreach : s.noOut.reach = true := bne_iff_ne.2 hm
    have hboot : s.noOut.bootRom = false := hboot
    have hpriv : ¬ s.noOut.privOf w < 1 := Nat.not_lt.2 hpriv
    simp only [State.command, hreach, hboot, hpriv, hb, if_true, if_false, Bool.false_eq_true]
  refine gives_noOut hm hrun ?_
  dsimp only
  rw [if_pos hq, hcmd]
  exact h

end Locks

/-- Settles O37: the cases of `sqLockBody` and of `cmpTailWrite`, and the lease. -/
theorem sequencerLocks : Obligations.SequencerLocks := by
  intro s w q v hq
  refine ⟨fun ha h => ?_, fun ha h => ?_, fun ha h => ?_, fun ha h => ?_, gives_sqLockLeaseExpiry hq, fun ha => ?_, fun ha h1 h2 => ?_,
    fun ha h => ?_⟩
  · exact gives_answers ha (exec_sqLockAcquire hq s) (sqLockBody_acquire (s := s.noOut) h) ((Writes.refl s).p _ _)
      (State.g_p_other _ _ (lockCount_ne_owner q)) (State.g_p_other _ _ (fn_ne_lockOwner q)) rfl
  · exact gives_denied ha (exec_sqLockAcquire hq s) (sqLockBody_locked le_rfl h)
  · exact gives_answers ha (exec_sqLockRelease hq s) (sqLockBody_release (s := s.noOut) h) ((Writes.refl s).p _ _)
      (State.g_p_other _ _ (lockCount_ne_owner q)) (State.g_p_other _ _ (fn_ne_lockOwner q)) rfl
  · exact gives_denied ha (exec_sqLockRelease hq s) (sqLockBody_locked (Nat.zero_le 1) h)
  · exact gives_answers ha (exec_cmpLogResume hq s) rfl ((Writes.refl s).p _ _)
      (State.g_p_other _ _ (by simp only [K.CMP_LOG_RESUME, K.CMP_LOG_HALTED, key]; omega))
      (State.g_p_other _ _ (by simp only [K.TS_FN, K.CMP_LOG_HALTED, key]; omega)) rfl
  · exact gives_cmpLogTailWrite hq ha (if_neg (not_or.2 ⟨Nat.not_lt.2 h1, Nat.not_lt.2 h2⟩)) ⟨(Writes.refl s).p _ _, rfl⟩
  · exact gives_cmpLogTailWrite hq ha (if_pos h) rfl

end Sys2Proof.Machine
end

section
/-! SUPPORT. Refutations. Each of three statements lists all that a command changes and leaves out what another part of the model has to do
along with it: a transfer that waited asks the host for its image, an operation whose page is gone ends, a calibration yields to a commit. -/

namespace Sys2Proof.Machine

/-! ## A transfer that waited behind a refill (R235, R278 to R280) -/

/-- A command drives something out. -/
def drivesOut (c : Instr) (s : State) : Bool := match exec c s with | .next t => !t.out.isEmpty | _ => false

theorem Gives.drives {c : Instr} {s : State} {P : State → Prop} (h : Gives c s P) : ∃ t, P t ∧ drivesOut c s = !t.out.isEmpty := by
  obtain ⟨t, ht, hP⟩ := h
  exact ⟨t, hP, by simp only [drivesOut, ht]⟩

/-- M3 with sequencer 0 ARMED for the resident entry 0. A page of the streamed entry 5, which is off the path, is being refilled at bank 0, and
a page of entry 1, asked for by a load descriptor, waits behind it. -/
def staleRefill : State :=
  { State.reset.pAll [(K.MODE, 3), (K.SQ_STATE 0, 1), (K.SQ_START_ENTRY 0, 0), (K.RING_PAGES 0, 2),
      (atRow K.SEG_TABLE 0, 2 ^ 81 + 32 * 2 ^ 16 + 2), (atRow K.SEG_PLACE 0, 2 ^ 62),
      (atRow K.SEG_TABLE 1, 2 ^ 81 + 2 ^ 76 + 32 * 2 ^ 16 + 1), (atRow K.SEG_PLACE 1, 2 ^ 62),
      (atRow K.SEG_TABLE 5, 2 ^ 81 + 32 * 2 ^ 16 + 2 * 2 ^ 12 + 2), (atRow K.SEG_PLACE 5, 2 * 2 ^ 62),
      (atRow K.PAGE_MAP 0, Pg.mk Pg.filling 5 0 true 0 0), (atRow K.PAGE_MAP 1, Pg.mk Pg.empty 1 0 false 1 0),
      (atRow K.PAGE_MAP 2, Pg.mk Pg.valid 0 0 false 0 0)] with
    sqHid := [(0, { startAt := some qFrame })]
    rings := [(0, { pages := [{ slot := 0, entry := 5, gen := 0, n := 0, j := 0 }], next := 1 })]
    xunits := [(unitKey 0 8, { active := some { code := 1, entry := 5, ppn := 0 }, wait := [{ code := 2, entry := 1, ppn := 1 }] })]
    xfers := [{ tag := 0, entry := 5, gen := 0, page := 0, ppn := 0, addr := 0, start := 0, asked := true },
              { load := some (0, 0), tag := 0, entry := 1, gen := 0, page := 0, ppn := 1, addr := 24576, start := 0 }] }

theorem staleRefill_drivesOut : drivesOut (.prefetchDeadline 0) staleRefill = true := by decide +kernel

/-- Refutes O39, by its clause of the first deadline after a start: from `staleRefill` the page off the path is released, its refill ends,
and the transfer that waited asks the host for its image, where the statement has nothing driven out. -/
theorem not_playback : ¬ Obligations.Playback := by
  intro h
  obtain ⟨-, -, -, -, -, -, -, hfirst, -⟩ := h staleRefill 0 0 qFrame 0 0 0 0 default default [] default [] default default
    (staleRefill.enter [] (staleRefill.g (K.SQ_START_ENTRY 0))) (by decide +kernel) (by decide)
  obtain ⟨t, ⟨-, -, -, -, -, -, -, -, hout, -⟩, hdrives⟩ :=
    (hfirst (by decide +kernel) (by decide +kernel) (by decide +kernel) (by decide +kernel) (by decide +kernel) (by decide +kernel)
      rfl).drives
  rw [hout, staleRefill_drivesOut] at hdrives
  exact absurd hdrives (by decide)

/-! ## A scrub of a page that has been released (R279) -/

/-- M3 with a page of entry 0 all but written from post slot 0 at bank 0, while the scrub of page 1, which has been released, is active there. -/
def releasedScrub : State :=
  { State.reset.pAll [(K.MODE, 3), (atRow K.SEG_TABLE 0, 32 * 2 ^ 16 + 1), (atRow K.SEG_PLACE 0, 2 ^ 62),
      (atRow K.PAGE_MAP 0, Pg.mk Pg.filling 0 0 false 0 0), (K.PAGE_SLOTS_BUSY, 1)] with
    xunits := [(unitKey 0 8, { active := some { code := 3, ppn := 0, prog := 1023 } }), (unitKey 0 10, { active := some { code := 7, ppn := 1 } })] }

theorem releasedScrub_abandons : readAfter (.pageWriteComplete 0) releasedScrub (K.XS_ABANDONS 0 2) = 1 := by decide +kernel

/-- Refutes O41, by its clause of a page write from a post slot that completes: from `releasedScrub` the completion also ends the scrub and
counts it in XS_ABANDONS, which the statement leaves as it is. -/
theorem not_pageWrites : ¬ Obligations.PageWrites := by
  intro h
  obtain ⟨-, -, -, -, -, -, -, -, -, hdone, -⟩ := h releasedScrub default 0 0 0 0 0 0 0 [] [] { code := 3, ppn := 0, prog := 1023 } default default
  obtain ⟨t, ⟨hw, -⟩, hread⟩ :=
    (hdone (by decide +kernel) (by decide) (by decide +kernel) rfl rfl (by decide) (by decide +kernel) (by decide +kernel) (by decide +kernel)
      (by decide +kernel)).reads (K.XS_ABANDONS 0 2)
  have hkept : after releasedScrub.g [(K.PAGE_SLOTS_BUSY, setBit (releasedScrub.g K.PAGE_SLOTS_BUSY) 0 false),
      (atRow K.PAGE_MAP 0, setBits (releasedScrub.page 0) 63 61 Pg.valid)] (K.XS_ABANDONS 0 2) = 0 := by decide +kernel
  rw [hw, hkept, releasedScrub_abandons] at hread
  exact absurd hread (by decide)

/-! ## A core under calibration whose channel a commit takes (R446) -/

/-- The host over PCI Express, as its queue pair 0. -/
def committer : Who := { transport := 1, originGen := 0, originAddr := 0, principal := 0, bootEpoch := 0 }

/-- M3 with channel 0 on PARK and its core in MEASURE of a direct calibration, while session 0 of `committer` has staged CH_SOURCE 0 as DIRECT. -/
def calibratingCommit : State :=
  { State.reset.pAll [(K.MODE, 3), (K.PAD_FMT 0, 3), (K.BANK_VDDO_CLASS 0, 1), (K.CALB_CORE 0, 0), (K.CALB_STATE 0, 3), (K.SESS_STATE 0, 1),
      (K.SESS_OWNER 0, identityOf committer)] with
    sess := [(0, { staged := [(K.CH_SOURCE 0, 1)] })] }

theorem calibratingCommit_abandons : readAfter (.sessCommit committer 0 0) calibratingCommit (K.CALB_STATE 0) = 0 := by decide +kernel

/-- Refutes O47, by its first clause: from `calibratingCommit` the commit is accepted and the calibration abandoned, where the statement has
CALB_STATE stay 3. -/
theorem not_commits : ¬ Obligations.Commits := by
  intro h
  obtain ⟨haccept, -⟩ := h calibratingCommit _ _ committer 0 0 _ _ _ _ (0, 0) default (by decide +kernel)
  obtain ⟨t, ⟨⟨-, hw⟩, -⟩, hread⟩ :=
    (haccept rfl (by decide +kernel) (by decide) (by decide +kernel) (by decide +kernel) rfl rfl rfl rfl rfl rfl (by decide +kernel)
      (by decide +kernel) (by decide +kernel)).reads (K.CALB_STATE 0)
  have hkept : after calibratingCommit.g (recordOf calibratingCommit committer (K.SESS_COMMIT 0) 0 RC.accepted (calibratingCommit.fnAt 3) ++
      [(K.SESS_COMMIT_FN 0, calibratingCommit.fnAt 3), (K.SESS_COMMIT_OBJ 0, 0), (K.SESS_COMMIT_RESULT 0, RC.accepted),
       (K.SESS_COMMIT_STATE 0, 1), (K.SESS_STATE 0, 2)]) (K.CALB_STATE 0) = 3 := by decide +kernel
  rw [hw] at hread
  exact absurd (hkept.symm.trans (hread.trans calibratingCommit_abandons)) (by decide)

end Sys2Proof.Machine
end

section
/-! SUPPORT. A refutation. The device looks for the replacement of a lost page in the same bank first, and in the other banks of the set after
that (R251); the statement knows the round of the set alone. -/

namespace Sys2Proof.Machine

/-- The row that page 0 of entry 0, which sequencer 0 owns, takes in PAGE_MAP. -/
def lostRow : Nat := Pg.mk Pg.empty 0 0 false 0 0

/-- M3 with entry 0 resident and LOADING in banks 0 and 1, all pages FREE: its page 0 was lost in bank 1, and the round of the set is at bank 0. -/
def lostPage : State :=
  (State.reset.pAll [(K.MODE, 3), (atRow K.SEG_TABLE 0, 2 ^ 81 + 32 * 2 ^ 16 + 1), (atRow K.SEG_PLACE 0, 2 ^ 62), (K.SQ_BANKS 0, 3)]).setLost lostRow 1

/-- The page is replaced in the bank that lost it, whose first page is page 64. -/
theorem lostPage_replaced : readAfter (.pageAllocateDeferred 0 0) lostPage (atRow K.PAGE_MAP 64) = lostRow := by decide +kernel

/-- Refutes O40, by its clause of PAGE_ALLOCATE_DEFERRED: from `lostPage` the segment page takes page 64, of the bank that lost it, where the
statement has it take page 0, of the next bank of the set, and page 64 stay FREE. -/
theorem not_segmentEntries : ¬ Obligations.SegmentEntries := by
  intro h
  obtain ⟨-, -, -, -, -, -, -, hdeferred, -⟩ := h lostPage default 0 0 0 0 0 ((List.range 63).map (· + 1))
  obtain ⟨t, ⟨hw, -⟩, hread⟩ :=
    (hdeferred (by decide +kernel) (by decide) (by decide +kernel) (by decide +kernel) (by decide +kernel) (by decide +kernel)
      (by decide +kernel) (by decide +kernel)).reads (atRow K.PAGE_MAP 64)
  have hkept : after lostPage.g [(K.PL_LOG_HEAD, lostPage.g K.PL_LOG_HEAD + 1), (atRow K.PL_LOG (lostPage.g K.PL_LOG_HEAD % 512),
      2 ^ 60 + 3 * 2 ^ 56 + 0 * 2 ^ 42 + 0 * 2 ^ 22 + Seg.owner (lostPage.seg 0) * 2 ^ 19 + 2 ^ 17 + lostPage.fn % 2 ^ 64 * 2 ^ 64),
      (atRow K.PAGE_MAP 0, Pg.mk Pg.empty 0 (Seg.gen (lostPage.seg 0)) false (Seg.owner (lostPage.seg 0)) 0)] (atRow K.PAGE_MAP 64) = 0 := by
    decide +kernel
  rw [hw, hkept, lostPage_replaced] at hread
  exact absurd hread (by decide)

end Sys2Proof.Machine
end

section
/-! SUPPORT. Every command keeps the memories in canonical form: each meaning is a chain of operations that keep it (Laws/Memory*). -/

namespace Sys2Proof.Machine

theorem wf_guard {c : Prop} [Decidable c] {a b : State} (ha : Memory.wf a = true) (hb : Memory.wf b = true) :
    Memory.wf (if c then a else b) = true := wf_ite (fun _ => ha) (fun _ => hb)

theorem wf_guardRes {c : Prop} [Decidable c] {a b : CmdRes} (ha : Memory.wf a.st = true) (hb : Memory.wf b.st = true) :
    Memory.wf (if c then a else b).st = true := wf_iteRes (fun _ => ha) (fun _ => hb)

theorem State.plainWrite_wf {s : State} {w : Who} {body : State → CmdRes} (hb : ∀ s, Memory.wf s = true → Memory.wf (body s).st = true)
    (h : Memory.wf s = true) : Memory.wf (s.plainWrite w body).st = true :=
  wf_guardRes (State.deny_wf h) (wf_guardRes (State.deny_wf h) (hb s h))

theorem State.fetchDesc_wf {s : State} {q : Nat} {f : State → State} (hf : ∀ s, Memory.wf s = true → Memory.wf (f s) = true)
    (h : Memory.wf s = true) : Memory.wf (s.fetchDesc q f) = true := by
  refine wf_guard ?_ h
  split
  · exact hf _ (State.p_wf h)
  · exact State.qpFails_wf h

/-- A state with the memories of one in canonical form. -/
theorem wf_same {s t : State} (h : Memory.wf s = true) (hod : t.od = s.od := by rfl) (hvmem : t.vmem = s.vmem := by rfl)
    (hslots : t.slotBytes = s.slotBytes := by rfl) : Memory.wf t = true := by
  unfold Memory.wf at h ⊢; rw [hod, hvmem, hslots]; exact h

/-- An outcome whose next state has its memories in canonical form. -/
def KeepsForm (o : Host.Outcome State Fault Refusal) : Prop := ∀ t, o = .next t → Memory.wf t = true

theorem run_keepsForm {f : State → State} {s : State} (hf : ∀ s, Memory.wf s = true → Memory.wf (f s) = true) (hw : Memory.wf s = true) :
    KeepsForm (run f s) := fun _ => run_wf hf hw

theorem runAny_keepsForm {f : State → State} {s : State} (hf : ∀ s, Memory.wf s = true → Memory.wf (f s) = true)
    (hw : Memory.wf s = true) : KeepsForm (runAny f s) := fun _ => runAny_wf hf hw

/-- Each command of the table: the conditions it checks, and the operations it then runs, in their order. -/
theorem exec_keepsForm {s : State} (hw : Memory.wf s = true) (c : Instr) : KeepsForm (exec c s) := by
  cases c
  all_goals dsimp only [exec]
  case thermalRecovery => exact runAny_keepsForm (fun _ h => by exact wf_guard (wf_guard (State.toLoad_wf (State.fresh_wf (wf_same h))) (wf_same h)) h) hw
  case jtagInstructionLoad => exact runAny_keepsForm (fun _ h => by exact wf_guard (State.emit_wf (wf_same h)) (wf_guard (wf_same h) (State.toReset_wf (wf_same h)))) hw
  case powerOn => exact runAny_keepsForm (fun _ h => by exact State.toReset_wf (wf_same h)) hw
  case supplyBelowThreshold => exact runAny_keepsForm (fun _ h => by exact wf_guard (State.toReset_wf h) h) hw
  case resetNLow => exact runAny_keepsForm (fun _ h => by exact State.toReset_wf h) hw
  case resetRelease => exact runAny_keepsForm (fun _ h => by exact wf_guard (State.toLoad_wf h) h) hw
  case jtagTestLogicReset => exact runAny_keepsForm (fun _ h => by exact wf_same h) hw
  all_goals refine run_keepsForm (fun s h => ?_) hw
  case frameBoundary => exact wf_same (State.boundaryOf_wf h)
  case reactionTakeEffect => exact State.resetsDue_wf (State.step5_wf (State.reactsDue_wf (wf_guard (State.transition_wf h) h)))
  case blockReset =>
    split
    · exact State.startReset_wf h
    · exact h
  case blockResetSettleEnd =>
    split
    · exact wf_guard (State.endSettle_wf h) h
    · exact h
  case severeEnd => exact wf_guard (State.endSevere_wf h) h
  case forceHoldoverEnd => exact wf_guard (State.endForce_wf h) h
  case collectorEccError => exact wf_guard (State.eccError_wf h) h
  case fcClear => exact State.command_wf (fun _ h => State.fcClearCmd_wf h) h
  case fcDegradeClear => exact State.command_wf (fun _ h => State.fcDegradeClearCmd_wf h) h
  case sessionCommitCheck =>
    split
    · exact State.checkCommit_wf h
    · exact h
  case sessionCommitApply =>
    split
    · exact State.applyCommit_wf h
    · exact h
  case modeTransition => exact State.transition_wf h
  case modeRequest => exact State.command_wf (fun _ h => State.modeRequestCmd_wf h) h
  case placementPass => exact wf_guard (State.pass_wf h) h
  case edgeEmit => exact wf_guard (State.emitNext_wf h) h
  case inputEdge => exact wf_guard (State.returned_wf (State.inputEdge_wf h)) h
  case triggerEdgeIssue => exact wf_guard (State.issue_wf h) h
  case indexPlateFault => exact wf_guard (State.plateFault_wf h) h
  case spindleLock => exact wf_guard (State.spnLocked_wf h) h
  case spindleLossOfLock => exact wf_guard (wf_guard (State.calByp_wf (State.bypBounds_wf (State.spnLost_wf h))) (State.spnLost_wf h)) h
  case spindleSwitchBack => exact wf_guard (State.switchBack_wf h) h
  case spnMarginLow => exact wf_guard (State.raiseBits_wf (State.setReplace_wf h)) h
  case bypLock => exact wf_guard (State.bypLocked_wf h) h
  case bypLossOfLock => exact wf_guard (State.bypLost_wf h) h
  case loscMissing => exact wf_guard (State.loscGone_wf h) h
  case loscPresent => exact wf_guard h (wf_guard (State.loscMeasured_wf (State.fresh_wf (State.loscBack_wf h))) (State.loscBack_wf h))
  case utLock => exact wf_guard (State.utLocked_wf h) h
  case utLockTimeout => exact wf_guard (State.utStep2_wf (State.raiseBits_wf h)) h
  case utSettleEnd => exact wf_guard (State.setUt_wf h) h
  case utRestart => exact wf_guard (State.utRestart_wf h) h
  case utLossOfLock => exact wf_guard (State.utLost_wf h) h
  case clockGateClose => exact wf_guard (State.closePad_wf h) h
  case clockGateOpen => exact wf_guard (State.openPad_wf h) h
  case utBandMeasure => exact State.command_wf (fun _ h => State.utBandMeasureCmd_wf h) h
  case slotQualExpiry => exact wf_guard (State.qualExpires_wf h) h
  case slotWtrExpiry => exact wf_guard (State.makeAvailable_wf h) h
  case slotNoSignal => exact wf_guard (State.setNoSignal_wf h) h
  case slotSampleTimeout => exact wf_guard (State.setTimedOut_wf h) h
  case disagreementEnd => exact State.endDisag_wf h
  case selectionChangeEffect =>
    split
    · exact wf_guard (State.selectionEffect_wf (wf_same h)) h
    · exact h
  case firstAlignment => exact wf_guard (State.alignNow_wf h) h
  case slotLabel => exact State.command_wf (fun _ h => State.slotLabelCmd_wf h) h
  case slotClearWtr => exact State.command_wf (fun _ h => State.slotClearWtrCmd_wf h) h
  case htSample => exact State.command_wf (fun _ h => State.htSampleCmd_wf h) h
  case srRejectClear => exact State.command_wf (fun _ h => State.srRejectClearCmd_wf h) h
  case holdoverSteer => exact wf_guard (State.holdoverSteer_wf h) h
  case holdMaxExpiry => exact wf_guard (State.holdMax_wf h) h
  case learningSample => exact wf_guard (State.learnSample_wf (State.learnMean_wf h)) h
  case epochRecordBuild => exact wf_guard (State.erBuildNow_wf h) h
  case epochRecordEmit =>
    split
    · exact State.erEmit_wf h
    · exact h
  case epochRecordSkipped =>
    split
    · exact wf_guard (State.raiseVal_wf (State.inc_wf (wf_same h))) h
    · exact h
  case leapEpochReached => exact wf_guard (State.p_wf (State.pi_wf h)) h
  case tsStep => exact State.command_wf (fun _ h => State.tsStepCmd_wf h) h
  case tsStepEffect =>
    split
    · exact wf_guard (State.hostStep_wf (wf_same h)) h
    · exact h
  case prefetchDeadline => exact wf_guard (State.deadline_wf h) h
  case iterationBoundary => exact wf_guard (State.boundary_wf h) h
  case vectorStart => exact wf_guard (State.vectorStart_wf h) h
  case seqStartReached => exact wf_guard (State.startReached_wf h) h
  case compareOutcome => exact wf_guard (State.compareOutcomes_wf h) h
  case sqLockAcquire => exact wf_guard (State.command_wf (fun _ h => State.sqLockCmd_wf h) h) h
  case sqLockRelease => exact wf_guard (State.command_wf (fun _ h => State.sqLockCmd_wf h) h) h
  case sqLockLeaseExpiry => exact wf_guard (State.breakLock_wf h) h
  case sqJump => exact wf_guard (State.command_wf (fun _ h => State.sqJumpCmd_wf h) h) h
  case sqStop => exact wf_guard (State.command_wf (fun _ h => State.sqStopCmd_wf h) h) h
  case sqStart => exact State.command_wf (fun _ h => State.sqStartCmd_wf h) h
  case segFree => exact State.command_wf (fun _ h => State.segFreeCmd_wf h) h
  case segFreeEffect => exact wf_guard (State.freeEffect_wf h) h
  case retireIntervalExpiry => exact State.retireEnds_wf h
  case cmpLogResume => exact wf_guard (State.command_wf (fun _ h => State.cmpLogResumeCmd_wf h) h) h
  case cmpLogTailWrite => exact wf_guard (State.command_wf (fun _ h => State.plainWrite_wf (fun _ h => State.cmpTailWrite_wf h) h) h) h
  case bankArbitration => exact wf_guard (State.arbCycle_wf h) h
  case playbackParkOnRetire => exact wf_guard (State.parkOnRetire_wf h) h
  case pageAllocateDeferred => exact State.allocDeferred_wf h
  case arbCommit => exact State.command_wf (fun _ h => State.arbCommitCmd_wf h) h
  case arbUrgWrite => exact State.command_wf (fun _ h => State.plainWrite_wf (fun _ h => State.urgWrite_wf h) h) h
  case arbStateError => exact wf_guard (State.arbError_wf h) h
  case pagePost => exact State.command_wf (fun _ h => State.pagePostCmd_wf h) h
  case pageWriteComplete => exact State.pageWritten_wf h
  case pageReadByEntry => exact State.command_wf (fun _ h => State.pageReadCmd_wf h) h
  case pageReadByPpn => exact State.command_wf (fun _ h => State.pageReadCmd_wf h) h
  case pageReadComplete => exact State.pageReadDone_wf h
  case memSelftest => exact State.command_wf (fun _ h => State.selftestCmd_wf h) h
  case selftestPageDone => exact State.selftestDone_wf h
  case pageMoveStart => exact State.moveStart_wf h
  case pageMoveComplete => exact State.moveComplete_wf h
  case scrubPageDone => exact wf_guard (State.scrubDone_wf h) h
  case refillStart => exact wf_guard (State.refillPage_wf (State.retireWorn_wf h)) h
  case dmaCompletion => exact State.dmaArrives_wf h
  case dmaCompletionTimeout =>
    split
    · exact State.attemptFails_wf (State.inc_wf h)
    · exact h
  case refillRetryExpiry => exact State.refillRetry_wf h
  case segProducedWrite => exact State.command_wf (fun _ h => State.plainWrite_wf (fun _ h => wf_guardRes (State.deny_wf h) (State.done_wf (State.p_wf h))) h) h
  case padFaultDeclare => exact wf_guard (State.padDeclare_wf h) h
  case padProbe => exact wf_guard (State.probe_wf h) h
  case padDriverResume => exact wf_guard (wf_guard (State.p_wf (State.setPad_wf h)) (State.driverOn_wf (State.p_wf (State.setPad_wf h)))) h
  case padAutoInvert => exact wf_guard (State.settlePad_wf (State.pbit_wf (State.p_wf (State.setPad_wf h)))) h
  case padSettleTimeout => exact wf_guard (State.raiseBits_wf (State.setPad_wf h)) h
  case padDriverTurnOn => exact wf_guard (wf_guard (State.setPad_wf h) (State.driverOn_wf (State.setPad_wf h))) h
  case vddoClassChange =>
    split
    · exact wf_guard (State.each_wf (fun _ _ h => State.padClass_wf h) (State.raiseBits_wf (State.setBank_wf (State.p_wf h)))) h
    · exact h
  case inputDiagDeclare => exact wf_guard (wf_guard (State.raiseOpen_wf (State.pbit_wf h)) (State.pbit_wf h)) h
  case inputReversed => exact wf_guard (State.setInp_wf (State.pbit_wf h)) h
  case inputAutoInvert => exact wf_guard (State.raiseBits_wf (State.setSlot_wf (State.p_wf (State.inc_wf (State.p_wf (State.setInp_wf h)))))) h
  case supplyOutOfRange => exact wf_guard (State.raiseVal_wf h) h
  case thermalShutdown => exact wf_guard (State.toReset_wf h) h
  case spareSwapEffect => exact wf_guard (State.swapEffect_wf h) h
  case spSwap => exact State.command_wf (fun _ h => State.spSwapCmd_wf h) h
  case spReturn => exact State.command_wf (fun _ h => State.spReturnCmd_wf h) h
  case spareSearchFail =>
    split
    · exact wf_guard (State.searchFails_wf h) h
    · exact h
  case returnForced =>
    split
    · exact wf_guard (State.setBank_wf (State.inc_wf h)) h
    · exact h
  case coreCalStart =>
    refine wf_guard h (wf_guard (State.calQueue_wf h) ?_)
    split
    · exact State.calStart_wf (State.calQueue_wf h)
    · exact State.calQueue_wf h
  case calSettleEnd => exact wf_guard (State.phase_wf h) h
  case calMeasureComplete => exact wf_guard (State.measured_wf h) h
  case calStepsDone => exact wf_guard (State.phase_wf h) h
  case calVerifyComplete => exact wf_guard (wf_guard (State.calAbandon_wf (State.blockFails_wf h)) (wf_guard (State.calPasses_wf h) (State.calFails_wf h))) h
  case calRestoreComplete => exact wf_guard (wf_guard (State.calReturn_wf (State.setCore_wf h)) (State.calIdle_wf (State.p_wf (State.setCore_wf h)))) h
  case calRetryExpiry =>
    split
    · exact wf_guard (State.calSettled_wf (State.pbit_wf (wf_same h))) h
    · exact h
  case calPeriodExpiry => exact wf_guard (State.wantCal_wf h) h
  case calOverdue => exact wf_guard (State.goesOverdue_wf h) h
  case coreCalRequest => exact State.command_wf (fun _ h => State.coreCalCmd_wf h) h
  case calAll => exact State.command_wf (fun _ h => State.calAllCmd_wf h) h
  case calliperSelfCal => exact wf_guard (State.p_wf (wf_same h)) h
  case auditBlockClose => exact wf_guard (State.auditClose_wf h) h
  case ancRun => exact State.command_wf (fun _ h => State.ancRunCmd_wf h) h
  case anchorRunComplete =>
    split
    · exact wf_guard (State.ancDone_wf h) h
    · exact h
  case anchorApply =>
    split
    · exact wf_guard (State.ancApply_wf h) h
    · exact h
  case calStore => exact State.command_wf (fun _ h => State.calStoreCmd_wf h) h
  case nvmStoreStart =>
    refine wf_guard ?_ h
    split
    · exact State.writeSlot_wf (wf_same h)
    · exact h
  case nvmStoreComplete =>
    split
    · exact wf_guard (State.stored_wf h) (State.slotFailsCheck_wf h)
    · exact h
  case tableLoadComplete =>
    split
    · exact wf_guard (State.loadCore_wf h) h
    · exact h
  case verifySweep => exact wf_guard (State.loadEnds_wf (wf_foldl (fun _ _ h => State.swept1_wf h) h)) h
  case verifySweepSkipped => exact wf_guard (State.loadEnds_wf (State.each_wf (fun _ _ h => State.deviates_wf h) h)) h
  case markingPulseSend => exact wf_guard (State.markSend_wf h) h
  case markingAlertSend => exact wf_guard (State.alertSend_wf h) h
  case markingMessageReceive => exact wf_guard (State.messageReceive_wf h) h
  case markEchoSend => exact wf_guard (State.emit_wf h) h
  case markEchoReceive => exact wf_guard (State.echoReceive_wf h) h
  case stackAlertSeen => exact wf_guard (wf_guard (State.boundsGone_wf (State.p_wf (wf_same (State.raiseVal_wf (State.inc_wf h))))) (State.raiseVal_wf (State.inc_wf h))) h
  case stackReferenceSwitch => exact wf_guard (wf_guard (State.askFollow_wf (State.p_wf (wf_same h))) (wf_same h)) h
  case stackClkMissing => exact wf_guard (wf_guard (State.stackLost_wf (wf_same h)) (wf_same h)) h
  case stackMsgTimeout => exact wf_guard (State.stackLost_wf h) h
  case tnBlockLock => exact wf_guard (State.setLink_wf (State.p_wf h)) h
  case tnBlockLockLoss => exact wf_guard (State.retrain_wf (State.inc_wf h)) h
  case tnHelloSend => exact wf_guard (State.handOver_wf (State.setLink_wf (wf_guard (wf_same h) h))) h
  case tnHelloReceive => exact State.received_wf (fun _ h => State.helloReceive_wf h) h
  case tnHelloMiss => exact wf_guard (wf_guard (State.retrain_wf (State.setLink_wf (State.inc_wf h))) (State.setLink_wf (State.inc_wf h))) h
  case tnTimeSend => exact wf_guard (State.timeSend_wf h) h
  case tnTimeReceive => exact State.received_wf (fun _ h => wf_guard (State.timeReceive_wf h) h) h
  case tnAsymCal => exact wf_guard (State.command_wf (fun _ h => State.asymCalCmd_wf h) h) h
  case tnRouteSend => exact wf_guard (wf_same (State.each_wf (fun _ _ h => State.handOver_wf h) h)) h
  case tnRouteReceive => exact State.received_wf (fun _ h => wf_guard (wf_foldl (fun _ _ h => State.takeRoute_wf h) h) h) h
  case fabRootTimeout => exact wf_guard (State.rootTimeout_wf h) h
  case tnLeaseReceive => exact State.received_wf (fun _ h => wf_guard (State.leaseReceive_wf h) h) h
  case fabAddrRenew =>
    split
    · exact wf_guard (State.handOver_wf h) h
    · exact h
  case fabLeaseExpiry => exact wf_guard (wf_same (State.setAddr_wf (wf_guard (State.endLease_wf h) h))) (wf_guard (State.endLease_wf h) h)
  case tnMgmtReceive => exact State.received_wf (fun _ h => wf_guard (State.mgmtReceive_wf h) h) h
  case xidTimeout => exact wf_guard h (State.endXid_wf (State.inc_wf h))
  case objectWrite => exact wf_guard (State.bar0Write_wf h) (State.bar0Narrow_wf h)
  case bar0Time92ReadLow => exact State.bar0Read_wf (State.bar0Renew_wf h)
  case bar0Time92WriteHigh => exact State.bar0Write_wf h
  case bar0Time92WriteLow => exact State.bar0Write_wf h
  case bar0SessionWrite => exact State.bar0Write_wf h
  case bar0Open => exact State.bar0Write_wf h
  case tblSelWrite => exact State.bar0Write_wf h
  case tblPut => exact State.bar0Write_wf h
  case sessCommit => exact wf_guard (State.command_wf (fun _ h => State.sessCommitCmd_wf h) h) h
  case sessDiscard => exact wf_guard (State.command_wf (fun _ h => State.sessDiscardCmd_wf h) h) h
  case sessClose => exact wf_guard (State.command_wf (fun _ h => State.sessCloseCmd_wf h) h) h
  case sessionLeaseExpiry => exact wf_guard (State.breakSess_wf h) h
  case sessionRetireExpiry => exact State.sessRetired_wf h
  case wopMessage => exact State.takeMessage_wf h
  case wopRead => exact State.single_wf h
  case wopWrite => exact State.single_wf h
  case wopReadRow => exact State.single_wf h
  case wopWriteRow => exact State.single_wf h
  case wopReadBytes => exact State.single_wf h
  case wopOpen => exact State.single_wf h
  case wopClose => exact State.single_wf h
  case wopCommit => exact State.single_wf h
  case wopDiscard => exact State.single_wf h
  case wopRenew => exact State.single_wf h
  case wopHandshakeHello => exact wf_guard (State.shakeHello_wf h) h
  case wopHandshakeFinish => exact wf_guard (State.shakeFinish_wf h) h
  case wopChannelIdleExpiry =>
    split
    · exact wf_guard (wf_same h) h
    · exact h
  case ethDatagramReceive => exact wf_guard (State.datagram_wf h) h
  case ethLinkDown => exact wf_guard (wf_guard (State.raiseVal_wf (State.p_wf h)) (State.p_wf h)) h
  case smbSelect => exact wf_guard (wf_same h) h
  case smbRead => exact wf_guard (State.emit_wf h) h
  case qpSqTailWrite => exact wf_guard (State.command_wf (fun _ h => State.plainWrite_wf (fun _ h => State.ringWrite_wf h) h) h) h
  case descWop =>
    split
    · exact State.fetchDesc_wf (fun _ h => State.wopDesc_wf h) h
    · exact State.fetchDesc_wf (fun _ h => State.descDone_wf h) h
    · exact h
  case descLoad =>
    split
    · exact State.fetchDesc_wf (fun _ h => State.loadPage_wf h) h
    · exact h
  case completionPost => exact wf_guard (State.postCompletion_wf h) h
  case qpCqHeadWrite => exact wf_guard (State.command_wf (fun _ h => State.plainWrite_wf (fun _ h => State.ringWrite_wf h) h) h) h
  case qpError => exact wf_guard (State.qpFails_wf h) h
  case telemetryRecord => exact wf_guard (State.each_wf (fun _ _ h => State.putRecord_wf h) (State.inc_wf (wf_same h))) h
  case pcieLinkDown => exact wf_guard (State.pcieBreak_wf (wf_same h)) h
  case pcieHotReset => exact State.pcieReset_wf (wf_same h)
  case functionLevelReset => exact State.pcieReset_wf h
  case d3hotEntry => exact State.toD3_wf h
  case flErase => exact State.command_wf (fun _ h => State.flEraseCmd_wf h) h
  case flDataWrite => exact State.command_wf (fun _ h => wf_guardRes (State.deny_wf h) (wf_guardRes (State.deny_wf h) (State.flData_wf h))) h
  case flVerify => exact State.command_wf (fun _ h => State.flVerifyCmd_wf h) h
  case flOperationComplete =>
    split
    · exact State.flDone_wf h
    · exact h
  case spnMarginRestored => exact wf_guard (State.clearReplace_wf h) h
  case padFaultClear => exact wf_guard (State.pbit_wf h) h
  case firmwareCheckComplete => exact wf_guard (wf_guard (State.imageRuns_wf h) (State.imageRejected_wf h)) h
  case ethLinkUp => exact wf_guard (State.p_wf h) h
  case pcieLinkUp => exact wf_same h
  case msixUnmask => exact wf_guard (State.msixSend_wf (wf_same h)) h
  case postSlotWrite => exact State.slotWrite_wf h
  case pcieConfigWrite => exact wf_guard (wf_same h) (wf_guard (wf_guard (wf_same h) h) (wf_guard (State.toD3_wf h) (wf_guard (wf_same h) h)))
  case signerFault => exact State.raiseVal_wf h
  case pcieAerError => exact State.raiseVal_wf h

/-- Settles O58: a step is the front command run on the rest of the queue, or nothing. -/
theorem memoryFormKept : Obligations.MemoryFormKept := by
  intro s t hw ht
  cases h : s.pending with
  | nil =>
    rw [step_nil h] at ht
    injection ht with ht
    exact ht ▸ hw
  | cons c rest => exact exec_keepsForm (wf_same hw) c t ((step_cons h).symm.trans ht)

/-- Settles O59: the reset state lists nothing, so every object reads its default. -/
theorem resetState : Obligations.ResetState := ⟨rfl, rfl, fun _ => rfl, rfl, rfl⟩

end Sys2Proof.Machine
end

section
/-! SUPPORT. A refutation. Requester 10 of a bank runs self-tests and scrubs, and the statement has the self-test preempt a scrub alone: over
every state an operation of another code may stand there, and the self-test goes before any whose rank is lower. -/

namespace Sys2Proof.Machine

/-- M3 with all pages FREE and a page transfer active at requester 10 of bank 0, where no command puts one. -/
def strayTest : State := { State.reset.p K.MODE 3 with xunits := [(unitKey 0 10, { active := some { code := 2, ppn := 0 } })] }

/-- The self-test of bank 0 preempts it. -/
theorem strayTest_preempts : readAfter (.memSelftest committer 1) strayTest (K.XS_PREEMPTS 0 2) = 1 := by decide +kernel

/-- Refutes O42, by its first clause: from `strayTest` the self-test of page 0 goes before the transfer and counts it in XS_PREEMPTS, where
the statement has the self-test wait and XS_PREEMPTS stay 0. -/
theorem not_pageUpkeep : ¬ Obligations.PageUpkeep := by
  intro h
  obtain ⟨htest, -⟩ := h strayTest committer 1 0 0 0 0 0 false ((List.range 63).map (· + 1)) default .pin
  obtain ⟨t, ⟨⟨-, hw⟩, -⟩, hread⟩ :=
    (htest ⟨by decide +kernel, by decide +kernel, by decide +kernel⟩ rfl (by decide +kernel) (by decide +kernel) (by decide +kernel)).reads (K.XS_PREEMPTS 0 2)
  have hkept : after strayTest.g (recordOf strayTest committer K.MEM_SELFTEST 1 RC.accepted 0 ++ []) (K.XS_PREEMPTS 0 2) = 0 := by
    decide +kernel
  rw [hw, hkept, strayTest_preempts] at hread
  exact absurd hread (by decide)

end Sys2Proof.Machine
end

section
/-! SUPPORT. The path of a sequencer does not depend on what was driven out (R187, R234). -/

namespace Sys2Proof.Machine

variable (s : State) (q : Nat)

theorem atTime_noOut (t : Nat) : s.noOut.atTime t = (s.atTime t).noOut := view_noOut s _

theorem periodAt_noOut (tssel t : Nat) : s.noOut.periodAt q tssel t = s.periodAt q tssel t := by
  unfold State.periodAt
  rw [atTime_noOut]
  rfl

theorem vecPeriod_noOut (it : Iter) (i t : Nat) : s.noOut.vecPeriod q it i t = s.vecPeriod q it i t := by
  have hv : s.noOut.iterVec q it i = s.iterVec q it i := rfl
  simp only [State.vecPeriod, hv, periodAt_noOut, atTime_noOut, noOut_g]

theorem walkEnd_noOut (limit f : Nat) : ∀ l i t, s.noOut.walkEnd q limit f l i t = s.walkEnd q limit f l i t := by
  induction f with
  | zero => exact fun _ _ _ => rfl
  | succ f ih => exact fun l i t => by simp only [State.walkEnd, vecPeriod_noOut, ih]

theorem iterEnd_noOut (it : Iter) (t : Nat) : s.noOut.iterEnd q it t = s.iterEnd q it t := by
  unfold State.iterEnd
  rw [walkEnd_noOut]
  rfl

theorem knownEnd_noOut : s.noOut.knownEnd q = s.knownEnd q := by
  unfold State.knownEnd
  dsimp only
  rw [walkEnd_noOut]
  rfl

theorem choiceAfter_noOut (it : Iter) (taken : Bool) : s.noOut.choiceAfter q it taken = s.choiceAfter q it taken := by
  have hend : s.noOut.iterEnd q it = s.iterEnd q it := funext (iterEnd_noOut s q it)
  unfold State.choiceAfter
  rw [knownEnd_noOut, hend]
  rfl

theorem nextUp_noOut : s.noOut.nextUp q = s.nextUp q := by
  unfold State.nextUp
  rw [knownEnd_noOut]
  rfl

theorem pathHead_noOut : s.noOut.pathHead q = s.pathHead q := by
  unfold State.pathHead
  rw [nextUp_noOut, knownEnd_noOut]
  simp only [choiceAfter_noOut]
  rfl

theorem streamsFrom_noOut (f : Nat) : ∀ k it cnt, s.noOut.streamsFrom f k it cnt = s.streamsFrom f k it cnt := by
  have hnext (it : Iter) : (s.noOut.passOver it).bind s.noOut.follow = (s.passOver it).bind s.follow := rfl
  have hnum (cnt : Sp Nat) (it : Iter) : s.noOut.numbered cnt it = s.numbered cnt it := rfl
  have hstr (e : Nat) : s.noOut.streamed e = s.streamed e := rfl
  induction f with
  | zero => exact fun _ _ _ => rfl
  | succ f ih =>
    intro k it cnt
    cases k with
    | zero => rfl
    | succ k => simp only [State.streamsFrom, hnext, hnum, hstr, ih]

theorem streams_noOut : s.noOut.streams q = s.streams q := by
  unfold State.streams
  rw [pathHead_noOut]
  simp only [streamsFrom_noOut]
  rfl

theorem toFill_noOut : s.noOut.toFill q = s.toFill q := by
  unfold State.toFill
  rw [streams_noOut]
  rfl

theorem refillNext_noOut (l : List (Nat × Nat × Nat × Nat)) : s.noOut.refillNext q l = s.refillNext q l := by
  induction l with
  | nil => rfl
  | cons x l ih => simp only [State.refillNext, ih]; rfl

end Sys2Proof.Machine
end

section
/-! SUPPORT. A page transfer as it begins: it takes its bank's page write turn, or waits, or does not reach its image (R240, R275 to R280). -/

namespace Sys2Proof.Machine

variable {s : State} {b r : Nat} {x y : Xfer} {o a : XOp}

/-- The read requests of a page image. -/
def State.reads (s : State) (tag addr : Nat) : List Out :=
  (List.range (ceilDiv 24576 (128 * 2 ^ min 5 s.devCtl.2.1))).map
    (fun i => .dmaRead tag (addr + 128 * 2 ^ min 5 s.devCtl.2.1 * i) (min (128 * 2 ^ min 5 s.devCtl.2.1) (24576 - 128 * 2 ^ min 5 s.devCtl.2.1 * i)))

theorem each_emit (f : Nat → Out) (l : List Nat) : ∀ s : State, s.each l (fun s i => s.emit (f i)) = s.withOut (s.out ++ l.map f) := by
  induction l with
  | nil => exact fun s => by rw [List.map_nil, List.append_nil]; rfl
  | cons i l ih =>
    intro s
    refine (ih (s.emit (f i))).trans ?_
    rw [List.map_cons, List.append_cons]
    rfl

theorem emitReads_eq (s : State) (tag addr : Nat) : s.emitReads tag addr = s.withOut (s.out ++ s.reads tag addr) :=
  each_emit _ _ s

/-! ## The transfers -/

/-- The state with other transfers. -/
def State.withXfers (s : State) (l : List Xfer) : State := { s with xfers := l }

/-- The state with one transfer more. -/
def State.joined (s : State) (x : Xfer) : State := s.withXfers (s.xfers ++ [x])

/-- A transfer that has not asked holds no tag. -/
theorem freeTag_joined (h : x.asked = false) : (s.joined x).freeTag = s.freeTag := by
  have hany (t : Nat) : (s.xfers ++ [x]).any (fun z => z.asked && z.tag == t) = s.xfers.any (fun z => z.asked && z.tag == t) := by
    simp [h]
  exact congrArg (fun f => (List.range 1024).find? f) (funext fun t => congrArg (fun c => !c && _) (hany t))

theorem xferOf_joined (h : s.xferOf x.ppn = none) : (s.joined x).xferOf x.ppn = some x := by
  unfold State.xferOf at h ⊢
  simp only [State.joined, State.withXfers, List.find?_append, h, Option.none_or]
  simp

/-- The newest transfer is the only one of its page. -/
theorem setXfer_joined (h : s.xferOf x.ppn = none) (hy : y.ppn = x.ppn) : (s.joined x).setXfer y = s.joined y := by
  have hne : ∀ z ∈ s.xfers, z.ppn ≠ y.ppn := by
    intro z hz he
    exact absurd (he.trans hy) (by simpa using List.find?_eq_none.1 h z hz)
  have hold : s.xfers.map (fun z => if z.ppn = y.ppn then y else z) = s.xfers := by
    conv_rhs => rw [← List.map_id s.xfers]
    exact List.map_congr_left fun z hz => if_neg (hne z hz)
  have hmap : (s.xfers ++ [x]).map (fun z => if z.ppn = y.ppn then y else z) = s.xfers ++ [y] := by
    rw [List.map_append, hold, List.map_singleton, if_pos hy.symm]
  exact congrArg s.withXfers hmap

/-! ## The operation -/

/-- An operation takes the free place of a requester. -/
def XUnit.takes (u : XUnit) (o : XOp) : XUnit := { u with active := some o }

/-- An operation takes the place of another one, which is held. -/
def XUnit.preempts (u : XUnit) (o a : XOp) : XUnit := { u with active := some o, held := some a }

/-- An operation waits behind the active one. -/
def XUnit.waits (u : XUnit) (o : XOp) : XUnit := { u with wait := u.wait ++ [o] }

theorem unit_setUnit_same (s : State) (b r : Nat) (u : XUnit) : (s.setUnit b r u).unit b r = u := Sp.get_set_same _ _ _ _

theorem acceptOp_idle (h : (s.unit b r).active = none) :
    s.acceptOp b r o = (s.setUnit b r ((s.unit b r).takes (o.begins s.tick))).startReads b := by
  simp only [State.acceptOp, h]
  rfl

theorem acceptOp_waits (h : (s.unit b r).active = some a) (hr : opRank a.code ≤ opRank o.code) :
    s.acceptOp b r o = s.setUnit b r ((s.unit b r).waits o) := by
  simp only [State.acceptOp, XUnit.waits, h, Nat.not_lt.2 hr, false_and, if_false]

/-- An operation of a page in one bank goes before one of a lower rank. -/
theorem acceptOp_preempts (h : (s.unit b r).active = some a) (hr : opRank o.code < opRank a.code) (hh : (s.unit b r).held = none)
    (h8 : o.code ≠ 8) (h9 : r ≠ 9) (hb : o.banks = [b]) :
    s.acceptOp b r o =
      ((((s.setUnit b r ((s.unit b r).preempts (o.begins s.tick) (a.holds s.tick))).inc (K.XS_PREEMPTS b (r - 8))).raiseBits
        75 (2 ^ b)).startReads b) := by
  have hm : o.bankMask = 2 ^ b := by rw [XOp.bankMask, hb]; exact bitmap_singleton b
  have hgo : opRank o.code < opRank a.code ∧ (s.unit b r).held.isNone = true ∧ o.code ≠ 8 ∧ (!decide (r = 9 ∧ s.moveDone = true)) = true :=
    ⟨hr, by rw [hh]; rfl, h8, by simp [h9]⟩
  simp only [State.acceptOp, h]
  rw [if_pos hgo, hm, hb]
  rfl

/-- The transfer of the active page write takes the lowest free tag and asks the host for its image. -/
theorem startReads_asks {v : Nat} (h : (s.unit b 8).active = some o) (hc : o.code ≠ 3) (hx : s.xferOf o.ppn = some x)
    (ha : x.asked = false) (hv : s.freeTag = some v) :
    s.startReads b = (s.setXfer { x with tag := v, asked := true }).emitReads v x.addr := by
  simp only [State.startReads, h, Option.bind_some, hc, if_false, hx, hv, ha, Bool.false_eq_true]

/-! ## The transfer of a stream page -/

/-- The page write of a stream page. -/
def refillOp (e g p since : Nat) : XOp := { code := 1, entry := e, gen := g, ppn := p, since := since }

/-- The transfer of a stream page, with its tag once it has asked the host for the image. -/
def refillXfer (e g n p a start : Nat) (tag : Option Nat) : Xfer :=
  { tag := tag.getD 0, entry := e, gen := g, page := n, ppn := p, addr := a, start := start, asked := tag.isSome }

section Begins
variable {e g n p w d addr v : Nat}

/-- The state with other events raised. -/
def State.withRaised (s : State) (e : Sp Ev) : State := { s with raised := e }

theorem raiseBits_withRaised (s : State) (k m : Nat) : s.raiseBits k m = s.withRaised (s.raiseBits k m).raised := raiseBits_form s k m

theorem joined_inc (k : Nat) (x : Xfer) : (s.joined x).inc k = (s.inc k).joined x := rfl

theorem raiseBits_joined (s : State) (k m : Nat) (x : Xfer) : (s.joined x).raiseBits k m = (s.raiseBits k m).joined x := by
  have hev : (s.joined x).ev k = s.ev k := rfl
  unfold State.raiseBits
  rw [hev]
  cases s.ev k <;> rfl

theorem beginXfer_translated (ht : s.translate w d = some addr) :
    s.beginXfer none e g n p w d = (s.joined (refillXfer e g n p addr s.fn none)).acceptOp (p / 64) 8 (refillOp e g p 0) := by
  simp only [State.beginXfer, ht]
  rfl

section Asks
variable {u : State} {start since : Nat} (hn : u.xferOf p = none) (hv : u.freeTag = some v)
include hn hv

/-- The transfer asks the host for its image, where its page write is active. -/
theorem startReads_joined (h : (u.unit (p / 64) 8).active = some (refillOp e g p since)) :
    (u.joined (refillXfer e g n p addr start none)).startReads (p / 64) =
      (u.joined (refillXfer e g n p addr start (some v))).withOut (u.out ++ u.reads v addr) := by
  have hx := xferOf_joined (s := u) (x := refillXfer e g n p addr start none) hn
  have hv' : (u.joined (refillXfer e g n p addr start none)).freeTag = some v := (freeTag_joined rfl).trans hv
  rw [startReads_asks (s := u.joined _) h (by decide : (1 : Nat) ≠ 3) hx rfl hv', emitReads_eq]
  exact congrArg (fun t => State.withOut t (u.out ++ u.reads v addr)) (setXfer_joined (y := refillXfer e g n p addr start (some v)) hn rfl)

/-- So it does after an object has counted one more and an event has been raised. -/
theorem counted_startReads (h : (u.unit (p / 64) 8).active = some (refillOp e g p since)) (j k m : Nat) :
    (((u.joined (refillXfer e g n p addr start none)).inc j).raiseBits k m).startReads (p / 64) =
      (((u.inc j).raiseBits k m).joined (refillXfer e g n p addr start (some v))).withOut (u.out ++ u.reads v addr) := by
  rw [joined_inc, raiseBits_joined, raiseBits_withRaised]
  exact startReads_joined (u := (u.inc j).withRaised ((u.inc j).raiseBits k m).raised) hn hv h

end Asks

variable (ht : s.translate w d = some addr) (hn : s.xferOf p = none) (hv : s.freeTag = some v)

include ht in
/-- Behind an earlier page write of its rank the transfer waits. -/
theorem beginXfer_waits (ha : (s.unit (p / 64) 8).active = some a) (h1 : a.code = 1) :
    s.beginXfer none e g n p w d = (s.setUnit (p / 64) 8 ((s.unit (p / 64) 8).waits (refillOp e g p 0))).joined
      (refillXfer e g n p addr s.fn none) := by
  have hr : opRank a.code ≤ opRank 1 := by rw [h1]
  rw [beginXfer_translated ht, acceptOp_waits (s := s.joined _) ha hr]
  rfl

include ht hn hv

/-- With the page write turn of its bank free, the transfer takes it. -/
theorem beginXfer_idle (ha : (s.unit (p / 64) 8).active = none) :
    s.beginXfer none e g n p w d = ((s.setUnit (p / 64) 8 ((s.unit (p / 64) 8).takes (refillOp e g p s.tick))).joined
      (refillXfer e g n p addr s.fn (some v))).withOut (s.out ++ s.reads v addr) := by
  rw [beginXfer_translated ht, acceptOp_idle (s := s.joined _) ha]
  exact startReads_joined (u := s.setUnit (p / 64) 8 ((s.unit (p / 64) 8).takes (refillOp e g p s.tick))) hn hv
    (congrArg XUnit.active (unit_setUnit_same s (p / 64) 8 _))

/-- Before a page write of a lower rank the transfer takes the turn, and the other one is held. -/
theorem beginXfer_preempts (ha : (s.unit (p / 64) 8).active = some a) (h23 : a.code = 2 ∨ a.code = 3) (hh : (s.unit (p / 64) 8).held = none) :
    s.beginXfer none e g n p w d =
      ((((s.setUnit (p / 64) 8 ((s.unit (p / 64) 8).preempts (refillOp e g p s.tick) (a.holds s.tick))).inc
        (K.XS_PREEMPTS (p / 64) 0)).raiseBits 75 (2 ^ (p / 64))).joined (refillXfer e g n p addr s.fn (some v))).withOut (s.out ++ s.reads v addr) := by
  have hr : opRank 1 < opRank a.code := by rcases h23 with h | h <;> rw [h] <;> decide
  rw [beginXfer_translated ht, acceptOp_preempts (s := s.joined _) ha hr hh (by decide : (1 : Nat) ≠ 8) (by decide) rfl]
  exact counted_startReads (u := s.setUnit (p / 64) 8 ((s.unit (p / 64) 8).preempts (refillOp e g p s.tick) (a.holds s.tick))) hn hv
    (congrArg XUnit.active (unit_setUnit_same s (p / 64) 8 ((s.unit (p / 64) 8).preempts (refillOp e g p s.tick) (a.holds s.tick)))) _ 75 _

end Begins

end Sys2Proof.Machine
end

section
/-! SUPPORT. What refill does next, and the slot that it takes (R234). -/

namespace Sys2Proof.Machine

variable {s t u : State} {q p g e n k sl d w : Nat}

/-! ## The next page to fill -/

/-- A stream page stands in a slot, valid or under a page write. -/
def State.filled (s : State) (q : Nat) (z : Nat × Nat × Nat × Nat) : Bool :=
  (s.streamPage q z.1 z.2.1 z.2.2.1).any (fun m => Pg.state (s.page m.2) == Pg.valid || (s.unit (m.2 / 64) 8).ops.any (fun o => o.ppn == m.2))

/-- Refill passes over the pages that are filled. -/
theorem refillNext_filled (l : List (Nat × Nat × Nat × Nat)) {pre : List (Nat × Nat × Nat × Nat)} (h : ∀ z ∈ pre, s.filled q z = true) :
    s.refillNext q (pre ++ l) = s.refillNext q l := by
  induction pre with
  | nil => rfl
  | cons z pre ih =>
    obtain ⟨m, hm, hf⟩ := (Option.any_eq_true _ _).1 (h z List.mem_cons_self)
    have hf' : ((s.unit (m.2 / 64) 8).ops.any (fun o => o.ppn == m.2) || Pg.state (s.page m.2) == Pg.valid) = true := by
      rw [Bool.or_comm]; exact hf
    rw [List.cons_append, State.refillNext, hm]
    exact (if_pos hf').trans (ih fun y hy => h y (List.mem_cons_of_mem _ hy))

variable {rest : List (Nat × Nat × Nat × Nat)}

theorem refillNext_waits (hs : s.streamPage q e g n = none) (hp : s.produced e n = false) :
    s.refillNext q ((e, g, n, k) :: rest) = .waits := by
  simp only [State.refillNext, hs, hp, Bool.not_false, if_true]

theorem refillNext_take (hs : s.streamPage q e g n = none) (hp : s.produced e n = true) (hn : s.ringPpn q (s.ring q).next = some p)
    (hl : (s.ring q).next < s.g (K.RING_PAGES q)) (hf : s.slotFree q (s.ring q).next = true) :
    s.refillNext q ((e, g, n, k) :: rest) = .take q (s.ring q).next p e g n k := by
  simp only [State.refillNext, hs, hp, hn, hf, decide_eq_true hl, Bool.not_true, Bool.false_eq_true, if_false, Bool.and_self, if_true]

/-- With no slot free, refill does nothing. -/
theorem refillPage_noSlot (hs : s.streamPage q e g n = none) (hn : s.ringPpn q (s.ring q).next = some p)
    (hf : s.slotFree q (s.ring q).next = false ∨ s.g (K.RING_PAGES q) ≤ (s.ring q).next) :
    u.refillPage (s.refillNext q ((e, g, n, k) :: rest)) = u := by
  cases hp : s.produced e n with
  | false => rw [refillNext_waits hs hp]; rfl
  | true =>
    have hno : (decide ((s.ring q).next < s.g (K.RING_PAGES q)) && s.slotFree q (s.ring q).next) = false := by
      rcases hf with hf | hf
      · rw [hf, Bool.and_false]
      · rw [decide_eq_false (Nat.not_lt.2 hf), Bool.false_and]
    simp only [State.refillNext, hs, hp, hn, hno, Bool.not_true, Bool.false_eq_true, if_false]
    rfl

/-- No ring slot is at the limit of corrected errors. -/
theorem retireWorn_none (h : ∀ z ∈ s.ringPages q, Pg.ce z.2 < s.g K.PAGE_CE_LIMIT) : s.retireWorn q = s := by
  have hnone : (s.ringPages q).filter (fun z => s.g K.PAGE_CE_LIMIT ≤ Pg.ce z.2 && s.slotFree q (Pg.index z.2)) = [] := by
    refine List.filter_eq_nil_iff.2 fun z hz => ?_
    simp [Nat.not_le.2 (h z hz)]
  unfold State.retireWorn
  rw [hnone]
  rfl

/-- REFILL_START of a sequencer that is not STOPPED does what refill does next. -/
theorem gives_refillStart {P : State → Prop} (hm : s.mode ≠ 0) (hq : q < 8) (hst : s.g (K.SQ_STATE q) ≠ 0)
    (hw : ∀ z ∈ s.ringPages q, Pg.ce z.2 < s.g K.PAGE_CE_LIMIT)
    (h : P { s.noOut.refillPage (s.refillNext q (s.toFill q)) with pending := s.pending }) : Gives (.refillStart q) s P := by
  refine gives_noOut hm (f := fun s => if q < 8 ∧ s.g (K.SQ_STATE q) ≠ 0 then (s.retireWorn q).refillPage
    ((s.retireWorn q).refillNext q ((s.retireWorn q).toFill q)) else s) rfl ?_
  have hgo : q < 8 ∧ s.noOut.g (K.SQ_STATE q) ≠ 0 := ⟨hq, hst⟩
  dsimp only
  rw [if_pos hgo, retireWorn_none (s := s.noOut) hw, toFill_noOut, refillNext_noOut]
  exact h

/-! ## The slot -/

/-- A page of a ring is a page of vector memory. -/
theorem ringPpn_lt (h : s.ringPpn q sl = some p) : p < 1024 := by
  obtain ⟨z, hz, rfl⟩ := Option.map_eq_some_iff.1 h
  have hrow := (List.mem_filter.1 (List.mem_of_find?_eq_some hz)).1
  obtain ⟨y, -, hy⟩ := List.mem_filterMap.1 hrow
  split at hy
  · next hin =>
    obtain rfl := Option.some.inj hy
    simp only
    omega
  · cases hy

/-- Nothing else works on a page: a new page write ends nothing. -/
theorem endEarlier_none (h8 : ∀ z ∈ (s.unit (p / 64) 8).ops, z.ppn ≠ p) (h9 : ∀ z ∈ (s.unit (p / 64) 9).ops, z.peer ≠ some p) :
    s.endEarlier p = s := by
  have hno8 : (s.unit (p / 64) 8).ops.filter (fun o => o.ppn == p) = [] :=
    List.filter_eq_nil_iff.2 fun z hz => by simpa using h8 z hz
  have hno9 : (s.unit (p / 64) 9).ops.filter (fun o => o.peer == some p) = [] :=
    List.filter_eq_nil_iff.2 fun z hz => by simpa using h9 z hz
  simp only [State.endEarlier, hno8, List.foldl_nil, hno9]

/-- A ring after refill has taken its next slot for a stream page. -/
def State.nextRing (s : State) (q sl e g n k : Nat) : RingHid :=
  { pages := (s.ring q).pages.filter (fun z => z.slot != sl) ++ [{ slot := sl, entry := e, gen := g, n := n, j := k }],
    next := (sl + 1) % max 1 (s.g (K.RING_PAGES q)) }

/-- The row of a page that holds a stream page to come. -/
def State.emptyRow (s : State) (p e g : Nat) : Nat := setBits (setBits (setBits (s.page p) 63 61 Pg.empty) 60 47 e) 46 39 g

/-- The image of a stream page lies where it did, whatever has been written to the rows of PAGE_MAP. -/
theorem translate_congr (hg : ∀ j, K.PAGE_MAP + 1024 ≤ j → t.g j = s.g j) (w d : Nat) : t.translate w d = s.translate w d := by
  have hw : t.g (atRow K.WIN_TABLE w) = s.g (atRow K.WIN_TABLE w) := hg _ (by unfold atRow K.WIN_TABLE K.PAGE_MAP key; omega)
  have hwin : t.window w = s.window w := by simp only [State.window, hw]
  simp only [State.translate, hwin]

theorem streamSource_congr (hg : ∀ j, K.PAGE_MAP + 1024 ≤ j → t.g j = s.g j) (e n k : Nat) :
    t.streamSource e n k = s.streamSource e n k := by
  have hw : t.g (atRow K.SEG_SOURCE e) = s.g (atRow K.SEG_SOURCE e) := hg _ (by unfold atRow K.SEG_SOURCE K.PAGE_MAP key; omega)
  simp only [State.streamSource, hw]

theorem g_setPage_above (s : State) (hp : p < 1024) (row j : Nat) (hj : K.PAGE_MAP + 1024 ≤ j) : (s.setPage p row).g j = s.g j :=
  s.g_p_other row (by unfold atRow; omega)

/-- Refill takes the next slot of a ring and begins the transfer of its page. -/
theorem refillPage_take (hp : p < 1024) (h8 : ∀ z ∈ (s.unit (p / 64) 8).ops, z.ppn ≠ p) (h9 : ∀ z ∈ (s.unit (p / 64) 9).ops, z.peer ≠ some p) :
    s.refillPage (.take q sl p e g n k) = ((s.setRing q (s.nextRing q sl e g n k)).setPage p (s.emptyRow p e g)).beginXfer none e g n p
      (s.streamSource e n k).1 (s.streamSource e n k).2 := by
  have hpage (r : RingHid) : (s.setRing q r).page p = s.page p := rfl
  have hsrc (r : RingHid) (row : Nat) : ((s.setRing q r).setPage p row).streamSource e n k = s.streamSource e n k :=
    streamSource_congr (g_setPage_above (s.setRing q r) hp row) e n k
  simp only [State.refillPage, endEarlier_none h8 h9, hpage, hsrc]
  rfl

end Sys2Proof.Machine
end

section
/-! SUPPORT. The row of a page, whose state a transfer changes, and the ring slot that stands on it (R207, R234, R243). -/

namespace Sys2Proof.Machine

variable {s t : State} {q p : Nat} {y : RingPage}

/-! ## Rows -/

theorem ring_setState (r v : Nat) : Pg.ring (setBits r 63 61 v) = Pg.ring r := by
  have h : setBits r 63 61 v / 2 ^ 38 % 2 = r / 2 ^ 38 % 2 := by simp only [setBits, bits]; omega
  simp only [Pg.ring, bit, h]

theorem sq_setState (r v : Nat) : Pg.sq (setBits r 63 61 v) = Pg.sq r := by
  simp only [Pg.sq, setBits, bits]; omega

theorem index_setState (r v : Nat) : Pg.index (setBits r 63 61 v) = Pg.index r := by
  simp only [Pg.index, setBits, bits]; omega

theorem setState_entry (r u e : Nat) : setBits (setBits r 63 61 u) 60 47 e = setBits (setBits r 60 47 e) 63 61 u := by
  simp only [setBits, bits]; omega

theorem setState_gen (r u g : Nat) : setBits (setBits r 63 61 u) 46 39 g = setBits (setBits r 46 39 g) 63 61 u := by
  simp only [setBits, bits]; omega

theorem setState_setState (r u v : Nat) : setBits (setBits r 63 61 u) 63 61 v = setBits r 63 61 v := by
  simp only [setBits, bits]; omega

theorem setBits_state_twice (r e g u v : Nat) :
    setBits (setBits (setBits (setBits r 63 61 u) 60 47 e) 46 39 g) 63 61 v = setBits (setBits (setBits r 63 61 v) 60 47 e) 46 39 g := by
  simp only [setState_entry, setState_gen, setState_setState]

theorem setBits_state_back {r v : Nat} (h : Pg.state r = v) (u : Nat) : setBits (setBits r 63 61 u) 63 61 v = r := by
  simp only [Pg.state, bits] at h
  simp only [setBits, bits]; omega

theorem tagged_bits (r e g : Nat) : Pg.ring (setBits (setBits r 60 47 e) 46 39 g) = Pg.ring r ∧
    Pg.sq (setBits (setBits r 60 47 e) 46 39 g) = Pg.sq r ∧ Pg.index (setBits (setBits r 60 47 e) 46 39 g) = Pg.index r := by
  have h : setBits (setBits r 60 47 e) 46 39 g % 2 ^ 39 = r % 2 ^ 39 := by simp only [setBits, bits]; omega
  generalize setBits (setBits r 60 47 e) 46 39 g = x at h
  have hr : x / 2 ^ 38 % 2 = r / 2 ^ 38 % 2 := by omega
  refine ⟨by simp only [Pg.ring, bit, hr], ?_, ?_⟩
  · simp only [Pg.sq, bits]; omega
  · simp only [Pg.index, bits]; omega

/-! ## The slot on a page -/

theorem ringAt_eq_some : s.ringAt p = some (q, y) ↔
    Pg.ring (s.page p) = true ∧ Pg.sq (s.page p) = q ∧ (s.ring q).pages.find? (fun z => z.slot == Pg.index (s.page p)) = some y := by
  unfold State.ringAt
  dsimp only
  split
  · next hr =>
    rw [Option.map_eq_some_iff]
    constructor
    · rintro ⟨z, hz, hzy⟩
      obtain ⟨rfl, rfl⟩ := Prod.mk.inj hzy
      exact ⟨hr, rfl, hz⟩
    · rintro ⟨-, rfl, hy⟩
      exact ⟨y, hy, rfl⟩
  · next hr => simp [hr]

theorem ringAt_congr (hr : t.rings = s.rings) (h1 : Pg.ring (t.page p) = Pg.ring (s.page p)) (h2 : Pg.sq (t.page p) = Pg.sq (s.page p))
    (h3 : Pg.index (t.page p) = Pg.index (s.page p)) : t.ringAt p = s.ringAt p := by
  simp only [State.ringAt, State.ring, hr, h1, h2, h3]

/-- The pages of a ring, with the time at which that of a slot is tried again. -/
def retried (l : List RingPage) (sl : Nat) (x : Option Nat) : List RingPage := l.map (fun z => if z.slot = sl then { z with retry := x } else z)

theorem retried_retried (l : List RingPage) (sl : Nat) (x z : Option Nat) : retried (retried l sl x) sl z = retried l sl z := by
  unfold retried
  rw [List.map_map]
  refine List.map_congr_left fun y _ => ?_
  by_cases h : y.slot = sl <;> simp [h]

/-- A ring without a page of that slot stays as it is. -/
theorem retried_filter (l : List RingPage) (sl : Nat) (x : Option Nat) :
    retried (l.filter (fun z => z.slot != sl)) sl x = l.filter (fun z => z.slot != sl) := by
  unfold retried
  conv_rhs => rw [← List.map_id (l.filter _)]
  exact List.map_congr_left fun y hy => if_neg (by simpa using (List.mem_filter.1 hy).2)

theorem setRetry_some (h : s.ringAt p = some (q, y)) (x : Option Nat) :
    s.setRetry p x = s.setRing q { s.ring q with pages := retried (s.ring q).pages y.slot x } := by
  simp only [State.setRetry, h]
  rfl

theorem setRetry_none (h : s.ringAt p = none) (x : Option Nat) : s.setRetry p x = s := by
  simp only [State.setRetry, h]

end Sys2Proof.Machine
end

section
/-! SUPPORT. A page of a transfer that fails for good (R243, R244). -/

namespace Sys2Proof.Machine

variable {s t : State} {q p : Nat} {y : RingPage}

theorem raiseVal_withOd (s : State) (o : Sp Nat) (a d : Nat) : (s.withOd o).raiseVal a d = (s.raiseVal a d).withOd o := by
  have hev : (s.withOd o).ev a = s.ev a := rfl
  unfold State.raiseVal
  rw [hev]
  cases s.ev a <;> rfl

/-- An object that is no row of PAGE_MAP. -/
def OffPages (j : Nat) : Prop := j < K.PAGE_MAP ∨ K.PAGE_MAP + 1024 ≤ j

theorem g_setPage_off (s : State) (hp : p < 1024) (row : Nat) {j : Nat} (hj : OffPages j) : (s.setPage p row).g j = s.g j :=
  s.g_p_other row (by unfold OffPages at hj; unfold atRow; omega)

/-- What a page write that its entry needs has set back, when the page is lost to it (R216). -/
def State.loadingObj (s : State) (p : Nat) : List (Nat × Nat) :=
  if Pg.ring (s.page p) = false ∧ Seg.base (s.seg (Pg.entry (s.page p))) = 2 ∧ s.streamed (Pg.entry (s.page p)) = false then
    [(atRow K.SEG_TABLE (Pg.entry (s.page p)), setBits (s.seg (Pg.entry (s.page p))) 2 0 1)] else []

theorem pageGone_odOnly (s : State) (p st : Nat) : OdOnly s (s.pageGone p st) := by
  have h := (OdOnly.refl s).p (atRow K.PAGE_MAP p) (setBits (s.page p) 63 61 st)
  unfold State.pageGone State.setLoading
  dsimp only
  split
  · exact h
  · split
    · exact h.p _ _
    · exact h

theorem entry_lt (r : Nat) : Pg.entry r < 16384 := Nat.mod_lt _ (by decide)

theorem pageGone_writes (hp : p < 1024) (st : Nat) :
    Writes s (s.pageGone p st) (s.loadingObj p ++ [(atRow K.PAGE_MAP p, setBits (s.page p) 63 61 st)]) := by
  have h : Writes s (s.setPageState p st) [(atRow K.PAGE_MAP p, setBits (s.page p) 63 61 st)] := (Writes.refl s).p _ _
  have hload : Writes s ((s.setPageState p st).setSeg (Pg.entry (s.page p)) (setBits (s.seg (Pg.entry (s.page p))) 2 0 1))
      [(atRow K.SEG_TABLE (Pg.entry (s.page p)), setBits (s.seg (Pg.entry (s.page p))) 2 0 1),
       (atRow K.PAGE_MAP p, setBits (s.page p) 63 61 st)] := h.p _ _
  have he := entry_lt (s.page p)
  have hseg : (s.setPageState p st).seg (Pg.entry (s.page p)) = s.seg (Pg.entry (s.page p)) :=
    g_setPage_off s hp _ (.inl (by unfold atRow K.SEG_TABLE K.PAGE_MAP key; omega))
  have hstr : (s.setPageState p st).streamed (Pg.entry (s.page p)) = s.streamed (Pg.entry (s.page p)) := by
    have hplace : (s.setPageState p st).g (atRow K.SEG_PLACE (Pg.entry (s.page p))) = s.g (atRow K.SEG_PLACE (Pg.entry (s.page p))) :=
      g_setPage_off s hp _ (.inr (by unfold atRow K.SEG_PLACE K.PAGE_MAP key; omega))
    simp only [State.streamed, State.residency, hplace]
  unfold State.pageGone State.setLoading State.loadingObj
  dsimp only
  rw [hseg, hstr]
  cases hr : Pg.ring (s.page p) with
  | true => simpa using h
  | false =>
    by_cases hc : Seg.base (s.seg (Pg.entry (s.page p))) = 2 ∧ s.streamed (Pg.entry (s.page p)) = false
    · simpa [hc] using hload
    · simpa [hc] using h

/-- The dictionary after a page has failed for good. -/
def State.failedOd (s : State) (p : Nat) : Sp Nat := ((s.pageGone p Pg.failed).inc K.DMA_FAILED).od

/-- What a page that fails for good writes. -/
def State.failedObj (s : State) (p : Nat) : List (Nat × Nat) :=
  (K.DMA_FAILED, s.g K.DMA_FAILED + 1) :: (s.loadingObj p ++ [(atRow K.PAGE_MAP p, setBits (s.page p) 63 61 Pg.failed)])

theorem mem_loadingObj {p : Nat} {x : Nat × Nat} (h : x ∈ s.loadingObj p) : ∃ e, e < 16384 ∧ x.1 = atRow K.SEG_TABLE e := by
  unfold State.loadingObj at h
  split at h
  · rw [List.mem_singleton.1 h]
    exact ⟨_, entry_lt _, rfl⟩
  · cases h

theorem failed_writes (hp : p < 1024) : Writes s (s.withOd (s.failedOd p)) (s.failedObj p) := by
  have h := pageGone_writes (s := s) hp Pg.failed
  have hcount : (s.pageGone p Pg.failed).g K.DMA_FAILED = s.g K.DMA_FAILED := by
    refine (h _).trans (after_of_not_mem (fun x hx => ?_) _)
    rcases List.mem_append.1 hx with hx | hx
    · obtain ⟨e, he, hxe⟩ := mem_loadingObj hx
      rw [hxe]
      unfold atRow K.SEG_TABLE K.DMA_FAILED key
      omega
    · rw [List.mem_singleton.1 hx]
      show atRow K.PAGE_MAP p ≠ _
      unfold atRow K.PAGE_MAP K.DMA_FAILED key
      omega
  have hinc := h.p K.DMA_FAILED ((s.pageGone p Pg.failed).g K.DMA_FAILED + 1)
  rw [hcount] at hinc
  have hod : ((s.pageGone p Pg.failed).p K.DMA_FAILED (s.g K.DMA_FAILED + 1)).od = s.failedOd p := by
    rw [← hcount]; rfl
  intro j
  refine Eq.trans ?_ (hinc j)
  exact congrArg (fun o => Sp.get dflt o j) hod.symm

theorem failed_page (hp : p < 1024) : (s.withOd (s.failedOd p)).page p = setBits (s.page p) 63 61 Pg.failed := by
  refine (failed_writes hp _).trans ?_
  have h1 : atRow K.PAGE_MAP p ≠ K.DMA_FAILED := by unfold atRow K.PAGE_MAP K.DMA_FAILED key; omega
  have h2 : ∀ x ∈ s.loadingObj p, x.1 ≠ atRow K.PAGE_MAP p := by
    intro x hx
    obtain ⟨e, he, hxe⟩ := mem_loadingObj hx
    rw [hxe]
    unfold atRow K.SEG_TABLE K.PAGE_MAP key
    omega
  rw [State.failedObj, after, if_neg h1, after_append, after_of_not_mem h2, after, if_pos rfl]

theorem pageFails_eq (s : State) (p src : Nat) :
    s.pageFails p src = ((s.raiseVal src p).withOd (s.failedOd p)).setRetry p (some (s.tick + 1250)) := by
  obtain ⟨o, ho⟩ := pageGone_odOnly s p Pg.failed
  have hinc : (s.pageGone p Pg.failed).inc K.DMA_FAILED = s.withOd (s.failedOd p) := by
    unfold State.failedOd; rw [ho]; rfl
  simp only [State.pageFails, hinc, raiseVal_withOd]

theorem ring_raiseVal (a d q : Nat) : (s.raiseVal a d).ring q = s.ring q := by rw [raiseVal_form]; rfl

theorem ringAt_failed (hp : p < 1024) (src : Nat) : ((s.raiseVal src p).withOd (s.failedOd p)).ringAt p = s.ringAt p := by
  have hpage : ((s.raiseVal src p).withOd (s.failedOd p)).page p = setBits (s.page p) 63 61 Pg.failed := failed_page hp
  refine ringAt_congr (by rw [raiseVal_form]; rfl) ?_ ?_ ?_
  · rw [hpage, ring_setState]
  · rw [hpage, sq_setState]
  · rw [hpage, index_setState]

/-- A page of a ring that fails is tried again 1,250 frames later. -/
theorem pageFails_ring (hp : p < 1024) (h : s.ringAt p = some (q, y)) (src : Nat) :
    s.pageFails p src = ((s.raiseVal src p).withOd (s.failedOd p)).setRing q
      { s.ring q with pages := retried (s.ring q).pages y.slot (some (s.tick + 1250)) } := by
  rw [pageFails_eq, setRetry_some ((ringAt_failed hp src).trans h)]
  have hring : ((s.raiseVal src p).withOd (s.failedOd p)).ring q = s.ring q := ring_raiseVal src p q
  rw [hring]

theorem pageFails_noRing (hp : p < 1024) (h : s.ringAt p = none) (src : Nat) :
    s.pageFails p src = (s.raiseVal src p).withOd (s.failedOd p) := by
  rw [pageFails_eq, setRetry_none ((ringAt_failed hp src).trans h)]

end Sys2Proof.Machine
end

section
/-! SUPPORT. REFILL_START and REFILL_RETRY_EXPIRY as they leave the state: the transfer has the turn, waits, or has no host address (R234, R240, R245). -/

namespace Sys2Proof.Machine

variable {s : State} {q p e g n w d addr v since : Nat} {R : RingHid} {o : Sp Nat} {a : XOp} {u : XUnit}

/-- The state as a transfer finds it: nothing driven out, a ring and the dictionary already changed. -/
def State.based (s : State) (q : Nat) (R : RingHid) (o : Sp Nat) : State := (s.noOut.setRing q R).withOd o

/-- The state with page transfers on their way, and the page writes of a bank. -/
def State.fetching (s : State) (p : Nat) (u : XUnit) (o : Sp Nat) (l : List Out) (xs : List Xfer) : State :=
  { s.setUnit (p / 64) 8 u with od := o, out := l, xfers := xs }

section Begins
variable (hfn : (s.based q R o).fn = s.fn) (ht : (s.based q R o).translate w d = some addr)
include hfn ht

/-- A transfer of a page behind an earlier one of its rank. -/
theorem based_waits (ha : (s.unit (p / 64) 8).active = some a) (h1 : a.code = 1) :
    ({ (s.based q R o).beginXfer none e g n p w d with pending := s.pending } : State) =
      (s.setRing q R).fetching p ((s.unit (p / 64) 8).waits (refillOp e g p 0)) o [] (s.xfers ++ [refillXfer e g n p addr s.fn none]) := by
  rw [beginXfer_waits (s := s.based q R o) ht ha h1, hfn]
  rfl

variable (hn : s.xferOf p = none) (hv : s.freeTag = some v)
include hn hv

/-- A transfer of a page with the turn free. -/
theorem based_idle (ha : (s.unit (p / 64) 8).active = none) :
    ({ (s.based q R o).beginXfer none e g n p w d with pending := s.pending } : State) =
      (s.setRing q R).fetching p ((s.unit (p / 64) 8).takes (refillOp e g p s.tick)) o (s.reads v addr)
        (s.xfers ++ [refillXfer e g n p addr s.fn (some v)]) := by
  rw [beginXfer_idle (s := s.based q R o) ht hn hv ha, hfn]
  rfl

/-- A transfer of a page before one of a lower rank. -/
theorem based_preempts (ha : (s.unit (p / 64) 8).active = some a) (h23 : a.code = 2 ∨ a.code = 3) (hh : (s.unit (p / 64) 8).held = none) :
    ({ (s.based q R o).beginXfer none e g n p w d with pending := s.pending } : State) =
      ((s.setRing q R).raiseBits 75 (2 ^ (p / 64))).fetching p ((s.unit (p / 64) 8).preempts (refillOp e g p s.tick) (a.holds s.tick))
        ((s.based q R o).inc (K.XS_PREEMPTS (p / 64) 0)).od (s.reads v addr) (s.xfers ++ [refillXfer e g n p addr s.fn (some v)]) := by
  rw [beginXfer_preempts (s := s.based q R o) ht hn hv ha h23 hh, hfn, raiseBits_withRaised,
    raiseBits_raised (s := s.setRing q R) (t := ((s.based q R o).setUnit (p / 64) 8 _).inc _) 75 (2 ^ (p / 64)) rfl, raiseBits_form (s.setRing q R)]
  rfl

end Begins

/-! ## What finds it -/

section OnePage
variable {row : Nat} (hp : p < 1024) (hw : Writes s (s.withOd o) [(atRow K.PAGE_MAP p, row)])
include hp hw

theorem based_g {j : Nat} (hj : OffPages j) : (s.based q R o).g j = s.g j :=
  (hw j).trans (after_of_not_mem (fun x hx => by
    rw [List.mem_singleton.1 hx]
    unfold OffPages at hj
    unfold atRow
    omega) _)

theorem based_fn : (s.based q R o).fn = s.fn :=
  based_g hp hw (.inl (by unfold K.TS_FN K.PAGE_MAP key; omega))

theorem based_translate : (s.based q R o).translate w d = s.translate w d :=
  translate_congr (fun _ hj => based_g hp hw (.inr hj)) w d

omit hp in
theorem based_page : (s.based q R o).page p = row := (hw _).trans (if_pos rfl)

end OnePage

section Take
variable {k : Nat} {pre rest : List (Nat × Nat × Nat × Nat)} (hm : s.mode ≠ 0) (hq : q < 8) (hst : s.g (K.SQ_STATE q) ≠ 0)
  (hw : ∀ z ∈ s.ringPages q, Pg.ce z.2 < s.g K.PAGE_CE_LIMIT) (hfill : s.toFill q = pre ++ (e, g, n, k) :: rest)
  (hpre : ∀ z ∈ pre, s.filled q z = true)
include hm hq hst hw hfill hpre

/-- REFILL_START with every page before one filled does what refill does from that one on. -/
theorem gives_refillFrom {P : State → Prop}
    (h : P { s.noOut.refillPage (s.refillNext q ((e, g, n, k) :: rest)) with pending := s.pending }) : Gives (.refillStart q) s P := by
  refine gives_refillStart hm hq hst hw ?_
  rwa [hfill, refillNext_filled _ hpre]

variable (hs : s.streamPage q e g n = none) (hprod : s.produced e n = true) (hn : s.ringPpn q (s.ring q).next = some p) (hl : (s.ring q).next < s.g (K.RING_PAGES q))
  (hf : s.slotFree q (s.ring q).next = true) (h8 : ∀ z ∈ (s.unit (p / 64) 8).ops, z.ppn ≠ p)
  (h9 : ∀ z ∈ (s.unit (p / 64) 9).ops, z.peer ≠ some p)
include hs hprod hn hl hf h8 h9

/-- REFILL_START that takes a slot begins the transfer of its page. -/
theorem gives_refillTake {P : State → Prop}
    (h : ∀ o, Writes s (s.withOd o) [(atRow K.PAGE_MAP p, s.emptyRow p e g)] →
      P { (s.based q (s.nextRing q (s.ring q).next e g n k) o).beginXfer none e g n p (s.streamSource e n k).1 (s.streamSource e n k).2
        with pending := s.pending }) : Gives (.refillStart q) s P := by
  have hp := ringPpn_lt hn
  refine gives_refillFrom hm hq hst hw hfill hpre ?_
  rw [refillNext_take hs hprod hn hl hf, refillPage_take (s := s.noOut) hp h8 h9]
  exact h _ ((Writes.refl s).p _ _)

end Take

section Retry
variable {m : Nat} {y : RingPage} (hm : s.mode ≠ 0) (hp : p < 1024) (hat : s.ringAt p = some (q, y)) (hst : Pg.state (s.page p) = Pg.failed)
  (hy : y.retry = some m) (hle : m ≤ s.tick)
  (hany : (s.toFill q).any (fun w => w.1 == y.entry && w.2.1 == y.gen && w.2.2.1 == y.n) = true)
include hm hp hat hst hy hle hany

/-- REFILL_RETRY_EXPIRY of a page that has failed and is still to be filled begins its transfer again. -/
theorem gives_refillRetry {P : State → Prop}
    (h : ∀ o, Writes s (s.withOd o) [(atRow K.PAGE_MAP p, setBits (s.page p) 63 61 Pg.empty)] →
      P { (s.based q { s.ring q with pages := retried (s.ring q).pages y.slot none } o).beginXfer none y.entry y.gen y.n p
        (s.streamSource y.entry y.n y.j).1 (s.streamSource y.entry y.n y.j).2 with pending := s.pending }) :
    Gives (.refillRetryExpiry p) s P := by
  refine gives_noOut hm (f := fun s => s.refillRetry p) rfl ?_
  have hat' : s.noOut.ringAt p = some (q, y) := hat
  have hgo : Pg.state (s.noOut.page p) = Pg.failed ∧ y.retry.any (fun t => t ≤ s.noOut.tick) = true ∧
      (s.noOut.toFill q).any (fun w => w.1 == y.entry && w.2.1 == y.gen && w.2.2.1 == y.n) = true := by
    refine ⟨hst, ?_, by rwa [toFill_noOut]⟩
    rw [hy]
    exact decide_eq_true hle
  obtain ⟨o, ho⟩ : ∃ o, s.noOut.setPageState p Pg.empty = s.noOut.withOd o ∧
      Writes s (s.withOd o) [(atRow K.PAGE_MAP p, setBits (s.page p) 63 61 Pg.empty)] := ⟨_, rfl, (Writes.refl s).p _ _⟩
  obtain ⟨ho, hwr⟩ := ho
  have hpage : (s.noOut.withOd o).page p = setBits (s.page p) 63 61 Pg.empty := based_page (q := q) (R := s.ring q) hwr
  have hat'' : (s.noOut.withOd o).ringAt p = some (q, y) := by
    refine (ringAt_congr (s := s) (t := s.noOut.withOd o) rfl ?_ ?_ ?_).trans hat <;> rw [hpage]
    · exact ring_setState _ _
    · exact sq_setState _ _
    · exact index_setState _ _
  have hsrc : (s.noOut.withOd o).streamSource y.entry y.n y.j = s.streamSource y.entry y.n y.j :=
    streamSource_congr (s := s) (fun _ hj => based_g (q := q) (R := s.ring q) hp hwr (.inr hj)) _ _ _
  have hrun : s.noOut.refillRetry p = (s.based q { s.ring q with pages := retried (s.ring q).pages y.slot none } o).beginXfer none y.entry y.gen
      y.n p (s.streamSource y.entry y.n y.j).1 (s.streamSource y.entry y.n y.j).2 := by
    simp only [State.refillRetry, hat', if_pos hgo, State.refillPage, ho, setRetry_some hat'', hsrc]
    rfl
  rw [hrun]
  exact h o hwr

end Retry

end Sys2Proof.Machine
end

section
/-! SUPPORT. The transfer of a stream page whose image has no host address fails it (R240, R245). -/

namespace Sys2Proof.Machine

variable {s : State} {q p e g n w d row : Nat} {R : RingHid} {o : Sp Nat} {y : RingPage}

/-- A word of index 0xB100. -/
theorem offPages_dma (i : Nat) (h : i < 256) : OffPages (key 0xb100 i 0) := by
  unfold OffPages K.PAGE_MAP key
  omega

theorem offPages_miss : OffPages K.DMA_XLATE_MISS := offPages_dma 7 (by decide)

theorem offPages_failed : OffPages K.DMA_FAILED := offPages_dma 6 (by decide)

theorem page_ne_off (hp : p < 1024) {j : Nat} (hj : OffPages j) : atRow K.PAGE_MAP p ≠ j := by
  unfold OffPages at hj
  unfold atRow
  omega

/-- The state with a page failed for want of a host address. -/
def State.refused (s : State) (q : Nat) (R : RingHid) (p sl : Nat) (o : Sp Nat) : State :=
  { s.raiseVal 66 p with od := o, out := [], rings := ((s.setRing q R).setRing q { R with pages := retried R.pages sl (some (s.tick + 1250)) }).rings }

theorem ring_refused_same (s : State) (q : Nat) (R : RingHid) (p sl : Nat) (o : Sp Nat) :
    (s.refused q R p sl o).ring q = { R with pages := retried R.pages sl (some (s.tick + 1250)) } :=
  State.ring_setRing_same (s.setRing q R) q _

theorem ring_refused_other (s : State) (q : Nat) (R : RingHid) (p sl : Nat) (o : Sp Nat) : ButAt (s.refused q R p sl o).ring s.ring q :=
  fun _ hj => (State.ring_setRing_other (s.setRing q R) _ hj).trans (State.ring_setRing_other s _ hj)

theorem beginXfer_refused (ht : s.translate w d = none) : s.beginXfer none e g n p w d = (s.inc K.DMA_XLATE_MISS).pageFails p 66 := by
  simp only [State.beginXfer, ht]

theorem failedObj_ring (hr : Pg.ring (s.page p) = true) :
    s.failedObj p = [(K.DMA_FAILED, s.g K.DMA_FAILED + 1), (atRow K.PAGE_MAP p, setBits (s.page p) 63 61 Pg.failed)] := by
  have hload : s.loadingObj p = [] := if_neg (by simp [hr])
  rw [State.failedObj, hload, List.nil_append]

theorem based_refused (hp : p < 1024) (hw : Writes s (s.withOd o) [(atRow K.PAGE_MAP p, row)]) (ht : s.translate w d = none)
    (hat : (s.based q R o).ringAt p = some (q, y)) :
    ∃ o', Writes s (s.withOd o') [(K.DMA_FAILED, s.g K.DMA_FAILED + 1), (atRow K.PAGE_MAP p, setBits row 63 61 Pg.failed),
        (K.DMA_XLATE_MISS, s.g K.DMA_XLATE_MISS + 1), (atRow K.PAGE_MAP p, row)] ∧
      ({ (s.based q R o).beginXfer none e g n p w d with pending := s.pending } : State) = s.refused q R p y.slot o' := by
  have hmiss : (s.based q R o).g K.DMA_XLATE_MISS = s.g K.DMA_XLATE_MISS := based_g hp hw offPages_miss
  obtain ⟨c, hc, hwc⟩ : ∃ c, (s.based q R o).inc K.DMA_XLATE_MISS = s.based q R c ∧
      Writes s (s.withOd c) [(K.DMA_XLATE_MISS, s.g K.DMA_XLATE_MISS + 1), (atRow K.PAGE_MAP p, row)] :=
    ⟨_, rfl, hmiss ▸ hw.p K.DMA_XLATE_MISS ((s.based q R o).g K.DMA_XLATE_MISS + 1)⟩
  have hpage : (s.based q R c).page p = row := by
    refine (hwc _).trans ?_
    rw [after, if_neg (page_ne_off hp offPages_miss), after, if_pos rfl]
  have hpage' : (s.based q R o).page p = row := based_page hw
  have hring : Pg.ring ((s.based q R c).page p) = true := by rw [hpage, ← hpage']; exact (ringAt_eq_some.1 hat).1
  have hat' : (s.based q R c).ringAt p = some (q, y) := by
    refine (ringAt_congr (s := s.based q R o) (t := s.based q R c) rfl ?_ ?_ ?_).trans hat <;> rw [hpage, hpage']
  have hfail : (s.based q R c).g K.DMA_FAILED = s.g K.DMA_FAILED := by
    refine (hwc _).trans (after_of_not_mem (fun x hx => ?_) _)
    simp only [List.mem_cons, List.not_mem_nil, or_false] at hx
    rcases hx with rfl | rfl
    · show K.DMA_XLATE_MISS ≠ K.DMA_FAILED
      decide
    · exact page_ne_off hp offPages_failed
  refine ⟨(s.based q R c).failedOd p, ?_, ?_⟩
  · have h : Writes (s.based q R c) ((s.based q R c).withOd ((s.based q R c).failedOd p)) _ := failed_writes hp
    rw [failedObj_ring hring, hpage, hfail] at h
    exact Writes.trans (t := s.based q R c) hwc h
  · have hR : (s.based q R c).ring q = R := State.ring_setRing_same _ q R
    rw [beginXfer_refused ((based_translate hp hw).trans ht), hc, pageFails_ring hp hat', hR, raiseVal_form,
      raiseVal_raised (s := s) (t := s.based q R c) 66 p rfl, State.refused, raiseVal_form s]
    rfl

end Sys2Proof.Machine
end

section
/-! SUPPORT. An attempt of a transfer that fails while attempts are left: the image is read again (R243). -/

namespace Sys2Proof.Machine

variable {s b : State} {c v : Nat} {x : Xfer} {op : XOp} {o : Sp Nat} {lt : List (Nat × Nat)}

/-- A transfer whose image is read again from its first byte, under another tag. -/
def Xfer.again (x : Xfer) (tag : Nat) : Xfer := { x with fails := x.fails + 1, tag := tag, data := [], full := false }

/-- An operation that has moved nothing. -/
def XOp.afresh (o : XOp) : XOp := { o with prog := 0 }

theorem pageGone_ring {p : Nat} (h : Pg.ring (s.page p) = true) (st : Nat) : s.pageGone p st = s.setPageState p st := by
  simp only [State.pageGone, h, if_true]

/-- The only operation of a requester is its active one. -/
theorem unit_of_ops {u : XUnit} (h : u.ops = [op]) (ha : u.active = some op) : u = { active := some op } := by
  obtain ⟨active, held, wait⟩ := u
  obtain rfl : active = some op := ha
  have hrest : held.toList ++ wait = [] := List.append_cancel_left (as := [op]) (by simpa [XUnit.ops] using h)
  obtain ⟨hheld, rfl⟩ := List.append_eq_nil_iff.1 hrest
  cases held with
  | none => rfl
  | some z => cases hheld

/-- The state once a failed attempt has been counted and its page is EMPTY again. -/
def State.refetched (b : State) (p : Nat) : State := ((b.inc K.DMA_RETRIES).raiseVal 64 p).setPageState p Pg.empty

theorem offPages_retries : OffPages K.DMA_RETRIES := offPages_dma 5 (by decide)

theorem page_inc {p : Nat} (hp : p < 1024) (hc : OffPages c) : (s.inc c).page p = s.page p :=
  Sp.get_set_other _ _ _ (page_ne_off hp hc)

theorem inc_writes (s : State) (c : Nat) : Writes s (s.inc c) [(c, s.g c + 1)] := (Writes.refl s).p _ _

/-- But for EV064 and the dictionary, counting the attempt changes nothing. -/
theorem refetched_form {p : Nat} (hp : p < 1024) : ∃ o, b.refetched p = (b.raiseVal 64 p).withOd o ∧
    Writes b (b.withOd o) [(atRow K.PAGE_MAP p, setBits (b.page p) 63 61 Pg.empty), (K.DMA_RETRIES, b.g K.DMA_RETRIES + 1)] := by
  obtain ⟨o, ho⟩ : ∃ o, b.inc K.DMA_RETRIES = b.withOd o := ⟨_, rfl⟩
  have hw := inc_writes b K.DMA_RETRIES
  have hpage := page_inc (s := b) hp offPages_retries
  rw [ho] at hw hpage
  refine ⟨((b.withOd o).setPage p (setBits (b.page p) 63 61 Pg.empty)).od, ?_, hw.p _ _⟩
  have hpage' : ((b.raiseVal 64 p).withOd o).page p = b.page p := hpage
  rw [State.refetched, ho, raiseVal_withOd, State.setPageState, hpage']
  rfl

theorem attemptFails_again (hp : x.ppn < 1024) (hlim : x.fails < b.g K.DMA_RETRY_LIMIT) (hu : b.unit (x.ppn / 64) 8 = { active := some op })
    (ho : op.ppn = x.ppn) (h3 : op.code ≠ 3) (hring : Pg.ring (b.page x.ppn) = true) (hv : b.freeTag = some v) :
    b.attemptFails x false =
      (((b.refetched x.ppn).setUnit (x.ppn / 64) 8 { active := some op.afresh }).setXfer (x.again v)).emitReads v x.addr := by
  have hpage : ((b.inc K.DMA_RETRIES).raiseVal 64 x.ppn).page x.ppn = b.page x.ppn :=
    (State.g_raiseVal _ _ _ _).trans (page_inc hp offPages_retries)
  have hgone : ((b.inc K.DMA_RETRIES).raiseVal 64 x.ppn).pageGone x.ppn Pg.empty = b.refetched x.ppn := by
    rw [pageGone_ring ((congrArg Pg.ring hpage).trans hring), State.refetched]
  obtain ⟨o, hform, -⟩ := refetched_form (b := b) hp
  rw [raiseVal_form] at hform
  have hunit : (b.refetched x.ppn).unit (x.ppn / 64) 8 = { active := some op } := by rw [hform]; exact hu
  have htag (u : XUnit) : ((b.refetched x.ppn).setUnit (x.ppn / 64) 8 u).freeTag = some v := by rw [hform]; exact hv
  have hop : (if op.ppn = x.ppn ∧ op.code ≠ 3 then { op with prog := 0 } else op) = op.afresh := if_pos ⟨ho, h3⟩
  simp only [State.attemptFails, Bool.false_eq_true, if_false, Nat.not_le.2 hlim, hgone, hunit, Option.map_some, Option.map_none,
    List.map_nil, hop, htag]
  rfl

/-- The state as a failed attempt finds it: nothing driven out, the failure counted, and the tags that late bytes may still bring. -/
def State.late (s : State) (o : Sp Nat) (lt : List (Nat × Nat)) : State := { s.noOut with od := o, lateTags := lt }

/-- The state with the image of a transfer read again. -/
def State.readAgain (s : State) (x : Xfer) (op : XOp) (v : Nat) (o : Sp Nat) (lt : List (Nat × Nat)) : State :=
  { (s.raiseVal 64 x.ppn).setUnit (x.ppn / 64) 8 { active := some op.afresh } with
    od := o, out := s.reads v x.addr, xfers := s.xfers.map (fun z => if z.ppn = x.ppn then x.again v else z), lateTags := lt }

/-- Writes of three objects, the last first. -/
theorem after_rotate (g : Nat → Nat) {i j k : Nat} (hij : i ≠ j) (hik : i ≠ k) (u v w : Nat) :
    after g [(i, u), (j, v), (k, w)] = after g [(j, v), (k, w), (i, u)] := by
  refine after_append_comm g (l := [(i, u)]) (m := [(j, v), (k, w)]) fun x hx y hy => ?_
  rw [List.mem_singleton.1 hx]
  simp only [List.mem_cons, List.not_mem_nil, or_false] at hy
  rcases hy with rfl | rfl
  · exact hij
  · exact hik

section Counted
variable (hw : Writes s (s.withOd o) [(c, s.g c + 1)])
include hw

theorem late_g {j : Nat} (hj : j ≠ c) : (s.late o lt).g j = s.g j := (hw j).trans (if_neg hj)

/-- A failed attempt that is not the last one. -/
theorem late_again (hp : x.ppn < 1024) (hc : OffPages c) (hr : K.DMA_RETRIES ≠ c) (hl : K.DMA_RETRY_LIMIT ≠ c)
    (hlim : x.fails < s.g K.DMA_RETRY_LIMIT) (hops : (s.unit (x.ppn / 64) 8).ops = [op]) (ho : op.ppn = x.ppn) (h3 : op.code ≠ 3)
    (ha : (s.unit (x.ppn / 64) 8).active = some op) (hring : Pg.ring (s.page x.ppn) = true) (hv : (s.late o lt).freeTag = some v) :
    ∃ o', Writes s (s.withOd o') [(K.DMA_RETRIES, s.g K.DMA_RETRIES + 1), (c, s.g c + 1),
        (atRow K.PAGE_MAP x.ppn, setBits (s.page x.ppn) 63 61 Pg.empty)] ∧
      ({ (s.late o lt).attemptFails x false with pending := s.pending } : State) = s.readAgain x op v o' lt := by
  have hpage : (s.late o lt).page x.ppn = s.page x.ppn := late_g hw (page_ne_off hp hc)
  obtain ⟨o', hform, hwr⟩ := refetched_form (b := s.late o lt) hp
  rw [hpage, late_g hw hr] at hwr
  refine ⟨o', fun j => ?_, ?_⟩
  · rw [← after_rotate _ (page_ne_off hp offPages_retries) (page_ne_off hp hc)]
    exact Writes.trans (t := s.late o lt) (u := (s.late o lt).withOd o') hw hwr j
  · rw [attemptFails_again (b := s.late o lt) hp ((late_g hw hl).symm ▸ hlim) (unit_of_ops hops ha) ho h3 ((congrArg Pg.ring hpage).trans hring) hv,
      emitReads_eq, hform, raiseVal_form, raiseVal_raised (s := s) (t := s.late o lt) 64 x.ppn rfl, State.readAgain, raiseVal_form s]
    rfl

end Counted

end Sys2Proof.Machine
end

section
/-! SUPPORT. The last attempt of a transfer that fails: its page is FAILED (R243, R244). -/

namespace Sys2Proof.Machine

variable {s b : State} {c : Nat} {x : Xfer} {op : XOp} {o : Sp Nat} {lt : List (Nat × Nat)}

/-- A unit whose only operation ends. -/
theorem dropOp_only {k : Nat} (h : s.unit k 8 = { active := some op, held := none, wait := [] }) : s.dropOp k 8 op = s.setUnit k 8 {} := by
  have hnext : XUnit.next { active := some op, held := none, wait := [] } s.tick = {} := rfl
  have hidle : (s.setUnit k 8 {}).startReads k = s.setUnit k 8 {} := by
    simp only [State.startReads, unit_setUnit_same, Option.bind_none]
  simp only [State.dropOp, h, if_true, if_neg (by decide : ¬(8 = 9)), hnext, hidle]

theorem attemptFails_last (hlim : b.g K.DMA_RETRY_LIMIT ≤ x.fails)
    (hf : (b.unit (x.ppn / 64) 8).ops.filter (fun o => o.ppn == x.ppn && o.code != 3) = [op])
    (hu : b.unit (x.ppn / 64) 8 = { active := some op, held := none, wait := [] }) (hl : x.load = none) :
    b.attemptFails x false = ((b.setUnit (x.ppn / 64) 8 {}).dropXfer x.ppn).pageFails x.ppn 65 := by
  simp only [State.attemptFails, Bool.false_eq_true, if_false, if_pos hlim, hf, List.foldl_cons, List.foldl_nil, dropOp_only hu, hl]

/-- The state as a page fails for good: its transfer and its operation are over. -/
def State.ended (s : State) (x : Xfer) (o : Sp Nat) (lt : List (Nat × Nat)) : State := ((s.late o lt).setUnit (x.ppn / 64) 8 {}).dropXfer x.ppn

/-- The state with a transfer failed for good. -/
def State.lost (s : State) (x : Xfer) (o : Sp Nat) (lt : List (Nat × Nat)) (r : Sp RingHid) : State :=
  { (s.raiseVal 65 x.ppn).setUnit (x.ppn / 64) 8 {} with
    od := o, out := [], rings := r, xfers := s.xfers.filter (fun z => z.ppn != x.ppn), lateTags := lt }

/-- A counter of page transfers: a word of index 0xB100 (R242). -/
def OfDma (c : Nat) : Prop := ∃ i < 256, c = key 0xb100 i 0

theorem OfDma.offPages (h : OfDma c) : OffPages c := by
  obtain ⟨i, hi, rfl⟩ := h
  exact offPages_dma i hi

theorem seg_ne_dma {e : Nat} (h : OfDma c) (he : e < 16384) : atRow K.SEG_TABLE e ≠ c := by
  obtain ⟨i, hi, rfl⟩ := h
  unfold atRow K.SEG_TABLE key
  omega

theorem place_ne_dma {e : Nat} (h : OfDma c) (he : e < 16384) : atRow K.SEG_PLACE e ≠ c := by
  obtain ⟨i, hi, rfl⟩ := h
  unfold atRow K.SEG_PLACE key
  omega

theorem seg_ne_page {e p : Nat} (he : e < 16384) : atRow K.SEG_TABLE e ≠ atRow K.PAGE_MAP p := by
  unfold atRow K.SEG_TABLE K.PAGE_MAP key
  omega

/-- The retry of a ring slot that stands on a failed page, and every other ring as it was. -/
def Rescheduled (s t : State) (p : Nat) : Prop :=
  (∀ z ∈ s.ringAt p, t.ring z.1 = { s.ring z.1 with pages := retried (s.ring z.1).pages z.2.slot (some (s.tick + 1250)) } ∧ ButAt t.ring s.ring z.1) ∧
  (s.ringAt p = none → t.rings = s.rings)

theorem after_cons_congr {g : Nat → Nat} {l m : List (Nat × Nat)} (h : after g l = after g m) (z : Nat × Nat) :
    after g (z :: l) = after g (z :: m) := by
  funext j
  rw [after, after, h]

section Counted
variable (hw : Writes s (s.withOd o) [(c, s.g c + 1)]) (hc : OfDma c)
include hw hc

theorem ended_page (hp : x.ppn < 1024) : (s.ended x o lt).page x.ppn = s.page x.ppn :=
  late_g (lt := lt) hw (page_ne_off hp hc.offPages)

theorem ended_loadingObj (hp : x.ppn < 1024) : (s.ended x o lt).loadingObj x.ppn = s.loadingObj x.ppn := by
  have he := entry_lt (s.page x.ppn)
  have hseg : (s.ended x o lt).seg (Pg.entry (s.page x.ppn)) = s.seg (Pg.entry (s.page x.ppn)) := late_g (lt := lt) hw (seg_ne_dma hc he)
  have hplace : (s.ended x o lt).g (atRow K.SEG_PLACE (Pg.entry (s.page x.ppn))) = s.g (atRow K.SEG_PLACE (Pg.entry (s.page x.ppn))) :=
    late_g (lt := lt) hw (place_ne_dma hc he)
  have hstr : (s.ended x o lt).streamed (Pg.entry (s.page x.ppn)) = s.streamed (Pg.entry (s.page x.ppn)) := by
    simp only [State.streamed, State.residency, hplace]
  simp only [State.loadingObj, ended_page hw hc hp, hseg, hstr]

theorem ended_failed (hF : K.DMA_FAILED ≠ c) (hp : x.ppn < 1024) : (s.ended x o lt).failedObj x.ppn =
    (K.DMA_FAILED, s.g K.DMA_FAILED + 1) :: (s.loadingObj x.ppn ++ [(atRow K.PAGE_MAP x.ppn, setBits (s.page x.ppn) 63 61 Pg.failed)]) := by
  have hcount : (s.ended x o lt).g K.DMA_FAILED = s.g K.DMA_FAILED := late_g (lt := lt) hw hF
  rw [State.failedObj, ended_loadingObj hw hc hp, ended_page hw hc hp, hcount]

theorem ended_writes (hF : K.DMA_FAILED ≠ c) (hp : x.ppn < 1024) : Writes s (s.withOd ((s.ended x o lt).failedOd x.ppn))
    ([(K.DMA_FAILED, s.g K.DMA_FAILED + 1), (atRow K.PAGE_MAP x.ppn, setBits (s.page x.ppn) 63 61 Pg.failed), (c, s.g c + 1)] ++
      s.loadingObj x.ppn) := by
  have h : Writes (s.ended x o lt) ((s.ended x o lt).withOd ((s.ended x o lt).failedOd x.ppn)) _ := failed_writes hp
  rw [ended_failed hw hc hF hp] at h
  have hall : Writes s (s.withOd ((s.ended x o lt).failedOd x.ppn)) _ :=
    Writes.trans (t := s.ended x o lt) (u := (s.ended x o lt).withOd ((s.ended x o lt).failedOd x.ppn)) hw h
  have hswap := after_append_comm s.g (l := s.loadingObj x.ppn)
    (m := [(atRow K.PAGE_MAP x.ppn, setBits (s.page x.ppn) 63 61 Pg.failed), (c, s.g c + 1)]) fun z hz y hy => by
      obtain ⟨e, he, hze⟩ := mem_loadingObj hz
      rw [hze]
      simp only [List.mem_cons, List.not_mem_nil, or_false] at hy
      rcases hy with rfl | rfl
      · exact seg_ne_page he
      · exact seg_ne_dma hc he
  intro j
  refine (hall j).trans ?_
  rw [List.cons_append, List.append_assoc]
  exact congrFun (after_cons_congr hswap _) j

theorem ended_ringAt (hp : x.ppn < 1024) : (s.ended x o lt).ringAt x.ppn = s.ringAt x.ppn :=
  ringAt_congr (s := s) (t := s.ended x o lt) rfl (by rw [ended_page hw hc hp]) (by rw [ended_page hw hc hp]) (by rw [ended_page hw hc hp])

theorem ended_fails (hp : x.ppn < 1024) : ∃ r, ({ (s.ended x o lt).pageFails x.ppn 65 with pending := s.pending } : State) =
      s.lost x ((s.ended x o lt).failedOd x.ppn) lt r ∧ Rescheduled s (s.lost x ((s.ended x o lt).failedOd x.ppn) lt r) x.ppn := by
  have hraise := raiseVal_raised (s := s) (t := s.ended x o lt) 65 x.ppn rfl
  generalize hod : (s.ended x o lt).failedOd x.ppn = od
  cases hat : s.ringAt x.ppn with
  | none =>
    refine ⟨s.rings, ?_, fun z hz => ?_, fun _ => rfl⟩
    · rw [pageFails_noRing hp ((ended_ringAt hw hc hp).trans hat), hod, raiseVal_form, hraise, State.lost, raiseVal_form s]
      rfl
    · rw [hat] at hz
      cases hz
  | some z =>
    obtain ⟨q, y⟩ := z
    have hring : (s.ended x o lt).ring q = s.ring q := rfl
    refine ⟨(s.setRing q { s.ring q with pages := retried (s.ring q).pages y.slot (some (s.tick + 1250)) }).rings, ?_, fun z hz => ?_, fun h => ?_⟩
    · rw [pageFails_ring hp ((ended_ringAt hw hc hp).trans hat), hod, hring, raiseVal_form, hraise, State.lost, raiseVal_form s]
      rfl
    · obtain rfl := Option.mem_some.1 (hat ▸ hz)
      exact ⟨State.ring_setRing_same s q _, fun j hj => State.ring_setRing_other s _ hj⟩
    · rw [hat] at h
      cases h

/-- A failed attempt that is the last one. -/
theorem late_fails (hF : K.DMA_FAILED ≠ c) (hl : K.DMA_RETRY_LIMIT ≠ c) (hp : x.ppn < 1024) (hlim : s.g K.DMA_RETRY_LIMIT ≤ x.fails)
    (hf : (s.unit (x.ppn / 64) 8).ops.filter (fun o => o.ppn == x.ppn && o.code != 3) = [op])
    (hu : s.unit (x.ppn / 64) 8 = { active := some op, held := none, wait := [] }) (hload : x.load = none) :
    ∃ o' r, Writes s (s.withOd o') ([(K.DMA_FAILED, s.g K.DMA_FAILED + 1),
        (atRow K.PAGE_MAP x.ppn, setBits (s.page x.ppn) 63 61 Pg.failed), (c, s.g c + 1)] ++ s.loadingObj x.ppn) ∧
      ({ (s.late o lt).attemptFails x false with pending := s.pending } : State) = s.lost x o' lt r ∧ Rescheduled s (s.lost x o' lt r) x.ppn := by
  obtain ⟨r, hstate, hrings⟩ := ended_fails (lt := lt) hw hc hp
  refine ⟨_, r, ended_writes (lt := lt) hw hc hF hp, ?_, hrings⟩
  rw [attemptFails_last (b := s.late o lt) ((late_g hw hl).symm ▸ hlim) hf hu hload]
  exact hstate

end Counted

end Sys2Proof.Machine
end

section
/-! O43: stream pages are fetched from the host. -/

namespace Sys2Proof.Machine

variable {s : State} {q p e g n w d a v k : Nat} {x : Xfer} {y : RingPage} {op b : XOp} {st : CplStatus} {ds : List Byte} {last : Bool}
  {o : Sp Nat} {lt : List (Nat × Nat)} {P : State → Prop}

/-! ## The objects of a page that has no host address -/

/-- A page that has just taken its slot, and fails: its row names what it was taken for. -/
theorem refused_take_writes {row : Nat} (hp : p < 1024) (hw : Writes s (s.withOd o) [(K.DMA_FAILED, s.g K.DMA_FAILED + 1),
    (atRow K.PAGE_MAP p, setBits (s.emptyRow p e g) 63 61 Pg.failed), (K.DMA_XLATE_MISS, s.g K.DMA_XLATE_MISS + 1), (atRow K.PAGE_MAP p, row)]) :
    Writes s (s.withOd o) [(atRow K.PAGE_MAP p, setBits (setBits (setBits (s.page p) 63 61 Pg.failed) 60 47 e) 46 39 g),
      (K.DMA_XLATE_MISS, s.g K.DMA_XLATE_MISS + 1), (K.DMA_FAILED, s.g K.DMA_FAILED + 1)] := by
  have h1 := page_ne_off hp offPages_failed
  have h2 := page_ne_off hp offPages_miss
  have h3 : K.DMA_FAILED ≠ K.DMA_XLATE_MISS := by decide
  intro j
  rw [hw j, State.emptyRow, setBits_state_twice]
  simp only [after]
  grind

/-- A page that was FAILED and fails again: its row is as it was. -/
theorem refused_again_writes {row : Nat} (hp : p < 1024) (hw : Writes s (s.withOd o) [(K.DMA_FAILED, s.g K.DMA_FAILED + 1),
    (atRow K.PAGE_MAP p, s.page p), (K.DMA_XLATE_MISS, s.g K.DMA_XLATE_MISS + 1), (atRow K.PAGE_MAP p, row)]) :
    Writes s (s.withOd o) [(K.DMA_XLATE_MISS, s.g K.DMA_XLATE_MISS + 1), (K.DMA_FAILED, s.g K.DMA_FAILED + 1)] := by
  have h1 := page_ne_off hp offPages_failed
  have h2 := page_ne_off hp offPages_miss
  have h3 : K.DMA_FAILED ≠ K.DMA_XLATE_MISS := by decide
  have hrow : s.g (atRow K.PAGE_MAP p) = s.page p := rfl
  intro j
  rw [hw j]
  simp only [after]
  grind

theorem preempts_off (b : Nat) : OffPages (K.XS_PREEMPTS b 0) := by
  unfold OffPages K.PAGE_MAP K.XS_PREEMPTS key
  omega

/-- The objects of a page that takes the turn of a page write of a lower rank. -/
theorem preempt_writes {q row : Nat} {R : RingHid} (hp : p < 1024) (hw : Writes s (s.withOd o) [(atRow K.PAGE_MAP p, row)]) (b : Nat) :
    Writes s (s.withOd ((s.based q R o).inc (K.XS_PREEMPTS b 0)).od)
      [(atRow K.PAGE_MAP p, row), (K.XS_PREEMPTS b 0, s.g (K.XS_PREEMPTS b 0) + 1)] := by
  have hoff := preempts_off b
  have h : Writes s ((s.based q R o).inc (K.XS_PREEMPTS b 0)) _ := Writes.trans (t := s.based q R o) hw (inc_writes _ _)
  rw [based_g hp hw hoff] at h
  intro j
  refine (h j).trans (congrFun (after_append_comm s.g fun x hx z hz => ?_) j)
  rw [List.mem_singleton.1 hx, List.mem_singleton.1 hz]
  exact (page_ne_off hp hoff).symm

/-! ## The ring slot of a page that has just taken it -/

/-- The page of a slot that has just been taken. -/
def newPage (sl e g n k : Nat) : RingPage := { slot := sl, entry := e, gen := g, n := n, j := k }

theorem ringAt_taken {sl : Nat} (hw : Writes s (s.withOd o) [(atRow K.PAGE_MAP p, s.emptyRow p e g)]) (hring : Pg.ring (s.page p) = true)
    (hsq : Pg.sq (s.page p) = q) (hindex : Pg.index (s.page p) = sl) :
    (s.based q (s.nextRing q sl e g n k) o).ringAt p = some (q, newPage sl e g n k) := by
  obtain ⟨h1, h2, h3⟩ := tagged_bits (setBits (s.page p) 63 61 Pg.empty) e g
  rw [ring_setState] at h1
  rw [sq_setState] at h2
  rw [index_setState] at h3
  have hR : (s.based q (s.nextRing q sl e g n k) o).ring q = s.nextRing q sl e g n k := State.ring_setRing_same s q _
  have hold : ((s.ring q).pages.filter (fun z => z.slot != sl)).find? (fun z => z.slot == sl) = none :=
    List.find?_eq_none.2 fun z hz => by simpa using (List.mem_filter.1 hz).2
  have hfind : (s.nextRing q sl e g n k).pages.find? (fun z => z.slot == sl) = some (newPage sl e g n k) := by
    rw [State.nextRing, List.find?_append, hold]
    simp [newPage]
  rw [ringAt_eq_some, based_page hw, hR]
  refine ⟨h1.trans hring, h2.trans hsq, ?_⟩
  have hslot : Pg.index (s.emptyRow p e g) = sl := h3.trans hindex
  rw [hslot]
  exact hfind

/-- A page that is tried again stands where it did. -/
theorem ringAt_again (hw : Writes s (s.withOd o) [(atRow K.PAGE_MAP p, setBits (s.page p) 63 61 Pg.empty)]) (hat : s.ringAt p = some (q, y))
    (t : Option Nat) : (s.based q { s.ring q with pages := retried (s.ring q).pages y.slot t } o).ringAt p = some (q, { y with retry := t }) := by
  obtain ⟨hring, hsq, hfind⟩ := ringAt_eq_some.1 hat
  have hR : (s.based q { s.ring q with pages := retried (s.ring q).pages y.slot t } o).ring q =
    { s.ring q with pages := retried (s.ring q).pages y.slot t } := State.ring_setRing_same s q _
  rw [ringAt_eq_some, based_page hw, hR, ring_setState, sq_setState, index_setState]
  refine ⟨hring, hsq, ?_⟩
  have hkeeps : (fun z : RingPage => z.slot == Pg.index (s.page p)) ∘ (fun z : RingPage => if z.slot = y.slot then { z with retry := t } else z) =
      fun z => z.slot == Pg.index (s.page p) := by
    funext z
    simp only [Function.comp]
    split <;> rfl
  rw [retried, List.find?_map, hkeeps, hfind, Option.map_some, if_pos rfl]

theorem retried_taken (sl : Nat) (t : Option Nat) : retried (s.nextRing q sl e g n k).pages sl t =
    (s.ring q).pages.filter (fun z => z.slot != sl) ++ [{ newPage sl e g n k with retry := t }] := by
  have happ (l m : List RingPage) : retried (l ++ m) sl t = retried l sl t ++ retried m sl t := List.map_append
  rw [State.nextRing, happ, retried_filter]
  simp [retried, newPage]

/-- REFILL_RETRY_EXPIRY of a page that is not to be tried again does nothing. -/
theorem refillRetry_not (h : ∀ z ∈ s.ringAt p, Pg.state (s.page p) ≠ Pg.failed ∨ (∀ m ∈ z.2.retry, s.tick < m) ∨
    (s.toFill z.1).any (fun w => w.1 == z.2.entry && w.2.1 == z.2.gen && w.2.2.1 == z.2.n) = false) : s.refillRetry p = s := by
  unfold State.refillRetry
  split
  · next q y hat =>
    refine if_neg fun ⟨hst, hretry, hany⟩ => ?_
    obtain ⟨m, hm, hle⟩ := (Option.any_eq_true _ _).1 hretry
    rcases h (q, y) hat with h | h | h
    · exact h hst
    · exact absurd (of_decide_eq_true hle) (Nat.not_le.2 (h m hm))
    · rw [hany] at h
      cases h
  · rfl

/-! ## Completions -/

/-- A read request that has timed out. -/
def State.timesOut (s : State) (tag : Nat) : State :=
  match s.xfers.find? (fun x => x.asked && x.tag == tag && !x.full) with
  | some x => (s.inc K.DMA_TIMEOUTS).attemptFails x true
  | none => s

/-- The tags that late bytes may still bring, with that of a request that has timed out (R246). -/
def State.lateTag (s : State) (x : Xfer) : List (Nat × Nat) := s.lateTags ++ [(x.tag, s.tick + s.retireFrames)]

/-- The state with other tags that late bytes may still bring. -/
def State.withLateTags (s : State) (l : List (Nat × Nat)) : State := { s with lateTags := l }

theorem attemptFails_timedOut (s : State) (x : Xfer) : s.attemptFails x true = (s.withLateTags (s.lateTag x)).attemptFails x false := by
  simp only [State.attemptFails, if_true, Bool.false_eq_true, if_false, State.withLateTags, State.lateTag]

section Found
variable (hm : s.mode ≠ 0)
include hm

theorem gives_dmaCompletion (h : P { s.noOut.dmaArrives g st ds last with pending := s.pending }) : Gives (.dmaCompletion g st ds last) s P :=
  gives_noOut hm (f := fun s => s.dmaArrives g st ds last) rfl h

theorem gives_dmaTimeout (h : P { s.noOut.timesOut g with pending := s.pending }) : Gives (.dmaCompletionTimeout g) s P :=
  gives_noOut hm (f := fun s => s.timesOut g) rfl h

variable (hx : s.xfers.find? (fun z => z.asked && z.tag == g && !z.full) = some x)
include hx

theorem gives_poisoned (h : ∀ o, Writes s (s.withOd o) [(K.DMA_POISONED, s.g K.DMA_POISONED + 1)] →
    P { (s.late o s.lateTags).attemptFails x false with pending := s.pending }) : Gives (.dmaCompletion g .poisoned ds last) s P := by
  refine gives_dmaCompletion hm ?_
  obtain ⟨o, ho, hw⟩ : ∃ o, s.noOut.inc K.DMA_POISONED = s.late o s.lateTags ∧ Writes s (s.withOd o) [(K.DMA_POISONED, s.g K.DMA_POISONED + 1)] :=
    ⟨_, rfl, inc_writes s _⟩
  have hx' : s.noOut.xfers.find? (fun z => z.asked && z.tag == g && !z.full) = some x := hx
  simp only [State.dmaArrives, hx', ho]
  exact h o hw

theorem gives_badStatus (hst : st ≠ .good) (hst' : st ≠ .poisoned)
    (h : ∀ o, Writes s (s.withOd o) [(K.DMA_BAD_STATUS, s.g K.DMA_BAD_STATUS + 1)] →
      P { (s.late o s.lateTags).attemptFails x false with pending := s.pending }) : Gives (.dmaCompletion g st ds last) s P := by
  refine gives_dmaCompletion hm ?_
  obtain ⟨o, ho, hw⟩ : ∃ o, s.noOut.inc K.DMA_BAD_STATUS = s.late o s.lateTags ∧
      Writes s (s.withOd o) [(K.DMA_BAD_STATUS, s.g K.DMA_BAD_STATUS + 1)] := ⟨_, rfl, inc_writes s _⟩
  have hx' : s.noOut.xfers.find? (fun z => z.asked && z.tag == g && !z.full) = some x := hx
  have hrun : s.noOut.dmaArrives g st ds last = (s.late o s.lateTags).attemptFails x false := by
    cases st with
    | good => exact absurd rfl hst
    | poisoned => exact absurd rfl hst'
    | _ => simp only [State.dmaArrives, hx', ho]
  rw [hrun]
  exact h o hw

theorem gives_timeout (h : ∀ o, Writes s (s.withOd o) [(K.DMA_TIMEOUTS, s.g K.DMA_TIMEOUTS + 1)] →
    P { (s.late o (s.lateTag x)).attemptFails x false with pending := s.pending }) : Gives (.dmaCompletionTimeout g) s P := by
  refine gives_dmaTimeout hm ?_
  obtain ⟨o, ho, hw⟩ : ∃ o, s.noOut.inc K.DMA_TIMEOUTS = s.late o s.lateTags ∧ Writes s (s.withOd o) [(K.DMA_TIMEOUTS, s.g K.DMA_TIMEOUTS + 1)] :=
    ⟨_, rfl, inc_writes s _⟩
  have hx' : s.noOut.xfers.find? (fun z => z.asked && z.tag == g && !z.full) = some x := hx
  have hret : (s.late o s.lateTags).retireFrames = s.retireFrames :=
    congrArg framesOfUs (late_g hw (by decide : K.RETIRE_INTERVAL ≠ K.DMA_TIMEOUTS))
  have hlate : (s.late o s.lateTags).lateTag x = s.lateTag x := by
    rw [State.lateTag, hret]
    rfl
  have hrun : (s.late o s.lateTags).attemptFails x true = (s.late o (s.lateTag x)).attemptFails x false := by
    rw [attemptFails_timedOut, hlate]
    rfl
  simp only [State.timesOut, hx', ho, hrun]
  exact h o hw

end Found

theorem lateTags_raiseVal (a d : Nat) : (s.raiseVal a d).lateTags = s.lateTags := by rw [raiseVal_form]

/-- With no request timed out, the tags are as they were. -/
theorem readAgain_kept : s.readAgain x op v o s.lateTags = { (s.raiseVal 64 x.ppn).setUnit (x.ppn / 64) 8 { active := some op.afresh } with
    od := o, out := s.reads v x.addr, xfers := s.xfers.map (fun z => if z.ppn = x.ppn then x.again v else z) } := by
  rw [State.readAgain, ← lateTags_raiseVal 64 x.ppn]
  rfl

theorem lost_kept (r : Sp RingHid) : s.lost x o s.lateTags r = { (s.raiseVal 65 x.ppn).setUnit (x.ppn / 64) 8 {} with
    od := o, out := [], rings := r, xfers := s.xfers.filter (fun z => z.ppn != x.ppn) } := by
  rw [State.lost, ← lateTags_raiseVal 65 x.ppn]
  rfl

theorem ofDma_timeouts : OfDma K.DMA_TIMEOUTS := ⟨8, by decide, rfl⟩

theorem ofDma_poisoned : OfDma K.DMA_POISONED := ⟨9, by decide, rfl⟩

theorem ofDma_badStatus : OfDma K.DMA_BAD_STATUS := ⟨10, by decide, rfl⟩

/-! ## The statement -/

/-- Settles O43: each command is reduced to the transfer that it begins, reads again or ends, in a state of which only a ring, a unit, the
transfers, an event and the objects listed have changed. -/
theorem refill : Obligations.Refill := by
  unfold Obligations.Refill
  intro s q p g a n e k sl v pre rest ds last x y o st hm
  refine ⟨?idle, ?behind, ?before, ?noHost, ?waits, ?noSlot, ?filled, ?stopped, ?retryIdle, ?retryBehind, ?retryNoHost, ?retryNot,
    ?good, ?late, ?poisoned, ?badStatus, ?timeout, ?poisonedLast, ?badStatusLast, ?timeoutLast, ?timeoutNone⟩
  case idle =>
    rintro hq hst hworn hfill hpre hs hprod rfl hn hl hf h8 h9 hx ht ha hv
    refine gives_refillTake hm hq hst hworn hfill hpre hs hprod hn hl hf h8 h9 fun od hw => ?_
    have hp := ringPpn_lt hn
    rw [based_idle (based_fn hp hw) ((based_translate hp hw).trans ht) hx hv ha]
    exact ⟨hw, rfl⟩
  case behind =>
    rintro hq hst hworn hfill hpre hs hprod rfl hn hl hf h8 h9 - ht ha h1
    refine gives_refillTake hm hq hst hworn hfill hpre hs hprod hn hl hf h8 h9 fun od hw => ?_
    have hp := ringPpn_lt hn
    rw [based_waits (based_fn hp hw) ((based_translate hp hw).trans ht) ha h1]
    exact ⟨hw, rfl⟩
  case before =>
    rintro hq hst hworn hfill hpre hs hprod rfl hn hl hf h8 h9 hx ht ha hheld h23 hv
    refine gives_refillTake hm hq hst hworn hfill hpre hs hprod hn hl hf h8 h9 fun od hw => ?_
    have hp := ringPpn_lt hn
    rw [based_preempts (based_fn hp hw) ((based_translate hp hw).trans ht) hx hv ha h23 hheld]
    exact ⟨preempt_writes hp hw _, rfl⟩
  case noHost =>
    rintro hq hst hworn hfill hpre hs hprod rfl hn hl hf h8 h9 - ht hp hring hsq hindex
    refine gives_refillTake hm hq hst hworn hfill hpre hs hprod hn hl hf h8 h9 fun od hw => ?_
    obtain ⟨od', hw', hstate⟩ := based_refused (e := e) (g := g) (n := n) hp hw ht (ringAt_taken hw hring hsq hindex)
    have hsame := ring_refused_same s q (s.nextRing q (s.ring q).next e g n k) p (s.ring q).next od'
    rw [retried_taken] at hsame
    rw [hstate]
    exact ⟨refused_take_writes hp hw', hsame, ring_refused_other _ _ _ _ _ _, rfl⟩
  case waits =>
    intro hq hst hworn hfill hpre hs hprod
    refine gives_refillFrom hm hq hst hworn hfill hpre ?_
    rw [refillNext_waits hs hprod]
    rfl
  case noSlot =>
    intro hq hst hworn hfill hpre hs hn hf
    refine gives_refillFrom hm hq hst hworn hfill hpre ?_
    rw [refillPage_noSlot hs hn hf]
    rfl
  case filled =>
    intro hq hst hworn hfill hpre
    refine gives_refillStart hm hq hst hworn ?_
    rw [hfill, ← List.append_nil pre, refillNext_filled [] hpre]
    rfl
  case stopped =>
    intro hno
    refine gives_noOut hm (f := fun s => if q < 8 ∧ s.g (K.SQ_STATE q) ≠ 0 then (s.retireWorn q).refillPage
      ((s.retireWorn q).refillNext q ((s.retireWorn q).toFill q)) else s) rfl ?_
    have hstop : ¬(q < 8 ∧ s.noOut.g (K.SQ_STATE q) ≠ 0) := fun ⟨hq, h0⟩ => hno.elim (Nat.not_le.2 hq) h0
    dsimp only
    rw [if_neg hstop]
    rfl
  case retryIdle =>
    intro hp hat hst hy hle hany ht ha hx hv
    refine gives_refillRetry hm hp hat hst hy hle hany fun od hw => ?_
    rw [based_idle (based_fn hp hw) ((based_translate hp hw).trans ht) hx hv ha]
    exact ⟨hw, rfl⟩
  case retryBehind =>
    intro hp hat hst hy hle hany ht ha h1
    refine gives_refillRetry hm hp hat hst hy hle hany fun od hw => ?_
    rw [based_waits (based_fn hp hw) ((based_translate hp hw).trans ht) ha h1]
    exact ⟨hw, rfl⟩
  case retryNoHost =>
    intro hp hat hst hy hle hany ht
    refine gives_refillRetry hm hp hat hst hy hle hany fun od hw => ?_
    obtain ⟨od', hw', hstate⟩ := based_refused (e := y.entry) (g := y.gen) (n := y.n) hp hw ht (ringAt_again hw hat none)
    rw [setBits_state_back hst] at hw'
    have hsame := ring_refused_same s q { s.ring q with pages := retried (s.ring q).pages y.slot none } p y.slot od'
    dsimp only at hsame
    rw [retried_retried] at hsame
    rw [hstate]
    exact ⟨refused_again_writes hp hw', hsame, ring_refused_other _ _ _ _ _ _, rfl⟩
  case retryNot =>
    intro hno
    refine gives_noOut hm (f := fun s => s.refillRetry p) rfl ?_
    rw [refillRetry_not fun z hz => by rw [toFill_noOut]; exact hno z hz]
    rfl
  case good =>
    intro hx
    refine gives_dmaCompletion hm ?_
    have hx' : s.noOut.xfers.find? (fun z => z.asked && z.tag == g && !z.full) = some x := hx
    simp only [State.dmaArrives, hx']
    rfl
  case late =>
    intro hx
    refine gives_dmaCompletion hm ?_
    have hx' : s.noOut.xfers.find? (fun z => z.asked && z.tag == g && !z.full) = none := hx
    simp only [State.dmaArrives, hx']
    exact ⟨inc_writes s K.DMA_LATE, rfl⟩
  case poisoned =>
    intro hx hp hlim hops ho h3 ha hring hv
    refine gives_poisoned hm hx fun od hw => ?_
    obtain ⟨od', hw', hstate⟩ := late_again (lt := s.lateTags) hw hp ofDma_poisoned.offPages (by decide) (by decide) hlim hops ho h3 ha hring hv
    rw [hstate, readAgain_kept]
    exact ⟨hw', rfl⟩
  case badStatus =>
    intro hx hp hlim hops ho h3 ha hring hv hst hst'
    refine gives_badStatus hm hx hst hst' fun od hw => ?_
    obtain ⟨od', hw', hstate⟩ := late_again (lt := s.lateTags) hw hp ofDma_badStatus.offPages (by decide) (by decide) hlim hops ho h3 ha hring hv
    rw [hstate, readAgain_kept]
    exact ⟨hw', rfl⟩
  case timeout =>
    intro hx hp hlim hops ho h3 ha hring hv
    refine gives_timeout hm hx fun od hw => ?_
    obtain ⟨od', hw', hstate⟩ := late_again (lt := s.lateTag x) hw hp ofDma_timeouts.offPages (by decide) (by decide) hlim hops ho h3 ha hring hv
    rw [hstate]
    exact ⟨hw', rfl⟩
  case poisonedLast =>
    intro hx hlim hf hu hp hload
    refine gives_poisoned hm hx fun od hw => ?_
    obtain ⟨od', r, hw', hstate, hrings⟩ := late_fails (lt := s.lateTags) hw ofDma_poisoned (by decide) (by decide) hp hlim hf hu hload
    rw [hstate]
    exact ⟨hw', lost_kept r, hrings⟩
  case badStatusLast =>
    intro hx hlim hf hu hp hload hst hst'
    refine gives_badStatus hm hx hst hst' fun od hw => ?_
    obtain ⟨od', r, hw', hstate, hrings⟩ := late_fails (lt := s.lateTags) hw ofDma_badStatus (by decide) (by decide) hp hlim hf hu hload
    rw [hstate]
    exact ⟨hw', lost_kept r, hrings⟩
  case timeoutLast =>
    intro hx hlim hf hu hp hload
    refine gives_timeout hm hx fun od hw => ?_
    obtain ⟨od', r, hw', hstate, hrings⟩ := late_fails (lt := s.lateTag x) hw ofDma_timeouts (by decide) (by decide) hp hlim hf hu hload
    rw [hstate]
    exact ⟨hw', rfl, hrings⟩
  case timeoutNone =>
    intro hx
    refine gives_dmaTimeout hm ?_
    have hx' : s.noOut.xfers.find? (fun z => z.asked && z.tag == g && !z.full) = none := hx
    simp only [State.timesOut, hx']
    rfl

end Sys2Proof.Machine
end

section
/-! SUPPORT. A calibration reason of a core (R435, R449): what it changes when it sets on one core, and on each core of a list. -/

namespace Sys2Proof.Machine

variable {s t : State} {c i : Nat} {f : State → Nat → State}

theorem raiseDet_ev_other {a b : Nat} (h : b ≠ a) (d m : Nat) : (s.raiseDet a d m).ev b = s.ev b := by
  unfold State.raiseDet
  cases s.ev a with
  | none => exact Sp.find_ins_other _ _ h
  | some e => exact Sp.find_ins_other _ _ h

theorem raiseDet_evMask (s : State) (a d m : Nat) : (s.raiseDet a d m).evMask a = s.evMask a ||| m := by
  cases h : s.ev a <;> simp [State.raiseDet, State.evMask, h]

theorem raiseDet_withOd (s : State) (o : Sp Nat) (a d m : Nat) : (s.withOd o).raiseDet a d m = (s.raiseDet a d m).withOd o := by
  have hev : (s.withOd o).ev a = s.ev a := rfl
  unfold State.raiseDet
  rw [hev]
  cases s.ev a <;> rfl

theorem raiseDet_noOut (s : State) (a d m : Nat) : s.noOut.raiseDet a d m = (s.raiseDet a d m).noOut := by
  have hev : s.noOut.ev a = s.ev a := rfl
  unfold State.raiseDet
  rw [hev]
  cases s.ev a <;> rfl

/-- A bit that is set reads set. -/
theorem bit_setBit_true (x i : Nat) : bit (setBit x i true) i = true := by
  have hpos : 0 < 2 ^ i := Nat.two_pow_pos i
  have hmod : x % 2 ^ i < 2 ^ i := Nat.mod_lt _ hpos
  have hsplit : x - x / 2 ^ i % 2 * 2 ^ i + 2 ^ i = x % 2 ^ i + 2 ^ i * (x / 2 ^ i - x / 2 ^ i % 2 + 1) := by
    have hx := Nat.mod_add_div x (2 ^ i)
    rw [Nat.mul_add, Nat.mul_sub, Nat.mul_one, Nat.mul_comm (x / 2 ^ i % 2)]
    have := Nat.mul_le_mul_left (2 ^ i) (Nat.mod_le (x / 2 ^ i) 2)
    omega
  have hset : setBit x i true = x % 2 ^ i + 2 ^ i * (x / 2 ^ i - x / 2 ^ i % 2 + 1) := by
    simpa [setBit, setBits, bits] using hsplit
  rw [hset, bit, Nat.add_mul_div_left _ _ hpos, Nat.div_eq_of_lt hmod]
  simp only [beq_iff_eq]
  omega

/-- REASON of a core with a bit set. -/
def State.reasonWith (s : State) (c i : Nat) : Nat := setBit (s.g (K.CORE_CAL_REASON c)) i true

theorem wantCal_g (s : State) (c i : Nat) : (s.wantCal c i).g = (s.p (K.CORE_CAL_REASON c) (s.reasonWith c i)).g := by
  unfold State.wantCal
  dsimp only
  split <;> rfl

theorem wantCal_form (s : State) (c i : Nat) : ∃ o cs, s.wantCal c i = { s with od := o, calSince := cs } := by
  unfold State.wantCal
  dsimp only
  split
  · exact ⟨_, s.calSince, rfl⟩
  · exact ⟨_, _, rfl⟩

/-- A place that a map lists holds something. -/
theorem Sp.find_isSome_of_any {m : Sp Nat} {k : Nat} (h : m.any (fun p => p.1 == k) = true) : (Sp.find m k).isSome = true := by
  induction m with
  | nil => exact absurd h Bool.false_ne_true
  | cons x m ih =>
    rw [List.any_cons, Bool.or_eq_true, beq_iff_eq] at h
    unfold Sp.find
    split
    · rfl
    · next hx => exact ih (h.resolve_left fun e => hx e.symm)

/-- The pending age of the core runs already: only its reasons change. -/
theorem wantCal_pending (h : s.calSince.any (fun p => p.1 == c) = true) (i : Nat) :
    s.wantCal c i = s.p (K.CORE_CAL_REASON c) (s.reasonWith c i) := by
  obtain ⟨n, hn⟩ := Option.isSome_iff_exists.1 (Sp.find_isSome_of_any h)
  have hsince : Sp.find (s.pbit (K.CORE_CAL_REASON c) i true).calSince c = some n := hn
  rw [State.wantCal, hsince]
  rfl

/-- An update of the dictionary that sets one bit of a core's REASON. -/
def Asks (i : Nat) (f : State → Nat → State) : Prop := ∀ s c, (f s c).g = (s.p (K.CORE_CAL_REASON c) (s.reasonWith c i)).g

theorem wantCal_asks (i : Nat) : Asks i (fun s c => s.wantCal c i) := fun s c => wantCal_g s c i

theorem deviates_asks : Asks 3 State.deviates := fun s c => by
  rw [State.deviates, State.raiseCal, raiseDet_form]
  exact wantCal_g s c 3

theorem reason_inj {c d : Nat} (h : c ≠ d) : K.CORE_CAL_REASON c ≠ K.CORE_CAL_REASON d := by
  rw [K.CORE_CAL_REASON, K.CORE_CAL_REASON, Ne, key_inj] <;> omega

theorem Asks.each_off (hf : Asks i f) {l : List Nat} {j : Nat} (hj : ∀ c ∈ l, j ≠ K.CORE_CAL_REASON c) (s : State) :
    (s.each l f).g j = s.g j :=
  each_keeps (fun s => s.g j) l s fun s c hc => by rw [hf]; exact s.g_p_other _ (hj c hc)

theorem Asks.each_on (hf : Asks i f) {l : List Nat} (hn : l.Nodup) (hc : c ∈ l) (s : State) :
    (s.each l f).g (K.CORE_CAL_REASON c) = s.reasonWith c i := by
  induction l generalizing s with
  | nil => exact absurd hc List.not_mem_nil
  | cons x l ih =>
    obtain ⟨hx, hn⟩ := List.nodup_cons.1 hn
    by_cases e : c = x
    · subst e
      have hoff : ∀ d ∈ l, K.CORE_CAL_REASON c ≠ K.CORE_CAL_REASON d := fun d hd => reason_inj fun e => hx (e ▸ hd)
      refine (hf.each_off hoff (f s c)).trans ?_
      rw [hf, State.g_p_same]
    · refine (ih hn ((List.mem_cons.1 hc).resolve_left e) (f s x)).trans ?_
      rw [State.reasonWith, hf, State.g_p_other _ _ (reason_inj e), State.reasonWith]

theorem instances_nodup (n : Nat) (p : Nat → Bool) : (instances n p).Nodup := List.nodup_range.filter p

theorem mem_instances {n : Nat} {p : Nat → Bool} : c ∈ instances n p ↔ c < n ∧ p c = true := by
  rw [instances, List.mem_filter, List.mem_range]

end Sys2Proof.Machine
end

section
/-! SUPPORT. The verification sweep of LOAD (R457, R595, R596): what it finds on one core, what it leaves of the others, and the cores
that ask for calibration once the steps of LOAD are over. -/

namespace Sys2Proof.Machine

variable {s t : State} {c : Nat} {d : Nat × Nat × Bool} {ds : List (Nat × Nat × Bool)}

/-! ## Objects -/

/-- The objects that a sweep writes. -/
def sweepObj (j : Nat) : Bool :=
  j == K.CAL_LAST_INVALID || j == K.CAL_LAST_INVALID_FN || (List.range 72).any (fun c => j == K.CORE_CAL_REASON c || j == K.CORE_VERIFY_DEV c)

theorem sweepObj_false {j : Nat} : sweepObj j = false ↔ j ≠ K.CAL_LAST_INVALID ∧ j ≠ K.CAL_LAST_INVALID_FN ∧
    ∀ c < 72, j ≠ K.CORE_CAL_REASON c ∧ j ≠ K.CORE_VERIFY_DEV c := by
  simp only [sweepObj, Bool.or_eq_false_iff, beq_eq_false_iff_ne, List.any_eq_false, List.mem_range, Bool.not_eq_true, and_assoc]

/-- A sweep writes at two subindices of the registers of the Calliper and at two of each core's fourth index. -/
theorem sweepObj_off {j : Nat} (h : keyIndex j < 0x5000 ∨ keyIndex j % 32 = 7 ∨ keyIndex j = 0x8000 ∧ keySub j < 0xd) :
    sweepObj j = false := by
  refine sweepObj_false.2 ⟨?_, ?_, fun c hc => ⟨?_, ?_⟩⟩
  all_goals
    rintro rfl
    simp only [K.CAL_LAST_INVALID, K.CAL_LAST_INVALID_FN, K.CORE_CAL_REASON, K.CORE_VERIFY_DEV, key, keyIndex, keySub] at h
    omega

theorem sweepObj_ipState (c : Nat) : sweepObj (K.IP_STATE c) = false :=
  sweepObj_off (.inr (.inl (by rw [K.IP_STATE, keyIndex_key _ 0 (by decide) (by decide)]; omega)))

theorem dev_ne_reason (c d : Nat) : K.CORE_VERIFY_DEV c ≠ K.CORE_CAL_REASON d := by
  rw [K.CORE_VERIFY_DEV, K.CORE_CAL_REASON, Ne, key_inj] <;> omega

theorem dev_inj {c d : Nat} (h : c ≠ d) : K.CORE_VERIFY_DEV c ≠ K.CORE_VERIFY_DEV d := by
  rw [K.CORE_VERIFY_DEV, K.CORE_VERIFY_DEV, Ne, key_inj] <;> omega

theorem limit_ne_dev (c : Nat) : K.CAL_VERIFY_LIMIT ≠ K.CORE_VERIFY_DEV c := by
  rw [K.CORE_VERIFY_DEV, K.CAL_VERIFY_LIMIT, Ne, key_inj] <;> omega

theorem invalid_ne_core (c : Nat) : K.CORE_CAL_REASON c ≠ K.CAL_LAST_INVALID ∧ K.CORE_CAL_REASON c ≠ K.CAL_LAST_INVALID_FN ∧
    K.CORE_VERIFY_DEV c ≠ K.CAL_LAST_INVALID ∧ K.CORE_VERIFY_DEV c ≠ K.CAL_LAST_INVALID_FN := by
  refine ⟨?_, ?_, ?_, ?_⟩
  all_goals
    simp only [K.CORE_CAL_REASON, K.CORE_VERIFY_DEV, K.CAL_LAST_INVALID, K.CAL_LAST_INVALID_FN, key]
    omega

/-! ## What is found of one core -/

/-- The state with what a sweep may change: the dictionary, the free values, the events and the pending ages. -/
def State.withSweep (s : State) (o : Sp Nat) (n : Nat) (e : Sp Ev) (cs : Sp Nat) : State :=
  { s with od := o, free := n, raised := e, calSince := cs }

/-- After, no more than what a sweep may change has changed. -/
def SweepOnly (s t : State) : Prop := ∃ o n e cs, t = s.withSweep o n e cs

theorem SweepOnly.refl (s : State) : SweepOnly s s := ⟨s.od, s.free, s.raised, s.calSince, rfl⟩

theorem SweepOnly.trans {u : State} (h : SweepOnly s t) (h' : SweepOnly t u) : SweepOnly s u := by
  obtain ⟨o, n, e, cs, rfl⟩ := h
  obtain ⟨o', n', e', cs', rfl⟩ := h'
  exact ⟨o', n', e', cs', rfl⟩

theorem SweepOnly.wantCal (s : State) (c i : Nat) : SweepOnly s (s.wantCal c i) := by
  obtain ⟨o, cs, h⟩ := wantCal_form s c i
  exact ⟨o, s.free, s.raised, cs, h⟩

theorem SweepOnly.deviates (s : State) (c : Nat) : SweepOnly s (s.deviates c) := by
  refine (SweepOnly.wantCal s c 3).trans ?_
  rw [State.deviates, State.raiseCal, raiseDet_form]
  exact ⟨_, _, _, _, rfl⟩

theorem wantCal_ev (s : State) (c i x : Nat) : (s.wantCal c i).ev x = s.ev x := by
  obtain ⟨o, cs, h⟩ := wantCal_form s c i
  rw [h]
  rfl

theorem deviates_ev {x : Nat} (h : x ≠ 87) (s : State) (c : Nat) : (s.deviates c).ev x = s.ev x :=
  (raiseDet_ev_other h _ _).trans (wantCal_ev s c 3 x)

theorem deviates_free (s : State) (c : Nat) : (s.deviates c).free = s.free := by
  obtain ⟨o, cs, h⟩ := wantCal_form s c 3
  rw [State.deviates, State.raiseCal, State.raiseDet_free, h]

/-- The state when the block of a core has failed in the sweep: the record of R434, whose check is left open. -/
def State.sweepFails (s : State) (c : Nat) : State := s.fresh.2.blockFails (bankOf c) (s.fresh.1 % 5 + 1) 2 c

theorem sweepFails_g {j : Nat} (h : j ≠ K.CAL_LAST_INVALID) (h' : j ≠ K.CAL_LAST_INVALID_FN) (s : State) (c : Nat) :
    (s.sweepFails c).g j = s.g j := by
  rw [State.sweepFails, State.blockFails, State.raiseCal, State.g_raiseDet, State.g_p_other _ _ h', State.g_p_other _ _ h]
  rfl

theorem swept1_skips (h : s.g (K.IP_STATE d.1) = 3 ∨ 72 ≤ d.1) : s.swept1 d = s := if_pos h

/-- A core that the sweep compares: it is calibrated. -/
def State.compares (s : State) (c : Nat) : Prop := c < 72 ∧ s.g (K.IP_STATE c) ≠ 3

theorem swept1_fails (h : s.compares d.1) (hd : d.2.2 = true) : s.swept1 d = (s.sweepFails d.1).deviates d.1 := by
  rw [State.swept1, if_neg fun e => e.elim h.2 (Nat.not_le.2 h.1), if_pos hd]
  rfl

theorem swept1_measures (h : s.compares d.1) (hd : d.2.2 = false) :
    s.swept1 d = if s.g K.CAL_VERIFY_LIMIT < d.2.1 then (s.p (K.CORE_VERIFY_DEV d.1) d.2.1).deviates d.1
      else s.p (K.CORE_VERIFY_DEV d.1) d.2.1 := by
  rw [State.swept1, if_neg fun e => e.elim h.2 (Nat.not_le.2 h.1), if_neg (by simp [hd])]
  dsimp only
  rw [State.g_p_other _ _ (limit_ne_dev _)]

/-- REASON of a core whose deviation has been measured. -/
def State.sweptReason (s : State) (d : Nat × Nat × Bool) : Nat :=
  if s.g K.CAL_VERIFY_LIMIT < d.2.1 then s.reasonWith d.1 3 else s.g (K.CORE_CAL_REASON d.1)

theorem swept1_writes (h : s.compares d.1) (hd : d.2.2 = false) :
    Writes s (s.swept1 d) [(K.CORE_CAL_REASON d.1, s.sweptReason d), (K.CORE_VERIFY_DEV d.1, d.2.1)] := by
  have hdev := (Writes.refl s).p (K.CORE_VERIFY_DEV d.1) d.2.1
  have hne := (dev_ne_reason d.1 d.1).symm
  intro j
  rw [swept1_measures h hd, State.sweptReason]
  split
  · rw [deviates_asks, State.reasonWith, State.g_p_other _ _ hne]
    exact hdev.p _ _ j
  · refine (hdev j).trans ?_
    by_cases e : j = K.CORE_CAL_REASON d.1
    · subst e; simp only [after, if_neg hne, if_true]
    · exact (if_neg e).symm

theorem swept1_fails_reason (h : s.compares d.1) (hd : d.2.2 = true) : bit ((s.swept1 d).g (K.CORE_CAL_REASON d.1)) 3 = true := by
  rw [swept1_fails h hd, deviates_asks, State.g_p_same]
  exact bit_setBit_true _ 3

theorem compares_or_skips (s : State) (c : Nat) : s.compares c ∨ (s.g (K.IP_STATE c) = 3 ∨ 72 ≤ c) := by
  unfold State.compares; omega

theorem swept1_off {j : Nat} (h : s.compares d.1 → j ≠ K.CAL_LAST_INVALID ∧ j ≠ K.CAL_LAST_INVALID_FN ∧ j ≠ K.CORE_CAL_REASON d.1 ∧
    j ≠ K.CORE_VERIFY_DEV d.1) : (s.swept1 d).g j = s.g j := by
  rcases compares_or_skips s d.1 with hc | hc
  · obtain ⟨hi, hif, hr, hv⟩ := h hc
    cases hd : d.2.2 with
    | true => rw [swept1_fails hc hd, deviates_asks, State.g_p_other _ _ hr, sweepFails_g hi hif]
    | false => rw [swept1_writes hc hd, after, if_neg hr, after, if_neg hv, after]
  · rw [swept1_skips hc]

theorem swept1_off_sweep {j : Nat} (h : sweepObj j = false) : (s.swept1 d).g j = s.g j :=
  swept1_off fun hc => by
    obtain ⟨hi, hif, hcore⟩ := sweepObj_false.1 h
    exact ⟨hi, hif, hcore _ hc.1⟩

theorem swept1_other_core (h : c ≠ d.1) : (s.swept1 d).g (K.CORE_CAL_REASON c) = s.g (K.CORE_CAL_REASON c) ∧
    (s.swept1 d).g (K.CORE_VERIFY_DEV c) = s.g (K.CORE_VERIFY_DEV c) := by
  obtain ⟨hr, hrf, hv, hvf⟩ := invalid_ne_core c
  exact ⟨swept1_off fun _ => ⟨hr, hrf, reason_inj h, (dev_ne_reason _ _).symm⟩,
    swept1_off fun _ => ⟨hv, hvf, dev_ne_reason _ _, dev_inj h⟩⟩

theorem SweepOnly.swept1 (s : State) (d : Nat × Nat × Bool) : SweepOnly s (s.swept1 d) := by
  rcases compares_or_skips s d.1 with hc | hc
  · cases hd : d.2.2 with
    | true =>
      rw [swept1_fails hc hd]
      refine SweepOnly.trans ?_ (SweepOnly.deviates _ _)
      rw [State.sweepFails, State.blockFails, State.raiseCal, raiseDet_form]
      exact ⟨_, _, _, _, rfl⟩
    | false =>
      have hdev : SweepOnly s (s.p (K.CORE_VERIFY_DEV d.1) d.2.1) := ⟨_, _, _, _, rfl⟩
      rw [swept1_measures hc hd]
      split
      · exact hdev.trans (SweepOnly.deviates _ _)
      · exact hdev
  · rw [swept1_skips hc]; exact SweepOnly.refl s

theorem swept1_ev {x : Nat} (h83 : x ≠ 83) (h87 : x ≠ 87) (s : State) (d : Nat × Nat × Bool) : (s.swept1 d).ev x = s.ev x := by
  rcases compares_or_skips s d.1 with hc | hc
  · cases hd : d.2.2 with
    | true =>
      rw [swept1_fails hc hd, deviates_ev h87]
      exact raiseDet_ev_other h83 _ _
    | false =>
      rw [swept1_measures hc hd]
      split
      · exact deviates_ev h87 _ _
      · rfl
  · rw [swept1_skips hc]

/-! ## The sweep of a list of cores -/

/-- The state after what a sweep found of each of a list. -/
def State.sweptAll (s : State) (ds : List (Nat × Nat × Bool)) : State := ds.foldl State.swept1 s

theorem SweepOnly.sweptAll (s : State) (ds : List (Nat × Nat × Bool)) : SweepOnly s (s.sweptAll ds) :=
  foldl_rel SweepOnly SweepOnly.refl (fun _ _ _ => SweepOnly.trans) SweepOnly.swept1 ds s

theorem sweptAll_ev {x : Nat} (h83 : x ≠ 83) (h87 : x ≠ 87) (s : State) (ds : List (Nat × Nat × Bool)) : (s.sweptAll ds).ev x = s.ev x :=
  foldl_same (fun s => s.ev x) (fun s d => swept1_ev h83 h87 s d) ds s

theorem sweptAll_off {j : Nat} (h : sweepObj j = false) (s : State) (ds : List (Nat × Nat × Bool)) : (s.sweptAll ds).g j = s.g j :=
  foldl_same (fun s => s.g j) (fun _ _ => swept1_off_sweep h) ds s

theorem sweptAll_other_core (h : ∀ d ∈ ds, c ≠ d.1) : (s.sweptAll ds).g (K.CORE_CAL_REASON c) = s.g (K.CORE_CAL_REASON c) ∧
    (s.sweptAll ds).g (K.CORE_VERIFY_DEV c) = s.g (K.CORE_VERIFY_DEV c) := by
  induction ds generalizing s with
  | nil => exact ⟨rfl, rfl⟩
  | cons d ds ih =>
    obtain ⟨hr, hv⟩ := ih (s := s.swept1 d) fun x hx => h x (List.mem_cons_of_mem _ hx)
    obtain ⟨hr', hv'⟩ := swept1_other_core (s := s) (h d List.mem_cons_self)
    exact ⟨hr.trans hr', hv.trans hv'⟩

/-- A core not calibrated is not compared. -/
theorem sweptAll_uncal (h : s.g (K.IP_STATE c) = 3) (ds : List (Nat × Nat × Bool)) :
    (s.sweptAll ds).g (K.CORE_CAL_REASON c) = s.g (K.CORE_CAL_REASON c) := by
  induction ds generalizing s with
  | nil => rfl
  | cons d ds ih =>
    refine (ih (s := s.swept1 d) ((swept1_off_sweep (sweepObj_ipState c)).trans h)).trans ?_
    by_cases e : c = d.1
    · rw [swept1_skips (.inl (e ▸ h))]
    · exact (swept1_other_core e).1

/-- What a sweep leaves of a core that it lists once is what it found of that core, in a state that agrees with the first one there. -/
theorem sweptAll_of_mem (hn : (ds.map (·.1)).Nodup) (hd : d ∈ ds) (s : State) :
    ∃ u : State, (∀ j, sweepObj j = false → u.g j = s.g j) ∧ u.g (K.CORE_CAL_REASON d.1) = s.g (K.CORE_CAL_REASON d.1) ∧
      (s.sweptAll ds).g (K.CORE_CAL_REASON d.1) = (u.swept1 d).g (K.CORE_CAL_REASON d.1) ∧
      (s.sweptAll ds).g (K.CORE_VERIFY_DEV d.1) = (u.swept1 d).g (K.CORE_VERIFY_DEV d.1) := by
  obtain ⟨before, behind, rfl⟩ := List.append_of_mem hd
  have hsplit : s.sweptAll (before ++ d :: behind) = ((s.sweptAll before).swept1 d).sweptAll behind := by
    simp only [State.sweptAll, List.foldl_append, List.foldl_cons]
  have hfirst : ∀ x ∈ before, d.1 ≠ x.1 := by grind
  have hlater : ∀ x ∈ behind, d.1 ≠ x.1 := by grind
  obtain ⟨hr, hv⟩ := sweptAll_other_core (s := (s.sweptAll before).swept1 d) hlater
  exact ⟨s.sweptAll before, fun j hj => sweptAll_off hj s before, (sweptAll_other_core hfirst).1, hsplit ▸ hr, hsplit ▸ hv⟩

theorem compares_congr {u : State} (hu : ∀ j, sweepObj j = false → u.g j = s.g j) (h : s.compares c) : u.compares c :=
  ⟨h.1, by rw [hu _ (sweepObj_ipState c)]; exact h.2⟩

theorem sweptAll_measured (hn : (ds.map (·.1)).Nodup) (hd : d ∈ ds) (h : s.compares d.1) (hf : d.2.2 = false) :
    (s.sweptAll ds).g (K.CORE_VERIFY_DEV d.1) = d.2.1 ∧ (s.sweptAll ds).g (K.CORE_CAL_REASON d.1) = s.sweptReason d := by
  obtain ⟨u, hu, hreason, hr, hv⟩ := sweptAll_of_mem hn hd s
  have hlimit : u.g K.CAL_VERIFY_LIMIT = s.g K.CAL_VERIFY_LIMIT := hu _ (by decide +kernel)
  have hw := swept1_writes (compares_congr hu h) hf
  rw [hr, hv, hw, hw, State.sweptReason, State.sweptReason, State.reasonWith, State.reasonWith, hlimit, hreason]
  simp [after, dev_ne_reason]

theorem sweptAll_failed (hn : (ds.map (·.1)).Nodup) (hd : d ∈ ds) (h : s.compares d.1) (hf : d.2.2 = true) :
    bit ((s.sweptAll ds).g (K.CORE_CAL_REASON d.1)) 3 = true := by
  obtain ⟨u, hu, -, hr, -⟩ := sweptAll_of_mem hn hd s
  rw [hr]
  exact swept1_fails_reason (compares_congr hu h) hf

/-! ## The steps of LOAD are over -/

/-- The cores still UNCALIBRATED (R435). -/
def State.uncal (s : State) : List Nat := instances 72 (fun c => s.g (K.IP_STATE c) == 3)

theorem mem_uncal : c ∈ s.uncal ↔ c < 72 ∧ s.g (K.IP_STATE c) = 3 := by
  rw [State.uncal, mem_instances, beq_iff_eq]

/-- The state with the steps of LOAD marked as over. -/
def State.loadOver (s : State) : State := { s with host := { s.host with swept := true } }

/-- With BYP not locked the clocks stay where they are. -/
theorem loadEnds_eq (hb : s.g K.BYP_STATE ≠ 2) : s.loadEnds = s.loadOver.each s.uncal (fun s c => s.wantCal c 1) := by
  have hbyp : (s.loadOver.each s.uncal (fun s c => s.wantCal c 1)).g K.BYP_STATE = s.g K.BYP_STATE :=
    (wantCal_asks 1).each_off (fun c hc => by rw [K.BYP_STATE, K.CORE_CAL_REASON, Ne, key_inj] <;> omega) _
  exact if_neg (hbyp.trans_ne hb)

theorem loadEnds_uncal (hb : s.g K.BYP_STATE ≠ 2) (hc : c < 72) (h : s.g (K.IP_STATE c) = 3) :
    s.loadEnds.g (K.CORE_CAL_REASON c) = s.reasonWith c 1 := by
  rw [loadEnds_eq hb]
  exact (wantCal_asks 1).each_on (instances_nodup _ _) (mem_uncal.2 ⟨hc, h⟩) s.loadOver

theorem loadEnds_off (hb : s.g K.BYP_STATE ≠ 2) {j : Nat} (h : ∀ c < 72, s.g (K.IP_STATE c) = 3 → j ≠ K.CORE_CAL_REASON c) :
    s.loadEnds.g j = s.g j := by
  rw [loadEnds_eq hb]
  exact (wantCal_asks 1).each_off (fun c hc => h c (mem_uncal.1 hc).1 (mem_uncal.1 hc).2) s.loadOver

theorem loadEnds_ev (hb : s.g K.BYP_STATE ≠ 2) (x : Nat) : s.loadEnds.ev x = s.ev x := by
  rw [loadEnds_eq hb]
  exact foldl_same (fun s => s.ev x) (fun s c => wantCal_ev s c 1 x) s.uncal s.loadOver

/-- After, no more than reasons and pending ages have changed. -/
def AskedOnly (s t : State) : Prop := ∃ o cs, t = { s with od := o, calSince := cs }

theorem AskedOnly.trans {u : State} (h : AskedOnly s t) (h' : AskedOnly t u) : AskedOnly s u := by
  obtain ⟨o, cs, rfl⟩ := h
  obtain ⟨o', cs', rfl⟩ := h'
  exact ⟨o', cs', rfl⟩

theorem loadEnds_form (hb : s.g K.BYP_STATE ≠ 2) : AskedOnly s.loadOver s.loadEnds := by
  rw [loadEnds_eq hb]
  exact foldl_rel AskedOnly (fun s => ⟨s.od, s.calSince, rfl⟩) (fun _ _ _ => AskedOnly.trans) (fun s c => wantCal_form s c 1)
    s.uncal s.loadOver

/-- Every core of the part has a calibration pending, so that no pending age begins. -/
def State.allPending (s : State) : Prop := ∀ c ∈ List.range 72, s.calSince.any (fun p => p.1 == c) = true

/-- Cores whose pending ages run already change only their reasons. -/
theorem each_wantCal_pending (l : List Nat) (s : State) (h : ∀ c ∈ l, s.calSince.any (fun p => p.1 == c) = true) :
    OdOnly s (s.each l (fun s c => s.wantCal c 1)) := by
  induction l generalizing s with
  | nil => exact OdOnly.refl s
  | cons x l ih =>
    have hx := wantCal_pending (h x List.mem_cons_self) 1
    have hstep : OdOnly s (s.wantCal x 1) := by rw [hx]; exact (OdOnly.refl s).p _ _
    refine hstep.trans (ih _ fun c hc => ?_)
    rw [hx]
    exact h c (List.mem_cons_of_mem _ hc)

theorem loadEnds_pending (hb : s.g K.BYP_STATE ≠ 2) (h : s.allPending) : OdOnly s.loadOver s.loadEnds := by
  rw [loadEnds_eq hb]
  exact each_wantCal_pending s.uncal s.loadOver fun c hc => h c (List.mem_range.2 (mem_uncal.1 hc).1)

/-- One core is compared, and its pending age runs already. -/
theorem swept1_pending (h : s.compares d.1) (hd : d.2.2 = false) (hp : s.calSince.any (fun p => p.1 == d.1) = true) :
    OdOnly (if s.g K.CAL_VERIFY_LIMIT < d.2.1 then s.raiseDet 87 d.1 (2 ^ bankOf d.1) else s) (s.swept1 d) := by
  rw [swept1_measures h hd]
  split
  · rw [State.deviates, wantCal_pending (s := s.p (K.CORE_VERIFY_DEV d.1) d.2.1) hp]
    exact ⟨_, raiseDet_withOd s _ _ _ _⟩
  · exact (OdOnly.refl s).p _ _

end Sys2Proof.Machine
end

section
/-! SUPPORT. The image that LOAD checks (R595, R627), and the calibration set that it selects (R460). -/

namespace Sys2Proof.Machine

variable {s : State} {i : Nat}

/-! ## The next image -/

/-- The order in which LOAD checks the two image slots. -/
def State.imageOrder (s : State) : List Nat := if s.imageVersion 0 < s.imageVersion 1 then [1, 0] else [0, 1]

theorem imageOrder_cases (s : State) : s.imageOrder = [1, 0] ∨ s.imageOrder = [0, 1] := ite_eq_or_eq _ _ _

theorem nextImage_eq (s : State) : s.nextImage = s.imageOrder.find? (fun i => !s.host.fwTried.contains i) := rfl

theorem nextImage_lt (h : s.nextImage = some i) : i < 2 := by
  have hi : i ∈ s.imageOrder := List.mem_of_find?_eq_some h
  rcases imageOrder_cases s with ho | ho <;> simp [ho] at hi <;> omega

/-- One slot has been checked: the other one is next. -/
theorem nextImage_one (hi : i < 2) (h : s.host.fwTried = [i]) : s.nextImage.isNone = false := by
  rw [nextImage_eq, h]
  rcases imageOrder_cases s with ho | ho <;> rw [ho] <;> interval_cases i <;> rfl

/-- Both slots have been checked: none is next. -/
theorem nextImage_both (hi : i < 2) (h : s.host.fwTried = [1 - i, i]) : s.nextImage.isNone = true := by
  rw [nextImage_eq, h]
  rcases imageOrder_cases s with ho | ho <;> rw [ho] <;> interval_cases i <;> rfl

theorem ofBe_lt (l : List Byte) : ofBe l < 256 ^ l.length := by
  induction l using List.reverseRecOn with
  | nil => decide
  | append_singleton l b ih =>
    have hb := b.isLt
    rw [ofBe, List.foldl_append, List.foldl_cons, List.foldl_nil, List.length_append, List.length_singleton, Nat.pow_succ, ← ofBe]
    omega

theorem imageVersion_lt (s : State) (i : Nat) : s.imageVersion i < 2 ^ 32 := by
  have h := ofBe_lt (s.flashBytes (slotBase i + 4) 4)
  rwa [State.flashBytes, List.length_map, List.length_range] at h

theorem showSlot_rejected (h : s.host.fwSlot = none) (i : Nat) : s.showSlot i false = s.p (atRow K.FL_SLOTS i) (s.imageVersion i) := by
  simp [State.showSlot, h, b2n]

theorem showSlot_runs (h : s.host.fwSlot = some i) : s.showSlot i true = s.p (atRow K.FL_SLOTS i) (s.imageVersion i + 2 ^ 62 + 2 ^ 63) := by
  simp [State.showSlot, h, b2n]

/-! ## A rejected image -/

/-- The state with one more image slot checked. -/
def State.tried (s : State) (i : Nat) : State := { s with host := { s.host with fwTried := s.host.fwTried ++ [i] } }

/-- The state when an image has been rejected. -/
def State.rejected (s : State) (i : Nat) : State := ((s.tried i).showSlot i false).raiseVal 118 (Config.causeWord 118 i 0)

theorem imageRejected_eq (s : State) (i : Nat) :
    s.imageRejected i = if (s.rejected i).nextImage.isNone then (s.rejected i).askMode 10 5 0 else s.rejected i := rfl

theorem rejected_form (s : State) (i : Nat) : ∃ o, s.rejected i =
    { s.raiseVal 118 (Config.causeWord 118 i 0) with od := o, host := (s.tried i).host } := by
  obtain ⟨o, hrow⟩ : ∃ o, (s.tried i).showSlot i false = { s.tried i with od := o } := ⟨_, rfl⟩
  refine ⟨o, ?_⟩
  rw [State.rejected, hrow, raiseVal_form { s.tried i with od := o }, raiseVal_raised (s := s) (t := { s.tried i with od := o }) _ _ rfl,
    raiseVal_form s]
  rfl

theorem rejected_writes (h : s.host.fwSlot = none) (i : Nat) : Writes s (s.rejected i) [(atRow K.FL_SLOTS i, s.imageVersion i)] := fun j => by
  rw [State.rejected, State.g_raiseVal, showSlot_rejected (s := s.tried i) h]
  exact (Writes.refl s).p _ _ j

theorem rejected_fwTried (s : State) (i : Nat) : (s.rejected i).host.fwTried = s.host.fwTried ++ [i] := by
  obtain ⟨o, h⟩ := rejected_form s i
  rw [h]
  rfl

/-- FIRMWARE_CHECK_COMPLETE of the image that LOAD checks next. -/
theorem gives_firmwareCheck {P : State → Prop} {pass : Bool} (hm : s.mode = 1) (hf : s.host.fwSlot = none) (hn : s.nextImage = some i)
    (h : P { (if pass then s.noOut.imageRuns i else s.noOut.imageRejected i) with pending := s.pending }) :
    Gives (.firmwareCheckComplete i pass) s P := by
  refine gives_noOut (by omega) (f := fun s => if s.mode = 1 ∧ s.host.fwSlot.isNone ∧ s.nextImage = some i then
    (if pass then s.imageRuns i else s.imageRejected i) else s) rfl ?_
  have hguard : s.noOut.mode = 1 ∧ s.noOut.host.fwSlot.isNone ∧ s.noOut.nextImage = some i := ⟨hm, Option.isNone_iff_eq_none.2 hf, hn⟩
  dsimp only
  rwa [if_pos hguard]

/-! ## The calibration set -/

/-- The objects of a set that belong to no core's tables stand in the registers of the calibration and of the channels. -/
theorem padKey_index {j : Nat} (h : padKey j = true) : 0x5000 ≤ keyIndex j ∧ keyIndex j ≤ 0x8010 := by
  simp only [padKey, Bool.or_eq_true, beq_iff_eq, List.any_eq_true, List.mem_range, K.CAL_COUNT, K.CAL_TIME, K.ANC_OWN, K.ANC_OWN_UNC,
    K.ANC_SPARE, K.ANC_SPARE_UNC, K.ANC_SOURCE, key] at h
  unfold keyIndex
  rcases h with (h | h) | ⟨c, hc, h⟩ <;> omega

theorem pAll_off {l : List (Nat × Nat)} {j : Nat} (h : ∀ p ∈ l, p.1 ≠ j) (s : State) : (s.pAll l).g j = s.g j := by
  rw [Writes.pAll l s j]
  exact after_of_not_mem (fun p hp => h p (List.mem_reverse.1 hp)) s.g

/-- The objects that LOAD writes as it selects a set, or finds none. -/
def setWrites : Option (Nat × NvmSet) → List (Nat × Nat)
  | some (slot, set) =>
    [(K.NVM_SET_BANK, slot / 16), (K.NVM_SET_SLOT, slot % 16), (K.CAL_SEQ, set.seq)] ++ set.objs.filter (fun p => padKey p.1)
  | none =>
    (K.NVM_SET_BANK, 255) :: (List.range 64).flatMap (fun c => [(K.ANC_OWN_UNC c, unknownBound), (K.ANC_SPARE_UNC c, unknownBound)])

theorem setWrites_index {x : Option (Nat × NvmSet)} {p : Nat × Nat} (hp : p ∈ setWrites x) :
    0x5000 ≤ keyIndex p.1 ∧ keyIndex p.1 ≤ 0x8010 := by
  cases x with
  | some x =>
    rcases List.mem_append.1 hp with hp | hp
    · simp only [List.mem_cons, List.not_mem_nil, or_false] at hp
      rcases hp with rfl | rfl | rfl
      · exact (by decide : 0x5000 ≤ keyIndex K.NVM_SET_BANK ∧ keyIndex K.NVM_SET_BANK ≤ 0x8010)
      · exact (by decide : 0x5000 ≤ keyIndex K.NVM_SET_SLOT ∧ keyIndex K.NVM_SET_SLOT ≤ 0x8010)
      · exact (by decide : 0x5000 ≤ keyIndex K.CAL_SEQ ∧ keyIndex K.CAL_SEQ ≤ 0x8010)
    · exact padKey_index (List.mem_filter.1 hp).2
  | none =>
    rcases List.mem_cons.1 hp with rfl | hp
    · exact (by decide : 0x5000 ≤ keyIndex K.NVM_SET_BANK ∧ keyIndex K.NVM_SET_BANK ≤ 0x8010)
    · obtain ⟨c, hc, hp⟩ := List.mem_flatMap.1 hp
      have hc := List.mem_range.1 hc
      simp only [List.mem_cons, List.not_mem_nil, or_false] at hp
      rcases hp with rfl | rfl
      · rw [K.ANC_OWN_UNC, keyIndex_key _ 0 (by decide) (by decide)]; omega
      · rw [K.ANC_SPARE_UNC, keyIndex_key _ 0 (by decide) (by decide)]; omega

/-- The sets of the NVM whose checks do not hold. -/
def State.badSets (s : State) : Nat := (s.nvm.filter (fun p => !p.2.good)).length

/-- The rejected sets are counted, with EV094 where there are some. -/
def State.setsCounted (s : State) : State :=
  if s.badSets = 0 then s.p K.NVM_BOOT_REJECTED s.badSets else (s.p K.NVM_BOOT_REJECTED s.badSets).raiseDet 94 0 0

theorem setsCounted_form (s : State) : ∃ o e, s.setsCounted = { s with od := o, raised := e } := by
  unfold State.setsCounted
  split
  · exact ⟨_, s.raised, rfl⟩
  · rw [raiseDet_form]; exact ⟨_, _, rfl⟩

theorem setsCounted_g (s : State) : s.setsCounted.g = (s.p K.NVM_BOOT_REJECTED s.badSets).g := by
  unfold State.setsCounted
  split
  · rfl
  · rw [raiseDet_form]; rfl

theorem setsCounted_ev {x : Nat} (h : x ≠ 94) (s : State) : s.setsCounted.ev x = s.ev x := by
  unfold State.setsCounted
  split
  · rfl
  · exact raiseDet_ev_other h 0 0

/-- The state with a set taken for the boot, or with no tables left to load. -/
def State.setTaken (s : State) : Option (Nat × NvmSet) → State
  | some (slot, set) => { s with baseline := set.base, host := { s.host with bootSet := some (slot, set) } }
  | none => { s with host := { s.host with loaded := List.range 72 } }

theorem setTaken_form (s : State) (x : Option (Nat × NvmSet)) : ∃ base h, h.fwSlot = s.host.fwSlot ∧
    s.setTaken x = { s with baseline := base, host := h } := by
  cases x with
  | some x => exact ⟨x.2.base, { s.host with bootSet := some x }, rfl, rfl⟩
  | none => exact ⟨s.baseline, { s.host with loaded := List.range 72 }, rfl, rfl⟩

theorem setsCounted_chosenSet (s : State) : s.setsCounted.chosenSet = s.chosenSet := by
  obtain ⟨o, e, h⟩ := setsCounted_form s
  rw [h]
  rfl

theorem selectSet_eq (s : State) : s.selectSet = (s.setsCounted.setTaken s.chosenSet).pAll (setWrites s.chosenSet) := by
  rw [← setsCounted_chosenSet]
  unfold State.selectSet State.setsCounted State.badSets
  dsimp only
  split
  · next h => rw [h]; rfl
  · next h => rw [h]; rfl

theorem selectSet_form (s : State) : ∃ o e base h, h.fwSlot = s.host.fwSlot ∧
    s.selectSet = { s with od := o, raised := e, baseline := base, host := h } := by
  obtain ⟨o, e, hcount⟩ := setsCounted_form s
  obtain ⟨base, h, hfw, htake⟩ := setTaken_form s.setsCounted s.chosenSet
  obtain ⟨o', hall⟩ := pAll_form (setWrites s.chosenSet) (s.setsCounted.setTaken s.chosenSet)
  rw [hcount] at hfw
  rw [selectSet_eq, hall, htake, hcount]
  exact ⟨o', e, base, h, hfw, rfl⟩

/-- Selecting the set leaves every object outside the registers of the calibration, of its store and of the channels. -/
theorem selectSet_off {j : Nat} (hj : keyIndex j < 0x5000 ∨ 0x8010 < keyIndex j) (s : State) : s.selectSet.g j = s.g j := by
  obtain ⟨base, h, -, htake⟩ := setTaken_form s.setsCounted s.chosenSet
  have hset : ∀ p ∈ setWrites s.chosenSet, p.1 ≠ j := by
    rintro p hp rfl
    have := setWrites_index hp
    omega
  have hcount : j ≠ K.NVM_BOOT_REJECTED := by
    rintro rfl
    rw [K.NVM_BOOT_REJECTED, keyIndex_key _ 0 (by decide) (by decide)] at hj
    omega
  rw [selectSet_eq, pAll_off hset, htake]
  exact (congrFun (setsCounted_g s) j).trans (s.g_p_other _ hcount)

theorem selectSet_ev {x : Nat} (hx : x ≠ 94) (s : State) : s.selectSet.ev x = s.ev x := by
  obtain ⟨base, h, -, htake⟩ := setTaken_form s.setsCounted s.chosenSet
  obtain ⟨o, hall⟩ := pAll_form (setWrites s.chosenSet) (s.setsCounted.setTaken s.chosenSet)
  rw [selectSet_eq, hall, htake]
  exact setsCounted_ev hx s

/-! ## An image that runs -/

/-- BOOT of the run that begins. -/
def State.nextBoot (s : State) : Nat := (s.nvmBoot + 1) % 2 ^ 32

/-- The state with an image slot that runs, and its BOOT. -/
def State.running (s : State) (i : Nat) : State := { s with nvmBoot := s.nextBoot, host := { s.host with fwSlot := some i } }

/-- The objects that show which image runs. -/
def State.bootObj (s : State) (i : Nat) : List (Nat × Nat) :=
  [(K.ID_FW_VERSION, s.imageVersion i), (K.ER_BOOT, s.nextBoot), (K.ID_BOOT, s.nextBoot)]

/-- The state when an image runs, before the set is selected. -/
def State.booted (s : State) (i : Nat) : State := ((s.running i).showSlot i true).pAll (s.bootObj i)

theorem imageRuns_eq (s : State) (i : Nat) : s.imageRuns i = (s.booted i).selectSet := rfl

theorem booted_form (s : State) (i : Nat) : ∃ o, s.booted i = { s.running i with od := o } := by
  obtain ⟨o, h⟩ := pAll_form (s.bootObj i) ((s.running i).showSlot i true)
  exact ⟨o, h⟩

theorem booted_writes (s : State) (i : Nat) : Writes s (s.booted i)
    ((s.bootObj i).reverse ++ [(atRow K.FL_SLOTS i, s.imageVersion i + 2 ^ 62 + 2 ^ 63)]) := fun j => by
  have hrow : Writes s ((s.running i).showSlot i true) [(atRow K.FL_SLOTS i, s.imageVersion i + 2 ^ 62 + 2 ^ 63)] := fun j => by
    rw [showSlot_runs (s := s.running i) rfl]
    exact (Writes.refl s).p _ _ j
  rw [after_append, State.booted, Writes.pAll]
  exact after_congr (hrow j) _

/-- The top bit of a row of FL_SLOTS is set when the image verified. -/
theorem bit63_version (s : State) (i : Nat) : bit (s.imageVersion i + 2 ^ 62 + 2 ^ 63) 63 = true := by
  have := imageVersion_lt s i
  simp only [bit, beq_iff_eq]
  omega

/-- What the identity, the mode and the image slots read once an image runs. -/
theorem imageRuns_off {j : Nat} (hj : keyIndex j < 0x5000 ∨ 0x8010 < keyIndex j) (s : State) (i : Nat) :
    (s.imageRuns i).g j = after s.g ((s.bootObj i).reverse ++ [(atRow K.FL_SLOTS i, s.imageVersion i + 2 ^ 62 + 2 ^ 63)]) j :=
  (selectSet_off hj (s.booted i)).trans (booted_writes s i j)

theorem bootObj_index {p : Nat × Nat} (hp : p ∈ s.bootObj i) : keyIndex p.1 = 0x1000 ∨ keyIndex p.1 = 0xc010 := by
  simp only [State.bootObj, List.mem_cons, List.not_mem_nil, or_false] at hp
  rcases hp with rfl | rfl | rfl
  · exact .inl (by decide : keyIndex K.ID_FW_VERSION = 0x1000)
  · exact .inr (by decide : keyIndex K.ER_BOOT = 0xc010)
  · exact .inl (by decide : keyIndex K.ID_BOOT = 0x1000)

theorem slotRow_index (hi : i < 2) : keyIndex (atRow K.FL_SLOTS i) = 0xb000 := by
  have hrow : atRow K.FL_SLOTS i = key 0xb000 0x28 i := by simp only [atRow, K.FL_SLOTS, key, Nat.add_zero]
  rw [hrow, keyIndex_key _ _ (by decide) (by omega)]

theorem imageRuns_row (hi : i < 2) (s : State) : (s.imageRuns i).g (atRow K.FL_SLOTS i) = s.imageVersion i + 2 ^ 62 + 2 ^ 63 := by
  have hrow := slotRow_index hi
  have hboot : ∀ p ∈ (s.bootObj i).reverse, p.1 ≠ atRow K.FL_SLOTS i := fun p hp e => by
    have := bootObj_index (List.mem_reverse.1 hp)
    rw [e, hrow] at this
    omega
  rw [imageRuns_off (by omega), after_append, after_of_not_mem hboot, after, if_pos rfl]

theorem imageRuns_mode (hi : i < 2) (s : State) : (s.imageRuns i).mode = s.mode := by
  have hmode : keyIndex K.MODE = 0x2000 := by decide
  have hrow := slotRow_index hi
  have hoff : ∀ p ∈ (s.bootObj i).reverse ++ [(atRow K.FL_SLOTS i, s.imageVersion i + 2 ^ 62 + 2 ^ 63)], p.1 ≠ K.MODE := fun p hp e => by
    rcases List.mem_append.1 hp with hp | hp
    · have := bootObj_index (List.mem_reverse.1 hp)
      rw [e, hmode] at this
      omega
    · rw [List.mem_singleton.1 hp] at e
      exact absurd (hrow.symm.trans ((congrArg keyIndex e).trans hmode)) (by decide)
  exact (imageRuns_off (by omega) s i).trans (after_of_not_mem hoff s.g)

theorem imageRuns_ev {x : Nat} (hx : x ≠ 94) (s : State) (i : Nat) : (s.imageRuns i).ev x = s.ev x := by
  obtain ⟨o, h⟩ := booted_form s i
  rw [imageRuns_eq, selectSet_ev hx, h]
  rfl

theorem imageRuns_form (s : State) (i : Nat) : ∃ o e base h, h.fwSlot = some i ∧
    s.imageRuns i = { s with od := o, raised := e, baseline := base, host := h, nvmBoot := s.nextBoot } := by
  obtain ⟨o, hboot⟩ := booted_form s i
  obtain ⟨o', e, base, h, hfw, hsel⟩ := selectSet_form (s.booted i)
  rw [hboot] at hfw
  rw [imageRuns_eq, hsel, hboot]
  exact ⟨o', e, base, h, hfw, rfl⟩

end Sys2Proof.Machine
end

section
/-! SUPPORT. The tables of one core that LOAD takes from the set chosen (R281). -/

namespace Sys2Proof.Machine

variable {s : State} {set : NvmSet} {i v : Nat}

/-! ## Entries -/

/-- Entries written from a place on. -/
def putEntries (b n : Nat) (l : List Int) (m : Sp Int) : Sp Int := (l.zipIdx n).foldl (fun m p => Sp.set (fun _ => 0) m (b + p.2) p.1) m

/-- They stand there in order; the places below are left. -/
theorem putEntries_get (b : Nat) : ∀ (l : List Int) (n : Nat) (m : Sp Int),
    (∀ e (h : e < l.length), Sp.get (fun _ => 0) (putEntries b n l m) (b + n + e) = l[e]) ∧
    ∀ j < b + n, Sp.get (fun _ => 0) (putEntries b n l m) j = Sp.get (fun _ => 0) m j
  | [], _, _ => ⟨fun _ h => absurd h (Nat.not_lt_zero _), fun _ _ => rfl⟩
  | x :: l, n, m => by
    obtain ⟨hin, hbelow⟩ := putEntries_get b l (n + 1) (Sp.set (fun _ => 0) m (b + n) x)
    refine ⟨fun e he => ?_, fun j hj => (hbelow j (by omega)).trans (Sp.get_set_other _ _ _ (by omega))⟩
    cases e with
    | zero => exact (hbelow (b + n) (by omega)).trans (Sp.get_set_same _ _ _ _)
    | succ e =>
      have h := hin e (Nat.lt_of_succ_lt_succ he)
      rwa [show b + (n + 1) + e = b + n + (e + 1) by omega] at h

theorem setEntries_get (s : State) (c : Nat) {l : List Int} {e : Nat} {x : Int} (h : l[e]? = some x) :
    Sp.get (fun _ => 0) (s.setEntries c l).corr (c * 512 + e) = x := by
  obtain ⟨he, hx⟩ := List.getElem?_eq_some_iff.1 h
  have hin := (putEntries_get (c * 512) l 0 s.corr).1 e he
  rwa [Nat.add_zero, hx] at hin

/-! ## Objects -/

theorem coreKeys_ne {j : Nat} (h : (coreKeys i).contains j = true) : j ≠ K.IP_STATE i ∧ j ≠ K.IP_TABLE_SEQ i := by
  simp only [coreKeys, List.contains_iff_mem, List.mem_cons, List.not_mem_nil, or_false, K.CORE_REF, K.IP_INL_A, K.IP_INL_B, K.IP_CAL_UNC,
    K.IP_TEMP_CAL, K.CORE_CAL_COUNT, K.CORE_CAL_FN, key] at h
  simp only [K.IP_STATE, K.IP_TABLE_SEQ, key]
  omega

theorem ipState_ne_tableSeq (i : Nat) : K.IP_STATE i ≠ K.IP_TABLE_SEQ i := by
  rw [K.IP_STATE, K.IP_TABLE_SEQ, Ne, key_inj] <;> omega

/-- The objects of a core that a set carries. -/
def NvmSet.mine (set : NvmSet) (i : Nat) : List (Nat × Nat) := set.objs.filter (fun p => (coreKeys i).contains p.1)

/-- What an object reads after a list of writes is the first entry that names it. -/
theorem after_eq_find (g : Nat → Nat) (l : List (Nat × Nat)) (j : Nat) :
    after g l j = ((l.find? (fun p => p.1 == j)).map (·.2)).getD (g j) := by
  induction l with
  | nil => rfl
  | cons x l ih =>
    rw [after]
    by_cases h : j = x.1
    · rw [if_pos h, List.find?_cons_of_pos (p := fun p : Nat × Nat => p.1 == j) (beq_iff_eq.2 h.symm)]; rfl
    · rw [if_neg h, ih, List.find?_cons_of_neg (p := fun p : Nat × Nat => p.1 == j) fun e => h (beq_iff_eq.1 e).symm]

theorem find_mine {j : Nat} (h : (coreKeys i).contains j = true) :
    (set.mine i).find? (fun p => p.1 == j) = set.objs.find? (fun p => p.1 == j) := by
  rw [NvmSet.mine, List.find?_filter]
  refine congrArg (fun f => set.objs.find? f) (funext fun p => ?_)
  by_cases e : p.1 = j
  · simp only [e, h, beq_self_eq_true, and_self, decide_true]
  · simp only [beq_eq_false_iff_ne.2 e, Bool.false_eq_true, and_false, decide_false]

/-- No object is named twice, so their order does not matter. -/
theorem pAll_mine (hn : (set.objs.map (·.1)).Nodup) {j : Nat} (h : (coreKeys i).contains j = true) (s : State) :
    (s.pAll (set.mine i)).g j = ((set.objs.find? (fun p => p.1 == j)).map (·.2)).getD (s.g j) := by
  have hnd : ((set.mine i).map Prod.fst).Nodup := hn.sublist ((List.filter_sublist).map _)
  rw [Writes.pAll, ← after_perm (List.reverse_perm _).symm hnd, after_eq_find, find_mine h]

theorem pAll_mine_off {j : Nat} (h : (coreKeys i).contains j = false) (s : State) : (s.pAll (set.mine i)).g j = s.g j :=
  pAll_off (fun p hp e => by have := (List.mem_filter.1 hp).2; rw [e, h] at this; exact Bool.false_ne_true this) s

/-! ## A core -/

/-- The set covers a core: it carries a known uncertainty of it. -/
def NvmSet.covers (set : NvmSet) (i : Nat) : Bool := set.objs.any (fun p => p.1 == K.IP_CAL_UNC i && decide (p.2 < 250))

theorem mine_covers (set : NvmSet) (i : Nat) :
    (set.mine i).any (fun p => p.1 == K.IP_CAL_UNC i && decide (p.2 < 250)) = set.covers i := by
  rw [NvmSet.mine, List.any_filter, NvmSet.covers]
  refine congrArg (fun f => set.objs.any f) (funext fun p => ?_)
  by_cases e : p.1 = K.IP_CAL_UNC i
  · have hin : (coreKeys i).contains p.1 = true := by rw [e]; simp [coreKeys]
    rw [hin, Bool.true_and]
  · rw [beq_eq_false_iff_ne.2 e, Bool.false_and, Bool.and_false]

/-- The state with one more core's tables loaded, from a set. -/
def State.tableTaken (s : State) (set : NvmSet) (i : Nat) : State :=
  State.p { s with host := { s.host with loaded := s.host.loaded ++ [i] } } (K.IP_TABLE_SEQ i) set.seq

/-- The entries of a core in a set; irreducible, lest comparing two states evaluate them. -/
@[irreducible] def NvmSet.entries (set : NvmSet) (i : Nat) : List Int :=
  (List.range 512).map (fun e => Sp.get (fun _ => 0) set.corr (i * 512 + e))

/-- Said for every length: with the number 512 in its place the comparison of terms would unroll the list. -/
theorem range_map_get (f : Nat → Int) {n e : Nat} (h : e < n) : ((List.range n).map f)[e]? = some (f e) := by
  rw [List.getElem?_map, List.getElem?_range h, Option.map_some]

theorem entries_get (set : NvmSet) (i : Nat) {e : Nat} (he : e < 512) :
    (set.entries i)[e]? = some (Sp.get (fun _ => 0) set.corr (i * 512 + e)) := by
  unfold NvmSet.entries
  exact range_map_get (fun e => Sp.get (fun _ => 0) set.corr (i * 512 + e)) he

/-- IP_STATE of a core whose tables have been loaded: READY, or FAULT as before (R128). -/
def State.loadedState (s : State) (i : Nat) : Nat := if s.g (K.IP_STATE i) = 2 then 2 else 0

theorem loadCore_eq (s : State) (set : NvmSet) (i : Nat) : s.loadCore set i =
    if (set.mine i).any (fun p => p.1 == K.IP_CAL_UNC i && decide (p.2 < 250)) then
      (((s.tableTaken set i).setEntries i (set.entries i)).pAll (set.mine i)).p (K.IP_STATE i) ((s.tableTaken set i).loadedState i)
    else s.tableTaken set i := by
  unfold NvmSet.entries
  rfl

theorem tableTaken_loadedState (s : State) (set : NvmSet) (i : Nat) : (s.tableTaken set i).loadedState i = s.loadedState i := by
  rw [State.loadedState, State.tableTaken, State.g_p_other _ _ (ipState_ne_tableSeq i)]
  rfl

theorem loadCore_uncovered (h : set.covers i = false) (s : State) : s.loadCore set i = s.tableTaken set i := by
  rw [loadCore_eq, mine_covers, h, if_neg Bool.false_ne_true]

theorem loadCore_covered (h : set.covers i = true) (s : State) : s.loadCore set i =
    (((s.tableTaken set i).setEntries i (set.entries i)).pAll (set.mine i)).p (K.IP_STATE i) (s.loadedState i) := by
  rw [loadCore_eq, mine_covers, h, if_pos rfl, tableTaken_loadedState]

/-- Writing entries changes the correction tables alone, and reads nothing else. -/
theorem tableTaken_setEntries (s : State) (set : NvmSet) (i : Nat) (l : List Int) :
    (s.tableTaken set i).setEntries i l = { s.tableTaken set i with corr := (s.setEntries i l).corr } := rfl

theorem tableTaken_writes (s : State) (set : NvmSet) (i : Nat) : Writes s (s.tableTaken set i) [(K.IP_TABLE_SEQ i, set.seq)] :=
  (Writes.refl s).p _ _

theorem loadCore_form (h : set.covers i = true) (s : State) : ∃ o, s.loadCore set i =
    { s with od := o, corr := (s.setEntries i (set.entries i)).corr, host := { s.host with loaded := s.host.loaded ++ [i] } } := by
  obtain ⟨o, hall⟩ := pAll_form (set.mine i) ((s.tableTaken set i).setEntries i (set.entries i))
  rw [loadCore_covered h, hall, tableTaken_setEntries]
  exact ⟨_, rfl⟩

theorem loadCore_entries (h : set.covers i = true) (s : State) {e : Nat} (he : e < 512) :
    Sp.get (fun _ => 0) (s.loadCore set i).corr (i * 512 + e) = Sp.get (fun _ => 0) set.corr (i * 512 + e) := by
  obtain ⟨o, hform⟩ := loadCore_form h s
  rw [hform]
  exact setEntries_get s i (entries_get set i he)

theorem loadCore_off (h : set.covers i = true) (s : State) : WritesBut s (s.loadCore set i) (fun j => (coreKeys i).contains j)
    [(K.IP_STATE i, s.loadedState i), (K.IP_TABLE_SEQ i, set.seq)] := fun j hj => by
  rw [loadCore_covered h, State.g_p, pAll_mine_off hj, after]
  exact if_congr Iff.rfl rfl (tableTaken_writes s set i j)

theorem loadCore_objects (h : set.covers i = true) (hn : (set.objs.map (·.1)).Nodup) {j : Nat} (hj : j ∈ coreKeys i) (s : State) :
    (s.loadCore set i).g j = ((set.objs.find? (fun p => p.1 == j)).map (·.2)).getD (s.g j) := by
  have hc : (coreKeys i).contains j = true := List.contains_iff_mem.2 hj
  obtain ⟨hstate, hseq⟩ := coreKeys_ne hc
  have hold : ((s.tableTaken set i).setEntries i (set.entries i)).g j = s.g j := State.g_p_other _ _ hseq
  rw [loadCore_covered h, State.g_p_other _ _ hstate, pAll_mine hn hc, hold]

/-- TABLE_LOAD_COMPLETE of a core whose tables LOAD has not yet taken from the set chosen. -/
theorem gives_tableLoad {P : State → Prop} (hm : s.mode = 1) (hset : s.host.bootSet = some (v, set)) (hi : i < 72)
    (hl : s.host.loaded.contains i = false) (h : P { s.noOut.loadCore set i with pending := s.pending }) :
    Gives (.tableLoadComplete i) s P := by
  refine gives_noOut (by omega) (f := fun s => match s.host.bootSet with
    | some (_, set) => if s.mode = 1 ∧ i < 72 ∧ !s.host.loaded.contains i then s.loadCore set i else s
    | none => s) rfl ?_
  have hset' : s.noOut.host.bootSet = some (v, set) := hset
  have hguard : s.noOut.mode = 1 ∧ i < 72 ∧ !s.noOut.host.loaded.contains i := ⟨hm, hi, by rw [Bool.not_eq_true']; exact hl⟩
  dsimp only
  rw [hset']
  dsimp only
  rwa [if_pos hguard]

end Sys2Proof.Machine
end

section
/-! SUPPORT. The steps of LOAD (R281, R457, R595, R596, R627): each clause of the statement from what its command leaves. -/

namespace Sys2Proof.Machine

variable {s : State} {i v : Nat} {set : NvmSet} {ds : List (Nat × Nat × Bool)}

/-! ## Images -/

theorem gives_imageRuns (hm : s.mode = 1) (hf : s.host.fwSlot = none) (hn : s.nextImage = some i) :
    Gives (.firmwareCheckComplete i true) s (fun t => t.g K.ID_FW_VERSION = s.imageVersion i ∧ t.g K.ER_BOOT = s.nextBoot ∧
      t.g K.ID_BOOT = s.nextBoot ∧ t.nvmBoot = s.nextBoot ∧ t.host.fwSlot = some i ∧
      bit (t.g (atRow K.FL_SLOTS i)) 63 = true ∧ t.nvm = s.nvm ∧ t.vmem = s.vmem ∧ t.slotBytes = s.slotBytes ∧ t.tick = s.tick ∧
      t.clock = s.clock ∧ t.mode = 1 ∧ EventsBut s t [94]) := by
  have hi := nextImage_lt hn
  obtain ⟨o, e, base, h, hfw, hform⟩ := imageRuns_form s.noOut i
  refine gives_firmwareCheck hm hf hn ?_
  rw [if_pos rfl]
  refine ⟨imageRuns_off (j := K.ID_FW_VERSION) (by decide) s.noOut i, imageRuns_off (j := K.ER_BOOT) (by decide) s.noOut i,
    imageRuns_off (j := K.ID_BOOT) (by decide) s.noOut i, ?boot, ?slot, ?row, ?nvm, ?vmem, ?slotBytes, ?tick, ?clock,
    (imageRuns_mode hi s.noOut).trans hm, fun x hx => imageRuns_ev (by simpa using hx) s.noOut i⟩
  case row => exact (congrArg (fun n => bit n 63) (imageRuns_row hi s.noOut)).trans (bit63_version s i)
  case slot => rw [hform]; exact hfw
  all_goals rw [hform]; rfl

/-- The first image is rejected: the other one is left. -/
theorem gives_firstRejected (hm : s.mode = 1) (hf : s.host.fwSlot = none) (hn : s.nextImage = some i) (ht : s.host.fwTried = []) :
    Gives (.firmwareCheckComplete i false) s (fun t => Writes s t [(atRow K.FL_SLOTS i, s.imageVersion i)] ∧
      t = { s.raiseVal 118 (Config.causeWord 118 i 0) with od := t.od, out := [], host := { s.host with fwTried := [i] } }) := by
  have hleft : (s.noOut.rejected i).nextImage.isNone = false :=
    nextImage_one (nextImage_lt hn) (by rw [rejected_fwTried]; exact congrArg (· ++ [i]) ht)
  have hw := rejected_writes (s := s.noOut) hf i
  obtain ⟨o, hform⟩ := rejected_form s.noOut i
  refine gives_firmwareCheck hm hf hn ?_
  rw [if_neg Bool.false_ne_true, imageRejected_eq, hleft, if_neg Bool.false_ne_true]
  refine ⟨hw, ?_⟩
  rw [hform, raiseVal_form, raiseVal_raised (s := s) (t := s.noOut) _ _ rfl, raiseVal_form s, State.tried]
  dsimp only [State.noOut]
  rw [ht]
  rfl

/-- The other image is rejected too: none is left, and M10 is asked for (R589). -/
theorem gives_lastRejected (hm : s.mode = 1) (hf : s.host.fwSlot = none) (hn : s.nextImage = some i) (ht : s.host.fwTried = [1 - i])
    (hp : s.modePend = none) :
    Gives (.firmwareCheckComplete i false) s (fun t =>
      Writes s t [(K.MODE_PENDING_FN, s.fn + 3), (K.MODE_PENDING, 10), (atRow K.FL_SLOTS i, s.imageVersion i)] ∧
      t = { s.raiseVal 118 (Config.causeWord 118 i 0) with
        od := t.od, out := [], host := { s.host with fwTried := [1 - i, i] },
        modePend := some { target := 10, due := s.tick + 3, cause := 5, rank := 0 } }) := by
  have hi := nextImage_lt hn
  have hnone : (s.noOut.rejected i).nextImage.isNone = true :=
    nextImage_both hi (by rw [rejected_fwTried]; exact congrArg (· ++ [i]) ht)
  have hw := rejected_writes (s := s.noOut) hf i
  have hfn : (s.noOut.rejected i).fn = s.fn := by
    refine (hw K.TS_FN).trans (if_neg fun e => ?_)
    have hrow := slotRow_index hi
    rw [← e] at hrow
    exact absurd hrow (by decide)
  obtain ⟨o, hform⟩ := rejected_form s.noOut i
  have hfree : (s.noOut.rejected i).modePend.all (fun x => 0 < x.rank) = true := by
    rw [hform, State.raiseVal_modePend]
    exact congrArg (fun p => Option.all (fun x : ModePend => decide (0 < x.rank)) p) hp
  refine gives_firmwareCheck hm hf hn ?_
  rw [if_neg Bool.false_ne_true, imageRejected_eq, hnone, if_pos rfl]
  refine ⟨fun j => ?_, ?_⟩
  · refine (askMode_writes hfree 10 5 j).trans ?_
    rw [hfn]
    exact after_congr (l := [(K.MODE_PENDING_FN, s.fn + 3), (K.MODE_PENDING, 10)]) (hw j)
  · rw [askMode_of_free hfree, hform, raiseVal_form, raiseVal_raised (s := s) (t := s.noOut) _ _ rfl, raiseVal_form s, State.tried]
    dsimp only [State.noOut]
    rw [ht]
    rfl

/-! ## Tables -/

theorem gives_coreCovered (hm : s.mode = 1) (hset : s.host.bootSet = some (v, set)) (hi : i < 72) (hl : s.host.loaded.contains i = false)
    (hc : set.covers i = true) (hn : (set.objs.map (·.1)).Nodup) :
    Gives (.tableLoadComplete i) s (fun t =>
      WritesBut s t (fun j => (coreKeys i).contains j) [(K.IP_STATE i, s.loadedState i), (K.IP_TABLE_SEQ i, set.seq)] ∧
      (∀ j ∈ coreKeys i, t.g j = ((set.objs.find? (fun p => p.1 == j)).map (·.2)).getD (s.g j)) ∧
      t = { s with od := t.od, out := [], corr := t.corr, host := { s.host with loaded := s.host.loaded ++ [i] } } ∧
      ∀ e ∈ List.range 512, Sp.get (fun _ => 0) t.corr (i * 512 + e) = Sp.get (fun _ => 0) set.corr (i * 512 + e)) := by
  obtain ⟨o, hform⟩ := loadCore_form hc s.noOut
  refine gives_tableLoad hm hset hi hl ⟨loadCore_off hc s.noOut, fun j hj => loadCore_objects hc hn hj s.noOut, ?_,
    fun e he => loadCore_entries hc s.noOut (List.mem_range.1 he)⟩
  rw [hform]
  rfl

theorem gives_coreUncovered (hm : s.mode = 1) (hset : s.host.bootSet = some (v, set)) (hi : i < 72) (hl : s.host.loaded.contains i = false)
    (hc : set.covers i = false) :
    Gives (.tableLoadComplete i) s (fun t => Writes s t [(K.IP_TABLE_SEQ i, set.seq)] ∧
      t = { s with od := t.od, out := [], host := { s.host with loaded := s.host.loaded ++ [i] } }) := by
  refine gives_tableLoad hm hset hi hl ?_
  rw [loadCore_uncovered hc]
  exact ⟨tableTaken_writes s.noOut set i, rfl⟩

/-! ## The sweep -/

/-- The sweep can end: it began 9,216 frames ago or earlier, and says what it found of every calibrated core. -/
def State.sweepReady (s : State) (ds : List (Nat × Nat × Bool)) : Prop :=
  s.host.swept = false ∧ (∃ v, s.host.sweepAt = some v ∧ v + 9216 ≤ s.tick) ∧
    ∀ c ∈ List.range 72, s.g (K.IP_STATE c) = 3 ∨ ds.any (fun d => d.1 == c) = true

theorem gives_verifySweep {P : State → Prop} (hm : s.mode = 1) (h : s.sweepReady ds)
    (hP : P { (s.noOut.sweptAll ds).loadEnds with pending := s.pending }) : Gives (.verifySweep ds) s P := by
  obtain ⟨hswept, ⟨v, hat, hv⟩, hall⟩ := h
  refine gives_noOut (by omega) (f := fun s => if s.mode = 1 ∧ !s.host.swept ∧ s.host.sweepAt.any (fun t => t + 9216 ≤ s.tick)
      ∧ (List.range 72).all (fun c => s.g (K.IP_STATE c) == 3 || ds.any (fun d => d.1 == c)) then (s.sweptAll ds).loadEnds else s) rfl ?_
  have hguard : s.noOut.mode = 1 ∧ !s.noOut.host.swept ∧ s.noOut.host.sweepAt.any (fun t => t + 9216 ≤ s.noOut.tick)
      ∧ (List.range 72).all (fun c => s.noOut.g (K.IP_STATE c) == 3 || ds.any (fun d => d.1 == c)) := by
    refine ⟨hm, by rw [Bool.not_eq_true']; exact hswept, ?_, List.all_eq_true.2 fun c hc => ?_⟩
    · have hat' : s.noOut.host.sweepAt = some v := hat
      rw [hat']
      exact decide_eq_true hv
    · rw [Bool.or_eq_true, beq_iff_eq]
      exact hall c hc
  dsimp only
  rwa [if_pos hguard]

theorem sweptAll_byp (h : s.g K.BYP_STATE ≠ 2) (ds : List (Nat × Nat × Bool)) : (s.noOut.sweptAll ds).g K.BYP_STATE ≠ 2 := by
  rw [sweptAll_off (sweepObj_off (by decide))]
  exact h

theorem sweptAll_ipState (s : State) (ds : List (Nat × Nat × Bool)) (c : Nat) :
    (s.noOut.sweptAll ds).g (K.IP_STATE c) = s.g (K.IP_STATE c) := sweptAll_off (sweepObj_ipState c) _ ds

/-- What is found of a compared core stands when LOAD has ended: only the cores not calibrated ask for calibration then. -/
theorem sweep_ends_core (hb : s.g K.BYP_STATE ≠ 2) (ds : List (Nat × Nat × Bool)) {c : Nat} (hc : s.g (K.IP_STATE c) ≠ 3) :
    (s.noOut.sweptAll ds).loadEnds.g (K.CORE_CAL_REASON c) = (s.noOut.sweptAll ds).g (K.CORE_CAL_REASON c) ∧
    (s.noOut.sweptAll ds).loadEnds.g (K.CORE_VERIFY_DEV c) = (s.noOut.sweptAll ds).g (K.CORE_VERIFY_DEV c) :=
  ⟨loadEnds_off (sweptAll_byp hb ds) fun x _ hx => reason_inj fun e => hc (by rw [e, ← sweptAll_ipState s ds]; exact hx),
    loadEnds_off (sweptAll_byp hb ds) fun x _ _ => dev_ne_reason c x⟩

theorem sweep_ends_uncal (hb : s.g K.BYP_STATE ≠ 2) (ds : List (Nat × Nat × Bool)) {c : Nat} (h72 : c < 72) (hc : s.g (K.IP_STATE c) = 3) :
    (s.noOut.sweptAll ds).loadEnds.g (K.CORE_CAL_REASON c) = s.reasonWith c 1 := by
  rw [loadEnds_uncal (sweptAll_byp hb ds) h72 ((sweptAll_ipState s ds c).trans hc), State.reasonWith, sweptAll_uncal (s := s.noOut) hc]
  rfl

/-- Of one core compared, with every pending age running already. -/
theorem gives_sweepOne (hm : s.mode = 1) (hr : s.sweepReady [(i, 7, false)]) (hb : s.g K.BYP_STATE ≠ 2) (hc : s.compares i)
    (hu : ∀ c ∈ List.range 72, c ≠ i → s.g (K.IP_STATE c) = 3) (hp : s.allPending) :
    Gives (.verifySweep [(i, 7, false)]) s (fun t =>
      WritesBut s t (fun j => (List.range 72).any (fun c => c != i && j == K.CORE_CAL_REASON c))
        [(K.CORE_CAL_REASON i, s.sweptReason (i, 7, false)), (K.CORE_VERIFY_DEV i, 7)] ∧
      (∀ c ∈ List.range 72, c ≠ i → t.g (K.CORE_CAL_REASON c) = s.reasonWith c 1) ∧
      t = { (if s.g K.CAL_VERIFY_LIMIT < 7 then s.raiseDet 87 i (2 ^ bankOf i) else s) with
        od := t.od, out := [], host := { s.host with swept := true } }) := by
  have hw : Writes s (s.noOut.sweptAll [(i, 7, false)]) [(K.CORE_CAL_REASON i, s.sweptReason (i, 7, false)), (K.CORE_VERIFY_DEV i, 7)] :=
    swept1_writes (s := s.noOut) (d := (i, 7, false)) hc rfl
  have hone : OdOnly (if s.g K.CAL_VERIFY_LIMIT < 7 then s.noOut.raiseDet 87 i (2 ^ bankOf i) else s.noOut) (s.noOut.sweptAll [(i, 7, false)]) :=
    swept1_pending (s := s.noOut) (d := (i, 7, false)) hc rfl (hp i (List.mem_range.2 hc.1))
  rw [raiseDet_noOut, ← noOut_ite] at hone
  obtain ⟨o, ho⟩ := hone
  have hsince : (s.noOut.sweptAll [(i, 7, false)]).allPending := by
    rw [ho]
    split
    · rw [raiseDet_form]; exact hp
    · exact hp
  obtain ⟨o', ho'⟩ := loadEnds_pending (sweptAll_byp hb [(i, 7, false)]) hsince
  have hkept : (if s.g K.CAL_VERIFY_LIMIT < 7 then s.raiseDet 87 i (2 ^ bankOf i) else s).host = s.host ∧
      (if s.g K.CAL_VERIFY_LIMIT < 7 then s.raiseDet 87 i (2 ^ bankOf i) else s).pending = s.pending := by
    split
    · exact ⟨State.raiseDet_host _ _ _ _, State.raiseDet_pending _ _ _ _⟩
    · exact ⟨rfl, rfl⟩
  refine gives_verifySweep hm hr ⟨fun j hj => ?_, fun c hc hci => ?_, ?_⟩
  · refine (loadEnds_off (sweptAll_byp hb _) fun c h72 h3 e => ?_).trans (hw j)
    have hci : c ≠ i := by rintro rfl; exact hc.2 ((sweptAll_ipState s _ c).symm.trans h3)
    exact absurd hj (by simpa using ⟨c, h72, hci, e⟩)
  · exact sweep_ends_uncal hb _ (List.mem_range.1 hc) (hu c hc hci)
  · rw [ho', ho]
    generalize (if s.g K.CAL_VERIFY_LIMIT < 7 then s.raiseDet 87 i (2 ^ bankOf i) else s) = r at hkept ⊢
    obtain ⟨hhost, hpending⟩ := hkept
    rw [← hhost, ← hpending]
    rfl

theorem gives_sweep (hm : s.mode = 1) (hr : s.sweepReady ds) (hb : s.g K.BYP_STATE ≠ 2) (hn : (ds.map (·.1)).Nodup) :
    Gives (.verifySweep ds) s (fun t => (∀ d ∈ ds, d.1 < 72 → s.g (K.IP_STATE d.1) ≠ 3 → d.2.2 = false →
      t.g (K.CORE_VERIFY_DEV d.1) = d.2.1 ∧ t.g (K.CORE_CAL_REASON d.1) = s.sweptReason d) ∧
      (∀ d ∈ ds, d.1 < 72 → s.g (K.IP_STATE d.1) ≠ 3 → d.2.2 = true → bit (t.g (K.CORE_CAL_REASON d.1)) 3 = true) ∧
      (∀ c ∈ List.range 72, s.g (K.IP_STATE c) = 3 → t.g (K.CORE_CAL_REASON c) = s.reasonWith c 1) ∧
      WritesBut s t sweepObj [] ∧ EventsBut s t [83, 87] ∧
      t = { s with
        od := t.od, out := [], free := t.free, raised := t.raised, calSince := t.calSince, host := { s.host with swept := true } }) := by
  have hbyp := sweptAll_byp hb ds
  refine gives_verifySweep hm hr ⟨fun d hd h72 h3 hf => ?_, fun d hd h72 h3 hf => ?_, fun c hc => ?_, fun j hj => ?_, fun x hx => ?_, ?_⟩
  · obtain ⟨hreason, hdev⟩ := sweep_ends_core hb ds h3
    obtain ⟨hdev', hreason'⟩ := sweptAll_measured (s := s.noOut) hn hd ⟨h72, h3⟩ hf
    exact ⟨hdev.trans hdev', hreason.trans hreason'⟩
  · exact (congrArg (fun n => bit n 3) (sweep_ends_core hb ds h3).1).trans (sweptAll_failed (s := s.noOut) hn hd ⟨h72, h3⟩ hf)
  · exact sweep_ends_uncal hb ds (List.mem_range.1 hc)
  · exact (loadEnds_off hbyp fun c h72 _ => ((sweepObj_false.1 hj).2.2 c h72).1).trans (sweptAll_off hj s.noOut ds)
  · obtain ⟨h83, h87⟩ : x ≠ 83 ∧ x ≠ 87 := by simpa using hx
    exact (loadEnds_ev hbyp x).trans (sweptAll_ev h83 h87 s.noOut ds)
  · obtain ⟨o, n, e, cs, hform⟩ := SweepOnly.sweptAll s.noOut ds
    obtain ⟨o', cs', hends⟩ := loadEnds_form hbyp
    rw [hends, hform]
    rfl

/-- The calibrated cores (R596). -/
def State.calibrated (s : State) : List Nat := instances 72 (fun c => s.g (K.IP_STATE c) != 3)

theorem mem_calibrated {c : Nat} : c ∈ s.calibrated ↔ c < 72 ∧ s.g (K.IP_STATE c) ≠ 3 := by
  rw [State.calibrated, mem_instances, bne_iff_ne]

/-- The state when every calibrated core has to be verified. -/
def State.unverified (s : State) : State := s.each s.calibrated State.deviates

theorem gives_skipped {P : State → Prop} (hm : s.mode = 1) (hswept : s.host.swept = false) (hat : s.host.sweepAt = none)
    (ht : s.tablesLoaded = true) (hlate : sweepLatest < s.tick) (hP : P { s.noOut.unverified.loadEnds with pending := s.pending }) :
    Gives .verifySweepSkipped s P := by
  refine gives_noOut (by omega) (f := fun s => if s.mode = 1 ∧ !s.host.swept ∧ s.host.sweepAt.isNone ∧ s.tablesLoaded ∧
    sweepLatest < s.tick then s.unverified.loadEnds else s) rfl ?_
  have hguard : s.noOut.mode = 1 ∧ !s.noOut.host.swept ∧ s.noOut.host.sweepAt.isNone ∧ s.noOut.tablesLoaded ∧
      sweepLatest < s.noOut.tick :=
    ⟨hm, by rw [Bool.not_eq_true']; exact hswept, Option.isNone_iff_eq_none.2 hat, ht, hlate⟩
  dsimp only
  rwa [if_pos hguard]

theorem unverified_off {j : Nat} (h : ∀ c < 72, s.g (K.IP_STATE c) ≠ 3 → j ≠ K.CORE_CAL_REASON c) : s.unverified.g j = s.g j :=
  deviates_asks.each_off (fun c hc => h c (mem_calibrated.1 hc).1 (mem_calibrated.1 hc).2) s

theorem unverified_off_sweep {j : Nat} (h : sweepObj j = false) : s.unverified.g j = s.g j :=
  unverified_off fun c h72 _ => ((sweepObj_false.1 h).2.2 c h72).1

theorem unverified_reason {c : Nat} (h72 : c < 72) (h : s.g (K.IP_STATE c) ≠ 3) : s.unverified.g (K.CORE_CAL_REASON c) = s.reasonWith c 3 :=
  deviates_asks.each_on (instances_nodup _ _) (mem_calibrated.2 ⟨h72, h⟩) s

theorem deviates_evMask (s : State) (c : Nat) : (s.deviates c).evMask 87 = (s.wantCal c 3).evMask 87 ||| 2 ^ bankOf c :=
  raiseDet_evMask (s.wantCal c 3) 87 c (2 ^ bankOf c)

theorem wantCal_evMask (s : State) (c i x : Nat) : (s.wantCal c i).evMask x = s.evMask x := by
  rw [State.evMask, wantCal_ev, State.evMask]

/-- EV087 names the bank of every core that has to be verified. -/
theorem unverified_bank {c : Nat} (h72 : c < 72) (h : s.g (K.IP_STATE c) ≠ 3) : bit (s.unverified.evMask 87) (bankOf c) = true := by
  refine each_all (I := fun _ => True) (Q := fun c u => bit (u.evMask 87) (bankOf c) = true) (fun _ _ _ => trivial) (fun u x _ => ?_)
    (fun u x y _ hy => ?_) s.calibrated s trivial c (.inl (mem_calibrated.2 ⟨h72, h⟩))
  · rw [deviates_evMask]; exact bit_or_two_pow _ _
  · rw [deviates_evMask, wantCal_evMask]; exact bit_or_left _ hy

theorem unverified_form (s : State) : ∃ o e cs, s.unverified = { s with od := o, raised := e, calSince := cs } := by
  obtain ⟨o, n, e, cs, h⟩ : SweepOnly s s.unverified :=
    foldl_rel SweepOnly SweepOnly.refl (fun _ _ _ => SweepOnly.trans) SweepOnly.deviates s.calibrated s
  have hfree : s.unverified.free = s.free := foldl_same State.free deviates_free s.calibrated s
  have hn : n = s.free := by rw [h] at hfree; exact hfree
  subst hn
  exact ⟨o, e, cs, h⟩

/-- No sweep could begin: every calibrated core has to be verified, the others ask for calibration. -/
theorem gives_sweepSkipped (hm : s.mode = 1) (hswept : s.host.swept = false) (hat : s.host.sweepAt = none) (ht : s.tablesLoaded = true)
    (hlate : sweepLatest < s.tick) (hb : s.g K.BYP_STATE ≠ 2) :
    Gives .verifySweepSkipped s (fun t =>
      (∀ c ∈ List.range 72, t.g (K.CORE_CAL_REASON c) = s.reasonWith c (if s.g (K.IP_STATE c) = 3 then 1 else 3)) ∧
      WritesBut s t (fun j => (List.range 72).any (fun c => j == K.CORE_CAL_REASON c)) [] ∧
      (∀ c ∈ List.range 72, s.g (K.IP_STATE c) ≠ 3 → bit (t.evMask 87) (bankOf c) = true) ∧ EventsBut s t [87] ∧
      t = { s with od := t.od, out := [], raised := t.raised, calSince := t.calSince, host := { s.host with swept := true } }) := by
  have hbyp : s.noOut.unverified.g K.BYP_STATE ≠ 2 := by
    rw [unverified_off_sweep (sweepObj_off (by decide))]
    exact hb
  have hip : ∀ c, s.noOut.unverified.g (K.IP_STATE c) = s.g (K.IP_STATE c) := fun c => unverified_off_sweep (s := s.noOut) (sweepObj_ipState c)
  have hev : ∀ x, s.noOut.unverified.loadEnds.ev x = s.noOut.unverified.ev x := loadEnds_ev hbyp
  refine gives_skipped hm hswept hat ht hlate ⟨fun c hc => ?_, fun j hj => ?_, fun c hc h3 => ?_, fun x hx => ?_, ?_⟩
  · have h72 := List.mem_range.1 hc
    split
    · next h3 =>
      have hsame : s.noOut.unverified.g (K.CORE_CAL_REASON c) = s.g (K.CORE_CAL_REASON c) :=
        unverified_off (s := s.noOut) fun x _ hx => reason_inj fun e => hx (e ▸ h3)
      refine (loadEnds_uncal hbyp h72 ((hip c).trans h3)).trans ?_
      rw [State.reasonWith, hsame, State.reasonWith]
    · next h3 =>
      refine (loadEnds_off hbyp fun x _ hx => reason_inj fun e => h3 ?_).trans (unverified_reason (s := s.noOut) h72 h3)
      rw [e, ← hip]; exact hx
  · have hne : ∀ c < 72, j ≠ K.CORE_CAL_REASON c := by simpa using hj
    exact (loadEnds_off hbyp fun c h72 _ => hne c h72).trans (unverified_off (s := s.noOut) fun c h72 _ => hne c h72)
  · have hmask : s.noOut.unverified.loadEnds.evMask 87 = s.noOut.unverified.evMask 87 := by rw [State.evMask, hev, State.evMask]
    exact (congrArg (fun m => bit m (bankOf c)) hmask).trans (unverified_bank (s := s.noOut) (List.mem_range.1 hc) h3)
  · have h87 : x ≠ 87 := by simpa using hx
    exact (hev x).trans (foldl_same (fun u => u.ev x) (deviates_ev h87) s.noOut.calibrated s.noOut)
  · obtain ⟨o, e, cs, hform⟩ := unverified_form s.noOut
    obtain ⟨o', cs', hends⟩ := loadEnds_form hbyp
    rw [hends, hform]
    rfl

/-! ## The statement -/

/-- Settles O36: an image by the images left, a core by what the set covers, and the sweep by what it finds of each core and what the end
of LOAD then asks for. -/
theorem loadSteps : Obligations.LoadSteps := by
  unfold Obligations.LoadSteps
  intro s i v set ds hm
  refine ⟨?runs, ?first, ?last, ?covered, ?uncovered, ?sweepOne, ?sweep, ?skipped⟩
  case runs => exact fun hf hn => gives_imageRuns hm hf hn
  case first => exact fun hf hn ht => gives_firstRejected hm hf hn ht
  case last => exact fun hf hn ht hp => gives_lastRejected hm hf hn ht hp
  case covered => exact fun hset hi hl hc hn => gives_coreCovered hm hset hi hl hc hn
  case uncovered => exact fun hset hi hl hc => gives_coreUncovered hm hset hi hl hc
  case sweepOne =>
    intro hswept hat hv hb hi h3 hu hp
    have hready : s.sweepReady [(i, 7, false)] := by
      refine ⟨hswept, ⟨v, hat, hv⟩, fun c hc => ?_⟩
      by_cases e : c = i
      · exact .inr (by simp [e])
      · exact .inl (hu c hc e)
    exact gives_sweepOne hm hready hb ⟨hi, h3⟩ hu hp
  case sweep => exact fun hswept hat hv hb hall hn => gives_sweep hm ⟨hswept, ⟨v, hat, hv⟩, hall⟩ hb hn
  case skipped => exact fun hswept hat ht hlate hb => gives_sweepSkipped hm hswept hat ht hlate hb

end Sys2Proof.Machine
end
